-- ==== Sys2Proof/Word.lean ====
section
/-! DEFINITION. The octet, and the plainest arithmetic on bit fields of natural numbers (00_scope.md, Notation: bit fields
are written [msb:lsb], bit 0 is the least significant). -/

namespace Sys2Proof

/-- One octet of a frame, a message or a memory. -/
abbrev Octet := BitVec 8

/-- The field [hi:lo] of a value. -/
def field (v hi lo : Nat) : Nat := (v / 2 ^ lo) % 2 ^ (hi + 1 - lo)

/-- One bit of a value as a truth value. -/
def bitOf (v n : Nat) : Bool := (v / 2 ^ n) % 2 == 1

/-- A truth value as a bit. -/
def b2n (b : Bool) : Nat := if b then 1 else 0

/-- A value with bit n set or cleared. -/
def setBitTo (v n : Nat) (b : Bool) : Nat :=
  if bitOf v n then (if b then v else v - 2 ^ n) else (if b then v + 2 ^ n else v)

/-- The two's complement reading of the low w bits. -/
def toSigned (w v : Nat) : Int :=
  if 2 * (v % 2 ^ w) < 2 ^ w then (v % 2 ^ w : Int) else (v % 2 ^ w : Int) - 2 ^ w

/-- The low w bits of a whole number in two's complement. -/
def ofSigned (w : Nat) (i : Int) : Nat := (i % (2 ^ w : Int)).toNat

/-- A whole number held between two bounds. -/
def clampInt (lo hi i : Int) : Int := if i < lo then lo else if hi < i then hi else i

/-- A natural number held at most at a bound. -/
def clampNat (hi n : Nat) : Nat := if hi < n then hi else n

/-- The octets of a value, lowest first. -/
def leOctets (n v : Nat) : List Octet := (List.range n).map fun i => BitVec.ofNat 8 (v / 256 ^ i)

/-- The octets of a value, highest first. -/
def beOctets (n v : Nat) : List Octet := (leOctets n v).reverse

/-- The value of octets, lowest first. -/
def ofLe : List Octet → Nat
  | [] => 0
  | b :: bs => b.toNat + 256 * ofLe bs

/-- The value of octets, highest first. -/
def ofBe (bs : List Octet) : Nat := ofLe bs.reverse

/-- A part of a list: n elements from position p. -/
def slice {α : Type} (l : List α) (p n : Nat) : List α := (l.drop p).take n

/-- The element at a position, or a given one beyond the end. -/
def nth {α : Type} (l : List α) (i : Nat) (d : α) : α := l.getD i d

/-- A list with the element at a position replaced (unchanged beyond the end). -/
def setNth {α : Type} (l : List α) (i : Nat) (a : α) : List α := l.set i a

/-- A list with the element at a position changed by a function. -/
def modNth {α : Type} (l : List α) (i : Nat) (f : α → α) : List α := l.modify i f

/-- The largest of a list of numbers, 0 for none. -/
def maxOf (l : List Nat) : Nat := l.foldl (fun a b => if a < b then b else a) 0

/-- The least of a list of numbers, or a given number for none. -/
def minOf (d : Nat) : List Nat → Nat
  | [] => d
  | a :: as => as.foldl (fun x y => if y < x then y else x) a

end Sys2Proof
end

