-- ==== Sys2Proof/Wire.lean ====
section
/-! DEFINITION. What arrives at the block with a command and what it sends: frames, packets, messages and records, with the
fields the chapters of spec/ give them. -/

namespace Sys2Proof

/-- The low and high bits of R75: how a frame left the packet buffer. -/
inductive Ecc where
  | clean
  | single
  | double (cell : Nat)
  deriving DecidableEq, Repr

/-- An Ethernet frame on a port: the octets from the destination address to the last before the FCS, the FCS received, and
whether a PCS error block stood in it (R46, R68). -/
structure Frame where
  octets : List Octet
  fcs : Nat
  codeError : Bool := false
  deriving DecidableEq, Repr

/-- A PTP Sync with what a Follow_Up added: the fields the servo uses (R89, R94). Times of origin are in ns, corrections in
2^-16 ns, the receive timestamp in 2^-32 ns of venue time as the MAC or the interrupt took it. `linkSum` is the sum of link
delays reported along the path in 2^-16 ns, used under profile 2. -/
structure PtpSync where
  port : Nat
  domain : Nat
  clockId : Nat
  originNs : Int
  correction : Int
  rxStamp : Nat
  linkSum : Int
  deriving DecidableEq, Repr

/-- A PTP Announce: the data set that R84 compares. -/
structure PtpAnnounce where
  port : Nat
  domain : Nat
  gmId : Nat
  priority1 : Nat
  clockClass : Nat
  accuracy : Nat
  variance : Nat
  priority2 : Nat
  stepsRemoved : Nat
  utcOffset : Int
  deriving DecidableEq, Repr

/-- A Delay_Resp with the times of its exchange (end to end), or a Pdelay response (peer to peer). Stamps t1 to t4 are in
2^-32 ns, those of the unit itself as its MAC or its interrupt took them; corrections in 2^-16 ns. -/
structure PtpDelay where
  port : Nat
  domain : Nat
  peer : Bool
  t1 : Int
  t2 : Int
  t3 : Int
  t4 : Int
  correction : Int
  rateRatioPpb : Int
  deriving DecidableEq, Repr

/-- A rectangle in pixels. -/
structure Rect where
  x : Nat
  y : Nat
  w : Nat
  h : Nat
  deriving DecidableEq, Repr

/-- A WSF packet as it reached the unit (R122, R123): the 48 header octets and the payload, with the stream table entry that
accepted it (R56). -/
structure WsfPacket where
  entry : Nat
  header : List Octet
  payload : List Octet
  deriving DecidableEq, Repr

/-- A sample row segment of an ST 2110-20 packet: its line, the offset of its first pixel, the field bit, and the octets of
its pgroups (R143). -/
structure SampleRow where
  line : Nat
  offset : Nat
  fieldBit : Bool
  octets : List Octet
  deriving DecidableEq, Repr

/-- An ST 2110-20 packet: the stream table entry that accepted it, the 32-bit extended sequence number, the RTP timestamp
and the sample rows (R143, R144). -/
structure VideoPacket where
  entry : Nat
  seq : Nat
  timestamp : Nat
  rows : List SampleRow
  deriving DecidableEq, Repr

/-- A safety message (R202): the 56 header octets and the payload. -/
structure SafetyMessage where
  header : List Octet
  payload : List Octet
  deriving DecidableEq, Repr

/-- A cached calibration page as it was read, where it was not as written (R236): the two copies as read, and the page as it was
fetched again from the module if that is needed (none where that fails). -/
structure CalPageRead where
  link : Nat
  module : Nat
  page : Nat
  copyA : List Octet
  copyB : List Octet
  refetch : Option (List Octet)
  deriving DecidableEq, Repr

/-- What reads met while an operation ran: pages of a buffer whose check failed, copy 1 and copy 2 of Finial pages that
failed, and calibration pages not read as written (R142, R210, R236, R386). Pages are numbered as the events number
them. -/
structure ReadFaults where
  bufferPages : List Nat := []
  finialCopy1 : List Nat := []
  finialCopy2 : List Nat := []
  calibration : List CalPageRead := []
  deriving DecidableEq, Repr

/-- Where a dictionary message comes from: a transport of R476 (0 network, 1 RDM, 2 SPI), the source it is bound to (IPv4
address and UDP port; controller UID and DMX port; 0 and 0 for SPI) and the network or DMX port it came in on (R474). -/
structure IdpSource where
  transport : Nat
  address : Nat
  sourcePort : Nat
  unitPort : Nat
  deriving DecidableEq, Repr

/-- An IDP request (R470): SESSION, SEQ, whether TAGGED with its TAG, and whether its CHECK agrees. -/
structure IdpHead where
  source : IdpSource
  session : Nat
  seq : Nat
  tag : Option (List Octet)
  checkOk : Bool
  deriving DecidableEq, Repr

/-- An item of a WRITE (R471): index, sub, type code and the octets of the value. -/
structure WriteItem where
  index : Nat
  sub : Nat
  type : Nat
  value : List Octet
  deriving DecidableEq, Repr

/-- A record of a profile image (R484). -/
structure ProfileRecord where
  index : Nat
  sub : Nat
  type : Nat
  value : List Octet
  deriving DecidableEq, Repr

/-- A profile slot image (R484): header fields, records in ascending order, and the CHECK that stands behind them. -/
structure ProfileImage where
  profile : Nat
  role : Nat
  level : Nat
  generation : Nat
  saved : Nat
  source : Nat
  records : List ProfileRecord
  check : Nat
  deriving DecidableEq, Repr

/-- An E1.31 packet (R415): the number of the universe it names, whether it is a data packet with well-formed layers and no failing UDP checksum, its
start code, options, CID, sequence number, priority and slots. -/
structure SacnPacket where
  number : Nat
  wellFormed : Bool
  preview : Bool
  terminated : Bool
  startCode : Nat
  cid : Nat
  seq : Nat
  priority : Nat
  slots : List Nat
  deriving DecidableEq, Repr

/-- An RDM packet as it came in (R421): whether its checksum agrees, destination and source UID, transaction number, the octet that holds
port ID or response type, command class, PID and parameter data. -/
structure RdmPacket where
  checksumOk : Bool
  dest : Nat
  source : Nat
  transaction : Nat
  kind : Nat
  cls : Nat
  pid : Nat
  data : List Octet
  deriving DecidableEq, Repr

/-- What a chain message says of its sender (R494): whether its CHECK agrees, the port it came in on (true for NETB), the sender's MAC-48, chain
address and EUI-64, and the image identity it names. -/
structure ChainHead where
  checkOk : Bool
  netb : Bool
  mac : Nat
  address : Nat
  sender : Nat
  imageId : Nat
  deriving DecidableEq, Repr

/-- A mirror message as it came in (R445): the claim, MSEQ and SENT of its header, whether its check agrees, and its payload. -/
structure MirMessage where
  checkOk : Bool
  claim : Nat
  mseq : Nat
  sent : Nat
  payload : List Octet
  deriving DecidableEq, Repr

end Sys2Proof
end

