-- ==== Sys2Proof/Syntax.lean ====
section
/-! DEFINITION. The commands of the block, one constructor for each row of spec/opcode_table.json, in its order. The first
operand of every command is the number of 781.25 MHz clocks that have passed since the command before it (0: the same clock);
log entry 1. An operand named who is the session that writes: an IDP session, 0 for the signal map, 0xFFFF for firmware
(R469). -/

namespace Sys2Proof

/-- The commands of the block. -/
inductive Instr where
  /-- RX_FRAME (R40): A frame received on NETA or NETB is classified by destination and delivered to the unit, forwarded to the other chain port, or both. -/
  | rxFrame (dt : Nat) (port : Nat) (f : Frame) (ecc : Ecc)
  /-- NETM_RX_FRAME (R42): A frame received on NETM is delivered if addressed to NETM, broadcast or a PTP group, and otherwise discarded. -/
  | netmRxFrame (dt : Nat) (f : Frame) (ecc : Ecc)
  /-- EGRESS_TRANSMIT (R62): A queued frame of the highest eligible open class starts transmission on a chain port. -/
  | egressTransmit (dt : Nat) (port : Nat)
  /-- GATE_ENTRY_EXPIRY (R66): The interval of a gate control list entry ends and the next entry's gates take effect. -/
  | gateEntryExpiry (dt : Nat) (port : Nat)
  /-- GCL_CHANGE_REQUEST (R65): A write of 1 to NET_GCL_CHANGE freezes the administrative list and fixes the change time, or is refused. -/
  | gclChangeRequest (dt : Nat) (who port : Nat)
  /-- GCL_CHANGE_CANCEL (R65): A write of 2 to NET_GCL_CHANGE withdraws a pending change or returns already complete. -/
  | gclChangeCancel (dt : Nat) (who port : Nat)
  /-- GCL_SWAP (R65): At the change time the operational gate list takes the administrative values and restarts at entry 1. -/
  | gclSwap (dt : Nat) (port : Nat)
  /-- PORT_RESTART (R600): A write that changes NET_SPEED or NET_FEC takes the chain port down and relocks its SerDes PLL. -/
  | portRestart (dt : Nat) (who port : Nat) (fec : Bool) (value : Nat)
  /-- LINK_UP (R72): A port comes up after block lock and FEC lock have held for 10 ms without fault. -/
  | linkUp (dt : Nat) (port : Nat)
  /-- LINK_DOWN (R72): A port goes down when lock has been lost or a fault signalled for more than 100 µs. -/
  | linkDown (dt : Nat) (port : Nat) (lockLost : Bool)
  /-- MODULE_DETECT (R570): An SFP module inserted while the port runs is enabled after 10 ms of stable MODDET low. -/
  | moduleDetect (dt : Nat) (port : Nat)
  /-- FEC_WINDOW_END (R73): At the end of a 1 s window the uncorrectable FEC rate sets or clears the port's fault state. -/
  | fecWindowEnd (dt : Nat) (port corrected uncorrected codewords : Nat)
  /-- STREAM_TABLE_CHANGE (R58): A change to the stream table takes effect between frames and rebuilds the group filter. -/
  | streamTableChange (dt : Nat) (who entry sub value : Nat)
  /-- IGMP_QUERY (R59): An IGMP query received is answered with reports for every accepted group. -/
  | igmpQuery (dt : Nat) (port : Nat)
  /-- SYNC_RECEIVE (R94): A Sync from the selected grandmaster yields an offset sample that drives acquisition, rate correction or holdover return. -/
  | syncReceive (dt : Nat) (m : PtpSync)
  /-- ANNOUNCE_RECEIVE (R84): An Announce message enters the dataset comparison that selects the grandmaster and slave port. -/
  | announceReceive (dt : Nat) (m : PtpAnnounce)
  /-- DELAY_RESP_RECEIVE (R94): A Delay_Resp or Pdelay response yields a path delay measurement averaged into the mean path delay. -/
  | delayRespReceive (dt : Nat) (m : PtpDelay)
  /-- PDELAY_REQ_RECEIVE (R83): Under profile 2 a Pdelay_Req received on a chain port is answered. -/
  | pdelayReqReceive (dt : Nat) (port seq : Nat)
  /-- FIRST_STEP (R93): At the chosen step tick after 16 samples the unit sets F, steps venue time and enters LOCKING. -/
  | firstStep (dt : Nat)
  /-- SYNC_TIMEOUT (R97): Three sync intervals without Sync restart acquisition or enter holdover. -/
  | syncTimeout (dt : Nat)
  /-- ANNOUNCE_TIMEOUT (R97): The Announce receipt timeout expires with no other grandmaster qualified, entering holdover or FREE. -/
  | announceTimeout (dt : Nat)
  /-- HOLDOVER_LIMIT (R97): Holdover lasting TCK_HOLDOVER_LIMIT sets TCK_FLAGS[2] and posts event 0x3005. -/
  | holdoverLimit (dt : Nat)
  /-- REACQUIRE_SCHEDULE (R98): A write of T_r to TCK_REACQUIRE_AT schedules a re-acquire step or is refused. -/
  | reacquireSchedule (dt : Nat) (who time : Nat)
  /-- REACQUIRE_CANCEL (R99): A write of 0 to TCK_REACQUIRE_AT cancels a pending re-acquire or returns already complete. -/
  | reacquireCancel (dt : Nat) (who : Nat)
  /-- REACQUIRE_STEP (R98): At T_r the unit fits recent samples, steps venue time, clears JUMP_REFUSED and enters LOCKING, or reports 0x3007. -/
  | reacquireStep (dt : Nat)
  /-- PTP_CLIENT_RESTART (R601): A changing write of a PTP configuration entry drops the grandmaster and restarts the PTP client. -/
  | ptpClientRestart (dt : Nat) (who index value : Nat)
  /-- TURRET_MISMATCH (R103): One turret differing from the other two is outvoted, reloaded and counted. -/
  | turretMismatch (dt : Nat) (turret time f : Nat)
  /-- VOTE_FAILURE (R105): A failed turret vote reloads the turrets from the nearest plausible value and clears TIME_VALID until reset. -/
  | voteFailure (dt : Nat) (a b c : Nat)
  /-- COMPARATOR_FIRE (R110): A host comparator reaches its instance and performs its BELL pulse, Drum event or capture action. -/
  | comparatorFire (dt : Nat) (n : Nat)
  /-- CMP_COMMIT (R111): A write of 1 to CMP_COMMIT applies the staged comparator settings or is refused. -/
  | cmpCommit (dt : Nat) (who n : Nat)
  /-- BELL_PULSE_END (R113): A BELL output pulse ends after CMP_WIDTH. -/
  | bellPulseEnd (dt : Nat) (n : Nat)
  /-- BELL_EDGE (R116): A deglitched edge on a BELL pin is stamped by capture channels that name it. -/
  | bellEdge (dt : Nat) (pin : Nat) (falling : Bool) (heldNs : Nat)
  /-- CAP_POP (R115): A read of CAP_POP returns and removes the oldest capture record. -/
  | capPop (dt : Nat) (who channel : Nat)
  /-- WSF_PACKET (R126): A WSF packet is checked, placed into its frame's assembly or discarded and counted. -/
  | wsfPacket (dt : Nat) (p : WsfPacket)
  /-- CONTROL_FRAME_HANDOVER (R127): At T an accepted control frame's values are handed to the signal map. -/
  | controlFrameHandover (dt : Nat)
  /-- CONTROL_FRAME_ABANDON (R127): An incomplete control frame is abandoned and counted INCOMPLETE at T + P. -/
  | controlFrameAbandon (dt : Nat)
  /-- FENCE_RELEASE (R197): A fence release message makes its fenced frame eligible to flip or is kept in the fence table. -/
  | fenceRelease (dt : Nat) (p : WsfPacket)
  /-- FENCE_ABANDON (R200): A fence abandon discards the unresolved frame or supersedes the epochs that read its buffer. -/
  | fenceAbandon (dt : Nat) (p : WsfPacket)
  /-- FENCE_ENTRY_EXPIRY (R197): A fence table entry unmatched within 3P is dropped and counted FENCE_UNMATCHED. -/
  | fenceEntryExpiry (dt : Nat)
  /-- LAYER_TIMEOUT (R134): At D(E) a layer not ready keeps its previous buffer and incomplete frames are marked late. -/
  | layerTimeout (dt : Nat) (layer : Nat)
  /-- INCOMPLETE_ABANDON (R135): A marked frame still incomplete at T_p(E) + P is abandoned and counted INCOMPLETE. -/
  | incompleteAbandon (dt : Nat)
  /-- ST2110_PACKET (R144): An ST 2110-20 packet is sequenced, assigned to its frame by RTP timestamp and assembled or discarded. -/
  | st2110Packet (dt : Nat) (p : VideoPacket)
  /-- LAYER_ENABLE (R119): A write of ING_LAYER_ENABLE enables a layer from the next epoch or is refused with event 0x4020. -/
  | layerEnable (dt : Nat) (who layer value : Nat)
  /-- FRAME_CREDIT_WAIT_END (R139): A frame waiting in the packet buffer for a free layer buffer is written once a buffer frees. -/
  | frameCreditWaitEnd (dt : Nat) (layer : Nat)
  /-- INSTANTIATE (R153): Belfry instantiates the graph of the next epoch once a scan-out credit is free. -/
  | instantiate (dt : Nat)
  /-- DISPATCH (R161): An idle engine takes the first ready operation bound to it or unbound. -/
  | dispatch (dt : Nat) (engine : Nat)
  /-- OPERATION_COMPLETE (R158): An engine completes an operation, its result lands and its successors' counts are decremented. -/
  | operationComplete (dt : Nat) (engine : Nat) (faults : ReadFaults)
  /-- URGENT_PRIORITY (R164): At T_c − BEL_URGENT_NS the oldest epoch's operations move to priority 5. -/
  | urgentPriority (dt : Nat)
  /-- LAMP_TICK (R167): At each lamp-tick the delay lists are advanced and due CUE operations released. -/
  | lampTick (dt : Nat)
  /-- CUE_DEADLINE (R169): A CUE operation not complete by its deadline is removed and counted LAMP_LATE. -/
  | cueDeadline (dt : Nat)
  /-- SQUASH_BARRIER (R172): When the sweep and engines are clear, the barrier is reported and a replacement may be instantiated. -/
  | squashBarrier (dt : Nat) (epoch : Nat)
  /-- WATCHDOG_TRIP (R182): An operation overrunning its time resets and reloads its engine, or excludes it on a second trip. -/
  | watchdogTrip (dt : Nat) (engine : Nat)
  /-- TRACE_GAP_RECORD (R178): Once trace queue space returns, a GAP record states how many records were lost. -/
  | traceGapRecord (dt : Nat)
  /-- BEL_TRACE_READ (R179): A read of BEL_TRACE_READ returns trace records from the read position and advances it. -/
  | belTraceRead (dt : Nat) (who : Nat)
  /-- BEL_TRACE_REWIND (R180): A write of 1 sets the trace read position to the mark or the oldest valid record. -/
  | belTraceRewind (dt : Nat) (who value : Nat)
  /-- BEL_TRACE_MARK (R180): A write of BEL_TRACE_MARK sets the rewind mark. -/
  | belTraceMark (dt : Nat) (who value : Nat)
  /-- STATS_WINDOW_END (R184): At the end of a statistics window the queue, wait and load values are replaced in one clock. -/
  | statsWindowEnd (dt : Nat)
  /-- BEL_STATS_WINDOW (R184): A write of BEL_STATS_WINDOW starts a new statistics window. -/
  | belStatsWindow (dt : Nat) (who value : Nat)
  /-- ORDER_CHANGE_REQUEST (R190): A write of 1 to CUP_ORDER_CHANGE freezes the administrative layer order or is refused. -/
  | orderChangeRequest (dt : Nat) (who : Nat)
  /-- ORDER_CHANGE_CANCEL (R190): A write of 2 to CUP_ORDER_CHANGE withdraws the request or returns already complete. -/
  | orderChangeCancel (dt : Nat) (who : Nat)
  /-- FINIAL_HEARTBEAT (R206): An accepted heartbeat safety message keeps the safety channel live. -/
  | finialHeartbeat (dt : Nat) (m : SafetyMessage)
  /-- FINIAL_CONTENT (R207): A content safety message adds pixels to a region slot, which becomes valid when its CRC-64 verifies. -/
  | finialContent (dt : Nat) (m : SafetyMessage)
  /-- FINIAL_ASSERT (R208): An assert message asserts a region with valid content and supersedes the epochs it meets. -/
  | finialAssert (dt : Nat) (m : SafetyMessage)
  /-- FINIAL_RELEASE (R208): A release message releases a region from the next epoch instantiated. -/
  | finialRelease (dt : Nat) (m : SafetyMessage)
  /-- FINIAL_STALE (R206): No accepted safety message within CUP_FIN_STALE_MS makes the channel stale and applies each region's stale action. -/
  | finialStale (dt : Nat)
  /-- FINIAL_DISABLE (R208): A write of 0 to CUP_FIN_ENABLE releases every region. -/
  | finialDisable (dt : Nat) (who : Nat)
  /-- FINIAL_KEY_WRITE (R204): A service-level write of CUP_FIN_KEY stores the safety channel key in the access record. -/
  | finialKeyWrite (dt : Nat) (who : Nat) (key : List Octet)
  /-- DECISION_MISMATCH (R209): A disagreeing Finial decision register is reloaded from the majority, or all take the OR when none agree. -/
  | decisionMismatch (dt : Nat) (asserted blanked : List Nat) (slots : List (List Nat))
  /-- PREVIEW_TAKE (R213): A write of 1 to CUP_PREVIEW_TAKE requests a snapshot of the output copy at the next strike. -/
  | previewTake (dt : Nat) (who value : Nat)
  /-- CUP_PREVIEW_READ (R213): A read of CUP_PREVIEW_READ returns the preview snapshot. -/
  | cupPreviewRead (dt : Nat) (who : Nat)
  /-- TEMP_POLL (R221): Each poll reads every zone's temperature source and updates θ. -/
  | tempPoll (dt : Nat) (temps : List (Nat × Nat × Nat))
  /-- CAL_REFRESH_DUE (R224): CAL_REFRESH_S after a zone's last pass, a re-blend is requested. -/
  | calRefreshDue (dt : Nat) (zone : Nat)
  /-- REBLEND_PASS_START (R224): A requested pass latches θ and issues its REBLEND operations. -/
  | reblendPassStart (dt : Nat) (zone : Nat)
  /-- REBLEND_PASS_COMPLETE (R223): A pass completes with the inactive half written, ready to swap. -/
  | reblendPassComplete (dt : Nat) (zone : Nat)
  /-- CAL_FETCH (R235): A module's calibration image is fetched into both cache copies after enumeration or a header change. -/
  | calFetch (dt : Nat) (link module : Nat) (reads : List (List Octet × Nat))
  /-- HEADER_RECHECK (R235): Every CAL_SCRUB_PERIOD_S page 0 of every module is read again and compared. -/
  | headerRecheck (dt : Nat) (pages : List (Nat × Nat × List Octet))
  /-- SCRUB_PERIOD (R236): SCRUB operations walk every cached page once per scrub period. -/
  | scrubPeriod (dt : Nat)
  /-- CAL_SPARE_COMMIT (R228): A write of 1 to CAL_SPARE_COMMIT applies a host selector command through a re-blend. -/
  | calSpareCommit (dt : Nat) (who value : Nat)
  /-- MODULE_ZONE_WRITE (R224): A write of CAL_MODULE_ZONE moves a module and requests passes of both zones. -/
  | moduleZoneWrite (dt : Nat) (who link module zone : Nat)
  /-- RECAL_PASS2_COMPLETE (R241): Completion of the second recalibration image compares both passes and accepts or refuses them. -/
  | recalPass2Complete (dt : Nat) (who : Nat) (image : List Octet)
  /-- RECAL_ABORT (R242): A write of 2 to CAL_RECAL_STATUS aborts a recalibration if latched before the module commits. -/
  | recalAbort (dt : Nat) (who : Nat)
  /-- TRIM_MEASURE (R240): A service write of 1 to CAL_TRIM_MEASURE starts re-measurement of every sink or is refused. -/
  | trimMeasure (dt : Nat) (who value : Nat)
  /-- TRIM_MEASURE_DONE (R240): Re-measurement completes, accepted trims are written to both copies. -/
  | trimMeasureDone (dt : Nat) (first second : List (List Nat))
  /-- MAP_CHANGE_REQUEST (R246): A write of 1 to SCN_MAP_CHANGE freezes and validates the administrative map. -/
  | mapChangeRequest (dt : Nat) (who : Nat)
  /-- MAP_CHANGE_CANCEL (R246): A write of 2 to SCN_MAP_CHANGE withdraws the request or returns already complete. -/
  | mapChangeCancel (dt : Nat) (who : Nat)
  /-- COMMIT_INSTANT (R254): At T_c the strike decision is fixed by testing every active link under the withhold policy. -/
  | commitInstant (dt : Nat) (poisoned : List Nat)
  /-- STRIKE_REFERENCE (R108): Comparator 1 fires at T_s and starts each link's wait for its STRIKE. -/
  | strikeReference (dt : Nat)
  /-- STRIKE_LEAVE (R295): A link's wait ends and its three STRIKE copies are sent. -/
  | strikeLeave (dt : Nat) (link offset2 : Nat)
  /-- MODE_CHANGE_REQUEST (R265): A write of 1 to SCN_MODE_CHANGE validates the administrative timing mode and makes it pending. -/
  | modeChangeRequest (dt : Nat) (who : Nat)
  /-- MODE_CHANGE_CANCEL (R265): A write of 2 to SCN_MODE_CHANGE withdraws the change or returns already complete. -/
  | modeChangeCancel (dt : Nat) (who : Nat)
  /-- MODE_CHANGE_EFFECT (R265): At the next presentation instant the new mode takes effect and uncommitted epochs are superseded. -/
  | modeChangeEffect (dt : Nat)
  /-- GENLOCK_EDGE (R262): A rising edge on the genlock pin is accepted and slews the grid, or is rejected. -/
  | genlockEdge (dt : Nat)
  /-- GENLOCK_LOSS (R262): No edge accepted for 3/f leaves the grid running and posts event 0x8021. -/
  | genlockLoss (dt : Nat)
  /-- LINK_FRAME_START (R251): A link starts a link frame once its whole payload is in the line buffer. -/
  | linkFrameStart (dt : Nat) (link kind : Nat) (fills : List Nat) (starved corrected : Nat) (double : Bool)
  /-- BLOCK_LOCK_GAINED (R276): The link receiver gains block lock and training proceeds to locking. -/
  | blockLockGained (dt : Nat) (link : Nat)
  /-- BLOCK_LOCK_LOST (R276): Loss of block lock puts the link down and starts the retrain wait. -/
  | blockLockLost (dt : Nat) (link syncErrors : Nat)
  /-- LINK_LOCK_HELD (R284): After 1 ms of block lock the unit starts enumeration with ENUM. -/
  | linkLockHeld (dt : Nat) (link : Nat)
  /-- ENUM_END_RECEIVE (R285): ENUM_END gives the module count and starts descriptor reads, or puts the link down. -/
  | enumEndReceive (dt : Nat) (link : Nat) (block : List Octet)
  /-- ENUM_TIMEOUT (R285): No ENUM_END within 5 ms puts the link down with cause 2. -/
  | enumTimeout (dt : Nat) (link : Nat)
  /-- ECHO_REPLY_RECEIVE (R287): An ECHO_REPLY is timestamped and gives one delay sample for its module. -/
  | echoReplyReceive (dt : Nat) (link : Nat) (block : List Octet) (rtt : Nat)
  /-- RETRAIN_WAIT_END (R284): SPL_RETRAIN_MS after a link went down, training restarts at state 1. -/
  | retrainWaitEnd (dt : Nat) (link : Nat)
  /-- REMEASURE_DUE (R289): Every SPL_MEASURE_S a trained link's modules are measured again. -/
  | remeasureDue (dt : Nat) (link : Nat)
  /-- DACK_RECEIVE (R291): A DACK acknowledges, refuses or asks for resend of a downstream frame and may complete a shadow. -/
  | dackReceive (dt : Nat) (link : Nat) (block : List Octet)
  /-- ACK_TIMEOUT (R292): A frame without DACK within SPL_ACK_TIMEOUT is resent or abandoned. -/
  | ackTimeout (dt : Nat) (link : Nat)
  /-- REQ_RECEIVE (R304): A module's REQ is answered with GRANT or RETRY. -/
  | reqReceive (dt : Nat) (link : Nat) (block : List Octet)
  /-- UP_FRAME_EOF (R304): An upstream frame's EOF is checked and answered with UACK. -/
  | upFrameEof (dt : Nat) (link : Nat) (sof data eof : List Octet)
  /-- READ_DATA_RESPONSE (R307): A READ_DATA response completes a register read for the bridge, training or calibration. -/
  | readDataResponse (dt : Nat) (link module tag status : Nat) (data : List Octet)
  /-- WRITE_ERROR_RESPONSE (R307): A WRITE_ERROR reports a failed posted write to the register bridge. -/
  | writeErrorResponse (dt : Nat) (link module tag address len status : Nat)
  /-- LOCK_RESPONSE (R305): A LOCK response completes a lock of the link's register channel. -/
  | lockResponse (dt : Nat) (link module tag status : Nat)
  /-- UNLOCK_RESPONSE (R305): An UNLOCK response is followed by UNLOCKED, releasing the link lock. -/
  | unlockResponse (dt : Nat) (link module tag status : Nat)
  /-- FAULT_RECORDS (R310): A KIND 3 frame's fault records go to calibration or post event 0x8805. -/
  | faultRecords (dt : Nat) (link module : Nat) (data : List Octet)
  /-- LOCK_TIME_LIMIT (R306): A lock held beyond SPL_LOCK_MAX_US is released by the unit and failed back. -/
  | lockTimeLimit (dt : Nat) (link : Nat)
  /-- MERGE_INSTANT (R320): At S_k − 8 µs Lantern fixes every channel's values for period k through stages 1 to 7. -/
  | mergeInstant (dt : Nat)
  /-- PERIOD_START (R319): Comparator 2 starts a lamp PWM period with its merged values. -/
  | periodStart (dt : Nat) (tests : List (Nat × Bool × Nat × Nat))
  /-- CHANNEL_UNTESTED (R334): A channel untested for 60 s has its untested flag set. -/
  | channelUntested (dt : Nat) (channel : Nat)
  /-- ADC_CONVERSION (R339): Comparator 3 starts the conversions of headroom, NTC, junction and VIN. -/
  | adcConversion (dt : Nat) (rails : List (Option (Nat × Nat))) (ntc : List Nat) (junction vin : Nat)
  /-- CUE_GO (R323): A write of LAN_CUE_GO_COMMIT starts a cue at T_go or is refused. -/
  | cueGo (dt : Nat) (who value : Nat)
  /-- CUE_STOP (R325): A write of LAN_CUE_STOP cancels a cue's entries and releases its channels. -/
  | cueStop (dt : Nat) (who cue : Nat)
  /-- CHANNEL_ENABLE (R316): A write of LAN_CH_ENABLE enables a channel or gang, or is refused, and clears a fault. -/
  | channelEnable (dt : Nat) (who channel value : Nat)
  /-- GROUP_CLEAR (R337): A write of 1 to LAN_GRP_CLEAR clears the group's fault marks and relights it. -/
  | groupClear (dt : Nat) (who group value : Nat)
  /-- GROUP_RETRY (R337): Every LAN_GRP_RETRY_S a group dark by fault is cleared and relit. -/
  | groupRetry (dt : Nat) (group : Nat)
  /-- SAFETY_TABLE_CHECK (R338): The safety table copies are checked and repaired or reloaded. -/
  | safetyTableCheck (dt : Nat) (copy1Fails copy2Fails reloadOk : Bool)
  /-- TIED_GROUP_ENABLE (R342): A unit gaining the higher claim enables its tied groups at the first segment boundary 2 µs later. -/
  | tiedGroupEnable (dt : Nat)
  /-- OCU_ENABLE_WRITE (R359): A write of OCU_ENABLE suspends or resumes freeze judgement. -/
  | ocuEnableWrite (dt : Nat) (who value : Nat)
  /-- CONTROL_SRAM_ERROR (R365): A double-bit control SRAM error is handled by its area: supersession, table failure, reload or restart. -/
  | controlSramError (dt : Nat) (area address copy : Nat) (single otherFails reloadOk : Bool)
  /-- CRC_CLAIM (R366): A write of CRC_CLAIM claims or releases a host check context. -/
  | crcClaim (dt : Nat) (who context value : Nat)
  /-- CRC_PRESET (R368): A write of CRC_PRESET loads a standard parameter set and resets the running value. -/
  | crcPreset (dt : Nat) (who context value : Nat)
  /-- CRC_PARAMETER_WRITE (R367): A write of a check parameter or width resets the running value to INIT. -/
  | crcParameterWrite (dt : Nat) (who context sub value : Nat)
  /-- CRC_RUNNING_WRITE (R367): A write of CRC_RUNNING sets the running value. -/
  | crcRunningWrite (dt : Nat) (who context value : Nat)
  /-- CRC_FEED (R367): A write of CRC_FEED feeds octets through the check context. -/
  | crcFeed (dt : Nat) (who context : Nat) (octets : List Octet)
  /-- CRC_ALIVE_IN (R370): A write of CRC_ALIVE_IN judges an alive counter value and sets the status. -/
  | crcAliveIn (dt : Nat) (who context value : Nat)
  /-- EVENT_POST (R372): A posted event word enters the Drum, is filtered, and sets the fault summary at priority 7. -/
  | eventPost (dt : Nat) (code priority : Nat) (args : List Nat)
  /-- DRM_POP (R373): A read of DRM_POP returns and removes the highest-priority oldest word. -/
  | drmPop (dt : Nat) (who : Nat)
  /-- DRM_POP_BLOCK (R373): A read of DRM_POP_BLOCK pops up to 64 words into a snapshot. -/
  | drmPopBlock (dt : Nat) (who : Nat)
  /-- DRM_FLUSH (R376): A write of 1 to DRM_FLUSH empties the Drum. -/
  | drmFlush (dt : Nat) (who value : Nat)
  /-- FAULT_SUMMARY_CLEAR (R378): Writing 1s to DRM_FAULT_SUMMARY clears those sticky bits. -/
  | faultSummaryClear (dt : Nat) (who value : Nat)
  /-- MEM_REQUEST_RAISE (R394): A memory port raises its request, starting a round if the memory has no owner. -/
  | memRequestRaise (dt : Nat) (port : Nat)
  /-- ARBITRATION_ROUND (R395): As an owner issues its last command, the arbiter chooses the next port to grant. -/
  | arbitrationRound (dt : Nat) (octets conflicts corrected : Nat)
  /-- REFRESH_DUE (R399): A due refresh pre-empts the owner at the next burst boundary. -/
  | refreshDue (dt : Nat)
  /-- DEBUG_ACCESS (R399): A JTAG debug access pre-empts the owner at the next burst boundary. -/
  | debugAccess (dt : Nat)
  /-- DRAM_READ_ERROR (R385): A read with an uncorrectable link error is retried and returned poisoned if it fails again. -/
  | dramReadError (dt : Nat) (port address : Nat) (repeatClean : Bool) (zone : Option Nat)
  /-- ODECC_POLL (R385): Each second the on-die ECC counts are read and a rise reported. -/
  | odeccPoll (dt : Nat) (count0 count1 : Nat)
  /-- DRAM_TEMP_READ (R388): Every 32 ms the die temperature sets the refresh rate. -/
  | dramTempRead (dt : Nat) (t0 t1 : Nat)
  /-- GRANT_OVERRUN (R402): A grant held beyond four times its hold posts event 0xB020. -/
  | grantOverrun (dt : Nat)
  /-- GRANT_HOLD_RESTART (R402): A grant held for 100 µs restarts the unit. -/
  | grantHoldRestart (dt : Nat)
  /-- CONFLICT_WINDOW_END (R404): At each conflict window end the row conflict ratio is shown and threshold events posted. -/
  | conflictWindowEnd (dt : Nat)
  /-- MAP_PASS (R410): At S_k − 16 µs the signal map latches its sources and evaluates every entry. -/
  | mapPass (dt : Nat)
  /-- SIGNAL_MAP_CHANGE_REQUEST (R409): A write of 1 to MAP_CHANGE freezes and validates the administrative signal map. -/
  | signalMapChangeRequest (dt : Nat) (who : Nat)
  /-- SIGNAL_MAP_CHANGE_CANCEL (R409): A write of 2 to MAP_CHANGE withdraws the request or returns already complete. -/
  | signalMapChangeCancel (dt : Nat) (who : Nat)
  /-- REG_INTERVAL_END (R413): At the end of MAP_REG_INTERVAL_MS a deferred register or dictionary write is issued. -/
  | regIntervalEnd (dt : Nat)
  /-- SACN_PACKET (R416): An E1.31 data packet is checked, sequenced and merged into its universe. -/
  | sacnPacket (dt : Nat) (p : SacnPacket)
  /-- SACN_SOURCE_LOSS (R416): A source silent for DMX_SACN_LOSS_MS is dropped from its universe. -/
  | sacnSourceLoss (dt : Nat) (entry : Nat)
  /-- DMX_TX_PACKET (R419): A transmit port starts a packet with slots from the last completed pass. -/
  | dmxTxPacket (dt : Nat) (port : Nat)
  /-- DMX_RX_PACKET (R420): A received DMX packet ends and replaces the port's slots or is discarded. -/
  | dmxRxPacket (dt : Nat) (port startCode : Nat) (slots : List Nat) (framing : Bool)
  /-- DMX_RX_LOSS (R420): No valid packet for DMX_RX_LOSS_MS makes the receive port not live. -/
  | dmxRxLoss (dt : Nat) (port : Nat)
  /-- DMX_MODE_WRITE (R418): A write of DMX_MODE takes effect at the end of any packet or RDM exchange in progress. -/
  | dmxModeWrite (dt : Nat) (who port value : Nat)
  /-- RDM_REQUEST (R421): A write of DMX_RDM_REQ queues an RDM request for sending between DMX packets. -/
  | rdmRequest (dt : Nat) (who port dest cls pid : Nat) (data : List Octet)
  /-- RDM_RESPONSE_RECEIVE (R421): An RDM response is checked and completes, continues or resends its request. -/
  | rdmResponseReceive (dt : Nat) (port : Nat) (p : RdmPacket)
  /-- RDM_RESPONSE_TIMEOUT (R421): No response within 2.8 ms resends the request or ends it with no response. -/
  | rdmResponseTimeout (dt : Nat) (port : Nat)
  /-- DMX_RDM_DISCOVER (R421): A write of 1 runs a full E1.20 discovery on the port. -/
  | dmxRdmDiscover (dt : Nat) (who port value : Nat)
  /-- RDM_ABORT (R421): A write of 4 to DMX_RDM_STATUS aborts a pending RDM request. -/
  | rdmAbort (dt : Nat) (who port value : Nat)
  /-- RDM_RESPONDER_REQUEST (R421): An RDM request received on a responder port is answered within 1.0 ms. -/
  | rdmResponderRequest (dt : Nat) (port : Nat) (p : RdmPacket) (ready : Bool)
  /-- BRG_READ (R423): A read of BRG_READ starts a module register read through the bridge. -/
  | brgRead (dt : Nat) (who : Nat)
  /-- BRG_WRITE (R423): A write of BRG_WRITE starts a posted module register write or is refused. -/
  | brgWrite (dt : Nat) (who : Nat) (data : List Octet)
  /-- BRG_LOCK_SET (R425): A write of 1 to BRG_LOCK locks the link's register channel for the session. -/
  | brgLockSet (dt : Nat) (who : Nat)
  /-- BRG_UNLOCK (R425): A write of 0 to BRG_LOCK sends UNLOCK and UNLOCKED and releases held transfers. -/
  | brgUnlock (dt : Nat) (who : Nat)
  /-- BRG_ABORT (R427): A write of 1 to BRG_ABORT aborts the session's transfer or returns already complete. -/
  | brgAbort (dt : Nat) (who value : Nat)
  /-- BRG_PWE_CLEAR (R426): A write of 1 to BRG_PWE_CLEAR empties the posted-write error log. -/
  | brgPweClear (dt : Nat) (who value : Nat)
  /-- CLAIM_WORD_RECEIVE (R438): A claim word from the partner is validated and updates the partner claim and states. -/
  | claimWordReceive (dt : Nat) (word : Nat)
  /-- PARTNER_LOST (R441): Four word times without claim word or heartbeat declare the partner lost with claim 0. -/
  | partnerLost (dt : Nat)
  /-- MIRROR_LINK_UP (R437): Both mirror lanes lock and align and the link comes up. -/
  | mirrorLinkUp (dt : Nat)
  /-- MIRROR_LINK_DOWN (R460): Loss of the mirror link stops comparison, yield, pushes and mirrored writes. -/
  | mirrorLinkDown (dt : Nat)
  /-- MIRROR_RESEND (R447): A mirror message without ACK for 20 µs is resent, or the link taken down after 3 resends. -/
  | mirrorResend (dt : Nat)
  /-- ACK (R447): A mirror ACK acknowledges a sent message. -/
  | mirrorAck (dt : Nat) (m : MirMessage)
  /-- HEARTBEAT (R441): A mirror heartbeat updates the partner claim and state. -/
  | mirrorHeartbeat (dt : Nat) (m : MirMessage)
  /-- ADMIT (R444): An ADMIT message is compared for role, level and image and the pair formed or refused. -/
  | mirrorAdmit (dt : Nat) (m : MirMessage)
  /-- PAIR_WAIT_EXPIRY (R444): No valid partner word within TWN_PAIR_WAIT_MS makes the unit Alone. -/
  | pairWaitExpiry (dt : Nat)
  /-- ANCHOR (R457): An ANCHOR message gives the joining unit E_s and its T_p. -/
  | mirrorAnchor (dt : Nat) (m : MirMessage)
  /-- LINK_SIG (R454): A partner's LINK_SIG is compared to judge being in step on a link. -/
  | linkSig (dt : Nat) (m : MirMessage)
  /-- FRAME_SIG (R455): A partner's FRAME_SIG is compared to judge divergence of a presented epoch. -/
  | frameSig (dt : Nat) (m : MirMessage)
  /-- DICT_WRITE (R450): A sequenced mirrored write is scheduled on the partner for its apply time. -/
  | dictWrite (dt : Nat) (m : MirMessage)
  /-- DICT_FORWARD (R449): A forwarded write is validated and sequenced by the Active unit. -/
  | dictForward (dt : Nat) (m : MirMessage)
  /-- DICT_STATUS (R450): A partner's status for a mirrored write is compared with the sequencer's. -/
  | dictStatus (dt : Nat) (m : MirMessage)
  /-- MIRROR_WRITE_APPLY (R449): At T_a both units apply a mirrored write and the session reply leaves. -/
  | mirrorWriteApply (dt : Nat)
  /-- STATE_PUSH (R452): A pushed zone pass, tied fault or HRFB code is applied by the receiver. -/
  | statePush (dt : Nat) (m : MirMessage)
  /-- BULK (R446): A BULK message carries object data, and an empty one closes the object with its check. -/
  | mirrorBulk (dt : Nat) (m : MirMessage)
  /-- SYNC (R457): A SYNC message advances the steps of joining. -/
  | mirrorSync (dt : Nat) (m : MirMessage)
  /-- YIELD (R442): After 100 ms of a healthier Standby partner the Active unit yields to Standby. -/
  | twinYield (dt : Nat)
  /-- TWN_REJOIN (R456): A write of 1 to TWN_REJOIN moves an Observer to Joining. -/
  | twnRejoin (dt : Nat) (who value : Nat)
  /-- OPEN (R474): An IDP OPEN creates a session bound to its transport and source. -/
  | idpOpen (dt : Nat) (h : IdpHead) (nonce : List Octet)
  /-- CLOSE (R474): An IDP CLOSE ends the session. -/
  | idpClose (dt : Nat) (h : IdpHead)
  /-- KEEPALIVE (R471): An IDP KEEPALIVE returns the session's level and service time remaining. -/
  | idpKeepalive (dt : Nat) (h : IdpHead)
  /-- AUTH_OPERATOR (R478): An operator proof raises the session to level 1 or counts a failure. -/
  | authOperator (dt : Nat) (h : IdpHead) (proof : List Octet)
  /-- CHALLENGE (R479): A CHALLENGE request returns a fresh service challenge for a key slot. -/
  | challenge (dt : Nat) (h : IdpHead) (slot : Nat) (key : List Octet)
  /-- AUTH_SERVICE (R479): A verified signature over the challenge raises the session to service level. -/
  | authService (dt : Nat) (h : IdpHead) (signature : List Octet)
  /-- READ (R471): An IDP READ returns the values of up to 32 items. -/
  | idpRead (dt : Nat) (h : IdpHead) (items : List (Nat × Nat))
  /-- WRITE (R471): An IDP WRITE applies up to 32 items, each judged alone. -/
  | idpWrite (dt : Nat) (h : IdpHead) (items : List WriteItem)
  /-- REGISTER_WRITE (R467): A write to an entry without behaviour of its own is checked and latched. -/
  | registerWrite (dt : Nat) (who : Nat) (item : WriteItem)
  /-- DOMAIN_READ (R475): DOMAIN_READ snapshots a DOMAIN entry for segmented reading. -/
  | domainRead (dt : Nat) (h : IdpHead) (index sub : Nat)
  /-- DOMAIN_WRITE (R475): DOMAIN_WRITE announces a DOMAIN transfer and reserves staging space. -/
  | domainWrite (dt : Nat) (h : IdpHead) (index sub total : Nat)
  /-- DOMAIN_SEGMENT (R475): A DOMAIN_SEGMENT carries or returns data at an offset. -/
  | domainSegment (dt : Nat) (h : IdpHead) (offset : Nat) (data : List Octet)
  /-- DOMAIN_END (R475): DOMAIN_END checks the whole data and writes the entry in one clock. -/
  | domainEnd (dt : Nat) (h : IdpHead) (check : Option Nat)
  /-- DOMAIN_ABORT (R475): DOMAIN_ABORT discards a DOMAIN transfer or returns already complete. -/
  | domainAbort (dt : Nat) (h : IdpHead)
  /-- SESSION_TIMEOUT (R474): A session silent for DIC_SESSION_TIMEOUT_S ends. -/
  | sessionTimeout (dt : Nat)
  /-- SERVICE_WINDOW_END (R479): The service window ends and the session falls to level 1 or 0. -/
  | serviceWindowEnd (dt : Nat)
  /-- LOCKOUT_END (R480): A source's authentication lockout ends after 300 s. -/
  | lockoutEnd (dt : Nat)
  /-- RDM_IDP_SET (R481): An RDM SET of PID 0x8A00 carries an IDP request and returns its response. -/
  | rdmIdpSet (dt : Nat) (port dest source transaction : Nat) (message : List Octet) (ready : Bool)
  /-- RDM_GET_EUI (R481): An RDM GET of PID 0x8A01 returns the unit's EUI-64. -/
  | rdmGetEui (dt : Nat) (port dest source transaction : Nat)
  /-- RDM_GET_IDENTITY (R481): An RDM GET of PID 0x8A02 returns behaviour level, role and profile. -/
  | rdmGetIdentity (dt : Nat) (port dest source transaction : Nat)
  /-- SPI_REQUEST (R482): SPI command 0x01 delivers an IDP request. -/
  | spiRequest (dt : Nat) (message : List Octet)
  /-- SPI_READ_RESPONSE (R482): SPI command 0x02 reads the waiting IDP response and releases SVC_IRQ_N. -/
  | spiReadResponse (dt : Nat)
  /-- SPI_STATUS (R482): SPI command 0x03 returns response-waiting and ready status. -/
  | spiStatus (dt : Nat)
  /-- DIC_PROFILE_SAVE (R486): A write of DIC_PROFILE_SAVE captures the persistent entries and starts a save to a free slot. -/
  | dicProfileSave (dt : Nat) (who value : Nat)
  /-- PROFILE_SAVE_DONE (R486): A save verified by read-back becomes the profile in force, or fails. -/
  | profileSaveDone (dt : Nat) (ok : Bool)
  /-- DIC_PROFILE_CREATE (R487): A commit of DIC_PROFILE_CREATE writes a profile from the factory defaults of a role. -/
  | dicProfileCreate (dt : Nat) (who value : Nat)
  /-- DIC_RESTART (R527): A write of 1 to DIC_RESTART causes a warm reset. -/
  | dicRestart (dt : Nat) (who value : Nat)
  /-- DIC_INSTALL_KEY (R489): A write of DIC_INSTALL_KEY sets or clears the installation key in the access record. -/
  | dicInstallKey (dt : Nat) (who : Nat) (key : List Octet)
  /-- DIC_SERVICE_KEY_INTEGRATOR (R489): A service write sets or clears the integrator service key. -/
  | dicServiceKeyIntegrator (dt : Nat) (who : Nat) (key : List Octet)
  /-- CHAIN_IN_WORD (R493): A valid CHAIN_IN word updates the upstream neighbour's address information. -/
  | chainInWord (dt : Nat) (word : Nat)
  /-- CHAIN_IN_IDLE (R493): CHAIN_IN becomes idle after four word times without a valid word. -/
  | chainInIdle (dt : Nat)
  /-- DISCOVER_SEND (R496): Every CHN_DISCOVER_MS an addressed unit broadcasts DISCOVER. -/
  | discoverSend (dt : Nat)
  /-- DISCOVER (R496): A DISCOVER received records a neighbour, may give an address, and may trigger a backup request or conflict. -/
  | chainDiscover (dt : Nat) (h : ChainHead) (chain flags profile generation : Nat)
  /-- DISCOVER_BACK (R497): A DISCOVER_BACK naming the unit offers it an address from behind. -/
  | discoverBack (dt : Nat) (h : ChainHead) (euiLow address : Nat)
  /-- CHN_ADDR_ACCEPT (R498): A write of 1 takes the proposed chain address. -/
  | chnAddrAccept (dt : Nat) (who value : Nat)
  /-- CONFLICT_CLEAR (R498): 5 s without a conflicting DISCOVER clears the conflict state. -/
  | conflictClear (dt : Nat)
  /-- BACKUP_REQUEST (R500): A BACKUP_REQUEST is verified and answered with the profile and wrapped access record. -/
  | backupRequest (dt : Nat) (h : ChainHead) (address side : Nat) (wrapKey : List Octet)
  /-- BACKUP_DATA (R499): A BACKUP_DATA segment is acknowledged, and the complete backup stored or adopted. -/
  | backupData (dt : Nat) (h : ChainHead) (offset total : Nat) (data : List Octet)
  /-- BACKUP_ACK (R499): A BACKUP_ACK releases the next backup segment. -/
  | backupAck (dt : Nat) (h : ChainHead) (offset status : Nat)
  /-- BACKUP_RESEND (R499): A segment without acknowledgement after 20 ms is resent or the transfer abandoned. -/
  | backupResend (dt : Nat)
  /-- ADOPT_WAIT_EXPIRY (R501): No backup adopted within CHN_ADOPT_WAIT_S applies the factory profile. -/
  | adoptWaitExpiry (dt : Nat)
  /-- UPD_START_COMMIT (R508): A commit of UPD_START begins an update from host-sent blocks or is refused. -/
  | updStartCommit (dt : Nat) (who value : Nat)
  /-- OFFER (R509): An OFFER from a neighbour is answered within 1 ms and, if accepted, forwarded. -/
  | imageOffer (dt : Nat) (h : ChainHead) (level seq blocks tAct healthS forward : Nat)
  /-- OFFER_REPLY (R509): An OFFER_REPLY tells the sender whether a neighbour takes the relay. -/
  | offerReply (dt : Nat) (h : ChainHead) (reply : Nat)
  /-- BLOCK (R510): An image block is checked, forwarded, written and acknowledged. -/
  | imageBlock (dt : Nat) (h : ChainHead) (block crc : Nat) (data : List Octet) (flashOk : Bool)
  /-- BLOCK_ACK (R510): A BLOCK_ACK releases or resends a relayed block. -/
  | blockAck (dt : Nat) (h : ChainHead) (block status : Nat)
  /-- BLOCK_RESEND (R510): A block without acknowledgement after 200 ms is resent. -/
  | blockResend (dt : Nat)
  /-- RELAY_STALL (R510): A neighbour silent for 10 s stops the relay to it with event 0xE024. -/
  | relayStall (dt : Nat)
  /-- IMAGE_VERIFIED (R511): After the last block the image area is verified and the state set to VERIFIED or restored. -/
  | imageVerified (dt : Nat)
  /-- ABORT (R515): An ABORT message abandons the update unless activation has happened. -/
  | chainAbort (dt : Nat) (h : ChainHead)
  /-- UPD_ABORT (R515): A write of 1 to UPD_ABORT abandons the update or returns already complete. -/
  | updAbort (dt : Nat) (who value : Nat)
  /-- ACTIVATION (R512): At T_act a verified unit writes ACTIVATING and restarts warm, or misses activation. -/
  | activation (dt : Nat)
  /-- HEALTH_CONFIRMED (R513): When all health conditions hold, the new image is confirmed and retained. -/
  | healthConfirmed (dt : Nat)
  /-- UPD_CONFIRM (R513): A write of 1 to UPD_CONFIRM confirms the new image at once. -/
  | updConfirm (dt : Nat) (who value : Nat)
  /-- UPD_REJECT (R514): A write of 1 to UPD_REJECT falls back to the retained image. -/
  | updReject (dt : Nat) (who value : Nat)
  /-- HEALTH_WINDOW_END (R514): HEALTH_S without confirmation writes FALLBACK and restarts warm. -/
  | healthWindowEnd (dt : Nat)
  /-- FETCH (R516): A FETCH naming the unit is answered with a recovery OFFER and its confirmed image. -/
  | imageFetch (dt : Nat) (h : ChainHead) (address : Nat)
  /-- FETCH_RETRY (R516): A fetching unit rebroadcasts FETCH each second and switches neighbour after 5 s. -/
  | fetchRetry (dt : Nat)
  /-- KEEP_LOADER_START (R504): The Keep loader runs the chain ports and acts on the boot record state. -/
  | keepLoaderStart (dt : Nat)
  /-- POWER_ON (R527): VIN rising through 4.6 V starts a cold start with the rail sequence. -/
  | powerOn (dt : Nat)
  /-- VIN_UNDERVOLTAGE (R527): VIN below 4.4 V for 2 µs causes a cold reset. -/
  | vinUndervoltage (dt : Nat)
  /-- RAIL_FAULT (R564): A rail out of tolerance or at its current limit causes shutdown and a retry wait. -/
  | railFault (dt : Nat) (rail cause : Nat)
  /-- RAIL_RETRY_WAIT (R564): 100 ms after a rail fault the rail sequence starts again unless faults persisted. -/
  | railRetryWait (dt : Nat)
  /-- CLOCK_FAULT (R525): Loss of the reference or system PLL lock causes a cold reset held until lock. -/
  | clockFault (dt : Nat)
  /-- SERDES_PLL_LOSS (R525): A chain port SerDes PLL losing lock takes only that port down. -/
  | serdesPllLoss (dt : Nat) (port : Nat)
  /-- RESET_N_LOW (R528): RESET_N low for 1 µs or more puts the unit into cold reset. -/
  | resetNLow (dt : Nat)
  /-- RESET_N_RELEASE (R528): The rising edge of RESET_N starts the start sequence after rail start-up. -/
  | resetNRelease (dt : Nat)
  /-- THERMAL_TRIP (R527): A junction at 145 °C causes a cold reset. -/
  | thermalTrip (dt : Nat)
  /-- THERMAL_TRIP_CLEAR (R527): Both junctions below 125 °C release a thermal-trip reset. -/
  | thermalTripClear (dt : Nat)
  /-- JTAG_RESET (R527): A JTAG reset instruction at service level causes a cold reset. -/
  | jtagReset (dt : Nat)
  /-- CPU0_WATCHDOG (R527): An unserved CPU0 watchdog causes a warm reset. -/
  | cpu0Watchdog (dt : Nat)
  /-- DRIVE_HEARTBEAT_LOSS (R529): The drive die sets every sink and HRFB pin high-impedance on losing the logic die's heartbeat for 1 µs. -/
  | driveHeartbeatLoss (dt : Nat)
  /-- INTERNAL_RESET_RELEASE (R533): After PLL lock internal reset is released and the boot ROM samples PROF pins and loads Keep. -/
  | internalResetRelease (dt : Nat) (pins : Nat) (refreshed : Bool)
  /-- MEM_TRAINING_DONE (R538): LPDDR5 training completes, or fails and is retried or halts the unit in the Keep loader. -/
  | memTrainingDone (dt : Nat) (ok : Bool) (channel : Nat)
  /-- IMAGE_LOAD_DONE (R533): The firmware image is read to DRAM and verified, or fetch is called. -/
  | imageLoadDone (dt : Nat)
  /-- FIRMWARE_START (R485): The firmware runs, selects and applies the profile and starts the Drum and blocks. -/
  | firmwareStart (dt : Nat) (seqOk : Bool) (engineFails ctrlFails : Nat)
  /-- STARTUP_LIMIT (R541): A start-up limit passing before its milestone posts event 0xF030. -/
  | startupLimit (dt : Nat)
  /-- LOGIC_TJ_READ (R542): Every 32 ms the logic junction is read and a warning posted at SYS_TJ_WARN. -/
  | logicTjRead (dt : Nat) (tj : Nat) (rails : List Nat)
  /-- PRESENTATION_INSTANT (R455): At T_p of every presented epoch, struck or withheld, the unit sends FRAME_SIG, replaces its signature entries and judges freeze. -/
  | presentationInstant (dt : Nat)
  /-- CLAIM_LINE_LOSS (R460): Claim words stop arriving while mirror heartbeats stay valid, posting event 0xD00C and taking the partner claim from heartbeats. -/
  | claimLineLoss (dt : Nat)
  /-- DMX_TX_PACKET_END (R421): A DMX transmit packet ends, and a pending mode write takes effect or a queued RDM exchange is sent. -/
  | dmxTxPacketEnd (dt : Nat) (port : Nat)
  /-- RDM_ACK_TIMER_EXPIRY (R421): The time given in an ACK_TIMER response runs out and the controller sends GET_QUEUED_MESSAGE. -/
  | rdmAckTimerExpiry (dt : Nat) (port : Nat)
  /-- DISCOVER_BACK_SEND (R497): Once a second, an addressed unit whose CHAIN_IN shows an unaddressed upstream unit sends DISCOVER_BACK offering the address before its own. -/
  | discoverBackSend (dt : Nat)
  /-- ACTIVATION_WINDOW_EXPIRY (R512): 60 s after T_act, a verified unit that could not activate for lack of TIME_VALID misses activation, restores its image area and reports result 6. -/
  | activationWindowExpiry (dt : Nat)
  /-- SERDES_PLL_LOCK (R525): A chain port's SerDes PLL regains lock and its bit of SYS_PLL_STATE returns to 1. -/
  | serdesPllLock (dt : Nat) (port : Nat)
  /-- BACKUP_REQUEST_TIMEOUT (R501): An adopting unit that has received no backup data from its upstream neighbour within 3 s asks its downstream neighbour. -/
  | backupRequestTimeout (dt : Nat)
  deriving DecidableEq, Repr

end Sys2Proof
end

