-- ==== Sys2Proof/Decode.lean ====
section
/-! DEFINITION. The opcode table gives its rows no bits: a command reaches the block as a frame, a register access, a pin or an instant, not as a
word (log entry 2). -/

namespace Sys2Proof

/-- The command a word spells: the table spells none. -/
def decodeTableWord (_nbits _w : Nat) : Option Instr := none

end Sys2Proof
end

