-- ==== Sys2Proof/Machine/Crc.lean ====
section
/-! DEFINITION. Checks over octets: the parameterised CRC of R367, the CRC-32 of IEEE 802.3, the CRC-32C of R124, the CRC-64
and CRC-16 and CRC-8 the wire formats name. -/

namespace Sys2Proof.Machine

/-- The low w bits of a value in reverse order. -/
def reflect (w v : Nat) : Nat :=
  (List.range w).foldl (fun acc i => acc * 2 + (v / 2 ^ i) % 2) 0

/-- A parameter set of R367: width, polynomial in normal form, initial value, reflections and inversion. -/
structure CrcParams where
  width : Nat
  poly : Nat
  init : Nat
  reflectIn : Bool
  reflectOut : Bool
  invert : Bool
  deriving DecidableEq, Repr

/-- One bit of an octet through the register: the inner loop of R367. -/
def crcBit (p : CrcParams) (reg : Nat) (bit : Bool) : Nat :=
  let fb := bitOf reg (p.width - 1) != bit
  let shifted := (reg * 2) % 2 ^ p.width
  if fb then Nat.xor shifted p.poly else shifted

/-- One octet through the register, reflected on entry where the set says so (R367). -/
def crcOctet (p : CrcParams) (reg : Nat) (b : Octet) : Nat :=
  let o := if p.reflectIn then reflect 8 b.toNat else b.toNat
  [7, 6, 5, 4, 3, 2, 1, 0].foldl (fun r i => crcBit p r (bitOf o i)) reg

/-- Octets through the register in order. -/
def crcFeed (p : CrcParams) (reg : Nat) (bs : List Octet) : Nat :=
  bs.foldl (crcOctet p) reg

/-- The result shown for a register: reflected, then inverted, as the parameters say (R367). -/
def crcResult (p : CrcParams) (reg : Nat) : Nat :=
  let r := if p.reflectOut then reflect p.width reg else reg
  if p.invert then 2 ^ p.width - 1 - r else r

/-- The check of a whole list of octets. -/
def crcOf (p : CrcParams) (bs : List Octet) : Nat := crcResult p (crcFeed p p.init bs)

/-- The standard sets of R368; none for presets 5 to 255. -/
def crcPreset : Nat → Option CrcParams
  | 0 => some ⟨8, 0x2F, 0xFF, false, false, true⟩
  | 1 => some ⟨16, 0x1021, 0xFFFF, false, false, false⟩
  | 2 => some ⟨32, 0x1EDC6F41, 0xFFFFFFFF, true, true, true⟩
  | 3 => some ⟨64, 0x42F0E1EBA9EA3693, 0xFFFFFFFFFFFFFFFF, true, true, true⟩
  | 4 => some ⟨32, 0x04C11DB7, 0xFFFFFFFF, true, true, true⟩
  | _ => none

/-- CRC-8 of control blocks (R277). -/
def crc8 : CrcParams := ⟨8, 0x2F, 0xFF, false, false, true⟩

/-- CRC-16 of the trims (R238). -/
def crc16 : CrcParams := ⟨16, 0x1021, 0xFFFF, false, false, false⟩

/-- CRC-32C of R124. -/
def crc32c : CrcParams := ⟨32, 0x1EDC6F41, 0xFFFFFFFF, true, true, true⟩

/-- CRC-64 of R203. -/
def crc64 : CrcParams := ⟨64, 0x42F0E1EBA9EA3693, 0xFFFFFFFFFFFFFFFF, true, true, true⟩

/-- CRC-32 of IEEE 802.3, the FCS (R46). -/
def crc32 : CrcParams := ⟨32, 0x04C11DB7, 0xFFFFFFFF, true, true, true⟩

end Sys2Proof.Machine
end

