-- ==== Sys2Proof/Machine/RegNames.lean ====
section
/-! DEFINITION. The name of every entry of the object dictionary, as the tables of spec/ spell it
(R464 to R466, and the dictionary table of each chapter). An entry with an index range takes the place n in that range,
an array the element number k. -/

namespace Sys2Proof.Machine

/-- One element of the object dictionary: its index and its subindex (R464, R465). -/
structure Reg where
  index : Nat
  sub : Nat
  deriving DecidableEq, Repr

/-- DIC_DEVICE_NAME (R11, 00_scope.md). -/
def Reg.DIC_DEVICE_NAME : Reg := ⟨0x1000, 0⟩
/-- DIC_SILICON_REV (R11, 00_scope.md). -/
def Reg.DIC_SILICON_REV : Reg := ⟨0x1001, 0⟩
/-- DIC_BEHAVIOUR_LEVEL (R11, 00_scope.md). -/
def Reg.DIC_BEHAVIOUR_LEVEL : Reg := ⟨0x1002, 0⟩
/-- DIC_UNIT_EUI64 (R11, 00_scope.md). -/
def Reg.DIC_UNIT_EUI64 : Reg := ⟨0x1003, 0⟩
/-- DIC_ROLE (R11, 00_scope.md). -/
def Reg.DIC_ROLE : Reg := ⟨0x1004, 0⟩
/-- DIC_IMAGE_LEVEL (R11, 00_scope.md). -/
def Reg.DIC_IMAGE_LEVEL : Reg := ⟨0x1005, 0⟩
/-- DIC_LEVEL (R489, 15_object_dictionary.md). -/
def Reg.DIC_LEVEL : Reg := ⟨0x1010, 0⟩
/-- DIC_SESSION (R489, 15_object_dictionary.md). -/
def Reg.DIC_SESSION : Reg := ⟨0x1011, 0⟩
/-- DIC_SESSIONS_OPEN (R489, 15_object_dictionary.md). -/
def Reg.DIC_SESSIONS_OPEN : Reg := ⟨0x1012, 0⟩
/-- DIC_SESSION_TIMEOUT_S (R489, 15_object_dictionary.md). -/
def Reg.DIC_SESSION_TIMEOUT_S : Reg := ⟨0x1013, 0⟩
/-- DIC_RDM_IDP (R489, 15_object_dictionary.md). -/
def Reg.DIC_RDM_IDP : Reg := ⟨0x1014, 0⟩
/-- DIC_PROFILE_ACTIVE (R489, 15_object_dictionary.md). -/
def Reg.DIC_PROFILE_ACTIVE : Reg := ⟨0x1020, 0⟩
/-- DIC_PROFILE_PINS (R489, 15_object_dictionary.md). -/
def Reg.DIC_PROFILE_PINS : Reg := ⟨0x1021, 0⟩
/-- DIC_PROFILE_NEXT (R489, 15_object_dictionary.md). -/
def Reg.DIC_PROFILE_NEXT : Reg := ⟨0x1022, 0⟩
/-- DIC_PROFILE_SAVE (R489, 15_object_dictionary.md). -/
def Reg.DIC_PROFILE_SAVE : Reg := ⟨0x1023, 0⟩
/-- DIC_PROFILE_STATUS (R489, 15_object_dictionary.md). -/
def Reg.DIC_PROFILE_STATUS : Reg := ⟨0x1024, 0⟩
/-- DIC_PROFILE_CREATE (R489, 15_object_dictionary.md). -/
def Reg.DIC_PROFILE_CREATE (k : Nat) : Reg := ⟨0x1025, k⟩
/-- DIC_RESTART (R489, 15_object_dictionary.md). -/
def Reg.DIC_RESTART : Reg := ⟨0x1026, 0⟩
/-- PROFILE_VALID (R489, 15_object_dictionary.md). -/
def Reg.PROFILE_VALID (n : Nat) : Reg := ⟨0x1030 + n, 1⟩
/-- PROFILE_ROLE (R489, 15_object_dictionary.md). -/
def Reg.PROFILE_ROLE (n : Nat) : Reg := ⟨0x1030 + n, 2⟩
/-- PROFILE_GENERATION (R489, 15_object_dictionary.md). -/
def Reg.PROFILE_GENERATION (n : Nat) : Reg := ⟨0x1030 + n, 3⟩
/-- PROFILE_SAVED (R489, 15_object_dictionary.md). -/
def Reg.PROFILE_SAVED (n : Nat) : Reg := ⟨0x1030 + n, 4⟩
/-- PROFILE_SOURCE (R489, 15_object_dictionary.md). -/
def Reg.PROFILE_SOURCE (n : Nat) : Reg := ⟨0x1030 + n, 5⟩
/-- DIC_INSTALL_KEY (R489, 15_object_dictionary.md). -/
def Reg.DIC_INSTALL_KEY : Reg := ⟨0x1040, 0⟩
/-- DIC_INSTALL_KEY_ID (R489, 15_object_dictionary.md). -/
def Reg.DIC_INSTALL_KEY_ID : Reg := ⟨0x1041, 0⟩
/-- DIC_INSTALL_KEY_STATE (R489, 15_object_dictionary.md). -/
def Reg.DIC_INSTALL_KEY_STATE : Reg := ⟨0x1042, 0⟩
/-- DIC_SERVICE_KEY_FACTORY (R489, 15_object_dictionary.md). -/
def Reg.DIC_SERVICE_KEY_FACTORY : Reg := ⟨0x1043, 0⟩
/-- DIC_SERVICE_KEY_INTEGRATOR (R489, 15_object_dictionary.md). -/
def Reg.DIC_SERVICE_KEY_INTEGRATOR : Reg := ⟨0x1044, 0⟩
/-- DIC_SERVICE_KEY_ID (R489, 15_object_dictionary.md). -/
def Reg.DIC_SERVICE_KEY_ID : Reg := ⟨0x1045, 0⟩
/-- DIC_SERVICE_WINDOW_S (R489, 15_object_dictionary.md). -/
def Reg.DIC_SERVICE_WINDOW_S : Reg := ⟨0x1046, 0⟩
/-- DIC_SERVICE_REMAIN_S (R489, 15_object_dictionary.md). -/
def Reg.DIC_SERVICE_REMAIN_S : Reg := ⟨0x1047, 0⟩
/-- DICCNT_SESSIONS_OPENED (R490, 15_object_dictionary.md). -/
def Reg.DICCNT_SESSIONS_OPENED : Reg := ⟨0x1100, 1⟩
/-- DICCNT_SESSIONS_TIMED_OUT (R490, 15_object_dictionary.md). -/
def Reg.DICCNT_SESSIONS_TIMED_OUT : Reg := ⟨0x1100, 2⟩
/-- DICCNT_SESSION_LIMIT (R490, 15_object_dictionary.md). -/
def Reg.DICCNT_SESSION_LIMIT : Reg := ⟨0x1100, 3⟩
/-- DICCNT_MSG_CHECK_FAIL (R490, 15_object_dictionary.md). -/
def Reg.DICCNT_MSG_CHECK_FAIL : Reg := ⟨0x1100, 4⟩
/-- DICCNT_MSG_TAG_FAIL (R490, 15_object_dictionary.md). -/
def Reg.DICCNT_MSG_TAG_FAIL : Reg := ⟨0x1100, 5⟩
/-- DICCNT_MSG_SEQ_ERROR (R490, 15_object_dictionary.md). -/
def Reg.DICCNT_MSG_SEQ_ERROR : Reg := ⟨0x1100, 6⟩
/-- DICCNT_MSG_DUPLICATE (R490, 15_object_dictionary.md). -/
def Reg.DICCNT_MSG_DUPLICATE : Reg := ⟨0x1100, 7⟩
/-- DICCNT_AUTH_OPERATOR_FAIL (R490, 15_object_dictionary.md). -/
def Reg.DICCNT_AUTH_OPERATOR_FAIL : Reg := ⟨0x1100, 8⟩
/-- DICCNT_AUTH_SERVICE_FAIL (R490, 15_object_dictionary.md). -/
def Reg.DICCNT_AUTH_SERVICE_FAIL : Reg := ⟨0x1100, 9⟩
/-- DICCNT_LOCKOUTS (R490, 15_object_dictionary.md). -/
def Reg.DICCNT_LOCKOUTS : Reg := ⟨0x1100, 10⟩
/-- DICCNT_PROFILE_SAVES (R490, 15_object_dictionary.md). -/
def Reg.DICCNT_PROFILE_SAVES : Reg := ⟨0x1100, 11⟩
/-- DICCNT_PROFILE_SAVE_FAIL (R490, 15_object_dictionary.md). -/
def Reg.DICCNT_PROFILE_SAVE_FAIL : Reg := ⟨0x1100, 12⟩
/-- NET_MAC_ADDR (R39, 02_network_ports.md). -/
def Reg.NET_MAC_ADDR : Reg := ⟨0x2000, 0⟩
/-- NET_MAC_ADDR_M (R39, 02_network_ports.md). -/
def Reg.NET_MAC_ADDR_M : Reg := ⟨0x2001, 0⟩
/-- NET_IPV4_MODE (R39, 02_network_ports.md). -/
def Reg.NET_IPV4_MODE : Reg := ⟨0x2002, 0⟩
/-- NET_IPV4_BASE (R39, 02_network_ports.md). -/
def Reg.NET_IPV4_BASE : Reg := ⟨0x2003, 0⟩
/-- NET_IPV4_STATIC (R39, 02_network_ports.md). -/
def Reg.NET_IPV4_STATIC : Reg := ⟨0x2004, 0⟩
/-- NET_IPV4_MASK (R39, 02_network_ports.md). -/
def Reg.NET_IPV4_MASK : Reg := ⟨0x2005, 0⟩
/-- NET_IPV4_ACTIVE (R39, 02_network_ports.md). -/
def Reg.NET_IPV4_ACTIVE : Reg := ⟨0x2006, 0⟩
/-- NET_IPV4_M (R39, 02_network_ports.md). -/
def Reg.NET_IPV4_M : Reg := ⟨0x2007, 0⟩
/-- NET_IPV4_M_MASK (R39, 02_network_ports.md). -/
def Reg.NET_IPV4_M_MASK : Reg := ⟨0x2008, 0⟩
/-- NET_SPEED (R39, 02_network_ports.md). -/
def Reg.NET_SPEED (k : Nat) : Reg := ⟨0x2010, k⟩
/-- NET_FEC (R39, 02_network_ports.md). -/
def Reg.NET_FEC (k : Nat) : Reg := ⟨0x2011, k⟩
/-- NET_LINK_STATE (R39, 02_network_ports.md). -/
def Reg.NET_LINK_STATE (k : Nat) : Reg := ⟨0x2012, k⟩
/-- NET_MAX_FRAME (R39, 02_network_ports.md). -/
def Reg.NET_MAX_FRAME : Reg := ⟨0x2013, 0⟩
/-- NET_IGMP_ENABLE (R39, 02_network_ports.md). -/
def Reg.NET_IGMP_ENABLE : Reg := ⟨0x2014, 0⟩
/-- NET_MC_EXACT (R54, 02_network_ports.md). -/
def Reg.NET_MC_EXACT (k : Nat) : Reg := ⟨0x2020, k⟩
/-- NET_MC_HASH (R54, 02_network_ports.md). -/
def Reg.NET_MC_HASH (k : Nat) : Reg := ⟨0x2021, k⟩
/-- NET_PCP_TO_TC (R61, 02_network_ports.md). -/
def Reg.NET_PCP_TO_TC (k : Nat) : Reg := ⟨0x2030, k⟩
/-- NET_TC_MAX_FRAME (R61, 02_network_ports.md). -/
def Reg.NET_TC_MAX_FRAME (k : Nat) : Reg := ⟨0x2031, k⟩
/-- NET_TC_QUEUE_CELLS (R61, 02_network_ports.md). -/
def Reg.NET_TC_QUEUE_CELLS (k : Nat) : Reg := ⟨0x2032, k⟩
/-- NET_GATE_ENABLE (R64, 02_network_ports.md). -/
def Reg.NET_GATE_ENABLE (k : Nat) : Reg := ⟨0x2040, k⟩
/-- NET_GCL_ADMIN_BASE (R64, 02_network_ports.md). -/
def Reg.NET_GCL_ADMIN_BASE (k : Nat) : Reg := ⟨0x2041, k⟩
/-- NET_GCL_ADMIN_CYCLE (R64, 02_network_ports.md). -/
def Reg.NET_GCL_ADMIN_CYCLE (k : Nat) : Reg := ⟨0x2042, k⟩
/-- NET_GCL_ADMIN_EXT (R64, 02_network_ports.md). -/
def Reg.NET_GCL_ADMIN_EXT (k : Nat) : Reg := ⟨0x2043, k⟩
/-- NET_GCL_ADMIN_LEN (R64, 02_network_ports.md). -/
def Reg.NET_GCL_ADMIN_LEN (k : Nat) : Reg := ⟨0x2044, k⟩
/-- NET_GCL_ADMIN_NETA (R64, 02_network_ports.md). -/
def Reg.NET_GCL_ADMIN_NETA (k : Nat) : Reg := ⟨0x2045, k⟩
/-- NET_GCL_ADMIN_NETB (R64, 02_network_ports.md). -/
def Reg.NET_GCL_ADMIN_NETB (k : Nat) : Reg := ⟨0x2046, k⟩
/-- NET_GCL_CHANGE (R64, 02_network_ports.md). -/
def Reg.NET_GCL_CHANGE (k : Nat) : Reg := ⟨0x2047, k⟩
/-- NET_GCL_CHANGE_TIME (R64, 02_network_ports.md). -/
def Reg.NET_GCL_CHANGE_TIME (k : Nat) : Reg := ⟨0x2048, k⟩
/-- NET_GCL_OPER_BASE (R64, 02_network_ports.md). -/
def Reg.NET_GCL_OPER_BASE (k : Nat) : Reg := ⟨0x2050, k⟩
/-- NET_GCL_OPER_CYCLE (R64, 02_network_ports.md). -/
def Reg.NET_GCL_OPER_CYCLE (k : Nat) : Reg := ⟨0x2051, k⟩
/-- NET_GCL_OPER_EXT (R64, 02_network_ports.md). -/
def Reg.NET_GCL_OPER_EXT (k : Nat) : Reg := ⟨0x2052, k⟩
/-- NET_GCL_OPER_LEN (R64, 02_network_ports.md). -/
def Reg.NET_GCL_OPER_LEN (k : Nat) : Reg := ⟨0x2053, k⟩
/-- NET_GCL_OPER_CHANGES (R64, 02_network_ports.md). -/
def Reg.NET_GCL_OPER_CHANGES (k : Nat) : Reg := ⟨0x2054, k⟩
/-- NET_GCL_OPER_NETA (R64, 02_network_ports.md). -/
def Reg.NET_GCL_OPER_NETA (k : Nat) : Reg := ⟨0x2055, k⟩
/-- NET_GCL_OPER_NETB (R64, 02_network_ports.md). -/
def Reg.NET_GCL_OPER_NETB (k : Nat) : Reg := ⟨0x2056, k⟩
/-- NETCNT_RX_OCTETS (R68, 02_network_ports.md). -/
def Reg.NETCNT_RX_OCTETS (n : Nat) : Reg := ⟨0x2100 + n, 1⟩
/-- NETCNT_TX_OCTETS (R68, 02_network_ports.md). -/
def Reg.NETCNT_TX_OCTETS (n : Nat) : Reg := ⟨0x2100 + n, 2⟩
/-- NETCNT_RX_FRAMES (R68, 02_network_ports.md). -/
def Reg.NETCNT_RX_FRAMES (n : Nat) : Reg := ⟨0x2100 + n, 3⟩
/-- NETCNT_RX_UNICAST (R68, 02_network_ports.md). -/
def Reg.NETCNT_RX_UNICAST (n : Nat) : Reg := ⟨0x2100 + n, 4⟩
/-- NETCNT_RX_MULTICAST (R68, 02_network_ports.md). -/
def Reg.NETCNT_RX_MULTICAST (n : Nat) : Reg := ⟨0x2100 + n, 5⟩
/-- NETCNT_RX_BROADCAST (R68, 02_network_ports.md). -/
def Reg.NETCNT_RX_BROADCAST (n : Nat) : Reg := ⟨0x2100 + n, 6⟩
/-- NETCNT_RX_64 (R68, 02_network_ports.md). -/
def Reg.NETCNT_RX_64 (n : Nat) : Reg := ⟨0x2100 + n, 7⟩
/-- NETCNT_RX_65_127 (R68, 02_network_ports.md). -/
def Reg.NETCNT_RX_65_127 (n : Nat) : Reg := ⟨0x2100 + n, 8⟩
/-- NETCNT_RX_128_255 (R68, 02_network_ports.md). -/
def Reg.NETCNT_RX_128_255 (n : Nat) : Reg := ⟨0x2100 + n, 9⟩
/-- NETCNT_RX_256_511 (R68, 02_network_ports.md). -/
def Reg.NETCNT_RX_256_511 (n : Nat) : Reg := ⟨0x2100 + n, 10⟩
/-- NETCNT_RX_512_1023 (R68, 02_network_ports.md). -/
def Reg.NETCNT_RX_512_1023 (n : Nat) : Reg := ⟨0x2100 + n, 11⟩
/-- NETCNT_RX_1024_1518 (R68, 02_network_ports.md). -/
def Reg.NETCNT_RX_1024_1518 (n : Nat) : Reg := ⟨0x2100 + n, 12⟩
/-- NETCNT_RX_1519_2047 (R68, 02_network_ports.md). -/
def Reg.NETCNT_RX_1519_2047 (n : Nat) : Reg := ⟨0x2100 + n, 13⟩
/-- NETCNT_RX_2048_4095 (R68, 02_network_ports.md). -/
def Reg.NETCNT_RX_2048_4095 (n : Nat) : Reg := ⟨0x2100 + n, 14⟩
/-- NETCNT_RX_4096_9216 (R68, 02_network_ports.md). -/
def Reg.NETCNT_RX_4096_9216 (n : Nat) : Reg := ⟨0x2100 + n, 15⟩
/-- NETCNT_RX_FCS_ERROR (R68, 02_network_ports.md). -/
def Reg.NETCNT_RX_FCS_ERROR (n : Nat) : Reg := ⟨0x2100 + n, 16⟩
/-- NETCNT_RX_STOMPED (R68, 02_network_ports.md). -/
def Reg.NETCNT_RX_STOMPED (n : Nat) : Reg := ⟨0x2100 + n, 17⟩
/-- NETCNT_RX_UNDERSIZE (R68, 02_network_ports.md). -/
def Reg.NETCNT_RX_UNDERSIZE (n : Nat) : Reg := ⟨0x2100 + n, 18⟩
/-- NETCNT_RX_FRAGMENT (R68, 02_network_ports.md). -/
def Reg.NETCNT_RX_FRAGMENT (n : Nat) : Reg := ⟨0x2100 + n, 19⟩
/-- NETCNT_RX_OVERSIZE (R68, 02_network_ports.md). -/
def Reg.NETCNT_RX_OVERSIZE (n : Nat) : Reg := ⟨0x2100 + n, 20⟩
/-- NETCNT_RX_JABBER (R68, 02_network_ports.md). -/
def Reg.NETCNT_RX_JABBER (n : Nat) : Reg := ⟨0x2100 + n, 21⟩
/-- NETCNT_RX_CODE_ERROR (R68, 02_network_ports.md). -/
def Reg.NETCNT_RX_CODE_ERROR (n : Nat) : Reg := ⟨0x2100 + n, 22⟩
/-- NETCNT_RX_PAUSE (R68, 02_network_ports.md). -/
def Reg.NETCNT_RX_PAUSE (n : Nat) : Reg := ⟨0x2100 + n, 23⟩
/-- NETCNT_RX_VLAN_TAGGED (R68, 02_network_ports.md). -/
def Reg.NETCNT_RX_VLAN_TAGGED (n : Nat) : Reg := ⟨0x2100 + n, 24⟩
/-- NETCNT_RX_LOCAL (R68, 02_network_ports.md). -/
def Reg.NETCNT_RX_LOCAL (n : Nat) : Reg := ⟨0x2100 + n, 25⟩
/-- NETCNT_RX_NOT_LOCAL (R68, 02_network_ports.md). -/
def Reg.NETCNT_RX_NOT_LOCAL (n : Nat) : Reg := ⟨0x2100 + n, 26⟩
/-- NETCNT_RX_HASH_FALSE_ACCEPT (R68, 02_network_ports.md). -/
def Reg.NETCNT_RX_HASH_FALSE_ACCEPT (n : Nat) : Reg := ⟨0x2100 + n, 27⟩
/-- NETCNT_RX_STREAM_MISS (R68, 02_network_ports.md). -/
def Reg.NETCNT_RX_STREAM_MISS (n : Nat) : Reg := ⟨0x2100 + n, 28⟩
/-- NETCNT_RX_FRAGMENT_IPV4 (R68, 02_network_ports.md). -/
def Reg.NETCNT_RX_FRAGMENT_IPV4 (n : Nat) : Reg := ⟨0x2100 + n, 29⟩
/-- NETCNT_RX_BUFFER_DROP (R68, 02_network_ports.md). -/
def Reg.NETCNT_RX_BUFFER_DROP (n : Nat) : Reg := ⟨0x2100 + n, 30⟩
/-- NETCNT_RX_ECC_CORRECTED (R68, 02_network_ports.md). -/
def Reg.NETCNT_RX_ECC_CORRECTED (n : Nat) : Reg := ⟨0x2100 + n, 31⟩
/-- NETCNT_RX_ECC_UNCORRECTED (R68, 02_network_ports.md). -/
def Reg.NETCNT_RX_ECC_UNCORRECTED (n : Nat) : Reg := ⟨0x2100 + n, 32⟩
/-- NETCNT_FWD_CUT_THROUGH (R68, 02_network_ports.md). -/
def Reg.NETCNT_FWD_CUT_THROUGH (n : Nat) : Reg := ⟨0x2100 + n, 33⟩
/-- NETCNT_FWD_STORE_FORWARD (R68, 02_network_ports.md). -/
def Reg.NETCNT_FWD_STORE_FORWARD (n : Nat) : Reg := ⟨0x2100 + n, 34⟩
/-- NETCNT_FWD_STOMPED (R68, 02_network_ports.md). -/
def Reg.NETCNT_FWD_STOMPED (n : Nat) : Reg := ⟨0x2100 + n, 35⟩
/-- NETCNT_FWD_NO_LINK (R68, 02_network_ports.md). -/
def Reg.NETCNT_FWD_NO_LINK (n : Nat) : Reg := ⟨0x2100 + n, 36⟩
/-- NETCNT_TX_FRAMES (R68, 02_network_ports.md). -/
def Reg.NETCNT_TX_FRAMES (n : Nat) : Reg := ⟨0x2100 + n, 37⟩
/-- NETCNT_TX_UNICAST (R68, 02_network_ports.md). -/
def Reg.NETCNT_TX_UNICAST (n : Nat) : Reg := ⟨0x2100 + n, 38⟩
/-- NETCNT_TX_MULTICAST (R68, 02_network_ports.md). -/
def Reg.NETCNT_TX_MULTICAST (n : Nat) : Reg := ⟨0x2100 + n, 39⟩
/-- NETCNT_TX_BROADCAST (R68, 02_network_ports.md). -/
def Reg.NETCNT_TX_BROADCAST (n : Nat) : Reg := ⟨0x2100 + n, 40⟩
/-- NETCNT_TX_QUEUE_DROP (R68, 02_network_ports.md). -/
def Reg.NETCNT_TX_QUEUE_DROP (n : Nat) : Reg := ⟨0x2100 + n, 41⟩
/-- NETCNT_TX_OVERSIZE_DISCARD (R68, 02_network_ports.md). -/
def Reg.NETCNT_TX_OVERSIZE_DISCARD (n : Nat) : Reg := ⟨0x2100 + n, 42⟩
/-- NETCNT_TX_TC0 (R68, 02_network_ports.md). -/
def Reg.NETCNT_TX_TC0 (n : Nat) : Reg := ⟨0x2100 + n, 43⟩
/-- NETCNT_TX_TC1 (R68, 02_network_ports.md). -/
def Reg.NETCNT_TX_TC1 (n : Nat) : Reg := ⟨0x2100 + n, 44⟩
/-- NETCNT_TX_TC2 (R68, 02_network_ports.md). -/
def Reg.NETCNT_TX_TC2 (n : Nat) : Reg := ⟨0x2100 + n, 45⟩
/-- NETCNT_TX_TC3 (R68, 02_network_ports.md). -/
def Reg.NETCNT_TX_TC3 (n : Nat) : Reg := ⟨0x2100 + n, 46⟩
/-- NETCNT_TX_TC4 (R68, 02_network_ports.md). -/
def Reg.NETCNT_TX_TC4 (n : Nat) : Reg := ⟨0x2100 + n, 47⟩
/-- NETCNT_TX_TC5 (R68, 02_network_ports.md). -/
def Reg.NETCNT_TX_TC5 (n : Nat) : Reg := ⟨0x2100 + n, 48⟩
/-- NETCNT_TX_TC6 (R68, 02_network_ports.md). -/
def Reg.NETCNT_TX_TC6 (n : Nat) : Reg := ⟨0x2100 + n, 49⟩
/-- NETCNT_TX_TC7 (R68, 02_network_ports.md). -/
def Reg.NETCNT_TX_TC7 (n : Nat) : Reg := ⟨0x2100 + n, 50⟩
/-- NETCNT_PCS_LOCK_LOSS (R68, 02_network_ports.md). -/
def Reg.NETCNT_PCS_LOCK_LOSS (n : Nat) : Reg := ⟨0x2100 + n, 51⟩
/-- NETCNT_FEC_CORRECTED (R68, 02_network_ports.md). -/
def Reg.NETCNT_FEC_CORRECTED (n : Nat) : Reg := ⟨0x2100 + n, 52⟩
/-- NETCNT_FEC_UNCORRECTED (R68, 02_network_ports.md). -/
def Reg.NETCNT_FEC_UNCORRECTED (n : Nat) : Reg := ⟨0x2100 + n, 53⟩
/-- NETCNT_LINK_DOWN (R68, 02_network_ports.md). -/
def Reg.NETCNT_LINK_DOWN (n : Nat) : Reg := ⟨0x2100 + n, 54⟩
/-- NETCNT_RX_IPV4_NOT_LOCAL (R68, 02_network_ports.md). -/
def Reg.NETCNT_RX_IPV4_NOT_LOCAL (n : Nat) : Reg := ⟨0x2100 + n, 55⟩
/-- NET_STREAM_ENABLE (R57, 02_network_ports.md). -/
def Reg.NET_STREAM_ENABLE (n : Nat) : Reg := ⟨0x2400 + n, 1⟩
/-- NET_STREAM_KIND (R57, 02_network_ports.md). -/
def Reg.NET_STREAM_KIND (n : Nat) : Reg := ⟨0x2400 + n, 2⟩
/-- NET_STREAM_GROUP (R57, 02_network_ports.md). -/
def Reg.NET_STREAM_GROUP (n : Nat) : Reg := ⟨0x2400 + n, 3⟩
/-- NET_STREAM_PORT (R57, 02_network_ports.md). -/
def Reg.NET_STREAM_PORT (n : Nat) : Reg := ⟨0x2400 + n, 4⟩
/-- NET_STREAM_ID (R57, 02_network_ports.md). -/
def Reg.NET_STREAM_ID (n : Nat) : Reg := ⟨0x2400 + n, 5⟩
/-- TCK_STATE (R81, 03_tower_clock.md). -/
def Reg.TCK_STATE : Reg := ⟨0x3000, 0⟩
/-- TCK_FLAGS (R81, 03_tower_clock.md). -/
def Reg.TCK_FLAGS : Reg := ⟨0x3001, 0⟩
/-- TCK_TIME (R81, 03_tower_clock.md). -/
def Reg.TCK_TIME (k : Nat) : Reg := ⟨0x3002, k⟩
/-- TCK_OFFSET (R81, 03_tower_clock.md). -/
def Reg.TCK_OFFSET : Reg := ⟨0x3003, 0⟩
/-- TCK_MEAN_PATH (R81, 03_tower_clock.md). -/
def Reg.TCK_MEAN_PATH : Reg := ⟨0x3004, 0⟩
/-- TCK_RATE_PPB (R81, 03_tower_clock.md). -/
def Reg.TCK_RATE_PPB : Reg := ⟨0x3005, 0⟩
/-- TCK_GM_ID (R81, 03_tower_clock.md). -/
def Reg.TCK_GM_ID : Reg := ⟨0x3006, 0⟩
/-- TCK_STEPS (R81, 03_tower_clock.md). -/
def Reg.TCK_STEPS : Reg := ⟨0x3007, 0⟩
/-- TCK_REFUSED (R81, 03_tower_clock.md). -/
def Reg.TCK_REFUSED : Reg := ⟨0x3008, 0⟩
/-- TCK_HOLDOVER_S (R81, 03_tower_clock.md). -/
def Reg.TCK_HOLDOVER_S : Reg := ⟨0x3009, 0⟩
/-- TCK_REACQUIRE_AT (R81, 03_tower_clock.md). -/
def Reg.TCK_REACQUIRE_AT : Reg := ⟨0x300A, 0⟩
/-- TCK_UTC_OFFSET (R81, 03_tower_clock.md). -/
def Reg.TCK_UTC_OFFSET : Reg := ⟨0x300B, 0⟩
/-- TCK_SLAVE_PORT (R81, 03_tower_clock.md). -/
def Reg.TCK_SLAVE_PORT : Reg := ⟨0x300C, 0⟩
/-- TCK_BELL_DIR (R113, 03_tower_clock.md). -/
def Reg.TCK_BELL_DIR (k : Nat) : Reg := ⟨0x3010, k⟩
/-- TCK_PROFILE (R86, 03_tower_clock.md). -/
def Reg.TCK_PROFILE : Reg := ⟨0x3020, 0⟩
/-- TCK_DOMAIN (R86, 03_tower_clock.md). -/
def Reg.TCK_DOMAIN : Reg := ⟨0x3021, 0⟩
/-- TCK_PTP_PORT (R86, 03_tower_clock.md). -/
def Reg.TCK_PTP_PORT : Reg := ⟨0x3022, 0⟩
/-- TCK_TRANSPORT (R86, 03_tower_clock.md). -/
def Reg.TCK_TRANSPORT : Reg := ⟨0x3023, 0⟩
/-- TCK_JUMP_NS (R86, 03_tower_clock.md). -/
def Reg.TCK_JUMP_NS : Reg := ⟨0x3024, 0⟩
/-- TCK_LOCK_NS (R86, 03_tower_clock.md). -/
def Reg.TCK_LOCK_NS : Reg := ⟨0x3025, 0⟩
/-- TCK_HOLDOVER_LIMIT (R86, 03_tower_clock.md). -/
def Reg.TCK_HOLDOVER_LIMIT : Reg := ⟨0x3026, 0⟩
/-- TCK_TS_MODE (R86, 03_tower_clock.md). -/
def Reg.TCK_TS_MODE (k : Nat) : Reg := ⟨0x3027, k⟩
/-- TCK_EXT_DELAY_RX (R86, 03_tower_clock.md). -/
def Reg.TCK_EXT_DELAY_RX (k : Nat) : Reg := ⟨0x3028, k⟩
/-- TCK_EXT_DELAY_TX (R86, 03_tower_clock.md). -/
def Reg.TCK_EXT_DELAY_TX (k : Nat) : Reg := ⟨0x3029, k⟩
/-- TCK_ASYMMETRY (R86, 03_tower_clock.md). -/
def Reg.TCK_ASYMMETRY (k : Nat) : Reg := ⟨0x302A, k⟩
/-- TCK_SW_TS_COMP (R86, 03_tower_clock.md). -/
def Reg.TCK_SW_TS_COMP : Reg := ⟨0x302B, 0⟩
/-- TCK_TS_CONST (R86, 03_tower_clock.md). -/
def Reg.TCK_TS_CONST (k : Nat) : Reg := ⟨0x302C, k⟩
/-- TCK_TURRET_CORRECTED (R106, 03_tower_clock.md). -/
def Reg.TCK_TURRET_CORRECTED (k : Nat) : Reg := ⟨0x3030, k⟩
/-- TCK_TURRET_EXCLUDED (R106, 03_tower_clock.md). -/
def Reg.TCK_TURRET_EXCLUDED : Reg := ⟨0x3031, 0⟩
/-- CMP_ENABLE (R109, 03_tower_clock.md). -/
def Reg.CMP_ENABLE (n : Nat) : Reg := ⟨0x3100 + n, 1⟩
/-- CMP_ACTION (R109, 03_tower_clock.md). -/
def Reg.CMP_ACTION (n : Nat) : Reg := ⟨0x3100 + n, 2⟩
/-- CMP_TARGET (R109, 03_tower_clock.md). -/
def Reg.CMP_TARGET (n : Nat) : Reg := ⟨0x3100 + n, 3⟩
/-- CMP_TARGET_FRAC (R109, 03_tower_clock.md). -/
def Reg.CMP_TARGET_FRAC (n : Nat) : Reg := ⟨0x3100 + n, 4⟩
/-- CMP_PERIOD (R109, 03_tower_clock.md). -/
def Reg.CMP_PERIOD (n : Nat) : Reg := ⟨0x3100 + n, 5⟩
/-- CMP_PERIOD_FRAC (R109, 03_tower_clock.md). -/
def Reg.CMP_PERIOD_FRAC (n : Nat) : Reg := ⟨0x3100 + n, 6⟩
/-- CMP_REPEAT (R109, 03_tower_clock.md). -/
def Reg.CMP_REPEAT (n : Nat) : Reg := ⟨0x3100 + n, 7⟩
/-- CMP_WIDTH (R109, 03_tower_clock.md). -/
def Reg.CMP_WIDTH (n : Nat) : Reg := ⟨0x3100 + n, 8⟩
/-- CMP_POLARITY (R109, 03_tower_clock.md). -/
def Reg.CMP_POLARITY (n : Nat) : Reg := ⟨0x3100 + n, 9⟩
/-- CMP_STEP_POLICY (R109, 03_tower_clock.md). -/
def Reg.CMP_STEP_POLICY (n : Nat) : Reg := ⟨0x3100 + n, 10⟩
/-- CMP_COMMIT (R109, 03_tower_clock.md). -/
def Reg.CMP_COMMIT (n : Nat) : Reg := ⟨0x3100 + n, 11⟩
/-- CMP_FIRED (R109, 03_tower_clock.md). -/
def Reg.CMP_FIRED (n : Nat) : Reg := ⟨0x3100 + n, 12⟩
/-- CMP_LATE (R109, 03_tower_clock.md). -/
def Reg.CMP_LATE (n : Nat) : Reg := ⟨0x3100 + n, 13⟩
/-- CMP_SKIPPED (R109, 03_tower_clock.md). -/
def Reg.CMP_SKIPPED (n : Nat) : Reg := ⟨0x3100 + n, 14⟩
/-- CMP_NEXT (R109, 03_tower_clock.md). -/
def Reg.CMP_NEXT (n : Nat) : Reg := ⟨0x3100 + n, 15⟩
/-- CAP_ENABLE (R114, 03_tower_clock.md). -/
def Reg.CAP_ENABLE (n : Nat) : Reg := ⟨0x3200 + n, 1⟩
/-- CAP_SOURCE (R114, 03_tower_clock.md). -/
def Reg.CAP_SOURCE (n : Nat) : Reg := ⟨0x3200 + n, 2⟩
/-- CAP_EDGE (R114, 03_tower_clock.md). -/
def Reg.CAP_EDGE (n : Nat) : Reg := ⟨0x3200 + n, 3⟩
/-- CAP_DEGLITCH (R114, 03_tower_clock.md). -/
def Reg.CAP_DEGLITCH (n : Nat) : Reg := ⟨0x3200 + n, 4⟩
/-- CAP_EVENT (R114, 03_tower_clock.md). -/
def Reg.CAP_EVENT (n : Nat) : Reg := ⟨0x3200 + n, 5⟩
/-- CAP_POP (R114, 03_tower_clock.md). -/
def Reg.CAP_POP (n : Nat) : Reg := ⟨0x3200 + n, 6⟩
/-- CAP_COUNT (R114, 03_tower_clock.md). -/
def Reg.CAP_COUNT (n : Nat) : Reg := ⟨0x3200 + n, 7⟩
/-- CAP_LOST (R114, 03_tower_clock.md). -/
def Reg.CAP_LOST (n : Nat) : Reg := ⟨0x3200 + n, 8⟩
/-- ING_LAYER_ENABLE (R118, 04_welaepor_ingest.md). -/
def Reg.ING_LAYER_ENABLE (n : Nat) : Reg := ⟨0x4100 + n, 1⟩
/-- ING_SRC_ENTRY (R118, 04_welaepor_ingest.md). -/
def Reg.ING_SRC_ENTRY (n : Nat) : Reg := ⟨0x4100 + n, 2⟩
/-- ING_CANVAS_X (R118, 04_welaepor_ingest.md). -/
def Reg.ING_CANVAS_X (n : Nat) : Reg := ⟨0x4100 + n, 3⟩
/-- ING_CANVAS_Y (R118, 04_welaepor_ingest.md). -/
def Reg.ING_CANVAS_Y (n : Nat) : Reg := ⟨0x4100 + n, 4⟩
/-- ING_LAYER_W (R118, 04_welaepor_ingest.md). -/
def Reg.ING_LAYER_W (n : Nat) : Reg := ⟨0x4100 + n, 5⟩
/-- ING_LAYER_H (R118, 04_welaepor_ingest.md). -/
def Reg.ING_LAYER_H (n : Nat) : Reg := ⟨0x4100 + n, 6⟩
/-- ING_FORMAT (R118, 04_welaepor_ingest.md). -/
def Reg.ING_FORMAT (n : Nat) : Reg := ⟨0x4100 + n, 7⟩
/-- ING_LEAD_MIN (R118, 04_welaepor_ingest.md). -/
def Reg.ING_LEAD_MIN (n : Nat) : Reg := ⟨0x4100 + n, 8⟩
/-- ING_TIMEOUT (R118, 04_welaepor_ingest.md). -/
def Reg.ING_TIMEOUT (n : Nat) : Reg := ⟨0x4100 + n, 9⟩
/-- ING_2110_DELAY (R118, 04_welaepor_ingest.md). -/
def Reg.ING_2110_DELAY (n : Nat) : Reg := ⟨0x4100 + n, 10⟩
/-- ING_CROP_X (R118, 04_welaepor_ingest.md). -/
def Reg.ING_CROP_X (n : Nat) : Reg := ⟨0x4100 + n, 11⟩
/-- ING_CROP_Y (R118, 04_welaepor_ingest.md). -/
def Reg.ING_CROP_Y (n : Nat) : Reg := ⟨0x4100 + n, 12⟩
/-- ING_CROP_W (R118, 04_welaepor_ingest.md). -/
def Reg.ING_CROP_W (n : Nat) : Reg := ⟨0x4100 + n, 13⟩
/-- ING_CROP_H (R118, 04_welaepor_ingest.md). -/
def Reg.ING_CROP_H (n : Nat) : Reg := ⟨0x4100 + n, 14⟩
/-- ING_SCALE_FILTER (R118, 04_welaepor_ingest.md). -/
def Reg.ING_SCALE_FILTER (n : Nat) : Reg := ⟨0x4100 + n, 15⟩
/-- ING_CROP_EDGE (R118, 04_welaepor_ingest.md). -/
def Reg.ING_CROP_EDGE (n : Nat) : Reg := ⟨0x4100 + n, 16⟩
/-- ING_2110_RASTER (R118, 04_welaepor_ingest.md). -/
def Reg.ING_2110_RASTER (n : Nat) : Reg := ⟨0x4100 + n, 17⟩
/-- ING_2110_RATE (R118, 04_welaepor_ingest.md). -/
def Reg.ING_2110_RATE (n : Nat) : Reg := ⟨0x4100 + n, 18⟩
/-- ING_2110_SAMPLING (R118, 04_welaepor_ingest.md). -/
def Reg.ING_2110_SAMPLING (n : Nat) : Reg := ⟨0x4100 + n, 19⟩
/-- ING_2110_DEPTH (R118, 04_welaepor_ingest.md). -/
def Reg.ING_2110_DEPTH (n : Nat) : Reg := ⟨0x4100 + n, 20⟩
/-- ING_2110_COLORIMETRY (R118, 04_welaepor_ingest.md). -/
def Reg.ING_2110_COLORIMETRY (n : Nat) : Reg := ⟨0x4100 + n, 21⟩
/-- ING_2110_RANGE (R118, 04_welaepor_ingest.md). -/
def Reg.ING_2110_RANGE (n : Nat) : Reg := ⟨0x4100 + n, 22⟩
/-- ING_LAYER_PITCH (R118, 04_welaepor_ingest.md). -/
def Reg.ING_LAYER_PITCH (n : Nat) : Reg := ⟨0x4100 + n, 23⟩
/-- INGCNT_FRAMES_ACCEPTED (R147, 04_welaepor_ingest.md). -/
def Reg.INGCNT_FRAMES_ACCEPTED (n : Nat) : Reg := ⟨0x4300 + n, 1⟩
/-- INGCNT_SHOWN (R147, 04_welaepor_ingest.md). -/
def Reg.INGCNT_SHOWN (n : Nat) : Reg := ⟨0x4300 + n, 2⟩
/-- INGCNT_EARLY (R147, 04_welaepor_ingest.md). -/
def Reg.INGCNT_EARLY (n : Nat) : Reg := ⟨0x4300 + n, 3⟩
/-- INGCNT_LATE_START (R147, 04_welaepor_ingest.md). -/
def Reg.INGCNT_LATE_START (n : Nat) : Reg := ⟨0x4300 + n, 4⟩
/-- INGCNT_LATE (R147, 04_welaepor_ingest.md). -/
def Reg.INGCNT_LATE (n : Nat) : Reg := ⟨0x4300 + n, 5⟩
/-- INGCNT_INCOMPLETE (R147, 04_welaepor_ingest.md). -/
def Reg.INGCNT_INCOMPLETE (n : Nat) : Reg := ⟨0x4300 + n, 6⟩
/-- INGCNT_CRC_ERROR (R147, 04_welaepor_ingest.md). -/
def Reg.INGCNT_CRC_ERROR (n : Nat) : Reg := ⟨0x4300 + n, 7⟩
/-- INGCNT_FORMAT_ERROR (R147, 04_welaepor_ingest.md). -/
def Reg.INGCNT_FORMAT_ERROR (n : Nat) : Reg := ⟨0x4300 + n, 8⟩
/-- INGCNT_DUPLICATE (R147, 04_welaepor_ingest.md). -/
def Reg.INGCNT_DUPLICATE (n : Nat) : Reg := ⟨0x4300 + n, 9⟩
/-- INGCNT_REPLACED (R147, 04_welaepor_ingest.md). -/
def Reg.INGCNT_REPLACED (n : Nat) : Reg := ⟨0x4300 + n, 10⟩
/-- INGCNT_SKIPPED (R147, 04_welaepor_ingest.md). -/
def Reg.INGCNT_SKIPPED (n : Nat) : Reg := ⟨0x4300 + n, 11⟩
/-- INGCNT_NOT_READY (R147, 04_welaepor_ingest.md). -/
def Reg.INGCNT_NOT_READY (n : Nat) : Reg := ⟨0x4300 + n, 12⟩
/-- INGCNT_CREDIT_WAIT (R147, 04_welaepor_ingest.md). -/
def Reg.INGCNT_CREDIT_WAIT (n : Nat) : Reg := ⟨0x4300 + n, 13⟩
/-- INGCNT_RING_COPY (R147, 04_welaepor_ingest.md). -/
def Reg.INGCNT_RING_COPY (n : Nat) : Reg := ⟨0x4300 + n, 14⟩
/-- INGCNT_PACKETS_LOST (R147, 04_welaepor_ingest.md). -/
def Reg.INGCNT_PACKETS_LOST (n : Nat) : Reg := ⟨0x4300 + n, 15⟩
/-- INGCNT_NO_TIME (R147, 04_welaepor_ingest.md). -/
def Reg.INGCNT_NO_TIME (n : Nat) : Reg := ⟨0x4300 + n, 16⟩
/-- INGCNT_PAGE_CHECK_FAIL (R147, 04_welaepor_ingest.md). -/
def Reg.INGCNT_PAGE_CHECK_FAIL (n : Nat) : Reg := ⟨0x4300 + n, 17⟩
/-- INGCNT_PACKET_FORMAT_ERROR (R147, 04_welaepor_ingest.md). -/
def Reg.INGCNT_PACKET_FORMAT_ERROR (n : Nat) : Reg := ⟨0x4300 + n, 18⟩
/-- INGCNT_UNBOUND (R147, 04_welaepor_ingest.md). -/
def Reg.INGCNT_UNBOUND (n : Nat) : Reg := ⟨0x4300 + n, 19⟩
/-- INGCNT_FENCE_MSG_ERROR (R147, 04_welaepor_ingest.md). -/
def Reg.INGCNT_FENCE_MSG_ERROR (n : Nat) : Reg := ⟨0x4300 + n, 20⟩
/-- BEL_STATE (R183, 05_belfry_scheduler.md). -/
def Reg.BEL_STATE : Reg := ⟨0x5000, 0⟩
/-- BEL_UCODE_VERSION (R183, 05_belfry_scheduler.md). -/
def Reg.BEL_UCODE_VERSION : Reg := ⟨0x5001, 0⟩
/-- BEL_ENGINES_ACTIVE (R183, 05_belfry_scheduler.md). -/
def Reg.BEL_ENGINES_ACTIVE : Reg := ⟨0x5002, 0⟩
/-- BEL_SLOT_RESERVE (R183, 05_belfry_scheduler.md). -/
def Reg.BEL_SLOT_RESERVE : Reg := ⟨0x5003, 0⟩
/-- BEL_SLOTS_FREE (R183, 05_belfry_scheduler.md). -/
def Reg.BEL_SLOTS_FREE : Reg := ⟨0x5004, 0⟩
/-- BEL_URGENT_NS (R183, 05_belfry_scheduler.md). -/
def Reg.BEL_URGENT_NS : Reg := ⟨0x5005, 0⟩
/-- BEL_BUDGET_PCT (R183, 05_belfry_scheduler.md). -/
def Reg.BEL_BUDGET_PCT : Reg := ⟨0x5006, 0⟩
/-- BEL_LAST_GRAPH (R183, 05_belfry_scheduler.md). -/
def Reg.BEL_LAST_GRAPH (k : Nat) : Reg := ⟨0x5007, k⟩
/-- BEL_TRACE_ENABLE (R183, 05_belfry_scheduler.md). -/
def Reg.BEL_TRACE_ENABLE : Reg := ⟨0x5020, 0⟩
/-- BEL_TRACE_FILTER (R183, 05_belfry_scheduler.md). -/
def Reg.BEL_TRACE_FILTER : Reg := ⟨0x5021, 0⟩
/-- BEL_TRACE_SIZE (R183, 05_belfry_scheduler.md). -/
def Reg.BEL_TRACE_SIZE : Reg := ⟨0x5022, 0⟩
/-- BEL_TRACE_WRITE_SEQ (R183, 05_belfry_scheduler.md). -/
def Reg.BEL_TRACE_WRITE_SEQ : Reg := ⟨0x5023, 0⟩
/-- BEL_TRACE_READ_POS (R183, 05_belfry_scheduler.md). -/
def Reg.BEL_TRACE_READ_POS : Reg := ⟨0x5024, 0⟩
/-- BEL_TRACE_MARK (R183, 05_belfry_scheduler.md). -/
def Reg.BEL_TRACE_MARK : Reg := ⟨0x5025, 0⟩
/-- BEL_TRACE_REWIND (R183, 05_belfry_scheduler.md). -/
def Reg.BEL_TRACE_REWIND : Reg := ⟨0x5026, 0⟩
/-- BEL_TRACE_READ (R183, 05_belfry_scheduler.md). -/
def Reg.BEL_TRACE_READ : Reg := ⟨0x5027, 0⟩
/-- BEL_TRACE_FLAGS (R183, 05_belfry_scheduler.md). -/
def Reg.BEL_TRACE_FLAGS : Reg := ⟨0x5028, 0⟩
/-- BEL_DELAY_DEPTH (R183, 05_belfry_scheduler.md). -/
def Reg.BEL_DELAY_DEPTH (k : Nat) : Reg := ⟨0x5030, k⟩
/-- BEL_Q_DEPTH (R184, 05_belfry_scheduler.md). -/
def Reg.BEL_Q_DEPTH (k : Nat) : Reg := ⟨0x5100, k⟩
/-- BEL_Q_DEPTH_MAX (R184, 05_belfry_scheduler.md). -/
def Reg.BEL_Q_DEPTH_MAX (k : Nat) : Reg := ⟨0x5101, k⟩
/-- BEL_WAIT_MEAN (R184, 05_belfry_scheduler.md). -/
def Reg.BEL_WAIT_MEAN (k : Nat) : Reg := ⟨0x5102, k⟩
/-- BEL_WAIT_MAX (R184, 05_belfry_scheduler.md). -/
def Reg.BEL_WAIT_MAX (k : Nat) : Reg := ⟨0x5103, k⟩
/-- BEL_ENGINE_LOAD (R184, 05_belfry_scheduler.md). -/
def Reg.BEL_ENGINE_LOAD (k : Nat) : Reg := ⟨0x5104, k⟩
/-- BEL_STATS_WINDOW (R184, 05_belfry_scheduler.md). -/
def Reg.BEL_STATS_WINDOW : Reg := ⟨0x5105, 0⟩
/-- BELCNT_OPS_DISPATCHED (R185, 05_belfry_scheduler.md). -/
def Reg.BELCNT_OPS_DISPATCHED : Reg := ⟨0x5200, 1⟩
/-- BELCNT_OPS_CANCELLED (R185, 05_belfry_scheduler.md). -/
def Reg.BELCNT_OPS_CANCELLED : Reg := ⟨0x5200, 2⟩
/-- BELCNT_OPS_SQUASHED (R185, 05_belfry_scheduler.md). -/
def Reg.BELCNT_OPS_SQUASHED : Reg := ⟨0x5200, 3⟩
/-- BELCNT_SQUASHES (R185, 05_belfry_scheduler.md). -/
def Reg.BELCNT_SQUASHES : Reg := ⟨0x5200, 4⟩
/-- BELCNT_OPS_TIMED_OUT (R185, 05_belfry_scheduler.md). -/
def Reg.BELCNT_OPS_TIMED_OUT : Reg := ⟨0x5200, 5⟩
/-- BELCNT_LAMP_LATE (R185, 05_belfry_scheduler.md). -/
def Reg.BELCNT_LAMP_LATE : Reg := ⟨0x5200, 6⟩
/-- BELCNT_SLOT_STALLS (R185, 05_belfry_scheduler.md). -/
def Reg.BELCNT_SLOT_STALLS : Reg := ⟨0x5200, 7⟩
/-- BELCNT_WATCHDOG (R185, 05_belfry_scheduler.md). -/
def Reg.BELCNT_WATCHDOG : Reg := ⟨0x5200, 8⟩
/-- BELCNT_OVER_BUDGET (R185, 05_belfry_scheduler.md). -/
def Reg.BELCNT_OVER_BUDGET : Reg := ⟨0x5200, 9⟩
/-- BELCNT_TRACE_RECORDS (R185, 05_belfry_scheduler.md). -/
def Reg.BELCNT_TRACE_RECORDS : Reg := ⟨0x5200, 10⟩
/-- BELCNT_TRACE_LOST (R185, 05_belfry_scheduler.md). -/
def Reg.BELCNT_TRACE_LOST : Reg := ⟨0x5200, 11⟩
/-- CUP_BACKGROUND (R214, 06_cupola_composition.md). -/
def Reg.CUP_BACKGROUND : Reg := ⟨0x6000, 0⟩
/-- CUP_ORDER_ADMIN_MODE (R214, 06_cupola_composition.md). -/
def Reg.CUP_ORDER_ADMIN_MODE : Reg := ⟨0x6001, 0⟩
/-- CUP_ORDER_ADMIN (R214, 06_cupola_composition.md). -/
def Reg.CUP_ORDER_ADMIN (k : Nat) : Reg := ⟨0x6002, k⟩
/-- CUP_ORDER_CHANGE (R214, 06_cupola_composition.md). -/
def Reg.CUP_ORDER_CHANGE : Reg := ⟨0x6003, 0⟩
/-- CUP_ORDER_OPER_MODE (R214, 06_cupola_composition.md). -/
def Reg.CUP_ORDER_OPER_MODE : Reg := ⟨0x6004, 0⟩
/-- CUP_ORDER_OPER (R214, 06_cupola_composition.md). -/
def Reg.CUP_ORDER_OPER (k : Nat) : Reg := ⟨0x6005, k⟩
/-- CUP_ORDER_EPOCH (R214, 06_cupola_composition.md). -/
def Reg.CUP_ORDER_EPOCH : Reg := ⟨0x6006, 0⟩
/-- CUP_COPY_FORMAT (R214, 06_cupola_composition.md). -/
def Reg.CUP_COPY_FORMAT : Reg := ⟨0x6007, 0⟩
/-- CUP_BLEND (R214, 06_cupola_composition.md). -/
def Reg.CUP_BLEND (n : Nat) : Reg := ⟨0x6100 + n, 1⟩
/-- CUP_ALPHA (R214, 06_cupola_composition.md). -/
def Reg.CUP_ALPHA (n : Nat) : Reg := ⟨0x6100 + n, 2⟩
/-- CUP_KEY (R214, 06_cupola_composition.md). -/
def Reg.CUP_KEY (n : Nat) : Reg := ⟨0x6100 + n, 3⟩
/-- CUP_KEY_TOL (R214, 06_cupola_composition.md). -/
def Reg.CUP_KEY_TOL (n : Nat) : Reg := ⟨0x6100 + n, 4⟩
/-- CUP_OPAQUE_DECL (R214, 06_cupola_composition.md). -/
def Reg.CUP_OPAQUE_DECL (n : Nat) : Reg := ⟨0x6100 + n, 5⟩
/-- CUP_OPAQUE_X (R214, 06_cupola_composition.md). -/
def Reg.CUP_OPAQUE_X (n : Nat) : Reg := ⟨0x6100 + n, 6⟩
/-- CUP_OPAQUE_Y (R214, 06_cupola_composition.md). -/
def Reg.CUP_OPAQUE_Y (n : Nat) : Reg := ⟨0x6100 + n, 7⟩
/-- CUP_OPAQUE_W (R214, 06_cupola_composition.md). -/
def Reg.CUP_OPAQUE_W (n : Nat) : Reg := ⟨0x6100 + n, 8⟩
/-- CUP_OPAQUE_H (R214, 06_cupola_composition.md). -/
def Reg.CUP_OPAQUE_H (n : Nat) : Reg := ⟨0x6100 + n, 9⟩
/-- CUP_FLIP_GROUP (R214, 06_cupola_composition.md). -/
def Reg.CUP_FLIP_GROUP (n : Nat) : Reg := ⟨0x6100 + n, 10⟩
/-- CUP_FIN_ENABLE (R214, 06_cupola_composition.md). -/
def Reg.CUP_FIN_ENABLE : Reg := ⟨0x6200, 0⟩
/-- CUP_FIN_KEY (R214, 06_cupola_composition.md). -/
def Reg.CUP_FIN_KEY : Reg := ⟨0x6201, 0⟩
/-- CUP_FIN_KEY_ID (R214, 06_cupola_composition.md). -/
def Reg.CUP_FIN_KEY_ID : Reg := ⟨0x6202, 0⟩
/-- CUP_FIN_PORT (R214, 06_cupola_composition.md). -/
def Reg.CUP_FIN_PORT : Reg := ⟨0x6203, 0⟩
/-- CUP_FIN_STALE_MS (R214, 06_cupola_composition.md). -/
def Reg.CUP_FIN_STALE_MS : Reg := ⟨0x6204, 0⟩
/-- CUP_FIN_STALE_ACTION (R214, 06_cupola_composition.md). -/
def Reg.CUP_FIN_STALE_ACTION (k : Nat) : Reg := ⟨0x6205, k⟩
/-- CUP_FIN_WINDOW_MS (R214, 06_cupola_composition.md). -/
def Reg.CUP_FIN_WINDOW_MS : Reg := ⟨0x6206, 0⟩
/-- CUP_FIN_FAIL_COLOUR (R214, 06_cupola_composition.md). -/
def Reg.CUP_FIN_FAIL_COLOUR : Reg := ⟨0x6207, 0⟩
/-- CUP_FIN_STATE (R214, 06_cupola_composition.md). -/
def Reg.CUP_FIN_STATE : Reg := ⟨0x6208, 0⟩
/-- CUP_FIN_ASSERTED (R214, 06_cupola_composition.md). -/
def Reg.CUP_FIN_ASSERTED : Reg := ⟨0x6209, 0⟩
/-- CUP_FIN_REGION (R214, 06_cupola_composition.md). -/
def Reg.CUP_FIN_REGION (k : Nat) : Reg := ⟨0x620A, k⟩
/-- CUP_PREVIEW_RECT (R214, 06_cupola_composition.md). -/
def Reg.CUP_PREVIEW_RECT (k : Nat) : Reg := ⟨0x6300, k⟩
/-- CUP_PREVIEW_TAKE (R214, 06_cupola_composition.md). -/
def Reg.CUP_PREVIEW_TAKE : Reg := ⟨0x6301, 0⟩
/-- CUP_PREVIEW_READ (R214, 06_cupola_composition.md). -/
def Reg.CUP_PREVIEW_READ : Reg := ⟨0x6302, 0⟩
/-- CUPCNT_FLIPS (R215, 06_cupola_composition.md). -/
def Reg.CUPCNT_FLIPS (n : Nat) : Reg := ⟨0x6400 + n, 1⟩
/-- CUPCNT_HELD_FENCE (R215, 06_cupola_composition.md). -/
def Reg.CUPCNT_HELD_FENCE (n : Nat) : Reg := ⟨0x6400 + n, 2⟩
/-- CUPCNT_HELD_GROUP (R215, 06_cupola_composition.md). -/
def Reg.CUPCNT_HELD_GROUP (n : Nat) : Reg := ⟨0x6400 + n, 3⟩
/-- CUPCNT_FENCE_ABANDONED (R215, 06_cupola_composition.md). -/
def Reg.CUPCNT_FENCE_ABANDONED (n : Nat) : Reg := ⟨0x6400 + n, 4⟩
/-- CUPCNT_FENCE_UNMATCHED (R215, 06_cupola_composition.md). -/
def Reg.CUPCNT_FENCE_UNMATCHED (n : Nat) : Reg := ⟨0x6400 + n, 5⟩
/-- CUPCNT_BRICKS_HIDDEN (R215, 06_cupola_composition.md). -/
def Reg.CUPCNT_BRICKS_HIDDEN (n : Nat) : Reg := ⟨0x6400 + n, 6⟩
/-- CUPCNT_BRICKS_TRANSPARENT (R215, 06_cupola_composition.md). -/
def Reg.CUPCNT_BRICKS_TRANSPARENT (n : Nat) : Reg := ⟨0x6400 + n, 7⟩
/-- FINCNT_MSG_ACCEPTED (R215, 06_cupola_composition.md). -/
def Reg.FINCNT_MSG_ACCEPTED : Reg := ⟨0x6408, 1⟩
/-- FINCNT_MSG_FORMAT (R215, 06_cupola_composition.md). -/
def Reg.FINCNT_MSG_FORMAT : Reg := ⟨0x6408, 2⟩
/-- FINCNT_MSG_TAG_FAIL (R215, 06_cupola_composition.md). -/
def Reg.FINCNT_MSG_TAG_FAIL : Reg := ⟨0x6408, 3⟩
/-- FINCNT_MSG_REPEAT (R215, 06_cupola_composition.md). -/
def Reg.FINCNT_MSG_REPEAT : Reg := ⟨0x6408, 4⟩
/-- FINCNT_MSG_LOST (R215, 06_cupola_composition.md). -/
def Reg.FINCNT_MSG_LOST : Reg := ⟨0x6408, 5⟩
/-- FINCNT_CONTENT_CHECK_FAIL (R215, 06_cupola_composition.md). -/
def Reg.FINCNT_CONTENT_CHECK_FAIL : Reg := ⟨0x6408, 6⟩
/-- FINCNT_PAGE_REPAIRED (R215, 06_cupola_composition.md). -/
def Reg.FINCNT_PAGE_REPAIRED : Reg := ⟨0x6408, 7⟩
/-- FINCNT_PAGE_BLANKED (R215, 06_cupola_composition.md). -/
def Reg.FINCNT_PAGE_BLANKED : Reg := ⟨0x6408, 8⟩
/-- FINCNT_DECISION_CORRECTED (R215, 06_cupola_composition.md). -/
def Reg.FINCNT_DECISION_CORRECTED : Reg := ⟨0x6408, 9⟩
/-- FINCNT_STALE (R215, 06_cupola_composition.md). -/
def Reg.FINCNT_STALE : Reg := ⟨0x6408, 10⟩
/-- CAL_STATE (R243, 07_calibration.md). -/
def Reg.CAL_STATE : Reg := ⟨0x7000, 0⟩
/-- CAL_UNCAL_ACTION (R243, 07_calibration.md). -/
def Reg.CAL_UNCAL_ACTION : Reg := ⟨0x7001, 0⟩
/-- CAL_NOMINAL_RGB (R243, 07_calibration.md). -/
def Reg.CAL_NOMINAL_RGB (k : Nat) : Reg := ⟨0x7002, k⟩
/-- CAL_NOMINAL_RGBW (R243, 07_calibration.md). -/
def Reg.CAL_NOMINAL_RGBW (k : Nat) : Reg := ⟨0x7003, k⟩
/-- CAL_REBLEND_STEP (R243, 07_calibration.md). -/
def Reg.CAL_REBLEND_STEP : Reg := ⟨0x7004, 0⟩
/-- CAL_REFRESH_S (R243, 07_calibration.md). -/
def Reg.CAL_REFRESH_S : Reg := ⟨0x7005, 0⟩
/-- CAL_TEMP_POLL_MS (R243, 07_calibration.md). -/
def Reg.CAL_TEMP_POLL_MS : Reg := ⟨0x7006, 0⟩
/-- CAL_SCRUB_PERIOD_S (R243, 07_calibration.md). -/
def Reg.CAL_SCRUB_PERIOD_S : Reg := ⟨0x7007, 0⟩
/-- CAL_SPARE_POLICY (R243, 07_calibration.md). -/
def Reg.CAL_SPARE_POLICY : Reg := ⟨0x7008, 0⟩
/-- CAL_RECAL_TOL (R243, 07_calibration.md). -/
def Reg.CAL_RECAL_TOL : Reg := ⟨0x7009, 0⟩
/-- CAL_ZONE_SOURCE (R243, 07_calibration.md). -/
def Reg.CAL_ZONE_SOURCE (n : Nat) : Reg := ⟨0x7100 + n, 1⟩
/-- CAL_ZONE_NTC (R243, 07_calibration.md). -/
def Reg.CAL_ZONE_NTC (n : Nat) : Reg := ⟨0x7100 + n, 2⟩
/-- CAL_ZONE_OFFSET (R243, 07_calibration.md). -/
def Reg.CAL_ZONE_OFFSET (n : Nat) : Reg := ⟨0x7100 + n, 3⟩
/-- ZONE_TEMP (R243, 07_calibration.md). -/
def Reg.ZONE_TEMP (n : Nat) : Reg := ⟨0x7100 + n, 4⟩
/-- ZONE_BLEND_TEMP (R243, 07_calibration.md). -/
def Reg.ZONE_BLEND_TEMP (n : Nat) : Reg := ⟨0x7100 + n, 5⟩
/-- ZONE_FLAGS (R243, 07_calibration.md). -/
def Reg.ZONE_FLAGS (n : Nat) : Reg := ⟨0x7100 + n, 6⟩
/-- ZONE_PASSES (R243, 07_calibration.md). -/
def Reg.ZONE_PASSES (n : Nat) : Reg := ⟨0x7100 + n, 7⟩
/-- CAL_MODULE_ZONE (R243, 07_calibration.md). -/
def Reg.CAL_MODULE_ZONE (n k : Nat) : Reg := ⟨0x7200 + n, k⟩
/-- CAL_MODULE_STATUS (R243, 07_calibration.md). -/
def Reg.CAL_MODULE_STATUS (n k : Nat) : Reg := ⟨0x7300 + n, k⟩
/-- CAL_SPARE_CMD (R243, 07_calibration.md). -/
def Reg.CAL_SPARE_CMD (k : Nat) : Reg := ⟨0x7400, k⟩
/-- CAL_SPARE_COMMIT (R243, 07_calibration.md). -/
def Reg.CAL_SPARE_COMMIT : Reg := ⟨0x7400, 5⟩
/-- CAL_RECAL_TARGET (R243, 07_calibration.md). -/
def Reg.CAL_RECAL_TARGET (k : Nat) : Reg := ⟨0x7410, k⟩
/-- CAL_RECAL_PASS1 (R243, 07_calibration.md). -/
def Reg.CAL_RECAL_PASS1 : Reg := ⟨0x7410, 3⟩
/-- CAL_RECAL_PASS2 (R243, 07_calibration.md). -/
def Reg.CAL_RECAL_PASS2 : Reg := ⟨0x7410, 4⟩
/-- CAL_RECAL_STATUS (R243, 07_calibration.md). -/
def Reg.CAL_RECAL_STATUS : Reg := ⟨0x7410, 5⟩
/-- CAL_RECAL_DEVIATION (R243, 07_calibration.md). -/
def Reg.CAL_RECAL_DEVIATION : Reg := ⟨0x7410, 6⟩
/-- CAL_TRIM_STATE (R243, 07_calibration.md). -/
def Reg.CAL_TRIM_STATE : Reg := ⟨0x7500, 0⟩
/-- CAL_TRIM_MEASURE (R243, 07_calibration.md). -/
def Reg.CAL_TRIM_MEASURE : Reg := ⟨0x7501, 0⟩
/-- CAL_TRIM_WRITES (R243, 07_calibration.md). -/
def Reg.CAL_TRIM_WRITES : Reg := ⟨0x7502, 0⟩
/-- CAL_SINK_TRIM (R243, 07_calibration.md). -/
def Reg.CAL_SINK_TRIM (n k : Nat) : Reg := ⟨0x7600 + n, k⟩
/-- CALCNT_PAGES_FETCHED (R244, 07_calibration.md). -/
def Reg.CALCNT_PAGES_FETCHED : Reg := ⟨0x7800, 1⟩
/-- CALCNT_PAGE_FETCH_RETRY (R244, 07_calibration.md). -/
def Reg.CALCNT_PAGE_FETCH_RETRY : Reg := ⟨0x7800, 2⟩
/-- CALCNT_PAGE_FETCH_FAIL (R244, 07_calibration.md). -/
def Reg.CALCNT_PAGE_FETCH_FAIL : Reg := ⟨0x7800, 3⟩
/-- CALCNT_SCRUB_PAGES (R244, 07_calibration.md). -/
def Reg.CALCNT_SCRUB_PAGES : Reg := ⟨0x7800, 4⟩
/-- CALCNT_CHECK_WORD_REPAIRED (R244, 07_calibration.md). -/
def Reg.CALCNT_CHECK_WORD_REPAIRED : Reg := ⟨0x7800, 5⟩
/-- CALCNT_COPY_REPAIRED (R244, 07_calibration.md). -/
def Reg.CALCNT_COPY_REPAIRED : Reg := ⟨0x7800, 6⟩
/-- CALCNT_PAGE_REFETCHED (R244, 07_calibration.md). -/
def Reg.CALCNT_PAGE_REFETCHED : Reg := ⟨0x7800, 7⟩
/-- CALCNT_PASSES (R244, 07_calibration.md). -/
def Reg.CALCNT_PASSES : Reg := ⟨0x7800, 8⟩
/-- CALCNT_PASSES_ABORTED (R244, 07_calibration.md). -/
def Reg.CALCNT_PASSES_ABORTED : Reg := ⟨0x7800, 9⟩
/-- CALCNT_CLAMP_PIXELS (R244, 07_calibration.md). -/
def Reg.CALCNT_CLAMP_PIXELS : Reg := ⟨0x7800, 10⟩
/-- CALCNT_SPARE_SWITCHES (R244, 07_calibration.md). -/
def Reg.CALCNT_SPARE_SWITCHES : Reg := ⟨0x7800, 11⟩
/-- CALCNT_PIXELS_DARK (R244, 07_calibration.md). -/
def Reg.CALCNT_PIXELS_DARK : Reg := ⟨0x7800, 12⟩
/-- CALCNT_TRIM_REPAIRED (R244, 07_calibration.md). -/
def Reg.CALCNT_TRIM_REPAIRED : Reg := ⟨0x7800, 13⟩
/-- SCN_STATE (R272, 08_scanout.md). -/
def Reg.SCN_STATE : Reg := ⟨0x8000, 0⟩
/-- SCN_WITHHOLD_POLICY (R272, 08_scanout.md). -/
def Reg.SCN_WITHHOLD_POLICY : Reg := ⟨0x8001, 0⟩
/-- SCN_MODE_CHANGE (R272, 08_scanout.md). -/
def Reg.SCN_MODE_CHANGE : Reg := ⟨0x8002, 0⟩
/-- SCN_MODE_EPOCH (R272, 08_scanout.md). -/
def Reg.SCN_MODE_EPOCH : Reg := ⟨0x8003, 0⟩
/-- SCN_WM_URG1 (R272, 08_scanout.md). -/
def Reg.SCN_WM_URG1 : Reg := ⟨0x8004, 0⟩
/-- SCN_WM_URG2 (R272, 08_scanout.md). -/
def Reg.SCN_WM_URG2 : Reg := ⟨0x8005, 0⟩
/-- SCN_DITHER (R272, 08_scanout.md). -/
def Reg.SCN_DITHER : Reg := ⟨0x8006, 0⟩
/-- SCN_RATE_ADMIN (R272, 08_scanout.md). -/
def Reg.SCN_RATE_ADMIN : Reg := ⟨0x8010, 1⟩
/-- SCN_FEEDS_ADMIN (R272, 08_scanout.md). -/
def Reg.SCN_FEEDS_ADMIN : Reg := ⟨0x8010, 2⟩
/-- SCN_PHASE_ADMIN (R272, 08_scanout.md). -/
def Reg.SCN_PHASE_ADMIN : Reg := ⟨0x8010, 3⟩
/-- SCN_GENLOCK_ADMIN (R272, 08_scanout.md). -/
def Reg.SCN_GENLOCK_ADMIN : Reg := ⟨0x8010, 4⟩
/-- SCN_GENLOCK_PIN_ADMIN (R272, 08_scanout.md). -/
def Reg.SCN_GENLOCK_PIN_ADMIN : Reg := ⟨0x8010, 5⟩
/-- SCN_GENLOCK_DELAY_ADMIN (R272, 08_scanout.md). -/
def Reg.SCN_GENLOCK_DELAY_ADMIN : Reg := ⟨0x8010, 6⟩
/-- SCN_GENLOCK_SLEW_ADMIN (R272, 08_scanout.md). -/
def Reg.SCN_GENLOCK_SLEW_ADMIN : Reg := ⟨0x8010, 7⟩
/-- SCN_ANCHOR_ADMIN (R272, 08_scanout.md). -/
def Reg.SCN_ANCHOR_ADMIN : Reg := ⟨0x8010, 8⟩
/-- SCN_FEED_LAYERS_ADMIN (R272, 08_scanout.md). -/
def Reg.SCN_FEED_LAYERS_ADMIN (k : Nat) : Reg := ⟨0x8010, k⟩
/-- SCN_FEED_BELL_ADMIN (R272, 08_scanout.md). -/
def Reg.SCN_FEED_BELL_ADMIN (k : Nat) : Reg := ⟨0x8010, k⟩
/-- SCN_CAM_OFFSET_ADMIN (R272, 08_scanout.md). -/
def Reg.SCN_CAM_OFFSET_ADMIN : Reg := ⟨0x8010, 17⟩
/-- SCN_CAM_WIDTH_ADMIN (R272, 08_scanout.md). -/
def Reg.SCN_CAM_WIDTH_ADMIN : Reg := ⟨0x8010, 18⟩
/-- SCN_RATE_OPER (R272, 08_scanout.md). -/
def Reg.SCN_RATE_OPER : Reg := ⟨0x8011, 1⟩
/-- SCN_FEEDS_OPER (R272, 08_scanout.md). -/
def Reg.SCN_FEEDS_OPER : Reg := ⟨0x8011, 2⟩
/-- SCN_PHASE_OPER (R272, 08_scanout.md). -/
def Reg.SCN_PHASE_OPER : Reg := ⟨0x8011, 3⟩
/-- SCN_GENLOCK_OPER (R272, 08_scanout.md). -/
def Reg.SCN_GENLOCK_OPER : Reg := ⟨0x8011, 4⟩
/-- SCN_GENLOCK_PIN_OPER (R272, 08_scanout.md). -/
def Reg.SCN_GENLOCK_PIN_OPER : Reg := ⟨0x8011, 5⟩
/-- SCN_GENLOCK_DELAY_OPER (R272, 08_scanout.md). -/
def Reg.SCN_GENLOCK_DELAY_OPER : Reg := ⟨0x8011, 6⟩
/-- SCN_GENLOCK_SLEW_OPER (R272, 08_scanout.md). -/
def Reg.SCN_GENLOCK_SLEW_OPER : Reg := ⟨0x8011, 7⟩
/-- SCN_ANCHOR_OPER (R272, 08_scanout.md). -/
def Reg.SCN_ANCHOR_OPER : Reg := ⟨0x8011, 8⟩
/-- SCN_FEED_LAYERS_OPER (R272, 08_scanout.md). -/
def Reg.SCN_FEED_LAYERS_OPER (k : Nat) : Reg := ⟨0x8011, k⟩
/-- SCN_FEED_BELL_OPER (R272, 08_scanout.md). -/
def Reg.SCN_FEED_BELL_OPER (k : Nat) : Reg := ⟨0x8011, k⟩
/-- SCN_CAM_OFFSET_OPER (R272, 08_scanout.md). -/
def Reg.SCN_CAM_OFFSET_OPER : Reg := ⟨0x8011, 17⟩
/-- SCN_CAM_WIDTH_OPER (R272, 08_scanout.md). -/
def Reg.SCN_CAM_WIDTH_OPER : Reg := ⟨0x8011, 18⟩
/-- SCN_MAP_ADMIN (R272, 08_scanout.md). -/
def Reg.SCN_MAP_ADMIN (n : Nat) : Reg := ⟨0x8100 + n, 0⟩
/-- SCN_MAP_CHANGE (R272, 08_scanout.md). -/
def Reg.SCN_MAP_CHANGE : Reg := ⟨0x8140, 0⟩
/-- SCN_MAP_LOAD (R272, 08_scanout.md). -/
def Reg.SCN_MAP_LOAD : Reg := ⟨0x8141, 0⟩
/-- SCN_MAP_EPOCH (R272, 08_scanout.md). -/
def Reg.SCN_MAP_EPOCH : Reg := ⟨0x8142, 0⟩
/-- SCN_LAMP_MAP_ADMIN (R272, 08_scanout.md). -/
def Reg.SCN_LAMP_MAP_ADMIN (k : Nat) : Reg := ⟨0x8143, k⟩
/-- SCN_LAMP_MAP_OPER (R272, 08_scanout.md). -/
def Reg.SCN_LAMP_MAP_OPER (k : Nat) : Reg := ⟨0x8144, k⟩
/-- SCN_LINK_RUNS (R272, 08_scanout.md). -/
def Reg.SCN_LINK_RUNS (n : Nat) : Reg := ⟨0x8200 + n, 1⟩
/-- SCN_LINK_PIXELS (R272, 08_scanout.md). -/
def Reg.SCN_LINK_PIXELS (n : Nat) : Reg := ⟨0x8200 + n, 2⟩
/-- SCN_LINK_URGENCY (R272, 08_scanout.md). -/
def Reg.SCN_LINK_URGENCY (n : Nat) : Reg := ⟨0x8200 + n, 3⟩
/-- SCN_LINK_FILL_MIN (R272, 08_scanout.md). -/
def Reg.SCN_LINK_FILL_MIN (n : Nat) : Reg := ⟨0x8200 + n, 4⟩
/-- SCN_LINK_LATE (R272, 08_scanout.md). -/
def Reg.SCN_LINK_LATE (n : Nat) : Reg := ⟨0x8200 + n, 5⟩
/-- SCN_MODULE_DEPTH (R272, 08_scanout.md). -/
def Reg.SCN_MODULE_DEPTH (n k : Nat) : Reg := ⟨0x8280 + n, k⟩
/-- SCN_MAP_OPER (R272, 08_scanout.md). -/
def Reg.SCN_MAP_OPER (n : Nat) : Reg := ⟨0x8300 + n, 0⟩
/-- SCNCNT_STRUCK (R273, 08_scanout.md). -/
def Reg.SCNCNT_STRUCK : Reg := ⟨0x8400, 1⟩
/-- SCNCNT_WITHHELD (R273, 08_scanout.md). -/
def Reg.SCNCNT_WITHHELD : Reg := ⟨0x8400, 2⟩
/-- SCNCNT_LINK_WITHHELD (R273, 08_scanout.md). -/
def Reg.SCNCNT_LINK_WITHHELD : Reg := ⟨0x8400, 3⟩
/-- SCNCNT_MODE_CHANGES (R273, 08_scanout.md). -/
def Reg.SCNCNT_MODE_CHANGES : Reg := ⟨0x8400, 4⟩
/-- SCNCNT_MAP_SWAPS (R273, 08_scanout.md). -/
def Reg.SCNCNT_MAP_SWAPS : Reg := ⟨0x8400, 5⟩
/-- SCNCNT_URGENCY_1 (R273, 08_scanout.md). -/
def Reg.SCNCNT_URGENCY_1 : Reg := ⟨0x8400, 6⟩
/-- SCNCNT_URGENCY_2 (R273, 08_scanout.md). -/
def Reg.SCNCNT_URGENCY_2 : Reg := ⟨0x8400, 7⟩
/-- SCNCNT_STARVED (R273, 08_scanout.md). -/
def Reg.SCNCNT_STARVED : Reg := ⟨0x8400, 8⟩
/-- SCNCNT_GENLOCK_EDGES (R273, 08_scanout.md). -/
def Reg.SCNCNT_GENLOCK_EDGES : Reg := ⟨0x8400, 9⟩
/-- SCNCNT_GENLOCK_REJECTED (R273, 08_scanout.md). -/
def Reg.SCNCNT_GENLOCK_REJECTED : Reg := ⟨0x8400, 10⟩
/-- SCNCNT_LAMP_EXPORTS (R273, 08_scanout.md). -/
def Reg.SCNCNT_LAMP_EXPORTS : Reg := ⟨0x8400, 11⟩
/-- SPL_ACK_TIMEOUT (R311, 09_spire_link.md). -/
def Reg.SPL_ACK_TIMEOUT : Reg := ⟨0x8800, 0⟩
/-- SPL_RETRIES (R311, 09_spire_link.md). -/
def Reg.SPL_RETRIES : Reg := ⟨0x8801, 0⟩
/-- SPL_MEASURE_S (R311, 09_spire_link.md). -/
def Reg.SPL_MEASURE_S : Reg := ⟨0x8802, 0⟩
/-- SPL_LOCK_MAX_US (R311, 09_spire_link.md). -/
def Reg.SPL_LOCK_MAX_US : Reg := ⟨0x8803, 0⟩
/-- SPL_RETRAIN_MS (R311, 09_spire_link.md). -/
def Reg.SPL_RETRAIN_MS : Reg := ⟨0x8804, 0⟩
/-- SPL_CLAIM_SENT (R311, 09_spire_link.md). -/
def Reg.SPL_CLAIM_SENT : Reg := ⟨0x8805, 0⟩
/-- SPL_DELAY_HYST (R311, 09_spire_link.md). -/
def Reg.SPL_DELAY_HYST : Reg := ⟨0x8806, 0⟩
/-- SPL_LINK_ENABLE (R311, 09_spire_link.md). -/
def Reg.SPL_LINK_ENABLE (n : Nat) : Reg := ⟨0x8900 + n, 1⟩
/-- SPL_POLARITY (R311, 09_spire_link.md). -/
def Reg.SPL_POLARITY (n : Nat) : Reg := ⟨0x8900 + n, 2⟩
/-- SPL_STATE (R311, 09_spire_link.md). -/
def Reg.SPL_STATE (n : Nat) : Reg := ⟨0x8900 + n, 3⟩
/-- SPL_MODULES (R311, 09_spire_link.md). -/
def Reg.SPL_MODULES (n : Nat) : Reg := ⟨0x8900 + n, 4⟩
/-- SPL_DELAY (R311, 09_spire_link.md). -/
def Reg.SPL_DELAY (n : Nat) : Reg := ⟨0x8900 + n, 5⟩
/-- SPL_LOCKED (R311, 09_spire_link.md). -/
def Reg.SPL_LOCKED (n : Nat) : Reg := ⟨0x8900 + n, 6⟩
/-- SPL_DOWN_CAUSE (R311, 09_spire_link.md). -/
def Reg.SPL_DOWN_CAUSE (n : Nat) : Reg := ⟨0x8900 + n, 7⟩
/-- SPL_MODULE_ID (R311, 09_spire_link.md). -/
def Reg.SPL_MODULE_ID (n k : Nat) : Reg := ⟨0x8A00 + n, k⟩
/-- SPL_MODULE_ARRIVAL (R311, 09_spire_link.md). -/
def Reg.SPL_MODULE_ARRIVAL (n k : Nat) : Reg := ⟨0x8A40 + n, k⟩
/-- SPL_MODULE_LATCH (R311, 09_spire_link.md). -/
def Reg.SPL_MODULE_LATCH (n k : Nat) : Reg := ⟨0x8A80 + n, k⟩
/-- SPLCNT_FRAMES_SENT (R312, 09_spire_link.md). -/
def Reg.SPLCNT_FRAMES_SENT (n : Nat) : Reg := ⟨0x8C00 + n, 1⟩
/-- SPLCNT_FRAMES_RESENT (R312, 09_spire_link.md). -/
def Reg.SPLCNT_FRAMES_RESENT (n : Nat) : Reg := ⟨0x8C00 + n, 2⟩
/-- SPLCNT_FRAMES_FAILED (R312, 09_spire_link.md). -/
def Reg.SPLCNT_FRAMES_FAILED (n : Nat) : Reg := ⟨0x8C00 + n, 3⟩
/-- SPLCNT_DACK_CHECK_FAIL (R312, 09_spire_link.md). -/
def Reg.SPLCNT_DACK_CHECK_FAIL (n : Nat) : Reg := ⟨0x8C00 + n, 4⟩
/-- SPLCNT_ACK_TIMEOUTS (R312, 09_spire_link.md). -/
def Reg.SPLCNT_ACK_TIMEOUTS (n : Nat) : Reg := ⟨0x8C00 + n, 5⟩
/-- SPLCNT_UP_FRAMES (R312, 09_spire_link.md). -/
def Reg.SPLCNT_UP_FRAMES (n : Nat) : Reg := ⟨0x8C00 + n, 6⟩
/-- SPLCNT_UP_CHECK_FAIL (R312, 09_spire_link.md). -/
def Reg.SPLCNT_UP_CHECK_FAIL (n : Nat) : Reg := ⟨0x8C00 + n, 7⟩
/-- SPLCNT_CTRL_CHECK_FAIL (R312, 09_spire_link.md). -/
def Reg.SPLCNT_CTRL_CHECK_FAIL (n : Nat) : Reg := ⟨0x8C00 + n, 8⟩
/-- SPLCNT_SYNC_ERRORS (R312, 09_spire_link.md). -/
def Reg.SPLCNT_SYNC_ERRORS (n : Nat) : Reg := ⟨0x8C00 + n, 9⟩
/-- SPLCNT_LOCK_LOSS (R312, 09_spire_link.md). -/
def Reg.SPLCNT_LOCK_LOSS (n : Nat) : Reg := ⟨0x8C00 + n, 10⟩
/-- SPLCNT_TRAININGS (R312, 09_spire_link.md). -/
def Reg.SPLCNT_TRAININGS (n : Nat) : Reg := ⟨0x8C00 + n, 11⟩
/-- SPLCNT_STRIKES (R312, 09_spire_link.md). -/
def Reg.SPLCNT_STRIKES (n : Nat) : Reg := ⟨0x8C00 + n, 12⟩
/-- SPLCNT_REVOKES (R312, 09_spire_link.md). -/
def Reg.SPLCNT_REVOKES (n : Nat) : Reg := ⟨0x8C00 + n, 13⟩
/-- SPLCNT_FRAMES_ABORTED (R312, 09_spire_link.md). -/
def Reg.SPLCNT_FRAMES_ABORTED (n : Nat) : Reg := ⟨0x8C00 + n, 14⟩
/-- SPLCNT_RETRY_GRANTS (R312, 09_spire_link.md). -/
def Reg.SPLCNT_RETRY_GRANTS (n : Nat) : Reg := ⟨0x8C00 + n, 15⟩
/-- SPLCNT_FAULT_RECORDS (R312, 09_spire_link.md). -/
def Reg.SPLCNT_FAULT_RECORDS (n : Nat) : Reg := ⟨0x8C00 + n, 16⟩
/-- SPLCNT_DELAY_CHANGES (R312, 09_spire_link.md). -/
def Reg.SPLCNT_DELAY_CHANGES (n : Nat) : Reg := ⟨0x8C00 + n, 17⟩
/-- LAN_STATE (R345, 10_lantern_drive.md). -/
def Reg.LAN_STATE : Reg := ⟨0x9000, 0⟩
/-- LAN_PERIOD_ANCHOR (R345, 10_lantern_drive.md). -/
def Reg.LAN_PERIOD_ANCHOR : Reg := ⟨0x9001, 0⟩
/-- LAN_TOTAL_LIMIT (R345, 10_lantern_drive.md). -/
def Reg.LAN_TOTAL_LIMIT : Reg := ⟨0x9002, 0⟩
/-- LAN_SINK_P_LIMIT (R345, 10_lantern_drive.md). -/
def Reg.LAN_SINK_P_LIMIT : Reg := ⟨0x9003, 0⟩
/-- LAN_KNEE (R345, 10_lantern_drive.md). -/
def Reg.LAN_KNEE : Reg := ⟨0x9004, 0⟩
/-- LAN_CUTOFF (R345, 10_lantern_drive.md). -/
def Reg.LAN_CUTOFF : Reg := ⟨0x9005, 0⟩
/-- LAN_DERATE_HYST (R345, 10_lantern_drive.md). -/
def Reg.LAN_DERATE_HYST : Reg := ⟨0x9006, 0⟩
/-- LAN_FAULT_PERIODS (R345, 10_lantern_drive.md). -/
def Reg.LAN_FAULT_PERIODS : Reg := ⟨0x9007, 0⟩
/-- LAN_OPEN_MV (R345, 10_lantern_drive.md). -/
def Reg.LAN_OPEN_MV : Reg := ⟨0x9008, 0⟩
/-- LAN_SHORT_MV (R345, 10_lantern_drive.md). -/
def Reg.LAN_SHORT_MV : Reg := ⟨0x9009, 0⟩
/-- LAN_HR_TARGET_MV (R345, 10_lantern_drive.md). -/
def Reg.LAN_HR_TARGET_MV : Reg := ⟨0x900A, 0⟩
/-- LAN_HR_BAND_MV (R345, 10_lantern_drive.md). -/
def Reg.LAN_HR_BAND_MV : Reg := ⟨0x900B, 0⟩
/-- LAN_ADC_OFFSET (R345, 10_lantern_drive.md). -/
def Reg.LAN_ADC_OFFSET : Reg := ⟨0x900C, 0⟩
/-- LAN_JUNCTION (R345, 10_lantern_drive.md). -/
def Reg.LAN_JUNCTION : Reg := ⟨0x900D, 0⟩
/-- LAN_VIN_MV (R345, 10_lantern_drive.md). -/
def Reg.LAN_VIN_MV : Reg := ⟨0x900E, 0⟩
/-- LAN_TOTAL_MA (R345, 10_lantern_drive.md). -/
def Reg.LAN_TOTAL_MA : Reg := ⟨0x900F, 0⟩
/-- LAN_SINK_MW (R345, 10_lantern_drive.md). -/
def Reg.LAN_SINK_MW : Reg := ⟨0x9010, 0⟩
/-- LAN_GOV_K (R345, 10_lantern_drive.md). -/
def Reg.LAN_GOV_K : Reg := ⟨0x9011, 0⟩
/-- LAN_NTC_TEMP (R345, 10_lantern_drive.md). -/
def Reg.LAN_NTC_TEMP (k : Nat) : Reg := ⟨0x9020, k⟩
/-- LAN_NTC_BETA (R345, 10_lantern_drive.md). -/
def Reg.LAN_NTC_BETA (k : Nat) : Reg := ⟨0x9021, k⟩
/-- LAN_NTC_R25 (R345, 10_lantern_drive.md). -/
def Reg.LAN_NTC_R25 (k : Nat) : Reg := ⟨0x9022, k⟩
/-- LAN_CUE_GO_CUE (R345, 10_lantern_drive.md). -/
def Reg.LAN_CUE_GO_CUE : Reg := ⟨0x9080, 1⟩
/-- LAN_CUE_GO_TIME (R345, 10_lantern_drive.md). -/
def Reg.LAN_CUE_GO_TIME : Reg := ⟨0x9080, 2⟩
/-- LAN_CUE_GO_COMMIT (R345, 10_lantern_drive.md). -/
def Reg.LAN_CUE_GO_COMMIT : Reg := ⟨0x9080, 3⟩
/-- LAN_CUE_STOP (R345, 10_lantern_drive.md). -/
def Reg.LAN_CUE_STOP : Reg := ⟨0x9081, 0⟩
/-- LAN_CH_ENABLE (R346, 10_lantern_drive.md). -/
def Reg.LAN_CH_ENABLE (n : Nat) : Reg := ⟨0x9100 + n, 1⟩
/-- LAN_CH_CURRENT (R346, 10_lantern_drive.md). -/
def Reg.LAN_CH_CURRENT (n : Nat) : Reg := ⟨0x9100 + n, 2⟩
/-- LAN_CH_GANG (R346, 10_lantern_drive.md). -/
def Reg.LAN_CH_GANG (n : Nat) : Reg := ⟨0x9100 + n, 3⟩
/-- LAN_CH_SOURCES (R346, 10_lantern_drive.md). -/
def Reg.LAN_CH_SOURCES (n : Nat) : Reg := ⟨0x9100 + n, 4⟩
/-- LAN_CH_CURVE (R346, 10_lantern_drive.md). -/
def Reg.LAN_CH_CURVE (n : Nat) : Reg := ⟨0x9100 + n, 5⟩
/-- LAN_CH_GAIN (R346, 10_lantern_drive.md). -/
def Reg.LAN_CH_GAIN (n : Nat) : Reg := ⟨0x9100 + n, 6⟩
/-- LAN_CH_PHASE (R346, 10_lantern_drive.md). -/
def Reg.LAN_CH_PHASE (n : Nat) : Reg := ⟨0x9100 + n, 7⟩
/-- LAN_CH_DERATE_SRC (R346, 10_lantern_drive.md). -/
def Reg.LAN_CH_DERATE_SRC (n : Nat) : Reg := ⟨0x9100 + n, 8⟩
/-- LAN_CH_FUNC_GROUP (R346, 10_lantern_drive.md). -/
def Reg.LAN_CH_FUNC_GROUP (n : Nat) : Reg := ⟨0x9100 + n, 9⟩
/-- LAN_CH_DIRECT (R346, 10_lantern_drive.md). -/
def Reg.LAN_CH_DIRECT (n : Nat) : Reg := ⟨0x9100 + n, 10⟩
/-- LAN_CH_SAFE_LEVEL (R346, 10_lantern_drive.md). -/
def Reg.LAN_CH_SAFE_LEVEL (n : Nat) : Reg := ⟨0x9100 + n, 11⟩
/-- LAN_CH_SAFE_FAIL (R346, 10_lantern_drive.md). -/
def Reg.LAN_CH_SAFE_FAIL (n : Nat) : Reg := ⟨0x9100 + n, 12⟩
/-- LAN_CH_STATUS (R346, 10_lantern_drive.md). -/
def Reg.LAN_CH_STATUS (n : Nat) : Reg := ⟨0x9100 + n, 13⟩
/-- LAN_CH_LEVEL (R346, 10_lantern_drive.md). -/
def Reg.LAN_CH_LEVEL (n : Nat) : Reg := ⟨0x9100 + n, 14⟩
/-- LAN_GRP_POLICY (R347, 10_lantern_drive.md). -/
def Reg.LAN_GRP_POLICY (n : Nat) : Reg := ⟨0x9300 + n, 1⟩
/-- LAN_GRP_SAFETY (R347, 10_lantern_drive.md). -/
def Reg.LAN_GRP_SAFETY (n : Nat) : Reg := ⟨0x9300 + n, 2⟩
/-- LAN_GRP_FLOOR (R347, 10_lantern_drive.md). -/
def Reg.LAN_GRP_FLOOR (n : Nat) : Reg := ⟨0x9300 + n, 3⟩
/-- LAN_GRP_FINIAL (R347, 10_lantern_drive.md). -/
def Reg.LAN_GRP_FINIAL (n : Nat) : Reg := ⟨0x9300 + n, 4⟩
/-- LAN_GRP_CLEAR (R347, 10_lantern_drive.md). -/
def Reg.LAN_GRP_CLEAR (n : Nat) : Reg := ⟨0x9300 + n, 5⟩
/-- LAN_GRP_RETRY_S (R347, 10_lantern_drive.md). -/
def Reg.LAN_GRP_RETRY_S (n : Nat) : Reg := ⟨0x9300 + n, 6⟩
/-- GROUP_STATE (R347, 10_lantern_drive.md). -/
def Reg.GROUP_STATE (n : Nat) : Reg := ⟨0x9300 + n, 7⟩
/-- LAN_RAIL_TIED (R347, 10_lantern_drive.md). -/
def Reg.LAN_RAIL_TIED (n : Nat) : Reg := ⟨0x9340 + n, 1⟩
/-- LAN_RAIL_CODE_MAX (R347, 10_lantern_drive.md). -/
def Reg.LAN_RAIL_CODE_MAX (n : Nat) : Reg := ⟨0x9340 + n, 2⟩
/-- LAN_RAIL_CODE (R347, 10_lantern_drive.md). -/
def Reg.LAN_RAIL_CODE (n : Nat) : Reg := ⟨0x9340 + n, 3⟩
/-- LAN_RAIL_MIN_MV (R347, 10_lantern_drive.md). -/
def Reg.LAN_RAIL_MIN_MV (n : Nat) : Reg := ⟨0x9340 + n, 4⟩
/-- LAN_RAIL_MEAN_MV (R347, 10_lantern_drive.md). -/
def Reg.LAN_RAIL_MEAN_MV (n : Nat) : Reg := ⟨0x9340 + n, 5⟩
/-- LAN_CUE_GROUP (R348, 10_lantern_drive.md). -/
def Reg.LAN_CUE_GROUP (n : Nat) : Reg := ⟨0x9400 + n, 1⟩
/-- LAN_CUE_FIRST (R348, 10_lantern_drive.md). -/
def Reg.LAN_CUE_FIRST (n : Nat) : Reg := ⟨0x9400 + n, 2⟩
/-- LAN_CUE_COUNT (R348, 10_lantern_drive.md). -/
def Reg.LAN_CUE_COUNT (n : Nat) : Reg := ⟨0x9400 + n, 3⟩
/-- LAN_CUE_WAVE (R348, 10_lantern_drive.md). -/
def Reg.LAN_CUE_WAVE (n : Nat) : Reg := ⟨0x9400 + n, 4⟩
/-- LAN_CUE_LEVEL_A (R348, 10_lantern_drive.md). -/
def Reg.LAN_CUE_LEVEL_A (n : Nat) : Reg := ⟨0x9400 + n, 5⟩
/-- LAN_CUE_LEVEL_B (R348, 10_lantern_drive.md). -/
def Reg.LAN_CUE_LEVEL_B (n : Nat) : Reg := ⟨0x9400 + n, 6⟩
/-- LAN_CUE_FADE (R348, 10_lantern_drive.md). -/
def Reg.LAN_CUE_FADE (n : Nat) : Reg := ⟨0x9400 + n, 7⟩
/-- LAN_CUE_CYCLE (R348, 10_lantern_drive.md). -/
def Reg.LAN_CUE_CYCLE (n : Nat) : Reg := ⟨0x9400 + n, 8⟩
/-- LAN_CUE_SPREAD (R348, 10_lantern_drive.md). -/
def Reg.LAN_CUE_SPREAD (n : Nat) : Reg := ⟨0x9400 + n, 9⟩
/-- LAN_CUE_HOLD (R348, 10_lantern_drive.md). -/
def Reg.LAN_CUE_HOLD (n : Nat) : Reg := ⟨0x9400 + n, 10⟩
/-- LAN_CUE_NEXT (R348, 10_lantern_drive.md). -/
def Reg.LAN_CUE_NEXT (n : Nat) : Reg := ⟨0x9400 + n, 11⟩
/-- LANCNT_PERIODS (R349, 10_lantern_drive.md). -/
def Reg.LANCNT_PERIODS : Reg := ⟨0x9600, 1⟩
/-- LANCNT_OPEN_FAULTS (R349, 10_lantern_drive.md). -/
def Reg.LANCNT_OPEN_FAULTS : Reg := ⟨0x9600, 2⟩
/-- LANCNT_SHORT_FAULTS (R349, 10_lantern_drive.md). -/
def Reg.LANCNT_SHORT_FAULTS : Reg := ⟨0x9600, 3⟩
/-- LANCNT_GROUP_DARK (R349, 10_lantern_drive.md). -/
def Reg.LANCNT_GROUP_DARK : Reg := ⟨0x9600, 4⟩
/-- LANCNT_FLOOR_DARK (R349, 10_lantern_drive.md). -/
def Reg.LANCNT_FLOOR_DARK : Reg := ⟨0x9600, 5⟩
/-- LANCNT_GOV_PERIODS (R349, 10_lantern_drive.md). -/
def Reg.LANCNT_GOV_PERIODS : Reg := ⟨0x9600, 6⟩
/-- LANCNT_DERATE_PERIODS (R349, 10_lantern_drive.md). -/
def Reg.LANCNT_DERATE_PERIODS : Reg := ⟨0x9600, 7⟩
/-- LANCNT_CUTOFFS (R349, 10_lantern_drive.md). -/
def Reg.LANCNT_CUTOFFS : Reg := ⟨0x9600, 8⟩
/-- LANCNT_CUE_HELD (R349, 10_lantern_drive.md). -/
def Reg.LANCNT_CUE_HELD : Reg := ⟨0x9600, 9⟩
/-- LANCNT_LAMP_MAP_UPDATES (R349, 10_lantern_drive.md). -/
def Reg.LANCNT_LAMP_MAP_UPDATES : Reg := ⟨0x9600, 10⟩
/-- LANCNT_TWIN_SWITCHES (R349, 10_lantern_drive.md). -/
def Reg.LANCNT_TWIN_SWITCHES : Reg := ⟨0x9600, 11⟩
/-- LANCNT_SAFETY_TABLE_FAIL (R349, 10_lantern_drive.md). -/
def Reg.LANCNT_SAFETY_TABLE_FAIL : Reg := ⟨0x9600, 12⟩
/-- OCU_ENABLE (R362, 11_oculus_integrity.md). -/
def Reg.OCU_ENABLE : Reg := ⟨0xA000, 0⟩
/-- OCU_K (R362, 11_oculus_integrity.md). -/
def Reg.OCU_K : Reg := ⟨0xA001, 0⟩
/-- OCU_ESCALATE (R362, 11_oculus_integrity.md). -/
def Reg.OCU_ESCALATE : Reg := ⟨0xA002, 0⟩
/-- OCU_STATE (R362, 11_oculus_integrity.md). -/
def Reg.OCU_STATE : Reg := ⟨0xA003, 0⟩
/-- OCU_FRAME_SIG (R362, 11_oculus_integrity.md). -/
def Reg.OCU_FRAME_SIG (k : Nat) : Reg := ⟨0xA004, k⟩
/-- OCU_IN_SIG (R362, 11_oculus_integrity.md). -/
def Reg.OCU_IN_SIG (k : Nat) : Reg := ⟨0xA010, k⟩
/-- OCU_IN_EPOCH (R362, 11_oculus_integrity.md). -/
def Reg.OCU_IN_EPOCH (k : Nat) : Reg := ⟨0xA011, k⟩
/-- OCU_OUT_SIG (R362, 11_oculus_integrity.md). -/
def Reg.OCU_OUT_SIG (n : Nat) : Reg := ⟨0xA020 + n, 1⟩
/-- OCU_OUT_EPOCH (R362, 11_oculus_integrity.md). -/
def Reg.OCU_OUT_EPOCH (n : Nat) : Reg := ⟨0xA020 + n, 2⟩
/-- OCU_FREEZE_RUN (R362, 11_oculus_integrity.md). -/
def Reg.OCU_FREEZE_RUN (n : Nat) : Reg := ⟨0xA020 + n, 3⟩
/-- OCU_FROZEN (R362, 11_oculus_integrity.md). -/
def Reg.OCU_FROZEN (n : Nat) : Reg := ⟨0xA020 + n, 4⟩
/-- OCU_SUSPENDED (R362, 11_oculus_integrity.md). -/
def Reg.OCU_SUSPENDED (n : Nat) : Reg := ⟨0xA020 + n, 5⟩
/-- OCUCNT_JUDGED (R380, 11_oculus_integrity.md). -/
def Reg.OCUCNT_JUDGED : Reg := ⟨0xA080, 1⟩
/-- OCUCNT_FROZEN_EPOCHS (R380, 11_oculus_integrity.md). -/
def Reg.OCUCNT_FROZEN_EPOCHS : Reg := ⟨0xA080, 2⟩
/-- OCUCNT_FREEZES (R380, 11_oculus_integrity.md). -/
def Reg.OCUCNT_FREEZES : Reg := ⟨0xA080, 3⟩
/-- OCUCNT_ESCALATIONS (R380, 11_oculus_integrity.md). -/
def Reg.OCUCNT_ESCALATIONS : Reg := ⟨0xA080, 4⟩
/-- OCUCNT_SUSPENSIONS (R380, 11_oculus_integrity.md). -/
def Reg.OCUCNT_SUSPENSIONS : Reg := ⟨0xA080, 5⟩
/-- OCUCNT_LINE_BUFFER_CORRECTED (R380, 11_oculus_integrity.md). -/
def Reg.OCUCNT_LINE_BUFFER_CORRECTED : Reg := ⟨0xA080, 6⟩
/-- OCUCNT_LINE_BUFFER_UNCORRECTED (R380, 11_oculus_integrity.md). -/
def Reg.OCUCNT_LINE_BUFFER_UNCORRECTED : Reg := ⟨0xA080, 7⟩
/-- OCUCNT_CONTROL_SRAM_CORRECTED (R380, 11_oculus_integrity.md). -/
def Reg.OCUCNT_CONTROL_SRAM_CORRECTED : Reg := ⟨0xA080, 8⟩
/-- OCUCNT_CONTROL_SRAM_UNCORRECTED (R380, 11_oculus_integrity.md). -/
def Reg.OCUCNT_CONTROL_SRAM_UNCORRECTED : Reg := ⟨0xA080, 9⟩
/-- CRC_CLAIM (R371, 11_oculus_integrity.md). -/
def Reg.CRC_CLAIM (n : Nat) : Reg := ⟨0xA100 + n, 1⟩
/-- CRC_WIDTH (R371, 11_oculus_integrity.md). -/
def Reg.CRC_WIDTH (n : Nat) : Reg := ⟨0xA100 + n, 2⟩
/-- CRC_POLY (R371, 11_oculus_integrity.md). -/
def Reg.CRC_POLY (n : Nat) : Reg := ⟨0xA100 + n, 3⟩
/-- CRC_INIT (R371, 11_oculus_integrity.md). -/
def Reg.CRC_INIT (n : Nat) : Reg := ⟨0xA100 + n, 4⟩
/-- CRC_REFLECT_IN (R371, 11_oculus_integrity.md). -/
def Reg.CRC_REFLECT_IN (n : Nat) : Reg := ⟨0xA100 + n, 5⟩
/-- CRC_REFLECT_OUT (R371, 11_oculus_integrity.md). -/
def Reg.CRC_REFLECT_OUT (n : Nat) : Reg := ⟨0xA100 + n, 6⟩
/-- CRC_INVERT (R371, 11_oculus_integrity.md). -/
def Reg.CRC_INVERT (n : Nat) : Reg := ⟨0xA100 + n, 7⟩
/-- CRC_PRESET (R371, 11_oculus_integrity.md). -/
def Reg.CRC_PRESET (n : Nat) : Reg := ⟨0xA100 + n, 8⟩
/-- CRC_RUNNING (R371, 11_oculus_integrity.md). -/
def Reg.CRC_RUNNING (n : Nat) : Reg := ⟨0xA100 + n, 9⟩
/-- CRC_FEED (R371, 11_oculus_integrity.md). -/
def Reg.CRC_FEED (n : Nat) : Reg := ⟨0xA100 + n, 10⟩
/-- CRC_RESULT (R371, 11_oculus_integrity.md). -/
def Reg.CRC_RESULT (n : Nat) : Reg := ⟨0xA100 + n, 11⟩
/-- CRC_OCTETS (R371, 11_oculus_integrity.md). -/
def Reg.CRC_OCTETS (n : Nat) : Reg := ⟨0xA100 + n, 12⟩
/-- CRC_ALIVE_IN (R371, 11_oculus_integrity.md). -/
def Reg.CRC_ALIVE_IN (n : Nat) : Reg := ⟨0xA100 + n, 13⟩
/-- CRC_ALIVE_STATUS (R371, 11_oculus_integrity.md). -/
def Reg.CRC_ALIVE_STATUS (n : Nat) : Reg := ⟨0xA100 + n, 14⟩
/-- DRM_POP (R379, 11_oculus_integrity.md). -/
def Reg.DRM_POP : Reg := ⟨0xA200, 0⟩
/-- DRM_POP_BLOCK (R379, 11_oculus_integrity.md). -/
def Reg.DRM_POP_BLOCK : Reg := ⟨0xA201, 0⟩
/-- DRM_DEPTH (R379, 11_oculus_integrity.md). -/
def Reg.DRM_DEPTH : Reg := ⟨0xA202, 0⟩
/-- DRM_DEPTH_MAX (R379, 11_oculus_integrity.md). -/
def Reg.DRM_DEPTH_MAX : Reg := ⟨0xA203, 0⟩
/-- DRM_FLUSH (R379, 11_oculus_integrity.md). -/
def Reg.DRM_FLUSH : Reg := ⟨0xA204, 0⟩
/-- DRM_FAULT_SUMMARY (R379, 11_oculus_integrity.md). -/
def Reg.DRM_FAULT_SUMMARY : Reg := ⟨0xA205, 0⟩
/-- DRM_MIN_PRIORITY (R379, 11_oculus_integrity.md). -/
def Reg.DRM_MIN_PRIORITY : Reg := ⟨0xA206, 0⟩
/-- DRM_LOST (R379, 11_oculus_integrity.md). -/
def Reg.DRM_LOST : Reg := ⟨0xA207, 0⟩
/-- DRM_LOST_PRIO (R379, 11_oculus_integrity.md). -/
def Reg.DRM_LOST_PRIO (k : Nat) : Reg := ⟨0xA208, k⟩
/-- DRM_FLUSHED (R379, 11_oculus_integrity.md). -/
def Reg.DRM_FLUSHED : Reg := ⟨0xA209, 0⟩
/-- DRM_FILTERED (R379, 11_oculus_integrity.md). -/
def Reg.DRM_FILTERED : Reg := ⟨0xA20A, 0⟩
/-- MEM_STATE (R405, 12_memory_arbiter.md). -/
def Reg.MEM_STATE : Reg := ⟨0xB000, 0⟩
/-- MEM_ARB_MODE (R405, 12_memory_arbiter.md). -/
def Reg.MEM_ARB_MODE : Reg := ⟨0xB001, 0⟩
/-- MEM_AGING_N (R405, 12_memory_arbiter.md). -/
def Reg.MEM_AGING_N : Reg := ⟨0xB002, 0⟩
/-- MEM_CONFLICT_PERMILLE (R405, 12_memory_arbiter.md). -/
def Reg.MEM_CONFLICT_PERMILLE : Reg := ⟨0xB003, 0⟩
/-- MEM_CONFLICT_WINDOW_MS (R405, 12_memory_arbiter.md). -/
def Reg.MEM_CONFLICT_WINDOW_MS : Reg := ⟨0xB004, 0⟩
/-- MEM_CONFLICT_NOW (R405, 12_memory_arbiter.md). -/
def Reg.MEM_CONFLICT_NOW : Reg := ⟨0xB005, 0⟩
/-- MEM_DRAM_TEMP (R405, 12_memory_arbiter.md). -/
def Reg.MEM_DRAM_TEMP (k : Nat) : Reg := ⟨0xB006, k⟩
/-- MEM_REFRESH_RATE (R405, 12_memory_arbiter.md). -/
def Reg.MEM_REFRESH_RATE (k : Nat) : Reg := ⟨0xB007, k⟩
/-- MEM_BW_MBPS (R405, 12_memory_arbiter.md). -/
def Reg.MEM_BW_MBPS : Reg := ⟨0xB008, 0⟩
/-- MEM_MAP (R405, 12_memory_arbiter.md). -/
def Reg.MEM_MAP (k : Nat) : Reg := ⟨0xB010, k⟩
/-- MEM_REQ_CLASS (R405, 12_memory_arbiter.md). -/
def Reg.MEM_REQ_CLASS (n : Nat) : Reg := ⟨0xB101 + n, 1⟩
/-- MEM_REQ_MAX_BURST (R405, 12_memory_arbiter.md). -/
def Reg.MEM_REQ_MAX_BURST (n : Nat) : Reg := ⟨0xB101 + n, 2⟩
/-- MEM_REQ_GRANTS (R405, 12_memory_arbiter.md). -/
def Reg.MEM_REQ_GRANTS (n : Nat) : Reg := ⟨0xB101 + n, 3⟩
/-- MEM_REQ_WAIT_MAX (R405, 12_memory_arbiter.md). -/
def Reg.MEM_REQ_WAIT_MAX (n : Nat) : Reg := ⟨0xB101 + n, 4⟩
/-- MEM_REQ_OCTETS (R405, 12_memory_arbiter.md). -/
def Reg.MEM_REQ_OCTETS (n : Nat) : Reg := ⟨0xB101 + n, 5⟩
/-- MEMCNT_ACCESSES (R406, 12_memory_arbiter.md). -/
def Reg.MEMCNT_ACCESSES : Reg := ⟨0xB200, 1⟩
/-- MEMCNT_ROW_CONFLICTS (R406, 12_memory_arbiter.md). -/
def Reg.MEMCNT_ROW_CONFLICTS : Reg := ⟨0xB200, 2⟩
/-- MEMCNT_LINK_ECC_CORRECTED (R406, 12_memory_arbiter.md). -/
def Reg.MEMCNT_LINK_ECC_CORRECTED : Reg := ⟨0xB200, 3⟩
/-- MEMCNT_READ_RETRIES (R406, 12_memory_arbiter.md). -/
def Reg.MEMCNT_READ_RETRIES : Reg := ⟨0xB200, 4⟩
/-- MEMCNT_READ_POISONED (R406, 12_memory_arbiter.md). -/
def Reg.MEMCNT_READ_POISONED : Reg := ⟨0xB200, 5⟩
/-- MEMCNT_ODECC_CORRECTED (R406, 12_memory_arbiter.md). -/
def Reg.MEMCNT_ODECC_CORRECTED : Reg := ⟨0xB200, 6⟩
/-- MEMCNT_REFRESH_PREEMPTS (R406, 12_memory_arbiter.md). -/
def Reg.MEMCNT_REFRESH_PREEMPTS : Reg := ⟨0xB200, 7⟩
/-- MEMCNT_DEBUG_PREEMPTS (R406, 12_memory_arbiter.md). -/
def Reg.MEMCNT_DEBUG_PREEMPTS : Reg := ⟨0xB200, 8⟩
/-- MEMCNT_RESERVED_GRANTS (R406, 12_memory_arbiter.md). -/
def Reg.MEMCNT_RESERVED_GRANTS : Reg := ⟨0xB200, 9⟩
/-- MEMCNT_CONFLICT_WINDOWS (R406, 12_memory_arbiter.md). -/
def Reg.MEMCNT_CONFLICT_WINDOWS : Reg := ⟨0xB200, 10⟩
/-- MEMCNT_GRANT_OVERRUNS (R406, 12_memory_arbiter.md). -/
def Reg.MEMCNT_GRANT_OVERRUNS : Reg := ⟨0xB200, 11⟩
/-- MEMCNT_PITCH_UNPADDED (R406, 12_memory_arbiter.md). -/
def Reg.MEMCNT_PITCH_UNPADDED : Reg := ⟨0xB200, 12⟩
/-- MAP_ADMIN (R429, 13_bridge.md). -/
def Reg.MAP_ADMIN : Reg := ⟨0xC000, 0⟩
/-- MAP_CHANGE (R429, 13_bridge.md). -/
def Reg.MAP_CHANGE : Reg := ⟨0xC001, 0⟩
/-- MAP_OPER (R429, 13_bridge.md). -/
def Reg.MAP_OPER : Reg := ⟨0xC002, 0⟩
/-- MAP_ENTRIES (R429, 13_bridge.md). -/
def Reg.MAP_ENTRIES : Reg := ⟨0xC003, 0⟩
/-- MAP_REG_INTERVAL_MS (R429, 13_bridge.md). -/
def Reg.MAP_REG_INTERVAL_MS : Reg := ⟨0xC004, 0⟩
/-- MAP_WSF_LOSS_MS (R429, 13_bridge.md). -/
def Reg.MAP_WSF_LOSS_MS : Reg := ⟨0xC005, 0⟩
/-- MAP_OUTPUTS (R429, 13_bridge.md). -/
def Reg.MAP_OUTPUTS : Reg := ⟨0xC006, 0⟩
/-- MAP_CURVE (R429, 13_bridge.md). -/
def Reg.MAP_CURVE (n k : Nat) : Reg := ⟨0xC010 + n, k⟩
/-- DMX_MODE (R430, 13_bridge.md). -/
def Reg.DMX_MODE (n : Nat) : Reg := ⟨0xC100 + n, 1⟩
/-- DMX_TX_SLOTS (R430, 13_bridge.md). -/
def Reg.DMX_TX_SLOTS (n : Nat) : Reg := ⟨0xC100 + n, 2⟩
/-- DMX_TX_BREAK_US (R430, 13_bridge.md). -/
def Reg.DMX_TX_BREAK_US (n : Nat) : Reg := ⟨0xC100 + n, 3⟩
/-- DMX_TX_MAB_US (R430, 13_bridge.md). -/
def Reg.DMX_TX_MAB_US (n : Nat) : Reg := ⟨0xC100 + n, 4⟩
/-- DMX_TX_PERIOD_US (R430, 13_bridge.md). -/
def Reg.DMX_TX_PERIOD_US (n : Nat) : Reg := ⟨0xC100 + n, 5⟩
/-- DMX_TX_TIED (R430, 13_bridge.md). -/
def Reg.DMX_TX_TIED (n : Nat) : Reg := ⟨0xC100 + n, 6⟩
/-- DMX_RX_LOSS_MS (R430, 13_bridge.md). -/
def Reg.DMX_RX_LOSS_MS (n : Nat) : Reg := ⟨0xC100 + n, 7⟩
/-- DMX_RDM_ENABLE (R430, 13_bridge.md). -/
def Reg.DMX_RDM_ENABLE (n : Nat) : Reg := ⟨0xC100 + n, 8⟩
/-- DMX_RDM_RETRIES (R430, 13_bridge.md). -/
def Reg.DMX_RDM_RETRIES (n : Nat) : Reg := ⟨0xC100 + n, 9⟩
/-- DMX_STATE (R430, 13_bridge.md). -/
def Reg.DMX_STATE (n : Nat) : Reg := ⟨0xC100 + n, 10⟩
/-- DMX_RX_SLOTS (R430, 13_bridge.md). -/
def Reg.DMX_RX_SLOTS (n : Nat) : Reg := ⟨0xC100 + n, 11⟩
/-- DMX_RDM_REQ (R430, 13_bridge.md). -/
def Reg.DMX_RDM_REQ (n : Nat) : Reg := ⟨0xC100 + n, 12⟩
/-- DMX_RDM_STATUS (R430, 13_bridge.md). -/
def Reg.DMX_RDM_STATUS (n : Nat) : Reg := ⟨0xC100 + n, 13⟩
/-- DMX_RDM_DISCOVER (R430, 13_bridge.md). -/
def Reg.DMX_RDM_DISCOVER (n : Nat) : Reg := ⟨0xC100 + n, 14⟩
/-- DMX_RDM_UIDS (R430, 13_bridge.md). -/
def Reg.DMX_RDM_UIDS (n : Nat) : Reg := ⟨0xC100 + n, 15⟩
/-- DMX_RDM_UID (R430, 13_bridge.md). -/
def Reg.DMX_RDM_UID : Reg := ⟨0xC108, 0⟩
/-- DMX_UNIV_ENABLE (R430, 13_bridge.md). -/
def Reg.DMX_UNIV_ENABLE (n : Nat) : Reg := ⟨0xC200 + n, 1⟩
/-- DMX_UNIV_NUMBER (R430, 13_bridge.md). -/
def Reg.DMX_UNIV_NUMBER (n : Nat) : Reg := ⟨0xC200 + n, 2⟩
/-- DMX_UNIV_MERGE (R430, 13_bridge.md). -/
def Reg.DMX_UNIV_MERGE (n : Nat) : Reg := ⟨0xC200 + n, 3⟩
/-- DMX_UNIV_STATE (R430, 13_bridge.md). -/
def Reg.DMX_UNIV_STATE (n : Nat) : Reg := ⟨0xC200 + n, 4⟩
/-- DMX_UNIV_SOURCES (R430, 13_bridge.md). -/
def Reg.DMX_UNIV_SOURCES (n : Nat) : Reg := ⟨0xC200 + n, 5⟩
/-- DMX_UNIV_PRIORITY (R430, 13_bridge.md). -/
def Reg.DMX_UNIV_PRIORITY (n : Nat) : Reg := ⟨0xC200 + n, 6⟩
/-- DMX_UNIV_SLOTS (R430, 13_bridge.md). -/
def Reg.DMX_UNIV_SLOTS (n : Nat) : Reg := ⟨0xC200 + n, 7⟩
/-- DMX_SACN_LOSS_MS (R430, 13_bridge.md). -/
def Reg.DMX_SACN_LOSS_MS : Reg := ⟨0xC240, 0⟩
/-- BRG_LINK (R431, 13_bridge.md). -/
def Reg.BRG_LINK : Reg := ⟨0xC400, 1⟩
/-- BRG_MODULE (R431, 13_bridge.md). -/
def Reg.BRG_MODULE : Reg := ⟨0xC400, 2⟩
/-- BRG_ADDR (R431, 13_bridge.md). -/
def Reg.BRG_ADDR : Reg := ⟨0xC400, 3⟩
/-- BRG_LEN (R431, 13_bridge.md). -/
def Reg.BRG_LEN : Reg := ⟨0xC400, 4⟩
/-- BRG_WRITE (R431, 13_bridge.md). -/
def Reg.BRG_WRITE : Reg := ⟨0xC400, 5⟩
/-- BRG_READ (R431, 13_bridge.md). -/
def Reg.BRG_READ : Reg := ⟨0xC400, 6⟩
/-- BRG_LOCK (R431, 13_bridge.md). -/
def Reg.BRG_LOCK : Reg := ⟨0xC400, 7⟩
/-- BRG_STATUS (R431, 13_bridge.md). -/
def Reg.BRG_STATUS : Reg := ⟨0xC400, 8⟩
/-- BRG_MOD_STATUS (R431, 13_bridge.md). -/
def Reg.BRG_MOD_STATUS : Reg := ⟨0xC400, 9⟩
/-- BRG_ABORT (R431, 13_bridge.md). -/
def Reg.BRG_ABORT : Reg := ⟨0xC400, 10⟩
/-- BRG_PWE_LOG (R431, 13_bridge.md). -/
def Reg.BRG_PWE_LOG : Reg := ⟨0xC410, 0⟩
/-- BRG_PWE_CLEAR (R431, 13_bridge.md). -/
def Reg.BRG_PWE_CLEAR : Reg := ⟨0xC411, 0⟩
/-- BRGCNT_MAP_PASSES (R432, 13_bridge.md). -/
def Reg.BRGCNT_MAP_PASSES : Reg := ⟨0xC600, 1⟩
/-- BRGCNT_MAP_REG_WRITES (R432, 13_bridge.md). -/
def Reg.BRGCNT_MAP_REG_WRITES : Reg := ⟨0xC600, 2⟩
/-- BRGCNT_MAP_DICT_REFUSED (R432, 13_bridge.md). -/
def Reg.BRGCNT_MAP_DICT_REFUSED : Reg := ⟨0xC600, 3⟩
/-- BRGCNT_BRG_TRANSFERS (R432, 13_bridge.md). -/
def Reg.BRGCNT_BRG_TRANSFERS : Reg := ⟨0xC600, 4⟩
/-- BRGCNT_BRG_UNDELIVERED (R432, 13_bridge.md). -/
def Reg.BRGCNT_BRG_UNDELIVERED : Reg := ⟨0xC600, 5⟩
/-- BRGCNT_BRG_PWE (R432, 13_bridge.md). -/
def Reg.BRGCNT_BRG_PWE : Reg := ⟨0xC600, 6⟩
/-- BRGCNT_BRG_PWE_OVERWRITTEN (R432, 13_bridge.md). -/
def Reg.BRGCNT_BRG_PWE_OVERWRITTEN : Reg := ⟨0xC600, 7⟩
/-- BRGCNT_BRG_HELD (R432, 13_bridge.md). -/
def Reg.BRGCNT_BRG_HELD : Reg := ⟨0xC600, 8⟩
/-- BRGCNT_BRG_LOCK_LOST (R432, 13_bridge.md). -/
def Reg.BRGCNT_BRG_LOCK_LOST : Reg := ⟨0xC600, 9⟩
/-- BRGCNT_SACN_PACKETS (R432, 13_bridge.md). -/
def Reg.BRGCNT_SACN_PACKETS : Reg := ⟨0xC600, 10⟩
/-- BRGCNT_SACN_SEQ_DISCARD (R432, 13_bridge.md). -/
def Reg.BRGCNT_SACN_SEQ_DISCARD : Reg := ⟨0xC600, 11⟩
/-- BRGCNT_SACN_SOURCE_LIMIT (R432, 13_bridge.md). -/
def Reg.BRGCNT_SACN_SOURCE_LIMIT : Reg := ⟨0xC600, 12⟩
/-- BRGCNT_SACN_IGNORED (R432, 13_bridge.md). -/
def Reg.BRGCNT_SACN_IGNORED : Reg := ⟨0xC600, 13⟩
/-- DMXCNT_DMX_RX_PACKETS (R432, 13_bridge.md). -/
def Reg.DMXCNT_DMX_RX_PACKETS (n : Nat) : Reg := ⟨0xC610 + n, 1⟩
/-- DMXCNT_DMX_RX_FRAMING (R432, 13_bridge.md). -/
def Reg.DMXCNT_DMX_RX_FRAMING (n : Nat) : Reg := ⟨0xC610 + n, 2⟩
/-- DMXCNT_DMX_RX_OTHER_START (R432, 13_bridge.md). -/
def Reg.DMXCNT_DMX_RX_OTHER_START (n : Nat) : Reg := ⟨0xC610 + n, 3⟩
/-- DMXCNT_DMX_TX_PACKETS (R432, 13_bridge.md). -/
def Reg.DMXCNT_DMX_TX_PACKETS (n : Nat) : Reg := ⟨0xC610 + n, 4⟩
/-- DMXCNT_RDM_REQUESTS (R432, 13_bridge.md). -/
def Reg.DMXCNT_RDM_REQUESTS (n : Nat) : Reg := ⟨0xC610 + n, 5⟩
/-- DMXCNT_RDM_NO_RESPONSE (R432, 13_bridge.md). -/
def Reg.DMXCNT_RDM_NO_RESPONSE (n : Nat) : Reg := ⟨0xC610 + n, 6⟩
/-- DMXCNT_RDM_CHECKSUM_FAIL (R432, 13_bridge.md). -/
def Reg.DMXCNT_RDM_CHECKSUM_FAIL (n : Nat) : Reg := ⟨0xC610 + n, 7⟩
/-- TWN_ENABLE (R461, 14_twin.md). -/
def Reg.TWN_ENABLE : Reg := ⟨0xD000, 0⟩
/-- TWN_STATE (R461, 14_twin.md). -/
def Reg.TWN_STATE : Reg := ⟨0xD001, 0⟩
/-- TWN_CLAIM (R461, 14_twin.md). -/
def Reg.TWN_CLAIM : Reg := ⟨0xD002, 0⟩
/-- TWN_PARTNER_CLAIM (R461, 14_twin.md). -/
def Reg.TWN_PARTNER_CLAIM : Reg := ⟨0xD003, 0⟩
/-- TWN_DEDUCTION (R461, 14_twin.md). -/
def Reg.TWN_DEDUCTION : Reg := ⟨0xD004, 0⟩
/-- TWN_CLAIM_ACTIVE (R461, 14_twin.md). -/
def Reg.TWN_CLAIM_ACTIVE : Reg := ⟨0xD005, 0⟩
/-- TWN_CLAIM_STANDBY (R461, 14_twin.md). -/
def Reg.TWN_CLAIM_STANDBY : Reg := ⟨0xD006, 0⟩
/-- TWN_PREFER (R461, 14_twin.md). -/
def Reg.TWN_PREFER : Reg := ⟨0xD007, 0⟩
/-- TWN_YIELD_MARGIN (R461, 14_twin.md). -/
def Reg.TWN_YIELD_MARGIN : Reg := ⟨0xD008, 0⟩
/-- TWN_DIVERGE_K (R461, 14_twin.md). -/
def Reg.TWN_DIVERGE_K : Reg := ⟨0xD009, 0⟩
/-- TWN_REJOIN_K (R461, 14_twin.md). -/
def Reg.TWN_REJOIN_K : Reg := ⟨0xD00A, 0⟩
/-- TWN_PAIR_WAIT_MS (R461, 14_twin.md). -/
def Reg.TWN_PAIR_WAIT_MS : Reg := ⟨0xD00B, 0⟩
/-- TWN_REJOIN (R461, 14_twin.md). -/
def Reg.TWN_REJOIN : Reg := ⟨0xD00C, 0⟩
/-- TWN_PARTNER_EUI64 (R461, 14_twin.md). -/
def Reg.TWN_PARTNER_EUI64 : Reg := ⟨0xD00D, 0⟩
/-- TWN_MIR_STATE (R461, 14_twin.md). -/
def Reg.TWN_MIR_STATE : Reg := ⟨0xD00E, 0⟩
/-- TWN_DSEQ (R461, 14_twin.md). -/
def Reg.TWN_DSEQ : Reg := ⟨0xD00F, 0⟩
/-- TWN_INSTEP_EPOCH (R461, 14_twin.md). -/
def Reg.TWN_INSTEP_EPOCH : Reg := ⟨0xD010, 0⟩
/-- TWN_FLAGS (R461, 14_twin.md). -/
def Reg.TWN_FLAGS : Reg := ⟨0xD011, 0⟩
/-- TWNCNT_TAKEOVERS (R462, 14_twin.md). -/
def Reg.TWNCNT_TAKEOVERS : Reg := ⟨0xD100, 1⟩
/-- TWNCNT_YIELDS (R462, 14_twin.md). -/
def Reg.TWNCNT_YIELDS : Reg := ⟨0xD100, 2⟩
/-- TWNCNT_INSTEP_EPOCHS (R462, 14_twin.md). -/
def Reg.TWNCNT_INSTEP_EPOCHS : Reg := ⟨0xD100, 3⟩
/-- TWNCNT_DIVERGENT_EPOCHS (R462, 14_twin.md). -/
def Reg.TWNCNT_DIVERGENT_EPOCHS : Reg := ⟨0xD100, 4⟩
/-- TWNCNT_DEMOTIONS (R462, 14_twin.md). -/
def Reg.TWNCNT_DEMOTIONS : Reg := ⟨0xD100, 5⟩
/-- TWNCNT_REJOINS (R462, 14_twin.md). -/
def Reg.TWNCNT_REJOINS : Reg := ⟨0xD100, 6⟩
/-- TWNCNT_DICT_MIRRORED (R462, 14_twin.md). -/
def Reg.TWNCNT_DICT_MIRRORED : Reg := ⟨0xD100, 7⟩
/-- TWNCNT_PUSH_DISCARDED (R462, 14_twin.md). -/
def Reg.TWNCNT_PUSH_DISCARDED : Reg := ⟨0xD100, 8⟩
/-- TWNCNT_MIR_RESENDS (R462, 14_twin.md). -/
def Reg.TWNCNT_MIR_RESENDS : Reg := ⟨0xD100, 9⟩
/-- TWNCNT_MIR_CHECK_FAIL (R462, 14_twin.md). -/
def Reg.TWNCNT_MIR_CHECK_FAIL : Reg := ⟨0xD100, 10⟩
/-- TWNCNT_MIR_DOWN (R462, 14_twin.md). -/
def Reg.TWNCNT_MIR_DOWN : Reg := ⟨0xD100, 11⟩
/-- TWNCNT_CLAIM_WORD_ERRORS (R462, 14_twin.md). -/
def Reg.TWNCNT_CLAIM_WORD_ERRORS : Reg := ⟨0xD100, 12⟩
/-- CHN_ADDRESS (R518, 16_chain_update.md). -/
def Reg.CHN_ADDRESS : Reg := ⟨0xE000, 0⟩
/-- CHN_STATE (R518, 16_chain_update.md). -/
def Reg.CHN_STATE : Reg := ⟨0xE001, 0⟩
/-- CHN_READDRESS (R518, 16_chain_update.md). -/
def Reg.CHN_READDRESS : Reg := ⟨0xE002, 0⟩
/-- CHN_ADDR_PROPOSED (R518, 16_chain_update.md). -/
def Reg.CHN_ADDR_PROPOSED : Reg := ⟨0xE003, 0⟩
/-- CHN_ADDR_ACCEPT (R518, 16_chain_update.md). -/
def Reg.CHN_ADDR_ACCEPT : Reg := ⟨0xE004, 0⟩
/-- CHN_DISCOVER_MS (R518, 16_chain_update.md). -/
def Reg.CHN_DISCOVER_MS : Reg := ⟨0xE005, 0⟩
/-- CHN_UPSTREAM (R518, 16_chain_update.md). -/
def Reg.CHN_UPSTREAM (k : Nat) : Reg := ⟨0xE006, k⟩
/-- CHN_DOWNSTREAM (R518, 16_chain_update.md). -/
def Reg.CHN_DOWNSTREAM (k : Nat) : Reg := ⟨0xE007, k⟩
/-- CHN_ADOPT (R518, 16_chain_update.md). -/
def Reg.CHN_ADOPT : Reg := ⟨0xE008, 0⟩
/-- CHN_ADOPT_WAIT_S (R518, 16_chain_update.md). -/
def Reg.CHN_ADOPT_WAIT_S : Reg := ⟨0xE009, 0⟩
/-- CHN_BACKUP (R518, 16_chain_update.md). -/
def Reg.CHN_BACKUP (n k : Nat) : Reg := ⟨0xE00A + n, k⟩
/-- UPD_STATE (R519, 16_chain_update.md). -/
def Reg.UPD_STATE : Reg := ⟨0xE100, 0⟩
/-- UPD_START_ID (R519, 16_chain_update.md). -/
def Reg.UPD_START_ID : Reg := ⟨0xE101, 1⟩
/-- UPD_START_BLOCKS (R519, 16_chain_update.md). -/
def Reg.UPD_START_BLOCKS : Reg := ⟨0xE101, 2⟩
/-- UPD_START_TACT (R519, 16_chain_update.md). -/
def Reg.UPD_START_TACT : Reg := ⟨0xE101, 3⟩
/-- UPD_START_HEALTH_S (R519, 16_chain_update.md). -/
def Reg.UPD_START_HEALTH_S : Reg := ⟨0xE101, 4⟩
/-- UPD_START_FORWARD (R519, 16_chain_update.md). -/
def Reg.UPD_START_FORWARD : Reg := ⟨0xE101, 5⟩
/-- UPD_START_COMMIT (R519, 16_chain_update.md). -/
def Reg.UPD_START_COMMIT : Reg := ⟨0xE101, 6⟩
/-- UPD_ABORT (R519, 16_chain_update.md). -/
def Reg.UPD_ABORT : Reg := ⟨0xE102, 0⟩
/-- UPD_CONFIRM (R519, 16_chain_update.md). -/
def Reg.UPD_CONFIRM : Reg := ⟨0xE103, 0⟩
/-- UPD_REJECT (R519, 16_chain_update.md). -/
def Reg.UPD_REJECT : Reg := ⟨0xE104, 0⟩
/-- UPD_RUNNING_ID (R519, 16_chain_update.md). -/
def Reg.UPD_RUNNING_ID : Reg := ⟨0xE105, 0⟩
/-- UPD_RUNNING_SEQ (R519, 16_chain_update.md). -/
def Reg.UPD_RUNNING_SEQ : Reg := ⟨0xE106, 0⟩
/-- UPD_PENDING_ID (R519, 16_chain_update.md). -/
def Reg.UPD_PENDING_ID : Reg := ⟨0xE107, 0⟩
/-- UPD_ACTIVATE_AT (R519, 16_chain_update.md). -/
def Reg.UPD_ACTIVATE_AT : Reg := ⟨0xE108, 0⟩
/-- UPD_BLOCKS_DONE (R519, 16_chain_update.md). -/
def Reg.UPD_BLOCKS_DONE : Reg := ⟨0xE109, 0⟩
/-- UPD_HEALTH_REMAIN_S (R519, 16_chain_update.md). -/
def Reg.UPD_HEALTH_REMAIN_S : Reg := ⟨0xE10A, 0⟩
/-- UPD_AUTO_ACCEPT (R519, 16_chain_update.md). -/
def Reg.UPD_AUTO_ACCEPT : Reg := ⟨0xE10B, 0⟩
/-- UPD_ALLOW_OLDER (R519, 16_chain_update.md). -/
def Reg.UPD_ALLOW_OLDER : Reg := ⟨0xE10C, 0⟩
/-- UPD_LAST_RESULT (R519, 16_chain_update.md). -/
def Reg.UPD_LAST_RESULT : Reg := ⟨0xE10D, 0⟩
/-- UPD_LOG (R519, 16_chain_update.md). -/
def Reg.UPD_LOG : Reg := ⟨0xE10E, 0⟩
/-- CHNCNT_ADDRESS_CHANGES (R520, 16_chain_update.md). -/
def Reg.CHNCNT_ADDRESS_CHANGES : Reg := ⟨0xE200, 1⟩
/-- CHNCNT_CONFLICTS (R520, 16_chain_update.md). -/
def Reg.CHNCNT_CONFLICTS : Reg := ⟨0xE200, 2⟩
/-- CHNCNT_BACKUPS_TAKEN (R520, 16_chain_update.md). -/
def Reg.CHNCNT_BACKUPS_TAKEN : Reg := ⟨0xE200, 3⟩
/-- CHNCNT_BACKUP_FAILS (R520, 16_chain_update.md). -/
def Reg.CHNCNT_BACKUP_FAILS : Reg := ⟨0xE200, 4⟩
/-- CHNCNT_MSG_CHECK_FAIL (R520, 16_chain_update.md). -/
def Reg.CHNCNT_MSG_CHECK_FAIL : Reg := ⟨0xE200, 5⟩
/-- CHNCNT_BLOCKS_RECEIVED (R520, 16_chain_update.md). -/
def Reg.CHNCNT_BLOCKS_RECEIVED : Reg := ⟨0xE200, 6⟩
/-- CHNCNT_BLOCK_CHECK_FAIL (R520, 16_chain_update.md). -/
def Reg.CHNCNT_BLOCK_CHECK_FAIL : Reg := ⟨0xE200, 7⟩
/-- CHNCNT_BLOCKS_FORWARDED (R520, 16_chain_update.md). -/
def Reg.CHNCNT_BLOCKS_FORWARDED : Reg := ⟨0xE200, 8⟩
/-- CHNCNT_FLASH_ERRORS (R520, 16_chain_update.md). -/
def Reg.CHNCNT_FLASH_ERRORS : Reg := ⟨0xE200, 9⟩
/-- CHNCNT_ACTIVATIONS (R520, 16_chain_update.md). -/
def Reg.CHNCNT_ACTIVATIONS : Reg := ⟨0xE200, 10⟩
/-- CHNCNT_FALLBACKS (R520, 16_chain_update.md). -/
def Reg.CHNCNT_FALLBACKS : Reg := ⟨0xE200, 11⟩
/-- CHNCNT_FETCHES (R520, 16_chain_update.md). -/
def Reg.CHNCNT_FETCHES : Reg := ⟨0xE200, 12⟩
/-- SYS_STATE (R543, 17_start_clocks_reset.md). -/
def Reg.SYS_STATE : Reg := ⟨0xF000, 0⟩
/-- SYS_RESET_CAUSE (R543, 17_start_clocks_reset.md). -/
def Reg.SYS_RESET_CAUSE : Reg := ⟨0xF001, 0⟩
/-- SYS_RESET_KIND (R543, 17_start_clocks_reset.md). -/
def Reg.SYS_RESET_KIND : Reg := ⟨0xF002, 0⟩
/-- SYS_WDT_MS (R543, 17_start_clocks_reset.md). -/
def Reg.SYS_WDT_MS : Reg := ⟨0xF003, 0⟩
/-- SYS_PLL_STATE (R543, 17_start_clocks_reset.md). -/
def Reg.SYS_PLL_STATE : Reg := ⟨0xF004, 0⟩
/-- SYS_LOGIC_TJ (R543, 17_start_clocks_reset.md). -/
def Reg.SYS_LOGIC_TJ : Reg := ⟨0xF005, 0⟩
/-- SYS_TJ_WARN (R543, 17_start_clocks_reset.md). -/
def Reg.SYS_TJ_WARN : Reg := ⟨0xF006, 0⟩
/-- SYS_MEM_ATTEMPTS (R543, 17_start_clocks_reset.md). -/
def Reg.SYS_MEM_ATTEMPTS : Reg := ⟨0xF007, 0⟩
/-- SYS_DRIVE_SEQ (R543, 17_start_clocks_reset.md). -/
def Reg.SYS_DRIVE_SEQ : Reg := ⟨0xF008, 0⟩
/-- SYS_LINK_CTRL (R543, 17_start_clocks_reset.md). -/
def Reg.SYS_LINK_CTRL : Reg := ⟨0xF009, 0⟩
/-- SYS_START_MS (R543, 17_start_clocks_reset.md). -/
def Reg.SYS_START_MS (k : Nat) : Reg := ⟨0xF010, k⟩
/-- SYS_RAIL_MV (R565, 18_balls_supplies.md). -/
def Reg.SYS_RAIL_MV (k : Nat) : Reg := ⟨0xF100, k⟩
/-- SYS_RAIL_LAST_FAULT (R565, 18_balls_supplies.md). -/
def Reg.SYS_RAIL_LAST_FAULT : Reg := ⟨0xF101, 0⟩

end Sys2Proof.Machine
end

