-- ==== Sys2Proof/Machine/Dict.lean ====
section
/-! DEFINITION. The object dictionary as a store: entry types (R466), access codes (R17), the rows of the tables, and a
sparse canonical store that lists only elements away from their default. -/

namespace Sys2Proof.Machine

/-- Types of R16 and R466. ARRAY and RECORD are the layout of several rows. -/
inductive EntryType where
  | bool | u8 | u16 | u32 | u64 | i8 | i16 | i32 | i64 | f32 | vtime | octets | string | domain
  deriving DecidableEq, Repr

/-- Access codes of R17. -/
inductive Access where
  | ro | wo | rw | rwo | rws | rwf | const
  deriving DecidableEq, Repr

/-- A default as the tables write it: a number, or one of their formulas. -/
inductive Dflt where
  /-- the same number for every element -/
  | val (n : Nat)
  /-- sub n: n − 1 (NET_PCP_TO_TC, CUP_ORDER_ADMIN) -/
  | subMinusOne
  /-- 8,192 on the diagonal of an n × n matrix in row order, else 0 (CAL_NOMINAL_RGB) -/
  | diagonal (n : Nat)
  /-- 32 × (c mod 32) for lamp channel c (LAN_CH_PHASE) -/
  | phase
  /-- min(65,535, 256 × (n − 1)) (MAP_CURVE) -/
  | curve
  /-- the default class of a memory port (R393) -/
  | memClass
  /-- the maximum burst of a memory port (R393) -/
  | memBurst
  /-- base and size of a memory area (R389) -/
  | memMap
  deriving DecidableEq, Repr

/-- One row of a dictionary table. -/
structure DictRow where
  indexLo : Nat
  indexHi : Nat
  subLo : Nat
  subHi : Nat
  type : EntryType
  access : Access
  dflt : Dflt
  /-- ranges of values the description allows; an empty list allows every value of the type -/
  ranges : List (Int × Int)
  deriving DecidableEq, Repr

/-- Bits of a simple type; 0 for the types that have no fixed length. -/
def EntryType.bits : EntryType → Nat
  | .bool => 1
  | .u8 | .i8 => 8
  | .u16 | .i16 => 16
  | .u32 | .i32 | .f32 => 32
  | .u64 | .i64 | .vtime => 64
  | .octets | .string | .domain => 0

/-- Octets of a simple type on the wire (R466). -/
def EntryType.octetLen : EntryType → Nat
  | .bool => 1
  | t => t.bits / 8

/-- The type code of R466. -/
def EntryType.code : EntryType → Nat
  | .bool => 0x01
  | .u8 => 0x02 | .u16 => 0x03 | .u32 => 0x04 | .u64 => 0x05
  | .i8 => 0x06 | .i16 => 0x07 | .i32 => 0x08 | .i64 => 0x09
  | .f32 => 0x0A | .vtime => 0x0B | .octets => 0x0C | .string => 0x0D | .domain => 0x10

/-- Whether the values of a type are two's complement. -/
def EntryType.signed : EntryType → Bool
  | .i8 | .i16 | .i32 | .i64 => true
  | _ => false

/-- Base, size in MiB and number of the areas of R389. -/
def memAreas : List (Nat × Nat) := [
  (0x00000000, 64), (0x04000000, 24), (0x05800000, 8), (0x06000000, 192), (0x12000000, 96), (0x18000000, 48),
  (0x1B000000, 8), (0x1B800000, 4), (0x1BC00000, 4), (0x1C000000, 64), (0x20000000, 160), (0x2A000000, 96),
  (0x30000000, 256), (0x40000000, 256), (0x50000000, 256), (0x60000000, 512)]

/-- Maximum burst and default class of the nine ports of R393, port 1 first. -/
def memPorts : List (Nat × Nat) := [
  (4096, 6), (8192, 4), (8192, 5), (2048, 1), (4096, 2), (256, 5), (256, 3), (4096, 5), (4096, 3)]

/-- The default of an element. MEM_MAP holds the base in [63:32] and the size in octets in [31:0] (R389). -/
def Dflt.value (d : Dflt) (index sub : Nat) : Nat :=
  match d with
  | .val n => n
  | .subMinusOne => sub - 1
  | .diagonal n => if (sub - 1) % (n + 1) = 0 then 8192 else 0
  | .phase => 32 * ((index - 0x9100) % 32)
  | .curve => clampNat 65535 (256 * (sub - 1))
  | .memClass => (nth memPorts (index - 0xB101) (0, 0)).2
  | .memBurst => (nth memPorts (index - 0xB101) (0, 0)).1
  | .memMap => (nth memAreas (sub - 1) (0, 0)).1 * 2 ^ 32 + (nth memAreas (sub - 1) (0, 0)).2 * 2 ^ 20

/-- Whether a row covers an element. -/
def DictRow.covers (r : DictRow) (index sub : Nat) : Bool :=
  Nat.ble r.indexLo index && Nat.ble index r.indexHi && Nat.ble r.subLo sub && Nat.ble sub r.subHi

/-- Whether a raw value lies in a row's stated range (R466, status 8 otherwise). -/
def DictRow.inRange (r : DictRow) (raw : Nat) : Bool :=
  let v : Int := if r.type.signed then toSigned r.type.bits raw else (raw : Int)
  Nat.blt raw (2 ^ r.type.bits) && (r.ranges.isEmpty || r.ranges.any fun p => decide (p.1 ≤ v ∧ v ≤ p.2))

/-- The key of an element in the store. Subindices go to 512 (SCN_LAMP_MAP_ADMIN), so ten bits hold them. -/
def Reg.key (r : Reg) : Nat := r.index * 1024 + r.sub

/-- A sparse store: keys strictly rising, no element listed at the value an unlisted one reads as. -/
abbrev Store := List (Nat × Nat)

/-- The value listed at a key, or the default. -/
def storeGet (d : Nat) : Store → Nat → Nat
  | [], _ => d
  | (k, v) :: rest, key => if k = key then v else storeGet d rest key

/-- A key that is not listed put in its place. -/
def storeInsert (key v : Nat) : Store → Store
  | [] => [(key, v)]
  | (k, w) :: rest => if key < k then (key, v) :: (k, w) :: rest else (k, w) :: storeInsert key v rest

/-- The store with a key at a value; writing the default removes the key. -/
def storePut (d : Nat) (l : Store) (key v : Nat) : Store :=
  let rest := l.filter fun p => p.1 != key
  if v = d then rest else storeInsert key v rest

/-- Keys strictly rising and above a bound. -/
def storeRising : Nat → Store → Bool
  | _, [] => true
  | b, (k, _) :: rest => Nat.blt b (k + 1) && storeRising (k + 1) rest

end Sys2Proof.Machine
end

