-- ==== Sys2Proof/Machine/DictTable.lean ====
section
/-! DEFINITION. The rows of the object dictionary, block by block: index range, subindex range, type, access, default and the
ranges of values the description states (an empty list: every value of the type), as the dictionary tables of spec/ give them. -/

namespace Sys2Proof.Machine

/-- Rows of the index range 0x1000, part 1. -/
def dictRows1_1 : List DictRow := [
  ⟨0x1000, 0x1000, 0, 0, .string, .const, .val 0, []⟩,
  ⟨0x1001, 0x1001, 0, 0, .string, .const, .val 0, []⟩,
  ⟨0x1002, 0x1002, 0, 0, .u16, .const, .val 1, []⟩,
  ⟨0x1003, 0x1003, 0, 0, .u64, .const, .val 0, []⟩,
  ⟨0x1004, 0x1004, 0, 0, .u8, .rwo, .val 0, [(0, 1)]⟩,
  ⟨0x1005, 0x1005, 0, 0, .u16, .ro, .val 0, []⟩,
  ⟨0x1010, 0x1010, 0, 0, .u8, .ro, .val 0, []⟩,
  ⟨0x1011, 0x1011, 0, 0, .u16, .ro, .val 0, []⟩,
  ⟨0x1012, 0x1012, 0, 0, .u8, .ro, .val 0, []⟩,
  ⟨0x1013, 0x1013, 0, 0, .u16, .rwo, .val 30, [(5, 600)]⟩,
  ⟨0x1014, 0x1014, 0, 0, .bool, .rwo, .val 1, []⟩,
  ⟨0x1020, 0x1020, 0, 0, .u8, .ro, .val 0, []⟩,
  ⟨0x1021, 0x1021, 0, 0, .u8, .ro, .val 0, []⟩,
  ⟨0x1022, 0x1022, 0, 0, .u8, .rwo, .val 255, [(0, 4), (255, 255)]⟩,
  ⟨0x1023, 0x1023, 0, 0, .u8, .wo, .val 0, [(0, 3)]⟩,
  ⟨0x1024, 0x1024, 0, 0, .u8, .ro, .val 0, []⟩,
  ⟨0x1025, 0x1025, 1, 1, .u8, .rwo, .val 0, [(0, 3)]⟩,
  ⟨0x1025, 0x1025, 2, 2, .u8, .rwo, .val 0, [(0, 1)]⟩,
  ⟨0x1025, 0x1025, 3, 3, .u8, .rwo, .val 0, [(0, 1)]⟩,
  ⟨0x1026, 0x1026, 0, 0, .u8, .wo, .val 0, [(1, 1)]⟩,
  ⟨0x1030, 0x1033, 1, 1, .bool, .ro, .val 0, []⟩,
  ⟨0x1030, 0x1033, 2, 2, .u8, .ro, .val 0, []⟩,
  ⟨0x1030, 0x1033, 3, 3, .u32, .ro, .val 0, []⟩,
  ⟨0x1030, 0x1033, 4, 4, .vtime, .ro, .val 0, []⟩,
  ⟨0x1030, 0x1033, 5, 5, .u64, .ro, .val 0, []⟩,
  ⟨0x1040, 0x1040, 0, 0, .octets, .wo, .val 0, []⟩,
  ⟨0x1041, 0x1041, 0, 0, .u32, .ro, .val 0, []⟩,
  ⟨0x1042, 0x1042, 0, 0, .u8, .ro, .val 0, []⟩,
  ⟨0x1043, 0x1043, 0, 0, .octets, .const, .val 0, []⟩,
  ⟨0x1044, 0x1044, 0, 0, .octets, .rws, .val 0, []⟩,
  ⟨0x1045, 0x1045, 0, 0, .u32, .ro, .val 0, []⟩,
  ⟨0x1046, 0x1046, 0, 0, .u16, .rws, .val 1800, [(60, 28800)]⟩,
  ⟨0x1047, 0x1047, 0, 0, .u16, .ro, .val 0, []⟩,
  ⟨0x1100, 0x1100, 1, 1, .u32, .ro, .val 0, []⟩,
  ⟨0x1100, 0x1100, 2, 2, .u32, .ro, .val 0, []⟩,
  ⟨0x1100, 0x1100, 3, 3, .u32, .ro, .val 0, []⟩,
  ⟨0x1100, 0x1100, 4, 4, .u32, .ro, .val 0, []⟩,
  ⟨0x1100, 0x1100, 5, 5, .u32, .ro, .val 0, []⟩,
  ⟨0x1100, 0x1100, 6, 6, .u32, .ro, .val 0, []⟩,
  ⟨0x1100, 0x1100, 7, 7, .u32, .ro, .val 0, []⟩]

/-- Rows of the index range 0x1000, part 2. -/
def dictRows1_2 : List DictRow := [
  ⟨0x1100, 0x1100, 8, 8, .u32, .ro, .val 0, []⟩,
  ⟨0x1100, 0x1100, 9, 9, .u32, .ro, .val 0, []⟩,
  ⟨0x1100, 0x1100, 10, 10, .u32, .ro, .val 0, []⟩,
  ⟨0x1100, 0x1100, 11, 11, .u32, .ro, .val 0, []⟩,
  ⟨0x1100, 0x1100, 12, 12, .u32, .ro, .val 0, []⟩]

/-- Rows of the index range 0x1000 (R464). -/
def dictRows1 : List DictRow := dictRows1_1 ++ dictRows1_2

/-- Rows of the index range 0x2000, part 1. -/
def dictRows2_1 : List DictRow := [
  ⟨0x2000, 0x2000, 0, 0, .octets, .const, .val 0, []⟩,
  ⟨0x2001, 0x2001, 0, 0, .octets, .const, .val 0, []⟩,
  ⟨0x2002, 0x2002, 0, 0, .u8, .rwo, .val 1, [(0, 1)]⟩,
  ⟨0x2003, 0x2003, 0, 0, .u32, .rwo, .val 167772160, []⟩,
  ⟨0x2004, 0x2004, 0, 0, .u32, .rwo, .val 0, []⟩,
  ⟨0x2005, 0x2005, 0, 0, .u32, .rwo, .val 4294901760, []⟩,
  ⟨0x2006, 0x2006, 0, 0, .u32, .ro, .val 0, []⟩,
  ⟨0x2007, 0x2007, 0, 0, .u32, .rwo, .val 3232235876, []⟩,
  ⟨0x2008, 0x2008, 0, 0, .u32, .rwo, .val 4294967040, []⟩,
  ⟨0x2010, 0x2010, 1, 2, .u8, .rwo, .val 0, [(0, 1)]⟩,
  ⟨0x2011, 0x2011, 1, 2, .u8, .rwo, .val 2, [(0, 2)]⟩,
  ⟨0x2012, 0x2012, 1, 3, .u8, .ro, .val 0, []⟩,
  ⟨0x2013, 0x2013, 0, 0, .u16, .rwo, .val 9216, [(1518, 9216)]⟩,
  ⟨0x2014, 0x2014, 0, 0, .bool, .rwo, .val 1, []⟩,
  ⟨0x2020, 0x2020, 1, 16, .octets, .ro, .val 0, []⟩,
  ⟨0x2021, 0x2021, 1, 16, .u32, .ro, .val 0, []⟩,
  ⟨0x2030, 0x2030, 1, 8, .u8, .rwo, .subMinusOne, [(0, 7)]⟩,
  ⟨0x2031, 0x2031, 1, 8, .u16, .rwo, .val 9216, [(64, 9216)]⟩,
  ⟨0x2032, 0x2032, 1, 8, .u16, .rwo, .val 64, [(1, 1024)]⟩,
  ⟨0x2040, 0x2040, 1, 2, .bool, .rwo, .val 0, []⟩,
  ⟨0x2041, 0x2041, 1, 2, .vtime, .rwo, .val 0, []⟩,
  ⟨0x2042, 0x2042, 1, 2, .u32, .rwo, .val 1000000, [(1000, 1000000000)]⟩,
  ⟨0x2043, 0x2043, 1, 2, .u32, .rwo, .val 10000, []⟩,
  ⟨0x2044, 0x2044, 1, 2, .u8, .rwo, .val 1, [(1, 64)]⟩,
  ⟨0x2045, 0x2045, 1, 64, .u64, .rwo, .val 1095217660480, []⟩,
  ⟨0x2046, 0x2046, 1, 64, .u64, .rwo, .val 1095217660480, []⟩,
  ⟨0x2047, 0x2047, 1, 2, .u8, .rwo, .val 0, [(1, 2)]⟩,
  ⟨0x2048, 0x2048, 1, 2, .vtime, .ro, .val 0, []⟩,
  ⟨0x2050, 0x2050, 1, 2, .vtime, .ro, .val 0, []⟩,
  ⟨0x2051, 0x2051, 1, 2, .u32, .ro, .val 1000000, []⟩,
  ⟨0x2052, 0x2052, 1, 2, .u32, .ro, .val 10000, []⟩,
  ⟨0x2053, 0x2053, 1, 2, .u8, .ro, .val 1, []⟩,
  ⟨0x2054, 0x2054, 1, 2, .u32, .ro, .val 0, []⟩,
  ⟨0x2055, 0x2055, 1, 64, .u64, .ro, .val 1095217660480, []⟩,
  ⟨0x2056, 0x2056, 1, 64, .u64, .ro, .val 1095217660480, []⟩,
  ⟨0x2100, 0x2102, 1, 1, .u64, .ro, .val 0, []⟩,
  ⟨0x2100, 0x2102, 2, 2, .u64, .ro, .val 0, []⟩,
  ⟨0x2100, 0x2102, 3, 3, .u32, .ro, .val 0, []⟩,
  ⟨0x2100, 0x2102, 4, 4, .u32, .ro, .val 0, []⟩,
  ⟨0x2100, 0x2102, 5, 5, .u32, .ro, .val 0, []⟩]

/-- Rows of the index range 0x2000, part 2. -/
def dictRows2_2 : List DictRow := [
  ⟨0x2100, 0x2102, 6, 6, .u32, .ro, .val 0, []⟩,
  ⟨0x2100, 0x2102, 7, 7, .u32, .ro, .val 0, []⟩,
  ⟨0x2100, 0x2102, 8, 8, .u32, .ro, .val 0, []⟩,
  ⟨0x2100, 0x2102, 9, 9, .u32, .ro, .val 0, []⟩,
  ⟨0x2100, 0x2102, 10, 10, .u32, .ro, .val 0, []⟩,
  ⟨0x2100, 0x2102, 11, 11, .u32, .ro, .val 0, []⟩,
  ⟨0x2100, 0x2102, 12, 12, .u32, .ro, .val 0, []⟩,
  ⟨0x2100, 0x2102, 13, 13, .u32, .ro, .val 0, []⟩,
  ⟨0x2100, 0x2102, 14, 14, .u32, .ro, .val 0, []⟩,
  ⟨0x2100, 0x2102, 15, 15, .u32, .ro, .val 0, []⟩,
  ⟨0x2100, 0x2102, 16, 16, .u32, .ro, .val 0, []⟩,
  ⟨0x2100, 0x2102, 17, 17, .u32, .ro, .val 0, []⟩,
  ⟨0x2100, 0x2102, 18, 18, .u32, .ro, .val 0, []⟩,
  ⟨0x2100, 0x2102, 19, 19, .u32, .ro, .val 0, []⟩,
  ⟨0x2100, 0x2102, 20, 20, .u32, .ro, .val 0, []⟩,
  ⟨0x2100, 0x2102, 21, 21, .u32, .ro, .val 0, []⟩,
  ⟨0x2100, 0x2102, 22, 22, .u32, .ro, .val 0, []⟩,
  ⟨0x2100, 0x2102, 23, 23, .u32, .ro, .val 0, []⟩,
  ⟨0x2100, 0x2102, 24, 24, .u32, .ro, .val 0, []⟩,
  ⟨0x2100, 0x2102, 25, 25, .u32, .ro, .val 0, []⟩,
  ⟨0x2100, 0x2102, 26, 26, .u32, .ro, .val 0, []⟩,
  ⟨0x2100, 0x2102, 27, 27, .u32, .ro, .val 0, []⟩,
  ⟨0x2100, 0x2102, 28, 28, .u32, .ro, .val 0, []⟩,
  ⟨0x2100, 0x2102, 29, 29, .u32, .ro, .val 0, []⟩,
  ⟨0x2100, 0x2102, 30, 30, .u32, .ro, .val 0, []⟩,
  ⟨0x2100, 0x2102, 31, 31, .u32, .ro, .val 0, []⟩,
  ⟨0x2100, 0x2102, 32, 32, .u32, .ro, .val 0, []⟩,
  ⟨0x2100, 0x2102, 33, 33, .u32, .ro, .val 0, []⟩,
  ⟨0x2100, 0x2102, 34, 34, .u32, .ro, .val 0, []⟩,
  ⟨0x2100, 0x2102, 35, 35, .u32, .ro, .val 0, []⟩,
  ⟨0x2100, 0x2102, 36, 36, .u32, .ro, .val 0, []⟩,
  ⟨0x2100, 0x2102, 37, 37, .u32, .ro, .val 0, []⟩,
  ⟨0x2100, 0x2102, 38, 38, .u32, .ro, .val 0, []⟩,
  ⟨0x2100, 0x2102, 39, 39, .u32, .ro, .val 0, []⟩,
  ⟨0x2100, 0x2102, 40, 40, .u32, .ro, .val 0, []⟩,
  ⟨0x2100, 0x2102, 41, 41, .u32, .ro, .val 0, []⟩,
  ⟨0x2100, 0x2102, 42, 42, .u32, .ro, .val 0, []⟩,
  ⟨0x2100, 0x2102, 43, 43, .u32, .ro, .val 0, []⟩,
  ⟨0x2100, 0x2102, 44, 44, .u32, .ro, .val 0, []⟩,
  ⟨0x2100, 0x2102, 45, 45, .u32, .ro, .val 0, []⟩]

/-- Rows of the index range 0x2000, part 3. -/
def dictRows2_3 : List DictRow := [
  ⟨0x2100, 0x2102, 46, 46, .u32, .ro, .val 0, []⟩,
  ⟨0x2100, 0x2102, 47, 47, .u32, .ro, .val 0, []⟩,
  ⟨0x2100, 0x2102, 48, 48, .u32, .ro, .val 0, []⟩,
  ⟨0x2100, 0x2102, 49, 49, .u32, .ro, .val 0, []⟩,
  ⟨0x2100, 0x2102, 50, 50, .u32, .ro, .val 0, []⟩,
  ⟨0x2100, 0x2102, 51, 51, .u32, .ro, .val 0, []⟩,
  ⟨0x2100, 0x2102, 52, 52, .u32, .ro, .val 0, []⟩,
  ⟨0x2100, 0x2102, 53, 53, .u32, .ro, .val 0, []⟩,
  ⟨0x2100, 0x2102, 54, 54, .u32, .ro, .val 0, []⟩,
  ⟨0x2100, 0x2102, 55, 55, .u32, .ro, .val 0, []⟩,
  ⟨0x2400, 0x247F, 1, 1, .bool, .rwo, .val 0, []⟩,
  ⟨0x2400, 0x247F, 2, 2, .u8, .rwo, .val 0, [(0, 1)]⟩,
  ⟨0x2400, 0x247F, 3, 3, .u32, .rwo, .val 0, [(3758096384, 4026531839)]⟩,
  ⟨0x2400, 0x247F, 4, 4, .u16, .rwo, .val 48622, []⟩,
  ⟨0x2400, 0x247F, 5, 5, .u32, .rwo, .val 0, []⟩]

/-- Rows of the index range 0x2000 (R464). -/
def dictRows2 : List DictRow := dictRows2_1 ++ dictRows2_2 ++ dictRows2_3

/-- Rows of the index range 0x3000, part 1. -/
def dictRows3_1 : List DictRow := [
  ⟨0x3000, 0x3000, 0, 0, .u8, .ro, .val 0, []⟩,
  ⟨0x3001, 0x3001, 0, 0, .u16, .ro, .val 0, []⟩,
  ⟨0x3002, 0x3002, 1, 1, .vtime, .ro, .val 0, []⟩,
  ⟨0x3002, 0x3002, 2, 2, .u32, .ro, .val 0, []⟩,
  ⟨0x3003, 0x3003, 0, 0, .i64, .ro, .val 0, []⟩,
  ⟨0x3004, 0x3004, 0, 0, .u32, .ro, .val 0, []⟩,
  ⟨0x3005, 0x3005, 0, 0, .f32, .ro, .val 0, []⟩,
  ⟨0x3006, 0x3006, 0, 0, .u64, .ro, .val 0, []⟩,
  ⟨0x3007, 0x3007, 0, 0, .u32, .ro, .val 0, []⟩,
  ⟨0x3008, 0x3008, 0, 0, .u32, .ro, .val 0, []⟩,
  ⟨0x3009, 0x3009, 0, 0, .u32, .ro, .val 0, []⟩,
  ⟨0x300A, 0x300A, 0, 0, .vtime, .rwo, .val 0, []⟩,
  ⟨0x300B, 0x300B, 0, 0, .i16, .ro, .val 0, []⟩,
  ⟨0x300C, 0x300C, 0, 0, .u8, .ro, .val 0, []⟩,
  ⟨0x3010, 0x3010, 1, 8, .u8, .rwf, .val 0, [(0, 1)]⟩,
  ⟨0x3020, 0x3020, 0, 0, .u8, .rwo, .val 0, [(0, 2)]⟩,
  ⟨0x3021, 0x3021, 0, 0, .u8, .rwo, .val 127, []⟩,
  ⟨0x3022, 0x3022, 0, 0, .u8, .rwo, .val 0, [(0, 3)]⟩,
  ⟨0x3023, 0x3023, 0, 0, .u8, .rwo, .val 0, [(0, 1)]⟩,
  ⟨0x3024, 0x3024, 0, 0, .u32, .rws, .val 1000, [(100, 1000000)]⟩,
  ⟨0x3025, 0x3025, 0, 0, .u32, .rwo, .val 100, [(10, 1000000)]⟩,
  ⟨0x3026, 0x3026, 0, 0, .u32, .rwo, .val 60, []⟩,
  ⟨0x3027, 0x3027, 1, 3, .u8, .rwo, .val 0, [(0, 1)]⟩,
  ⟨0x3028, 0x3028, 1, 3, .u32, .rwo, .val 0, []⟩,
  ⟨0x3029, 0x3029, 1, 3, .u32, .rwo, .val 0, []⟩,
  ⟨0x302A, 0x302A, 1, 3, .i32, .rwo, .val 0, []⟩,
  ⟨0x302B, 0x302B, 0, 0, .u32, .rwo, .val 1500, []⟩,
  ⟨0x302C, 0x302C, 1, 3, .u64, .ro, .val 0, []⟩,
  ⟨0x3030, 0x3030, 1, 3, .u32, .ro, .val 0, []⟩,
  ⟨0x3031, 0x3031, 0, 0, .u8, .ro, .val 0, []⟩,
  ⟨0x3100, 0x310F, 1, 1, .bool, .rwo, .val 0, []⟩,
  ⟨0x3100, 0x310F, 2, 2, .u8, .rwo, .val 0, [(0, 3)]⟩,
  ⟨0x3100, 0x310F, 3, 3, .vtime, .rwo, .val 0, []⟩,
  ⟨0x3100, 0x310F, 4, 4, .u32, .rwo, .val 0, []⟩,
  ⟨0x3100, 0x310F, 5, 5, .u64, .rwo, .val 0, [(0, 0), (100, 18446744073709551615)]⟩,
  ⟨0x3100, 0x310F, 6, 6, .u32, .rwo, .val 0, []⟩,
  ⟨0x3100, 0x310F, 7, 7, .u32, .rwo, .val 0, []⟩,
  ⟨0x3100, 0x310F, 8, 8, .u32, .rwo, .val 1000, [(10, 1000000000)]⟩,
  ⟨0x3100, 0x310F, 9, 9, .bool, .rwo, .val 0, []⟩,
  ⟨0x3100, 0x310F, 10, 10, .u8, .rwo, .val 0, [(0, 1)]⟩]

/-- Rows of the index range 0x3000, part 2. -/
def dictRows3_2 : List DictRow := [
  ⟨0x3100, 0x310F, 11, 11, .u8, .wo, .val 0, [(1, 1)]⟩,
  ⟨0x3100, 0x310F, 12, 12, .u32, .ro, .val 0, []⟩,
  ⟨0x3100, 0x310F, 13, 13, .u32, .ro, .val 0, []⟩,
  ⟨0x3100, 0x310F, 14, 14, .u32, .ro, .val 0, []⟩,
  ⟨0x3100, 0x310F, 15, 15, .vtime, .ro, .val 0, []⟩,
  ⟨0x3200, 0x3207, 1, 1, .bool, .rwo, .val 0, []⟩,
  ⟨0x3200, 0x3207, 2, 2, .u8, .rwo, .val 0, [(0, 7), (16, 33)]⟩,
  ⟨0x3200, 0x3207, 3, 3, .u8, .rwo, .val 0, [(0, 2)]⟩,
  ⟨0x3200, 0x3207, 4, 4, .u16, .rwo, .val 0, [(0, 10000)]⟩,
  ⟨0x3200, 0x3207, 5, 5, .bool, .rwo, .val 0, []⟩,
  ⟨0x3200, 0x3207, 6, 6, .octets, .ro, .val 0, []⟩,
  ⟨0x3200, 0x3207, 7, 7, .u32, .ro, .val 0, []⟩,
  ⟨0x3200, 0x3207, 8, 8, .u32, .ro, .val 0, []⟩]

/-- Rows of the index range 0x3000 (R464). -/
def dictRows3 : List DictRow := dictRows3_1 ++ dictRows3_2

/-- Rows of the index range 0x4000, part 1. -/
def dictRows4_1 : List DictRow := [
  ⟨0x4100, 0x4107, 1, 1, .bool, .rwo, .val 0, []⟩,
  ⟨0x4100, 0x4107, 2, 2, .u8, .rwf, .val 255, [(0, 127), (255, 255)]⟩,
  ⟨0x4100, 0x4107, 3, 3, .u16, .rwf, .val 0, []⟩,
  ⟨0x4100, 0x4107, 4, 4, .u16, .rwf, .val 0, []⟩,
  ⟨0x4100, 0x4107, 5, 5, .u16, .rwf, .val 0, [(1, 4096)]⟩,
  ⟨0x4100, 0x4107, 6, 6, .u16, .rwf, .val 0, [(1, 4096)]⟩,
  ⟨0x4100, 0x4107, 7, 7, .u8, .rwf, .val 0, [(0, 1)]⟩,
  ⟨0x4100, 0x4107, 8, 8, .u32, .rwf, .val 4000000, [(100000, 40000000)]⟩,
  ⟨0x4100, 0x4107, 9, 9, .u32, .rwf, .val 2000000, [(50000, 40000000)]⟩,
  ⟨0x4100, 0x4107, 10, 10, .u32, .rwf, .val 33333333, []⟩,
  ⟨0x4100, 0x4107, 11, 11, .u16, .rwf, .val 0, []⟩,
  ⟨0x4100, 0x4107, 12, 12, .u16, .rwf, .val 0, []⟩,
  ⟨0x4100, 0x4107, 13, 13, .u16, .rwf, .val 0, []⟩,
  ⟨0x4100, 0x4107, 14, 14, .u16, .rwf, .val 0, []⟩,
  ⟨0x4100, 0x4107, 15, 15, .u8, .rwf, .val 0, [(0, 3)]⟩,
  ⟨0x4100, 0x4107, 16, 16, .u8, .rwf, .val 0, [(0, 15)]⟩,
  ⟨0x4100, 0x4107, 17, 17, .u8, .rwf, .val 0, [(0, 1)]⟩,
  ⟨0x4100, 0x4107, 18, 18, .u8, .rwf, .val 7, [(0, 10)]⟩,
  ⟨0x4100, 0x4107, 19, 19, .u8, .rwf, .val 1, [(0, 1)]⟩,
  ⟨0x4100, 0x4107, 20, 20, .u8, .rwf, .val 10, [(10, 10), (12, 12)]⟩,
  ⟨0x4100, 0x4107, 21, 21, .u8, .rwf, .val 0, [(0, 1)]⟩,
  ⟨0x4100, 0x4107, 22, 22, .u8, .rwf, .val 0, [(0, 1)]⟩,
  ⟨0x4100, 0x4107, 23, 23, .u32, .ro, .val 0, []⟩,
  ⟨0x4300, 0x4308, 1, 1, .u32, .ro, .val 0, []⟩,
  ⟨0x4300, 0x4308, 2, 2, .u32, .ro, .val 0, []⟩,
  ⟨0x4300, 0x4308, 3, 3, .u32, .ro, .val 0, []⟩,
  ⟨0x4300, 0x4308, 4, 4, .u32, .ro, .val 0, []⟩,
  ⟨0x4300, 0x4308, 5, 5, .u32, .ro, .val 0, []⟩,
  ⟨0x4300, 0x4308, 6, 6, .u32, .ro, .val 0, []⟩,
  ⟨0x4300, 0x4308, 7, 7, .u32, .ro, .val 0, []⟩,
  ⟨0x4300, 0x4308, 8, 8, .u32, .ro, .val 0, []⟩,
  ⟨0x4300, 0x4308, 9, 9, .u32, .ro, .val 0, []⟩,
  ⟨0x4300, 0x4308, 10, 10, .u32, .ro, .val 0, []⟩,
  ⟨0x4300, 0x4308, 11, 11, .u32, .ro, .val 0, []⟩,
  ⟨0x4300, 0x4308, 12, 12, .u32, .ro, .val 0, []⟩,
  ⟨0x4300, 0x4308, 13, 13, .u32, .ro, .val 0, []⟩,
  ⟨0x4300, 0x4308, 14, 14, .u32, .ro, .val 0, []⟩,
  ⟨0x4300, 0x4308, 15, 15, .u32, .ro, .val 0, []⟩,
  ⟨0x4300, 0x4308, 16, 16, .u32, .ro, .val 0, []⟩,
  ⟨0x4300, 0x4308, 17, 17, .u32, .ro, .val 0, []⟩]

/-- Rows of the index range 0x4000, part 2. -/
def dictRows4_2 : List DictRow := [
  ⟨0x4300, 0x4308, 18, 18, .u32, .ro, .val 0, []⟩,
  ⟨0x4300, 0x4308, 19, 19, .u32, .ro, .val 0, []⟩,
  ⟨0x4300, 0x4308, 20, 20, .u32, .ro, .val 0, []⟩]

/-- Rows of the index range 0x4000 (R464). -/
def dictRows4 : List DictRow := dictRows4_1 ++ dictRows4_2

/-- Rows of the index range 0x5000, part 1. -/
def dictRows5_1 : List DictRow := [
  ⟨0x5000, 0x5000, 0, 0, .u8, .ro, .val 0, []⟩,
  ⟨0x5001, 0x5001, 0, 0, .u32, .ro, .val 0, []⟩,
  ⟨0x5002, 0x5002, 0, 0, .u16, .ro, .val 0, []⟩,
  ⟨0x5003, 0x5003, 0, 0, .u16, .rwo, .val 4096, [(0, 16384)]⟩,
  ⟨0x5004, 0x5004, 0, 0, .u16, .ro, .val 32767, []⟩,
  ⟨0x5005, 0x5005, 0, 0, .u32, .rwo, .val 1000000, [(0, 16000000)]⟩,
  ⟨0x5006, 0x5006, 0, 0, .u8, .rwo, .val 80, [(10, 100)]⟩,
  ⟨0x5007, 0x5007, 1, 1, .u16, .ro, .val 0, []⟩,
  ⟨0x5007, 0x5007, 2, 2, .u16, .ro, .val 0, []⟩,
  ⟨0x5007, 0x5007, 3, 3, .u32, .ro, .val 0, []⟩,
  ⟨0x5007, 0x5007, 4, 4, .i32, .ro, .val 0, []⟩,
  ⟨0x5020, 0x5020, 0, 0, .bool, .rwo, .val 1, []⟩,
  ⟨0x5021, 0x5021, 0, 0, .u16, .rwo, .val 65535, []⟩,
  ⟨0x5022, 0x5022, 0, 0, .u32, .rwf, .val 16777216, [(1048576, 1048576), (2097152, 2097152), (4194304, 4194304), (8388608, 8388608), (16777216, 16777216), (33554432, 33554432), (67108864, 67108864)]⟩,
  ⟨0x5023, 0x5023, 0, 0, .u32, .ro, .val 0, []⟩,
  ⟨0x5024, 0x5024, 0, 0, .u32, .rw, .val 0, []⟩,
  ⟨0x5025, 0x5025, 0, 0, .u32, .rw, .val 0, []⟩,
  ⟨0x5026, 0x5026, 0, 0, .u8, .wo, .val 0, [(1, 1)]⟩,
  ⟨0x5027, 0x5027, 0, 0, .domain, .ro, .val 0, []⟩,
  ⟨0x5028, 0x5028, 0, 0, .u8, .ro, .val 0, []⟩,
  ⟨0x5030, 0x5030, 1, 4, .u16, .ro, .val 0, []⟩,
  ⟨0x5100, 0x5100, 1, 8, .u16, .ro, .val 0, []⟩,
  ⟨0x5101, 0x5101, 1, 8, .u16, .ro, .val 0, []⟩,
  ⟨0x5102, 0x5102, 1, 8, .u32, .ro, .val 0, []⟩,
  ⟨0x5103, 0x5103, 1, 8, .u32, .ro, .val 0, []⟩,
  ⟨0x5104, 0x5104, 1, 16, .u16, .ro, .val 0, []⟩,
  ⟨0x5105, 0x5105, 0, 0, .u32, .rwo, .val 1000000000, [(10000000, 4000000000)]⟩,
  ⟨0x5200, 0x5200, 1, 1, .u64, .ro, .val 0, []⟩,
  ⟨0x5200, 0x5200, 2, 2, .u32, .ro, .val 0, []⟩,
  ⟨0x5200, 0x5200, 3, 3, .u32, .ro, .val 0, []⟩,
  ⟨0x5200, 0x5200, 4, 4, .u32, .ro, .val 0, []⟩,
  ⟨0x5200, 0x5200, 5, 5, .u32, .ro, .val 0, []⟩,
  ⟨0x5200, 0x5200, 6, 6, .u32, .ro, .val 0, []⟩,
  ⟨0x5200, 0x5200, 7, 7, .u32, .ro, .val 0, []⟩,
  ⟨0x5200, 0x5200, 8, 8, .u32, .ro, .val 0, []⟩,
  ⟨0x5200, 0x5200, 9, 9, .u32, .ro, .val 0, []⟩,
  ⟨0x5200, 0x5200, 10, 10, .u64, .ro, .val 0, []⟩,
  ⟨0x5200, 0x5200, 11, 11, .u32, .ro, .val 0, []⟩]

/-- Rows of the index range 0x5000 (R464). -/
def dictRows5 : List DictRow := dictRows5_1

/-- Rows of the index range 0x6000, part 1. -/
def dictRows6_1 : List DictRow := [
  ⟨0x6000, 0x6000, 0, 0, .u64, .rwo, .val 0, [(0, 68719476735)]⟩,
  ⟨0x6001, 0x6001, 0, 0, .u8, .rwo, .val 0, [(0, 1)]⟩,
  ⟨0x6002, 0x6002, 1, 8, .u8, .rwo, .subMinusOne, [(0, 7)]⟩,
  ⟨0x6003, 0x6003, 0, 0, .u8, .rwo, .val 0, [(1, 2)]⟩,
  ⟨0x6004, 0x6004, 0, 0, .u8, .ro, .val 0, []⟩,
  ⟨0x6005, 0x6005, 1, 8, .u8, .ro, .subMinusOne, []⟩,
  ⟨0x6006, 0x6006, 0, 0, .u16, .ro, .val 0, []⟩,
  ⟨0x6007, 0x6007, 0, 0, .u8, .ro, .val 0, []⟩,
  ⟨0x6100, 0x6107, 1, 1, .u8, .rwf, .val 1, [(0, 4)]⟩,
  ⟨0x6100, 0x6107, 2, 2, .u8, .rwo, .val 255, []⟩,
  ⟨0x6100, 0x6107, 3, 3, .u64, .rwo, .val 0, [(0, 68719476735)]⟩,
  ⟨0x6100, 0x6107, 4, 4, .u16, .rwo, .val 0, [(0, 4095)]⟩,
  ⟨0x6100, 0x6107, 5, 5, .bool, .rwf, .val 0, []⟩,
  ⟨0x6100, 0x6107, 6, 6, .u16, .rwf, .val 0, []⟩,
  ⟨0x6100, 0x6107, 7, 7, .u16, .rwf, .val 0, []⟩,
  ⟨0x6100, 0x6107, 8, 8, .u16, .rwf, .val 0, []⟩,
  ⟨0x6100, 0x6107, 9, 9, .u16, .rwf, .val 0, []⟩,
  ⟨0x6100, 0x6107, 10, 10, .u8, .rwf, .val 0, [(0, 4)]⟩,
  ⟨0x6200, 0x6200, 0, 0, .bool, .rws, .val 0, []⟩,
  ⟨0x6201, 0x6201, 0, 0, .octets, .wo, .val 0, []⟩,
  ⟨0x6202, 0x6202, 0, 0, .u32, .ro, .val 0, []⟩,
  ⟨0x6203, 0x6203, 0, 0, .u16, .rws, .val 48626, []⟩,
  ⟨0x6204, 0x6204, 0, 0, .u16, .rws, .val 1000, [(100, 10000)]⟩,
  ⟨0x6205, 0x6205, 1, 16, .u8, .rws, .val 0, [(0, 2)]⟩,
  ⟨0x6206, 0x6206, 0, 0, .u16, .rws, .val 2000, [(10, 60000)]⟩,
  ⟨0x6207, 0x6207, 0, 0, .u64, .rws, .val 0, [(0, 68719476735)]⟩,
  ⟨0x6208, 0x6208, 0, 0, .u8, .ro, .val 0, []⟩,
  ⟨0x6209, 0x6209, 0, 0, .u32, .ro, .val 0, []⟩,
  ⟨0x620A, 0x620A, 1, 16, .u64, .ro, .val 0, []⟩,
  ⟨0x6300, 0x6300, 1, 4, .u16, .rw, .val 0, []⟩,
  ⟨0x6301, 0x6301, 0, 0, .u8, .rw, .val 0, [(1, 1)]⟩,
  ⟨0x6302, 0x6302, 0, 0, .domain, .ro, .val 0, []⟩,
  ⟨0x6400, 0x6407, 1, 1, .u32, .ro, .val 0, []⟩,
  ⟨0x6400, 0x6407, 2, 2, .u32, .ro, .val 0, []⟩,
  ⟨0x6400, 0x6407, 3, 3, .u32, .ro, .val 0, []⟩,
  ⟨0x6400, 0x6407, 4, 4, .u32, .ro, .val 0, []⟩,
  ⟨0x6400, 0x6407, 5, 5, .u32, .ro, .val 0, []⟩,
  ⟨0x6400, 0x6407, 6, 6, .u32, .ro, .val 0, []⟩,
  ⟨0x6400, 0x6407, 7, 7, .u32, .ro, .val 0, []⟩,
  ⟨0x6408, 0x6408, 1, 1, .u32, .ro, .val 0, []⟩]

/-- Rows of the index range 0x6000, part 2. -/
def dictRows6_2 : List DictRow := [
  ⟨0x6408, 0x6408, 2, 2, .u32, .ro, .val 0, []⟩,
  ⟨0x6408, 0x6408, 3, 3, .u32, .ro, .val 0, []⟩,
  ⟨0x6408, 0x6408, 4, 4, .u32, .ro, .val 0, []⟩,
  ⟨0x6408, 0x6408, 5, 5, .u32, .ro, .val 0, []⟩,
  ⟨0x6408, 0x6408, 6, 6, .u32, .ro, .val 0, []⟩,
  ⟨0x6408, 0x6408, 7, 7, .u32, .ro, .val 0, []⟩,
  ⟨0x6408, 0x6408, 8, 8, .u32, .ro, .val 0, []⟩,
  ⟨0x6408, 0x6408, 9, 9, .u32, .ro, .val 0, []⟩,
  ⟨0x6408, 0x6408, 10, 10, .u32, .ro, .val 0, []⟩]

/-- Rows of the index range 0x6000 (R464). -/
def dictRows6 : List DictRow := dictRows6_1 ++ dictRows6_2

/-- Rows of the index range 0x7000, part 1. -/
def dictRows7_1 : List DictRow := [
  ⟨0x7000, 0x7000, 0, 0, .u8, .ro, .val 0, []⟩,
  ⟨0x7001, 0x7001, 0, 0, .u8, .rwo, .val 0, [(0, 1)]⟩,
  ⟨0x7002, 0x7002, 1, 9, .i16, .rwo, .diagonal 3, []⟩,
  ⟨0x7003, 0x7003, 1, 16, .i16, .rwo, .diagonal 4, []⟩,
  ⟨0x7004, 0x7004, 0, 0, .u16, .rwo, .val 4, [(1, 64)]⟩,
  ⟨0x7005, 0x7005, 0, 0, .u16, .rwo, .val 60, [(10, 3600)]⟩,
  ⟨0x7006, 0x7006, 0, 0, .u16, .rwo, .val 250, [(250, 10000)]⟩,
  ⟨0x7007, 0x7007, 0, 0, .u32, .rwo, .val 600, [(60, 86400)]⟩,
  ⟨0x7008, 0x7008, 0, 0, .u8, .rwo, .val 1, [(0, 1)]⟩,
  ⟨0x7009, 0x7009, 0, 0, .u16, .rws, .val 25, [(1, 256)]⟩,
  ⟨0x7100, 0x713F, 1, 1, .u8, .rwo, .val 0, [(0, 2)]⟩,
  ⟨0x7100, 0x713F, 2, 2, .u8, .rwo, .val 0, [(0, 15)]⟩,
  ⟨0x7100, 0x713F, 3, 3, .i16, .rwo, .val 0, []⟩,
  ⟨0x7100, 0x713F, 4, 4, .i16, .ro, .val 0, []⟩,
  ⟨0x7100, 0x713F, 5, 5, .i16, .ro, .val 0, []⟩,
  ⟨0x7100, 0x713F, 6, 6, .u8, .ro, .val 0, []⟩,
  ⟨0x7100, 0x713F, 7, 7, .u32, .ro, .val 0, []⟩,
  ⟨0x7200, 0x723F, 1, 32, .u8, .rwo, .val 0, [(0, 63)]⟩,
  ⟨0x7300, 0x733F, 1, 32, .u32, .ro, .val 0, []⟩,
  ⟨0x7400, 0x7400, 1, 1, .u8, .rwo, .val 0, [(0, 63)]⟩,
  ⟨0x7400, 0x7400, 2, 2, .u8, .rwo, .val 0, [(1, 32)]⟩,
  ⟨0x7400, 0x7400, 3, 3, .u16, .rwo, .val 0, []⟩,
  ⟨0x7400, 0x7400, 4, 4, .u8, .rwo, .val 0, [(0, 4)]⟩,
  ⟨0x7400, 0x7400, 5, 5, .u8, .wo, .val 0, [(1, 1)]⟩,
  ⟨0x7410, 0x7410, 1, 2, .u8, .rws, .val 0, []⟩,
  ⟨0x7410, 0x7410, 3, 3, .domain, .rws, .val 0, []⟩,
  ⟨0x7410, 0x7410, 4, 4, .domain, .rws, .val 0, []⟩,
  ⟨0x7410, 0x7410, 5, 5, .u8, .rws, .val 0, [(2, 2)]⟩,
  ⟨0x7410, 0x7410, 6, 6, .u32, .ro, .val 0, []⟩,
  ⟨0x7500, 0x7500, 0, 0, .u8, .ro, .val 0, []⟩,
  ⟨0x7501, 0x7501, 0, 0, .u8, .rws, .val 0, [(1, 1)]⟩,
  ⟨0x7502, 0x7502, 0, 0, .u16, .ro, .val 0, []⟩,
  ⟨0x7600, 0x77FF, 1, 1, .u16, .ro, .val 0, []⟩,
  ⟨0x7600, 0x77FF, 2, 2, .i8, .ro, .val 0, []⟩,
  ⟨0x7600, 0x77FF, 3, 3, .u8, .ro, .val 0, []⟩,
  ⟨0x7800, 0x7800, 1, 1, .u32, .ro, .val 0, []⟩,
  ⟨0x7800, 0x7800, 2, 2, .u32, .ro, .val 0, []⟩,
  ⟨0x7800, 0x7800, 3, 3, .u32, .ro, .val 0, []⟩,
  ⟨0x7800, 0x7800, 4, 4, .u32, .ro, .val 0, []⟩,
  ⟨0x7800, 0x7800, 5, 5, .u32, .ro, .val 0, []⟩]

/-- Rows of the index range 0x7000, part 2. -/
def dictRows7_2 : List DictRow := [
  ⟨0x7800, 0x7800, 6, 6, .u32, .ro, .val 0, []⟩,
  ⟨0x7800, 0x7800, 7, 7, .u32, .ro, .val 0, []⟩,
  ⟨0x7800, 0x7800, 8, 8, .u32, .ro, .val 0, []⟩,
  ⟨0x7800, 0x7800, 9, 9, .u32, .ro, .val 0, []⟩,
  ⟨0x7800, 0x7800, 10, 10, .u32, .ro, .val 0, []⟩,
  ⟨0x7800, 0x7800, 11, 11, .u32, .ro, .val 0, []⟩,
  ⟨0x7800, 0x7800, 12, 12, .u32, .ro, .val 0, []⟩,
  ⟨0x7800, 0x7800, 13, 13, .u32, .ro, .val 0, []⟩]

/-- Rows of the index range 0x7000 (R464). -/
def dictRows7 : List DictRow := dictRows7_1 ++ dictRows7_2

/-- Rows of the index range 0x8000, part 1. -/
def dictRows8_1 : List DictRow := [
  ⟨0x8000, 0x8000, 0, 0, .u8, .ro, .val 0, []⟩,
  ⟨0x8001, 0x8001, 0, 0, .u8, .rwo, .val 0, [(0, 1)]⟩,
  ⟨0x8002, 0x8002, 0, 0, .u8, .rwo, .val 0, [(1, 2)]⟩,
  ⟨0x8003, 0x8003, 0, 0, .u16, .ro, .val 0, []⟩,
  ⟨0x8004, 0x8004, 0, 0, .u16, .rwo, .val 250, [(1, 999)]⟩,
  ⟨0x8005, 0x8005, 0, 0, .u16, .rwo, .val 100, [(0, 998)]⟩,
  ⟨0x8006, 0x8006, 0, 0, .u8, .rwo, .val 2, [(0, 2)]⟩,
  ⟨0x8010, 0x8010, 1, 1, .u8, .rwo, .val 8, []⟩,
  ⟨0x8010, 0x8010, 2, 2, .u8, .rwo, .val 1, [(1, 2), (4, 4)]⟩,
  ⟨0x8010, 0x8010, 3, 3, .u32, .rwo, .val 0, []⟩,
  ⟨0x8010, 0x8010, 4, 4, .u8, .rwo, .val 0, [(0, 2)]⟩,
  ⟨0x8010, 0x8010, 5, 5, .u8, .rwo, .val 0, [(0, 7)]⟩,
  ⟨0x8010, 0x8010, 6, 6, .i32, .rwo, .val 0, [(-10000000, 10000000)]⟩,
  ⟨0x8010, 0x8010, 7, 7, .u32, .rwo, .val 1000, [(10, 100000)]⟩,
  ⟨0x8010, 0x8010, 8, 8, .vtime, .rwo, .val 0, []⟩,
  ⟨0x8010, 0x8010, 9, 12, .u8, .rwo, .val 255, []⟩,
  ⟨0x8010, 0x8010, 13, 16, .u8, .rwo, .val 255, [(0, 7), (255, 255)]⟩,
  ⟨0x8010, 0x8010, 17, 17, .i32, .rwo, .val 0, []⟩,
  ⟨0x8010, 0x8010, 18, 18, .u32, .rwo, .val 1000, []⟩,
  ⟨0x8011, 0x8011, 1, 1, .u8, .ro, .val 8, []⟩,
  ⟨0x8011, 0x8011, 2, 2, .u8, .ro, .val 1, []⟩,
  ⟨0x8011, 0x8011, 3, 3, .u32, .ro, .val 0, []⟩,
  ⟨0x8011, 0x8011, 4, 4, .u8, .ro, .val 0, []⟩,
  ⟨0x8011, 0x8011, 5, 5, .u8, .ro, .val 0, []⟩,
  ⟨0x8011, 0x8011, 6, 6, .i32, .ro, .val 0, []⟩,
  ⟨0x8011, 0x8011, 7, 7, .u32, .ro, .val 1000, []⟩,
  ⟨0x8011, 0x8011, 8, 8, .vtime, .ro, .val 0, []⟩,
  ⟨0x8011, 0x8011, 9, 12, .u8, .ro, .val 255, []⟩,
  ⟨0x8011, 0x8011, 13, 16, .u8, .ro, .val 255, []⟩,
  ⟨0x8011, 0x8011, 17, 17, .i32, .ro, .val 0, []⟩,
  ⟨0x8011, 0x8011, 18, 18, .u32, .ro, .val 1000, []⟩,
  ⟨0x8100, 0x813F, 0, 0, .domain, .rwo, .val 0, []⟩,
  ⟨0x8140, 0x8140, 0, 0, .u8, .rwo, .val 0, [(1, 2)]⟩,
  ⟨0x8141, 0x8141, 0, 0, .u32, .ro, .val 0, []⟩,
  ⟨0x8142, 0x8142, 0, 0, .u16, .ro, .val 0, []⟩,
  ⟨0x8143, 0x8143, 1, 512, .u64, .rwo, .val 0, []⟩,
  ⟨0x8144, 0x8144, 1, 512, .u64, .ro, .val 0, []⟩,
  ⟨0x8200, 0x823F, 1, 1, .u16, .ro, .val 0, []⟩,
  ⟨0x8200, 0x823F, 2, 2, .u32, .ro, .val 0, []⟩,
  ⟨0x8200, 0x823F, 3, 3, .u8, .ro, .val 0, []⟩]

/-- Rows of the index range 0x8000, part 2. -/
def dictRows8_2 : List DictRow := [
  ⟨0x8200, 0x823F, 4, 4, .u16, .ro, .val 16384, []⟩,
  ⟨0x8200, 0x823F, 5, 5, .u32, .ro, .val 0, []⟩,
  ⟨0x8280, 0x82BF, 1, 32, .u8, .ro, .val 0, []⟩,
  ⟨0x8300, 0x833F, 0, 0, .domain, .ro, .val 0, []⟩,
  ⟨0x8400, 0x8400, 1, 1, .u32, .ro, .val 0, []⟩,
  ⟨0x8400, 0x8400, 2, 2, .u32, .ro, .val 0, []⟩,
  ⟨0x8400, 0x8400, 3, 3, .u32, .ro, .val 0, []⟩,
  ⟨0x8400, 0x8400, 4, 4, .u32, .ro, .val 0, []⟩,
  ⟨0x8400, 0x8400, 5, 5, .u32, .ro, .val 0, []⟩,
  ⟨0x8400, 0x8400, 6, 6, .u32, .ro, .val 0, []⟩,
  ⟨0x8400, 0x8400, 7, 7, .u32, .ro, .val 0, []⟩,
  ⟨0x8400, 0x8400, 8, 8, .u32, .ro, .val 0, []⟩,
  ⟨0x8400, 0x8400, 9, 9, .u32, .ro, .val 0, []⟩,
  ⟨0x8400, 0x8400, 10, 10, .u32, .ro, .val 0, []⟩,
  ⟨0x8400, 0x8400, 11, 11, .u32, .ro, .val 0, []⟩,
  ⟨0x8800, 0x8800, 0, 0, .u32, .rwo, .val 20000, [(5000, 1000000)]⟩,
  ⟨0x8801, 0x8801, 0, 0, .u8, .rwo, .val 3, [(0, 7)]⟩,
  ⟨0x8802, 0x8802, 0, 0, .u16, .rwo, .val 10, [(1, 3600)]⟩,
  ⟨0x8803, 0x8803, 0, 0, .u32, .rwo, .val 10000, [(100, 100000)]⟩,
  ⟨0x8804, 0x8804, 0, 0, .u16, .rwo, .val 10, [(1, 10000)]⟩,
  ⟨0x8805, 0x8805, 0, 0, .u8, .ro, .val 0, []⟩,
  ⟨0x8806, 0x8806, 0, 0, .u8, .rwo, .val 1, [(1, 16)]⟩,
  ⟨0x8900, 0x893F, 1, 1, .bool, .rwo, .val 1, []⟩,
  ⟨0x8900, 0x893F, 2, 2, .u8, .rwf, .val 0, [(0, 3)]⟩,
  ⟨0x8900, 0x893F, 3, 3, .u8, .ro, .val 0, []⟩,
  ⟨0x8900, 0x893F, 4, 4, .u8, .ro, .val 0, []⟩,
  ⟨0x8900, 0x893F, 5, 5, .u16, .ro, .val 0, []⟩,
  ⟨0x8900, 0x893F, 6, 6, .u8, .ro, .val 0, []⟩,
  ⟨0x8900, 0x893F, 7, 7, .u8, .ro, .val 0, []⟩,
  ⟨0x8A00, 0x8A3F, 1, 32, .u64, .ro, .val 0, []⟩,
  ⟨0x8A40, 0x8A7F, 1, 32, .u16, .ro, .val 0, []⟩,
  ⟨0x8A80, 0x8ABF, 1, 32, .u16, .ro, .val 0, []⟩,
  ⟨0x8C00, 0x8C3F, 1, 1, .u32, .ro, .val 0, []⟩,
  ⟨0x8C00, 0x8C3F, 2, 2, .u32, .ro, .val 0, []⟩,
  ⟨0x8C00, 0x8C3F, 3, 3, .u32, .ro, .val 0, []⟩,
  ⟨0x8C00, 0x8C3F, 4, 4, .u32, .ro, .val 0, []⟩,
  ⟨0x8C00, 0x8C3F, 5, 5, .u32, .ro, .val 0, []⟩,
  ⟨0x8C00, 0x8C3F, 6, 6, .u32, .ro, .val 0, []⟩,
  ⟨0x8C00, 0x8C3F, 7, 7, .u32, .ro, .val 0, []⟩,
  ⟨0x8C00, 0x8C3F, 8, 8, .u32, .ro, .val 0, []⟩]

/-- Rows of the index range 0x8000, part 3. -/
def dictRows8_3 : List DictRow := [
  ⟨0x8C00, 0x8C3F, 9, 9, .u32, .ro, .val 0, []⟩,
  ⟨0x8C00, 0x8C3F, 10, 10, .u32, .ro, .val 0, []⟩,
  ⟨0x8C00, 0x8C3F, 11, 11, .u32, .ro, .val 0, []⟩,
  ⟨0x8C00, 0x8C3F, 12, 12, .u32, .ro, .val 0, []⟩,
  ⟨0x8C00, 0x8C3F, 13, 13, .u32, .ro, .val 0, []⟩,
  ⟨0x8C00, 0x8C3F, 14, 14, .u32, .ro, .val 0, []⟩,
  ⟨0x8C00, 0x8C3F, 15, 15, .u32, .ro, .val 0, []⟩,
  ⟨0x8C00, 0x8C3F, 16, 16, .u32, .ro, .val 0, []⟩,
  ⟨0x8C00, 0x8C3F, 17, 17, .u32, .ro, .val 0, []⟩]

/-- Rows of the index range 0x8000 (R464). -/
def dictRows8 : List DictRow := dictRows8_1 ++ dictRows8_2 ++ dictRows8_3

/-- Rows of the index range 0x9000, part 1. -/
def dictRows9_1 : List DictRow := [
  ⟨0x9000, 0x9000, 0, 0, .u8, .ro, .val 0, []⟩,
  ⟨0x9001, 0x9001, 0, 0, .vtime, .rwo, .val 0, []⟩,
  ⟨0x9002, 0x9002, 0, 0, .u16, .rwo, .val 16000, [(1000, 16000)]⟩,
  ⟨0x9003, 0x9003, 0, 0, .u16, .rwo, .val 12000, [(1000, 12000)]⟩,
  ⟨0x9004, 0x9004, 0, 0, .i16, .rwo, .val 1760, [(800, 2144)]⟩,
  ⟨0x9005, 0x9005, 0, 0, .i16, .rwo, .val 2160, [(816, 2160)]⟩,
  ⟨0x9006, 0x9006, 0, 0, .u16, .rwo, .val 80, [(16, 320)]⟩,
  ⟨0x9007, 0x9007, 0, 0, .u8, .rwo, .val 4, [(2, 64)]⟩,
  ⟨0x9008, 0x9008, 0, 0, .u16, .rwo, .val 200, [(100, 500)]⟩,
  ⟨0x9009, 0x9009, 0, 0, .u16, .rwo, .val 6000, [(2000, 50000)]⟩,
  ⟨0x900A, 0x900A, 0, 0, .u16, .rwo, .val 700, [(400, 3000)]⟩,
  ⟨0x900B, 0x900B, 0, 0, .u16, .rwo, .val 100, [(20, 1000)]⟩,
  ⟨0x900C, 0x900C, 0, 0, .u32, .rwo, .val 0, [(0, 80000)]⟩,
  ⟨0x900D, 0x900D, 0, 0, .i16, .ro, .val 0, []⟩,
  ⟨0x900E, 0x900E, 0, 0, .u32, .ro, .val 0, []⟩,
  ⟨0x900F, 0x900F, 0, 0, .u16, .ro, .val 0, []⟩,
  ⟨0x9010, 0x9010, 0, 0, .u16, .ro, .val 0, []⟩,
  ⟨0x9011, 0x9011, 0, 0, .u32, .ro, .val 65536, []⟩,
  ⟨0x9020, 0x9020, 1, 16, .i16, .ro, .val 0, []⟩,
  ⟨0x9021, 0x9021, 1, 16, .u16, .rwo, .val 3435, [(2000, 5000)]⟩,
  ⟨0x9022, 0x9022, 1, 16, .u32, .rwo, .val 10000, [(1000, 100000)]⟩,
  ⟨0x9080, 0x9080, 1, 1, .u16, .rwo, .val 0, [(0, 255)]⟩,
  ⟨0x9080, 0x9080, 2, 2, .vtime, .rwo, .val 0, []⟩,
  ⟨0x9080, 0x9080, 3, 3, .u8, .wo, .val 0, [(1, 1)]⟩,
  ⟨0x9081, 0x9081, 0, 0, .u16, .wo, .val 0, [(0, 255)]⟩,
  ⟨0x9100, 0x92FF, 1, 1, .bool, .rwo, .val 0, []⟩,
  ⟨0x9100, 0x92FF, 2, 2, .u16, .rwo, .val 0, [(0, 1023)]⟩,
  ⟨0x9100, 0x92FF, 3, 3, .u8, .rwf, .val 1, [(0, 8)]⟩,
  ⟨0x9100, 0x92FF, 4, 4, .u8, .rwo, .val 31, [(0, 31)]⟩,
  ⟨0x9100, 0x92FF, 5, 5, .u8, .rwo, .val 0, [(0, 2)]⟩,
  ⟨0x9100, 0x92FF, 6, 6, .u16, .rwo, .val 65535, []⟩,
  ⟨0x9100, 0x92FF, 7, 7, .u16, .rwo, .phase, [(0, 1023)]⟩,
  ⟨0x9100, 0x92FF, 8, 8, .u8, .rwo, .val 16, [(0, 16)]⟩,
  ⟨0x9100, 0x92FF, 9, 9, .u8, .rws, .val 0, [(0, 64)]⟩,
  ⟨0x9100, 0x92FF, 10, 10, .u32, .rw, .val 0, [(0, 1048576)]⟩,
  ⟨0x9100, 0x92FF, 11, 11, .u32, .rws, .val 0, [(0, 1048576)]⟩,
  ⟨0x9100, 0x92FF, 12, 12, .u32, .rws, .val 0, [(0, 1048576)]⟩,
  ⟨0x9100, 0x92FF, 13, 13, .u16, .ro, .val 0, []⟩,
  ⟨0x9100, 0x92FF, 14, 14, .u32, .ro, .val 0, []⟩,
  ⟨0x9300, 0x933F, 1, 1, .u8, .rws, .val 0, [(0, 1)]⟩]

/-- Rows of the index range 0x9000, part 2. -/
def dictRows9_2 : List DictRow := [
  ⟨0x9300, 0x933F, 2, 2, .bool, .rws, .val 0, []⟩,
  ⟨0x9300, 0x933F, 3, 3, .u16, .rws, .val 16384, [(1, 65535)]⟩,
  ⟨0x9300, 0x933F, 4, 4, .u8, .rws, .val 255, [(0, 15), (255, 255)]⟩,
  ⟨0x9300, 0x933F, 5, 5, .u8, .wo, .val 0, [(1, 1)]⟩,
  ⟨0x9300, 0x933F, 6, 6, .u16, .rws, .val 0, [(0, 0), (10, 3600)]⟩,
  ⟨0x9300, 0x933F, 7, 7, .u8, .ro, .val 0, []⟩,
  ⟨0x9340, 0x934F, 1, 1, .bool, .rwf, .val 0, []⟩,
  ⟨0x9340, 0x934F, 2, 2, .u8, .rwo, .val 255, []⟩,
  ⟨0x9340, 0x934F, 3, 3, .u8, .ro, .val 0, []⟩,
  ⟨0x9340, 0x934F, 4, 4, .u16, .ro, .val 0, []⟩,
  ⟨0x9340, 0x934F, 5, 5, .u16, .ro, .val 0, []⟩,
  ⟨0x9400, 0x94FF, 1, 1, .u8, .rwo, .val 0, [(0, 3)]⟩,
  ⟨0x9400, 0x94FF, 2, 2, .u16, .rwo, .val 0, [(0, 511)]⟩,
  ⟨0x9400, 0x94FF, 3, 3, .u16, .rwo, .val 1, [(1, 512)]⟩,
  ⟨0x9400, 0x94FF, 4, 4, .u8, .rwo, .val 0, [(0, 2)]⟩,
  ⟨0x9400, 0x94FF, 5, 5, .u32, .rwo, .val 0, [(0, 1048576)]⟩,
  ⟨0x9400, 0x94FF, 6, 6, .u32, .rwo, .val 0, [(0, 1048576)]⟩,
  ⟨0x9400, 0x94FF, 7, 7, .u32, .rwo, .val 0, [(0, 16777215)]⟩,
  ⟨0x9400, 0x94FF, 8, 8, .u32, .rwo, .val 2, [(2, 16777215)]⟩,
  ⟨0x9400, 0x94FF, 9, 9, .u32, .rwo, .val 0, []⟩,
  ⟨0x9400, 0x94FF, 10, 10, .u32, .rwo, .val 0, []⟩,
  ⟨0x9400, 0x94FF, 11, 11, .u16, .rwo, .val 65535, [(0, 255), (65535, 65535)]⟩,
  ⟨0x9600, 0x9600, 1, 1, .u32, .ro, .val 0, []⟩,
  ⟨0x9600, 0x9600, 2, 2, .u32, .ro, .val 0, []⟩,
  ⟨0x9600, 0x9600, 3, 3, .u32, .ro, .val 0, []⟩,
  ⟨0x9600, 0x9600, 4, 4, .u32, .ro, .val 0, []⟩,
  ⟨0x9600, 0x9600, 5, 5, .u32, .ro, .val 0, []⟩,
  ⟨0x9600, 0x9600, 6, 6, .u32, .ro, .val 0, []⟩,
  ⟨0x9600, 0x9600, 7, 7, .u32, .ro, .val 0, []⟩,
  ⟨0x9600, 0x9600, 8, 8, .u32, .ro, .val 0, []⟩,
  ⟨0x9600, 0x9600, 9, 9, .u32, .ro, .val 0, []⟩,
  ⟨0x9600, 0x9600, 10, 10, .u32, .ro, .val 0, []⟩,
  ⟨0x9600, 0x9600, 11, 11, .u32, .ro, .val 0, []⟩,
  ⟨0x9600, 0x9600, 12, 12, .u32, .ro, .val 0, []⟩]

/-- Rows of the index range 0x9000 (R464). -/
def dictRows9 : List DictRow := dictRows9_1 ++ dictRows9_2

/-- Rows of the index range 0xA000, part 1. -/
def dictRowsA_1 : List DictRow := [
  ⟨0xA000, 0xA000, 0, 0, .bool, .rwo, .val 1, []⟩,
  ⟨0xA001, 0xA001, 0, 0, .u8, .rwo, .val 3, [(2, 60)]⟩,
  ⟨0xA002, 0xA002, 0, 0, .u16, .rwo, .val 60, [(2, 3600)]⟩,
  ⟨0xA003, 0xA003, 0, 0, .u8, .ro, .val 0, []⟩,
  ⟨0xA004, 0xA004, 1, 1, .u16, .ro, .val 0, []⟩,
  ⟨0xA004, 0xA004, 2, 2, .u32, .ro, .val 0, []⟩,
  ⟨0xA010, 0xA010, 1, 9, .u32, .ro, .val 0, []⟩,
  ⟨0xA011, 0xA011, 1, 9, .u16, .ro, .val 0, []⟩,
  ⟨0xA020, 0xA05F, 1, 1, .u32, .ro, .val 0, []⟩,
  ⟨0xA020, 0xA05F, 2, 2, .u16, .ro, .val 0, []⟩,
  ⟨0xA020, 0xA05F, 3, 3, .u16, .ro, .val 0, []⟩,
  ⟨0xA020, 0xA05F, 4, 4, .bool, .ro, .val 0, []⟩,
  ⟨0xA020, 0xA05F, 5, 5, .bool, .ro, .val 0, []⟩,
  ⟨0xA080, 0xA080, 1, 1, .u32, .ro, .val 0, []⟩,
  ⟨0xA080, 0xA080, 2, 2, .u32, .ro, .val 0, []⟩,
  ⟨0xA080, 0xA080, 3, 3, .u32, .ro, .val 0, []⟩,
  ⟨0xA080, 0xA080, 4, 4, .u32, .ro, .val 0, []⟩,
  ⟨0xA080, 0xA080, 5, 5, .u32, .ro, .val 0, []⟩,
  ⟨0xA080, 0xA080, 6, 6, .u32, .ro, .val 0, []⟩,
  ⟨0xA080, 0xA080, 7, 7, .u32, .ro, .val 0, []⟩,
  ⟨0xA080, 0xA080, 8, 8, .u32, .ro, .val 0, []⟩,
  ⟨0xA080, 0xA080, 9, 9, .u32, .ro, .val 0, []⟩,
  ⟨0xA100, 0xA107, 1, 1, .u8, .rw, .val 0, [(0, 1)]⟩,
  ⟨0xA100, 0xA107, 2, 2, .u8, .rw, .val 32, [(8, 64)]⟩,
  ⟨0xA100, 0xA107, 3, 3, .u64, .rw, .val 517762881, []⟩,
  ⟨0xA100, 0xA107, 4, 4, .u64, .rw, .val 4294967295, []⟩,
  ⟨0xA100, 0xA107, 5, 5, .bool, .rw, .val 1, []⟩,
  ⟨0xA100, 0xA107, 6, 6, .bool, .rw, .val 1, []⟩,
  ⟨0xA100, 0xA107, 7, 7, .bool, .rw, .val 1, []⟩,
  ⟨0xA100, 0xA107, 8, 8, .u8, .wo, .val 0, []⟩,
  ⟨0xA100, 0xA107, 9, 9, .u64, .rw, .val 4294967295, []⟩,
  ⟨0xA100, 0xA107, 10, 10, .octets, .wo, .val 0, []⟩,
  ⟨0xA100, 0xA107, 11, 11, .u64, .ro, .val 0, []⟩,
  ⟨0xA100, 0xA107, 12, 12, .u64, .ro, .val 0, []⟩,
  ⟨0xA100, 0xA107, 13, 13, .u8, .wo, .val 0, []⟩,
  ⟨0xA100, 0xA107, 14, 14, .u16, .ro, .val 0, []⟩,
  ⟨0xA200, 0xA200, 0, 0, .u64, .ro, .val 0, []⟩,
  ⟨0xA201, 0xA201, 0, 0, .domain, .ro, .val 0, []⟩,
  ⟨0xA202, 0xA202, 0, 0, .u8, .ro, .val 0, []⟩,
  ⟨0xA203, 0xA203, 0, 0, .u8, .ro, .val 0, []⟩]

/-- Rows of the index range 0xA000, part 2. -/
def dictRowsA_2 : List DictRow := [
  ⟨0xA204, 0xA204, 0, 0, .u8, .wo, .val 0, [(1, 1)]⟩,
  ⟨0xA205, 0xA205, 0, 0, .u16, .rw, .val 0, []⟩,
  ⟨0xA206, 0xA206, 0, 0, .u8, .rwo, .val 0, [(0, 6)]⟩,
  ⟨0xA207, 0xA207, 0, 0, .u32, .ro, .val 0, []⟩,
  ⟨0xA208, 0xA208, 1, 8, .u32, .ro, .val 0, []⟩,
  ⟨0xA209, 0xA209, 0, 0, .u32, .ro, .val 0, []⟩,
  ⟨0xA20A, 0xA20A, 0, 0, .u32, .ro, .val 0, []⟩]

/-- Rows of the index range 0xA000 (R464). -/
def dictRowsA : List DictRow := dictRowsA_1 ++ dictRowsA_2

/-- Rows of the index range 0xB000, part 1. -/
def dictRowsB_1 : List DictRow := [
  ⟨0xB000, 0xB000, 0, 0, .u8, .ro, .val 0, []⟩,
  ⟨0xB001, 0xB001, 0, 0, .u8, .ro, .val 0, []⟩,
  ⟨0xB002, 0xB002, 0, 0, .u8, .rwo, .val 8, [(4, 32)]⟩,
  ⟨0xB003, 0xB003, 0, 0, .u16, .rwo, .val 250, [(10, 1000)]⟩,
  ⟨0xB004, 0xB004, 0, 0, .u16, .rwo, .val 100, [(10, 10000)]⟩,
  ⟨0xB005, 0xB005, 0, 0, .u16, .ro, .val 0, []⟩,
  ⟨0xB006, 0xB006, 1, 2, .i16, .ro, .val 0, []⟩,
  ⟨0xB007, 0xB007, 1, 2, .u8, .ro, .val 1, []⟩,
  ⟨0xB008, 0xB008, 0, 0, .u32, .ro, .val 0, []⟩,
  ⟨0xB010, 0xB010, 1, 16, .u64, .const, .memMap, []⟩,
  ⟨0xB101, 0xB109, 1, 1, .u8, .rwo, .memClass, [(0, 7)]⟩,
  ⟨0xB101, 0xB109, 2, 2, .u16, .const, .memBurst, []⟩,
  ⟨0xB101, 0xB109, 3, 3, .u32, .ro, .val 0, []⟩,
  ⟨0xB101, 0xB109, 4, 4, .u32, .ro, .val 0, []⟩,
  ⟨0xB101, 0xB109, 5, 5, .u64, .ro, .val 0, []⟩,
  ⟨0xB200, 0xB200, 1, 1, .u64, .ro, .val 0, []⟩,
  ⟨0xB200, 0xB200, 2, 2, .u64, .ro, .val 0, []⟩,
  ⟨0xB200, 0xB200, 3, 3, .u32, .ro, .val 0, []⟩,
  ⟨0xB200, 0xB200, 4, 4, .u32, .ro, .val 0, []⟩,
  ⟨0xB200, 0xB200, 5, 5, .u32, .ro, .val 0, []⟩,
  ⟨0xB200, 0xB200, 6, 6, .u32, .ro, .val 0, []⟩,
  ⟨0xB200, 0xB200, 7, 7, .u32, .ro, .val 0, []⟩,
  ⟨0xB200, 0xB200, 8, 8, .u32, .ro, .val 0, []⟩,
  ⟨0xB200, 0xB200, 9, 9, .u32, .ro, .val 0, []⟩,
  ⟨0xB200, 0xB200, 10, 10, .u32, .ro, .val 0, []⟩,
  ⟨0xB200, 0xB200, 11, 11, .u32, .ro, .val 0, []⟩,
  ⟨0xB200, 0xB200, 12, 12, .u32, .ro, .val 0, []⟩]

/-- Rows of the index range 0xB000 (R464). -/
def dictRowsB : List DictRow := dictRowsB_1

/-- Rows of the index range 0xC000, part 1. -/
def dictRowsC_1 : List DictRow := [
  ⟨0xC000, 0xC000, 0, 0, .domain, .rwo, .val 0, []⟩,
  ⟨0xC001, 0xC001, 0, 0, .u8, .rwo, .val 0, [(1, 2)]⟩,
  ⟨0xC002, 0xC002, 0, 0, .domain, .ro, .val 0, []⟩,
  ⟨0xC003, 0xC003, 0, 0, .u16, .ro, .val 0, []⟩,
  ⟨0xC004, 0xC004, 0, 0, .u16, .rwo, .val 20, [(5, 10000)]⟩,
  ⟨0xC005, 0xC005, 0, 0, .u16, .rwo, .val 1000, [(100, 10000)]⟩,
  ⟨0xC006, 0xC006, 0, 0, .domain, .ro, .val 0, []⟩,
  ⟨0xC010, 0xC017, 1, 257, .u16, .rwo, .curve, []⟩,
  ⟨0xC100, 0xC107, 1, 1, .u8, .rwo, .val 0, [(0, 2)]⟩,
  ⟨0xC100, 0xC107, 2, 2, .u16, .rwo, .val 512, [(24, 512)]⟩,
  ⟨0xC100, 0xC107, 3, 3, .u16, .rwo, .val 176, [(92, 1000)]⟩,
  ⟨0xC100, 0xC107, 4, 4, .u16, .rwo, .val 12, [(12, 100)]⟩,
  ⟨0xC100, 0xC107, 5, 5, .u32, .rwo, .val 0, [(0, 0), (1196, 1000000)]⟩,
  ⟨0xC100, 0xC107, 6, 6, .bool, .rwo, .val 0, []⟩,
  ⟨0xC100, 0xC107, 7, 7, .u16, .rwo, .val 1250, [(100, 10000)]⟩,
  ⟨0xC100, 0xC107, 8, 8, .bool, .rwo, .val 0, []⟩,
  ⟨0xC100, 0xC107, 9, 9, .u8, .rwo, .val 2, [(0, 5)]⟩,
  ⟨0xC100, 0xC107, 10, 10, .u8, .ro, .val 0, []⟩,
  ⟨0xC100, 0xC107, 11, 11, .u16, .ro, .val 0, []⟩,
  ⟨0xC100, 0xC107, 12, 12, .domain, .rw, .val 0, []⟩,
  ⟨0xC100, 0xC107, 13, 13, .u8, .rw, .val 0, [(4, 4)]⟩,
  ⟨0xC100, 0xC107, 14, 14, .u8, .rw, .val 0, [(1, 1)]⟩,
  ⟨0xC100, 0xC107, 15, 15, .domain, .ro, .val 0, []⟩,
  ⟨0xC108, 0xC108, 0, 0, .octets, .const, .val 0, []⟩,
  ⟨0xC200, 0xC23F, 1, 1, .bool, .rwo, .val 0, []⟩,
  ⟨0xC200, 0xC23F, 2, 2, .u16, .rwo, .val 1, [(1, 63999)]⟩,
  ⟨0xC200, 0xC23F, 3, 3, .u8, .rwo, .val 0, [(0, 1)]⟩,
  ⟨0xC200, 0xC23F, 4, 4, .u8, .ro, .val 0, []⟩,
  ⟨0xC200, 0xC23F, 5, 5, .u8, .ro, .val 0, []⟩,
  ⟨0xC200, 0xC23F, 6, 6, .u8, .ro, .val 0, []⟩,
  ⟨0xC200, 0xC23F, 7, 7, .u16, .ro, .val 0, []⟩,
  ⟨0xC240, 0xC240, 0, 0, .u16, .rwo, .val 2500, [(1000, 10000)]⟩,
  ⟨0xC400, 0xC400, 1, 1, .u8, .rw, .val 0, [(0, 63)]⟩,
  ⟨0xC400, 0xC400, 2, 2, .u8, .rw, .val 1, [(1, 32)]⟩,
  ⟨0xC400, 0xC400, 3, 3, .u32, .rw, .val 0, [(0, 16777215)]⟩,
  ⟨0xC400, 0xC400, 4, 4, .u16, .rw, .val 4, [(1, 4096)]⟩,
  ⟨0xC400, 0xC400, 5, 5, .domain, .wo, .val 0, []⟩,
  ⟨0xC400, 0xC400, 6, 6, .domain, .ro, .val 0, []⟩,
  ⟨0xC400, 0xC400, 7, 7, .u8, .rwo, .val 0, [(0, 1)]⟩,
  ⟨0xC400, 0xC400, 8, 8, .u8, .ro, .val 0, []⟩]

/-- Rows of the index range 0xC000, part 2. -/
def dictRowsC_2 : List DictRow := [
  ⟨0xC400, 0xC400, 9, 9, .u8, .ro, .val 0, []⟩,
  ⟨0xC400, 0xC400, 10, 10, .u8, .wo, .val 0, [(1, 1)]⟩,
  ⟨0xC410, 0xC410, 0, 0, .domain, .ro, .val 0, []⟩,
  ⟨0xC411, 0xC411, 0, 0, .u8, .wo, .val 0, [(1, 1)]⟩,
  ⟨0xC600, 0xC600, 1, 1, .u32, .ro, .val 0, []⟩,
  ⟨0xC600, 0xC600, 2, 2, .u32, .ro, .val 0, []⟩,
  ⟨0xC600, 0xC600, 3, 3, .u32, .ro, .val 0, []⟩,
  ⟨0xC600, 0xC600, 4, 4, .u32, .ro, .val 0, []⟩,
  ⟨0xC600, 0xC600, 5, 5, .u32, .ro, .val 0, []⟩,
  ⟨0xC600, 0xC600, 6, 6, .u32, .ro, .val 0, []⟩,
  ⟨0xC600, 0xC600, 7, 7, .u32, .ro, .val 0, []⟩,
  ⟨0xC600, 0xC600, 8, 8, .u32, .ro, .val 0, []⟩,
  ⟨0xC600, 0xC600, 9, 9, .u32, .ro, .val 0, []⟩,
  ⟨0xC600, 0xC600, 10, 10, .u32, .ro, .val 0, []⟩,
  ⟨0xC600, 0xC600, 11, 11, .u32, .ro, .val 0, []⟩,
  ⟨0xC600, 0xC600, 12, 12, .u32, .ro, .val 0, []⟩,
  ⟨0xC600, 0xC600, 13, 13, .u32, .ro, .val 0, []⟩,
  ⟨0xC610, 0xC617, 1, 1, .u32, .ro, .val 0, []⟩,
  ⟨0xC610, 0xC617, 2, 2, .u32, .ro, .val 0, []⟩,
  ⟨0xC610, 0xC617, 3, 3, .u32, .ro, .val 0, []⟩,
  ⟨0xC610, 0xC617, 4, 4, .u32, .ro, .val 0, []⟩,
  ⟨0xC610, 0xC617, 5, 5, .u32, .ro, .val 0, []⟩,
  ⟨0xC610, 0xC617, 6, 6, .u32, .ro, .val 0, []⟩,
  ⟨0xC610, 0xC617, 7, 7, .u32, .ro, .val 0, []⟩]

/-- Rows of the index range 0xC000 (R464). -/
def dictRowsC : List DictRow := dictRowsC_1 ++ dictRowsC_2

/-- Rows of the index range 0xD000, part 1. -/
def dictRowsD_1 : List DictRow := [
  ⟨0xD000, 0xD000, 0, 0, .bool, .rwo, .val 0, []⟩,
  ⟨0xD001, 0xD001, 0, 0, .u8, .ro, .val 0, []⟩,
  ⟨0xD002, 0xD002, 0, 0, .u8, .ro, .val 200, []⟩,
  ⟨0xD003, 0xD003, 0, 0, .u8, .ro, .val 0, []⟩,
  ⟨0xD004, 0xD004, 0, 0, .u8, .ro, .val 0, []⟩,
  ⟨0xD005, 0xD005, 0, 0, .u8, .rws, .val 200, [(128, 255)]⟩,
  ⟨0xD006, 0xD006, 0, 0, .u8, .rws, .val 100, [(2, 127)]⟩,
  ⟨0xD007, 0xD007, 0, 0, .bool, .rwo, .val 0, []⟩,
  ⟨0xD008, 0xD008, 0, 0, .u8, .rwo, .val 16, [(1, 255)]⟩,
  ⟨0xD009, 0xD009, 0, 0, .u8, .rwo, .val 3, [(1, 60)]⟩,
  ⟨0xD00A, 0xD00A, 0, 0, .u16, .rwo, .val 16, [(4, 3600)]⟩,
  ⟨0xD00B, 0xD00B, 0, 0, .u16, .rwo, .val 300, [(100, 1500)]⟩,
  ⟨0xD00C, 0xD00C, 0, 0, .u8, .rwo, .val 0, [(1, 1)]⟩,
  ⟨0xD00D, 0xD00D, 0, 0, .u64, .ro, .val 0, []⟩,
  ⟨0xD00E, 0xD00E, 0, 0, .u8, .ro, .val 0, []⟩,
  ⟨0xD00F, 0xD00F, 0, 0, .u32, .ro, .val 0, []⟩,
  ⟨0xD010, 0xD010, 0, 0, .u16, .ro, .val 0, []⟩,
  ⟨0xD011, 0xD011, 0, 0, .u16, .ro, .val 0, []⟩,
  ⟨0xD100, 0xD100, 1, 1, .u32, .ro, .val 0, []⟩,
  ⟨0xD100, 0xD100, 2, 2, .u32, .ro, .val 0, []⟩,
  ⟨0xD100, 0xD100, 3, 3, .u32, .ro, .val 0, []⟩,
  ⟨0xD100, 0xD100, 4, 4, .u32, .ro, .val 0, []⟩,
  ⟨0xD100, 0xD100, 5, 5, .u32, .ro, .val 0, []⟩,
  ⟨0xD100, 0xD100, 6, 6, .u32, .ro, .val 0, []⟩,
  ⟨0xD100, 0xD100, 7, 7, .u32, .ro, .val 0, []⟩,
  ⟨0xD100, 0xD100, 8, 8, .u32, .ro, .val 0, []⟩,
  ⟨0xD100, 0xD100, 9, 9, .u32, .ro, .val 0, []⟩,
  ⟨0xD100, 0xD100, 10, 10, .u32, .ro, .val 0, []⟩,
  ⟨0xD100, 0xD100, 11, 11, .u32, .ro, .val 0, []⟩,
  ⟨0xD100, 0xD100, 12, 12, .u32, .ro, .val 0, []⟩]

/-- Rows of the index range 0xD000 (R464). -/
def dictRowsD : List DictRow := dictRowsD_1

/-- Rows of the index range 0xE000, part 1. -/
def dictRowsE_1 : List DictRow := [
  ⟨0xE000, 0xE000, 0, 0, .u16, .ro, .val 0, []⟩,
  ⟨0xE001, 0xE001, 0, 0, .u8, .ro, .val 0, []⟩,
  ⟨0xE002, 0xE002, 0, 0, .u8, .rwo, .val 0, [(0, 1)]⟩,
  ⟨0xE003, 0xE003, 0, 0, .u16, .ro, .val 0, []⟩,
  ⟨0xE004, 0xE004, 0, 0, .u8, .wo, .val 0, [(1, 1)]⟩,
  ⟨0xE005, 0xE005, 0, 0, .u16, .rwo, .val 1000, [(100, 10000)]⟩,
  ⟨0xE006, 0xE006, 1, 1, .u64, .ro, .val 0, []⟩,
  ⟨0xE006, 0xE006, 2, 2, .u16, .ro, .val 0, []⟩,
  ⟨0xE006, 0xE006, 3, 3, .octets, .ro, .val 0, []⟩,
  ⟨0xE007, 0xE007, 1, 1, .u64, .ro, .val 0, []⟩,
  ⟨0xE007, 0xE007, 2, 2, .u16, .ro, .val 0, []⟩,
  ⟨0xE007, 0xE007, 3, 3, .octets, .ro, .val 0, []⟩,
  ⟨0xE008, 0xE008, 0, 0, .u8, .rwo, .val 1, [(0, 1)]⟩,
  ⟨0xE009, 0xE009, 0, 0, .u16, .rwo, .val 10, [(2, 120)]⟩,
  ⟨0xE00A, 0xE00B, 1, 1, .bool, .ro, .val 0, []⟩,
  ⟨0xE00A, 0xE00B, 2, 2, .u16, .ro, .val 0, []⟩,
  ⟨0xE00A, 0xE00B, 3, 3, .u64, .ro, .val 0, []⟩,
  ⟨0xE00A, 0xE00B, 4, 4, .u8, .ro, .val 0, []⟩,
  ⟨0xE00A, 0xE00B, 5, 5, .u32, .ro, .val 0, []⟩,
  ⟨0xE100, 0xE100, 0, 0, .u8, .ro, .val 0, []⟩,
  ⟨0xE101, 0xE101, 1, 1, .u64, .rwo, .val 0, []⟩,
  ⟨0xE101, 0xE101, 2, 2, .u16, .rwo, .val 0, []⟩,
  ⟨0xE101, 0xE101, 3, 3, .vtime, .rwo, .val 0, []⟩,
  ⟨0xE101, 0xE101, 4, 4, .u32, .rwo, .val 300, [(60, 3600)]⟩,
  ⟨0xE101, 0xE101, 5, 5, .u8, .rwo, .val 1, []⟩,
  ⟨0xE101, 0xE101, 6, 6, .u8, .wo, .val 0, [(1, 1)]⟩,
  ⟨0xE102, 0xE102, 0, 0, .u8, .wo, .val 0, [(1, 1)]⟩,
  ⟨0xE103, 0xE103, 0, 0, .u8, .wo, .val 0, [(1, 1)]⟩,
  ⟨0xE104, 0xE104, 0, 0, .u8, .wo, .val 0, [(1, 1)]⟩,
  ⟨0xE105, 0xE105, 0, 0, .u64, .ro, .val 0, []⟩,
  ⟨0xE106, 0xE106, 0, 0, .u32, .ro, .val 0, []⟩,
  ⟨0xE107, 0xE107, 0, 0, .u64, .ro, .val 0, []⟩,
  ⟨0xE108, 0xE108, 0, 0, .vtime, .ro, .val 0, []⟩,
  ⟨0xE109, 0xE109, 0, 0, .u16, .ro, .val 0, []⟩,
  ⟨0xE10A, 0xE10A, 0, 0, .u16, .ro, .val 0, []⟩,
  ⟨0xE10B, 0xE10B, 0, 0, .bool, .rwo, .val 1, []⟩,
  ⟨0xE10C, 0xE10C, 0, 0, .bool, .rws, .val 0, []⟩,
  ⟨0xE10D, 0xE10D, 0, 0, .u8, .ro, .val 0, []⟩,
  ⟨0xE10E, 0xE10E, 0, 0, .domain, .ro, .val 0, []⟩,
  ⟨0xE200, 0xE200, 1, 1, .u32, .ro, .val 0, []⟩]

/-- Rows of the index range 0xE000, part 2. -/
def dictRowsE_2 : List DictRow := [
  ⟨0xE200, 0xE200, 2, 2, .u32, .ro, .val 0, []⟩,
  ⟨0xE200, 0xE200, 3, 3, .u32, .ro, .val 0, []⟩,
  ⟨0xE200, 0xE200, 4, 4, .u32, .ro, .val 0, []⟩,
  ⟨0xE200, 0xE200, 5, 5, .u32, .ro, .val 0, []⟩,
  ⟨0xE200, 0xE200, 6, 6, .u32, .ro, .val 0, []⟩,
  ⟨0xE200, 0xE200, 7, 7, .u32, .ro, .val 0, []⟩,
  ⟨0xE200, 0xE200, 8, 8, .u32, .ro, .val 0, []⟩,
  ⟨0xE200, 0xE200, 9, 9, .u32, .ro, .val 0, []⟩,
  ⟨0xE200, 0xE200, 10, 10, .u32, .ro, .val 0, []⟩,
  ⟨0xE200, 0xE200, 11, 11, .u32, .ro, .val 0, []⟩,
  ⟨0xE200, 0xE200, 12, 12, .u32, .ro, .val 0, []⟩]

/-- Rows of the index range 0xE000 (R464). -/
def dictRowsE : List DictRow := dictRowsE_1 ++ dictRowsE_2

/-- Rows of the index range 0xF000, part 1. -/
def dictRowsF_1 : List DictRow := [
  ⟨0xF000, 0xF000, 0, 0, .u8, .ro, .val 0, []⟩,
  ⟨0xF001, 0xF001, 0, 0, .u16, .ro, .val 0, []⟩,
  ⟨0xF002, 0xF002, 0, 0, .u8, .ro, .val 0, []⟩,
  ⟨0xF003, 0xF003, 0, 0, .u16, .rwo, .val 1000, [(100, 10000)]⟩,
  ⟨0xF004, 0xF004, 0, 0, .u8, .ro, .val 0, []⟩,
  ⟨0xF005, 0xF005, 0, 0, .i16, .ro, .val 0, []⟩,
  ⟨0xF006, 0xF006, 0, 0, .i16, .rwo, .val 1920, [(1280, 2240)]⟩,
  ⟨0xF007, 0xF007, 0, 0, .u8, .ro, .val 0, []⟩,
  ⟨0xF008, 0xF008, 0, 0, .u8, .ro, .val 0, []⟩,
  ⟨0xF009, 0xF009, 0, 0, .u8, .ro, .val 0, []⟩,
  ⟨0xF010, 0xF010, 1, 9, .u32, .ro, .val 4294967295, []⟩,
  ⟨0xF100, 0xF100, 1, 6, .u16, .ro, .val 0, []⟩,
  ⟨0xF101, 0xF101, 0, 0, .u16, .ro, .val 0, []⟩]

/-- Rows of the index range 0xF000 (R464). -/
def dictRowsF : List DictRow := dictRowsF_1

/-- The rows of the range that holds an index: its top four bits name the block (R464). -/
def dictRowsOf (index : Nat) : List DictRow :=
  match index / 4096 with
  | 1 => dictRows1
  | 2 => dictRows2
  | 3 => dictRows3
  | 4 => dictRows4
  | 5 => dictRows5
  | 6 => dictRows6
  | 7 => dictRows7
  | 8 => dictRows8
  | 9 => dictRows9
  | 10 => dictRowsA
  | 11 => dictRowsB
  | 12 => dictRowsC
  | 13 => dictRowsD
  | 14 => dictRowsE
  | 15 => dictRowsF
  | _ => []

end Sys2Proof.Machine
end

