-- ==== Sys2Proof/Machine/StateBase.lean ====
section
/-! DEFINITION. State of the parts every block uses: the Event Drum and the flash log (R18, R372 to R379, R517), and the
turrets and the rest of the Tower Clock (R78 to R116). -/

namespace Sys2Proof.Machine

/-- The POSITION field of R18. -/
inductive Position where
  | single | first | middle | last
  deriving DecidableEq, Repr

/-- A word of the Drum with VALID 1 (R18). -/
structure DrumWord where
  position : Position
  priority : Nat
  code : Nat
  arg : Nat
  deriving DecidableEq, Repr

/-- A record of the flash log (R517); its CRC is computed from the other fields. -/
structure LogRecord where
  time : Nat
  code : Nat
  priority : Nat
  arg : Nat
  boot : Nat
  seq : Nat
  deriving DecidableEq, Repr

/-- The flash log (R502, R517): records oldest first, the boot count and the sequence number of the next record. -/
structure Log where
  records : List LogRecord
  boot : Nat
  seq : Nat
  deriving DecidableEq, Repr

/-- The Drum: the words held, oldest first, and the items posted in the running clock that have yet to enter (R372). -/
structure Drum where
  words : List DrumWord
  incoming : List (List DrumWord)
  deriving DecidableEq, Repr

/-- A turret: 96-bit venue time in 2^-32 ns and its copy of F (R79, R102). -/
structure Turret where
  time : Nat
  f : Nat
  deriving DecidableEq, Repr

/-- A sample of the servo: receive time and offset, both in ns (R93, R98). -/
structure ClockSample where
  at_ : Rat
  offset : Rat
  deriving DecidableEq, Repr

/-- A grandmaster heard by Announce: its data set, and how many Announce messages of it have come (R84). -/
structure ForeignMaster where
  announce : PtpAnnounce
  heard : Nat
  deriving DecidableEq, Repr

/-- The operational copy of a comparator (R109 to R112): target and period in 2^-32 ns, the number of the next instance,
whether that instance fires late, and the running BELL pulse. -/
structure Comparator where
  armed : Bool
  action : Nat
  target : Nat
  period : Nat
  repeatCount : Nat
  width : Nat
  polarity : Bool
  policy : Nat
  next : Nat
  lateDue : Bool
  pulse : Bool
  deriving DecidableEq, Repr

/-- A record of a capture FIFO (R115). -/
structure Capture where
  time : Nat
  falling : Bool
  timeValid : Bool
  holdover : Bool
  seq : Nat
  deriving DecidableEq, Repr

/-- A capture channel: its FIFO, oldest first, and its sequence number (R114, R115). -/
structure CapChannel where
  fifo : List Capture
  seq : Nat
  deriving DecidableEq, Repr

/-- The Tower Clock beyond its dictionary entries. -/
structure Clock where
  /-- turrets A, B and C (R102) -/
  turrets : List Turret
  /-- the turret excluded under R104: 0, 1 or 2 -/
  excluded : Option Nat
  /-- tick of each correction with the turret it corrected, newest first (R104) -/
  corrections : List (Nat × Nat)
  /-- the frequency term f of R94 in ppb -/
  freq : Rat
  /-- correction values applied, newest first, at most 64 (R97) -/
  applied : List Rat
  /-- samples collected in ACQUIRE, oldest first (R93) -/
  acquire : List ClockSample
  /-- samples received from the selected grandmaster, newest first, at most 16 (R98) -/
  history : List ClockSample
  /-- receive time of the previous accepted sample, in ns (R94) -/
  lastAccepted : Option Rat
  /-- consecutive samples refused under R95 -/
  refusedRun : Nat
  /-- consecutive samples within L in LOCKING, and beyond L in LOCKED (R92) -/
  withinRun : Nat
  beyondRun : Nat
  /-- consecutive samples within J in HOLDOVER (R97) -/
  returnRun : Nat
  /-- measured path delays in ns, newest first, at most 16 (R94) -/
  paths : List Rat
  /-- t2 − t1 − correction of the last Sync, in ns, for the delay measurement -/
  syncDelta : Option Rat
  /-- link delay in ns and neighbour rate ratio in ppb per port under profile 2 (R85) -/
  linkDelay : List (Rat × Int)
  /-- clockIdentity selected last since reset (R96) -/
  lastGm : Option Nat
  /-- grandmasters heard (R84) -/
  masters : List ForeignMaster
  /-- venue time of entry into the running holdover (R97) -/
  holdoverSince : Nat
  /-- whether the first step has been made (R93) -/
  stepped : Bool
  comparators : List Comparator
  captures : List CapChannel
  /-- venue time of the last edge seen on each BELL pin (R116) -/
  lastEdge : List (Option Nat)
  deriving DecidableEq, Repr

/-- Sectors of 4 KiB of the log area: 1,792 KiB in sectors of 128 records (R502, R517). -/
def logSectors : Nat := 448

/-- A record appended. When the log is full, its oldest sector is erased (R517). -/
def Log.append (l : Log) (r : LogRecord) : Log :=
  let kept := if logSectors * 128 ≤ l.records.length then l.records.drop 128 else l.records
  { l with records := kept ++ [r], seq := (l.seq + 1) % 2 ^ 32 }

/-- What the factory fixes in one unit: DIC_UNIT_EUI64, NET_MAC_ADDR, NET_MAC_ADDR_M, DMX_RDM_UID and
DIC_SERVICE_KEY_FACTORY (R11, R39, R430, R489). -/
structure UnitId where
  eui64 : Nat
  macChain : Nat
  macM : Nat
  rdmUid : Nat
  serviceKey : List Octet
  deriving DecidableEq, Repr

/-- The identity of the unit at reset: per unit, so the model names it (log entry 6). -/
def UnitId.reset : UnitId := ⟨0, 0, 0, 0, []⟩

/-- The nominal F of R79. -/
def nominalF : Nat := 0x47AE147B

/-- A turret at reset: venue time 0, nominal INC (R80). -/
def Turret.reset : Turret := ⟨0, nominalF⟩

/-- A comparator that holds no setting. -/
def Comparator.reset : Comparator := ⟨false, 0, 0, 0, 0, 1000, false, 0, 0, false, false⟩

/-- The Tower Clock at reset (R80). -/
def Clock.reset : Clock := {
  turrets := List.replicate 3 Turret.reset
  excluded := none
  corrections := []
  freq := 0
  applied := []
  acquire := []
  history := []
  lastAccepted := none
  refusedRun := 0
  withinRun := 0
  beyondRun := 0
  returnRun := 0
  paths := []
  syncDelta := none
  linkDelay := List.replicate 2 (0, 0)
  lastGm := none
  masters := []
  holdoverSince := 0
  stepped := false
  comparators := List.replicate 16 Comparator.reset
  captures := List.replicate 8 ⟨[], 0⟩
  lastEdge := List.replicate 8 none }

end Sys2Proof.Machine
end

