-- ==== Sys2Proof/Machine/Flags.lean ====
section
/-! DEFINITION. The rules the counters share: which event a change of bit 31 posts and with what argument (R70, and R147,
R185, R215, R244, R273, R312, R349, R379, R380, R406, R432, R462, R490, R520), the fields of event arguments, and lists in order. -/

namespace Sys2Proof.Machine

/-- The row that covers an element, if the dictionary has it. -/
def dictRow (r : Reg) : Option DictRow := (dictRowsOf r.index).find? fun row => row.covers r.index r.sub

/-- The default of an element; 0 where there is none. -/
def dictDefault (r : Reg) : Nat :=
  match dictRow r with
  | some row => row.dflt.value r.index r.sub
  | none => 0

/-- Bits of an element; 0 where it has no fixed length or does not exist. -/
def dictBits (r : Reg) : Nat :=
  match dictRow r with
  | some row => row.type.bits
  | none => 0

/-- The event code and the record field of the argument for a counter of a record (R70 and the rules that follow it). -/
def counterEvent (r : Reg) : Option (Nat × Nat) :=
  let i := r.index
  if 0x2100 ≤ i ∧ i ≤ 0x2102 then some (0x2010, (i - 0x2100) * 2 ^ 40 + r.sub * 2 ^ 32)
  else if i = 0x1100 then some (0x1010, r.sub * 2 ^ 32)
  else if 0x4300 ≤ i ∧ i ≤ 0x4308 then some (0x4010, r.sub * 2 ^ 32 + (i - 0x4300) * 2 ^ 27)
  else if i = 0x5200 then some (0x5010, r.sub * 2 ^ 32)
  else if 0x6400 ≤ i ∧ i ≤ 0x6408 then some (0x6030, r.sub * 2 ^ 32 + (i - 0x6400) * 2 ^ 27)
  else if i = 0x7800 then some (0x7010, r.sub * 2 ^ 32)
  else if i = 0x8400 then some (0x8040, r.sub * 2 ^ 32)
  else if 0x8C00 ≤ i ∧ i ≤ 0x8C3F then some (0x8840, r.sub * 2 ^ 32 + (i - 0x8C00) * 2 ^ 25)
  else if i = 0x9600 then some (0x9010, r.sub * 2 ^ 32)
  else if i = 0xA080 then some (0xA010, r.sub * 2 ^ 32)
  else if i = 0xA207 ∨ i = 0xA208 ∨ i = 0xA209 ∨ i = 0xA20A then
    some (0xA210, (i % 256) * 2 ^ 32 + r.sub * 2 ^ 27)
  else if i = 0xB200 then some (0xB040, r.sub * 2 ^ 32)
  else if 0xB101 ≤ i ∧ i ≤ 0xB109 ∧ r.sub = 3 then some (0xB040, r.sub * 2 ^ 32 + (i - 0xB100) * 2 ^ 27)
  else if i = 0xC600 then some (0xC050, r.sub * 2 ^ 32)
  else if 0xC610 ≤ i ∧ i ≤ 0xC617 then some (0xC050, r.sub * 2 ^ 32 + (i - 0xC610 + 1) * 2 ^ 27)
  else if i = 0xD100 then some (0xD050, r.sub * 2 ^ 32)
  else if i = 0xE200 then some (0xE040, r.sub * 2 ^ 32)
  else none

/-- The word a counter posts when it moves from one value to another: none unless bit 31 of a U32 counter changed (R70). -/
def counterWord (r : Reg) (before after : Nat) : Option DrumWord :=
  if dictBits r = 32 ∧ bitOf before 31 ≠ bitOf after 31 then
    match counterEvent r with
    | some (code, base) => some ⟨.single, 1, code, base + b2n (bitOf after 31) * 2 ^ 31⟩
    | none => none
  else none

/-- The low 42 bits of a whole number in two's complement, saturated to w bits first (R117). -/
def satSigned (w : Nat) (i : Int) : Nat := ofSigned w (clampInt (-(2 ^ (w - 1) : Int)) ((2 ^ (w - 1) : Int) - 1) i)

/-- A value put in its place in a list in order: before the first that it may stand before. -/
def insertBy {α : Type} (le : α → α → Bool) (x : α) : List α → List α
  | [] => [x]
  | y :: ys => if le x y then x :: y :: ys else y :: insertBy le x ys

/-- A list put in order; of equal values the first stays first. -/
def sortBy {α : Type} (le : α → α → Bool) : List α → List α
  | [] => []
  | x :: xs => insertBy le x (sortBy le xs)

end Sys2Proof.Machine
end

