-- ==== Sys2Proof/Machine/StateBrg.lean ====
section
/-! DEFINITION. State of the register bridge (R422 to R427). -/

namespace Sys2Proof.Machine

/-- A transfer of a session in progress (R422, R423): 1 write, 2 read, 3 lock, 4 unlock; its link, module and TAG, and whether an
abort has been latched for it (R427). -/
structure BrgTransfer where
  op : Nat
  link : Nat
  module : Nat
  tag : Nat
  aborted : Bool
  deriving DecidableEq, Repr

/-- The bridge entries of one session (R422, R431), and the octets its last read brought. -/
structure BrgSession where
  session : Nat
  link : Nat
  module : Nat
  addr : Nat
  len : Nat
  lock : Nat
  status : Nat
  modStatus : Nat
  lockedLink : Nat
  lockedModule : Nat
  transfer : Option BrgTransfer
  data : List Octet
  deriving DecidableEq, Repr

/-- An entry of the posted-write error log (R426). -/
structure PweEntry where
  time : Nat
  address : Nat
  link : Nat
  module : Nat
  status : Nat
  len : Nat
  session : Nat
  tag : Nat
  ended : Bool
  seq : Nat
  deriving DecidableEq, Repr

/-- The register bridge. -/
structure Bridge where
  sessions : List BrgSession
  /-- the log, oldest first, at most 16 -/
  pwe : List PweEntry
  pweSeq : Nat
  deriving DecidableEq, Repr

/-- The entries of a session that has not written them (R431). -/
def BrgSession.fresh (n : Nat) : BrgSession := {
  session := n, link := 0, module := 1, addr := 0, len := 4, lock := 0, status := 0, modStatus := 0, lockedLink := 0, lockedModule := 0
  transfer := none, data := [] }

/-- The bridge at reset. -/
def Bridge.reset : Bridge := { sessions := [], pwe := [], pweSeq := 0 }

end Sys2Proof.Machine
end

