-- ==== Sys2Proof/Machine/StateIdp.lean ====
section
/-! DEFINITION. State of the dictionary service: sessions, authentication, the SPI port, stored profiles and the access record
(R468 to R488). -/

namespace Sys2Proof.Machine

/-- A response kept for resending (R473): its status and its payload. -/
structure IdpResponse where
  op : Nat
  seq : Nat
  status : Nat
  payload : List Octet
  deriving DecidableEq, Repr

/-- A DOMAIN transfer in progress (R475). -/
structure DomainTransfer where
  index : Nat
  sub : Nat
  writing : Bool
  total : Nat
  data : List Octet
  deriving DecidableEq, Repr

/-- An open challenge (R479): slot, the 121 octets sent, the client's ephemeral key, the number of the unit's own ephemeral
key, and the expiry. -/
structure Challenge where
  slot : Nat
  text : List Octet
  clientKey : List Octet
  unitKey : Nat
  expiry : Nat
  deriving DecidableEq, Repr

/-- An item of a request that waits for its apply time (R449, R473): entry, subindex, and its status once known. -/
structure WriteWait where
  index : Nat
  sub : Nat
  status : Option Nat
  deriving DecidableEq, Repr

/-- A session (R468, R474). Times are in clocks since reset. -/
structure Session where
  number : Nat
  source : IdpSource
  level : Nat
  provedKey : Bool
  unitNonce : List Octet
  clientNonce : List Octet
  /-- the session key, from the first successful authentication on (R470) -/
  key : Option (List Octet)
  lastSeq : Nat
  stored : Option IdpResponse
  /-- OP of the request that runs, if one does, and its items (R473) -/
  running : Option Nat
  waits : List WriteWait
  transfer : Option DomainTransfer
  challenge : Option Challenge
  windowEnd : Option Nat
  lastMessage : Nat
  deriving DecidableEq, Repr

/-- Failed authentications of a source, newest first, and the end of its lockout (R480). -/
structure AuthSource where
  address : Nat
  failures : List Nat
  lockedUntil : Option Nat
  deriving DecidableEq, Repr

/-- A profile save in progress (R486): the slot written and the image. -/
structure SaveInProgress where
  slot : Nat
  image : ProfileImage
  deriving DecidableEq, Repr

/-- The dictionary service. -/
structure Idp where
  sessions : List Session
  nextNumber : Nat
  auth : List AuthSource
  /-- response waiting on the SPI service port (R482) -/
  spiWaiting : Option (List Octet)
  /-- five rotating slots of flash (R483) -/
  slots : List (Option ProfileImage)
  save : Option SaveInProgress
  /-- the access record: installation key, integrator service key, safety channel key; empty for none (R488) -/
  installKey : List Octet
  integratorKey : List Octet
  finKey : List Octet
  deriving DecidableEq, Repr

/-- The dictionary service at reset: no session (R474); stored profiles and the access record as a new unit holds them
(log entry 8). -/
def Idp.reset : Idp := {
  sessions := []
  nextNumber := 1
  auth := []
  spiWaiting := none
  slots := List.replicate 5 none
  save := none
  installKey := []
  integratorKey := []
  finKey := [] }

end Sys2Proof.Machine
end

