-- ==== Sys2Proof/Machine/StateChain.lean ====
section
/-! DEFINITION. State of the chain (R492 to R501) and of firmware images and the update (R502 to R517). Times are in clocks. -/

namespace Sys2Proof.Machine

/-- A valid word of CHAIN_IN (R493). -/
structure ChainWord where
  addressed : Bool
  inKeep : Bool
  updating : Bool
  chain : Nat
  position : Nat
  euiLow : Nat
  deriving DecidableEq, Repr

/-- The last DISCOVER heard from a sender (R495, R496): the port it came in on, what it says, the sender's MAC-48 and when it came. -/
structure Heard where
  netb : Bool
  address : Nat
  sender : Nat
  feed : Bool
  chain : Nat
  profile : Nat
  generation : Nat
  mac : Nat
  heardAt : Nat
  deriving DecidableEq, Repr

/-- A neighbour's backup (R499): its address, its EUI-64, its profile in force and its access record. -/
structure Backup where
  address : Nat
  sender : Nat
  image : ProfileImage
  access : List Octet
  deriving DecidableEq, Repr

/-- A backup slot of the flash (R499). -/
structure BackupSlot where
  side : Nat
  generation : Nat
  backup : Backup
  deriving DecidableEq, Repr

/-- A backup on its way to this unit: side (0 upstream, 1 downstream), the neighbour, the address whose backup was asked for, and the octets received
(R499). `adopt` marks one asked for by the adoption of R501; `key` numbers the ephemeral key of the request. -/
structure BackupRx where
  side : Nat
  sender : Nat
  address : Nat
  data : List Octet
  adopt : Bool
  key : Nat
  deriving DecidableEq, Repr

/-- A backup on its way to a neighbour: the port, the neighbour, the segments still to send with their offsets, the octets in all, when the first
of them was sent and how often again (R499). -/
structure BackupTx where
  netb : Bool
  dest : Nat
  segments : List (Nat × List Octet)
  total : Nat
  sentAt : Nat
  resends : Nat
  deriving DecidableEq, Repr

/-- The chain beyond its dictionary entries. -/
structure Chain where
  /-- last valid word, and whether CHAIN_IN is idle and since when -/
  word : Option ChainWord
  wordAt : Nat
  idle : Bool
  heard : List Heard
  /-- neighbour flags of R516: event 0xE030 stands for upstream, downstream -/
  keepSeen : Bool × Bool
  conflictAt : Option Nat
  /-- event 0xE004 stands for the position of the upstream unit (R497) -/
  endSeen : Bool
  /-- a case of R497 has held for the address since reset, and the case of the address proposed (R497, R498) -/
  confirmed : Bool
  proposedCase : Nat
  upMac : Nat
  downMac : Nat
  discoverAt : Nat
  backAt : Nat
  /-- backup slots of the flash -/
  slots : List (Option BackupSlot)
  rx : List BackupRx
  tx : List BackupTx
  /-- SEQ of the next message of each type (R494) -/
  seqs : List (Nat × Nat)
  /-- adoption (R501): runs; the side asked last and when -/
  adopting : Bool
  asked : Option (Nat × Nat)
  adoptEnd : Nat
  deriving DecidableEq, Repr

/-- The boot record (R503). -/
structure BootRecord where
  generation : Nat
  state : Nat
  attempts : Nat
  fetches : Nat
  address : Nat
  confirmedId : Nat
  pendingId : Nat
  tAct : Nat
  healthS : Nat
  retainedHash : List Octet
  deriving DecidableEq, Repr

/-- An OFFER (R495): the image it names and its blocks, T_act, health window and forward. -/
structure Offer where
  imageId : Nat
  level : Nat
  seq : Nat
  blocks : Nat
  tAct : Nat
  healthS : Nat
  forward : Nat
  deriving DecidableEq, Repr

/-- The relay to one neighbour (R510): whether it is upstream, has taken the offer, blocks queued in the staging area, blocks sent and not acknowledged
with the clock and the data of each, and the last acknowledgement with its clock. -/
structure Relay where
  up : Bool
  accepted : Bool
  queued : List (Nat × List Octet)
  unacked : List (Nat × Nat × List Octet)
  lastAck : Nat
  ackAt : Nat
  deriving DecidableEq, Repr

/-- An update in progress (R508 to R511): from whom (0 the host, 1 upstream, 2 downstream), the host's address, the offer, whether block 0 has been
judged, the next block, and the relays. -/
structure UpdateRun where
  source : Nat
  host : Nat
  offer : Offer
  judged : Bool
  next : Nat
  relays : List Relay
  deriving DecidableEq, Repr

/-- A fetch from a neighbour (R516): the address named, since when, the last broadcast, and the offer taken with the next block. -/
structure Fetch where
  target : Nat
  since : Nat
  sentAt : Nat
  offer : Option Offer
  next : Nat
  deriving DecidableEq, Repr

/-- An image sent to a neighbour that fetches (R516): port, MAC-48, the image, the block sent last with its clock, and the clock of the last
acknowledgement. -/
structure Rescue where
  netb : Bool
  dest : Nat
  blocks : List (List Octet)
  next : Nat
  sentAt : Nat
  ackAt : Nat
  deriving DecidableEq, Repr

/-- Images and the update beyond their dictionary entries. -/
structure Update where
  /-- the boot record in force, none where neither copy is valid -/
  boot : Option BootRecord
  /-- Keep copies 0 and 1 verify (R504) -/
  keep : Bool × Bool
  /-- blocks of the image area written since the factory, over the factory image (log entry 8) -/
  area : List (Nat × List Octet)
  /-- the image in the retained area of the DRAM (R389, R504) -/
  retained : Option (List (List Octet))
  /-- what the Keep loader has chosen to boot (R504): 0 nothing yet, 1 the image area, 2 the retained image -/
  boots : Nat
  /-- the image that runs -/
  running : List (List Octet)
  run : Option UpdateRun
  /-- end of the health window, and a refused confirmation (R513) -/
  healthEnd : Option Nat
  /-- TIME_VALID was 0 at T_act: end of the 60 s (R512) -/
  lateUntil : Option Nat
  fetch : Option Fetch
  rescue : Option Rescue
  /-- the unit was recovered from a neighbour at this start (R516) -/
  recovered : Option Nat
  /-- a fallback at this start: 0 window ended, 1 rejected (R514) -/
  fellBack : Option Nat
  deriving DecidableEq, Repr

/-- The chain at reset; the backup slots as a new unit holds them (log entry 8). -/
def Chain.reset : Chain := {
  word := none, wordAt := 0, idle := true, heard := [], keepSeen := (false, false), conflictAt := none, endSeen := false, confirmed := false, proposedCase := 0, upMac := 0
  downMac := 0, discoverAt := 0, backAt := 0, slots := List.replicate 3 none, rx := [], tx := [], seqs := [], adopting := false
  asked := none, adoptEnd := 0 }

/-- Images at reset, as the factory leaves a unit (log entry 8): a confirmed image in the image area, no address, an empty retained area. -/
def Update.reset : Update := {
  boot := some ⟨1, 0, 0, 0, 0, 0, 0, 0, 0, []⟩
  keep := (true, true), area := [], retained := none, boots := 0, running := [], run := none, healthEnd := none, lateUntil := none, fetch := none
  rescue := none, recovered := none, fellBack := none }

end Sys2Proof.Machine
end

