-- ==== Sys2Proof/Machine/StateLantern.lean ====
section
/-! DEFINITION. State of Lantern (R315 to R350): the period grid, merged and running values, faults, groups, the governor and the cues. -/

namespace Sys2Proof.Machine

/-- A sink (R334, R335): its fault class, the runs of consecutive tested periods with each condition, the tick of the declaration, the cut-off
latch of R327, and the tick since which its N has stayed below 1,217. -/
structure LampSink where
  fault : Nat
  openRun : Nat
  shortRun : Nat
  headRun : Nat
  declaredAt : Option Nat
  cut : Bool
  belowSince : Option Nat
  untested : Bool
  deriving DecidableEq, Repr

/-- The values of a channel for a period (R320): its master sink and gang size, source in force, D after stage 5, N, and what darkened it. -/
structure LampValue where
  channel : Nat
  gang : Nat
  source : Nat
  level : Nat
  onTicks : Nat
  phase : Nat
  groupDark : Bool
  derateDark : Bool
  tied : Bool
  deriving DecidableEq, Repr

/-- The values of a period as its merge fixed them (R320): the period, the channels, k of the governor, the requested mean current, whether the
governor acted, the mean current and the dissipation, and whether some factor was below 65,536. -/
structure LampPeriod where
  period : Nat
  values : List LampValue
  govK : Nat
  requested : Nat
  governed : Bool
  totalMa : Nat
  sinkMw : Nat
  derated : Bool
  deriving DecidableEq, Repr

/-- A function group (R336, R337): the tick since which it is dark by fault, its last darkening or retry, and whether it is dark by its
floor. -/
structure LampGroup where
  darkSince : Option Nat
  retryFrom : Nat
  floorDark : Bool
  deriving DecidableEq, Repr

/-- A run of a cue (R323 to R326): its number in the order of starts, its cue, its first period, its end, the cue values its channels had
before it, and the values landed per period, newest first. `replaced` marks a run that another start of its cue ends. -/
structure RunningCue where
  id : Nat
  cue : Nat
  first : Nat
  endAt : Option Nat
  replaced : Bool
  before : List (Nat × Nat)
  values : List (Nat × List (Nat × Nat))
  deriving DecidableEq, Repr

/-- Lantern. Instants are in 2^-32 ns of venue time. -/
structure Lantern where
  sinks : List LampSink
  groups : List LampGroup
  /-- the period grid runs (R343), its anchor in use -/
  gridOn : Bool
  anchor : Nat
  /-- next period to merge, to start and to tick (R166, R320) -/
  nextMerge : Nat
  nextTick : Nat
  /-- values merged and not yet started, and the values of the running period -/
  merged : Option LampPeriod
  running : Option LampPeriod
  /-- tick at which the running period started, and whether its conversion is done -/
  startTick : Nat
  converted : Bool
  /-- period starts passed over up to this tick after a step (R344) -/
  heldUntil : Nat
  /-- values handed over by the lamp map, per channel (R271, R321) -/
  lampVals : List (Nat × Nat)
  /-- values of live signal map entries, per channel, U16 (R321) -/
  signalVals : List (Nat × Nat)
  /-- sources above the knee and at the cut-off, 16 the junction (R350) -/
  derating : List Nat
  cutOff : List Nat
  /-- inputs in a run of invalid readings (R329) -/
  ntcInvalid : List Nat
  /-- periods of the governor's run (R331) -/
  govRun : Nat
  /-- periods each rail group has stood at its highest code below target (R340) -/
  railRun : List Nat
  /-- tied rail groups are driven here, and the tick from which they may be enabled (R342) -/
  tiedOn : Bool
  tiedAt : Option Nat
  /-- the safety table cannot be read (R338) -/
  tableLost : Bool
  cues : List RunningCue
  nextCue : Nat
  /-- cue stopped last in a tick (R325) -/
  stopped : List (Nat × Nat)
  /-- last period counted in CUE_HELD (R326) -/
  heldPeriod : Option Nat
  deriving DecidableEq, Repr

/-- A sink at reset. -/
def LampSink.reset : LampSink := ⟨0, 0, 0, 0, none, false, none, false⟩

/-- Lantern at reset. -/
def Lantern.reset : Lantern := {
  sinks := List.replicate 512 LampSink.reset, groups := List.replicate 64 ⟨none, 0, false⟩, gridOn := false, anchor := 0
  nextMerge := 0, nextTick := 0, merged := none, running := none, startTick := 0, converted := true, heldUntil := 0
  lampVals := [], signalVals := [], derating := [], cutOff := [], ntcInvalid := [], govRun := 0
  railRun := List.replicate 16 0, tiedOn := false, tiedAt := none, tableLost := false, cues := [], nextCue := 0
  stopped := [], heldPeriod := none }

end Sys2Proof.Machine
end

