-- ==== Sys2Proof/Machine/StateMap.lean ====
section
/-! DEFINITION. State of the signal map, of E1.31 and of the DMX512 ports (R408 to R421). Times are in clocks since reset. -/

namespace Sys2Proof.Machine

/-- What an operational entry of the signal map holds (R411 to R414): its output, whether its source is live, whether it claims its target,
the value last written to a register or dictionary target and when, a change that waits for its interval, and whether event 0xC012 stands. -/
structure MapOutput where
  z : Nat
  live : Bool
  claiming : Bool
  written : Option Nat
  writtenAt : Option Nat
  waits : Bool
  refused : Bool
  deriving DecidableEq, Repr

/-- A source of a universe (R416). -/
structure SacnSource where
  cid : Nat
  seq : Nat
  priority : Nat
  slots : List Nat
  lastAt : Nat
  /-- order of arrival of its last packet -/
  order : Nat
  deriving DecidableEq, Repr

/-- A universe entry (R415 to R417): the sources it tracks, and whether event 0xC023 stands. -/
structure Universe where
  sources : List SacnSource
  limited : Bool
  deriving DecidableEq, Repr

/-- What an RDM exchange is for (R421): a host request, a wait for a queued message, or a step of a discovery. -/
inductive RdmPurpose where
  | request
  | queued
  | unMute
  /-- DISC_UNIQUE_BRANCH over a range of UIDs -/
  | branch (lo hi : Nat)
  /-- DISC_MUTE of a UID found in a range -/
  | mute (uid lo hi : Nat)
  deriving DecidableEq, Repr

/-- An RDM exchange of a controller: what is sent, its transaction number and resends, the data joined so far, whether it is on the line, when
its last octet leaves, and the end of an ACK_TIMER wait. -/
structure RdmExchange where
  purpose : RdmPurpose
  dest : Nat
  cls : Nat
  pid : Nat
  data : List Octet
  transaction : Nat
  resends : Nat
  joined : List Octet
  sentAt : Option Nat
  timer : Option Nat
  deriving DecidableEq, Repr

/-- A DMX port (R418 to R421). -/
structure DmxPort where
  /-- mode in force, and a written mode that waits -/
  mode : Nat
  newMode : Option Nat
  /-- received slots, whether the port is live, and when its last valid packet came -/
  slots : List Nat
  live : Bool
  lastValid : Nat
  /-- start of the last packet, and its end while it leaves -/
  txStart : Option Nat
  txEnd : Option Nat
  /-- clock from which an RDM packet sent no longer holds the line -/
  lineFree : Nat
  exchange : Option RdmExchange
  transaction : Nat
  /-- octets of the last response (R430) -/
  response : List Octet
  /-- ranges a discovery has still to search, and UIDs found -/
  search : List (Nat × Nat)
  uids : List Nat
  /-- the unit is muted as a responder -/
  muted : Bool
  /-- IDP responses that wait to be asked for as queued messages (R481) -/
  queue : List (List Octet)
  deriving DecidableEq, Repr

/-- The signal map, E1.31 and the DMX ports. -/
structure SignalMap where
  /-- 128-bit records, administrative and operational (R408, R409) -/
  admin : List Nat
  oper : List Nat
  /-- clock in which a pending change was requested -/
  requestedAt : Option Nat
  outputs : List MapOutput
  /-- last period whose pass has run, and whether one has completed since reset (R410, R419) -/
  lastPass : Option Nat
  /-- slots of the last pass completed, for each port (R419) -/
  dmxOut : List (List Nat)
  universes : List Universe
  arrivals : Nat
  ports : List DmxPort
  deriving DecidableEq, Repr

/-- An output before its first pass. -/
def MapOutput.reset : MapOutput := ⟨0, false, false, none, none, false, false⟩

/-- A port that is off. -/
def DmxPort.reset : DmxPort := {
  mode := 0, newMode := none, slots := [], live := false, lastValid := 0, txStart := none, txEnd := none, lineFree := 0, exchange := none
  transaction := 0, response := [], search := [], uids := [], muted := false, queue := [] }

/-- The signal map at reset. -/
def SignalMap.reset : SignalMap := {
  admin := [], oper := [], requestedAt := none, outputs := [], lastPass := none
  dmxOut := List.replicate 8 (List.replicate 512 0), universes := List.replicate 64 ⟨[], false⟩, arrivals := 0
  ports := List.replicate 8 DmxPort.reset }

end Sys2Proof.Machine
end

