-- ==== Sys2Proof/Machine/StateMem.lean ====
section
/-! DEFINITION. State of the memory arbiter (R383 to R407). The contents of the two dies stand in the state of the blocks that keep them. -/

namespace Sys2Proof.Machine

/-- A raised request: its port, 1 to 9, and the clock in which it was raised (R394, R395). -/
structure MemRequest where
  port : Nat
  since : Nat
  deriving DecidableEq, Repr

/-- The arbiter. -/
structure Mem where
  /-- the owner, 1 to 9, and the clock of its grant -/
  owner : Option Nat
  grantAt : Nat
  /-- event 0xB020 posted for the running grant (R402) -/
  overrun : Bool
  /-- requests that wait -/
  raised : List MemRequest
  /-- the pending queue of the parked modes (R403), ports in order -/
  queue : List Nat
  /-- aging counts of ports 1 to 9 (R396) -/
  aging : List Nat
  /-- grants counted (R397) -/
  grants : Nat
  /-- a mode that takes effect at the next round boundary (R403) -/
  newMode : Option Nat
  /-- error counts of each die as last read (R385) -/
  odecc : List Nat
  /-- each die in a run of readings at ×4 (R388) -/
  hot : List Bool
  /-- accesses and row conflicts of the running window, its start, and the run of windows above the threshold (R404) -/
  windowAccesses : Nat
  windowConflicts : Nat
  windowStart : Nat
  windowRun : Nat
  deriving DecidableEq, Repr

/-- The arbiter at reset. -/
def Mem.reset : Mem := {
  owner := none, grantAt := 0, overrun := false, raised := [], queue := [], aging := List.replicate 9 0, grants := 0
  newMode := none, odecc := [0, 0], hot := [false, false], windowAccesses := 0, windowConflicts := 0, windowStart := 0
  windowRun := 0 }

end Sys2Proof.Machine
end

