-- ==== Sys2Proof/Machine/StateNet.lean ====
section
/-! DEFINITION. State of the network ports (R37 to R75, R570, R600). -/

namespace Sys2Proof.Machine

/-- A frame in an egress queue: its octets, its class, whether it was forwarded, whether it must leave with a stomped FCS
(R75), and for a PTP event message the corrected receive timestamp in 2^-32 ns (R85). -/
structure QueuedFrame where
  octets : List Octet
  cls : Nat
  forwarded : Bool
  stomp : Bool
  ptpRx : Option Nat
  deriving DecidableEq, Repr

/-- The running gate list of a chain port (R64 to R67). -/
structure GateState where
  /-- entry in force, 0 for the first -/
  entry : Nat
  /-- venue time in ns at which the running cycle started -/
  cycleStart : Nat
  /-- gates open, bit n for class n -/
  gates : Nat
  /-- after a step of venue time: the cycle start at which the list restarts (R67) -/
  restartAt : Option Nat
  /-- whether a change is pending -/
  pending : Bool
  deriving DecidableEq, Repr

/-- A port: egress queues of classes 0 to 7 in arrival order (R60, R62), its gates, its delivered stream frames that still
hold packet-buffer cells (R22), the FEC lock of R72. -/
structure NetPort where
  queues : List (List QueuedFrame)
  gate : GateState
  deriving DecidableEq, Repr

/-- The network block. -/
structure Net where
  /-- NETA, NETB, NETM -/
  ports : List NetPort
  /-- cells held by each stream frame delivered to ingest and not yet taken, oldest first (R22) -/
  rxHeld : List Nat
  /-- the exact-match entries of the group filter, 48-bit addresses, 0 for empty (R54) -/
  exact : List Nat
  /-- whether the port entries have been applied since reset, so that frames are taken and forwarded (R50) -/
  forwarding : Bool
  /-- groups for which the unit has reported membership (R59) -/
  joined : List Nat
  /-- TXDIS, RATE0, RATE1 and MODDET of the SFP sideband of each chain port (R570) -/
  sfp : List (Bool × Bool × Bool × Bool)
  /-- uncorrectable codewords of the last window, per port (R73) -/
  fecWindow : List Nat
  deriving DecidableEq, Repr

/-- A gate that is always open. -/
def GateState.reset : GateState := ⟨0, 0, 0xFF, none, false⟩

/-- A port with nothing queued. -/
def NetPort.reset : NetPort := ⟨List.replicate 8 [], GateState.reset⟩

/-- The network block at reset. -/
def Net.reset : Net := {
  ports := List.replicate 3 NetPort.reset
  rxHeld := []
  exact := List.replicate 16 0
  forwarding := false
  joined := []
  sfp := List.replicate 2 (true, false, false, false)
  fecWindow := List.replicate 3 0 }

end Sys2Proof.Machine
end

