-- ==== Sys2Proof/Machine/StateOcu.lean ====
section
/-! DEFINITION. State of Oculus (R351 to R360) and of the check units (R366 to R371). -/

namespace Sys2Proof.Machine

/-- What a layer contributed to a link in an epoch (R357): the layer (8 for the Finial layer), the shown region, the pages its
FETCHes read for the link with their check words, and for the Finial layer its signature. -/
structure OcuLayer where
  layer : Nat
  region : List Nat
  read : List Nat
  pages : List (Nat × Nat)
  sig : Nat
  deriving DecidableEq, Repr

/-- An epoch recorded for a link (R356): feed, epoch, contributing layers and output signature. -/
structure OcuRecord where
  feed : Nat
  epoch : Nat
  layers : List OcuLayer
  out : Nat
  deriving DecidableEq, Repr

/-- Oculus for one link: the reference epochs, one per feed; whether event 0xA002 was posted in the running freeze; struck epochs
that must pass before judgement resumes after a training (R359). -/
structure OcuLink where
  refs : List OcuRecord
  escalated : Bool
  wait : Option Nat
  deriving DecidableEq, Repr

/-- A suspension of all links (R359): struck epochs still to come, the first epoch that counts (none: every one does), and the cause. -/
structure OcuWait where
  left : Nat
  start : Option Nat
  cause : Nat
  deriving DecidableEq, Repr

/-- A check context beyond its dictionary entries (R366, R370): the session that holds it, and the last alive counter. -/
structure CrcContext where
  holder : Option Nat
  lastAlive : Option Nat
  deriving DecidableEq, Repr

/-- Oculus and the check units. -/
structure Ocu where
  links : List OcuLink
  all : Option OcuWait
  contexts : List CrcContext
  deriving DecidableEq, Repr

/-- Oculus at reset. -/
def Ocu.reset : Ocu := {
  links := List.replicate 64 ⟨[], false, none⟩, all := none, contexts := List.replicate 8 ⟨none, none⟩ }

end Sys2Proof.Machine
end

