-- ==== Sys2Proof/Machine/StateOut.lean ====
section
/-! DEFINITION. What the block sends or answers in a command: the frames, blocks, messages, pin levels and statuses that the
rules of spec/ name. State keeps those of the last command only. -/

namespace Sys2Proof.Machine

/-- One thing the block sends or answers. -/
inductive Output where
  /-- a frame that starts on a port, with its FCS as sent (R62, R46) -/
  | frame (port : Nat) (octets : List Octet) (fcs : Nat) (cutThrough : Bool)
  /-- an IGMPv3 report on a port: the group, and whether it is a leave (R59) -/
  | igmp (port group : Nat) (leave : Bool)
  /-- a Pdelay_Resp on a port for a request (R83) -/
  | pdelayResp (port seq : Nat)
  /-- the level of a BELL pin that is an output (R113) -/
  | bell (pin : Nat) (high : Bool)
  /-- the status a register access answers (R472) -/
  | reply (status : Nat)
  /-- a control block sent down a Spire link: its eight payload octets (R277, R278) -/
  | block (link : Nat) (octets : List Octet)
  /-- a link frame sent down a Spire link: SOF octets, data octets, EOF octets (R280, R281) -/
  | linkFrame (link : Nat) (sof data eof : List Octet)
  /-- a DMX packet on a port: break and mark after break in us, and its slots behind start code 0x00 (R419) -/
  | dmx (port breakUs mabUs : Nat) (slots : List Nat)
  /-- an RDM packet on a DMX port, checksum included (R421) -/
  | rdm (port : Nat) (octets : List Octet)
  /-- a message sent over the mirror link: TYPE, MSEQ, payload (R445, R446); the header's CLAIM and SENT are those of the clock -/
  | mirror (kind mseq : Nat) (payload : List Octet)
  /-- a chain message sent on NETA (0) or NETB (1) to a MAC-48, all ones for a broadcast (R494) -/
  | chain (port dest : Nat) (octets : List Octet)
  /-- a chain message sent to the host at an IPv4 address (R508) -/
  | host (address : Nat) (octets : List Octet)
  /-- an IDP response sent to where its request came from (R470, R473) -/
  | idp (dest : IdpSource) (octets : List Octet)
  /-- octets sent on SVC_MISO (R482) -/
  | spi (octets : List Octet)
  /-- the octets a read returns -/
  | data (octets : List Octet)
  deriving DecidableEq, Repr

end Sys2Proof.Machine
end

