-- ==== Sys2Proof/Machine/StatePixel.lean ====
section
/-! DEFINITION. State of the picture path: ingest (R118 to R150), the epochs in flight and Belfry (R151 to R187), Cupola and
the Finial layer (R188 to R216). Instants are in 2^-32 ns of venue time unless a field says otherwise. -/

namespace Sys2Proof.Machine

/-! Ingest -/

/-- A packet kept in the assembly of a frame (R129): its index, first pixel and count, LAST flag, FRAME_CRC field, header
octets 0 to 39 and payload. -/
structure PacketPart where
  index : Nat
  offset : Nat
  count : Nat
  last : Bool
  crc : Nat
  head : List Octet
  payload : List Octet
  deriving DecidableEq, Repr

/-- How a layer stands in an epoch (R198). -/
inductive Resolution where
  | waiting
  /-- it shows the frame with this number -/
  | shows (frame : Nat)
  | transparent
  deriving DecidableEq, Repr

/-- Where an accepted frame stands. -/
inductive FrameStage where
  /-- packets are still missing -/
  | assembling
  /-- complete with a valid check; the number orders completions -/
  | complete (order : Nat)
  deriving DecidableEq, Repr

/-- An accepted frame (R126 to R137). Layer 8 stands for a control frame. -/
structure IngestFrame where
  id : Nat
  layer : Nat
  entry : Nat
  stream : Nat
  time : Nat
  srcEpoch : Nat
  total : Nat
  format : Nat
  region : Rect
  fenceId : Nat
  replace : Bool
  fenced : Bool
  /-- a release of its fence has been accepted (R197) -/
  released : Bool
  /-- marked late at D(E): the instant T_p(E) + P at which it is abandoned (R135) -/
  late : Option Nat
  /-- the earlier frame it replaces (R130) -/
  replaces : Option Nat
  /-- the layer buffer it is written to; none while it waits for one (R139) -/
  buffer : Option Nat
  /-- cells of the packet buffer it holds while it waits -/
  cells : Nat
  stage : FrameStage
  /-- some epoch has selected it (R137) -/
  shown : Bool
  parts : List PacketPart
  /-- lines received of a raster frame: line number and its 12-bit samples (R144, R145) -/
  lines : List (Nat × List (Option Nat))
  /-- pixel words of the stored area, row by row; none for a pixel not received -/
  pixels : List Nat
  deriving DecidableEq, Repr

/-- An ST 2110-20 stream (R144): highest extended sequence number, numbers received within the last 32,768, the numbers
already judged for loss, and whether event 0x4005 was posted for the frame at hand. -/
structure VideoStream where
  entry : Nat
  highest : Nat
  received : List Nat
  judged : Nat
  lossPosted : Bool
  deriving DecidableEq, Repr

/-- Ingest. -/
structure Ingest where
  frames : List IngestFrame
  nextId : Nat
  nextOrder : Nat
  streams : List VideoStream
  /-- whether the last epoch resolved found the layer not ready, per layer (R136) -/
  notReadyRun : List Bool
  /-- the buffer each layer showed in the last epoch that left flight (R134) -/
  lastShown : List Resolution
  /-- control channel values handed to the signal map: stream table entry × 4,096 + channel, value, venue time (R127, R414) -/
  controls : List (Nat × Nat × Nat)
  /-- identities of frames refused or ended, newest first, at most 64: stream, time, source epoch (R132: judged once; log entry 21) -/
  refused : List (Nat × Nat × Nat)
  /-- frames that have left ingest and still count as in force, newest first, at most 64: they ended otherwise than as CRC_ERROR,
  FORMAT_ERROR or INCOMPLETE (R130; log entry 21) -/
  ended : List (Nat × Nat × Nat)
  deriving DecidableEq, Repr

/-! Epochs -/

/-- The configuration of one layer as an epoch is built with it (R152). -/
structure LayerConfig where
  enabled : Bool
  area : Rect
  format : Nat
  raster : Bool
  crop : Rect
  filter : Nat
  edge : Nat
  rasterCode : Nat
  blend : Nat
  alpha : Nat
  key : Nat
  keyTol : Nat
  opaqueDecl : Bool
  opaqueRect : Rect
  flipGroup : Nat
  timeout : Nat
  deriving DecidableEq, Repr

/-- A Finial region as an epoch is built with it: its number, whether it is blanked, and its content (R208). -/
structure FinialUse where
  region : Nat
  blanked : Bool
  slot : Nat
  rect : Rect
  pixels : List Nat
  deriving DecidableEq, Repr

/-- A pixel of the live set (R218, R223): its matrix row-major in Q3.13, and its spare selector. -/
structure LivePixel where
  matrix : List Int
  selector : Nat
  deriving DecidableEq, Repr

/-- The live data of one module: link, module address, linearising table slot and pixels. -/
structure LiveModule where
  link : Nat
  module : Nat
  table : List Nat
  pixels : List LivePixel
  deriving DecidableEq, Repr

/-- What an epoch is built with: layers, order from the bottom, background, Finial, map, lamp map, mode, dither and the live
calibration data, and the depths the modules declare (R152, R190, R223, R246, R263, R269). -/
structure EpochConfig where
  layers : List LayerConfig
  order : List Nat
  background : Nat
  finial : List FinialUse
  failColour : Nat
  map : List (List Nat)
  lampMap : List Nat
  canvasW : Nat
  canvasH : Nat
  compact : Bool
  feeds : Nat
  dither : Nat
  live : List LiveModule
  depths : List (List Nat)
  deriving DecidableEq, Repr

/-- Where an epoch in flight stands. -/
inductive EpochStage where
  /-- in the live-epoch set, its strike not yet decided -/
  | live
  /-- squashed, its barrier not yet reached; true if a replacement follows (R172) -/
  | squashing (replace : Bool)
  /-- squashed, barrier reached, waiting to be instantiated again (R29) -/
  | awaiting
  /-- the strike decided: the links struck (R254) -/
  | committed (links : List Nat)
  /-- withheld and retired (R29) -/
  | withheld
  deriving DecidableEq, Repr

/-- An epoch in flight (R24). -/
structure Epoch where
  epoch : Nat
  index : Nat
  feed : Nat
  tp : Nat
  period : Nat
  slot : Nat
  stage : EpochStage
  replacement : Bool
  config : EpochConfig
  layers : List Resolution
  /-- the frame each layer showed in the epoch before, for holding (R134, R198) -/
  before : List Resolution
  /-- layers whose D(E) has passed (R134, R135) -/
  timedLayers : List Nat
  /-- layers that ingest has reported ready under case 1 (R134) -/
  ready : List Nat
  /-- next brick to instantiate, in brick order (R159) -/
  nextBrick : Nat
  /-- event 0x5005 has been posted for it (R159) -/
  stalled : Bool
  /-- its instantiation stands still for want of slots or contexts (R159) -/
  stopped : Bool
  /-- bricks that a watchdog trip restarts, waiting to be bound again (R182) -/
  restart : List Nat
  /-- bricks whose operations have all completed -/
  bricksDone : List Nat
  graphClocks : Nat
  operations : Nat
  /-- venue time at which the last operation completed -/
  completedAt : Option Nat
  timedOut : Bool
  /-- priority 5 has been given (R164) -/
  urgent : Bool
  /-- a link frame of it was abandoned (R292) -/
  failedLinks : List Nat
  /-- links that have entered urgency 2 in it (R252) -/
  urgentLinks : List Nat
  /-- output signatures of the links it is struck on, complete with their shadows (R353) -/
  outSigs : List (Nat × Nat)
  /-- links on which its STRIKE has left -/
  struck : List Nat
  /-- its presentation time has come (R455) -/
  shown : Bool
  deriving DecidableEq, Repr

/-! Belfry -/

/-- Where an operation waits (R158, R161). -/
inductive OpStage where
  | waiting
  /-- ready since a tick, in a priority queue, in an order of readiness (R163) -/
  | ready (priority since order : Nat)
  /-- running on an engine since a tick -/
  | running (engine since : Nat)
  deriving DecidableEq, Repr

/-- An operation in a slot (R158). Codes are those of R153. -/
structure BelOp where
  slot : Nat
  code : Nat
  epoch : Nat
  brick : Nat
  aux : Nat
  engine : Option Nat
  unmet : Nat
  deadline : Nat
  clocks : Nat
  stage : OpStage
  deriving DecidableEq, Repr

/-- A brick context (R160): the epoch and brick, what its FETCHes brought per layer, and the pixels as they stand. A fetched
pixel is R, G, B, A in 12 bits, or none. -/
structure BrickContext where
  epoch : Nat
  brick : Nat
  fetched : List (Nat × List (Option (List Nat)))
  composed : List (List Nat)
  emitters : List (List Nat)
  deriving DecidableEq, Repr

/-- An engine (R160, R161, R182). -/
structure Engine where
  active : Bool
  contexts : List BrickContext
  boundClocks : Nat
  busy : Nat
  /-- stopped by a squash or a removal: the epoch, and the tick of the 64-clock boundary from which it is free (R171, R172) -/
  stopping : Option (Nat × Nat)
  lastTrip : Option Nat
  deriving DecidableEq, Repr

/-- An entry of a delay list: ticks after the entry before it, and the CUE operation (cue, channel group) it releases
(R167). -/
structure DelayEntry where
  delta : Nat
  cue : Nat
  deriving DecidableEq, Repr

/-- A decision record of the trace (R177). -/
structure TraceRecord where
  seq : Nat
  time : Nat
  decision : Nat
  reason : Nat
  epoch : Nat
  prio : Nat
  lamp : Bool
  engine : Nat
  op : Nat
  slot : Nat
  brick : Nat
  aux : Nat
  arg : Nat
  deriving DecidableEq, Repr

/-- Sums of the running statistics window (R184): per priority the waits summed, their number and the longest, in ns; busy
clocks per engine; the start of the window in ticks. -/
structure BelStats where
  start : Nat
  waitSum : List Nat
  waitCount : List Nat
  waitMax : List Nat
  busy : List Nat
  deriving DecidableEq, Repr

/-- Belfry. -/
structure Belfry where
  /-- the live-epoch set (R170) -/
  live : List Nat
  /-- occupied slots in slot order (R158) -/
  slots : List BelOp
  engines : List Engine
  readyOrder : Nat
  /-- delay lists 0 to 3 (R167) -/
  delays : List (List DelayEntry)
  /-- ticks skipped by a step, applied at the next tick (R168) -/
  skippedTicks : Nat
  /-- the trace ring, oldest first (R177) -/
  trace : List TraceRecord
  /-- records in the on-chip queue, and records lost since it filled (R178) -/
  traceQueue : Nat
  traceLost : Nat
  stats : BelStats
  /-- every engine is to be reloaded once no epoch is in flight (R365) -/
  reload : Bool
  deriving DecidableEq, Repr

/-! Cupola and the Finial layer -/

/-- An entry of the fence table (R197): stream table entry and stream, abandon or release, FENCE_ID, time of acceptance. -/
structure FenceEntry where
  layer : Nat
  stream : Nat
  abandon : Bool
  fenceId : Nat
  accepted : Nat
  deriving DecidableEq, Repr

/-- A content slot of a Finial region (R207): its version, rectangle, check and pixels, what of it has come, whether it is
valid, and when it became so. -/
structure FinialSlot where
  contentId : Nat
  rect : Rect
  crc : Nat
  pixels : List (Option Nat)
  valid : Bool
  validOrder : Nat
  deriving DecidableEq, Repr

/-- A copy of the decision registers (R209). -/
structure Decision where
  asserted : Nat
  blanked : Nat
  slots : List Nat
  deriving DecidableEq, Repr

/-- Cupola. -/
structure Cupola where
  fences : List FenceEntry
  /-- last accepted ALIVE and ISSUE_TIME (R205) -/
  lastMessage : Option (Nat × Nat)
  /-- clock in which the last message was accepted (R206) -/
  lastAccepted : Nat
  /-- regions that staleness has blanked (R206) -/
  staleBlanked : Nat
  /-- releases of the clock that last brought one: region and clock (R208) -/
  released : List (Nat × Nat)
  /-- two slots for each of 16 regions; none where empty -/
  content : List (List (Option FinialSlot))
  nextValid : Nat
  /-- decision registers A, B and C -/
  decisions : List Decision
  /-- the output copy: for each of three slots, bricks and the words of their canvas pixels (R211, R212) -/
  copy : List (List (Nat × List Nat))
  /-- the output frame slots: for each of three, link × 4,096 + brick and (word position, word) (R153, R251) -/
  frames : List (List (Nat × List (Nat × Nat)))
  /-- the preview: epoch, format, words; none while nothing was taken (R213) -/
  preview : Option (Nat × Nat × List Nat)
  deriving DecidableEq, Repr

/-- Ingest at reset. -/
def Ingest.reset : Ingest := {
  frames := [], nextId := 0, nextOrder := 0, streams := [], notReadyRun := List.replicate 8 false, refused := [], ended := []
  controls := []
  lastShown := List.replicate 8 .transparent }

/-- An engine before its microcode is loaded (R181). -/
def Engine.reset : Engine := ⟨false, [], 0, 0, none, none⟩

/-- A statistics window that starts at a tick. -/
def BelStats.fresh (start : Nat) : BelStats :=
  ⟨start, List.replicate 8 0, List.replicate 8 0, List.replicate 8 0, List.replicate 16 0⟩

/-- Belfry at reset. -/
def Belfry.reset : Belfry := {
  live := [], slots := [], engines := List.replicate 16 Engine.reset, readyOrder := 0
  delays := List.replicate 4 [], skippedTicks := 0, trace := [], traceQueue := 0, traceLost := 0
  stats := BelStats.fresh 0, reload := false }

/-- A decision register that asserts nothing. -/
def Decision.reset : Decision := ⟨0, 0, List.replicate 16 0⟩

/-- Cupola at reset. -/
def Cupola.reset : Cupola := {
  fences := [], lastMessage := none, lastAccepted := 0, staleBlanked := 0, released := []
  content := List.replicate 16 [none, none], nextValid := 0, decisions := List.replicate 3 Decision.reset
  copy := List.replicate 3 [], frames := List.replicate 3 [], preview := none }

end Sys2Proof.Machine
end

