-- ==== Sys2Proof/Machine/StateScan.lean ====
section
/-! DEFINITION. State of scan-out (R246 to R274), of the Spire links (R275 to R314) and of calibration (R217 to R245). -/

namespace Sys2Proof.Machine

/-! Scan-out -/

/-- Scan-out. Instants are in 2^-32 ns of venue time. -/
structure Scan where
  /-- run records of each link, administrative and operational (R246, R247) -/
  mapAdmin : List (List Nat)
  mapOper : List (List Nat)
  /-- presentation instant of grid index 0: anchor and phase, or the genlock reference (R260 to R262) -/
  gridRef : Nat
  /-- whether a grid runs -/
  gridOn : Bool
  /-- next epoch value and next grid index (R18, R153) -/
  nextEpoch : Nat
  nextIndex : Nat
  /-- withheld epochs in the running run under policy 0, and links in a run under policy 1 (R256) -/
  withheldRun : Nat
  linkRun : List Bool
  /-- last accepted genlock edge, edges in a row with an error beyond 50 us, whether edges are lost, whether anchored (R262) -/
  lastEdge : Option Nat
  edgeErrors : Nat
  edgesLost : Bool
  anchored : Bool
  /-- lamp map records whose pixel each copy slot holds in the format in force (R271) -/
  marks : List (List Nat)
  /-- last value handed to each lamp channel by the lamp map (R271) -/
  lampLast : List Nat
  /-- lamp values handed over, with the instant from which they count (R32, R271) -/
  lampNext : Option (Nat × List (Nat × Nat))
  /-- instant at which a pending mode change takes effect (R265) -/
  modeAt : Option Nat
  /-- a mode in force whose first epoch is still to come, and whether a step or re-phase caused it (R265) -/
  newMode : Option Bool
  deriving DecidableEq, Repr

/-! The Spire links -/

/-- A module as its descriptor gives it (R309) and as measurement finds it (R287, R288). -/
structure SpireModule where
  kind : Nat
  emitterKind : Nat
  pixels : Nat
  depth : Nat
  shadowDepth : Nat
  inputs : Nat
  hasCal : Bool
  fwdDown : Nat
  fwdUp : Nat
  turnaround : Nat
  emitLatency : Nat
  moduleId : Nat
  /-- its descriptor has been read and accepted -/
  accepted : Bool
  /-- excluded from the commit test (R286) -/
  excluded : Bool
  /-- values of A of the running measurement (R287), times two -/
  samples : List Int
  /-- A of the running measurement, once its 16 samples are in -/
  arrivalNext : Option Nat
  /-- latch delay written to LATCH_DELAY_NEXT, and whether it has been read back (R288) -/
  latchNext : Nat
  latchRead : Bool
  /-- SEQ of the next KIND 1 frame, and SEQ of the last upstream frame accepted (R303, R304) -/
  seq : Nat
  upSeq : Option Nat
  deriving DecidableEq, Repr

/-- What a register transaction was for (R302). -/
inductive TxPurpose where
  /-- a transfer of a dictionary session (R423) -/
  | bridge (session : Nat)
  /-- a write of an entry of the signal map (R413) -/
  | mapWrite (entry : Nat)
  | descriptor
  | latchWrite
  | latchRead
  | commitStatus
  | selectorPage
  | lock (session : Nat)
  | unlock (session : Nat)
  deriving DecidableEq, Repr

/-- A register transaction (R302). -/
structure RegTxn where
  op : Nat
  address : Nat
  tag : Nat
  len : Nat
  data : List Octet
  purpose : TxPurpose
  deriving DecidableEq, Repr

/-- A downstream frame sent and not yet acknowledged (R291, R292, R303). -/
structure SpireFrame where
  kind : Nat
  module : Nat
  /-- EPOCH for KIND 0, SEQ for KIND 1 -/
  number : Nat
  segment : Nat
  gen : Nat
  last : Bool
  resends : Nat
  sentAt : Nat
  /-- data blocks -/
  blocks : Nat
  txns : List RegTxn
  deriving DecidableEq, Repr

/-- The loading of an epoch's shadows on a link (R251, R291, R293): frames still to send as (module, segment, LAST), modules
that have acknowledged COMPLETE, whether it has failed, and whether any part was sent. -/
structure LinkEpoch where
  epoch : Nat
  gen : Nat
  toSend : List (Nat × Nat × Bool)
  complete : List Nat
  modules : List Nat
  failed : Bool
  sent : Bool
  /-- payload octets of the first clean transmission of each segment: module, segment, octets (R353) -/
  payload : List (Nat × Nat × List Octet)
  deriving DecidableEq, Repr

/-- What the bridge keeps of a TAG it gave to a posted write (R426). -/
structure TagEntry where
  tag : Nat
  session : Nat
  module : Nat
  address : Nat
  len : Nat
  deriving DecidableEq, Repr

/-- A lock of the register channel (R305). -/
structure LinkLock where
  module : Nat
  session : Nat
  since : Nat
  unlocking : Bool
  deriving DecidableEq, Repr

/-- A link. Its state of R284 is SPL_STATE, its delay SPL_DELAY. -/
structure SpireLink where
  modules : List SpireModule
  epochs : List LinkEpoch
  /-- generation of the next loading of an epoch that was revoked (R297) -/
  gens : List (Nat × Nat)
  waiting : List SpireFrame
  /-- register transactions waiting to be sent, per module -/
  txns : List (Nat × RegTxn)
  /-- transactions sent that await a response -/
  reads : List (Nat × RegTxn)
  nextTag : Nat
  /-- the last 256 TAGs of posted writes, newest first (R426) -/
  tags : List TagEntry
  lock : Option LinkLock
  /-- REQs granted in arrival order: kind, module, SEQ, blocks; the head is granted (R304) -/
  reqs : List (Nat × Nat × Nat × Nat)
  grantAt : Nat
  /-- d_link of the running measurement, and whether a measurement runs (R288, R289) -/
  delayNext : Nat
  measuring : Bool
  /-- SEQ of the next ECHO, and the module and SEQ that wait for a reply (R287) -/
  echoSeq : Nat
  echoWait : Option (Nat × Nat)
  /-- the next STRIKE carries APPLY_DELAY (R288) -/
  applyDelay : Bool
  /-- comparator 1 has fired for this epoch and the link's wait runs (R108) -/
  strikeWait : Option (Nat × Nat)
  lastStruck : Option Nat
  /-- the delays that the next STRIKE applies come from a re-measurement (R289) -/
  remeasured : Bool
  /-- it has begun to load an epoch since it was trained, and takes part in the commit test (R255) -/
  joined : Bool
  /-- the receiver has block lock (R276), and a wait of SPL_RETRAIN_MS runs (R284) -/
  locked : Bool
  resting : Bool
  downSince : Nat
  lockSince : Nat
  enumSince : Nat
  measuredAt : Nat
  deriving DecidableEq, Repr

/-! Calibration -/

/-- A module's cached calibration (R231, R235, R236): the pages of copies A and B, check words included, in page order; pages
that could not be obtained; the emitter sets marked failed and the selectors are in the selector page. -/
structure CalModule where
  link : Nat
  module : Nat
  copyA : List (List Octet)
  copyB : List (List Octet)
  lost : List Nat
  slot : Nat
  fetched : Bool
  deriving DecidableEq, Repr

/-- A temperature zone (R221 to R225). The active and the inactive half, whether the inactive half is complete and waits for
its swap, the pass that runs, a further pass requested, and the operations still to complete. -/
structure CalZone where
  active : List LiveModule
  inactive : List LiveModule
  ready : Bool
  theta : Int
  blendTheta : Int
  pass : Option Int
  requested : Bool
  opsLeft : Nat
  lastPass : Nat
  lostPosted : Bool
  spanPosted : Bool
  /-- the zone whose pass must swap in the same epoch (R224) -/
  partner : Option Nat
  deriving DecidableEq, Repr

/-- A copy of the trims (R238): reference, segment mask and gain of each sink, PHY, and its CRC-16. -/
structure TrimCopy where
  reference : Nat
  sinks : List (Nat × Int)
  phy : Nat
  check : Nat
  deriving DecidableEq, Repr

/-- A field recalibration (R241, R242): link, module, the averaged pages, and whether the commit has been written. -/
structure Recal where
  link : Nat
  module : Nat
  pages : List (List Octet)
  revision : Nat
  committing : Bool
  deriving DecidableEq, Repr

/-- Calibration. -/
structure Cal where
  modules : List CalModule
  /-- distinct linearising tables, at most 64 (R237) -/
  tables : List (List Nat)
  zones : List CalZone
  /-- selector pages that wait to be written back: link, module, page (R229) -/
  writebacks : List (Nat × Nat × Nat)
  /-- selector pages whose write failed on the far side: link, module, page (R229) -/
  failed : List (Nat × Nat × Nat)
  /-- pages still to scrub in the running scrub period -/
  scrub : List (Nat × Nat × Nat)
  pass1 : List Octet
  pass2 : List Octet
  recal : Option Recal
  /-- the non-volatile trims: two copies (R238) -/
  trims : List TrimCopy
  deriving DecidableEq, Repr

/-- Scan-out at reset. -/
def Scan.reset : Scan := {
  mapAdmin := List.replicate 64 [], mapOper := List.replicate 64 [], gridRef := 0, gridOn := false, nextEpoch := 0
  nextIndex := 0, withheldRun := 0, linkRun := List.replicate 64 false, lastEdge := none, edgeErrors := 0
  edgesLost := false, anchored := false, marks := List.replicate 3 [], lampLast := List.replicate 512 0
  lampNext := none, modeAt := none, newMode := none }

/-- A link with no module. -/
def SpireLink.reset : SpireLink := {
  modules := [], epochs := [], gens := [], waiting := [], txns := [], reads := [], nextTag := 0, tags := [], lock := none
  reqs := [], grantAt := 0, delayNext := 0, measuring := false, echoSeq := 0, echoWait := none, applyDelay := false
  strikeWait := none, lastStruck := none, remeasured := false, joined := false, locked := false, resting := false
  downSince := 0, lockSince := 0, enumSince := 0, measuredAt := 0 }

/-- A module before its descriptor is read. -/
def SpireModule.reset : SpireModule := {
  kind := 0, emitterKind := 0, pixels := 0, depth := 0, shadowDepth := 1, inputs := 1, hasCal := false, fwdDown := 0
  fwdUp := 0, turnaround := 0, emitLatency := 0, moduleId := 0, accepted := false, excluded := false, samples := [], arrivalNext := none
  latchNext := 0, latchRead := false, seq := 0, upSeq := none }

/-- A zone that has had no pass. -/
def CalZone.reset : CalZone := {
  active := [], inactive := [], ready := false, theta := 0, blendTheta := 0, pass := none, requested := false, opsLeft := 0
  lastPass := 0, lostPosted := false, spanPosted := false, partner := none }

/-- A trim copy as the factory leaves it: per unit, so the model names it (log entry 6). Its check is that of the octets the
model lays the trims out in. -/
def TrimCopy.reset : TrimCopy := ⟨0, List.replicate 512 (0x0FFF, 0), 0, 0⟩

/-- Calibration at reset. -/
def Cal.reset : Cal := {
  modules := [], tables := [], zones := List.replicate 64 CalZone.reset, writebacks := [], failed := [], scrub := [], pass1 := []
  pass2 := [], recal := none, trims := List.replicate 2 TrimCopy.reset }

end Sys2Proof.Machine
end

