-- ==== Sys2Proof/Machine/StateSys.lean ====
section
/-! DEFINITION. State of clocks, resets, start-up and supplies (R522 to R565). Times are in clocks of 781.25 MHz. -/

namespace Sys2Proof.Machine

/-- What holds the unit in reset (R525 to R528, R564): a supply below its threshold, a rail fault that waits or has locked the rails off, a clock out
of lock, RESET_N low, a junction above the release of a thermal trip. -/
structure Holds where
  vin : Bool
  rails : Bool
  clock : Bool
  pin : Bool
  thermal : Bool
  deriving DecidableEq, Repr

/-- Start-up and supplies beyond their dictionary entries. -/
structure Sys where
  holds : Holds
  /-- SYS_RESET_CAUSE gathered since the last start (R532), and whether the running start is warm -/
  cause : Nat
  warm : Bool
  /-- clock of t0, or of the release for a warm start (R540) -/
  startedAt : Nat
  /-- clock of the release of internal reset -/
  releasedAt : Option Nat
  /-- clocks of the rail faults counted, whether three have locked the rails off, and the end of the 100 ms wait (R564) -/
  railFaults : List Nat
  railsLocked : Bool
  retryAt : Option Nat
  /-- the fault record the drive die keeps (R565) -/
  lastFault : Nat
  /-- events of the steps before the firmware, oldest first (R539) -/
  early : List DrumWord
  /-- training attempts that failed (R538) -/
  memFailed : Nat
  /-- PROF1 and PROF0 as sampled, and the profile chosen (R485, R535) -/
  pins : Nat
  chosen : Nat
  /-- the DIC_PROFILE_NEXT record of the flash (R485, R502) -/
  nextProfile : Nat
  /-- the drive die hears the heartbeat of the logic die (R529) -/
  driveAlive : Bool
  /-- the code loaded at this start (R537): the sequencer verified; engines and link controllers that failed, bit by bit -/
  loads : Bool × Nat × Nat
  /-- the role of the running unit, that of the profile loaded: 0 cabinet hub, 1 lamp node (R6, R7) -/
  role : Nat
  /-- first lamp output, first picture and the end of start-up have been posted (R540, R541) -/
  lampSeen : Bool
  pictureSeen : Bool
  doneSeen : Bool
  /-- limits that have been reported: lamp, picture (R541) -/
  lateLamp : Bool
  latePicture : Bool
  /-- clock from which the limits run (R501, R540) -/
  limitsFrom : Nat
  /-- the logic junction is in a run of readings at the warning (R542) -/
  hot : Bool
  deriving DecidableEq, Repr

/-- The unit held by nothing. -/
def Holds.none : Holds := ⟨false, false, false, false, false⟩

/-- Start-up and supplies at reset: RESET_N and VIN good, no rail fault counted. -/
def Sys.reset : Sys := {
  holds := Holds.none, cause := 0, warm := false, startedAt := 0, releasedAt := Option.none, railFaults := [], railsLocked := false
  retryAt := Option.none, lastFault := 0, early := [], memFailed := 0, pins := 0, chosen := 0, nextProfile := 0xFF, driveAlive := true, loads := (false, 0, 0), role := 0
  lampSeen := false, pictureSeen := false, doneSeen := false, lateLamp := false, latePicture := false, limitsFrom := 0, hot := false }

end Sys2Proof.Machine
end

