-- ==== Sys2Proof/Machine/StateTwin.lean ====
section
/-! DEFINITION. State of Twin operation (R434 to R460). Times are in clocks since reset. -/

namespace Sys2Proof.Machine

/-- A mirror message that awaits its ACK: TYPE, MSEQ, payload, when it was sent last, resends made (R447). -/
structure MirSent where
  kind : Nat
  mseq : Nat
  payload : List Octet
  sentAt : Nat
  resends : Nat
  deriving DecidableEq, Repr

/-- The LINK_SIG records of a link for an epoch, the unit's own and its partner's (R454). -/
structure LinkRecord where
  epoch : Nat
  link : Nat
  own : Option Nat
  partner : Option Nat
  deriving DecidableEq, Repr

/-- The FRAME_SIG records of an epoch: signature and mask of links struck (R455), and whether comparison was suspended at its presentation. -/
structure FrameRecord where
  epoch : Nat
  own : Option (Nat × Nat)
  partner : Option (Nat × Nat)
  suspended : Bool
  deriving DecidableEq, Repr

/-- A mirrored write that has its apply time: DSEQ, T_a as VTIME, entry, session, value, the status at the sequencer, and whether the session is
this unit's (R449). -/
structure MirWrite where
  dseq : Nat
  ta : Nat
  index : Nat
  sub : Nat
  session : Nat
  status : Nat
  value : List Octet
  mine : Bool
  deriving DecidableEq, Repr

/-- A write forwarded to the sequencer (R449): entry, subindex and session. -/
structure MirForward where
  index : Nat
  sub : Nat
  session : Nat
  deriving DecidableEq, Repr

/-- A sync in progress (R457): whether this unit joins, E_s and its T_p in ns, and the highest step reached. -/
structure JoinState where
  joining : Bool
  es : Option Nat
  tp : Nat
  step : Nat
  deriving DecidableEq, Repr

/-- A zone pass pushed by the partner (R452): zone, θ, and the epoch at which both units swap. -/
structure ZonePush where
  zone : Nat
  theta : Nat
  epoch : Nat
  deriving DecidableEq, Repr

/-- Twin operation beyond its dictionary entries. -/
structure Twin where
  /-- clock from which claim words leave (R438) -/
  wordsFrom : Option Nat
  /-- WSEQ of the last valid word received, none after a loss (R438) -/
  lastWseq : Option Nat
  wordAt : Option Nat
  beatAt : Option Nat
  /-- what the partner last said of itself (R438, R446) -/
  partnerState : Nat
  partnerD : Nat
  partnerEpoch : Nat
  partnerDseq : Nat
  partnerEui : Nat
  /-- an accepted ADMIT that came before this unit could drive: TWN_PREFER and STATE of the partner (R444) -/
  admission : Option (Nat × Nat)
  /-- MSEQ of the next message sent, and of the next to be delivered -/
  txSeq : Nat
  rxSeq : Nat
  sent : List MirSent
  /-- messages that wait for a gap to be filled: TYPE and message -/
  held : List (Nat × MirMessage)
  linkRecords : List LinkRecord
  frameRecords : List FrameRecord
  /-- consecutive divergent epochs; consecutive epochs in step while joining; syncs without success -/
  divergeRun : Nat
  stepRun : Nat
  failedSyncs : Nat
  join : Option JoinState
  /-- DSEQ of the last write sequenced, and writes that wait for their apply time, by DSEQ -/
  lastDseq : Nat
  writes : List MirWrite
  /-- writes of this unit's sessions forwarded to the sequencer and not yet sequenced, oldest first (R449) -/
  forwards : List MirForward
  /-- BULK objects received so far: object and data; a closed one under its number plus 256 (R446) -/
  bulk : List (Nat × List Octet)
  /-- clock since which the condition of a yield has held (R442) -/
  yieldSince : Option Nat
  /-- time at which each item was pushed last: item, zone or group, venue time (R453) -/
  pushed : List (Nat × Nat × Nat)
  /-- tied faults pushed last, per rail group (R452) -/
  tiedSent : List (Nat × List Octet)
  zonePushes : List ZonePush
  /-- lowest epoch compared after joining (R455) -/
  compareFrom : Option Nat
  deriving DecidableEq, Repr

/-- Twin operation at reset. -/
def Twin.reset : Twin := {
  wordsFrom := none, lastWseq := none, wordAt := none, beatAt := none, partnerState := 0, partnerD := 0, partnerEpoch := 0, partnerDseq := 0
  partnerEui := 0, admission := none, txSeq := 1, rxSeq := 1, sent := [], held := [], linkRecords := [], frameRecords := [], divergeRun := 0, stepRun := 0
  failedSyncs := 0, join := none, lastDseq := 0, writes := [], forwards := [], bulk := [], yieldSince := none, pushed := [], tiedSent := [], zonePushes := []
  compareFrom := none }

end Sys2Proof.Machine
end

