-- ==== Sys2Proof/Machine/State.lean ====
section
/-! DEFINITION. The state of the block: the object dictionary, the Drum and its log, the Tower Clock, every block's own state,
the outputs of the last command and the queue of commands that wait. -/

namespace Sys2Proof.Machine

/-- Reasons the block stops with a fault. The spec gives none: every hardware fault it names has an effect it describes. -/
inductive Fault where
  /-- raised by no meaning; kept so that the type is not empty (safe) -/
  | none
  deriving DecidableEq, Repr

/-- Reasons a command is refused. -/
inductive Refusal where
  /-- a command whose meaning has not been written (safe) -/
  | notModelled (mnemonic : String)
  deriving DecidableEq, Repr

structure State where
  /-- elements of the dictionary away from their default (R464, R465) -/
  dict : Store
  /-- what the factory fixes in the unit -/
  unit : UnitId
  drum : Drum
  log : Log
  clock : Clock
  net : Net
  idp : Idp
  ingest : Ingest
  /-- epochs in flight, oldest first (R24) -/
  epochs : List Epoch
  belfry : Belfry
  cupola : Cupola
  scan : Scan
  /-- links 0 to 63 -/
  spire : List SpireLink
  cal : Cal
  bridge : Bridge
  ocu : Ocu
  lantern : Lantern
  mem : Mem
  smap : SignalMap
  twin : Twin
  chain : Chain
  update : Update
  sys : Sys
  /-- clocks of 781.25 MHz since the state given (R523); resets do not set it back -/
  ticks : Nat
  /-- number of the next free value (log entry 5); the model's own field -/
  fresh : Nat
  /-- outputs of the last command; the model's own field -/
  out : List Output
  /-- commands that wait, first in, first out -/
  pending : List Instr
  deriving DecidableEq, Repr

/-- The machine right after reset: every entry at its default but LAN_STATE, which is 1 (R343), venue time 0 and invalid (R80), every counter 0 (R69), every block at reset (R526,
R536), the flash as the factory leaves it (log entry 8), no command waiting. -/
def State.reset : State := {
  dict := [(Reg.LAN_STATE.key, 1)], unit := UnitId.reset, drum := ⟨[], []⟩, log := ⟨[], 0, 0⟩, clock := Clock.reset, net := Net.reset, idp := Idp.reset
  ingest := Ingest.reset, epochs := [], belfry := Belfry.reset, cupola := Cupola.reset, scan := Scan.reset
  spire := List.replicate 64 SpireLink.reset, cal := Cal.reset, bridge := Bridge.reset, ocu := Ocu.reset, lantern := Lantern.reset
  mem := Mem.reset, smap := SignalMap.reset, twin := Twin.reset, chain := Chain.reset, update := Update.reset, sys := Sys.reset
  ticks := 0, fresh := 0, out := [], pending := [] }

end Sys2Proof.Machine
end

