-- ==== Sys2Proof/Machine/Ops.lean ====
section
/-! DEFINITION. The named operations every meaning is written with: reading and writing elements of the dictionary, counting,
posting events to the Drum, the passing of time, sending, and the frame of a command. -/

namespace Sys2Proof.Machine

/-- The raw value of an element: the value stored, or its default. -/
def State.reg (s : State) (r : Reg) : Nat := storeGet (dictDefault r) s.dict r.key

/-- The value of a two's complement element. -/
def State.regInt (s : State) (r : Reg) : Int := toSigned (dictBits r) (s.reg r)

/-- Whether a BOOL element is 1. -/
def State.flag (s : State) (r : Reg) : Bool := s.reg r == 1

/-- An element set to a value, cut to its width. An element the dictionary does not have, or one without a fixed length,
holds nothing here. -/
def State.setReg (s : State) (r : Reg) (v : Nat) : State :=
  if dictBits r = 0 then s
  else { s with dict := storePut (dictDefault r) s.dict r.key (v % 2 ^ dictBits r) }

/-- A two's complement element set to a whole number. -/
def State.setInt (s : State) (r : Reg) (v : Int) : State := s.setReg r (ofSigned (dictBits r) v)

/-- An element with one bit set or cleared. -/
def State.setBit (s : State) (r : Reg) (n : Nat) (b : Bool) : State := s.setReg r (setBitTo (s.reg r) n b)

/-- An item of words posted in this clock (R375). It enters the Drum when the command ends, in ascending order of code
(R372). Priority 7 sets the fault summary in the clock of the post (R378). -/
def State.postItem (s : State) (ws : List DrumWord) : State :=
  let s' := { s with drum := { s.drum with incoming := s.drum.incoming ++ [ws] } }
  match ws with
  | w :: _ =>
    if w.priority = 7 then s'.setBit .DRM_FAULT_SUMMARY (w.code / 4096) true else s'
  | [] => s'

/-- An event of one word: code, priority, argument of 42 bits (R18, R375). -/
def State.post (s : State) (code priority arg : Nat) : State :=
  s.postItem [⟨.single, priority, code, arg % 2 ^ 42⟩]

/-- A counter moved on by n, wrapping at its width; a change of bit 31 posts the event of its block (R69, R70). -/
def State.count (s : State) (r : Reg) (n : Nat := 1) : State :=
  let before := s.reg r
  let s' := s.setReg r (before + n)
  match counterWord r before (s'.reg r) with
  | some w => s'.postItem [w]
  | none => s'

/-- A register moved on by n without a counter event (counts outside the counter records). -/
def State.bump (s : State) (r : Reg) (n : Nat := 1) : State := s.setReg r (s.reg r + n)

/-- Something sent or answered. -/
def State.emit (s : State) (o : Output) : State := { s with out := s.out ++ [o] }

/-- The status of R472 a register access answers. -/
def State.reply (s : State) (status : Nat) : State := s.emit (.reply status)

/-- The next free value (log entry 5), and the state that has taken it. -/
def State.takeFree (s : State) : Nat × State := (s.fresh, { s with fresh := s.fresh + 1 })

/-- The clock block changed. -/
def State.modClock (s : State) (f : Clock → Clock) : State := { s with clock := f s.clock }

/-- The network block changed. -/
def State.modNet (s : State) (f : Net → Net) : State := { s with net := f s.net }

/-- One tick's increment of a turret in 2^-32 ns (R79). -/
def Turret.inc (t : Turret) : Nat := 2 ^ 32 + t.f

/-- A turret after a number of ticks, modulo 2^96 (R79, R102). -/
def Turret.advance (t : Turret) (n : Nat) : Turret := { t with time := (t.time + n * t.inc) % 2 ^ 96 }

/-- The turrets in use: all but the one excluded (R104). -/
def Clock.inUse (c : Clock) : List Turret :=
  match c.excluded with
  | none => c.turrets
  | some k => c.turrets.eraseIdx k

/-- The voted time of the tick in 2^-32 ns: the value at least two turrets hold (R102); the first in use where none agree,
which a vote failure settles at once (R105). -/
def State.time96 (s : State) : Nat :=
  match s.clock.inUse with
  | [a, b, c] => if a.time = b.time then a.time else if a.time = c.time then a.time else b.time
  | a :: _ => a.time
  | [] => 0

/-- The voted venue time in ns (R78). -/
def State.now (s : State) : Nat := s.time96 / 2 ^ 32

/-- The passing of n clocks: every turret advances once per tick (R79), and the trace queue has emptied by the next clock (R178,
log entry 20). -/
def State.elapse (s : State) (n : Nat) : State :=
  { s with
    ticks := s.ticks + n
    belfry := if n = 0 then s.belfry else { s.belfry with traceQueue := 0 }
    clock := { s.clock with turrets := s.clock.turrets.map fun t => t.advance n } }

/-- TIME_VALID (R80, R81). -/
def State.timeValid (s : State) : Bool := bitOf (s.reg .TCK_FLAGS) 0

/-- Milliseconds since internal reset was released (R543). -/
def State.startMs (s : State) : Nat :=
  match s.sys.releasedAt with
  | some t => (s.ticks - t) * 128 / 100 / 1000000
  | none => 0

/-- A milestone of SYS_START_MS reached for the first time (R543). -/
def State.milestone (s : State) (n : Nat) : State :=
  if s.sys.releasedAt.isSome ∧ s.reg (.SYS_START_MS n) = 2 ^ 32 - 1 then s.setReg (.SYS_START_MS n) s.startMs else s

/-- The end of start-up for the role of the running unit: event 0xF004 (R6, R541). -/
def State.startUpDone (s : State) (role : Nat) : State :=
  if s.sys.role = role ∧ s.sys.doneSeen = false then
    ({ s with sys := { s.sys with doneSeen := true } }).post 0xF004 3 (role + s.startMs * 2)
  else s

/-- The words of the Drum, with DRM_DEPTH and DRM_DEPTH_MAX following the words held (R379). -/
def State.setWords (s : State) (ws : List DrumWord) : State :=
  let s1 := { s with drum := { s.drum with words := ws } }
  let s2 := s1.setReg .DRM_DEPTH ws.length
  if s2.reg .DRM_DEPTH_MAX < ws.length then s2.setReg .DRM_DEPTH_MAX ws.length else s2

/-- A Drum counter moved on by n, and the word its bit 31 posts (R379). -/
def State.drumCount (s : State) (r : Reg) (n : Nat) : State × List DrumWord :=
  let before := s.reg r
  let s' := s.setReg r (before + n)
  (s', (counterWord r before (s'.reg r)).toList)

/-- A record written to the flash log (R517). -/
def State.logRecord (s : State) (w : DrumWord) : State :=
  { s with log := s.log.append ⟨s.now, w.code, w.priority, w.arg, s.log.boot, s.log.seq⟩ }

/-- Events of priority 5 or more and of range 0xE are logged (R517), once the firmware runs (R516, R539). -/
def State.logWord (s : State) (w : DrumWord) : State :=
  if (5 ≤ w.priority ∨ w.code / 4096 = 0xE) ∧ s.reg .SYS_STATE = 3 then s.logRecord w else s

/-- One word enters the Drum: filtered below DRM_MIN_PRIORITY (R372), or entered, overwriting the oldest word when 64 are
held (R374). The second part holds the words its counters post. -/
def State.enterWord (s : State) (w : DrumWord) : State × List DrumWord :=
  let s := s.logWord w
  if w.priority < s.reg .DRM_MIN_PRIORITY ∧ w.priority ≠ 7 then s.drumCount .DRM_FILTERED 1
  else
    match s.drum.words with
    | old :: rest =>
      if 64 ≤ s.drum.words.length then
        let (s1, w1) := (s.setWords (rest ++ [w])).drumCount .DRM_LOST 1
        let (s2, w2) := s1.drumCount (.DRM_LOST_PRIO (old.priority + 1)) 1
        (s2, w1 ++ w2)
      else (s.setWords (s.drum.words ++ [w]), [])
    | [] => (s.setWords [w], [])

/-- Words enter one after another; words posted by the Drum's own counters enter behind, to the depth given. -/
def State.enterWords : Nat → State → List DrumWord → State
  | 0, s, _ => s
  | n + 1, s, ws =>
    ws.foldl (fun s w => let (s', more) := s.enterWord w; State.enterWords n s' more) s

/-- Items put in ascending order of code, items of one code in the order of posting (R372). -/
def insertItem (i : List DrumWord) : List (List DrumWord) → List (List DrumWord)
  | [] => [i]
  | j :: js =>
    if (i.head?.map DrumWord.code).getD 0 < (j.head?.map DrumWord.code).getD 0 then i :: j :: js
    else j :: insertItem i js

/-- The items in the order in which the Drum takes them. -/
def sortItems (is : List (List DrumWord)) : List (List DrumWord) := is.foldl (fun acc i => insertItem i acc) []

/-- The items posted in this clock enter the Drum (R372, R375). -/
def State.settle (s : State) : State :=
  let items := sortItems s.drum.incoming
  State.enterWords 4 { s with drum := { s.drum with incoming := [] } } items.flatten

/-- The frame of every command: dt clocks pass, the command has its effect, the events posted enter the Drum. The queue of
waiting commands is no part of the effect. -/
def run (s : State) (dt : Nat) (f : State → State) : Host.Outcome State Fault Refusal :=
  let t := (f { s.elapse dt with out := [] }).settle
  .next { t with pending := s.pending, ticks := s.ticks + dt }

end Sys2Proof.Machine
end

