-- ==== Sys2Proof/Machine/Operands.lean ====
section
/-! DEFINITION. The operand forms: how the octets of a frame are read (R40, R56, R60, R85), who may write an element (R17, R468),
and how octets become the value of an element (R466). -/

namespace Sys2Proof.Machine

/-- Destination address, first octet on the wire in [47:40] (R55). -/
def ethDst (o : List Octet) : Nat := ofBe (o.take 6)

/-- Source address. -/
def ethSrc (o : List Octet) : Nat := ofBe (slice o 6 6)

/-- Whether a frame has an 802.1Q tag. -/
def ethTagged (o : List Octet) : Bool := ofBe (slice o 12 2) == 0x8100

/-- PCP of the tag. -/
def ethPcp (o : List Octet) : Nat := (nth o 14 0).toNat / 32

/-- EtherType behind the tag, if any. -/
def ethType (o : List Octet) : Nat := if ethTagged o then ofBe (slice o 16 2) else ofBe (slice o 12 2)

/-- Where the payload starts. -/
def ethBody (o : List Octet) : Nat := if ethTagged o then 18 else 14

/-- Whether a frame carries IPv4. -/
def isIpv4 (o : List Octet) : Bool := ethType o == 0x0800

/-- The header length of the IPv4 packet. -/
def ipHeader (o : List Octet) : Nat := ((nth o (ethBody o) 0).toNat % 16) * 4

/-- The IPv4 protocol number. -/
def ipProto (o : List Octet) : Nat := (nth o (ethBody o + 9) 0).toNat

/-- The IPv4 destination. -/
def ipDst (o : List Octet) : Nat := ofBe (slice o (ethBody o + 16) 4)

/-- Whether the packet is a fragment: more fragments, or an offset (R38). -/
def ipFragment (o : List Octet) : Bool := ofBe (slice o (ethBody o + 6) 2) % 0x4000 != 0

/-- Whether the frame carries UDP over IPv4. -/
def isUdp (o : List Octet) : Bool := isIpv4 o && ipProto o == 17

/-- The UDP destination port. -/
def udpDst (o : List Octet) : Nat := ofBe (slice o (ethBody o + ipHeader o + 2) 2)

/-- Where the UDP payload starts. -/
def udpBody (o : List Octet) : Nat := ethBody o + ipHeader o + 8

/-- The STREAM_ID of a WSF packet (R122). -/
def wsfStreamId (o : List Octet) : Nat := ofBe (slice o (udpBody o + 8) 4)

/-- Whether a frame carries a PTP event or general message: EtherType 0x88F7, or UDP port 319 or 320 (R60). -/
def isPtp (o : List Octet) : Bool := ethType o == 0x88F7 || (isUdp o && (udpDst o == 319 || udpDst o == 320))

/-- Where the PTP message starts. -/
def ptpBody (o : List Octet) : Nat := if ethType o = 0x88F7 then ethBody o else udpBody o

/-- PTP messageType: 0 Sync, 1 Delay_Req, 2 Pdelay_Req, 3 Pdelay_Resp, 10 Pdelay_Resp_Follow_Up. -/
def ptpType (o : List Octet) : Nat := (nth o (ptpBody o) 0).toNat % 16

/-- Octets written over part of a list. -/
def overwrite (o : List Octet) (p : Nat) (bs : List Octet) : List Octet := o.take p ++ bs ++ o.drop (p + bs.length)

/-- A PTP frame with a residence in 2^-16 ns added to its correctionField, and the UDP checksum of an IPv4 frame set to 0
(R85). -/
def addCorrection (o : List Octet) (residence : Int) : List Octet :=
  let p := ptpBody o + 8
  let c := toSigned 64 (ofBe (slice o p 8))
  let o1 := overwrite o p (beOctets 8 (ofSigned 64 (c + residence)))
  if isUdp o then overwrite o1 (udpBody o - 2) [0, 0] else o1

/-- The class of a frame that leaves a chain port (R60). -/
def State.classOf (s : State) (o : List Octet) : Nat :=
  if ethTagged o then s.reg (.NET_PCP_TO_TC (ethPcp o + 1))
  else if isPtp o then 7
  else if isUdp o ∧ udpDst o = 48622 then 5
  else if isUdp o ∧ 0xE0000000 ≤ ipDst o ∧ ipDst o < 0xF0000000 then 5
  else if isUdp o ∧ udpDst o = 48620 then 4
  else if ethType o = 0x0806 ∨ (isIpv4 o ∧ (ipProto o = 1 ∨ ipProto o = 2)) then 3
  else if isUdp o ∧ udpDst o = 48624 then 1
  else 0

/-- The level of a session: service level ends in the clock in which its window ends (R479). -/
def Session.levelAt (x : Session) (now : Nat) : Nat :=
  match x.windowEnd with
  | some t => if x.level = 2 ∧ t ≤ now then b2n x.provedKey else x.level
  | none => x.level

/-- The level of a writer (R468, R469). -/
def State.levelOf (s : State) (who : Nat) : Nat :=
  if who = 0xFFFF then 2
  else if who = 0 then 1
  else match s.idp.sessions.find? fun x => x.number == who with
    | some x => x.levelAt s.ticks
    | none => 0

/-- The level an access code asks of a write (R468); none where no level may write. CUP_FIN_KEY is taken at service level
only (R214). -/
def Access.writeLevel : Access → Option Nat
  | .ro | .const => none
  | .wo | .rw | .rwo | .rwf => some 1
  | .rws => some 2

/-- The level a write of an element asks; the records of comparators 0 to 4 read RO (R109). -/
def writeLevel (r : Reg) : Option Nat :=
  if r = .CUP_FIN_KEY then some 2
  else if 0x3100 ≤ r.index ∧ r.index ≤ 0x3104 then none
  else match dictRow r with
    | some row => row.access.writeLevel
    | none => none

/-- A write by a session: refused with status 6 below the level of the element, and then without effect (R468). -/
def State.asWriter (s : State) (who : Nat) (r : Reg) (f : State → State) : State :=
  match writeLevel r with
  | none => s.reply 7
  | some l => if s.levelOf who < l then s.reply 6 else f s

/-- A read that removes data asks level 1 (R468). -/
def State.asReader (s : State) (who : Nat) (f : State → State) : State := if s.levelOf who < 1 then s.reply 6 else f s

/-- Whether a raw value lies in the range its row states (R466). -/
def inRange (r : Reg) (v : Nat) : Bool :=
  match dictRow r with
  | some row => row.inRange v
  | none => false

end Sys2Proof.Machine
end

