-- ==== Sys2Proof/Machine/ProfileOps.lean ====
section
/-! DEFINITION. What a stored profile holds of an entry (R483, R484): an ARRAY or RECORD is one record at subindex 0 with the persistent elements in
subindex order. -/

namespace Sys2Proof.Machine

/-- Access codes whose entries a profile holds (R483). -/
def Access.persistent : Access → Bool
  | .rwo | .rws | .rwf => true
  | _ => false

/-- The records of comparators 0 to 4, which read RO (R109). -/
def ownComparator (index : Nat) : Bool := Nat.ble 0x3100 index && Nat.ble index 0x3104

/-- Elements whose write is a command and whose read is its status: a profile holds 0 for them. -/
def commandElement (r : Reg) : Bool :=
  r.index == 0x2047 || [(0x1025, 3), (0x6003, 0), (0x7410, 5), (0x7501, 0), (0x8002, 0), (0x8140, 0), (0xC001, 0), (0xD00C, 0)].contains (r.index, r.sub)

/-- The persistent elements of fixed length of an entry: subindex and octets, in subindex order. -/
def persistentElements (index : Nat) : List (Nat × Nat) :=
  if ownComparator index then []
  else ((dictRowsOf index).filter fun r => Nat.ble r.indexLo index && Nat.ble index r.indexHi && r.access.persistent && r.type.octetLen != 0).flatMap fun r =>
    (List.range (r.subHi + 1 - r.subLo)).map fun i => (r.subLo + i, r.type.octetLen)

/-- The place and length of an element in its record. -/
def elementPlace : List (Nat × Nat) → Nat → Nat → Option (Nat × Nat)
  | [], _, _ => none
  | (k, n) :: rest, sub, at_ => if k = sub then some (at_, n) else elementPlace rest sub (at_ + n)

/-- The value an image holds for an element. -/
def imageGet (p : ProfileImage) (r : Reg) : Option Nat :=
  match p.records.find? fun x => x.index == r.index && x.sub == 0 with
  | none => none
  | some x => (elementPlace (persistentElements r.index) r.sub 0).map fun q => ofLe (slice x.value q.1 q.2)

/-- The type code of an entry's record (R466, R484): that of subindex 0, else ARRAY for one row of elements and RECORD for several. -/
def entryCode (index : Nat) : Nat :=
  match dictRowsOf index |>.filter fun r => Nat.ble r.indexLo index && Nat.ble index r.indexHi with
  | [r] => if r.subLo = 0 then r.type.code else 0x0E
  | _ => 0x0F

/-- The octets of a slot before its CHECK (R484). -/
def slotBody (p : ProfileImage) : List Octet :=
  let records := (p.records.map fun r => leOctets 2 r.index ++ leOctets 1 r.sub ++ leOctets 1 r.type ++ leOctets 4 r.value.length ++ r.value).flatten
  leOctets 4 0x46505A49 ++ leOctets 1 p.profile ++ leOctets 1 p.role ++ leOctets 2 p.level ++ leOctets 4 p.generation ++ leOctets 8 p.saved ++
    leOctets 4 records.length ++ leOctets 8 p.source ++ records

/-- The octets of a slot (R484). -/
def slotOctets (p : ProfileImage) : List Octet := slotBody p ++ leOctets 4 p.check

/-- Records read from octets; none where they do not come out even. -/
def slotRecords : Nat → List Octet → Option (List ProfileRecord)
  | _, [] => some []
  | 0, _ => none
  | n + 1, o =>
    let len := ofLe (slice o 4 4)
    if o.length < 8 + len then none
    else (slotRecords n (o.drop (8 + len))).map fun rest =>
      ⟨ofLe (o.take 2), ofLe (slice o 2 1), ofLe (slice o 3 1), slice o 8 len⟩ :: rest

/-- A slot image read from octets. -/
def parseProfile (o : List Octet) : Option ProfileImage :=
  let len := ofLe (slice o 20 4)
  if ofLe (o.take 4) ≠ 0x46505A49 ∨ o.length ≠ 36 + len then none
  else (slotRecords len (slice o 32 len)).map fun records => {
    profile := ofLe (slice o 4 1), role := ofLe (slice o 5 1), level := ofLe (slice o 6 2), generation := ofLe (slice o 8 4)
    saved := ofLe (slice o 12 8), source := ofLe (slice o 24 8), records := records, check := ofLe (slice o (32 + len) 4) }

/-- Whether a slot is valid (R484): its check verifies, its level is the unit's, every record names a defined entry of a matching type. -/
def slotValid (level : Nat) (p : ProfileImage) : Bool :=
  p.check == crcOf crc32c (slotBody p) && p.level == level &&
    p.records.all fun r => r.sub == 0 && ((dictRowsOf r.index).any fun row => Nat.ble row.indexLo r.index && Nat.ble r.index row.indexHi) &&
      r.type == entryCode r.index

/-- The slots that are valid, with their numbers. -/
def State.validSlots (s : State) : List (Nat × ProfileImage) :=
  s.idp.slots.zipIdx.filterMap fun (p, i) => match p with
    | some p => if slotValid (s.reg .DIC_BEHAVIOUR_LEVEL) p then some (i, p) else none
    | none => none

/-- The slot in force of a stored profile: its valid slot of the highest generation (R483). -/
def State.slotInForce (s : State) (n : Nat) : Option (Nat × ProfileImage) :=
  s.validSlots.foldl (fun best p =>
    if p.2.profile ≠ n then best
    else match best with
      | some b => if b.2.generation < p.2.generation then some p else best
      | none => some p) none

/-- The image in force of a stored profile. -/
def State.storedProfile (s : State) (n : Nat) : Option ProfileImage := (s.slotInForce n).map (·.2)

end Sys2Proof.Machine
end

