-- ==== Sys2Proof/Config.lean ====
section
/-! DEFINITION. What one unit or one run fixes and the spec leaves open, as constants without a body, so that no proof can
see a value of them; and the constants of the part the spec states. Each has a row in notes/assumptions. -/

namespace Sys2Proof.Config

/-- Free values: the n-th value the spec leaves open (random nonces, ephemeral keys; contents nothing has written).
DESIGN CHOICE, safe: log entry 5. -/
opaque freeValue : Nat → Nat

/-- The ECDSA P-256 verification of R479 (FIPS 186-4): public key, message, 64-octet signature. -/
opaque ecdsaVerify : List Octet → List Octet → List Octet → Bool

/-- The unit's ephemeral P-256 public key for the n-th challenge, 65 octets (R479). -/
opaque ephemeralKey : Nat → List Octet

/-- The ECDH shared X coordinate of the unit's n-th ephemeral key and a client key, 32 octets (R479). -/
opaque ecdhSharedX : Nat → List Octet → List Octet

/-- The Ed25519 signature check of an image (R507): key index, signed message, signature. -/
opaque imageSignatureOk : Nat → List Octet → List Octet → Bool

/-- The image a unit leaves the factory with, block by block (R506): the spec fixes its form and not its octets. -/
opaque factoryImage : Nat → List Octet

/-- The wrap key a unit sends in its n-th BACKUP_REQUEST: ephemeral key, signature and certificate (R500). -/
opaque wrapKey : Nat → List Octet

/-- Whether the certificate of a wrap key verifies, and whether its signature does (R500). -/
opaque certificateOk : List Octet → Bool

/-- Whether the signature of a wrap key verifies (R500). -/
opaque wrapKeyOk : List Octet → Bool

/-- The access record wrapped as R500 says: the wrap key of the request with the two EUI-64s, the number of the nonce and of the sender's own
ephemeral key, and the record. -/
opaque wrapRecord : List Octet → Nat → List Octet → List Octet

/-- A wrapped access record opened with the n-th ephemeral key of this unit and the two EUI-64s: none where the tag does not verify (R500). -/
opaque unwrapRecord : List Octet → Nat → List Octet → Option (List Octet)

/-- The pixel word a layer buffer holds where a frame, given by its number, has not been written: column and row (R142; log entry 26). -/
opaque staleWord : Nat → Nat → Nat → Nat

/-- The parameter data of DEVICE_INFO that the unit answers to RDM (R421): the spec leaves its contents to E1.20. -/
opaque deviceInfo : List Octet

/-- Temperature in 1/16 °C that an NTC input of so many microvolts converts to, by B constant and resistance at 25 °C (R574). -/
opaque ntcTemp : Nat → Nat → Nat → Int

end Sys2Proof.Config
end

