-- ==== Sys2Proof/Machine/Taps.lean ====
section
/-! DEFINITION. The taps of scaler filter 0 (R146): round(1,024 × L(d) / Σ L) with L(d) = sinc(d) × sinc(d / 4) and d = k − 3 − phi / 64,
the rounding residual added to the largest tap. One row per phase. -/

namespace Sys2Proof.Machine

/-- Phases 0 to 15. -/
def sincTaps0 : List (List Int) := [
  [0, 0, 0, 1024, 0, 0, 0, 0],
  [-2, 5, -14, 1023, 15, -5, 2, 0],
  [-3, 10, -28, 1022, 30, -10, 3, 0],
  [-4, 15, -41, 1019, 46, -16, 5, 0],
  [-6, 19, -53, 1017, 62, -22, 7, 0],
  [-7, 23, -65, 1012, 79, -27, 9, 0],
  [-8, 27, -76, 1008, 96, -33, 11, -1],
  [-9, 31, -87, 1003, 113, -39, 13, -1],
  [-10, 35, -97, 995, 132, -45, 15, -1],
  [-11, 38, -106, 988, 150, -51, 17, -1],
  [-12, 42, -115, 980, 169, -57, 19, -2],
  [-13, 45, -124, 972, 188, -63, 21, -2],
  [-14, 48, -131, 961, 208, -69, 23, -2],
  [-14, 50, -138, 951, 228, -76, 26, -3],
  [-15, 53, -145, 940, 248, -82, 28, -3],
  [-15, 55, -151, 928, 269, -88, 30, -4]]

/-- Phases 16 to 31. -/
def sincTaps1 : List (List Int) := [
  [-15, 57, -156, 915, 289, -94, 32, -4],
  [-16, 59, -161, 903, 310, -100, 34, -5],
  [-16, 60, -165, 887, 332, -106, 37, -5],
  [-16, 61, -168, 873, 353, -112, 39, -6],
  [-16, 62, -172, 857, 375, -117, 41, -6],
  [-16, 63, -174, 842, 396, -123, 43, -7],
  [-16, 64, -176, 824, 418, -128, 45, -7],
  [-16, 65, -178, 808, 440, -134, 47, -8],
  [-16, 65, -178, 789, 462, -139, 49, -8],
  [-16, 65, -179, 772, 484, -144, 51, -9],
  [-15, 65, -179, 753, 505, -148, 53, -10],
  [-15, 65, -179, 735, 527, -153, 54, -10],
  [-15, 64, -178, 716, 549, -157, 56, -11],
  [-14, 64, -176, 694, 570, -160, 57, -11],
  [-14, 63, -175, 675, 592, -164, 59, -12],
  [-13, 62, -172, 653, 613, -167, 60, -12]]

/-- Phases 32 to 47. -/
def sincTaps2 : List (List Int) := [
  [-13, 61, -170, 634, 634, -170, 61, -13],
  [-12, 60, -167, 613, 653, -172, 62, -13],
  [-12, 59, -164, 592, 675, -175, 63, -14],
  [-11, 57, -160, 570, 694, -176, 64, -14],
  [-11, 56, -157, 549, 716, -178, 64, -15],
  [-10, 54, -153, 527, 735, -179, 65, -15],
  [-10, 53, -148, 505, 753, -179, 65, -15],
  [-9, 51, -144, 484, 772, -179, 65, -16],
  [-8, 49, -139, 462, 789, -178, 65, -16],
  [-8, 47, -134, 440, 808, -178, 65, -16],
  [-7, 45, -128, 418, 824, -176, 64, -16],
  [-7, 43, -123, 396, 842, -174, 63, -16],
  [-6, 41, -117, 375, 857, -172, 62, -16],
  [-6, 39, -112, 353, 873, -168, 61, -16],
  [-5, 37, -106, 332, 887, -165, 60, -16],
  [-5, 34, -100, 310, 903, -161, 59, -16]]

/-- Phases 48 to 63. -/
def sincTaps3 : List (List Int) := [
  [-4, 32, -94, 289, 915, -156, 57, -15],
  [-4, 30, -88, 269, 928, -151, 55, -15],
  [-3, 28, -82, 248, 940, -145, 53, -15],
  [-3, 26, -76, 228, 951, -138, 50, -14],
  [-2, 23, -69, 208, 961, -131, 48, -14],
  [-2, 21, -63, 188, 972, -124, 45, -13],
  [-2, 19, -57, 169, 980, -115, 42, -12],
  [-1, 17, -51, 150, 988, -106, 38, -11],
  [-1, 15, -45, 132, 995, -97, 35, -10],
  [-1, 13, -39, 113, 1003, -87, 31, -9],
  [-1, 11, -33, 96, 1008, -76, 27, -8],
  [0, 9, -27, 79, 1012, -65, 23, -7],
  [0, 7, -22, 62, 1017, -53, 19, -6],
  [0, 5, -16, 46, 1019, -41, 15, -4],
  [0, 3, -10, 30, 1022, -28, 10, -3],
  [0, 2, -5, 15, 1023, -14, 5, -2]]

/-- The taps of filter 0 at a phase. -/
def sincTaps (phi : Nat) : List Int :=
  nth (if phi < 16 then sincTaps0 else if phi < 32 then sincTaps1 else if phi < 48 then sincTaps2 else sincTaps3) (phi % 16) []

end Sys2Proof.Machine
end

