-- ==== Sys2Proof/Machine/PixelMath.lean ====
section
/-! DEFINITION. The arithmetic of a pixel on its way from a buffer to a link word: conversion and scaling (R145, R146), expansion and
blending (R191 to R193, R208), calibration (R217 to R219, R222), dithering (R269), and the geometry of bricks and map runs
(R151, R247, R248). -/

namespace Sys2Proof.Machine

/-! Rational rounding -/

/-- A rational rounded to the nearest whole number, halves upward (log entry 11). -/
def roundHalfUp (q : Rat) : Int := (q + 1 / 2).floor

/-! Conversion of ST 2110-20 samples (R145) -/

/-- A coefficient of R145 in units of 2^-14. -/
def coef14 (q : Rat) : Int := roundHalfUp (q * 16384)

/-- An output of R145: products of coefficients and samples, rounded half up and clamped to 12 bits. -/
def out12 (acc : Int) : Nat := (clampInt 0 4095 ((acc + 8192) / 16384)).toNat

/-- Kr and Kb of BT.709 and BT.2020. -/
def lumaWeights (colorimetry : Nat) : Rat × Rat :=
  if colorimetry = 0 then (2126 / 10000, 722 / 10000) else (2627 / 10000, 593 / 10000)

/-- Offsets and ranges of R145 for luma and chroma. -/
def lumaScale (full : Bool) : Int × Rat := if full then (0, 1) else (256, 4095 / 3504)

/-- The chroma form of R145. -/
def chromaScale (full : Bool) : Rat := if full then 1 else 4095 / 3584

/-- Y'CbCr to R'G'B' in 12 bits (R145). -/
def ycbcrToRgb (colorimetry : Nat) (full : Bool) (y cb cr : Nat) : Nat × Nat × Nat :=
  let (kr, kb) := lumaWeights colorimetry
  let kg := 1 - kr - kb
  let (y0, ys) := lumaScale full
  let cs := chromaScale full
  let l := coef14 ys * ((y : Int) - y0)
  let b : Int := (cb : Int) - 2048
  let r : Int := (cr : Int) - 2048
  (out12 (l + coef14 (2 * (1 - kr) * cs) * r),
    out12 (l - coef14 (2 * kb * (1 - kb) / kg * cs) * b - coef14 (2 * kr * (1 - kr) / kg * cs) * r),
    out12 (l + coef14 (2 * (1 - kb) * cs) * b))

/-- A component of an RGB source (R145). -/
def rgbComponent (full : Bool) (c : Nat) : Nat :=
  let (y0, ys) := lumaScale full
  out12 (coef14 ys * ((c : Int) - y0))

/-- A stored 10-bit value (R145). -/
def store10 (v : Nat) : Nat := clampNat 1023 ((v + 2) / 4)

/-! Scaling (R146) -/

/-- The Keys kernel of a = −0.5. -/
def keysKernel (d : Rat) : Rat :=
  let x := if d < 0 then -d else d
  if x < 1 then 3 / 2 * x * x * x - 5 / 2 * x * x + 1
  else if x < 2 then -(1 / 2) * x * x * x + 5 / 2 * x * x - 4 * x + 2
  else 0

/-- The taps of filter 1 at a phase, the residual added to the largest. -/
def keysTaps (phi : Nat) : List Int :=
  let c := (List.range 8).map fun (k : Nat) => roundHalfUp (1024 * keysKernel ((k : Rat) - 3 - (phi : Rat) / 64))
  let largest := c.foldl max (-1024)
  let j := c.findIdx (· == largest)
  c.modify j (· + (1024 - c.sum))

/-- The taps c[phi][0..7] of a filter (R146). -/
def taps (filter phi : Nat) : List Int :=
  if filter = 0 then sincTaps phi
  else if filter = 1 then keysTaps phi
  else if filter = 2 then [0, 0, 0, 16 * (64 - phi), 16 * phi, 0, 0, 0]
  else if phi < 32 then [0, 0, 0, 1024, 0, 0, 0, 0] else [0, 0, 0, 0, 1024, 0, 0, 0]

/-- The step of a pass in Q16.16: crop and layer size (R146). -/
def scaleStep (crop layer : Nat) : Nat := (2 * crop * 65536 + layer) / (2 * layer)

/-- The source position of output pixel i in Q16.16 (R146); the unit is 2^-17 so that the half step stays exact. -/
def scalePos2 (cropAt step i : Nat) : Int := 2 * (cropAt : Int) * 65536 + (2 * i + 1) * step - 65536

/-- A source coordinate as the edge bits let it be read (R146). -/
def edgeClamp (cropAt cropLen raster : Nat) (lowClamps highClamps : Bool) (x : Int) : Nat :=
  let lo : Int := if lowClamps then cropAt else 0
  let hi : Int := if highClamps then (cropAt + cropLen : Nat) - 1 else (raster : Int) - 1
  (clampInt lo hi x).toNat

/-- One output of a pass: the eight taps at position p over samples read at clamped coordinates (R146). -/
def scaleAt (filter : Nat) (p2 : Int) (read : Int → Nat) : Nat :=
  let p := p2 / 2
  let n := p / 65536
  let phi := ((p / 1024) % 64).toNat
  let acc := ((List.range 8).zip (taps filter phi)).foldl
    (fun (a : Int) (kc : Nat × Int) => a + kc.2 * (read (n - 3 + kc.1) : Nat)) 0
  (clampInt 0 4095 ((acc + 512) / 1024)).toNat

/-! Composition -/

/-- The product of R192. -/
def mul12 (x y : Nat) : Nat := (x * y + x * y / 4096 + 2048) / 4096

/-- 8 bits to 12 (R191). -/
def expand8 (c : Nat) : Nat := c * 16 + c / 16

/-- 10 bits to 12 (R191). -/
def expand10 (c : Nat) : Nat := c * 4 + c / 256

/-- A pixel word of a buffer as R, G, B, A in 12 bits (R140, R191). -/
def expandPixel (format w : Nat) : List Nat :=
  if format = 0 then [expand8 (field w 31 24), expand8 (field w 23 16), expand8 (field w 15 8), expand8 (field w 7 0)]
  else [expand10 (field w 29 20), expand10 (field w 19 10), expand10 (field w 9 0), 4095]

/-- R, G, B of a 36-bit colour (R214). -/
def colour36 (w : Nat) : List Nat := [field w 35 24, field w 23 12, field w 11 0]

/-- One component blended (R193): mode, source, alpha of the pixel, global alpha and what lies below; key colour and tolerance are
judged over all components before. The second part says whether a clamp acted. -/
def blendComponent (mode s a g d : Nat) : Nat × Bool :=
  let al := mul12 a g
  if mode = 0 then (s, false)
  else if mode = 1 then (mul12 s al + mul12 d (4095 - al), false)
  else if mode = 2 then
    let v := mul12 s g + mul12 d (4095 - al)
    (clampNat 4095 v, decide (4095 < v))
  else if mode = 3 then
    let v := d + mul12 s al
    (clampNat 4095 v, decide (4095 < v))
  else (mul12 s g + mul12 d (4095 - g), false)

/-- Whether a pixel is keyed out (R193, mode 4). -/
def keyedOut (s key : List Nat) (tol : Nat) : Bool :=
  (s.zip key).all fun p => decide (p.1 ≤ p.2 + tol ∧ p.2 ≤ p.1 + tol)

/-- A pixel as it is composed: R, G, B, the top contributing layer (15 for none), Finial applied, a clamp acted (R193, R212). -/
structure Composed where
  rgb : List Nat
  top : Nat
  finial : Bool
  clamped : Bool
  deriving DecidableEq, Repr

/-- One layer over a pixel (R193). -/
def blendLayer (layer : Nat) (c : LayerConfig) (px : List Nat) (d : Composed) : Composed :=
  let s := px.take 3
  if c.blend = 4 && keyedOut s (colour36 c.key) c.keyTol then d
  else
    let a := nth px 3 4095
    let g := expand8 c.alpha
    let r := (s.zip d.rgb).map fun p => blendComponent c.blend p.1 a g p.2
    { rgb := r.map (·.1), top := layer, finial := d.finial, clamped := d.clamped || r.any (·.2) }

/-- A Finial region over a pixel: blanked, or its content by straight alpha (R208). -/
def blendFinial (u : FinialUse) (fail : Nat) (px : Option (List Nat)) (d : Composed) : Composed :=
  if u.blanked then { d with rgb := colour36 fail, top := 8, finial := true }
  else match px with
    | none => d
    | some p =>
      let a := nth p 3 4095
      { d with
        rgb := (p.zip d.rgb).map fun q => mul12 q.1 a + mul12 q.2 (4095 - a)
        top := 8
        finial := true }

/-- The word of the output copy (R212). -/
def copyWord (compact : Bool) (epoch : Nat) (c : Composed) : Nat :=
  let v := fun i => nth c.rgb i 0
  if compact then
    b2n c.finial * 2 ^ 31 + store10 (v 0) * 2 ^ 20 + store10 (v 1) * 2 ^ 10 + store10 (v 2)
  else
    v 0 * 2 ^ 52 + v 1 * 2 ^ 40 + v 2 * 2 ^ 28 + c.top * 2 ^ 24 + b2n c.finial * 2 ^ 23 + b2n c.clamped * 2 ^ 22 + epoch

/-- R, G, B in 12 bits as scan-out reads them from a copy word (R271). -/
def copyRgb (compact : Bool) (w : Nat) : List Nat :=
  if compact then [expand10 (field w 29 20), expand10 (field w 19 10), expand10 (field w 9 0)]
  else [field w 63 52, field w 51 40, field w 39 28]

/-! Calibration -/

/-- The identity table of R232. -/
def identityLut (c : Nat) : Nat := (c * 65535 + 2047) / 4095

/-- A composed component through the linearising table (R217). An empty table stands for the identity. -/
def linear (table : List Nat) (c : Nat) : Nat := if table.isEmpty then identityLut c else nth table c 0

/-- The inputs of the matrix: three, and the least of them for an RGBW pixel (R217). -/
def linearInputs (table : List Nat) (rgbw : Bool) (rgb : List Nat) : List Nat :=
  let l := rgb.map (linear table)
  if rgbw then l ++ [minOf 0 l] else l

/-- One emitter drive before its clamp (R218). -/
def emitterAcc (row : List Int) (lin : List Nat) : Int :=
  ((row.zip lin).foldl (fun (a : Int) p => a + p.1 * (p.2 : Int)) 0 + 4096) / 8192

/-- The emitter drives of a pixel, and whether one was clamped (R218). The matrix is row-major. -/
def emitterDrives (matrix : List Int) (lin : List Nat) : List Nat × Bool :=
  let n := lin.length
  let acc := (List.range n).map fun j => emitterAcc (slice matrix (j * n) n) lin
  (acc.map fun v => (clampInt 0 65535 v).toNat, acc.any fun v => decide (v < 0 ∨ 65535 < v))

/-- The emitter positions of a pixel: primary, spare A, spare B, with the drives in the selected set (R219). The order of the
emitters of a set is that of the map run (R248). -/
def remap (drives : List Nat) (spares selector : Nat) : List Nat :=
  ((List.range (spares + 1)).map fun set => if set = selector then drives else drives.map fun _ => 0).flatten

/-- The blend weight of R222. -/
def blendWeight (theta a b : Int) : Int := (2 * 65536 * (theta - a) + (b - a)) / (2 * (b - a))

/-- A live coefficient of R222: the three set temperatures, the three coefficients and the zone's temperature. -/
def liveCoefficient (theta t1 t2 t3 m1 m2 m3 : Int) : Int :=
  if theta ≤ t1 then m1
  else if t3 ≤ theta then m3
  else
    let (a, b, ma, mb) := if theta < t2 then (t1, t2, m1, m2) else (t2, t3, m2, m3)
    clampInt (-32768) 32767 (ma + ((mb - ma) * blendWeight theta a b + 32768) / 65536)

/-! Dithering -/

/-- The matrix of R269. -/
def ditherMatrix : List Nat := [0, 8, 2, 10, 12, 4, 14, 6, 3, 11, 1, 9, 15, 7, 13, 5]

/-- A 16-bit drive at d bits (R269): mode, grid index, feeds, canvas pixel. -/
def dither (mode index feeds x y d e : Nat) : Nat :=
  let s := 16 - d
  if s = 0 then e
  else
    let v := if mode = 0 then 2 ^ (s - 1)
      else
        let n := if mode = 2 then (index / feeds) % 16 else 0
        let i := (nth ditherMatrix (4 * (y % 4) + x % 4) 0 + 5 * n) % 16
        (2 * i + 1) * 2 ^ s / 32
    clampNat (2 ^ d - 1) ((e + v) / 2 ^ s)

/-! Bricks and runs -/

/-- Bricks across a canvas (R151). -/
def bricksAcross (canvasW : Nat) : Nat := (canvasW + 63) / 64

/-- Bricks of a canvas. -/
def brickCount (canvasW canvasH : Nat) : Nat := bricksAcross canvasW * ((canvasH + 31) / 32)

/-- The canvas rectangle of a brick, cut to the canvas (R151). -/
def brickRect (canvasW canvasH b : Nat) : Rect :=
  let x := 64 * (b % bricksAcross canvasW)
  let y := 32 * (b / bricksAcross canvasW)
  ⟨x, y, min 64 (canvasW - x), min 32 (canvasH - y)⟩

/-- The brick of a canvas pixel. -/
def brickOf (canvasW x y : Nat) : Nat := y / 32 * bricksAcross canvasW + x / 64

end Sys2Proof.Machine

namespace Sys2Proof

/-- What two rectangles have in common. -/
def Rect.meet (a b : Rect) : Rect :=
  let x := max a.x b.x
  let y := max a.y b.y
  ⟨x, y, min (a.x + a.w) (b.x + b.w) - x, min (a.y + a.h) (b.y + b.h) - y⟩

/-- Pixels of a rectangle. -/
def Rect.area (r : Rect) : Nat := r.w * r.h

/-- Whether a pixel lies in a rectangle. -/
def Rect.has (r : Rect) (x y : Nat) : Bool := decide (r.x ≤ x ∧ x < r.x + r.w ∧ r.y ≤ y ∧ y < r.y + r.h)

/-- Whether a rectangle lies inside another. -/
def Rect.inside (a b : Rect) : Bool :=
  decide (b.x ≤ a.x ∧ b.y ≤ a.y ∧ a.x + a.w ≤ b.x + b.w ∧ a.y + a.h ≤ b.y + b.h)

/-- The pixels of a rectangle in row order. -/
def Rect.pixels (r : Rect) : List (Nat × Nat) :=
  ((List.range r.h).map fun j => (List.range r.w).map fun i => (r.x + i, r.y + j)).flatten

end Sys2Proof

namespace Sys2Proof.Machine

/-- Fields of a run record (R247). -/
def runX (w : Nat) : Nat := field w 63 52
/-- Canvas row of the first pixel. -/
def runY (w : Nat) : Nat := field w 51 40
/-- Pixels of the run. -/
def runLen (w : Nat) : Nat := field w 39 28 + 1
/-- Direction. -/
def runDir (w : Nat) : Nat := field w 27 26
/-- Module address, 1 to 32. -/
def runModule (w : Nat) : Nat := field w 25 21 + 1
/-- Emitter order. -/
def runOrder (w : Nat) : Nat := field w 20 17
/-- Whether the run is RGBW. -/
def runRgbw (w : Nat) : Bool := bitOf w 16
/-- Spare sets. -/
def runSpares (w : Nat) : Nat := field w 15 14

/-- The canvas pixels of a run as whole numbers, which may leave the coordinate space (R247, R249). -/
def runPixels (w : Nat) : List (Int × Int) :=
  (List.range (runLen w)).map fun (i : Nat) =>
    let x : Int := runX w
    let y : Int := runY w
    if runDir w = 0 then (x + (i : Int), y) else if runDir w = 1 then (x - (i : Int), y)
    else if runDir w = 2 then (x, y + (i : Int)) else (x, y - (i : Int))

/-- The component of each emitter of a set, R 0, G 1, B 2, W 3, in the order of R248; none for a refused code. -/
def emitterOrder (order : Nat) : Option (List Nat) :=
  nth [some [0, 1, 2], some [0, 2, 1], some [1, 0, 2], some [1, 2, 0], some [2, 0, 1], some [2, 1, 0],
    some [0, 1, 2, 3], some [3, 0, 1, 2], some [1, 0, 2, 3], some [2, 1, 0, 3]] order none

/-- Emitter positions of each pixel of a run (R248). -/
def runPositions (w : Nat) : Nat := (1 + runSpares w) * (3 + b2n (runRgbw w))

/-- A mapped pixel: canvas place, link, module, its number in the module, its run record, and the position of its first emitter
in the module's link words (R247, R248, R283). -/
structure MappedPixel where
  x : Nat
  y : Nat
  link : Nat
  module : Nat
  number : Nat
  run : Nat
  word : Nat
  deriving DecidableEq, Repr

/-- The mapped pixels of one link in table order: numbers and word positions count on within a module. -/
def linkPixels (link : Nat) (runs : List Nat) : List MappedPixel :=
  (runs.foldl (fun (acc : List MappedPixel × Nat × Nat × Nat) w =>
    let (out, m, number, word) := acc
    let (number, word) := if runModule w = m then (number, word) else (0, 0)
    let px := (runPixels w).zipIdx.map fun (p, i) =>
      ({ x := p.1.toNat, y := p.2.toNat, link := link, module := runModule w, number := number + i, run := w,
         word := word + i * runPositions w } : MappedPixel)
    (out ++ px, runModule w, number + runLen w, word + runLen w * runPositions w)) ([], 0, 0, 0)).1

/-- The mapped pixels of a map that lie in a brick, by link and in table order. -/
def brickPixels (map : List (List Nat)) (canvasW brick : Nat) : List MappedPixel :=
  (map.zipIdx.map fun (runs, link) => (linkPixels link runs).filter fun p => brickOf canvasW p.x p.y == brick).flatten

/-- Lamp map record fields (R270). -/
def lampX (w : Nat) : Nat := field w 63 52
/-- Canvas row. -/
def lampY (w : Nat) : Nat := field w 51 40
/-- First channel. -/
def lampChannel (w : Nat) : Nat := field w 39 31
/-- Channels. -/
def lampCount (w : Nat) : Nat := field w 30 29 + 1
/-- Component order. -/
def lampOrder (w : Nat) : Nat := field w 28 25
/-- Record in use. -/
def lampEnabled (w : Nat) : Bool := bitOf w 24

end Sys2Proof.Machine
end

