-- ==== Sys2Proof/Machine/Epochs.lean ====
section
/-! DEFINITION. Epochs in flight: the grid of presentation instants (R258 to R263), the decision trace (R177, R178), operation slots,
queues and engines (R153 to R165), cancel and completion (R158, R174), squash and REVOKE (R27 to R31, R172, R297). -/

namespace Sys2Proof.Machine

/-- Ingest changed. -/
def State.modIngest (s : State) (f : Ingest → Ingest) : State := { s with ingest := f s.ingest }
/-- Belfry changed. -/
def State.modBelfry (s : State) (f : Belfry → Belfry) : State := { s with belfry := f s.belfry }
/-- Cupola changed. -/
def State.modCupola (s : State) (f : Cupola → Cupola) : State := { s with cupola := f s.cupola }
/-- Scan-out changed. -/
def State.modScan (s : State) (f : Scan → Scan) : State := { s with scan := f s.scan }
/-- Calibration changed. -/
def State.modCal (s : State) (f : Cal → Cal) : State := { s with cal := f s.cal }
/-- A link changed. -/
def State.modLink (s : State) (k : Nat) (f : SpireLink → SpireLink) : State := { s with spire := modNth s.spire k f }
/-- A link. -/
def State.link (s : State) (k : Nat) : SpireLink := nth s.spire k SpireLink.reset
/-- An epoch in flight. -/
def State.epochOf (s : State) (e : Nat) : Option Epoch := s.epochs.find? fun x => x.epoch == e
/-- An epoch in flight changed. -/
def State.modEpoch (s : State) (e : Nat) (f : Epoch → Epoch) : State :=
  { s with epochs := s.epochs.map fun x => if x.epoch = e then f x else x }
/-- An engine changed. -/
def State.modEngine (s : State) (k : Nat) (f : Engine → Engine) : State :=
  s.modBelfry fun b => { b with engines := modNth b.engines k f }

/-! The grid -/

/-- Frame rates of R259 as a / b in lowest terms. -/
def frameRates : List (Nat × Nat) := [
  (24000, 1001), (24, 1), (25, 1), (30000, 1001), (30, 1), (48, 1), (50, 1), (60000, 1001), (60, 1), (72, 1), (90, 1), (96, 1),
  (100, 1), (120000, 1001), (120, 1), (144, 1), (192, 1), (200, 1), (240000, 1001), (240, 1), (300, 1), (360, 1), (400, 1),
  (480, 1)]

/-- b × 10^9 × 2^32 of R260. -/
def gridNum (rate : Nat) : Nat := (nth frameRates rate (60, 1)).2 * 10 ^ 9 * 2 ^ 32

/-- a × F of R260. -/
def gridDen (rate feeds : Nat) : Nat := (nth frameRates rate (60, 1)).1 * feeds

/-- The offset of grid index k from the grid's reference, 2^-32 ns, exact in integers (R260). -/
def gridOffset (rate feeds k : Nat) : Nat := k * gridNum rate / gridDen rate feeds

/-- The period P in 2^-32 ns, truncated (R258). -/
def periodOf (rate feeds : Nat) : Nat := gridNum rate / gridDen rate feeds

/-- P of the mode in force. -/
def State.period (s : State) : Nat := periodOf (s.reg .SCN_RATE_OPER) (s.reg .SCN_FEEDS_OPER)

/-- T_p of a grid index (R260). -/
def State.gridAt (s : State) (k : Nat) : Nat := s.scan.gridRef + gridOffset (s.reg .SCN_RATE_OPER) (s.reg .SCN_FEEDS_OPER) k

/-- The first grid index whose instant is at or after a time. -/
def State.gridFirst (s : State) (t : Nat) : Nat :=
  if t ≤ s.scan.gridRef then 0
  else
    let n := gridNum (s.reg .SCN_RATE_OPER)
    ((t - s.scan.gridRef) * gridDen (s.reg .SCN_RATE_OPER) (s.reg .SCN_FEEDS_OPER) + n - 1) / n

/-- Nanoseconds in units of 2^-32 ns. -/
def nsUnits (ns : Nat) : Nat := ns * 2 ^ 32

/-- 20 us: the commit lead of R25. -/
def commitLead : Nat := nsUnits 20000

/-- T_c of an epoch (R25). -/
def Epoch.tc (e : Epoch) : Nat := e.tp - commitLead

/-- 2,621.44 ns: the lead of the strike reference, 4,096 UI (R107, R108). -/
def strikeLead : Nat := 262144 * 2 ^ 32 / 100

/-- Whether a presentation time in ns binds to an epoch: T_p − P/2 < T ≤ T_p + P/2 (R133). -/
def Epoch.binds (e : Epoch) (t : Nat) : Bool :=
  decide (2 * e.tp < 2 * nsUnits t + e.period ∧ 2 * nsUnits t ≤ 2 * e.tp + e.period)

/-- Whether an epoch's strike is undecided (R25). -/
def Epoch.uncommitted (e : Epoch) : Bool :=
  match e.stage with
  | .live | .squashing _ | .awaiting => true
  | _ => false

/-- The oldest uncommitted epoch (R163). -/
def State.oldest (s : State) : Option Epoch := s.epochs.find? Epoch.uncommitted

/-! The decision trace -/

/-- Records the trace ring holds (R177). -/
def State.traceCapacity (s : State) : Nat := s.reg .BEL_TRACE_SIZE / 16

/-- A record written into the ring: the oldest leaves when it is full, and the mark is lost when its record is overwritten
(R177, R180). -/
def State.traceStore (s : State) (r : TraceRecord) : State :=
  let seq := s.reg .BEL_TRACE_WRITE_SEQ
  let s1 := s.modBelfry fun b =>
    let ring := b.trace ++ [{ r with seq := seq }]
    { b with trace := ring.drop (ring.length - s.traceCapacity), traceQueue := b.traceQueue + 1 }
  let s2 := (s1.setReg .BEL_TRACE_WRITE_SEQ (seq + 1)).count .BELCNT_TRACE_RECORDS
  let mark := s2.reg .BEL_TRACE_MARK
  let behind := (seq + 1 + 2 ^ 32 - s2.reg .BEL_TRACE_READ_POS) % 2 ^ 32
  let s2 := if s2.traceCapacity ≤ behind ∧ behind < 2 ^ 31 then s2.setBit .BEL_TRACE_FLAGS 1 true else s2
  if bitOf (s2.reg .BEL_TRACE_FLAGS) 2 ∧ s2.traceCapacity ≤ (seq + 1 + 2 ^ 32 - mark) % 2 ^ 32 then
    ((s2.setBit .BEL_TRACE_FLAGS 2 false).setBit .BEL_TRACE_FLAGS 0 true).post 0x5007 2 mark
  else s2

/-- A scheduling decision traced, or lost when the on-chip queue is full (R177, R178). -/
def State.trace (s : State) (r : TraceRecord) : State :=
  if s.reg .BEL_TRACE_ENABLE = 0 ∨ bitOf (s.reg .BEL_TRACE_FILTER) r.decision = false then s
  else if 128 ≤ s.belfry.traceQueue then
    (s.modBelfry fun b => { b with traceLost := b.traceLost + 1 }).count .BELCNT_TRACE_LOST
  else s.traceStore { r with time := s.now % 2 ^ 40 }

/-- A record about an operation. -/
def BelOp.record (o : BelOp) (decision reason prio engine arg : Nat) : TraceRecord :=
  { seq := 0, time := 0, decision := decision, reason := reason, epoch := if o.code < 7 then o.epoch else 0, prio := prio
    lamp := o.code == 7, engine := engine, op := o.code, slot := o.slot, brick := if o.code < 7 then o.brick else 0
    aux := o.aux, arg := arg % 2 ^ 19 }

/-- A record about an epoch, a list or an engine. -/
def plainRecord (decision reason epoch engine aux arg : Nat) : TraceRecord :=
  { seq := 0, time := 0, decision := decision, reason := reason, epoch := epoch, prio := 0, lamp := false, engine := engine
    op := 0, slot := 0, brick := 0, aux := aux, arg := clampNat (2 ^ 19 - 1) arg }

/-! Slots and queues -/

/-- Slots in all (R158). -/
def slotCount : Nat := 32768

/-- Operations ready in a priority. -/
def Belfry.ready (b : Belfry) (p : Nat) : List BelOp :=
  b.slots.filter fun o => match o.stage with
    | .ready q _ _ => q == p
    | _ => false

/-- BEL_SLOTS_FREE, BEL_Q_DEPTH and BEL_Q_DEPTH_MAX follow the slots (R183, R184). -/
def State.showQueues (s : State) : State :=
  let s1 := s.setReg .BEL_SLOTS_FREE (clampNat 32767 (slotCount - s.belfry.slots.length))
  (List.range 8).foldl (fun s p =>
    let d := (s.belfry.ready p).length
    let s2 := s.setReg (.BEL_Q_DEPTH (p + 1)) d
    if s2.reg (.BEL_Q_DEPTH_MAX (p + 1)) < d then s2.setReg (.BEL_Q_DEPTH_MAX (p + 1)) d else s2) s1

/-- The lowest free slot. -/
def freeSlot : Nat → List BelOp → Nat
  | k, [] => k
  | k, o :: os => if o.slot = k then freeSlot (k + 1) os else k

/-- An operation put into the slots in slot order. -/
def insertSlot (o : BelOp) : List BelOp → List BelOp
  | [] => [o]
  | p :: ps => if o.slot < p.slot then o :: p :: ps else p :: insertSlot o ps

/-- The priority of an operation (R163). -/
def State.opPriority (s : State) (o : BelOp) : Nat :=
  if o.code = 7 then 7
  else if o.code = 8 then 2
  else if o.code = 9 then 1
  else if o.code = 10 then 0
  else match s.epochOf o.epoch with
    | none => 3
    | some e =>
      if e.replacement then 6
      else if (s.oldest.map Epoch.epoch) = some o.epoch then (if e.urgent then 5 else 4)
      else 3

/-- An operation in its slot changed. -/
def State.modOp (s : State) (slot : Nat) (f : BelOp → BelOp) : State :=
  s.modBelfry fun b => { b with slots := b.slots.map fun o => if o.slot = slot then f o else o }

/-- An operation becomes ready in its queue (R158, R163). -/
def State.makeReady (s : State) (o : BelOp) : State :=
  let p := s.opPriority o
  let s1 := s.modOp o.slot fun o => { o with unmet := 0, stage := .ready p s.ticks s.belfry.readyOrder }
  let s2 := s1.modBelfry fun b => { b with readyOrder := b.readyOrder + 1 }
  s2.trace (o.record 1 0 p 0 (s2.belfry.ready p).length)

/-- The codes of the operations that wait for an operation of a code (R153). -/
def successorCode (code : Nat) : Nat := if code ≤ 1 then 2 else code + 1

/-- The successors of a pixel operation, one dependency fewer each; those left with none become ready (R158). -/
def State.releaseSuccessors (s : State) (o : BelOp) : State :=
  if 6 ≤ o.code then s
  else
    (s.belfry.slots.filter fun q => q.epoch == o.epoch && q.brick == o.brick && q.code == successorCode o.code).foldl
      (fun s q => if q.unmet ≤ 1 then s.makeReady q else s.modOp q.slot fun q => { q with unmet := q.unmet - 1 }) s

/-- An operation leaves its slot; work bound to its engine and not dispatched shrinks (R158, R160). -/
def State.freeOp (s : State) (o : BelOp) : State :=
  let s1 := s.modBelfry fun b => { b with slots := b.slots.filter fun q => q.slot != o.slot }
  match o.stage, o.engine with
  | .running _ _, _ => s1
  | _, some k => s1.modEngine k fun g => { g with boundClocks := g.boundClocks - o.clocks }
  | _, none => s1

/-- A brick of an epoch with no operation left: its context is free, and the epoch is complete once all its bricks are (R154,
R160). -/
def State.brickEnd (s : State) (epoch brick : Nat) : State :=
  if s.belfry.slots.any fun q => q.code < 7 && q.epoch == epoch && q.brick == brick then s
  else
    let s1 := s.modBelfry fun b => { b with
      engines := b.engines.map fun g => { g with
        contexts := g.contexts.filter fun c => !(c.epoch == epoch && c.brick == brick) } }
    s1.modEpoch epoch fun e =>
      let done := brick :: e.bricksDone
      { e with
        bricksDone := done
        completedAt := if done.length = brickCount e.config.canvasW e.config.canvasH then some s.time96 else e.completedAt }

/-- An operation cancelled: it leaves as if it had completed with no output (R174, R175). -/
def State.cancelOp (s : State) (o : BelOp) (reason : Nat) : State :=
  match o.stage with
  | .running _ _ => s
  | _ =>
    let why := match o.stage with
      | .ready _ since _ => if since = s.ticks then 1 else reason
      | _ => reason
    let s1 := ((s.freeOp o).count .BELCNT_OPS_CANCELLED).trace (o.record 4 why (s.opPriority o) 0 0)
    let s2 := s1.releaseSuccessors o
    if o.code < 7 then s2.brickEnd o.epoch o.brick else s2

/-- Queued operations whose priority has changed move behind those waiting in their new queue, in their ready order (R164). -/
def State.reprioritise (s : State) : State :=
  let queued := s.belfry.slots.filterMap fun o => match o.stage with
    | .ready p since order => if p = s.opPriority o then none else some (order, since, o)
    | _ => none
  let sorted := sortBy (fun a b => Nat.ble a.1 b.1) queued
  sorted.foldl (fun s q =>
    let p := s.opPriority q.2.2
    let s1 := s.modOp q.2.2.slot fun o => { o with stage := .ready p q.2.1 s.belfry.readyOrder }
    (s1.modBelfry fun b => { b with readyOrder := b.readyOrder + 1 }).trace (q.2.2.record 11 0 p 0 0)) s

/-! Control blocks and REVOKE -/

/-- A control block: TYPE, fields 1 to 6 and the CRC-8 (R277). -/
def controlBlock (type : Nat) (fields : List Nat) : List Octet :=
  let body := (type :: (fields ++ List.replicate (6 - fields.length) 0)).map (BitVec.ofNat 8 ·)
  body ++ [BitVec.ofNat 8 (crcOf crc8 body)]

/-- A control block sent on a link. -/
def State.sendBlock (s : State) (link type : Nat) (fields : List Nat) : State := s.emit (.block link (controlBlock type fields))

/-- CLAIM as a link sends it (R298). -/
def State.claim (s : State) : Nat := s.reg .SPL_CLAIM_SENT

/-- The generation in force for an epoch on a link (R297). -/
def SpireLink.gen (l : SpireLink) (e : Nat) : Nat := ((l.gens.find? fun p => p.1 == e).map (·.2)).getD 0

/-- Clocks of 781.25 MHz a frame of n data blocks takes: 33 to each block of 66 UI, with SOF and EOF (R275, R280). -/
def frameClocks (blocks : Nat) : Nat := 33 * (blocks + 2)

/-- An epoch undone on a link: ABORT of a frame in progress, no further segment, one REVOKE, and the next generation (R297). -/
def State.revokeLink (s : State) (e k : Nat) : State :=
  let l := s.link k
  match l.epochs.find? fun x => x.epoch == e with
  | none => s
  | some le =>
    let g := l.gen e
    let busy := l.waiting.any fun f => f.kind == 0 && f.number == e && s.ticks < f.sentAt + frameClocks f.blocks
    let s1 := if busy then (s.sendBlock k 0x22 []).count (.SPLCNT_FRAMES_ABORTED k) else s
    let s2 := s1.modLink k fun l => { l with
      epochs := l.epochs.filter fun x => x.epoch != e
      waiting := l.waiting.filter fun f => !(f.kind == 0 && f.number == e) }
    if le.sent then
      ((s2.sendBlock k 0x31 [0, s.claim, e % 256, e / 256, g, 0]).count (.SPLCNT_REVOKES k)).modLink k fun l =>
        { l with gens := (e, (g + 1) % 16) :: l.gens.filter fun p => p.1 != e }
    else s2

/-- REVOKE on every link that received any part of an epoch (R28). -/
def State.revoke (s : State) (e : Nat) : State := (List.range 64).foldl (fun s k => s.revokeLink e k) s

/-! Squash -/

/-- An engine stops its operation at the next boundary of 64 engine clocks, 128 clocks of 781.25 MHz (R171, R172). -/
def State.stopEngine (s : State) (k epoch since : Nat) : State :=
  s.modEngine k fun g => { g with stopping := some (epoch, since + ((s.ticks - since) / 128 + 1) * 128) }

/-- The slots of an epoch freed and its contexts released; engines that run it stop at their next boundary (R172). -/
def State.sweep (s : State) (e : Nat) (reason : Nat) : State :=
  let mine := s.belfry.slots.filter fun o => o.code < 7 && o.epoch == e
  let s1 := mine.foldl (fun s o => match o.stage with
    | .running k since => ((s.freeOp o).stopEngine k e since).trace (o.record 6 reason 0 k 0)
    | _ => s.freeOp o) s
  (s1.modBelfry fun b => { b with
    engines := b.engines.map fun g => { g with contexts := g.contexts.filter fun c => c.epoch != e } })

/-- A squash latched (R172): the epoch leaves the live set, its slots are swept, REVOKE goes out, and a replacement may follow the
barrier. A trigger during a squash merges into it (R31). -/
def State.squash (s : State) (e : Nat) (replace : Bool) : State :=
  match s.epochOf e with
  | none => s
  | some x =>
    match x.stage with
    | .live =>
      let n := (s.belfry.slots.filter fun o => o.code < 7 && o.epoch == e).length
      let s1 := (s.modBelfry fun b => { b with live := b.live.filter (· != e) }).sweep e 1
      let s2 := ((s1.count .BELCNT_OPS_SQUASHED n).count .BELCNT_SQUASHES).trace (plainRecord 5 0 e 0 0 n)
      let s3 := s2.modEpoch e fun x => { x with stage := .squashing replace, bricksDone := [], completedAt := none }
      let s4 := (s3.revoke e).showQueues
      { s4 with twin := { s4.twin with linkRecords := s4.twin.linkRecords.filter fun r => r.epoch != e } }
    | .squashing r => s.modEpoch e fun x => { x with stage := .squashing (r && replace) }
    | .awaiting => if replace then s else s.modEpoch e fun x => { x with stage := .squashing false }
    | _ => s

end Sys2Proof.Machine
end

