-- ==== Sys2Proof/Machine/Freeze.lean ====
section
/-! DEFINITION. Suspension of the freeze judgement (R359). -/

namespace Sys2Proof.Machine

/-- Oculus changed. -/
def State.modOcu (s : State) (f : Ocu → Ocu) : State := { s with ocu := f s.ocu }

/-- Oculus for a link. -/
def State.ocuLink (s : State) (k : Nat) : OcuLink := nth s.ocu.links k ⟨[], false, none⟩

/-- Oculus for a link changed. -/
def State.modOcuLink (s : State) (k : Nat) (f : OcuLink → OcuLink) : State :=
  s.modOcu fun o => { o with links := modNth o.links k f }

/-- OCU_STATE and OCU_SUSPENDED follow the suspensions (R362). -/
def State.showOculus (s : State) : State :=
  let s1 := s.setReg .OCU_STATE (if s.flag .OCU_ENABLE then (if s.ocu.all.isSome then 2 else 1) else 0)
  (List.range 64).foldl (fun t k =>
    t.setReg (.OCU_SUSPENDED k) (b2n (s.ocu.all.isSome || (s.ocuLink k).wait.isSome))) s1

/-- Judgement of all links suspended, or its suspension started again (R359): every run count is 0, and three struck epochs from the
given one on must come. Only the start of a suspension posts event 0xA004 (log entry 31). -/
def State.suspendAll (s : State) (cause : Nat) (start : Option Nat) : State :=
  let s1 := (List.range 64).foldl (fun t k => t.setReg (.OCU_FREEZE_RUN k) 0) s
  let s2 := (s1.modOcu fun o => { o with all := some ⟨3, start, cause⟩ }).showOculus
  if s.ocu.all.isSome then s2 else (s2.count .OCUCNT_SUSPENSIONS).post 0xA004 2 cause

/-- Judgement of one link suspended at its training (R359). -/
def State.suspendLink (s : State) (k : Nat) : State :=
  let s1 := ((s.setReg (.OCU_FREEZE_RUN k) 0).modOcuLink k fun o => { o with wait := some 3 }).showOculus
  if (s.ocuLink k).wait.isSome then s1 else (s1.count .OCUCNT_SUSPENSIONS).post 0xA004 2 (2 + k * 4)

end Sys2Proof.Machine
end

