-- ==== Sys2Proof/Machine/TwinOps.lean ====
section
/-! DEFINITION. What the blocks of a unit tell its partner (R439 to R458): claims and the health deduction, mirror messages, records of links, and
pushes. -/

namespace Sys2Proof.Machine

/-- Twin operation changed. -/
def State.modTwin (s : State) (f : Twin → Twin) : State := { s with twin := f s.twin }

/-- Whether the unit is one of an admitted pair: Joining, Standby, Active or Observer (R439). -/
def State.inPair (s : State) : Bool := Nat.ble 3 (s.reg .TWN_STATE)

/-- Whether the mirror link is up (R437). -/
def State.mirrorUp (s : State) : Bool := s.reg .TWN_MIR_STATE == 2

/-! Claims -/

/-- Sinks of tied rail groups disabled under R239. -/
def State.tiedSinkDisabled (s : State) : Bool :=
  (List.range 512).any fun c => s.flag (.LAN_RAIL_TIED (c / 32)) && s.reg (.CAL_SINK_TRIM c 3) == 1

/-- D (R440). -/
def State.deduction (s : State) : Nat :=
  let links := (List.range 64).filter fun k => !(nth s.scan.mapOper k []).isEmpty && s.reg (.SPL_STATE k) != 5
  let frozen := (List.range 64).filter fun k => s.flag (.OCU_FROZEN k)
  let engines := s.belfry.engines.filter fun g => !g.active
  clampNat 255 (8 * links.length + 8 * frozen.length + 4 * engines.length + (if s.timeValid then 0 else 64) +
    (if s.reg .SCN_STATE = 3 then 128 else 0) + (if s.reg .CUP_FIN_STATE = 3 ∧ s.reg .CUP_FIN_ENABLE ≠ 0 then 32 else 0) +
    (if s.reg .LAN_STATE = 3 ∨ s.tiedSinkDisabled then 16 else 0))

/-- The claim in force of a state (R439). -/
def claimOf (state active standby d : Nat) : Nat :=
  if state = 0 ∨ state = 2 ∨ state = 5 then max 128 (active - d)
  else if state = 1 then 0
  else if state = 4 then max 2 (standby - d)
  else 1

/-- The claim in force follows the state and TWN_DEDUCTION, in one clock on every output (R439, R443). -/
def State.claimFollows (s : State) : State :=
  let c := claimOf (s.reg .TWN_STATE) (s.reg .TWN_CLAIM_ACTIVE) (s.reg .TWN_CLAIM_STANDBY) (s.reg .TWN_DEDUCTION)
  (s.setReg .TWN_CLAIM c).setReg .SPL_CLAIM_SENT c

/-- D evaluated, as at every strike and every merge instant, with the claim that follows it (R440). -/
def State.refreshClaim (s : State) : State := (s.setReg .TWN_DEDUCTION s.deduction).claimFollows

/-- Writes of firmware and of the signal map to module registers are permitted (R443). -/
def State.mayWriteModules (s : State) : Bool := Nat.ble 128 (s.reg .TWN_CLAIM)

/-! Messages -/

/-- Whether messages of a TYPE are acknowledged (R446). -/
def mirrorAcked (kind : Nat) : Bool := kind != 0x01 && kind != 0x02

/-- The MSEQ after another: from 1, 0 is for heartbeats (R445). -/
def nextMseq (n : Nat) : Nat := if n + 1 < 2 ^ 32 then n + 1 else 1

/-- A message sent while the mirror link is up; an acknowledged one takes the next MSEQ and waits for its ACK (R445, R447). -/
def State.sendMirror (s : State) (kind : Nat) (payload : List Octet) : State :=
  if s.mirrorUp = false then s
  else if mirrorAcked kind then
    let n := s.twin.txSeq
    (s.modTwin fun t => { t with txSeq := nextMseq n, sent := t.sent ++ [⟨kind, n, payload, s.ticks, 0⟩] }).emit (.mirror kind n payload)
  else s.emit (.mirror kind 0 payload)

/-! Records of links -/

/-- The output signature of a link in an epoch: its modules and segments in ascending order (R353). -/
def LinkEpoch.signature (x : LinkEpoch) : Nat :=
  crcOf crc32c ((sortBy (fun a b => Nat.ble (a.1 * 65536 + a.2.1) (b.1 * 65536 + b.2.1)) x.payload).map fun p => p.2.2).flatten

/-- Whether an epoch's records of a link are equal (R454). -/
def LinkRecord.equal (r : LinkRecord) : Bool := r.own.isSome && r.own == r.partner

/-- The links with runs in an epoch. -/
def Epoch.runLinks (e : Epoch) : List Nat := (List.range 64).filter fun k => !(nth e.config.map k []).isEmpty

/-- Whether the unit is in step on every link with runs of an epoch (R454). -/
def State.inStep (s : State) (epoch : Nat) : Bool :=
  match s.epochOf epoch with
  | none => false
  | some e =>
    !e.runLinks.isEmpty && e.runLinks.all fun k => s.twin.linkRecords.any fun r => r.epoch == epoch && r.link == k && r.equal

/-- A record of a link changed; an epoch that comes into step counts (R454, R462). -/
def State.recordLink (s : State) (epoch link : Nat) (f : LinkRecord → LinkRecord) : State :=
  let here := fun (r : LinkRecord) => r.epoch == epoch && r.link == link
  let r := f ((s.twin.linkRecords.find? here).getD ⟨epoch, link, none, none⟩)
  let s1 := s.modTwin fun t => { t with linkRecords := r :: t.linkRecords.filter fun x => !here x }
  if s.inStep epoch = false ∧ s1.inStep epoch then (s1.count .TWNCNT_INSTEP_EPOCHS).setReg .TWN_INSTEP_EPOCH epoch else s1

/-- A link's shadow of an epoch has been acknowledged: its LINK_SIG goes to the partner (R454). -/
def State.linkSig (s : State) (epoch link sig : Nat) : State :=
  if s.inPair ∧ s.mirrorUp then
    (s.sendMirror 0x20 (leOctets 2 epoch ++ leOctets 1 link ++ leOctets 4 sig)).recordLink epoch link fun r => { r with own := some sig }
  else s

/-! Records of presented epochs -/

/-- Whether comparison is suspended (R455): the mirror link is down, the unit is Joining and has not reached E_s + 3, or Oculus suspends. -/
def State.compareOff (s : State) (epoch : Nat) : Bool :=
  !s.mirrorUp || s.ocu.all.isSome ||
    (s.reg .TWN_STATE == 3 && (match s.twin.compareFrom with
      | some f => Nat.blt 32767 ((epoch + 65536 - f) % 65536)
      | none => true))

/-- A FRAME_SIG record changed; at most 8 epochs are kept. -/
def State.recordFrame (s : State) (epoch : Nat) (f : FrameRecord → FrameRecord) : State :=
  let r := f ((s.twin.frameRecords.find? fun x => x.epoch == epoch).getD ⟨epoch, none, none, false⟩)
  s.modTwin fun t => { t with frameRecords := (r :: t.frameRecords.filter fun x => x.epoch != epoch).take 8 }

/-! Pushes -/

/-- A push of an item for a zone or rail group (R452). -/
def State.push (s : State) (item key : Nat) (data : List Octet) : State :=
  if s.inPair ∧ s.mirrorUp then
    (s.modTwin fun t => { t with
      pushed := (item, key, s.now) :: t.pushed.filter fun p => !(p.1 == item && p.2.1 == key) }).sendMirror 0x40 (leOctets 1 item ++ leOctets 1 key ++ data)
  else s

/-- The epoch at which a zone pass that starts now swaps: the first whose presentation lies 20 ms and three periods, the epochs in flight, away
(R452; log entry 41). -/
def State.swapEpoch (s : State) : Nat :=
  let i := s.gridFirst (s.time96 + nsUnits 20000000 + 3 * s.period)
  (s.scan.nextEpoch + (i - s.scan.nextIndex)) % 65536

/-- Whether a zone whose pass was pushed may swap at an epoch (R452). -/
def State.pushAllows (s : State) (z epoch : Nat) : Bool :=
  match s.twin.zonePushes.find? fun p => p.zone == z with
  | none => true
  | some p => Nat.blt ((epoch + 65536 - p.epoch) % 65536) 32768

end Sys2Proof.Machine
end

