-- ==== Sys2Proof/Machine/Bulk.lean ====
section
/-! DEFINITION. The BULK objects by which a unit joins (R446, R457), and how they are cut into messages. The layout of an object is the model's (log
entry 42). -/

namespace Sys2Proof.Machine

/-! Octets -/

/-- A little-endian number read from octets, and what stands behind it. -/
def readLe (n : Nat) (o : List Octet) : Nat × List Octet := (ofLe (o.take n), o.drop n)

/-- Numbers of n octets each. -/
def readAll (n : Nat) (o : List Octet) : List Nat := (List.range (o.length / max 1 n)).map fun i => ofLe (slice o (i * n) n)

/-- Lists behind their counts of four octets: so many lists of numbers of n octets each. -/
def readLists (n : Nat) : Nat → List Octet → List (List Nat) × List Octet
  | 0, o => ([], o)
  | k + 1, o =>
    let len := ofLe (o.take 4) * n
    let (rest, last) := readLists n k (o.drop (4 + len))
    (readAll n (slice o 4 len) :: rest, last)

/-- A list of numbers of n octets each behind its count. -/
def writeList (n : Nat) (l : List Nat) : List Octet := leOctets 4 l.length ++ (l.map fun x => leOctets n x).flatten

/-! Messages -/

/-- Octets cut into parts of n. -/
def chunks (n : Nat) : Nat → List Octet → List (List Octet)
  | 0, _ => []
  | _ + 1, [] => []
  | k + 1, o => o.take n :: chunks n k (o.drop n)

/-- An object sent as BULK: its data in messages of at most 4,064 octets, then one without data with its CRC-32C in the place of the offset (R445,
R446; log entry 42). -/
def State.sendBulk (s : State) (object : Nat) (data : List Octet) : State :=
  let s1 := (chunks 4059 data.length data).zipIdx.foldl (fun s (d, i) =>
    s.sendMirror 0x50 (leOctets 1 object ++ leOctets 4 (i * 4059) ++ d)) s
  s1.sendMirror 0x50 (leOctets 1 object ++ leOctets 4 (crcOf crc32c data))

/-! Mirrored entries -/

/-- Whether writes of an entry are mirrored (R448). -/
def mirrored (index : Nat) : Bool :=
  (Nat.ble 0x2400 index && Nat.ble index 0x247F || Nat.ble 0x4000 index && Nat.ble index 0x87FF || Nat.ble 0x9000 index && Nat.ble index 0x9FFF ||
    Nat.ble 0xC000 index && Nat.ble index 0xC3FF) &&
  !(Nat.ble 0x5020 index && Nat.ble index 0x5028 || Nat.ble 0x6300 index && Nat.ble index 0x6302 || index == 0x7410 || index == 0x7501)

/-- Operational copies, which follow a mirrored change: layer order, timing, lamp map (R190, R246, R263). -/
def operationalCopy (index : Nat) : Bool := index == 0x6004 || index == 0x6005 || index == 0x8011 || index == 0x8144

/-- The elements of the image of every mirrored entry: those that are written, and the operational copies. -/
def inImage (key : Nat) : Bool :=
  let r : Reg := ⟨key / 1024, key % 1024⟩
  mirrored r.index && (operationalCopy r.index || (match dictRow r with
    | some row => row.access.writeLevel.isSome
    | none => false))

/-! Objects -/

/-- Object 1: the last DSEQ, and every mirrored element away from its default. -/
def State.imageObject (s : State) : List Octet :=
  leOctets 4 (s.reg .TWN_DSEQ) ++ ((s.dict.filter fun p => inImage p.1).map fun p => leOctets 4 p.1 ++ leOctets 8 p.2).flatten

/-- Object 1 taken over. -/
def State.takeImage (s : State) (o : List Octet) : State :=
  let s1 := { s with dict := s.dict.filter fun p => !inImage p.1 }
  let pairs := (List.range ((o.length - 4) / 12)).map fun i => (ofLe (slice o (4 + 12 * i) 4), ofLe (slice o (8 + 12 * i) 8))
  let s2 := pairs.foldl (fun s p => s.setReg ⟨p.1 / 1024, p.1 % 1024⟩ p.2) s1
  (s2.setReg .TWN_DSEQ (ofLe (o.take 4))).modTwin fun t => { t with lastDseq := ofLe (o.take 4) }

/-- Object 2: the maps and the signal map, administrative and operational. -/
def State.mapObject (s : State) : List Octet :=
  ((s.scan.mapAdmin ++ s.scan.mapOper).map fun l => writeList 8 l).flatten ++ writeList 16 s.smap.admin ++ writeList 16 s.smap.oper

/-- Object 2 taken over. -/
def State.takeMaps (s : State) (o : List Octet) : State :=
  let (maps, rest) := readLists 8 128 o
  let (records, _) := readLists 16 2 rest
  { s with
    scan := { s.scan with mapAdmin := maps.take 64, mapOper := maps.drop 64 }
    smap := { s.smap with
      admin := nth records 0 [], oper := nth records 1 [], outputs := (nth records 1 []).map fun _ => MapOutput.reset } }

/-- A content slot of the Finial layer: 1 and its fields, or 0. -/
def writeSlot : Option FinialSlot → List Octet
  | none => writeList 8 []
  | some c => writeList 8 ([c.contentId, c.rect.x, c.rect.y, c.rect.w, c.rect.h, c.crc, b2n c.valid, c.validOrder] ++
      c.pixels.map fun p => match p with
        | some v => v + 1
        | none => 0)

/-- A content slot read. -/
def readSlot (l : List Nat) : Option FinialSlot :=
  if l.length < 8 then none
  else some {
    contentId := nth l 0 0, rect := ⟨nth l 1 0, nth l 2 0, nth l 3 0, nth l 4 0⟩, crc := nth l 5 0, valid := nth l 6 0 == 1
    validOrder := nth l 7 0, pixels := (l.drop 8).map fun v => if v = 0 then none else some (v - 1) }

/-- Object 3: the Finial content slots and the voted decision registers. -/
def State.finialObject (s : State) (d : Decision) : List Octet :=
  (s.cupola.content.flatten.map writeSlot).flatten ++ writeList 4 ([d.asserted, d.blanked] ++ d.slots)

/-- Object 3 taken over. -/
def State.takeFinial (s : State) (o : List Octet) : State :=
  let (slots, rest) := readLists 8 32 o
  let (regs, _) := readLists 4 1 rest
  let r := nth regs 0 []
  let d : Decision := ⟨nth r 0 0, nth r 1 0, r.drop 2⟩
  let contents := (List.range 16).map fun i => [readSlot (nth slots (2 * i) []), readSlot (nth slots (2 * i + 1) [])]
  { s with cupola := { s.cupola with content := contents, decisions := List.replicate 3 d } }

/-- Objects 16 to 23: the buffer a layer shows, or nothing. -/
def frameObject (f : Option IngestFrame) : List Octet :=
  match f with
  | none => writeList 8 []
  | some f => writeList 8 ([f.entry, f.stream, f.time, f.srcEpoch, f.format, f.region.x, f.region.y, f.region.w, f.region.h] ++ f.pixels)

/-- The copied buffer of a layer taken over as the buffer it showed before (R457). -/
def State.takeFrame (s : State) (layer : Nat) (o : List Octet) : State :=
  let (l, _) := readLists 8 1 o
  let x := nth l 0 []
  if x.length < 9 then s
  else
    let id := s.ingest.nextId
    let used := s.ingest.frames.filterMap fun f => if f.layer = layer then f.buffer else none
    let f : IngestFrame := {
      id := id, layer := layer, entry := nth x 0 0, stream := nth x 1 0, time := nth x 2 0, srcEpoch := nth x 3 0, total := 0
      format := nth x 4 0, region := ⟨nth x 5 0, nth x 6 0, nth x 7 0, nth x 8 0⟩, fenceId := 0, replace := false, fenced := false
      released := false, late := none, replaces := none, buffer := (List.range 3).find? fun b => !used.contains b, cells := 0
      stage := .complete s.ingest.nextOrder, shown := true, parts := [], lines := [], pixels := x.drop 9 }
    { s with ingest := { s.ingest with
        frames := s.ingest.frames ++ [f], nextId := id + 1, nextOrder := s.ingest.nextOrder + 1
        lastShown := setNth s.ingest.lastShown layer (.shows id) } }

/-- Object 32: items 1 to 3 of R452: the zone passes, then for each rail group its code and its fault marks. -/
def State.itemObject (s : State) : List Octet :=
  writeList 2 (s.twin.zonePushes.flatMap fun p => [p.zone, p.theta, p.epoch]) ++
    writeList 1 ((List.range 16).map fun g => s.reg (.LAN_RAIL_CODE g)) ++ writeList 1 ((List.range 512).map fun c => (nth s.lantern.sinks c
      LampSink.reset).fault)

/-- Object 32 taken over; fault marks and codes of the tied groups only. -/
def State.takeItems (s : State) (o : List Octet) : State :=
  let (zones, rest) := readLists 2 1 o
  let (codes, _) := readLists 1 2 rest
  let z := nth zones 0 []
  let tied := (List.range 16).filter fun g => s.flag (.LAN_RAIL_TIED g)
  let s1 := s.modTwin fun t => { t with
    zonePushes := (List.range (z.length / 3)).map fun i => ⟨nth z (3 * i) 0, nth z (3 * i + 1) 0, nth z (3 * i + 2) 0⟩ }
  tied.foldl (fun s g =>
    let s2 := s.setReg (.LAN_RAIL_CODE g) (nth (nth codes 0 []) g 0)
    { s2 with lantern := { s2.lantern with
        sinks := s2.lantern.sinks.zipIdx.map fun (k, c) => if c / 32 = g then { k with fault := nth (nth codes 1 []) c 0 } else k } }) s1

/-! Sending while the partner joins -/

/-- Whether the unit sends for a partner that joins at an epoch (R457). -/
def State.feeds (s : State) (epoch : Nat) : Bool :=
  match s.twin.join with
  | some j => !j.joining && j.es == some epoch && j.step == 2
  | none => false

/-- A layer has been resolved in E_s: the buffer it shows goes to the partner (R457). -/
def State.feedLayer (s : State) (epoch layer : Nat) (r : Resolution) : State :=
  if s.feeds epoch then
    match r with
    | .shows id => s.sendBulk (16 + layer) (frameObject (s.ingest.frames.find? fun f => f.id == id))
    | _ => s.sendBulk (16 + layer) (frameObject none)
  else s

/-- Every layer of E_s is resolved: the Finial content and decisions, the pushed items, and SYNC step 3 (R457). -/
def State.feedEnd (s : State) (epoch : Nat) (waiting : Bool) (d : Decision) : State :=
  if s.feeds epoch ∧ waiting = false then
    (((s.sendBulk 3 (s.finialObject d)).sendBulk 32 s.itemObject).sendMirror 0x60 (leOctets 1 3 ++ leOctets 2 epoch)).modTwin fun t => { t with
      join := none }
  else s

end Sys2Proof.Machine
end

