-- ==== Sys2Proof/Machine/CalHead.lean ====
section
/-! DEFINITION. The header of a calibration image (R231), the geometry the map gives a module (R232, R248), and a module that becomes
uncalibrated (R232, R243). -/

namespace Sys2Proof.Machine

/-- A little-endian field of a page. -/
def pageField (page : List Octet) (o n : Nat) : Nat := ofLe (slice page o n)

/-- A page of an image. -/
def imagePage (pages : List (List Octet)) (n : Nat) : List Octet := nth pages n []

/-- Header fields of an image. -/
structure CalHeader where
  pixels : Nat
  moduleId : Nat
  kind : Nat
  spares : Nat
  revision : Nat
  t1 : Int
  t2 : Int
  t3 : Int
  pages : Nat
  lut : Nat
  matrix : Nat
  spare : Nat
  spareCount : Nat
  selector : Nat
  check : Nat
  deriving DecidableEq, Repr

/-- The header of page 0 (R231). -/
def calHeader (p : List Octet) : CalHeader := {
  pixels := pageField p 6 2, moduleId := pageField p 8 8, kind := pageField p 16 1, spares := pageField p 17 1
  revision := pageField p 18 2, t1 := toSigned 16 (pageField p 20 2), t2 := toSigned 16 (pageField p 22 2)
  t3 := toSigned 16 (pageField p 24 2), pages := pageField p 26 2, lut := pageField p 28 2, matrix := pageField p 30 2
  spare := pageField p 32 2, spareCount := pageField p 34 2, selector := pageField p 36 2, check := pageField p 48 4 }

/-- Modules enumerated: link and address. -/
def State.enumerated (s : State) : List (Nat × Nat) :=
  (s.spire.zipIdx.map fun (l, k) => (List.range l.modules.length).map fun m => (k, m + 1)).flatten

/-- CAL_STATE from the modules' states (R243). -/
def State.showCalState (s : State) : State :=
  let st := s.enumerated.map fun p => s.reg (.CAL_MODULE_STATUS p.1 p.2) / 65536 % 4
  s.setReg .CAL_STATE (if st.isEmpty then 0 else if st.contains 1 then 1 else if st.contains 3 then 3 else 2)

/-- CAL_MODULE_STATUS of a module: revision, state, table slot, reason (R243). -/
def State.setModuleStatus (s : State) (link module revision state slot reason : Nat) : State :=
  (s.setReg (.CAL_MODULE_STATUS link module) (revision + state * 65536 + slot * 2 ^ 18 + reason * 2 ^ 24)).showCalState

/-- A module becomes uncalibrated: its live data go and event 0x7002 is posted (R232). -/
def State.uncalibrate (s : State) (link module reason : Nat) : State :=
  let drop := fun (l : List LiveModule) => l.filter fun m => !(m.link == link && m.module == module)
  let s1 := s.modCal fun c => { c with
    modules := c.modules.filter fun x => !(x.link == link && x.module == module)
    zones := c.zones.map fun z => { z with active := drop z.active, inactive := drop z.inactive } }
  (s1.setModuleStatus link module 0 3 0 reason).post 0x7002 4 (link + module * 64 + reason * 4096)

/-- The pixels, kind and spares the operational map gives a module (R248). -/
def State.mapGeometry (s : State) (link module : Nat) : Nat × Option (Nat × Nat) :=
  let runs := (nth s.scan.mapOper link []).filter fun w => runModule w == module
  ((runs.map runLen).sum, runs.head?.map fun w => (b2n (runRgbw w), runSpares w))

/-- Whether an image's header agrees with the module's geometry in the map (R232, R248). A module the map does not name has no geometry there. -/
def State.geometryOk (s : State) (link module : Nat) (h : CalHeader) : Bool :=
  match s.mapGeometry link module with
  | (_, none) => true
  | (n, some (kind, spares)) => h.pixels == n && h.kind == kind && h.spares == spares

/-- Modules whose images disagree with the map in force become uncalibrated with reason 2 (R232, R248). -/
def State.judgeGeometry (s : State) : State :=
  s.cal.modules.foldl (fun s c =>
    if s.geometryOk c.link c.module (calHeader (imagePage c.copyA 0)) then s else s.uncalibrate c.link c.module 2) s

end Sys2Proof.Machine
end

