-- ==== Sys2Proof/Machine/Network.lean ====
section
/-! DEFINITION. The network ports: what they keep and pass on, the group and stream filters, egress classes and gates, link
and FEC state (R37 to R77, R570, R600). Ports are numbered 0 NETA, 1 NETB, 2 NETM. -/

namespace Sys2Proof.Machine

/-- A port of the network block changed. -/
def State.modPort (s : State) (port : Nat) (f : NetPort → NetPort) : State :=
  s.modNet fun n => { n with ports := modNth n.ports port f }

/-- The state of a port. -/
def State.port (s : State) (port : Nat) : NetPort := nth s.net.ports port NetPort.reset

/-- The other chain port (R41). -/
def otherPort (port : Nat) : Nat := if port = 0 then 1 else 0

/-- Whether a port's link is up: states 1 and 2 pass traffic (R72, R73). -/
def State.linkIsUp (s : State) (port : Nat) : Bool := s.reg (.NET_LINK_STATE (port + 1)) != 0

/-- Picoseconds one octet takes on a port: 25, 10 or 1 Gbit/s (R37). -/
def State.octetPs (s : State) (port : Nat) : Nat :=
  if port = 2 then 8000 else if s.reg (.NET_SPEED (port + 1)) = 1 then 800 else 320

/-- The 2 KiB cells a frame of n octets takes (R48). -/
def cellsOf (n : Nat) : Nat := (n + 2047) / 2048

/-- Cells a class queue holds (R48). -/
def queueCells (q : List QueuedFrame) : Nat := (q.map fun f => cellsOf (f.octets.length + 4)).sum

/-- Free cells of the packet buffer: 2,048 shared by receive credits and egress queues (R22, R48). -/
def State.freeCells (s : State) : Nat :=
  2048 - (s.net.rxHeld.sum + (s.ingest.frames.map fun f => f.cells).sum + (s.net.ports.map fun p => (p.queues.map queueCells).sum).sum)

/-! Group filter and stream filter -/

/-- The hash bin of a destination address (R55). -/
def hashBin (addr : Nat) : Nat :=
  [addr % 512, (addr / 2 ^ 9) % 512, (addr / 2 ^ 18) % 512, (addr / 2 ^ 27) % 512, (addr / 2 ^ 36) % 512,
    (addr / 2 ^ 45) % 8].foldl Nat.xor 0

/-- The group MAC of an IPv4 group: its low 23 bits in 01-00-5E-00-00-00. -/
def groupMac (group : Nat) : Nat := 0x01005E000000 + group % 2 ^ 23

/-- The groups the filters always accept: the PTP groups and the all-hosts group (R53). -/
def alwaysAccepted (addr : Nat) : Bool := addr == 0x011B19000000 || addr == 0x01005E000181 || addr == 0x01005E000001

/-- Whether an address equals an exact-match entry (R53). -/
def State.exactMatch (s : State) (addr : Nat) : Bool := addr != 0 && s.net.exact.contains addr

/-- Whether the hash bin of an address is set (R53, R54). -/
def State.hashMatch (s : State) (addr : Nat) : Bool :=
  bitOf (s.reg (.NET_MC_HASH (hashBin addr / 32 + 1))) (hashBin addr % 32)

/-- Whether an enabled stream entry matches a frame (R56). -/
def State.streamEntryMatches (s : State) (o : List Octet) (n : Nat) : Bool :=
  s.flag (.NET_STREAM_ENABLE n) && isUdp o && s.reg (.NET_STREAM_GROUP n) == ipDst o &&
    s.reg (.NET_STREAM_PORT n) == udpDst o &&
    (s.reg (.NET_STREAM_KIND n) == 1 || s.reg (.NET_STREAM_ID n) == wsfStreamId o)

/-- Whether a frame is one that a stream table entry takes (R56). -/
def State.isStream (s : State) (o : List Octet) : Bool := (List.range 128).any fun n => s.streamEntryMatches o n

/-- Groups of the enabled universe entries, 239.255.(U >> 8).(U & 0xFF) (R415). -/
def State.universeGroups (s : State) : List Nat :=
  ((List.range 64).filter fun n => s.flag (.DMX_UNIV_ENABLE n)).map fun n => 0xEFFF0000 + s.reg (.DMX_UNIV_NUMBER n)

/-- The stream filter (R56); a universe entry counts as an entry of its group and port 5568 (R415). -/
def State.streamMatch (s : State) (o : List Octet) : Bool :=
  s.isStream o || (isUdp o && udpDst o == 5568 && s.universeGroups.contains (ipDst o))

/-- Groups of enabled stream and universe entries in order of entry, each once (R54, R415). -/
def State.streamGroups (s : State) : List Nat :=
  (((List.range 128).filter fun n => s.flag (.NET_STREAM_ENABLE n)).map (fun n => s.reg (.NET_STREAM_GROUP n)) ++
    s.universeGroups).foldl (fun acc g => if acc.contains g then acc else acc ++ [g]) []

/-- The group filter built anew from the stream table: the first 16 distinct group MACs exact, each further one by its hash
bin; event 0x2050 (R54). -/
def State.buildFilter (s : State) : State :=
  let macs := s.streamGroups.foldl (fun acc g => if acc.contains (groupMac g) then acc else acc ++ [groupMac g]) []
  let exact := macs.take 16
  let s0 := s.modNet fun n => { n with exact := exact ++ List.replicate (16 - exact.length) 0 }
  let s1 := (List.range 16).foldl (fun s i => s.setReg (.NET_MC_HASH (i + 1)) 0) s0
  let bins := (macs.drop 16).foldl (fun acc m => if acc.contains (hashBin m) then acc else acc ++ [hashBin m]) []
  let s2 := bins.foldl (fun s b => s.setBit (.NET_MC_HASH (b / 32 + 1)) (b % 32) true) s1
  s2.post 0x2050 3 (exact.length + bins.length * 2 ^ 5)

/-- IGMPv3 reports for the groups of enabled entries, on NETA and on NETB while its link is up; leaves for groups no enabled
entry names any more (R59). -/
def State.igmpReport (s : State) : State :=
  if s.flag .NET_IGMP_ENABLE then
    let groups := s.streamGroups
    let left := s.net.joined.filter fun g => !groups.contains g
    let ports := if s.linkIsUp 1 then [0, 1] else [0]
    let s1 := ports.foldl (fun s p =>
      let s' := groups.foldl (fun s g => s.emit (.igmp p g false)) s
      left.foldl (fun s g => s.emit (.igmp p g true)) s') s
    s1.modNet fun n => { n with joined := groups }
  else s

/-! Gates -/

/-- Entry k of the operational list, 0 for the first (R64). -/
def State.gclEntry (s : State) (port k : Nat) : Nat :=
  if port = 0 then s.reg (.NET_GCL_OPER_NETA (k + 1)) else s.reg (.NET_GCL_OPER_NETB (k + 1))

/-- INTERVAL of a list word (R63). -/
def gclInterval (w : Nat) : Nat := w % 2 ^ 32

/-- GATES of a list word (R63). -/
def gclGates (w : Nat) : Nat := (w / 2 ^ 32) % 256

/-- Venue time in ns at which entry k of the running cycle ends: its intervals summed, cut at the cycle end; the last entry
holds until the cycle ends (R66). -/
def State.gclEntryEnd (s : State) (port k : Nat) : Nat :=
  let cycle := s.reg (.NET_GCL_OPER_CYCLE (port + 1))
  let start := (s.port port).gate.cycleStart
  if s.reg (.NET_GCL_OPER_LEN (port + 1)) ≤ k + 1 then start + cycle
  else
    let sum := ((List.range (k + 1)).map fun i => gclInterval (s.gclEntry port i)).sum
    start + (if sum < cycle then sum else cycle)

/-- The entry after k: the next one, or the first of the next cycle (R66). -/
def State.gclNext (s : State) (port k : Nat) : Nat :=
  let cycleEnd := (s.port port).gate.cycleStart + s.reg (.NET_GCL_OPER_CYCLE (port + 1))
  if k + 1 < s.reg (.NET_GCL_OPER_LEN (port + 1)) ∧ s.gclEntryEnd port k < cycleEnd then k + 1 else 0

/-- The length of entry k in ns as the cycle runs it. -/
def State.gclLength (s : State) (port k : Nat) : Nat :=
  s.gclEntryEnd port k - (if k = 0 then (s.port port).gate.cycleStart else s.gclEntryEnd port (k - 1))

/-- How long the gate of a class stays open after the end of entry k, over at most n entries. -/
def State.openAfter (s : State) (port cls : Nat) : Nat → Nat → Nat
  | 0, _ => 0
  | n + 1, k =>
    let k' := s.gclNext port k
    if bitOf (gclGates (s.gclEntry port k')) cls then s.gclLength port k' + State.openAfter s port cls n k' else 0

/-- Nanoseconds for which the gate of a class stays open from now: 0 while closed; none where it never closes (R66, R67). -/
def State.gateOpenFor (s : State) (port cls : Nat) : Option Nat :=
  let g := (s.port port).gate
  let len := s.reg (.NET_GCL_OPER_LEN (port + 1))
  if port = 2 ∨ s.flag (.NET_GATE_ENABLE (port + 1)) = false then none
  else if bitOf g.gates cls = false then some 0
  else if (List.range len).all (fun k => bitOf (gclGates (s.gclEntry port k)) cls) ∧ g.pending = false then none
  else
    let first := match g.restartAt with
      | some t => t - s.now
      | none => s.gclEntryEnd port g.entry - s.now
    let open' := first + s.openAfter port cls len (match g.restartAt with
      | some _ => len - 1
      | none => g.entry)
    some (if g.pending then min open' (s.reg (.NET_GCL_CHANGE_TIME (port + 1)) - s.now) else open')

/-- The guard rule: a frame of n octets, with preamble and gap, ends before its gate next closes (R66). -/
def State.passesGuard (s : State) (port cls n : Nat) : Bool :=
  match s.gateOpenFor port cls with
  | none => true
  | some ns => Nat.ble 1 ns && Nat.ble ((n + 20) * s.octetPs port) (ns * 1000)

/-! Sending -/

/-- The transmit counters of a frame sent (R68). -/
def State.countSent (s : State) (port cls : Nat) (o : List Octet) : State :=
  let s1 := (s.count (.NETCNT_TX_OCTETS port) (o.length + 4)).count (.NETCNT_TX_FRAMES port)
  let s2 :=
    if ethDst o = 0xFFFFFFFFFFFF then s1.count (.NETCNT_TX_BROADCAST port)
    else if (nth o 0 0).toNat % 2 = 1 then s1.count (.NETCNT_TX_MULTICAST port)
    else s1.count (.NETCNT_TX_UNICAST port)
  if port = 2 then s2 else s2.count ⟨0x2100 + port, 43 + cls⟩

/-- The FCS that ends a stomped frame: the inverse of the correct one (R46). -/
def stompedFcs (o : List Octet) : Nat := 2 ^ 32 - 1 - crcOf crc32 o

/-- Whether a PTP event message takes the residence correction of R85 under the profile in force. -/
def State.correctsPtp (s : State) (o : List Octet) : Bool :=
  (ethType o == 0x88F7 || (isUdp o && udpDst o == 319)) &&
    (if s.reg .TCK_PROFILE = 2 then ptpType o == 0 else ptpType o == 0 || ptpType o == 1)

/-- A residence of t (2^-32 ns) from one port to the other as the correction of R85 in 2^-16 ns: the external delays of both
ports are inside it (R89, R90); under profile 2 the link delay is added and both are scaled by the neighbour rate ratio. -/
def State.residence (s : State) (rxPort txPort t : Nat) : Int :=
  let ext := s.reg (.TCK_EXT_DELAY_RX (rxPort + 1)) + s.reg (.TCK_EXT_DELAY_TX (txPort + 1))
  let ns : Rat := (t : Rat) / 2 ^ 32 + (ext : Rat) / 1000
  if s.reg .TCK_PROFILE = 2 then
    let ld := nth s.clock.linkDelay rxPort (0, 0)
    (((ns + ld.1) * (1 + (ld.2 : Rat) / 1000000000)) * 65536 + 1 / 2).floor
  else (ns * 65536 + 1 / 2).floor

/-- A frame put at the end of its class queue, or dropped and counted when the queue is at its limit or no cell is free
(R48). -/
def State.enqueue (s : State) (port : Nat) (f : QueuedFrame) : State :=
  let q := nth (s.port port).queues f.cls []
  let need := cellsOf (f.octets.length + 4)
  if s.reg (.NET_TC_QUEUE_CELLS (f.cls + 1)) < queueCells q + need ∨ s.freeCells < need then
    s.count (.NETCNT_TX_QUEUE_DROP port)
  else s.modPort port fun p => { p with queues := modNth p.queues f.cls fun q => q ++ [f] }

/-- A frame the unit originates (R48). -/
def State.originate (s : State) (port : Nat) (o : List Octet) : State :=
  s.enqueue port ⟨o, s.classOf o, false, false, none⟩

/-- Whether a forwarded frame goes cut-through (R44). -/
def State.cutThrough (s : State) (rx tx cls : Nat) : Bool :=
  s.reg (.NET_SPEED (rx + 1)) == s.reg (.NET_SPEED (tx + 1)) &&
    (nth (s.port tx).queues cls []).isEmpty &&
    s.passesGuard tx cls (s.reg (.NET_TC_MAX_FRAME (cls + 1))) &&
    s.linkIsUp tx

/-- A frame forwarded to the other chain port: cut-through, stored, or counted out for want of a link (R44 to R49, R75). -/
def State.forward (s : State) (rx : Nat) (f : Frame) (good : Bool) (ecc : Ecc) : State :=
  let tx := otherPort rx
  let cls := s.classOf f.octets
  let limit := s.reg (.NET_TC_MAX_FRAME (cls + 1))
  if s.linkIsUp tx = false then s.count (.NETCNT_FWD_NO_LINK tx)
  else if s.cutThrough rx tx cls then
    let latency := (if s.reg (.NET_SPEED (rx + 1)) = 1 then 1480 else 820) * 2 ^ 32
    let o := if s.correctsPtp f.octets then addCorrection f.octets (s.residence rx tx latency) else f.octets
    let cut := limit < o.length + 4
    let sent := if cut then o.take (limit - 4) else o
    let bad := cut || !good
    let s1 := (s.count (.NETCNT_FWD_CUT_THROUGH tx)).countSent tx cls sent
    let s2 := if cut then s1.count (.NETCNT_TX_OVERSIZE_DISCARD tx) else s1
    let s3 := if bad then s2.count (.NETCNT_FWD_STOMPED tx) else s2
    s3.emit (.frame tx sent (if bad then stompedFcs sent else crcOf crc32 sent) true)
  else if good = false then s
  else if limit < f.octets.length + 4 then s.count (.NETCNT_TX_OVERSIZE_DISCARD tx)
  else
    let stomp := match ecc with
      | .double _ => true
      | _ => false
    s.enqueue tx ⟨f.octets, cls, true, stomp, if s.correctsPtp f.octets then some s.time96 else none⟩

/-! Receiving -/

/-- The size bin of a good frame of n octets (R68); none below 64. -/
def sizeBin (n : Nat) : Option Nat :=
  if n < 64 then none
  else if n = 64 then some 7 else if n ≤ 127 then some 8 else if n ≤ 255 then some 9 else if n ≤ 511 then some 10
  else if n ≤ 1023 then some 11 else if n ≤ 1518 then some 12 else if n ≤ 2047 then some 13 else if n ≤ 4095 then some 14
  else if n ≤ 9216 then some 15 else none

/-- How a frame's FCS reads (R46). -/
inductive FcsKind where
  | good | stomped | wrong
  deriving DecidableEq, Repr

/-- The FCS of a frame judged (R46). -/
def fcsKind (f : Frame) : FcsKind :=
  if f.fcs = crcOf crc32 f.octets then .good
  else if f.fcs = stompedFcs f.octets then .stomped else .wrong

/-- The receive counters of a frame (R68). -/
def State.countReceived (s : State) (port : Nat) (f : Frame) (k : FcsKind) : State :=
  let n := f.octets.length + 4
  let big := s.reg .NET_MAX_FRAME
  let s1 := s.count (.NETCNT_RX_OCTETS port) n
  let s2 := if f.codeError then s1.count (.NETCNT_RX_CODE_ERROR port) else s1
  if k = .good then
    let s3 := s2.count (.NETCNT_RX_FRAMES port)
    let s4 :=
      if ethDst f.octets = 0xFFFFFFFFFFFF then s3.count (.NETCNT_RX_BROADCAST port)
      else if (nth f.octets 0 0).toNat % 2 = 1 then s3.count (.NETCNT_RX_MULTICAST port)
      else s3.count (.NETCNT_RX_UNICAST port)
    let s5 := match sizeBin n with
      | some b => s4.count ⟨0x2100 + port, b⟩
      | none => s4
    let s6 := if ethTagged f.octets then s5.count (.NETCNT_RX_VLAN_TAGGED port) else s5
    let s7 := if n < 64 then s6.count (.NETCNT_RX_UNDERSIZE port) else s6
    let s8 := if big < n then s7.count (.NETCNT_RX_OVERSIZE port) else s7
    if ethType f.octets = 0x8808 then s8.count (.NETCNT_RX_PAUSE port) else s8
  else
    let s3 := if k = .stomped then s2.count (.NETCNT_RX_STOMPED port) else s2.count (.NETCNT_RX_FCS_ERROR port)
    let s4 := if n < 64 then s3.count (.NETCNT_RX_FRAGMENT port) else s3
    if big < n then s4.count (.NETCNT_RX_JABBER port) else s4

/-- Whether an IPv4 destination is one of the unit's on a port: its address in force, the broadcasts, the all-hosts group, the
PTP group or the group of an enabled stream or universe entry (R38, R53 to R56, R415). -/
def State.ipLocal (s : State) (port dst : Nat) : Bool :=
  let addr := if port = 2 then s.reg .NET_IPV4_M else s.reg .NET_IPV4_ACTIVE
  let mask := if port = 2 then s.reg .NET_IPV4_M_MASK else s.reg .NET_IPV4_MASK
  dst == 0xFFFFFFFF || (addr != 0 && (dst == addr || dst == Nat.lor addr (2 ^ 32 - 1 - mask))) ||
    dst == 0xE0000001 || dst == 0xE0000181 || s.streamGroups.contains dst

/-- The ECC counters and event of a frame read from the packet buffer (R75). -/
def State.eccCount (s : State) (port : Nat) (ecc : Ecc) : State :=
  match ecc with
  | .clean => s
  | .single => s.count (.NETCNT_RX_ECC_CORRECTED port)
  | .double cell => (s.count (.NETCNT_RX_ECC_UNCORRECTED port)).post 0x2040 6 (port + cell * 4)

/-- A good frame for the unit: it needs free cells (R22), a clean buffer (R75), and the checks of the IPv4 layer (R38). A
stream frame keeps its cells until ingest takes it. -/
def State.deliver (s : State) (port : Nat) (f : Frame) (ecc : Ecc) : State :=
  let need := cellsOf (f.octets.length + 4)
  if s.freeCells < need then s.count (.NETCNT_RX_BUFFER_DROP port)
  else
    match ecc with
    | .double _ => s
    | _ =>
      let s1 := s.count (.NETCNT_RX_LOCAL port)
      if isIpv4 f.octets ∧ s.ipLocal port (ipDst f.octets) = false then s1.count (.NETCNT_RX_IPV4_NOT_LOCAL port)
      else if isIpv4 f.octets ∧ ipFragment f.octets then s1.count (.NETCNT_RX_FRAGMENT_IPV4 port)
      else if port ≠ 2 ∧ s.isStream f.octets then s1.modNet fun n => { n with rxHeld := n.rxHeld ++ [need] }
      else s1

/-- Whether a frame is to be delivered, and the filter counter of one that is not (R40, R53, R56). -/
def State.wants (s : State) (f : Frame) : Bool × Option Nat :=
  let d := ethDst f.octets
  if d = s.unit.macChain ∨ d = 0xFFFFFFFFFFFF then (true, none)
  else if d = 0x0180C200000E then (ethType f.octets == 0x88F7, none)
  else if d / 16 = 0x0180C200000 then (false, none)
  else if d / 2 ^ 40 % 2 = 0 then (false, none)
  else if alwaysAccepted d then (true, none)
  else if s.exactMatch d then (if s.streamMatch f.octets then (true, none) else (false, some 28))
  else if s.hashMatch d then (if s.streamMatch f.octets then (true, none) else (false, some 27))
  else (false, none)

/-- Whether a frame is to be forwarded (R40, R477). -/
def State.forwards (s : State) (f : Frame) : Bool :=
  let d := ethDst f.octets
  if d = 0xFFFFFFFFFFFF then true
  else if d = s.unit.macChain then false
  else if d = 0x0180C200000E then
    s.reg .TCK_PROFILE == 2 && ethType f.octets == 0x88F7 && !([2, 3, 10].contains (ptpType f.octets))
  else if d / 16 = 0x0180C200000 then false
  else true

/-- RX_FRAME: a frame received on NETA or NETB (R40 to R49, R68, R75, R85). Nothing is received while the link is down or
before the port entries are applied (R50). -/
def execRxFrame (dt port : Nat) (f : Frame) (ecc : Ecc) (s : State) : Host.Outcome State Fault Refusal :=
  run s dt fun s =>
    if 2 ≤ port ∨ s.net.forwarding = false ∨ s.linkIsUp port = false then s
    else
      let k := fcsKind f
      let s1 := s.countReceived port f k
      let n := f.octets.length + 4
      let good := k == .good && !f.codeError && Nat.ble 64 n && Nat.ble n (s.reg .NET_MAX_FRAME)
      if ethType f.octets = 0x8808 then s1
      else
        let fw := s.forwards f && !(k == .good && Nat.blt (s.reg .NET_MAX_FRAME) n)
        let (mine, miss) := if good then s.wants f else (false, none)
        let s2 := if good && (mine || (fw && s.linkIsUp (otherPort port) &&
            !(s.cutThrough port (otherPort port) (s.classOf f.octets)))) then
          s1.eccCount port ecc else s1
        let s3 := match miss with
          | some sub => s2.count ⟨0x2100 + port, sub⟩
          | none => s2
        let s4 := if mine then s3.deliver port f ecc
          else if good then s3.count (.NETCNT_RX_NOT_LOCAL port) else s3
        if fw then s4.forward port f good ecc else s4

/-- NETM_RX_FRAME: a frame on NETM is delivered if addressed to it, broadcast or a group on which PTP runs, and otherwise
discarded and counted (R42). -/
def execNetmRxFrame (dt : Nat) (f : Frame) (ecc : Ecc) (s : State) : Host.Outcome State Fault Refusal :=
  run s dt fun s =>
    if s.linkIsUp 2 = false then s
    else
      let k := fcsKind f
      let s1 := s.countReceived 2 f k
      let n := f.octets.length + 4
      let d := ethDst f.octets
      if (k == .good && !f.codeError && Nat.ble 64 n && Nat.ble n (s.reg .NET_MAX_FRAME)) = false then s1
      else if ethType f.octets = 0x8808 then s1
      else if d = s.unit.macM ∨ d = 0xFFFFFFFFFFFF ∨ d = 0x011B19000000 ∨ d = 0x01005E000181 ∨ d = 0x0180C200000E then
        (s1.eccCount 2 ecc).deliver 2 f ecc
      else s1.count (.NETCNT_RX_NOT_LOCAL 2)

/-- The class that sends next on a port: the highest whose gate is open and whose head frame passes the guard rule (R62). -/
def State.nextClass (s : State) (port : Nat) : Option Nat :=
  [7, 6, 5, 4, 3, 2, 1, 0].find? fun c =>
    match nth (s.port port).queues c [] with
    | f :: _ => s.passesGuard port c (f.octets.length + 4)
    | [] => false

/-- EGRESS_TRANSMIT: the head frame of the highest eligible class starts (R62, R66); a PTP event message takes its residence
(R85); a frame with a buffer error leaves stomped (R75). -/
def execEgressTransmit (dt port : Nat) (s : State) : Host.Outcome State Fault Refusal :=
  run s dt fun s =>
    match s.nextClass port with
    | none => s
    | some c =>
      match nth (s.port port).queues c [] with
      | [] => s
      | f :: rest =>
        if s.linkIsUp port = false then s
        else
          let s1 := s.modPort port fun p => { p with queues := modNth p.queues c fun _ => rest }
          let o := match f.ptpRx with
            | some t => addCorrection f.octets (s.residence (otherPort port) port ((s.time96 + 2 ^ 96 - t) % 2 ^ 96))
            | none => f.octets
          let s2 := s1.countSent port c o
          let s3 := if f.forwarded ∧ port ≠ 2 then s2.count (.NETCNT_FWD_STORE_FORWARD port) else s2
          let s4 := if f.stomp then s3.count (.NETCNT_FWD_STOMPED port) else s3
          s4.emit (.frame port o (if f.stomp then stompedFcs o else crcOf crc32 o) false)

/-! Gate control list -/

/-- The gate state of a chain port changed. -/
def State.modGate (s : State) (port : Nat) (f : GateState → GateState) : State :=
  s.modPort port fun p => { p with gate := f p.gate }

/-- An entry put in force with its gates. -/
def State.gclEnter (s : State) (port k start : Nat) : State :=
  s.modGate port fun g => { g with entry := k, cycleStart := start, gates := gclGates (s.gclEntry port k), restartAt := none }

/-- The operational list of a port takes the administrative values (R65, rule 3). -/
def State.gclCopy (s : State) (port : Nat) : State :=
  let p := port + 1
  let s1 := (((s.setReg (.NET_GCL_OPER_BASE p) (s.reg (.NET_GCL_ADMIN_BASE p))).setReg
    (.NET_GCL_OPER_CYCLE p) (s.reg (.NET_GCL_ADMIN_CYCLE p))).setReg
    (.NET_GCL_OPER_EXT p) (s.reg (.NET_GCL_ADMIN_EXT p))).setReg
    (.NET_GCL_OPER_LEN p) (s.reg (.NET_GCL_ADMIN_LEN p))
  (List.range 64).foldl (fun s k =>
    if port = 0 then s.setReg (.NET_GCL_OPER_NETA (k + 1)) (s.reg (.NET_GCL_ADMIN_NETA (k + 1)))
    else s.setReg (.NET_GCL_OPER_NETB (k + 1)) (s.reg (.NET_GCL_ADMIN_NETB (k + 1)))) s1

/-- The swap of the operational list at the change time (R65, rule 3). -/
def State.gclDoSwap (s : State) (port : Nat) : State :=
  let p := port + 1
  let at' := s.reg (.NET_GCL_CHANGE_TIME p)
  let s1 := (s.gclCopy port).bump (.NET_GCL_OPER_CHANGES p)
  let s2 := ((s1.gclEnter port 0 at').modGate port fun g => { g with pending := false }).setReg (.NET_GCL_CHANGE p) 0
  (s2.setReg (.NET_GCL_CHANGE_TIME p) 0).post 0x2030 2 (port + (at' % 2 ^ 41) * 2)

/-- GATE_ENTRY_EXPIRY: the interval of the entry in force ends and the next entry's gates take effect (R66). After a step of
venue time the list restarts at its first entry, and a pending change the step has passed takes effect there (R67). A cycle
that would be cut within the extension limit is lengthened instead (R65). -/
def execGateEntryExpiry (dt port : Nat) (s : State) : Host.Outcome State Fault Refusal :=
  run s dt fun s =>
    let g := (s.port port).gate
    if 2 ≤ port then s
    else
      match g.restartAt with
      | some t =>
        if s.now < t then s
        else if g.pending ∧ s.reg (.NET_GCL_CHANGE_TIME (port + 1)) ≤ s.now then
          (s.setReg (.NET_GCL_CHANGE_TIME (port + 1)) t).gclDoSwap port
        else s.gclEnter port 0 t
      | none =>
        let e := s.gclEntryEnd port g.entry
        if s.now < e then s
        else
          let k := s.gclNext port g.entry
          if k ≠ 0 then s.gclEnter port k g.cycleStart
          else if g.pending ∧ e ≤ s.reg (.NET_GCL_CHANGE_TIME (port + 1)) ∧
              s.reg (.NET_GCL_CHANGE_TIME (port + 1)) - e < s.reg (.NET_GCL_OPER_EXT (port + 1)) then s
          else s.gclEnter port 0 e

/-- Entry k of the administrative list, 0 for the first (R64). -/
def State.gclAdmin (s : State) (port k : Nat) : Nat :=
  if port = 0 then s.reg (.NET_GCL_ADMIN_NETA (k + 1)) else s.reg (.NET_GCL_ADMIN_NETB (k + 1))

/-- The reason a change is refused: the first failing entry, or 0 for a cycle error; none where it is valid (R65, rule 5). -/
def State.gclFault (s : State) (port : Nat) : Option Nat :=
  let len := s.reg (.NET_GCL_ADMIN_LEN (port + 1))
  let bad := (List.range len).find? fun k =>
    let w := s.gclAdmin port k
    gclInterval w == 0 || w / 2 ^ 40 != 0
  match bad with
  | some k => some (k + 1)
  | none =>
    let c := s.reg (.NET_GCL_ADMIN_CYCLE (port + 1))
    if c < 1000 ∨ 1000000000 < c then some 0 else none

/-- The change time of a request: the base time if it lies ahead, otherwise the first cycle boundary at least 10 µs away
(R65, rule 1). -/
def gclChangeTime (base cycle now : Nat) : Nat :=
  if now < base then base else base + ((now + 10000 - base + cycle - 1) / cycle) * cycle

/-- A request for a change of a port's list (R65). -/
def State.gclRequest (s : State) (port : Nat) : State :=
  if 2 ≤ port then s.reply 3
  else if (s.port port).gate.pending then s.reply 10
  else
    match s.gclFault port with
    | some e => (s.post 0x2031 4 (port + e * 2)).reply 8
    | none =>
      let t := gclChangeTime (s.reg (.NET_GCL_ADMIN_BASE (port + 1))) (s.reg (.NET_GCL_ADMIN_CYCLE (port + 1))) s.now
      (((s.modGate port fun g => { g with pending := true }).setReg (.NET_GCL_CHANGE (port + 1)) 1).setReg
        (.NET_GCL_CHANGE_TIME (port + 1)) t).reply 0

/-- A cancel of a pending change, or already complete (R65, rule 4). -/
def State.gclCancel (s : State) (port : Nat) : State :=
  if 2 ≤ port then s.reply 3
  else if (s.port port).gate.pending then
    (((s.modGate port fun g => { g with pending := false }).setReg (.NET_GCL_CHANGE (port + 1)) 0).setReg
      (.NET_GCL_CHANGE_TIME (port + 1)) 0).reply 0
  else s.reply 15

/-- GCL_CHANGE_REQUEST (R65). -/
def execGclChangeRequest (dt who port : Nat) (s : State) : Host.Outcome State Fault Refusal :=
  run s dt fun s => s.asWriter who (.NET_GCL_CHANGE (port + 1)) fun s => s.gclRequest port

/-- GCL_CHANGE_CANCEL (R65). -/
def execGclChangeCancel (dt who port : Nat) (s : State) : Host.Outcome State Fault Refusal :=
  run s dt fun s => s.asWriter who (.NET_GCL_CHANGE (port + 1)) fun s => s.gclCancel port

/-- GCL_SWAP: at the change time the operational list takes the administrative values (R65). -/
def execGclSwap (dt port : Nat) (s : State) : Host.Outcome State Fault Refusal :=
  run s dt fun s =>
    if (s.port port).gate.pending ∧ (s.port port).gate.restartAt = none ∧
        s.reg (.NET_GCL_CHANGE_TIME (port + 1)) ≤ s.now then s.gclDoSwap port else s

/-- The list after a step of venue time: it restarts at the first cycle start at or after the new time, and until then each
gate keeps its state (R67). -/
def State.gclStep (s : State) (port : Nat) : State :=
  let base := s.reg (.NET_GCL_OPER_BASE (port + 1))
  let cycle := s.reg (.NET_GCL_OPER_CYCLE (port + 1))
  let next := if s.now ≤ base then base else base + ((s.now - base + cycle - 1) / cycle) * cycle
  s.modGate port fun g => { g with restartAt := some next }

/-! Links -/

/-- LINK_UP (R72). -/
def execLinkUp (dt port : Nat) (s : State) : Host.Outcome State Fault Refusal :=
  run s dt fun s =>
    if 3 ≤ port ∨ s.linkIsUp port then s
    else (s.setReg (.NET_LINK_STATE (port + 1)) 1).post 0x2001 3 port

/-- MODULE_DETECT: a module inserted while the port runs is enabled after 10 ms of stable MODDET low (R570): TXDIS goes low,
and the rate balls follow NET_SPEED. -/
def execModuleDetect (dt port : Nat) (s : State) : Host.Outcome State Fault Refusal :=
  run s dt fun s =>
    if 2 ≤ port ∨ s.net.forwarding = false then s
    else
      let fast := s.reg (.NET_SPEED (port + 1)) == 0
      s.modNet fun n => { n with sfp := modNth n.sfp port fun _ => (false, fast, fast, false) }

/-- FEC_WINDOW_END: more than 1 uncorrectable codeword in 10^6 sets the port's fault state; a whole window without one clears
it (R73). -/
def execFecWindowEnd (dt port corrected uncorrected codewords : Nat) (s : State) : Host.Outcome State Fault Refusal :=
  run s dt fun s =>
    if 2 ≤ port then s
    else
      let s1 := ((s.count (.NETCNT_FEC_CORRECTED port) corrected).count (.NETCNT_FEC_UNCORRECTED port) uncorrected).modNet
        fun n => { n with fecWindow := modNth n.fecWindow port fun _ => uncorrected }
      let st := s1.reg (.NET_LINK_STATE (port + 1))
      if st = 1 ∧ codewords < uncorrected * 1000000 then
        (s1.setReg (.NET_LINK_STATE (port + 1)) 2).post 0x2003 5 (port + (uncorrected % 2 ^ 32) * 4)
      else if st = 2 ∧ uncorrected = 0 then s1.setReg (.NET_LINK_STATE (port + 1)) 1
      else s1

/-- A change of one element of the stream table: it takes effect between frames, with the rebuilt group filter, and the
membership reports follow (R54, R57 to R59). -/
def State.streamTableWrite (s : State) (entry sub value : Nat) : State :=
  let r : Reg := ⟨0x2400 + entry, sub⟩
  if 128 ≤ entry ∨ dictBits r = 0 then s.reply 2
  else if inRange r value = false then s.reply 8
  else ((s.setReg r value).buildFilter.igmpReport).reply 0

/-- STREAM_TABLE_CHANGE (R58). -/
def execStreamTableChange (dt who entry sub value : Nat) (s : State) : Host.Outcome State Fault Refusal :=
  run s dt fun s => s.asWriter who (.NET_STREAM_ENABLE entry) fun s => s.streamTableWrite entry sub value

/-- IGMP_QUERY: a query is answered with reports for every accepted group (R59). -/
def execIgmpQuery (dt port : Nat) (s : State) : Host.Outcome State Fault Refusal :=
  run s dt fun s => if 2 ≤ port ∨ s.linkIsUp port = false then s else s.igmpReport

end Sys2Proof.Machine
end

