-- ==== Sys2Proof/Machine/Clock.lean ====
section
/-! DEFINITION. The Tower Clock: PTP and the servo, turrets and the vote, comparators, BELL pins and captures (R78 to R117,
R601). Times are in ns or 2^-32 ns as each definition says; the servo reckons in exact fractions. -/

namespace Sys2Proof.Machine

/-- The servo states of R81. -/
def stFree : Nat := 0
/-- ACQUIRE. -/
def stAcquire : Nat := 1
/-- LOCKING. -/
def stLocking : Nat := 2
/-- LOCKED. -/
def stLocked : Nat := 3
/-- HOLDOVER. -/
def stHoldover : Nat := 4

/-- Rounding to the nearest whole number, halves upward (log entry 11). -/
def roundRat (q : Rat) : Int := (q + 1 / 2).floor

/-- The exponent e with 2^e ≤ q < 2^(e+1), for q between 2^-126 and 2^127, by halving and doubling. -/
def ratExp : Nat → Rat → Int → Int
  | 0, _, e => e
  | n + 1, q, e => if q < 1 then ratExp n (q * 2) (e - 1) else if 2 ≤ q then ratExp n (q / 2) (e + 1) else e

/-- IEEE 754 binary32 of a value, to the nearest (F32 of R16, R466). -/
def f32OfRat (q : Rat) : Nat :=
  if q = 0 then 0
  else
    let sign := if q < 0 then 2 ^ 31 else 0
    let a := if q < 0 then -q else q
    let e := ratExp 140 a 0
    let scaled : Rat := if 0 ≤ e then a / (2 ^ e.toNat : Rat) else a * (2 ^ (-e).toNat : Rat)
    let m := (roundRat (scaled * 2 ^ 23)).toNat
    let (m, e) := if m = 2 ^ 24 then (2 ^ 23, e + 1) else (m, e)
    sign + ((e + 127).toNat % 256) * 2 ^ 23 + (m - 2 ^ 23)

/-- The slope of a least-squares line over samples (R93, R98); 0 where all lie at one instant. -/
def lsqSlope (xs : List ClockSample) : Rat :=
  let n : Rat := xs.length
  let sx := (xs.map ClockSample.at_).sum
  let sy := (xs.map ClockSample.offset).sum
  let sxx := (xs.map fun p => p.at_ * p.at_).sum
  let sxy := (xs.map fun p => p.at_ * p.offset).sum
  let d := n * sxx - sx * sx
  if d = 0 then 0 else (n * sxy - sx * sy) / d

/-- The value of the least-squares line at an instant. -/
def lsqAt (xs : List ClockSample) (t : Rat) : Rat :=
  let n : Rat := xs.length
  let mx := (xs.map ClockSample.at_).sum / n
  let my := (xs.map ClockSample.offset).sum / n
  my + lsqSlope xs * (t - mx)

/-- The state of the servo set, with event 0x3001; leaving HOLDOVER clears TCK_FLAGS[2] and the seconds of holdover (R97). -/
def State.setServo (s : State) (st : Nat) : State :=
  let old := s.reg .TCK_STATE
  if old = st then s
  else
    let s1 := ((s.setReg .TCK_STATE st).modClock fun c => { c with withinRun := 0, beyondRun := 0, returnRun := 0 }).post
      0x3001 2 (st + old * 8)
    if old = stHoldover then (s1.setBit .TCK_FLAGS 2 false).setReg .TCK_HOLDOVER_S 0 else s1

/-- F of a total correction in ppb (R94), within 32 bits. -/
def fOfPpb (a : Rat) : Nat := (clampInt 0 (2 ^ 32 - 1) ((nominalF : Int) + roundRat (a / 1000000000 * (128 / 100) * 2 ^ 32))).toNat

/-- F written to every turret in one clock (R102), and TCK_RATE_PPB. -/
def State.setF (s : State) (a : Rat) : State :=
  (s.modClock fun c => { c with turrets := c.turrets.map fun t => { t with f := fOfPpb a } }).setReg .TCK_RATE_PPB (f32OfRat a)

/-- Holdover entered: F holds the mean of the last 64 corrections applied; events 0x3001 and 0x3003 with the cause (R97). -/
def State.enterHoldover (s : State) (cause : Nat) : State :=
  if s.reg .TCK_STATE = stHoldover then s
  else
    let ap := s.clock.applied
    let s1 := if ap.isEmpty then s else s.setF (ap.sum / ap.length)
    ((s1.setServo stHoldover).modClock fun c => { c with holdoverSince := s.now }).post 0x3003 4 cause

/-- The selected grandmaster is lost: before the first step to FREE, with the samples discarded (R92); after it to HOLDOVER
(R97). -/
def State.loseGm (s : State) (cause : Nat) : State :=
  if s.clock.stepped then s.enterHoldover cause
  else (s.modClock fun c => { c with acquire := [] }).setServo stFree

/-- The grandmaster dropped: TCK_GM_ID and TCK_SLAVE_PORT read 0. -/
def State.dropGm (s : State) : State :=
  ((s.setReg .TCK_GM_ID 0).setReg .TCK_SLAVE_PORT 0).setBit .TCK_FLAGS 5 false

/-- R91: on a software-mode slave port the thresholds in force are at least these. -/
def State.softPort (s : State) (port : Nat) : Bool := s.reg (.TCK_TS_MODE (port + 1)) == 1

/-- The jump threshold in force, in ns (R86, R91). -/
def State.jumpNs (s : State) (port : Nat) : Nat :=
  if s.softPort port then max (s.reg .TCK_JUMP_NS) 20000 else s.reg .TCK_JUMP_NS

/-- The lock threshold in force, in ns (R86, R91). -/
def State.lockNs (s : State) (port : Nat) : Nat :=
  if s.softPort port then max (s.reg .TCK_LOCK_NS) 5000 else s.reg .TCK_LOCK_NS

/-- C_rx and C_tx in ps of a port at its speed and FEC (R88). -/
def tsConst (port speed fec : Nat) : Nat × Nat :=
  if port = 2 then (174080, 112640)
  else if speed = 0 then (if fec = 0 then (38400, 24320) else if fec = 1 then (122880, 33280) else (289280, 51200))
  else (if fec = 0 then (96000, 60160) else (307200, 70400))

/-- TCK_TS_CONST of every port for the speed and FEC in force (R86, R88): C_rx in [31:0], C_tx in [63:32]. -/
def State.loadTsConst (s : State) : State :=
  [0, 1, 2].foldl (fun s p =>
    let c := tsConst p (s.reg (.NET_SPEED (p + 1))) (s.reg (.NET_FEC (p + 1)))
    s.setReg (.TCK_TS_CONST (p + 1)) (c.1 + c.2 * 2 ^ 32)) s

/-- A receive timestamp in ns, corrected to the ball and the line (R89), or by the interrupt latency in software mode
(R91). -/
def State.correctRx (s : State) (port : Nat) (stamp : Int) : Rat :=
  let t : Rat := (stamp : Rat) / 2 ^ 32
  if s.softPort port then t - s.reg .TCK_SW_TS_COMP
  else
    let c := tsConst port (s.reg (.NET_SPEED (port + 1))) (s.reg (.NET_FEC (port + 1)))
    t - ((c.1 + s.reg (.TCK_EXT_DELAY_RX (port + 1)) : Nat) : Rat) / 1000

/-- A transmit timestamp in ns, corrected to the ball and the line (R89), or by the interrupt latency in software mode
(R91). -/
def State.correctTx (s : State) (port : Nat) (stamp : Int) : Rat :=
  let t : Rat := (stamp : Rat) / 2 ^ 32
  if s.softPort port then t - s.reg .TCK_SW_TS_COMP
  else
    let c := tsConst port (s.reg (.NET_SPEED (port + 1))) (s.reg (.NET_FEC (port + 1)))
    t + ((c.2 + s.reg (.TCK_EXT_DELAY_TX (port + 1)) : Nat) : Rat) / 1000

/-! Captures -/

/-- TIME_VALID, HOLDOVER and the instant put into the FIFO of a channel; a full FIFO drops the new record (R114, R115). -/
def State.captureOn (s : State) (ch : Nat) (stamp : Nat) (falling : Bool) : State :=
  let c := nth s.clock.captures ch ⟨[], 0⟩
  if 16 ≤ c.fifo.length then (s.bump (.CAP_LOST ch)).post 0x3031 3 ch
  else
    let rec' : Capture := ⟨stamp, falling, s.timeValid, s.reg .TCK_STATE == stHoldover, c.seq⟩
    let s1 := (s.modClock fun k => { k with
      captures := modNth k.captures ch fun c => ⟨c.fifo ++ [rec'], (c.seq + 1) % 65536⟩ }).bump (.CAP_COUNT ch)
    if s.flag (.CAP_EVENT ch) then s1.post 0x3030 1 (ch + ((stamp / 2 ^ 32) % 2 ^ 39) * 8) else s1

/-- Every armed channel whose source fired stores a record (R114). -/
def State.capture (s : State) (source stamp : Nat) : State :=
  (List.range 8).foldl (fun s ch =>
    if s.flag (.CAP_ENABLE ch) ∧ s.reg (.CAP_SOURCE ch) = source then s.captureOn ch stamp false else s) s

/-- The octets of a CAP_POP read (R115). -/
def captureOctets : Option Capture → List Octet
  | some c =>
    leOctets 8 (c.time / 2 ^ 32) ++ leOctets 4 (c.time % 2 ^ 32) ++
      [BitVec.ofNat 8 (b2n c.falling + 2 * b2n c.timeValid + 4 * b2n c.holdover), 1] ++ leOctets 2 c.seq
  | none => List.replicate 16 0

/-- A read of CAP_POP: the oldest record, removed (R115). -/
def State.capPop (s : State) (ch : Nat) : State :=
  if 8 ≤ ch then s.reply 2
  else
    let c := nth s.clock.captures ch ⟨[], 0⟩
    let s1 := s.modClock fun k => { k with captures := modNth k.captures ch fun c => { c with fifo := c.fifo.tail } }
    (s1.reply 0).emit (.data (captureOctets c.fifo.head?))

/-- CAP_POP. A read that removes data asks level 1 (R468). -/
def execCapPop (dt who channel : Nat) (s : State) : Host.Outcome State Fault Refusal :=
  run s dt fun s => s.asReader who fun s => s.capPop channel

/-- BELL_EDGE: a level that has held for heldNs is stamped by every channel that names the pin, whose edge setting fits and
whose deglitch time it has outlasted. The stamp is the first tick of the new level. Of edges less than 10 ns apart only the
first is stamped (R114, R116). -/
def execBellEdge (dt pin : Nat) (falling : Bool) (heldNs : Nat) (s : State) : Host.Outcome State Fault Refusal :=
  run s dt fun s =>
    let stamp := (s.time96 + 2 ^ 96 - heldNs * 2 ^ 32) % 2 ^ 96
    if 8 ≤ pin then s
    else
      let near := match nth s.clock.lastEdge pin none with
        | some t => decide (t ≤ stamp ∧ stamp - t < 10 * 2 ^ 32)
        | none => false
      if near then s
      else
        let s0 := s.modClock fun c => { c with lastEdge := modNth c.lastEdge pin fun _ => some stamp }
        (List.range 8).foldl (fun s ch =>
          let edge := s.reg (.CAP_EDGE ch)
          if s.flag (.CAP_ENABLE ch) ∧ s.reg (.CAP_SOURCE ch) = pin ∧ (edge = 2 ∨ edge = b2n falling) ∧
              s.reg (.CAP_DEGLITCH ch) ≤ heldNs then s.captureOn ch stamp falling else s) s0

/-! Servo -/

/-- An offset sample accepted and applied in LOCKING or LOCKED (R94). -/
def State.applySample (s : State) (smp : ClockSample) : State :=
  let s0 := s.modClock fun c => { c with lastAccepted := some smp.at_ }
  match s.clock.lastAccepted with
  | none => s0
  | some t =>
    let tau := (smp.at_ - t) / 1000000000
    if tau ≤ 0 then s0
    else
      let f := s.clock.freq - smp.offset / (64 * tau)
      let p := max (-10000) (min 10000 (smp.offset / (8 * tau)))
      let a := max (-200000) (min 200000 (f - p))
      (s0.modClock fun c => { c with freq := f, applied := (a :: c.applied).take 64 }).setF a

/-- The runs of LOCKING and LOCKED after a sample (R92). -/
def State.lockRuns (s : State) (within : Bool) : State :=
  if s.reg .TCK_STATE = stLocking then
    let n := if within then s.clock.withinRun + 1 else 0
    let s1 := s.modClock fun c => { c with withinRun := n }
    if 16 ≤ n then s1.setServo stLocked else s1
  else if s.reg .TCK_STATE = stLocked then
    let n := if within then 0 else s.clock.beyondRun + 1
    let s1 := s.modClock fun c => { c with beyondRun := n }
    if 4 ≤ n then s1.setServo stLocking else s1
  else s

/-- A sample refused under the jump rule; the fourth in a row sets JUMP_REFUSED and enters HOLDOVER (R95). It lies beyond the
lock threshold too, so it ends or lengthens the runs of R92. -/
def State.refuseSample (s : State) (smp : ClockSample) : State :=
  let n := s.clock.refusedRun + 1
  let s1 := (s.bump .TCK_REFUSED).modClock fun c => { c with refusedRun := n, returnRun := 0 }
  if n = 4 then
    ((s1.enterHoldover 3).setBit .TCK_FLAGS 1 true).post 0x3004 6 (satSigned 42 (roundRat smp.offset))
  else s1.lockRuns false

/-- One offset sample in the state the servo is in (R92 to R97). -/
def State.sample (s : State) (port : Nat) (smp : ClockSample) : State :=
  let s := (s.setInt .TCK_OFFSET (roundRat smp.offset)).modClock fun c => { c with history := (smp :: c.history).take 16 }
  let st := s.reg .TCK_STATE
  let mag := if smp.offset < 0 then -smp.offset else smp.offset
  if st = stFree then s
  else if st = stAcquire then s.modClock fun c => { c with acquire := (c.acquire ++ [smp]).take 16 }
  else if (s.jumpNs port : Rat) < mag then s.refuseSample smp
  else
    let s := s.modClock fun c => { c with refusedRun := 0 }
    if st = stHoldover then
      if bitOf (s.reg .TCK_FLAGS) 1 then s
      else
        let n := s.clock.returnRun + 1
        let s1 := s.modClock fun c => { c with returnRun := n }
        if 4 ≤ n then s1.setServo stLocking else s1
    else (s.applySample smp).lockRuns (decide (mag ≤ (s.lockNs port : Rat)))

/-- The mean path delay in use, in ns: the mean of the last 16 measured, or under profile 2 the sum reported (R94). -/
def State.meanPath (s : State) (linkSum : Int) : Rat :=
  if s.reg .TCK_PROFILE = 2 then (linkSum : Rat) / 65536
  else if s.clock.paths.isEmpty then 0
  else s.clock.paths.sum / s.clock.paths.length

/-- SYNC_RECEIVE: a Sync of the selected grandmaster on the slave port, in the domain in use, gives one offset sample (R83,
R89, R94). Capture source 32 takes its corrected receive timestamp (R116). -/
def execSyncReceive (dt : Nat) (m : PtpSync) (s : State) : Host.Outcome State Fault Refusal :=
  run s dt fun s =>
    if m.domain ≠ s.reg .TCK_DOMAIN ∨ s.reg .TCK_GM_ID = 0 ∨ m.clockId ≠ s.reg .TCK_GM_ID ∨
        m.port + 1 ≠ s.reg .TCK_SLAVE_PORT then s
    else
      let t2 := s.correctRx m.port m.rxStamp
      let asym : Rat := (s.regInt (.TCK_ASYMMETRY (m.port + 1)) : Rat) / 1000
      let delta := t2 - m.originNs - (m.correction : Rat) / 65536 - asym
      let mp := s.meanPath m.linkSum
      let s1 := s.setReg .TCK_MEAN_PATH (roundRat mp).toNat
      let s2 := s1.modClock fun c => { c with syncDelta := some delta }
      let s3 := s2.capture 32 ((t2 * 2 ^ 32).floor.toNat)
      (s3.setBit .TCK_FLAGS 5 (s.softPort m.port)).sample m.port ⟨t2, delta - mp⟩

/-- DELAY_RESP_RECEIVE: end to end, the mean of both directions; peer to peer, the delay of one link and the rate ratio of its
neighbour (R85, R94). The unit's own stamps, t3 of the first and t1 and t4 of the second, are corrected here (R89). -/
def execDelayRespReceive (dt : Nat) (m : PtpDelay) (s : State) : Host.Outcome State Fault Refusal :=
  run s dt fun s =>
    if m.domain ≠ s.reg .TCK_DOMAIN then s
    else
      let c : Rat := (m.correction : Rat) / 65536
      if m.peer then
        if s.reg .TCK_PROFILE ≠ 2 ∨ 2 ≤ m.port then s
        else
          let d : Rat := s.correctRx m.port m.t4 - s.correctTx m.port m.t1 - ((m.t3 - m.t2 : Int) : Rat) / 2 ^ 32 - c
          s.modClock fun k => { k with linkDelay := modNth k.linkDelay m.port fun _ => (d / 2, m.rateRatioPpb) }
      else if s.reg .TCK_PROFILE = 2 ∨ m.port + 1 ≠ s.reg .TCK_SLAVE_PORT then s
      else
        match s.clock.syncDelta with
        | none => s
        | some fwd =>
          let asym : Rat := (s.regInt (.TCK_ASYMMETRY (m.port + 1)) : Rat) / 1000
          let back : Rat := (m.t4 : Rat) / 2 ^ 32 - s.correctTx m.port m.t3 - c + asym
          let paths := (((fwd + back) / 2) :: s.clock.paths).take 16
          (s.modClock fun k => { k with paths := paths }).setReg .TCK_MEAN_PATH (roundRat (paths.sum / paths.length)).toNat

/-- PDELAY_REQ_RECEIVE: answered on NETA and NETB under profile 2 (R83). -/
def execPdelayReqReceive (dt port seq : Nat) (s : State) : Host.Outcome State Fault Refusal :=
  run s dt fun s => if s.reg .TCK_PROFILE = 2 ∧ port < 2 then s.emit (.pdelayResp port seq) else s

/-- Whether one data set is better than another: the fields of IEEE 1588-2019 in order, then the identity. Where both
chain ports see the same grandmaster, NETA is the better (R84). -/
def betterMaster (a b : PtpAnnounce) : Bool :=
  let key := fun (m : PtpAnnounce) =>
    [m.priority1, m.clockClass, m.accuracy, m.variance, m.priority2, m.gmId, m.port, m.stepsRemoved]
  let rec lt : List Nat → List Nat → Bool
    | x :: xs, y :: ys => if x < y then true else if y < x then false else lt xs ys
    | _, _ => false
  lt (key a) (key b)

/-- The ports that may be the slave port: the one fixed, or NETA and NETB in auto (R84). -/
def State.portAllowed (s : State) (port : Nat) : Bool :=
  if s.reg .TCK_PTP_PORT = 0 then Nat.blt port 2 else port + 1 == s.reg .TCK_PTP_PORT

/-- The best of the qualified grandmasters: two Announce messages heard, on an allowed port (R84; log entry 12). -/
def State.bestMaster (s : State) : Option PtpAnnounce :=
  (s.clock.masters.filter fun m => Nat.ble 2 m.heard && s.portAllowed m.announce.port).foldl
    (fun best m => match best with
      | none => some m.announce
      | some b => if betterMaster m.announce b then some m.announce else some b) none

/-- The best grandmaster selected: event 0x3006 for a clockIdentity that differs from the last selected; the state is kept,
but for FREE, which becomes ACQUIRE (R84, R92, R96). -/
def State.selectMaster (s : State) : State :=
  match s.bestMaster with
  | none => s
  | some m =>
    let changed := decide (s.clock.lastGm ≠ some m.gmId)
    let s1 := ((s.setReg .TCK_GM_ID m.gmId).setReg .TCK_SLAVE_PORT (m.port + 1)).setInt .TCK_UTC_OFFSET m.utcOffset
    let s2 := if changed then s1.modClock fun c => { c with acquire := [], history := [] } else s1
    let s3 := if changed then (s2.modClock fun c => { c with lastGm := some m.gmId }).post 0x3006 3 m.gmId else s2
    if s3.reg .TCK_STATE = stFree then s3.setServo stAcquire else s3

/-- ANNOUNCE_RECEIVE (R83, R84, R96). -/
def execAnnounceReceive (dt : Nat) (m : PtpAnnounce) (s : State) : Host.Outcome State Fault Refusal :=
  run s dt fun s =>
    if m.domain ≠ s.reg .TCK_DOMAIN then s
    else
      let same := fun (x : ForeignMaster) => x.announce.gmId == m.gmId && x.announce.port == m.port
      let heard := match s.clock.masters.find? same with
        | some x => x.heard + 1
        | none => 1
      let s1 := s.modClock fun c => { c with masters := (c.masters.filter fun x => !same x) ++ [⟨m, heard⟩] }
      s1.selectMaster

/-- SYNC_TIMEOUT: three sync intervals without Sync. In ACQUIRE collection starts again (R93); in LOCKING and LOCKED the unit
enters HOLDOVER (R97). -/
def execSyncTimeout (dt : Nat) (s : State) : Host.Outcome State Fault Refusal :=
  run s dt fun s =>
    let st := s.reg .TCK_STATE
    if st = stAcquire then s.modClock fun c => { c with acquire := [] }
    else if st = stLocking ∨ st = stLocked then s.enterHoldover 0
    else s

/-- ANNOUNCE_TIMEOUT: the selected grandmaster's Announce receipt timeout expires. Another qualified one is selected; with
none, the unit goes to FREE or HOLDOVER (R92, R97). -/
def execAnnounceTimeout (dt : Nat) (s : State) : Host.Outcome State Fault Refusal :=
  run s dt fun s =>
    let gm := s.reg .TCK_GM_ID
    if gm = 0 then s
    else
      let s1 := s.modClock fun c => { c with masters := c.masters.filter fun m => m.announce.gmId != gm }
      match s1.bestMaster with
      | some _ => s1.selectMaster
      | none => s1.dropGm.loseGm 1

/-- HOLDOVER_LIMIT: holdover has lasted TCK_HOLDOVER_LIMIT (R97). -/
def execHoldoverLimit (dt : Nat) (s : State) : Host.Outcome State Fault Refusal :=
  run s dt fun s =>
    let secs := (s.now - s.clock.holdoverSince) / 1000000000
    if s.reg .TCK_STATE = stHoldover ∧ bitOf (s.reg .TCK_FLAGS) 2 = false ∧ s.reg .TCK_HOLDOVER_LIMIT ≤ secs then
      (s.setBit .TCK_FLAGS 2 true).post 0x3005 5 (secs % 2 ^ 32)
    else s

/-- A write of TCK_REACQUIRE_AT with a time: accepted except in FREE and ACQUIRE, and at least 100 ms ahead (R98). -/
def State.reacquireSchedule (s : State) (t : Nat) : State :=
  if s.reg .TCK_STATE = stFree ∨ s.reg .TCK_STATE = stAcquire ∨ t < s.now + 100000000 then s.reply 8
  else (s.setReg .TCK_REACQUIRE_AT t).reply 0

/-- A write of 0: withdraws a pending re-acquire, or is already complete (R99). -/
def State.reacquireCancel (s : State) : State :=
  if s.reg .TCK_REACQUIRE_AT = 0 then s.reply 15 else (s.setReg .TCK_REACQUIRE_AT 0).reply 0

/-- REACQUIRE_SCHEDULE. -/
def execReacquireSchedule (dt who time : Nat) (s : State) : Host.Outcome State Fault Refusal :=
  run s dt fun s => s.asWriter who .TCK_REACQUIRE_AT fun s =>
    if time = 0 then s.reacquireCancel else s.reacquireSchedule time

/-- REACQUIRE_CANCEL. -/
def execReacquireCancel (dt who : Nat) (s : State) : Host.Outcome State Fault Refusal :=
  run s dt fun s => s.asWriter who .TCK_REACQUIRE_AT fun s => s.reacquireCancel

/-- The restart of the PTP client (R601): the grandmaster dropped; before the first step FREE, after it HOLDOVER, cause 1. -/
def State.ptpRestart (s : State) : State :=
  ((s.modClock fun c => { c with masters := [], paths := [], syncDelta := none, acquire := [] }).dropGm).loseGm 1

/-- TCK_PROFILE with the domain and the transport it loads (R87). -/
def State.loadPtp (s : State) (value : Nat) : State :=
  ((s.setReg .TCK_PROFILE value).setReg .TCK_DOMAIN (if value = 0 then 127 else 0)).setReg .TCK_TRANSPORT (if value = 2 then 1 else 0)

/-- A write of TCK_PROFILE, TCK_DOMAIN, TCK_PTP_PORT or TCK_TRANSPORT (R86, R87, R601). -/
def State.ptpConfigWrite (s : State) (index value : Nat) : State :=
  let r : Reg := ⟨index, 0⟩
  if index < 0x3020 ∨ 0x3023 < index then s.reply 2
  else if inRange r value = false then s.reply 8
  else if s.reg .TCK_PROFILE = 2 ∧ ((index = 0x3021 ∧ value ≠ 0) ∨ (index = 0x3023 ∧ value = 0)) then s.reply 8
  else
    let s1 := if index = 0x3020 then s.loadPtp value else s.setReg r value
    if [Reg.TCK_PROFILE, .TCK_DOMAIN, .TCK_PTP_PORT, .TCK_TRANSPORT].all fun q => s1.reg q == s.reg q then s.reply 0
    else s1.ptpRestart.reply 0

/-- PTP_CLIENT_RESTART (R601). -/
def execPtpClientRestart (dt who index value : Nat) (s : State) : Host.Outcome State Fault Refusal :=
  run s dt fun s => s.asWriter who .TCK_PROFILE fun s => s.ptpConfigWrite index value

/-! Turrets -/

/-- The vote has failed: the turret value nearest the previous voted time plus INC becomes the voted time of every turret in
use; TIME_VALID clears and TCK_FLAGS[4] sets until reset (R105). Capture source 33 fires. Scan-out goes
on unaligned (R268). -/
def State.voteFail (s : State) (values : List Nat) : State :=
  let want := s.time96
  let dist := fun (v : Nat) => if v < want then want - v else v - want
  let best := values.foldl (fun b v => if dist v < dist b then v else b) (values.headD want)
  let inUse := match s.clock.excluded with
    | none => 7
    | some k => 7 - 2 ^ k
  let s1 := s.modClock fun c => { c with turrets := c.turrets.map fun t => { t with time := best % 2 ^ 96 } }
  let s2 := (((s1.setBit .TCK_FLAGS 0 false).setBit .TCK_FLAGS 4 true).post 0x3012 7 inUse).capture 33 (best % 2 ^ 96)
  if s.scan.gridOn then (s2.setReg .SCN_STATE 3).post 0x8030 6 inUse else s2

/-- VOTE_FAILURE: the turrets hold the values given, all differing, or the two in use differing (R105). -/
def execVoteFailure (dt a b c : Nat) (s : State) : Host.Outcome State Fault Refusal :=
  run s dt fun s =>
    let vs := match s.clock.excluded with
      | none => [a, b, c]
      | some k => [a, b, c].eraseIdx k
    if vs.Nodup then s.voteFail vs else s

/-- A turret corrected (R103); three times within any 1 s window, it is excluded until reset (R104). -/
def State.turretCorrect (s : State) (k : Nat) : State :=
  let now := s.ticks
  let recent := (now, k) :: s.clock.corrections.filter fun p => Nat.ble (now - p.1) 781250000
  let s1 := ((s.bump (.TCK_TURRET_CORRECTED (k + 1))).post 0x3010 5 k).modClock fun c => { c with corrections := recent }
  let s2 := s1.capture 33 s.time96
  if 3 ≤ (recent.filter fun p => p.2 == k).length then
    (((s2.modClock fun c => { c with excluded := some k }).setReg .TCK_TURRET_EXCLUDED (k + 1)).setBit .TCK_FLAGS 3 true).post
      0x3011 6 k
  else s2

/-- TURRET_MISMATCH: one turret differs in time or F from the others. With three in use it is outvoted and reloaded (R103);
with two in use the vote fails (R105). -/
def execTurretMismatch (dt turret time f : Nat) (s : State) : Host.Outcome State Fault Refusal :=
  run s dt fun s =>
    if 3 ≤ turret then s
    else if (nth s.clock.turrets turret Turret.reset) = ⟨time, f⟩ then s
    else match s.clock.excluded with
      | none => s.turretCorrect turret
      | some k => if k = turret then s else s.voteFail [s.time96, time]

/-! Comparators and BELL pins -/

/-- A comparator changed. -/
def State.modCmp (s : State) (n : Nat) (f : Comparator → Comparator) : State :=
  s.modClock fun c => { c with comparators := modNth c.comparators n f }

/-- A comparator. -/
def State.cmp (s : State) (n : Nat) : Comparator := nth s.clock.comparators n Comparator.reset

/-- Instance k of a comparator in 2^-32 ns: TARGET + k × PERIOD, computed exactly (R110). -/
def Comparator.instant (c : Comparator) (k : Nat) : Nat := c.target + k * c.period

/-- Whether instance k exists: one instance with no period, at most REPEAT of them where REPEAT is not 0 (R109). -/
def Comparator.hasInstance (c : Comparator) (k : Nat) : Bool :=
  (c.period != 0 || k == 0) && (c.repeatCount == 0 || Nat.blt k c.repeatCount)

/-- The number of the first instance at or after an instant. -/
def Comparator.firstAt (c : Comparator) (t : Nat) : Nat :=
  if t ≤ c.target then 0
  else if c.period = 0 then 1
  else (t - c.target + c.period - 1) / c.period

/-- CMP_NEXT shows the next instance in force, 0 when disarmed (R109). -/
def State.showNext (s : State) (n : Nat) : State :=
  let c := s.cmp n
  s.setReg (.CMP_NEXT n) (if c.armed then c.instant c.next / 2 ^ 32 else 0)

/-- A comparator moved on to instance k, disarmed where no such instance exists. -/
def State.moveTo (s : State) (n k : Nat) : State :=
  (s.modCmp n fun c => { c with next := k, lateDue := false, armed := c.hasInstance k }).showNext n

/-- The level of an output BELL pin: idle at the inactive level of CMP_POLARITY, active during a pulse (R113). -/
def Comparator.bellLevel (c : Comparator) : Bool := c.pulse != c.polarity

/-- A pulse ended: the pin of comparator 5 + n returns to its inactive level (R113). -/
def State.endPulse (s : State) (n : Nat) : State :=
  if (s.cmp n).pulse then
    let s1 := s.modCmp n fun c => { c with pulse := false }
    s1.emit (.bell (n - 5) (s1.cmp n).bellLevel)
  else s

/-- A comparator moved past the instances before an instant under policy 0: they count as skipped (R111, R112). -/
def State.skipTo (s : State) (n t : Nat) : State :=
  let c := s.cmp n
  let k := c.firstAt t
  let last := if c.repeatCount = 0 then k else min k c.repeatCount
  let skipped := if c.period = 0 then (if k = 0 then 0 else 1 - c.next) else last - c.next
  if c.armed ∧ c.next < k then
    let s1 := (s.moveTo n k).bump (.CMP_SKIPPED n) skipped
    if skipped = 0 then s1 else s1.post 0x3021 3 (n + (skipped % 2 ^ 32) * 16)
  else s

/-- Why a commit is refused: 1 period, 2 width, 3 action on this comparator, 4 pin is an input (R109, R117). -/
def State.cmpRefusal (s : State) (n : Nat) : Option Nat :=
  let period := s.reg (.CMP_PERIOD n)
  let action := s.reg (.CMP_ACTION n)
  let whole := period * 2 ^ 32 + s.reg (.CMP_PERIOD_FRAC n)
  if whole ≠ 0 ∧ period < 100 then some 1
  else if action = 1 ∧ whole ≠ 0 ∧ whole ≤ s.reg (.CMP_WIDTH n) * 2 ^ 32 then some 2
  else if action = 1 ∧ (n < 5 ∨ 12 < n) then some 3
  else if action = 1 ∧ s.reg (.TCK_BELL_DIR (n - 4)) = 0 then some 4
  else none

/-- A firing of one of the comparators 0 to 4, which blocks of the unit own (R107): it counts, and captures that name it take it (R114). -/
def State.ownFire (s : State) (n : Nat) : State := (s.bump (.CMP_FIRED n)).capture (16 + n) s.time96

/-- The staged settings of a comparator applied (R109, R111). -/
def State.cmpApply (s : State) (n : Nat) : State :=
  let s0 := if s.flag (.CMP_ENABLE n) then s else s.endPulse n
  let s1 := s0.modCmp n fun c => {
    armed := s.flag (.CMP_ENABLE n)
    action := s.reg (.CMP_ACTION n)
    target := s.reg (.CMP_TARGET n) * 2 ^ 32 + s.reg (.CMP_TARGET_FRAC n)
    period := s.reg (.CMP_PERIOD n) * 2 ^ 32 + s.reg (.CMP_PERIOD_FRAC n)
    repeatCount := s.reg (.CMP_REPEAT n)
    width := s.reg (.CMP_WIDTH n)
    polarity := s.flag (.CMP_POLARITY n)
    policy := s.reg (.CMP_STEP_POLICY n)
    next := 0
    lateDue := false
    pulse := c.pulse }
  let c := s1.cmp n
  let s2 :=
    if c.armed ∧ c.target < s.time96 then
      if c.policy = 1 then (s1.modCmp n fun c => { c with lateDue := true }).showNext n else s1.skipTo n s.time96
    else s1.showNext n
  if 5 ≤ n ∧ n ≤ 12 ∧ s.reg (.TCK_BELL_DIR (n - 4)) = 1 then s2.emit (.bell (n - 5) (s2.cmp n).bellLevel) else s2

/-- Whether scan-out drives a comparator for a camera feed (R264). -/
def State.scanOwns (s : State) (n : Nat) : Bool :=
  s.scan.gridOn && (List.range (s.reg .SCN_FEEDS_OPER)).any fun f =>
    decide (s.reg (.SCN_FEED_BELL_OPER (13 + f)) < 8) && s.reg (.SCN_FEED_BELL_OPER (13 + f)) + 5 == n

/-- A write of 1 to CMP_COMMIT. Records of comparators 0 to 4 read RO (R107, R109). -/
def State.cmpCommit (s : State) (n : Nat) : State :=
  if n < 5 then s.reply 7
  else if 15 < n then s.reply 2
  else if s.scanOwns n then s.reply 8
  else match s.cmpRefusal n with
    | some r => (s.post 0x3023 4 (n + r * 16)).reply 8
    | none => (s.cmpApply n).reply 0

/-- CMP_COMMIT. -/
def execCmpCommit (dt who n : Nat) (s : State) : Host.Outcome State Fault Refusal :=
  run s dt fun s => s.asWriter who (.CMP_COMMIT n) fun s => s.cmpCommit n

/-- The action of a comparator that fires: a pulse, a Drum event, or captures (R109, R113, R114). -/
def State.cmpAction (s : State) (n : Nat) : State :=
  let c := s.cmp n
  if c.action = 1 then
    let s1 := s.modCmp n fun c => { c with pulse := true }
    s1.emit (.bell (n - 5) (s1.cmp n).bellLevel)
  else if c.action = 2 then s.post 0x3022 1 (n + s.reg (.CMP_FIRED n) * 16)
  else if c.action = 3 then s.capture (16 + n) s.time96
  else s

/-- An instance fires, late or in time (R110, R111). -/
def State.cmpFire (s : State) (n : Nat) (late : Bool) : State :=
  let k := (s.cmp n).next
  let s1 := s.bump (.CMP_FIRED n)
  let s2 := if late then (s1.bump (.CMP_LATE n)).post 0x3020 3 n else s1
  (s2.cmpAction n).moveTo n (k + 1)

/-- BELL_PULSE_END: the pulse of comparator n has lasted CMP_WIDTH, rounded up to whole ticks (R109, R113). -/
def execBellPulseEnd (dt n : Nat) (s : State) : Host.Outcome State Fault Refusal :=
  run s dt fun s => s.endPulse n

/-- The comparators after a step of venue time (R112): comparators 5 to 15 by their policy. -/
def State.cmpStep (s : State) (n old : Nat) : State :=
  let c := s.cmp n
  if c.armed = false then s
  else if c.policy = 1 then
    if old < s.time96 ∧ c.instant c.next ≤ s.time96 then
      let s1 := s.cmpFire n true
      s1.skipTo n s.time96
    else s
  else if s.time96 < old then s.moveTo n (c.firstAt s.time96)
  else s.skipTo n s.time96

end Sys2Proof.Machine
end

