-- ==== Sys2Proof/Machine/MemOps.lean ====
section
/-! DEFINITION. Rounds and modes of the memory arbiter (R394 to R403), and the decomposition of addresses (R384, R390). -/

namespace Sys2Proof.Machine

/-- The arbiter changed. -/
def State.modMem (s : State) (f : Mem → Mem) : State := { s with mem := f s.mem }

/-- Channel, bank, row and column of an address (R384). -/
def dramPlace (a : Nat) : Nat × Nat × Nat × Nat :=
  (Nat.xor (Nat.xor (field a 7 7) (field a 14 14)) (field a 21 21),
   Nat.xor (Nat.xor (field a 16 13) (field a 20 17)) (field a 24 21), field a 30 17, field a 12 8)

/-- Where copy B of a calibration cache page lies (R390). -/
def copyBAddress (a : Nat) : Nat := Nat.xor (a + 0x10000000) 0x2000

/-- The urgency of the scan-out port: the highest of its links (R398). -/
def State.portUrgency (s : State) : Nat := maxOf ((List.range 64).map fun k => s.reg (.SCN_LINK_URGENCY k))

/-- E of a port (R395, R398). -/
def State.effective (s : State) (port : Nat) : Nat :=
  let e := min 15 (s.reg (.MEM_REQ_CLASS (port - 1)) + nth s.mem.aging (port - 1) 0)
  if port = 1 ∧ s.portUrgency = 1 then max 14 e else e

/-- Whether one request has waited longer than another, the lower port among equals (R395). -/
def waitsLonger (a b : MemRequest) : Bool := Nat.blt a.since b.since || (a.since == b.since && Nat.blt a.port b.port)

/-- The longest waiter (R395). -/
def longestWaiter (rs : List MemRequest) : Option MemRequest :=
  rs.foldl (fun best r => match best with
    | none => some r
    | some b => if waitsLonger r b then some r else best) none

/-- The request with the highest E, ties by longest wait (R395). -/
def State.highest (s : State) (rs : List MemRequest) : Option MemRequest :=
  rs.foldl (fun best r => match best with
    | none => some r
    | some b =>
      let er := s.effective r.port
      let eb := s.effective b.port
      if eb < er ∨ (er = eb ∧ waitsLonger r b) then some r else best) none

/-- The winner of a round in normal mode, and whether the round was reserved (R395 to R398). -/
def State.roundWinner (s : State) : Option (MemRequest × Bool) :=
  let rs := s.mem.raised
  if (s.mem.grants + 1) % max 1 (s.reg .MEM_AGING_N) = 0 then (longestWaiter rs).map fun r => (r, true)
  else match rs.find? fun r => r.port == 1 && s.portUrgency == 2 with
    | some r => some (r, false)
    | none => (s.highest rs).map fun r => (r, false)

/-- A grant (R394, R405). -/
def State.grant (s : State) (r : MemRequest) : State :=
  let s1 := s.modMem fun m => { m with
    owner := some r.port, grantAt := s.ticks, overrun := false, raised := m.raised.filter fun x => x.port != r.port
    queue := m.queue.filter (· != r.port) }
  let wait := (s.ticks - r.since) * 128 / 100
  let s2 := s1.count (.MEM_REQ_GRANTS (r.port - 1))
  if s2.reg (.MEM_REQ_WAIT_MAX (r.port - 1)) < wait then s2.setReg (.MEM_REQ_WAIT_MAX (r.port - 1)) wait else s2

/-- Every loser of a round ages until its E reaches 15; the winner's count is 0 (R396). -/
def State.age (s : State) (winner : Nat) : State :=
  let losers := (s.mem.raised.map MemRequest.port).filter (· != winner)
  s.modMem fun m => { m with
    aging := m.aging.zipIdx.map fun (a, i) =>
      if i + 1 = winner then 0
      else if losers.contains (i + 1) && Nat.blt (s.reg (.MEM_REQ_CLASS i) + a) 15 then a + 1 else a }

/-- Ports that wait and are not yet queued enter the queue in order of waiting (R403). -/
def State.parkWaiting (s : State) : State :=
  let new := sortBy waitsLonger (s.mem.raised.filter fun r => !s.mem.queue.contains r.port)
  s.modMem fun m => { m with queue := m.queue ++ new.map MemRequest.port }

/-- A pending change of mode at a round boundary (R403). -/
def State.modeBoundary (s : State) : State :=
  match s.mem.newMode with
  | none => s
  | some m =>
    let old := s.reg .MEM_ARB_MODE
    let s1 := s.modMem fun x => { x with newMode := none }
    if m = old then s1
    else
      let s2 := (s1.setReg .MEM_ARB_MODE m).post 0xB030 2 (m + old * 4)
      if m = 1 then s2 else s2.parkWaiting

/-- A round (R394 to R397, R403): the memory has no owner, or its owner has issued its last command. -/
def State.round (s : State) : State :=
  let s0 := (s.modMem fun m => { m with owner := none }).modeBoundary
  if s0.reg .MEM_ARB_MODE = 1 then
    match s0.mem.queue with
    | p :: _ =>
      let r := (s0.mem.raised.find? fun r => r.port == p).getD ⟨p, s0.ticks⟩
      (s0.grant r).modMem fun m => { m with grants := m.grants + 1 }
    | [] =>
      match s0.roundWinner with
      | none => s0
      | some (r, reserved) =>
        let s1 := ((s0.age r.port).grant r).modMem fun m => { m with grants := m.grants + 1 }
        if reserved then s1.count .MEMCNT_RESERVED_GRANTS else s1
  else
    let s1 := s0.parkWaiting
    match s1.mem.queue with
    | p :: _ => s1.grant ((s1.mem.raised.find? fun r => r.port == p).getD ⟨p, s1.ticks⟩)
    | [] => s1

/-- A mode of R403 asked for: at once where nothing owns the memory, else at the next round. -/
def State.arbMode (s : State) (m : Nat) : State :=
  let s1 := s.modMem fun x => { x with newMode := some m }
  if s.mem.owner.isNone then s1.modeBoundary else s1

end Sys2Proof.Machine
end

