-- ==== Sys2Proof/Machine/Resolve.lean ====
section
/-! DEFINITION. What an epoch shows: the frames that bind to it (R130 to R137), the resolution of layers, fences and flip groups (R196 to
R201), and the instantiation of its graph (R152 to R160, R190, R223, R246). -/

namespace Sys2Proof.Machine

/-! Frames and buffers -/

/-- A frame of ingest. -/
def State.frameOf (s : State) (id : Nat) : Option IngestFrame := s.ingest.frames.find? fun f => f.id == id

/-- A frame changed. -/
def State.modFrame (s : State) (id : Nat) (f : IngestFrame → IngestFrame) : State :=
  s.modIngest fun g => { g with frames := g.frames.map fun x => if x.id = id then f x else x }

/-- A frame leaves ingest; its buffer and its cells of the packet buffer are free. -/
def State.dropFrame (s : State) (id : Nat) : State :=
  s.modIngest fun g => { g with frames := g.frames.filter fun x => x.id != id }

/-- An identity ingest no longer takes packets for. -/
def State.noteEnded (s : State) (stream time srcEpoch : Nat) : State :=
  s.modIngest fun g => { g with refused := ((stream, time, srcEpoch) :: g.refused).take 64 }

/-- A frame ends: it leaves ingest and its late packets are not taken. -/
def State.endFrame (s : State) (f : IngestFrame) : State := (s.dropFrame f.id).noteEnded f.stream f.time f.srcEpoch

/-- A complete frame leaves ingest and stays in force for its presentation time (R130). -/
def State.endInForce (s : State) (f : IngestFrame) : State :=
  (s.endFrame f).modIngest fun g => { g with ended := ((f.stream, f.time, f.srcEpoch) :: g.ended).take 64 }

/-- Whether every packet of a frame has come and its check holds. -/
def IngestFrame.isComplete (f : IngestFrame) : Bool :=
  match f.stage with
  | .complete _ => true
  | .assembling => false

/-- The order in which frames completed. -/
def IngestFrame.order (f : IngestFrame) : Nat :=
  match f.stage with
  | .complete n => n
  | .assembling => 0

/-- Whether some epoch in flight, or the last that left it, shows a frame (R120, R131). -/
def State.frameInUse (s : State) (f : IngestFrame) : Bool :=
  (s.epochs.any fun e => nth e.layers f.layer .waiting == .shows f.id || nth e.before f.layer .waiting == .shows f.id) ||
    nth s.ingest.lastShown f.layer .waiting == .shows f.id

/-- Buffers of shown frames that no epoch reads any more are released (R120, R131). -/
def State.collect (s : State) : State :=
  (s.ingest.frames.filter fun f => f.shown && !s.frameInUse f).foldl (fun s f => s.endInForce f) s

/-- Whether a frame is bound to an epoch or to an earlier one: T ≤ T_p + P/2 (R133, R135). -/
def Epoch.bindsOrEarlier (e : Epoch) (t : Nat) : Bool := decide (2 * nsUnits t ≤ 2 * e.tp + e.period)

/-- Complete frames of a layer that no epoch showed and that bind to an epoch or before it are skipped (R134, R135). -/
def State.skipUnshown (s : State) (e : Epoch) (layer : Nat) : State :=
  (s.ingest.frames.filter fun f => f.layer == layer && f.isComplete && !f.shown && e.bindsOrEarlier f.time &&
      f.replaces.isNone).foldl
    (fun s f => (s.count (.INGCNT_SKIPPED layer)).endInForce f) s

/-- The frame a layer may show in an epoch: of the frames bound to it, complete and in a buffer, the one that completed first
(R134). -/
def State.candidate (s : State) (e : Epoch) (layer : Nat) : Option IngestFrame :=
  let fs := s.ingest.frames.filter fun f =>
    f.layer == layer && f.isComplete && f.buffer.isSome && e.binds f.time && f.late.isNone && f.replaces.isNone
  fs.foldl (fun best f => match best with
    | none => some f
    | some b => if f.order < b.order then some f else best) none

/-- Whether a frame may flip: not fenced, or its release accepted (R197). -/
def IngestFrame.mayFlip (f : IngestFrame) : Bool := !f.fenced || f.released

/-- What a layer showed in the epoch before (R134, R198). -/
def State.prevShown (s : State) (e layer : Nat) : Resolution :=
  match s.epochOf ((e + 65535) % 65536) with
  | some x =>
    match nth x.layers layer .waiting with
    | .waiting => nth x.before layer .transparent
    | r => r
  | none => nth s.ingest.lastShown layer .transparent

/-! Occlusion and cancelled fetches -/

/-- Where a layer's frame lies on the canvas (R140). -/
def State.shownRect (s : State) (c : LayerConfig) (r : Resolution) : Rect :=
  match r with
  | .shows id =>
    match s.frameOf id with
    | some f => ⟨c.area.x + f.region.x, c.area.y + f.region.y, f.region.w, f.region.h⟩
    | none => ⟨0, 0, 0, 0⟩
  | _ => ⟨0, 0, 0, 0⟩

/-- A layer's configuration in an epoch. -/
def EpochConfig.layer (c : EpochConfig) (l : Nat) : LayerConfig :=
  nth c.layers l { enabled := false, area := ⟨0, 0, 0, 0⟩, format := 0, raster := false, crop := ⟨0, 0, 0, 0⟩, filter := 0, edge := 0,
                   rasterCode := 0, blend := 1, alpha := 255, key := 0, keyTol := 0, opaqueDecl := false,
                   opaqueRect := ⟨0, 0, 0, 0⟩, flipGroup := 0, timeout := 0 }

/-- The canvas rectangle of a brick in an epoch. -/
def EpochConfig.brick (c : EpochConfig) (b : Nat) : Rect := brickRect c.canvasW c.canvasH b

/-- Whether a layer is hidden in a brick by one above it (R196). -/
def EpochConfig.hides (c : EpochConfig) (layer brick : Nat) : Bool :=
  (c.order.drop (c.order.idxOf layer + 1)).any fun m =>
    let l := c.layer m
    l.enabled && l.opaqueDecl &&
      (c.brick brick).inside ⟨l.area.x + l.opaqueRect.x, l.area.y + l.opaqueRect.y, l.opaqueRect.w, l.opaqueRect.h⟩

/-- The FETCH of a layer in a brick once the layer is resolved: cancelled where the layer is hidden or transparent, else ready
(R155, R196). -/
def State.resolveFetch (s : State) (e : Epoch) (r : Resolution) (o : BelOp) : State :=
  if e.config.hides o.aux o.brick then (s.count (.CUPCNT_BRICKS_HIDDEN o.aux)).cancelOp o 2
  else if ((s.shownRect (e.config.layer o.aux) r).meet (e.config.brick o.brick)).area = 0 then
    (s.count (.CUPCNT_BRICKS_TRANSPARENT o.aux)).cancelOp o 2
  else s.makeReady o

/-- Waiting FETCH operations of a layer in an epoch. -/
def State.waitingFetches (s : State) (e layer : Nat) : List BelOp :=
  s.belfry.slots.filter fun o => o.code ≤ 1 && o.epoch == e && o.aux == layer && o.stage == .waiting

/-- The live assertions of the Finial layer as an epoch takes them: the vote over the three decision registers (R208, R209). -/
def State.decision (s : State) : Decision :=
  match s.cupola.decisions with
  | [a, b, c] => if a = b then a else if a = c then a else b
  | _ => Decision.reset

/-- Whether a layer takes part in an epoch and is still unresolved. -/
def Epoch.waits (e : Epoch) (layer : Nat) : Bool :=
  (e.config.layer layer).enabled && nth e.layers layer .waiting == .waiting

/-- While the partner joins at an epoch: what its layers show goes to the partner, and the rest once they are resolved (R457). -/
def State.feedPartner (s : State) (epoch : Nat) : State :=
  match s.epochOf epoch with
  | some e => s.feedEnd epoch ((List.range 8).any e.waits) s.decision
  | none => s

/-- Layer resolved (L, E): the epoch shows the choice, its FETCH operations become ready or are cancelled, a frame selected for
the first time counts as shown, and frames it passes over are skipped (R137, R155, R198). -/
def State.resolveLayer (s : State) (epoch layer : Nat) (r : Resolution) : State :=
  let s1 := s.modEpoch epoch fun x => { x with layers := setNth x.layers layer r }
  let s2 := match r with
    | .shows id =>
      match s1.frameOf id with
      | some f =>
        if f.shown then s1
        else ((s1.modFrame id fun f => { f with shown := true, cells := 0 }).count (.INGCNT_SHOWN layer)).count
          (.CUPCNT_FLIPS layer)
      | none => s1
    | _ => s1
  match s2.epochOf epoch with
  | none => s2
  | some e =>
    let s3 := (s2.waitingFetches epoch layer).foldl (fun s o => s.resolveFetch e r o) s2
    (((s3.skipUnshown e layer).collect).showQueues.feedLayer epoch layer r).feedPartner epoch

/-- Members of a flip group in an epoch (R199). -/
def Epoch.members (e : Epoch) (g : Nat) : List Nat :=
  (List.range 8).filter fun l => (e.config.layer l).enabled && (e.config.layer l).flipGroup == g

/-- Layer ready under case 1 of R134, raised once for an epoch; it ends a run of not ready (R136). -/
def State.raiseReady (s : State) (e : Epoch) (layer : Nat) : State :=
  if (s.candidate e layer).isNone ∨ e.ready.contains layer then s
  else
    let s1 := s.modEpoch e.epoch fun x => { x with ready := layer :: x.ready }
    if nth s.ingest.notReadyRun layer false then
      (s1.modIngest fun g => { g with notReadyRun := setNth g.notReadyRun layer false }).post 0x4008 2 (layer + e.epoch * 16)
    else s1

/-- Whether a layer has an eligible frame for an epoch (R198). -/
def State.eligible (s : State) (e : Epoch) (layer : Nat) : Option Nat :=
  match s.candidate e layer with
  | some f => if f.mayFlip then some f.id else none
  | none => none

/-- A layer resolves as soon as its rule lets it: alone, or with its flip group (R198, R199). -/
def State.tryLayer (s : State) (epoch layer : Nat) : State :=
  match s.epochOf epoch with
  | none => s
  | some e =>
    if !e.waits layer then s
    else
      let s1 := s.raiseReady e layer
      let g := (e.config.layer layer).flipGroup
      if g = 0 then
        match s1.eligible e layer with
        | some id => s1.resolveLayer epoch layer (.shows id)
        | none => s1
      else if (e.members g).all fun l => (s1.eligible e l).isSome then
        (e.members g).foldl (fun s l => match s.eligible e l with
          | some id => s.resolveLayer epoch l (.shows id)
          | none => s) s1
      else s1

/-- Every layer of an epoch tried. -/
def State.tryEpoch (s : State) (epoch : Nat) : State := (List.range 8).foldl (fun s l => s.tryLayer epoch l) s

/-- A layer tried in every epoch in flight. -/
def State.tryAll (s : State) (layer : Nat) : State := s.epochs.foldl (fun s e => s.tryLayer e.epoch layer) s

/-! Instantiation -/

/-- A content slot of a region. -/
def State.finialSlot (s : State) (region slot : Nat) : Option FinialSlot :=
  nth (nth s.cupola.content region []) slot none

/-- Finial regions an epoch is built with, lowest number first (R208). -/
def State.finialUses (s : State) : List FinialUse :=
  let d := s.decision
  (List.range 16).filterMap fun r =>
    if bitOf d.asserted r then
      (s.finialSlot r (nth d.slots r 0)).map fun c =>
        { region := r, blanked := bitOf d.blanked r, slot := nth d.slots r 0, rect := c.rect
          pixels := c.pixels.map fun p => p.getD 0 }
    else none

/-- A layer's configuration as its records stand, in a feed (R118, R214, R263). -/
def State.layerConfig (s : State) (feed l : Nat) : LayerConfig :=
  let kind := s.reg (.NET_STREAM_KIND (s.reg (.ING_SRC_ENTRY l)))
  let raster := s.reg (.ING_SRC_ENTRY l) != 255 && kind == 1
  { enabled := s.flag (.ING_LAYER_ENABLE l) && bitOf (s.reg (.SCN_FEED_LAYERS_OPER (9 + feed))) l
    area := ⟨s.reg (.ING_CANVAS_X l), s.reg (.ING_CANVAS_Y l), s.reg (.ING_LAYER_W l), s.reg (.ING_LAYER_H l)⟩
    format := if raster then 1 else s.reg (.ING_FORMAT l)
    raster := raster
    crop := ⟨s.reg (.ING_CROP_X l), s.reg (.ING_CROP_Y l), s.reg (.ING_CROP_W l), s.reg (.ING_CROP_H l)⟩
    filter := s.reg (.ING_SCALE_FILTER l)
    edge := s.reg (.ING_CROP_EDGE l)
    rasterCode := s.reg (.ING_2110_RASTER l)
    blend := s.reg (.CUP_BLEND l)
    alpha := s.reg (.CUP_ALPHA l)
    key := s.reg (.CUP_KEY l)
    keyTol := s.reg (.CUP_KEY_TOL l)
    opaqueDecl := s.flag (.CUP_OPAQUE_DECL l)
    opaqueRect := ⟨s.reg (.CUP_OPAQUE_X l), s.reg (.CUP_OPAQUE_Y l), s.reg (.CUP_OPAQUE_W l), s.reg (.CUP_OPAQUE_H l)⟩
    flipGroup := s.reg (.CUP_FLIP_GROUP l)
    timeout := s.reg (.ING_TIMEOUT l) }

/-- The layer order in force (R189). -/
def State.layerOrder (s : State) : List Nat :=
  if s.reg .CUP_ORDER_OPER_MODE = 1 then (List.range 8).map fun p => s.reg (.CUP_ORDER_OPER (p + 1)) else List.range 8

/-- The lamp map in force. -/
def State.lampMap (s : State) : List Nat :=
  (List.range 512).map fun k => s.reg (.SCN_LAMP_MAP_OPER (k + 1))

/-- The canvas of a map: the greatest column and row its runs and enabled lamp records reach (R250). -/
def mapCanvas (runs : List (List Nat)) (lamps : List Nat) : Nat × Nat :=
  let ends := (runs.flatten.map fun w => (runPixels w).foldl
    (fun (m : Nat × Nat) p => (max m.1 (p.1.toNat + 1), max m.2 (p.2.toNat + 1))) (0, 0)) ++
    (lamps.filter lampEnabled).map fun w => (lampX w + 1, lampY w + 1)
  ends.foldl (fun m p => (max m.1 p.1, max m.2 p.2)) (0, 0)

/-- What an epoch of a feed is built with now (R152). -/
def State.buildConfig (s : State) (feed : Nat) : EpochConfig :=
  let lamps := s.lampMap
  let canvas := mapCanvas s.scan.mapOper lamps
  { layers := (List.range 8).map fun l => s.layerConfig feed l
    order := s.layerOrder
    background := s.reg .CUP_BACKGROUND
    finial := s.finialUses
    failColour := s.reg .CUP_FIN_FAIL_COLOUR
    map := s.scan.mapOper
    lampMap := lamps
    canvasW := canvas.1
    canvasH := canvas.2
    compact := s.reg .CUP_COPY_FORMAT == 1
    feeds := s.reg .SCN_FEEDS_OPER
    dither := s.reg .SCN_DITHER
    live := (s.cal.zones.map CalZone.active).flatten
    depths := (List.range 64).map fun k => (List.range 32).map fun m => s.reg (.SCN_MODULE_DEPTH k (m + 1)) }

/-- Engine clocks of an amount of px-op (R156). -/
def opClocks (work : Nat) : Nat := max 1 ((work + 3) / 4)

/-- Operations of one brick: code, AUX and engine clocks counted from the configuration (R153, R156, R157). -/
def EpochConfig.brickOps (c : EpochConfig) (b : Nat) : List (Nat × Nat × Nat) :=
  let rect := c.brick b
  let layers := (List.range 8).filter fun l => (c.layer l).enabled && ((c.layer l).area.meet rect).area != 0
  let fetches := layers.map fun l =>
    let k := c.layer l
    let scaled := k.raster && (k.crop.w != k.area.w || k.crop.h != k.area.h)
    ((if scaled then 1 else 0), l, opClocks ((if scaled then 5 else 2) * (k.area.meet rect).area))
  let fin := (c.finial.map fun u => (u.rect.meet rect).area).sum
  let mapped := brickPixels c.map c.canvasW b
  let cal := (mapped.map fun p => if runRgbw p.run then 12 else 6).sum
  let links := dedupFrom [] (mapped.map MappedPixel.link)
  fetches ++ (if c.finial.any fun u => (u.rect.meet rect).area != 0 then [(0, 8, opClocks (2 * fin))] else []) ++
    [(2, 0, opClocks (rect.area * max 1 layers.length)), (3, 0, opClocks cal), (4, 0, opClocks mapped.length),
     (5, 0, opClocks mapped.length)] ++
    links.map fun k => (6, k, opClocks (mapped.filter fun p => p.link == k).length)
where
  dedupFrom : List Nat → List Nat → List Nat
  | _, [] => []
  | seen, x :: xs => if seen.contains x then dedupFrom seen xs else x :: dedupFrom (x :: seen) xs

/-- The engine a brick is bound to: active, a context free, the fewest bound clocks, the lower number (R160). -/
def State.bindEngine (s : State) : Option Nat :=
  (s.belfry.engines.zipIdx.foldl (fun (best : Option (Nat × Nat)) (g, k) =>
    if g.active && Nat.blt g.contexts.length 12 then
      match best with
      | some (_, c) => if g.boundClocks < c then some (k, g.boundClocks) else best
      | none => some (k, g.boundClocks)
    else best) none).map (·.1)

/-- One operation instantiated in the lowest free slot (R158). -/
def State.addOp (s : State) (e : Epoch) (brick engine : Nat) (unmet : Nat) (op : Nat × Nat × Nat) : State :=
  let slot := freeSlot 0 s.belfry.slots
  let o : BelOp := { slot := slot, code := op.1, epoch := e.epoch, brick := brick, aux := op.2.1, engine := some engine, unmet := unmet
                     deadline := e.tc, clocks := op.2.2, stage := .waiting }
  let s1 := s.modBelfry fun b => { b with slots := insertSlot o b.slots }
  (s1.modEngine engine fun g => { g with boundClocks := g.boundClocks + op.2.2 }).trace (o.record 0 0 (s1.opPriority o) engine 0)

/-- Dependencies an operation starts with (R153). -/
def startUnmet (fetches code : Nat) : Nat := if code = 2 then fetches else 1

/-- One brick instantiated in one pass: its operations, its context, and what is already settled (R159, R160). -/
def State.addBrick (s : State) (e : Epoch) (brick engine : Nat) (ops : List (Nat × Nat × Nat)) : State :=
  let fetches := (ops.filter fun o => o.1 ≤ 1).length
  let s0 := s.modBelfry fun b => { b with traceQueue := 0 }
  let s1 := ops.foldl (fun s op => s.addOp e brick engine (startUnmet fetches op.1) op) s0
  let s2 := s1.modEngine engine fun g => { g with
    contexts := g.contexts ++ [{ epoch := e.epoch, brick := brick, fetched := [], composed := [], emitters := [] }] }
  let mine := s2.belfry.slots.filter fun o => o.code < 7 && o.epoch == e.epoch && o.brick == brick
  mine.foldl (fun s o =>
    if o.code ≤ 1 then
      if o.aux = 8 then s.makeReady o
      else match nth e.layers o.aux .waiting with
        | .waiting => s
        | r => s.resolveFetch e r o
    else if o.code = 2 && fetches == 0 then s.makeReady o
    else s) s2

/-- Instantiation of an epoch as far as slots and contexts allow (R159, R160). A stop counts once, when it begins (R185). -/
def State.addBricks (epoch : Nat) : Nat → State → State
  | 0, s => s
  | n + 1, s =>
    match s.epochOf epoch with
    | none => s
    | some e =>
      let brick := e.restart.headD e.nextBrick
      if brickCount e.config.canvasW e.config.canvasH ≤ brick then s
      else
        let ops := e.config.brickOps brick
        let free := slotCount - s.belfry.slots.length
        let oldest := (s.oldest.map Epoch.epoch) = some epoch
        let slots := decide (ops.length ≤ free) && (oldest || Nat.blt (s.reg .BEL_SLOT_RESERVE) free)
        match s.bindEngine, slots with
        | some k, true =>
          State.addBricks epoch n
            ((s.addBrick e brick k ops).modEpoch epoch fun x =>
              if x.restart.isEmpty then { x with nextBrick := x.nextBrick + 1, stopped := false }
              else { x with restart := x.restart.drop 1, stopped := false })
        | _, _ =>
          if e.stopped then s
          else
            let s1 := (s.count .BELCNT_SLOT_STALLS).modEpoch epoch fun x => { x with stopped := true, stalled := true }
            if e.stalled then s1 else s1.post 0x5005 4 (epoch + b2n slots * 65536)

/-- Instantiation resumed for every live epoch, oldest first (R159). -/
def State.resume (s : State) : State :=
  (s.epochs.filter fun e => e.stage == .live &&
      (!e.restart.isEmpty || Nat.blt e.nextBrick (brickCount e.config.canvasW e.config.canvasH))).foldl
    (fun s e => State.addBricks e.epoch 4096 s) s

/-- GRAPH_CLOCKS and the number of operations of a graph (R157). -/
def EpochConfig.graph (c : EpochConfig) : Nat × Nat :=
  (List.range (brickCount c.canvasW c.canvasH)).foldl (fun (acc : Nat × Nat) b =>
    let ops := c.brickOps b
    (acc.1 + (ops.map fun o => o.2.2).sum, acc.2 + ops.length)) (0, 0)

/-- Engine clocks a period offers: 16 × P / 2.56 ns (R157). -/
def budgetClocks (period : Nat) : Nat := 16 * period * 100 / (256 * 2 ^ 32)

/-- The budget check (R157). -/
def State.budget (s : State) (e : Epoch) : State :=
  let have_ := budgetClocks e.period
  if have_ * s.reg .BEL_BUDGET_PCT < 100 * e.graphClocks then
    ((s.count .BELCNT_OVER_BUDGET).post 0x5003 3 (e.epoch + clampNat 65535 (e.graphClocks * 1000 / max 1 have_) * 65536)).trace
      (plainRecord 12 0 e.epoch 0 0 (e.graphClocks / 1024))
  else s

/-- The administrative layer order in force (R190). -/
def State.orderInstall (s : State) : State :=
  let s1 := s.setReg .CUP_ORDER_OPER_MODE (s.reg .CUP_ORDER_ADMIN_MODE)
  (List.range 8).foldl (fun t p => t.setReg (.CUP_ORDER_OPER (p + 1)) (s.reg (.CUP_ORDER_ADMIN (p + 1)))) s1

/-- A pending layer order swaps with the first epoch instantiated after its request (R190). -/
def State.orderSwap (s : State) (epoch : Nat) : State :=
  if s.reg .CUP_ORDER_CHANGE = 1 then ((s.orderInstall.setReg .CUP_ORDER_EPOCH epoch).setReg .CUP_ORDER_CHANGE 0).post 0x6001 2 epoch
  else s

/-- The load of a map in units (R34, R250). -/
def mapLoad (runs : List (List Nat)) (lamps : List Nat) : Nat :=
  (runs.flatten.map fun w => runLen w * (if runRgbw w then 2 else 1)).sum +
    ((lamps.filter lampEnabled).map fun w => if 6 ≤ lampOrder w then 2 else 1).sum

/-- Modules the operational map names that are absent or whose PIXELS disagree are excluded (R286). -/
def State.excludeModules (s : State) (k : Nat) : State :=
  let runs := nth s.scan.mapOper k []
  let named := (List.range 32).filter fun m => runs.any fun w => runModule w == m + 1
  named.foldl (fun s m =>
    match (s.link k).modules[m]? with
    | none => s.post 0x8807 4 (k + m * 64)
    | some d =>
      let px := ((runs.filter fun w => runModule w == m + 1).map runLen).sum
      if d.pixels = px then s.modLink k fun l => { l with modules := modNth l.modules m fun d => { d with excluded := false } }
      else (s.modLink k fun l => { l with modules := modNth l.modules m fun d => { d with excluded := true } }).post 0x8807 4
        (k + m * 64 + 2048)) s

/-- The administrative map in force: the operational copy, the sizes of the links, the load and the copy format (R34, R246, R250, R271). -/
def State.mapInstall (s : State) : State :=
  let lamps := (List.range 512).map fun k => s.reg (.SCN_LAMP_MAP_ADMIN (k + 1))
  let s1 := s.modScan fun n => { n with mapOper := n.mapAdmin, marks := List.replicate 3 [] }
  let s2 := (List.range 512).foldl (fun t k => t.setReg (.SCN_LAMP_MAP_OPER (k + 1)) (nth lamps k 0)) s1
  let s3 := (List.range 64).foldl (fun t k =>
    let runs := nth t.scan.mapOper k []
    (t.setReg (.SCN_LINK_RUNS k) runs.length).setReg (.SCN_LINK_PIXELS k) ((runs.map runLen).sum)) s2
  let canvas := mapCanvas s3.scan.mapOper lamps
  (s3.setReg .SCN_MAP_LOAD (mapLoad s3.scan.mapOper lamps)).setReg .CUP_COPY_FORMAT (if 2097152 < canvas.1 * canvas.2 then 1 else 0)

/-- A valid pending map swaps with the first epoch instantiated after its request (R246, R271), and the modules are judged by it (R248, R286). -/
def State.mapSwap (s : State) (epoch : Nat) : State :=
  if s.reg .SCN_MAP_CHANGE = 1 then
    let s1 := ((s.mapInstall.setReg .SCN_MAP_EPOCH epoch).setReg .SCN_MAP_CHANGE 0).count .SCNCNT_MAP_SWAPS
    let s2 := (s1.post 0x8003 2 epoch).suspendAll 1 (some epoch)
    ((List.range 64).foldl (fun t k => if t.reg (.SPL_STATE k) = 0 ∨ t.reg (.SPL_STATE k) = 1 then t else t.excludeModules k) s2).judgeGeometry
  else s

/-- The modules of a zone (R221). -/
def State.zoneModules (s : State) (z : Nat) : List (Nat × Nat) :=
  s.enumerated.filter fun p => s.reg (.CAL_MODULE_ZONE p.1 p.2) == z

/-- Whether a zone's finished pass may swap: alone, or with the zone it moved a module from or to, unless that zone holds none (R223,
R224). -/
def State.zoneSwaps (s : State) (z : CalZone) : Bool :=
  z.ready && (match z.partner with
    | none => true
    | some p => (nth s.cal.zones p CalZone.reset).ready || (s.zoneModules p).isEmpty)

/-- The live halves of zones whose pass is complete swap (R223), those of a pushed pass from the epoch the push names on (R452). A zone left
without a module keeps no live data once its partner swaps. -/
def State.halfSwap (s : State) (epoch : Nat) : State :=
  let swapping := (List.range 64).filter fun z => s.zoneSwaps (nth s.cal.zones z CalZone.reset) && s.pushAllows z epoch
  let emptied := (swapping.filterMap fun z => (nth s.cal.zones z CalZone.reset).partner).filter fun p => (s.zoneModules p).isEmpty
  let s1 := s.modCal fun c => { c with
    zones := c.zones.zipIdx.map fun (z, i) =>
      if swapping.contains i then { z with active := z.inactive, inactive := z.active, ready := false, partner := none }
      else if emptied.contains i then { z with active := [], inactive := [], partner := none } else z }
  let s2 := s1.modTwin fun t => { t with zonePushes := t.zonePushes.filter fun p => !swapping.contains p.zone }
  swapping.foldl (fun s z => s.setInt (.ZONE_BLEND_TEMP z) (nth s.cal.zones z CalZone.reset).blendTheta) s2

/-- The camera comparators follow the epochs in flight: the comparator of a pin that feeds name, once no pulse waits in it, takes that of the
next epoch of those feeds (R264). -/
def State.cameraArm (s : State) : State :=
  let feeds := (List.range (s.reg .SCN_FEEDS_OPER)).map fun f => (f, s.reg (.SCN_FEED_BELL_OPER (13 + f)))
  let offset := s.regInt .SCN_CAM_OFFSET_OPER * 2 ^ 32
  (List.range 8).foldl (fun s pin =>
    if (s.cmp (5 + pin)).armed then s
    else
      match s.epochs.find? fun e => feeds.contains (e.feed, pin) && decide ((s.time96 : Int) < (e.tp : Int) + offset) with
      | none => s
      | some e =>
        (s.modCmp (5 + pin) fun c => { c with
          armed := true, action := 1, target := ((e.tp : Int) + offset).toNat, period := 0, repeatCount := 1
          width := s.reg .SCN_CAM_WIDTH_OPER, polarity := false, policy := 0, next := 0, lateDue := false }).showNext (5 + pin)) s

/-- COMPARATOR_FIRE: comparator 5 to 15 reaches its instance (R110). One that scan-out owns takes the pulse of the next epoch (R264). A late
instance under policy 1 leaves the comparator at the instance that follows. -/
def execComparatorFire (dt n : Nat) (s : State) : Host.Outcome State Fault Refusal :=
  run s dt fun s =>
    let c := s.cmp n
    if n < 5 ∨ 15 < n ∨ c.armed = false ∨ s.time96 < c.instant c.next then s
    else
      let s1 := s.cmpFire n c.lateDue
      if s.scanOwns n then s1.cameraArm else s1

/-- A graph built and instantiated (R152 to R160, R190, R223, R246). -/
def State.buildGraph (s : State) (epoch : Nat) : State :=
  match s.epochOf epoch with
  | none => s
  | some x =>
    let s1 := ((s.orderSwap epoch).mapSwap epoch).halfSwap epoch
    let config := s1.buildConfig x.feed
    let (clocks, ops) := config.graph
    let layers := (List.range 8).map fun l =>
      if (config.layer l).enabled then nth x.layers l .waiting
      else if s1.flag (.ING_LAYER_ENABLE l) then s1.prevShown epoch l
      else .transparent
    let s2 := s1.modEpoch epoch fun x => { x with
      stage := .live, config := config, layers := layers, nextBrick := 0, stalled := false, stopped := false, bricksDone := []
      restart := []
      graphClocks := clocks, operations := ops
      completedAt := if brickCount config.canvasW config.canvasH = 0 then some s1.time96 else none
      before := (List.range 8).map fun l => s1.prevShown epoch l }
    let s3 := s2.modBelfry fun b => { b with live := b.live ++ [epoch] }
    let s4 := match s3.epochOf epoch with
      | some e => s3.budget e
      | none => s3
    let s5 := State.addBricks epoch 4096 s4
    (((List.range 8).foldl (fun s l =>
      match s.epochOf epoch with
      | some e => if (e.config.layer l).enabled then s else s.skipUnshown e l
      | none => s) s5).tryEpoch epoch).showQueues.cameraArm.feedPartner epoch

/-- The output frame slots in use (R22). -/
def State.freeOutputSlot (s : State) : Option Nat :=
  (List.range 3).find? fun k => !(s.epochs.any fun e => e.slot == k)

/-- An epoch with nothing built yet. -/
def Epoch.fresh (epoch index feed tp period slot : Nat) (c : EpochConfig) : Epoch := {
  epoch := epoch, index := index, feed := feed, tp := tp, period := period, slot := slot, stage := .awaiting
  replacement := false, config := c, layers := List.replicate 8 .waiting, before := List.replicate 8 .transparent
  timedLayers := [], ready := [], restart := [], nextBrick := 0, stalled := false, stopped := false, bricksDone := [], graphClocks := 0, operations := 0
  completedAt := none, timedOut := false, urgent := false, failedLinks := [], urgentLinks := []
  outSigs := [], struck := [], shown := false }

/-- Every engine reloaded from the running image once no epoch is in flight (R181, R365). -/
def State.reloadEngines (s : State) : State :=
  if s.belfry.reload ∧ s.epochs = [] then
    ((s.modBelfry fun b => { b with reload := false }).setReg .BEL_STATE (if s.belfry.engines.any Engine.active then 2 else 3)).arbMode 1
  else s

/-- A joining unit instantiates no graph before it has the objects of E_s (R457). -/
def State.joinWaits (s : State) : Bool := s.reg .TWN_STATE == 3 && (match s.twin.join with
  | some j => j.joining
  | none => false)

/-- Belfry instantiates a graph: that of a squashed epoch whose barrier is reached, else that of the next epoch once an output
frame slot is free (R29, R153). -/
def State.instantiate (s0 : State) : State :=
  let s := s0.reloadEngines
  if s.reg .BEL_STATE ≠ 2 ∨ s.joinWaits then s
  else match s.epochs.find? fun e => e.stage == .awaiting with
    | some e => (s.modEpoch e.epoch fun x => { x with replacement := true }).buildGraph e.epoch
    | none =>
      match s.freeOutputSlot, s.scan.gridOn with
      | some slot, true =>
        let index := max s.scan.nextIndex (s.gridFirst (s.time96 + commitLead))
        let feed := index % s.reg .SCN_FEEDS_OPER
        let e := Epoch.fresh s.scan.nextEpoch index feed (s.gridAt index) s.period slot (s.buildConfig feed)
        let s1 := { s with epochs := s.epochs ++ [e] }
        let s2 := s1.modScan fun n => { n with nextEpoch := (e.epoch + 1) % 65536, nextIndex := index + 1, newMode := none }
        let s3 := match s.scan.newMode with
          | some step => (s2.setReg .SCN_MODE_EPOCH e.epoch).post 0x8001 3 (e.epoch + b2n step * 65536)
          | none => s2
        s3.buildGraph e.epoch
      | _, _ => s

/-- INSTANTIATE (R153). -/
def execInstantiate (dt : Nat) (s : State) : Host.Outcome State Fault Refusal := run s dt fun s => s.instantiate

end Sys2Proof.Machine
end

