-- ==== Sys2Proof/Machine/Ingest.lean ====
section
/-! DEFINITION. Stream ingest (R118 to R150) and the fence messages that reach Cupola through it (R128, R197, R198, R200). -/

namespace Sys2Proof.Machine

/-! WSF header fields (R122) -/

end Sys2Proof.Machine

namespace Sys2Proof

open Machine

/-- A big-endian field of a WSF header. -/
def WsfPacket.at_ (p : WsfPacket) (o n : Nat) : Nat := ofBe (slice p.header o n)
/-- KIND. -/
def WsfPacket.kind (p : WsfPacket) : Nat := p.at_ 3 1
/-- FLAGS. -/
def WsfPacket.flags (p : WsfPacket) : Nat := p.at_ 4 1
/-- PIXEL_FORMAT. -/
def WsfPacket.format (p : WsfPacket) : Nat := p.at_ 5 1
/-- PACKET_INDEX. -/
def WsfPacket.index (p : WsfPacket) : Nat := p.at_ 6 2
/-- STREAM_ID. -/
def WsfPacket.stream (p : WsfPacket) : Nat := p.at_ 8 4
/-- SRC_EPOCH. -/
def WsfPacket.srcEpoch (p : WsfPacket) : Nat := p.at_ 12 2
/-- PACKET_TOTAL. -/
def WsfPacket.total (p : WsfPacket) : Nat := p.at_ 14 2
/-- PRESENT_TIME in ns. -/
def WsfPacket.time (p : WsfPacket) : Nat := p.at_ 16 8
/-- The region. -/
def WsfPacket.region (p : WsfPacket) : Rect := ⟨p.at_ 24 2, p.at_ 26 2, p.at_ 28 2, p.at_ 30 2⟩
/-- PIXEL_OFFSET. -/
def WsfPacket.offset (p : WsfPacket) : Nat := p.at_ 32 4
/-- PIXEL_COUNT. -/
def WsfPacket.count (p : WsfPacket) : Nat := p.at_ 36 2
/-- FENCE_ID. -/
def WsfPacket.fenceId (p : WsfPacket) : Nat := p.at_ 38 2
/-- FRAME_CRC. -/
def WsfPacket.crc (p : WsfPacket) : Nat := p.at_ 40 4
/-- LAST. -/
def WsfPacket.last (p : WsfPacket) : Bool := bitOf p.flags 7
/-- REPLACE. -/
def WsfPacket.replace (p : WsfPacket) : Bool := bitOf p.flags 6
/-- FENCE. -/
def WsfPacket.fence (p : WsfPacket) : Bool := bitOf p.flags 5

/-- Whether a fence message keeps R122 and R125 and its check holds (R128). -/
def WsfPacket.fenceOk (p : WsfPacket) : Bool :=
  p.last && p.flags % 32 == 0 && p.format == 0 && p.index == 0 && p.total == 1 && p.count == 0 && p.payload.isEmpty &&
    p.at_ 44 4 == 0 && p.crc == crcOf crc32c (p.header.take 40)

end Sys2Proof

namespace Sys2Proof.Machine

/-- Layers a stream entry feeds: enabled and bound to it (R118). -/
def State.layersOf (s : State) (entry : Nat) : List Nat :=
  (List.range 8).filter fun l => s.flag (.ING_LAYER_ENABLE l) && s.reg (.ING_SRC_ENTRY l) == entry

/-- The record in which counts of a stream entry are made: the layer it feeds, else the control record 8 (R126). -/
def State.recordOf (s : State) (entry : Nat) : Nat := (s.layersOf entry).headD 8

/-- The format error event (R149). -/
def State.formatEvent (s : State) (record reason : Nat) : State := s.post 0x4004 3 (record + reason * 16)

/-! Fence messages -/

/-- An unmatched fence message counted (R197, R198). -/
def State.fenceUnmatched (s : State) (layer fenceId : Nat) : State :=
  (if layer < 8 then s.count (.CUPCNT_FENCE_UNMATCHED layer) else s).post 0x6013 2 (layer + fenceId * 16)

/-- A fence message kept until its frame comes: 64 entries, the oldest dropped (R197). -/
def State.keepFence (s : State) (e : FenceEntry) : State :=
  match s.cupola.fences with
  | old :: rest =>
    if 64 ≤ s.cupola.fences.length then
      (s.modCupola fun c => { c with fences := rest ++ [e] }).fenceUnmatched old.layer old.fenceId
    else s.modCupola fun c => { c with fences := c.fences ++ [e] }
  | [] => s.modCupola fun c => { c with fences := [e] }

/-- What a layer showed before a frame: the buffer of the epoch before the first in flight that shows it (R200). -/
def State.beforeFrame (s : State) (layer id : Nat) : Resolution :=
  match s.epochs.find? fun e => nth e.layers layer .waiting == .shows id with
  | some e =>
    let b := nth e.before layer .transparent
    if b = .shows id ∨ b = .waiting then .transparent else b
  | none => .transparent

/-- A frame discarded by an abandon before any epoch selected it: the layer goes on as if it had not arrived (R137, R200). -/
def State.abandonUnshown (s : State) (f : IngestFrame) : State :=
  let s1 := if f.isComplete then (s.count (.INGCNT_SKIPPED f.layer)).endInForce f else (s.count (.INGCNT_INCOMPLETE f.layer)).endFrame f
  (s1.epochs.filter fun e => e.binds f.time && (s1.candidate e f.layer).isNone && nth e.layers f.layer .waiting == .waiting).foldl
    (fun s e => s.modEpoch e.epoch fun x => { x with ready := x.ready.filter (· != f.layer) }) s1

/-- The uncommitted epochs that read an abandoned frame's buffer are superseded; a flip group of theirs holds (R200). -/
def State.abandonShown (s : State) (f : IngestFrame) : State × Bool :=
  let hit := s.epochs.filter fun e => e.uncommitted && nth e.layers f.layer .waiting == .shows f.id
  let old := s.beforeFrame f.layer f.id
  let s1 := hit.foldl (fun s e =>
    let g := (e.config.layer f.layer).flipGroup
    let s2 := s.modEpoch e.epoch fun x => { x with layers := setNth x.layers f.layer old, before := setNth x.before f.layer old }
    let s3 := if g = 0 then s2
      else (e.members g).foldl (fun s l =>
        let s4 := s.count (.CUPCNT_HELD_GROUP l)
        if l = f.layer then s4
        else s4.modEpoch e.epoch fun x => { x with layers := setNth x.layers l (nth x.before l .transparent) }) s2
    s3.squash e.epoch true) s
  (s1, !hit.isEmpty)

/-- A fence abandon (R200). -/
def State.fenceAbandon (s : State) (layer stream fenceId : Nat) : State :=
  match s.ingest.frames.find? fun f => f.fenced && f.stream == stream && f.fenceId == fenceId with
  | none => s.keepFence ⟨layer, stream, true, fenceId, s.time96⟩
  | some f =>
    let s0 := if f.layer < 8 then s.count (.CUPCNT_FENCE_ABANDONED f.layer) else s
    let (s1, hit) := if f.shown then s0.abandonShown f else (s0.abandonUnshown f, false)
    s1.post 0x6011 3 (f.layer + fenceId * 16 + b2n hit * 2 ^ 20)

/-- A fence release (R197, R198). A release after D(E) is unmatched. -/
def State.fenceRelease (s : State) (layer stream fenceId : Nat) : State :=
  match s.ingest.frames.find? fun f => f.fenced && !f.released && f.stream == stream && f.fenceId == fenceId with
  | none => s.keepFence ⟨layer, stream, false, fenceId, s.time96⟩
  | some f =>
    if s.epochs.any fun e => e.binds f.time && e.timedLayers.contains f.layer then s.fenceUnmatched layer fenceId
    else (s.modFrame f.id fun f => { f with released := true }).tryAll f.layer

/-- A fence message (R128). -/
def State.fenceMessage (s : State) (p : WsfPacket) : State :=
  let r := s.recordOf p.entry
  if p.fenceOk then
    if p.kind = 2 then s.fenceRelease r p.stream p.fenceId else s.fenceAbandon r p.stream p.fenceId
  else (s.count (.INGCNT_FENCE_MSG_ERROR r)).formatEvent r 11

/-- A fence message that waited for an accepted frame meets it (R197). -/
def State.meetFence (s : State) (id : Nat) : State :=
  match s.frameOf id with
  | none => s
  | some f =>
    if f.fenced = false then s
    else match s.cupola.fences.find? fun e => e.stream == f.stream && e.fenceId == f.fenceId with
      | none => s
      | some e =>
        let s1 := s.modCupola fun c => { c with fences := c.fences.erase e }
        if e.abandon then s1.fenceAbandon f.layer f.stream f.fenceId
        else s1.modFrame id fun f => { f with released := true }

/-! Acceptance -/

/-- The window of R132: whether T − now lies below the lead, above 3P, or inside. -/
inductive Window where
  | early | late | inside
  deriving DecidableEq, Repr

/-- The judgement of R132, in 2^-32 ns. -/
def State.window (s : State) (lead t : Nat) : Window :=
  if s.time96 + 3 * s.period < nsUnits t then .early
  else if nsUnits t < s.time96 + nsUnits lead then .late
  else .inside

/-- A buffer of a layer that no frame holds (R22, R141). -/
def State.freeBuffer (s : State) (layer : Nat) : Option Nat :=
  (List.range 3).find? fun k => !(s.ingest.frames.any fun f => f.layer == layer && f.buffer == some k)

/-- A frame abandoned incomplete (R127, R135). -/
def State.abandonIncomplete (s : State) (f : IngestFrame) : State := (s.count (.INGCNT_INCOMPLETE f.layer)).endFrame f

/-- Frames a newly accepted one ends: marked frames of an earlier T on its stream, and incomplete control frames of an earlier T
where it is a control frame (R127, R135). -/
def State.endEarlier (s : State) (stream time : Nat) (control : Bool) : State :=
  (s.ingest.frames.filter fun f => f.stream == stream && Nat.blt f.time time && !f.isComplete &&
      (if control then f.layer == 8 else f.late.isSome)).foldl (fun s f => s.abandonIncomplete f) s

/-- A frame accepted: it takes a buffer of its layer or waits for one (R132, R139). -/
def State.acceptFrame (s : State) (f : IngestFrame) : State :=
  let s1 := s.endEarlier f.stream f.time (f.layer == 8)
  let s2 := s1.count (.INGCNT_FRAMES_ACCEPTED f.layer)
  let buffer := if f.layer = 8 then none else s2.freeBuffer f.layer
  let s3 := if f.layer ≠ 8 ∧ buffer = none then s2.count (.INGCNT_CREDIT_WAIT f.layer) else s2
  (s3.modIngest fun g => { g with
    frames := g.frames ++ [{ f with id := g.nextId, buffer := buffer }], nextId := g.nextId + 1 }).meetFence s3.ingest.nextId

/-! Completion -/

/-- The pixel words of a region from its packets (R123, R140): format 2 is stored with A = 255. -/
def pixelWords (format : Nat) (payload : List Octet) : Nat → List Nat
  | 0 => []
  | n + 1 =>
    if format = 2 then (ofBe (payload.take 3) * 256 + 255) :: pixelWords format (payload.drop 3) n
    else ofBe (payload.take 4) :: pixelWords format (payload.drop 4) n

/-- Packets in index order. -/
def byIndex (parts : List PacketPart) : List PacketPart := sortBy (fun a b => Nat.ble a.index b.index) parts

/-- The region filled by its packets in index order (R123). -/
def assemble (area : Nat) (format : Nat) (parts : List PacketPart) : List Nat :=
  (byIndex parts).foldl (fun px p =>
    ((pixelWords format p.payload p.count).zipIdx.foldl (fun (px : List Nat) q => setNth px (p.offset + q.2) q.1) px))
    (List.replicate area 0)

/-- FRAME_CRC as the unit computes it, in index order (R124). -/
def frameCrc (parts : List PacketPart) : Nat :=
  crcOf crc32c (((byIndex parts).map fun p => p.head ++ p.payload).flatten)

/-- A control frame's values handed to the signal map (R127). -/
def State.handOver (s : State) (f : IngestFrame) : State :=
  let values := (byIndex f.parts).map fun p =>
    (List.range p.count).map fun i => (ofBe (slice p.payload (4 * i) 2), ofBe (slice p.payload (4 * i + 2) 2))
  (s.modIngest fun g => { g with
    controls := values.flatten.foldl (fun cs v =>
      let key := f.entry * 4096 + v.1 % 4096
      (key, v.2, s.now) :: cs.filter fun c => c.1 != key) g.controls }).endInForce f

/-- A frame that completed with a valid check after it was marked late, or too late to replace (R131, R135). -/
def State.countLate (s : State) (f : IngestFrame) : State :=
  ((s.count (.INGCNT_LATE f.layer)).post 0x4001 2 (f.layer + f.time % 2 ^ 38 * 16)).endInForce f

/-- The event of a replaced frame (R149). -/
def State.replacedEvent (s : State) (layer epoch : Nat) : State := s.post 0x4006 2 (layer + epoch * 16)

/-- A replacement complete with a valid check (R131). -/
def State.replaceFrame (s : State) (f old : IngestFrame) : State :=
  let layer := f.layer
  let take := fun (s : State) => s.modFrame f.id fun x => { x with replaces := none, stage := if old.shown then x.stage else old.stage }
  match s.epochs.find? fun e => e.binds f.time with
  | some e =>
    if e.uncommitted then
      if old.shown then
        let s1 := (take s).replacedEvent layer e.epoch
        let r : Resolution := if f.mayFlip then .shows f.id else .waiting
        let s2 := s1.modEpoch e.epoch fun x => { x with layers := setNth x.layers layer r }
        let s3 := if f.mayFlip then
            ((s2.modFrame f.id fun f => { f with shown := true }).count (.INGCNT_SHOWN layer)).count (.CUPCNT_FLIPS layer)
          else s2
        s3.squash e.epoch true
      else (((take s).count (.INGCNT_REPLACED layer)).replacedEvent layer 0xFFFF).endInForce old |>.tryAll layer
    else s.countLate f
  | none =>
    if old.shown then s.countLate f
    else (((take s).count (.INGCNT_REPLACED layer)).replacedEvent layer 0xFFFF).endInForce old |>.tryAll layer

/-- A frame bound to an epoch for which its layer is ready already, or has been resolved, is skipped (R134). -/
def State.skipResolved (s : State) (f : IngestFrame) : State :=
  match s.epochs.find? fun e => e.binds f.time with
  | some e =>
    if nth e.layers f.layer .waiting = .waiting ∧ (e.config.layer f.layer).enabled ∧ e.ready.contains f.layer = false then s
    else (s.count (.INGCNT_SKIPPED f.layer)).endInForce f
  | none =>
    if s.epochs.any fun e => e.bindsOrEarlier f.time then (s.count (.INGCNT_SKIPPED f.layer)).endInForce f else s

/-- A complete replacement in a buffer takes effect, or becomes an ordinary frame where the earlier one is gone (R131). -/
def State.settleReplacement (s : State) (f : IngestFrame) (o : Nat) : State :=
  match s.frameOf o with
  | some old => s.replaceFrame f old
  | none => ((s.modFrame f.id fun f => { f with replaces := none }).skipResolved f).tryAll f.layer

/-- Every packet or sample of a frame has come and its check holds: what becomes of it (R127, R131, R134, R135). -/
def State.frameComplete (s : State) (id : Nat) (pixels : List Nat) : State :=
  match s.frameOf id with
  | none => s
  | some f =>
    if f.layer = 8 then
      if nsUnits f.time ≤ s.time96 then
        ((s.count (.INGCNT_LATE 8)).post 0x4001 2 (8 + f.time % 2 ^ 38 * 16)).handOver f
      else s.modFrame id fun f => { f with stage := .complete 0 }
    else if f.late.isSome then s.countLate f
    else
      let s1 := s.modFrame id fun f => { f with stage := .complete s.ingest.nextOrder, pixels := pixels, lines := [] }
      let s2 := s1.modIngest fun g => { g with nextOrder := g.nextOrder + 1 }
      match f.replaces with
      | some o => if f.buffer.isNone then s2 else s2.settleReplacement f o
      | none =>
        let s3 := s2.skipResolved f
        (s3.epochs.foldl (fun s e => if e.binds f.time then s.raiseReady e f.layer else s) s3).tryAll f.layer

/-- A frame of WSF packets with every index received: its count, then its check (R124, R126). -/
def State.checkFrame (s : State) (id : Nat) : State :=
  match s.frameOf id with
  | none => s
  | some f =>
    let area := f.region.area
    let sum := (f.parts.map PacketPart.count).sum
    if f.layer ≠ 8 ∧ sum ≠ area then ((s.count (.INGCNT_FORMAT_ERROR f.layer)).formatEvent f.layer 7).endFrame f
    else
      let sent := ((f.parts.find? PacketPart.last).map PacketPart.crc).getD 0
      if frameCrc f.parts ≠ sent then
        ((s.count (.INGCNT_CRC_ERROR f.layer)).post 0x4003 3 (f.layer + f.stream % 2 ^ 32 * 16)).endFrame f
      else s.frameComplete id (if f.layer = 8 then [] else assemble area f.format f.parts)

/-! WSF packets -/

/-- The frame-level reason for which a packet ends its frame (R126, 4 to 9), the lowest that holds. -/
def State.packetReason (s : State) (f : IngestFrame) (p : WsfPacket) : Option Nat :=
  let r := p.region
  let pixel := f.layer != 8
  let outside := r.w == 0 || r.h == 0 || Nat.blt (s.reg (.ING_LAYER_W f.layer)) (r.x + r.w) ||
    Nat.blt (s.reg (.ING_LAYER_H f.layer)) (r.y + r.h)
  let unequal := f.total != p.total || f.format != p.format || f.region != r || f.fenceId != p.fenceId ||
    f.replace != p.replace || f.fenced != p.fence || pixel != (p.kind == 0)
  let allowed := if s.reg (.ING_FORMAT f.layer) = 0 then p.format == 0 || p.format == 2 else p.format == 1
  if pixel && outside then some 4
  else if pixel && Nat.blt r.area (p.offset + p.count) then some 5
  else if Nat.ble p.total p.index || p.last != (p.index + 1 == p.total) then some 6
  else if unequal then some 8
  else if pixel && !allowed then some 9
  else none

/-- A packet placed into its frame's assembly (R126, R129). While the frame waits for a buffer the packet keeps its cells (R139). -/
def State.placePacket (s : State) (id : Nat) (p : WsfPacket) (need : Nat) : State :=
  match s.frameOf id with
  | none => s
  | some f =>
    if f.isComplete || f.parts.any (fun q => q.index == p.index) then s.count (.INGCNT_RING_COPY f.layer)
    else match s.packetReason f p with
      | some reason => ((s.count (.INGCNT_FORMAT_ERROR f.layer)).formatEvent f.layer reason).endFrame f
      | none =>
        let part : PacketPart := ⟨p.index, p.offset, p.count, p.last, p.crc, p.header.take 40, p.payload⟩
        let s1 := s.modFrame id fun f => { f with
          parts := f.parts ++ [part]
          cells := if f.buffer.isNone && f.layer != 8 then f.cells + need else 0 }
        if f.parts.length + 1 = f.total then s1.checkFrame id else s1

/-- A frame of WSF packets as its first packet gives it. -/
def newFrame (p : WsfPacket) (layer : Nat) (replaces : Option Nat) : IngestFrame := {
  id := 0, layer := layer, entry := p.entry, stream := p.stream, time := p.time, srcEpoch := p.srcEpoch, total := p.total
  format := p.format, region := p.region, fenceId := p.fenceId, replace := p.replace, fenced := p.fence && layer != 8
  released := false, late := none, replaces := replaces, buffer := none, cells := 0, stage := .assembling, shown := false
  parts := [], lines := [], pixels := [] }

/-- The first packet of a frame: time, window, duplicates and replacement (R121, R127, R130, R132). The frame in force is the last
accepted one of its presentation time. -/
def State.firstPacket (s : State) (p : WsfPacket) (layer need : Nat) : State :=
  let refuse := fun (r : Reg) => (s.count r).noteEnded p.stream p.time p.srcEpoch
  if s.timeValid = false then refuse (.INGCNT_NO_TIME layer)
  else
    let w := s.window (if layer = 8 then 0 else s.reg (.ING_LEAD_MIN layer)) p.time
    if w = .early then refuse (.INGCNT_EARLY layer)
    else if w = .late ∧ layer ≠ 8 then refuse (.INGCNT_LATE_START layer)
    else
      let accept := fun (s : State) (r : Option Nat) =>
        let id := s.ingest.nextId
        (s.acceptFrame (newFrame p layer r)).placePacket id p need
      match s.ingest.frames.reverse.find? fun f => f.stream == p.stream && f.time == p.time && (f.layer == 8) == (layer == 8) with
      | none =>
        if p.replace = false ∧ s.ingest.ended.any (fun x => x.1 == p.stream && x.2.1 == p.time) then refuse (.INGCNT_DUPLICATE layer)
        else accept s none
      | some old =>
        if p.replace = false then refuse (.INGCNT_DUPLICATE layer)
        else if old.isComplete then accept s (some old.id)
        else accept (((s.count (.INGCNT_REPLACED layer)).replacedEvent layer 0xFFFF).endFrame old) old.replaces

/-- A WSF packet that holds cells of the packet buffer (R22, R121 to R133). -/
def State.wsfPacket (s : State) (p : WsfPacket) (need : Nat) : State :=
  let r := s.recordOf p.entry
  let bad := fun (reason : Nat) => (s.count (.INGCNT_PACKET_FORMAT_ERROR r)).formatEvent r reason
  let kind := p.kind
  let lengthOk := if kind = 0 then
      (if p.format ≤ 1 then p.payload.length == 4 * p.count
       else if p.format = 2 then p.payload.length == 3 * p.count else true)
    else p.payload.length == 4 * p.count
  if p.header.length ≠ 48 ∨ p.at_ 0 2 ≠ 0x5753 ∨ p.at_ 2 1 ≠ 1 then bad 1
  else if 3 < kind then bad 2
  else if 2 ≤ kind then s.fenceMessage p
  else if lengthOk = false then bad 3
  else
    let known := s.ingest.frames.find? fun f => f.stream == p.stream && f.time == p.time && f.srcEpoch == p.srcEpoch
    match known with
    | some f => s.placePacket f.id p need
    | none =>
      if s.ingest.ended.contains (p.stream, p.time, p.srcEpoch) then s.count (.INGCNT_RING_COPY (if kind = 1 then 8 else r))
      else if s.ingest.refused.contains (p.stream, p.time, p.srcEpoch) then s
      else if kind = 0 ∧ r = 8 then (s.count (.INGCNT_UNBOUND 8)).noteEnded p.stream p.time p.srcEpoch
      else s.firstPacket p (if kind = 1 then 8 else r) need

/-- A stream frame taken out of the packet buffer by ingest (R22). -/
def State.takeCells (s : State) : State := s.modNet fun n => { n with rxHeld := n.rxHeld.drop 1 }

/-- The cells of the frame that ingest takes: those it holds, or those a frame of n octets needs. -/
def State.heldCells (s : State) (n : Nat) : Nat := s.net.rxHeld.headD (cellsOf n)

/-- Octets of the Ethernet frame that carries a packet: Ethernet, IPv4 and UDP headers, the packet, the FCS. -/
def wsfFrameLength (p : WsfPacket) : Nat := 14 + 20 + 8 + p.header.length + p.payload.length + 4

/-- A WSF packet taken out of the packet buffer (R22). -/
def State.takePacket (s : State) (p : WsfPacket) : State := s.takeCells.wsfPacket p (s.heldCells (wsfFrameLength p))

/-- WSF_PACKET. -/
def execWsfPacket (dt : Nat) (p : WsfPacket) (s : State) : Host.Outcome State Fault Refusal :=
  run s dt fun s => s.takePacket p

/-- CONTROL_FRAME_HANDOVER: at T the values of accepted control frames go to the signal map (R127). -/
def execControlFrameHandover (dt : Nat) (s : State) : Host.Outcome State Fault Refusal :=
  run s dt fun s =>
    (s.ingest.frames.filter fun f => f.layer == 8 && f.isComplete && Nat.ble (nsUnits f.time) s.time96).foldl
      (fun s f => (s.count (.INGCNT_SHOWN 8)).handOver f) s

/-- CONTROL_FRAME_ABANDON: a control frame still incomplete at T + P (R127). -/
def execControlFrameAbandon (dt : Nat) (s : State) : Host.Outcome State Fault Refusal :=
  run s dt fun s =>
    (s.ingest.frames.filter fun f => f.layer == 8 && !f.isComplete && Nat.ble (nsUnits f.time + s.period) s.time96).foldl
      (fun s f => s.abandonIncomplete f) s

/-- FENCE_RELEASE: a fence release message (R128, R197, R198). -/
def execFenceRelease (dt : Nat) (p : WsfPacket) (s : State) : Host.Outcome State Fault Refusal :=
  run s dt fun s => s.takePacket p

/-- FENCE_ABANDON: a fence abandon message (R128, R200). -/
def execFenceAbandon (dt : Nat) (p : WsfPacket) (s : State) : Host.Outcome State Fault Refusal :=
  run s dt fun s => s.takePacket p

/-- FENCE_ENTRY_EXPIRY: entries no frame matched within 3P of their acceptance (R197). -/
def execFenceEntryExpiry (dt : Nat) (s : State) : Host.Outcome State Fault Refusal :=
  run s dt fun s =>
    let old := s.cupola.fences.filter fun e => Nat.ble (e.accepted + 3 * s.period) s.time96
    let s1 := s.modCupola fun c => { c with fences := c.fences.filter fun e => Nat.blt s.time96 (e.accepted + 3 * s.period) }
    old.foldl (fun s e => s.fenceUnmatched e.layer e.fenceId) s1

/-! Time-outs -/

/-- D(E) of a layer (R134). -/
def Epoch.timeout (e : Epoch) (layer : Nat) : Nat := e.tp - nsUnits (e.config.layer layer).timeout

/-- A flip group that has not flipped by its earliest D(E) holds (R199). -/
def State.holdGroup (s : State) (e : Epoch) (g : Nat) : State :=
  let members := e.members g
  let missing := members.filter fun l => (s.eligible e l).isNone
  let s1 := members.foldl (fun s l => (s.count (.CUPCNT_HELD_GROUP l)).resolveLayer e.epoch l (s.prevShown e.epoch l)) s
  s1.post 0x6012 3 (g + e.epoch * 8 + (missing.map fun l => 2 ^ l).sum * 2 ^ 19)

/-- A layer that no complete frame made ready by D(E) (R134, R136). -/
def State.notReady (s : State) (e : Epoch) (layer : Nat) : State :=
  let s1 := s.count (.INGCNT_NOT_READY layer)
  if nth s.ingest.notReadyRun layer false then s1
  else (s1.modIngest fun g => { g with notReadyRun := setNth g.notReadyRun layer true }).post 0x4002 3 (layer + e.epoch * 16)

/-- D(E) of a layer (R134, R135, R198, R199). -/
def State.layerTimeout (s : State) (e : Epoch) (layer : Nat) : State :=
  let s1 := s.modEpoch e.epoch fun x => { x with timedLayers := layer :: x.timedLayers }
  let s2 := s1.modIngest fun g => { g with
    frames := g.frames.map fun f =>
      if f.layer = layer && !f.isComplete && e.bindsOrEarlier f.time && f.late.isNone then
        { f with late := some (e.tp + e.period) } else f }
  if !(e.config.layer layer).enabled then s2.skipUnshown e layer
  else
    let ready := e.ready.contains layer || (s2.candidate e layer).isSome
    let s3 := if ready then s2 else s2.notReady e layer
    let g := (e.config.layer layer).flipGroup
    if !e.waits layer then s3
    else if g ≠ 0 then s3.holdGroup e g
    else
      let s4 := if (s2.candidate e layer).isSome then (s3.count (.CUPCNT_HELD_FENCE layer)).post 0x6010 3 (layer + e.epoch * 16) else s3
      s4.resolveLayer e.epoch layer (s4.prevShown e.epoch layer)

/-- LAYER_TIMEOUT: D(E) of a layer for the oldest epoch in flight whose time-out has not been taken (R134). -/
def execLayerTimeout (dt layer : Nat) (s : State) : Host.Outcome State Fault Refusal :=
  run s dt fun s =>
    match s.epochs.find? fun e => !e.timedLayers.contains layer && Nat.ble (e.timeout layer) s.time96 with
    | some e => if layer < 8 then s.layerTimeout e layer else s
    | none => s

/-- INCOMPLETE_ABANDON: marked frames still incomplete at T_p(E) + P (R135). -/
def execIncompleteAbandon (dt : Nat) (s : State) : Host.Outcome State Fault Refusal :=
  run s dt fun s =>
    (s.ingest.frames.filter fun f => !f.isComplete && (match f.late with
      | some t => Nat.ble t s.time96
      | none => false)).foldl (fun s f => s.abandonIncomplete f) s

/-- FRAME_CREDIT_WAIT_END: a frame that waited in the packet buffer takes a buffer that has become free (R139). -/
def execFrameCreditWaitEnd (dt layer : Nat) (s : State) : Host.Outcome State Fault Refusal :=
  run s dt fun s =>
    match s.ingest.frames.find? (fun f => f.layer == layer && f.buffer.isNone && layer != 8), s.freeBuffer layer with
    | some f, some k =>
      let s1 := s.modFrame f.id fun f => { f with buffer := some k, cells := 0 }
      match f.replaces with
      | some o => if f.isComplete then s1.settleReplacement { f with buffer := some k } o else s1
      | none => s1.tryAll layer
    | _, _ => s

/-! Layer enable -/

/-- Width and height of a raster code (R118). -/
def rasterSize (code : Nat) : Nat × Nat := if code = 0 then (1920, 1080) else (3840, 2160)

/-- The stored area of a layer in whole bricks: across and down (R141). -/
def State.storedBricks (s : State) (l : Nat) : Nat × Nat :=
  let c := s.layerConfig 0 l
  let w := if c.raster then c.crop.w + 8 else c.area.w
  let h := if c.raster then c.crop.h + 8 else c.area.h
  ((w + 63) / 64, (h + 31) / 32)

/-- Why an enable is refused: the lowest reason of R119. -/
def State.enableRefusal (s : State) (l : Nat) : Option Nat :=
  let entry := s.reg (.ING_SRC_ENTRY l)
  let c := s.layerConfig 0 l
  let (bw, bh) := s.storedBricks l
  let (rw, rh) := rasterSize c.rasterCode
  let canvas := mapCanvas s.scan.mapOper s.lampMap
  let next := mapCanvas s.scan.mapAdmin ((List.range 512).map fun k => s.reg (.SCN_LAMP_MAP_ADMIN (k + 1)))
  let inCanvas := fun (q : Nat × Nat) => decide (c.area.x + c.area.w ≤ q.1 ∧ c.area.y + c.area.h ≤ q.2)
  let shared := !c.raster && (List.range 8).any fun m => m != l && s.flag (.ING_LAYER_ENABLE m) &&
    s.reg (.ING_SRC_ENTRY m) == entry
  if entry = 255 ∨ s.flag (.NET_STREAM_ENABLE entry) = false ∨ shared then some 1
  else if 1024 < bw * bh then some 2
  else if c.raster ∧ ¬(c.crop.w ≤ 4 * c.area.w ∧ c.area.w ≤ 4 * c.crop.w ∧ c.crop.h ≤ 4 * c.area.h ∧ c.area.h ≤ 4 * c.crop.h) then
    some 3
  else if c.raster ∧ ¬(c.crop.x + c.crop.w ≤ rw ∧ c.crop.y + c.crop.h ≤ rh) then some 4
  else if c.raster ∧ 7 < s.reg (.ING_2110_RATE l) ∧ c.rasterCode = 1 then some 5
  else if c.area.w = 0 ∨ c.area.h = 0 ∨ inCanvas canvas = false ∨ (s.reg .SCN_MAP_CHANGE = 1 ∧ inCanvas next = false) then some 6
  else if c.opaqueDecl ∧ ¬(c.opaqueRect.inside ⟨0, 0, c.area.w, c.area.h⟩) then some 7
  else none

/-- fold of R391. -/
def pitchFold (x : Nat) : Nat := Nat.xor (Nat.xor (field x 3 0) (field x 7 4)) (field x 11 8)

/-- The least m of R391 at or above the stored width in bricks, searched n steps. -/
def pitchSearch : Nat → Nat → Nat
  | 0, m => m
  | n + 1, m => if (List.range 15).all fun k => pitchFold ((k + 1) * m) != 0 then m else pitchSearch n (m + 1)

/-- ING_LAYER_PITCH set by firmware, padded where that fits (R391, R392). -/
def State.setPitch (s : State) (l : Nat) : State :=
  let (bw, bh) := s.storedBricks l
  let m := pitchSearch 4096 bw
  if 1024 < m * bh then
    ((s.setReg (.ING_LAYER_PITCH l) (8192 * bw)).count .MEMCNT_PITCH_UNPADDED).post 0xB012 3 l
  else s.setReg (.ING_LAYER_PITCH l) (8192 * m)

/-- A write of ING_LAYER_ENABLE (R119, R120). -/
def State.layerEnable (s : State) (l value : Nat) : State :=
  if 7 < l then s.reply 2
  else if 1 < value then s.reply 8
  else if value = 0 then (s.setReg (.ING_LAYER_ENABLE l) 0).reply 0
  else if s.flag (.ING_LAYER_ENABLE l) then s.reply 0
  else match s.enableRefusal l with
    | some r => (s.post 0x4020 4 (l + r * 16)).reply 8
    | none => ((s.setPitch l).setReg (.ING_LAYER_ENABLE l) 1).reply 0

/-- LAYER_ENABLE. -/
def execLayerEnable (dt who layer value : Nat) (s : State) : Host.Outcome State Fault Refusal :=
  run s dt fun s => s.asWriter who (.ING_LAYER_ENABLE layer) fun s => s.layerEnable layer value

/-! ST 2110-20 -/

/-- Pixels and octets of a pgroup: sampling 0 RGB or 1 4:2:2, depth 10 or 12 (R143). -/
def pgroup (sampling depth : Nat) : Nat × Nat :=
  if sampling = 0 then (if depth = 10 then (4, 15) else (2, 9)) else (if depth = 10 then (2, 5) else (2, 6))

/-- Samples of n bits each out of octets, first sample in the most significant bits. -/
def samplesOf (bits : Nat) (octets : List Octet) (n : Nat) : List Nat :=
  let v := ofBe octets
  let total := 8 * octets.length
  (List.range n).map fun i => (v / 2 ^ (total - bits * (i + 1))) % 2 ^ bits

/-- The 12-bit samples of a row, three for each pixel: R, G, B, or Y', C'B, C'R with none for the chroma of an odd pixel (R145). The
order of the samples in a 4:2:2 pgroup is that of ST 2110-20: C'B, Y'0, C'R, Y'1 (PRESUMED, log entry 22). -/
def rowSamples (sampling depth : Nat) : Nat → List Octet → List (Option Nat)
  | 0, _ => []
  | n + 1, octets =>
    let (px, oct) := pgroup sampling depth
    let shift := fun (v : Nat) => if depth = 10 then 4 * v else v
    let one := if sampling = 0 then (samplesOf depth (octets.take oct) (3 * px)).map fun v => some (shift v)
      else match samplesOf depth (octets.take oct) 4 with
        | [cb, y0, cr, y1] => [some (shift y0), some (shift cb), some (shift cr), some (shift y1), none, none]
        | _ => []
    one ++ rowSamples sampling depth n (octets.drop oct)

/-- Whether a sample row fits the configured format (R143). -/
def State.rowFits (s : State) (l : Nat) (r : SampleRow) : Bool :=
  let (px, oct) := pgroup (s.reg (.ING_2110_SAMPLING l)) (s.reg (.ING_2110_DEPTH l))
  let (w, h) := rasterSize (s.reg (.ING_2110_RASTER l))
  r.octets.length % oct == 0 && r.offset % px == 0 && Nat.blt r.line h && Nat.ble (r.offset + r.octets.length / oct * px) w

/-- Of the numbers congruent to v modulo 2^32, the one nearest to a number. -/
def nearest32 (near v : Nat) : Nat :=
  let base := near - near % 2 ^ 32 + v % 2 ^ 32
  let far := fun (a : Nat) => (max a near) - (min a near)
  ((if 2 ^ 32 ≤ base then [base - 2 ^ 32] else []) ++ [base, base + 2 ^ 32]).foldl (fun (best : Nat) v =>
    if far v < far best then v else best) base

/-- The extended sequence numbers of a stream, counted on across the wrap of 32 bits: second copies and losses (R144). -/
def State.sequence (s : State) (entry number : Nat) : State × Bool :=
  let start := 2 ^ 32 + number % 2 ^ 32
  let v := (s.ingest.streams.find? fun v => v.entry == entry).getD ⟨entry, start, [], start, false⟩
  let seq := nearest32 v.highest number
  if v.received.contains seq then (s.count (.INGCNT_RING_COPY (s.recordOf entry)), false)
  else
    let highest := max v.highest seq
    let received := (seq :: v.received).filter fun n => Nat.blt highest (n + 32768)
    let limit := highest - 1024
    let lost := ((List.range (limit + 1 - v.judged)).map (· + v.judged)).filter fun n => !received.contains n
    let r := s.recordOf entry
    let s1 := if lost.isEmpty then s else s.count (.INGCNT_PACKETS_LOST r) lost.length
    let s2 := if lost.isEmpty || v.lossPosted then s1
      else s1.post 0x4005 2 (r + s1.reg (.INGCNT_PACKETS_LOST r) * 16)
    let v' : VideoStream := { v with
      highest := highest, received := received, judged := max v.judged (limit + 1)
      lossPosted := v.lossPosted || !lost.isEmpty }
    (s2.modIngest fun g => { g with streams := v' :: g.streams.filter fun x => x.entry != entry }, true)

/-- The sampling instant an RTP timestamp denotes: of its values at 90 kHz the one nearest to now, in ns (R144). -/
def samplingInstant (now timestamp : Nat) : Nat :=
  nearest32 (now * 9 / 100000) timestamp * 100000 / 9

/-- Rows and columns of the raster a layer needs: the crop with its apron, cut to the raster, and in 4:2:2 the chroma to the right of a
last odd pixel (R141, R145). First and last, both included. -/
def State.neededArea (s : State) (l : Nat) : (Nat × Nat) × (Nat × Nat) :=
  let (w, h) := rasterSize (s.reg (.ING_2110_RASTER l))
  let x1 := min (w - 1) (s.reg (.ING_CROP_X l) + s.reg (.ING_CROP_W l) + 3)
  let x1 := if s.reg (.ING_2110_SAMPLING l) = 1 && x1 % 2 == 1 && Nat.blt (x1 + 1) w then x1 + 1 else x1
  ((s.reg (.ING_CROP_X l) - 4, x1),
    (s.reg (.ING_CROP_Y l) - 4, min (h - 1) (s.reg (.ING_CROP_Y l) + s.reg (.ING_CROP_H l) + 3)))

/-- A raster pixel as R, G, B in 12 bits from a line's samples; odd 4:2:2 pixels take the mean of their neighbours' chroma (R145). -/
def State.rasterPixel (s : State) (l : Nat) (line : List (Option Nat)) (x : Nat) : Nat × Nat × Nat :=
  let at_ := fun (x c : Nat) => (nth line (3 * x + c) none).getD 0
  let full := s.reg (.ING_2110_RANGE l) == 1
  if s.reg (.ING_2110_SAMPLING l) = 0 then (rgbComponent full (at_ x 0), rgbComponent full (at_ x 1), rgbComponent full (at_ x 2))
  else
    let (w, _) := rasterSize (s.reg (.ING_2110_RASTER l))
    let chroma := fun (c : Nat) =>
      if x % 2 = 0 then at_ x c
      else if x + 1 < w then (at_ (x - 1) c + at_ (x + 1) c + 1) / 2 else at_ (x - 1) c
    ycbcrToRgb (s.reg (.ING_2110_COLORIMETRY l)) full (at_ x 0) (chroma 1) (chroma 2)

/-- The stored crop with its apron of 4 pixels on every side, as buffer words (R141, R145). -/
def State.storeCrop (s : State) (l : Nat) (lines : List (Nat × List (Option Nat))) : List Nat :=
  let (w, h) := rasterSize (s.reg (.ING_2110_RASTER l))
  let cx := s.reg (.ING_CROP_X l)
  let cy := s.reg (.ING_CROP_Y l)
  ((List.range (s.reg (.ING_CROP_H l) + 8)).map fun j =>
    let y := min (h - 1) (cy + j - 4)
    let line := ((lines.find? fun q => q.1 == y).map (·.2)).getD []
    (List.range (s.reg (.ING_CROP_W l) + 8)).map fun i =>
      let (r, g, b) := s.rasterPixel l line (min (w - 1) (cx + i - 4))
      store10 r * 2 ^ 20 + store10 g * 2 ^ 10 + store10 b).flatten

/-- Sample rows put into a frame's lines (R144). -/
def State.putRow (s : State) (l : Nat) (lines : List (Nat × List (Option Nat))) (r : SampleRow) : List (Nat × List (Option Nat)) :=
  let sampling := s.reg (.ING_2110_SAMPLING l)
  let depth := s.reg (.ING_2110_DEPTH l)
  let (_, oct) := pgroup sampling depth
  let (w, _) := rasterSize (s.reg (.ING_2110_RASTER l))
  let px := rowSamples sampling depth (r.octets.length / oct) r.octets
  let old := ((lines.find? fun q => q.1 == r.line).map (·.2)).getD (List.replicate (3 * w) none)
  (r.line, old.take (3 * r.offset) ++ px ++ old.drop (3 * r.offset + px.length)) :: lines.filter fun q => q.1 != r.line

/-- Whether every needed sample has come (R144). -/
def State.linesComplete (s : State) (l : Nat) (lines : List (Nat × List (Option Nat))) : Bool :=
  let ((x0, x1), (y0, y1)) := s.neededArea l
  (List.range (y1 + 1 - y0)).all fun j =>
    match lines.find? fun q => q.1 == y0 + j with
    | none => false
    | some (_, line) => (List.range (x1 + 1 - x0)).all fun i => (nth line (3 * (x0 + i)) none).isSome

/-- An ST 2110-20 frame of a layer as its first packet gives it. -/
def State.videoFrame (s : State) (p : VideoPacket) (l time : Nat) : IngestFrame := {
  id := 0, layer := l, entry := p.entry, stream := 2 ^ 32 + p.entry * 8 + l, time := time, srcEpoch := p.timestamp, total := 0
  format := 1, region := ⟨0, 0, s.reg (.ING_LAYER_W l), s.reg (.ING_LAYER_H l)⟩, fenceId := 0, replace := false, fenced := false
  released := false, late := none, replaces := none, buffer := none, cells := 0, stage := .assembling, shown := false
  parts := [], lines := [], pixels := [] }

/-- A packet of a stream for one of the layers it feeds (R132, R144). -/
def State.videoLayer (s : State) (p : VideoPacket) (l need : Nat) : State :=
  let time := samplingInstant s.now p.timestamp + s.reg (.ING_2110_DELAY l)
  let stream := 2 ^ 32 + p.entry * 8 + l
  let ended := s.ingest.refused.find? fun r => r.1 == stream && r.2.2 == p.timestamp
  let s1 :=
    if (s.ingest.frames.any fun f => f.stream == stream && f.srcEpoch == p.timestamp) || ended.isSome then s
    else
      let s0 := s.modIngest fun g => { g with
        streams := g.streams.map fun v => if v.entry = p.entry then { v with lossPosted := false } else v }
      let refuse := fun (r : Reg) => (s0.count r).noteEnded stream time p.timestamp
      if s.timeValid = false then refuse (.INGCNT_NO_TIME l)
      else match s.window (s.reg (.ING_LEAD_MIN l)) time with
        | .early => refuse (.INGCNT_EARLY l)
        | .late => refuse (.INGCNT_LATE_START l)
        | .inside => s0.acceptFrame (s0.videoFrame p l time)
  let ((_, _), (y0, y1)) := s.neededArea l
  let rows := p.rows.filter fun r => Nat.ble y0 r.line && Nat.ble r.line y1
  match s1.ingest.frames.find? fun f => f.stream == stream && f.srcEpoch == p.timestamp && !f.isComplete with
  | none => s1
  | some f =>
    if rows.isEmpty then s1
    else
      let lines := rows.foldl (fun ls r => s1.putRow l ls r) f.lines
      let s2 := s1.modFrame f.id fun f => { f with
        lines := lines, cells := if f.buffer.isNone then f.cells + need else 0 }
      if s2.linesComplete l lines then s2.frameComplete f.id (s2.storeCrop l lines) else s2

/-- A packet given to a layer with the cells it holds; the first layer whose frame waits for a buffer keeps them (R139). -/
def State.videoFor (s : State) (p : VideoPacket) (l need : Nat) : State × Nat :=
  let cells := fun (s : State) => (s.ingest.frames.map IngestFrame.cells).sum
  let t := s.videoLayer p l need
  (t, if cells s < cells t then 0 else need)

/-- Octets of the Ethernet frame that carries a packet: Ethernet, IPv4, UDP and RTP headers, the row headers, the rows, the FCS. -/
def videoFrameLength (p : VideoPacket) : Nat := 14 + 20 + 8 + 12 + 2 + (p.rows.map fun r => 6 + r.octets.length).sum + 4

/-- ST2110_PACKET (R143 to R145). -/
def execSt2110Packet (dt : Nat) (p : VideoPacket) (s : State) : Host.Outcome State Fault Refusal :=
  run s dt fun s =>
    let s1 := s.takeCells
    let layers := s1.layersOf p.entry
    match layers with
    | [] => s1
    | l :: _ =>
      let (s2, fresh) := s1.sequence p.entry p.seq
      if fresh = false then s2
      else if p.rows.any (fun r => r.fieldBit || !s2.rowFits l r) then
        (s2.count (.INGCNT_PACKET_FORMAT_ERROR l)).formatEvent l 10
      else (layers.foldl (fun a l => a.1.videoFor p l a.2) (s2, s.heldCells (videoFrameLength p))).1

end Sys2Proof.Machine
end

