-- ==== Sys2Proof/Machine/Belfry.lean ====
section
/-! DEFINITION. Belfry at run time: dispatch (R161 to R165), the squash barrier (R172), the watchdog (R182), the trace (R177 to R180) and the
statistics (R184). -/

namespace Sys2Proof.Machine

/-- Nanoseconds in a number of 781.25 MHz clocks, truncated (R79, R184). -/
def clocksNs (n : Nat) : Nat := n * 128 / 100

/-- Clocks of 781.25 MHz in nanoseconds. -/
def nsClocks (ns : Nat) : Nat := ns * 100 / 128

/-! Dispatch -/

/-- The context of a brick on an engine (R160). -/
def State.context (s : State) (engine epoch brick : Nat) : Option BrickContext :=
  ((nth s.belfry.engines engine Engine.reset).contexts).find? fun c => c.epoch == epoch && c.brick == brick

/-- Engine clocks of an operation by the pixels it processes (R156). -/
def State.actualClocks (s : State) (o : BelOp) : Nat :=
  match s.epochOf o.epoch with
  | none => o.clocks
  | some e =>
    if o.code ≤ 1 then
      let rect := e.config.brick o.brick
      if o.aux = 8 then
        opClocks (2 * ((e.config.finial.filter fun u => !u.blanked).map fun u => (u.rect.meet rect).area).sum)
      else
        let shown := s.shownRect (e.config.layer o.aux) (nth e.layers o.aux .waiting)
        opClocks ((if o.code = 1 then 5 else 2) * (shown.meet rect).area)
    else if o.code = 2 then
      let n := ((o.engine.bind fun k => s.context k o.epoch o.brick).map fun c =>
        (c.fetched.filter fun f => f.1 != 8).length).getD 0
      opClocks ((e.config.brick o.brick).area * max 1 n)
    else o.clocks

/-- Whether an engine runs nothing and stops nothing (R161). -/
def State.idle (s : State) (k : Nat) : Bool :=
  (nth s.belfry.engines k Engine.reset).active && (nth s.belfry.engines k Engine.reset).stopping.all (fun x => Nat.ble x.2 s.ticks) &&
    !(s.belfry.slots.any fun o => match o.stage with
      | .running g _ => g == k
      | _ => false)

/-- Whether one ready operation goes before another: higher priority, then earlier readiness (R163). -/
def opBefore (a b : BelOp) : Bool :=
  match a.stage, b.stage with
  | .ready p _ i, .ready q _ j => Nat.blt q p || (p == q && Nat.blt i j)
  | _, _ => false

/-- The first ready operation an engine may take: bound to it or unbound (R161). -/
def State.firstReady (s : State) (k : Nat) : Option BelOp :=
  s.belfry.slots.foldl (fun best o => match o.stage with
    | .ready _ _ _ =>
      if o.engine = some k ∨ o.engine = none then
        match best with
        | none => some o
        | some b => if opBefore o b then some o else best
      else best
    | _ => best) none

/-- The wait of a dispatched operation summed into the window (R184). -/
def BelStats.addWait (t : BelStats) (p ticks : Nat) : BelStats := { t with
  waitSum := modNth t.waitSum p (· + ticks), waitCount := modNth t.waitCount p (· + 1), waitMax := modNth t.waitMax p (max · ticks) }

/-- An engine takes an operation (R161). -/
def State.dispatch (s : State) (k : Nat) (o : BelOp) : State :=
  match o.stage with
  | .ready p since _ =>
    let clocks := s.actualClocks o
    let s1 := s.modOp o.slot fun q => { q with stage := .running k s.ticks, clocks := clocks }
    let s2 := s1.modEngine k fun g => { g with boundClocks := if o.engine.isSome then g.boundClocks - o.clocks else g.boundClocks }
    let s3 := s2.modBelfry fun b => { b with stats := b.stats.addWait p (s.ticks - since) }
    ((s3.count .BELCNT_OPS_DISPATCHED).trace (o.record 2 0 p k 0)).showQueues
  | _ => s

/-- DISPATCH: an idle engine takes the first ready operation bound to it or unbound (R161). -/
def execDispatch (dt engine : Nat) (s : State) : Host.Outcome State Fault Refusal :=
  run s dt fun s =>
    if s.idle engine then
      match s.firstReady engine with
      | some o => s.dispatch engine o
      | none => s
    else s

/-- URGENT_PRIORITY: at T_c − BEL_URGENT_NS the oldest uncommitted epoch's operations take priority 5 (R163, R164). -/
def execUrgentPriority (dt : Nat) (s : State) : Host.Outcome State Fault Refusal :=
  run s dt fun s =>
    match s.oldest with
    | some e =>
      if e.urgent = false ∧ e.tc ≤ s.time96 + nsUnits (s.reg .BEL_URGENT_NS) then
        ((s.modEpoch e.epoch fun x => { x with urgent := true }).reprioritise).showQueues
      else s
    | none => s

/-! Squash barrier -/

/-- An epoch leaves flight without a strike: its slot, its buffers and its copy marks are free. -/
def State.retire (s : State) (e : Nat) : State :=
  ({ s with epochs := s.epochs.filter fun x => x.epoch != e }).collect

/-- SQUASH_BARRIER: the sweep is done, no engine holds an operation of the epoch and no write of it remains (R172). A replacement may then
be instantiated (R29); without one the epoch is retired. Instantiation that stopped goes on with the slots freed (R159). -/
def execSquashBarrier (dt epoch : Nat) (s : State) : Host.Outcome State Fault Refusal :=
  run s dt fun s =>
    if s.belfry.engines.any fun g => g.stopping.any fun x => x.1 == epoch && Nat.blt s.ticks x.2 then s
    else match s.epochOf epoch with
      | some e =>
        match e.stage with
        | .squashing replace =>
          let s1 := s.trace (plainRecord 10 0 epoch 0 0 0)
          let s2 := if replace then (s1.modEpoch epoch fun x => { x with stage := .awaiting, replacement := true }).collect
            else (s1.retire epoch).reprioritise
          s2.resume.showQueues
        | _ => s
      | none => s

/-! The watchdog -/

/-- Bits of the engines in use (R183). -/
def State.showEngines (s : State) : State :=
  s.setReg .BEL_ENGINES_ACTIVE ((s.belfry.engines.zipIdx.map fun (g, k) => if g.active then 2 ^ k else 0).sum)

/-- The bricks of uncommitted epochs bound to an engine start again from their FETCH operations, bound anew (R182). -/
def State.restartBricks (s : State) (k : Nat) : State :=
  let ctx := (nth s.belfry.engines k Engine.reset).contexts
  let s1 := s.modEngine k fun g => { g with contexts := [], boundClocks := 0 }
  (ctx.foldl (fun s c =>
    match s.epochOf c.epoch with
    | some e =>
      if e.stage = .live then
        (s.modBelfry fun b => { b with
          slots := b.slots.filter fun o => !(o.code < 7 && o.epoch == c.epoch && o.brick == c.brick) }).modEpoch c.epoch
            fun x => { x with restart := x.restart ++ [c.brick] }
      else s
    | none => s) s1)

/-- WATCHDOG_TRIP: an operation has run longer than four times its engine time plus 1,024 clocks (R182). -/
def execWatchdogTrip (dt engine : Nat) (s : State) : Host.Outcome State Fault Refusal :=
  run s dt fun s =>
    match s.belfry.slots.find? fun o => match o.stage with
      | .running g _ => g == engine
      | _ => false with
    | none => s
    | some o =>
      let since := match o.stage with
        | .running _ t => t
        | _ => s.ticks
      if (s.ticks - since) / 2 ≤ 4 * o.clocks + 1024 then s
      else
        let g := nth s.belfry.engines engine Engine.reset
        let again := g.lastTrip.any fun t => decide (s.ticks < t + nsClocks 1000000000)
        let s1 := (s.count .BELCNT_WATCHDOG).post 0x5008 5 (engine + o.code * 16 + o.slot * 256)
        let s2 := (s1.modEngine engine fun g => { g with lastTrip := some s.ticks, active := g.active && !again }).trace
          (plainRecord 13 (if again then 2 else 1) 0 engine 0 0)
        let s3 := if again then (s2.post 0x5001 7 (engine + 16)).showEngines else s2
        let s4 := if s3.reg .BEL_ENGINES_ACTIVE = 0 then s3.setReg .BEL_STATE 3 else s3
        let s5 := if 7 ≤ o.code then s4.makeReady o else s4
        ((s5.restartBricks engine).resume).showQueues

/-! The trace -/

/-- A trace record as 128 bits (R177). -/
def TraceRecord.word (r : TraceRecord) : Nat :=
  r.time * 2 ^ 88 + r.decision * 2 ^ 84 + r.reason * 2 ^ 80 + r.epoch * 2 ^ 64 + r.prio * 2 ^ 61 + b2n r.lamp * 2 ^ 60 +
    r.engine * 2 ^ 56 + r.op * 2 ^ 52 + r.slot * 2 ^ 37 + r.brick * 2 ^ 25 + r.aux * 2 ^ 19 + r.arg

/-- TRACE_GAP_RECORD: space has returned in the on-chip queue, and a GAP record states how many records were lost (R178). -/
def execTraceGapRecord (dt : Nat) (s : State) : Host.Outcome State Fault Refusal :=
  run s dt fun s =>
    if s.belfry.traceLost = 0 ∨ 128 ≤ s.belfry.traceQueue then s
    else
      let r := { plainRecord 15 0 0 0 0 s.belfry.traceLost with time := s.now % 2 ^ 40 }
      (s.modBelfry fun b => { b with traceLost := 0 }).traceStore r

/-- Whether a sequence number is that of a valid record (R180). -/
def State.traceValid (s : State) (seq : Nat) : Bool :=
  Nat.blt ((s.reg .BEL_TRACE_WRITE_SEQ + 2 ^ 32 - seq) % 2 ^ 32) s.traceCapacity

/-- The oldest valid record, or the write sequence where there is none (R180). -/
def State.traceOldest (s : State) : Nat :=
  ((s.belfry.trace.find? fun r => s.traceValid r.seq).map TraceRecord.seq).getD (s.reg .BEL_TRACE_WRITE_SEQ)

/-- A transfer of BEL_TRACE_READ (R179, R180). -/
def State.traceRead (s : State) : State :=
  let here := s.reg .BEL_TRACE_READ_POS
  let passed := !s.traceValid here
  let overtaken := bitOf (s.reg .BEL_TRACE_FLAGS) 1 || passed
  let pos := if passed || !(s.belfry.trace.any fun r => r.seq == here) then s.traceOldest else here
  let records := ((s.belfry.trace.dropWhile fun r => r.seq != pos).take 4096)
  let flags := b2n (bitOf (s.reg .BEL_TRACE_FLAGS) 0) + 2 * b2n overtaken
  let header := leOctets 4 pos ++ leOctets 2 records.length ++ leOctets 2 flags
  let s1 := s.setReg .BEL_TRACE_READ_POS (pos + records.length)
  let s2 := (s1.setBit .BEL_TRACE_FLAGS 0 false).setBit .BEL_TRACE_FLAGS 1 false
  s2.emit (.data (header ++ (records.map fun r => leOctets 16 r.word).flatten))

/-- BEL_TRACE_READ. -/
def execBelTraceRead (dt who : Nat) (s : State) : Host.Outcome State Fault Refusal := run s dt fun s => s.asReader who State.traceRead

/-- A write of BEL_TRACE_REWIND (R180). -/
def State.traceRewind (s : State) (value : Nat) : State :=
  if value ≠ 1 then s.reply 8
  else
    let mark := s.reg .BEL_TRACE_MARK
    ((s.setReg .BEL_TRACE_READ_POS (if bitOf (s.reg .BEL_TRACE_FLAGS) 2 then mark else s.traceOldest))).reply 0

/-- BEL_TRACE_REWIND. -/
def execBelTraceRewind (dt who value : Nat) (s : State) : Host.Outcome State Fault Refusal :=
  run s dt fun s => s.asWriter who .BEL_TRACE_REWIND fun s => s.traceRewind value

/-- A write of BEL_TRACE_MARK (R180). -/
def State.traceMark (s : State) (value : Nat) : State :=
  let s1 := s.setReg .BEL_TRACE_MARK value
  (s1.setBit .BEL_TRACE_FLAGS 2 (s1.traceValid (value % 2 ^ 32))).reply 0

/-- BEL_TRACE_MARK. -/
def execBelTraceMark (dt who value : Nat) (s : State) : Host.Outcome State Fault Refusal :=
  run s dt fun s => s.asWriter who .BEL_TRACE_MARK fun s => s.traceMark value

/-- A write of BEL_TRACE_SIZE: a change of size empties the ring and invalidates the mark; the sequence count goes on (R183). -/
def State.traceSize (s : State) (value : Nat) : State :=
  if s.reg .BEL_TRACE_SIZE = value then s.reply 0
  else (((s.setReg .BEL_TRACE_SIZE value).modBelfry fun b => { b with trace := [] }).setBit .BEL_TRACE_FLAGS 2 false).reply 0

/-! Statistics -/

/-- Busy clocks of an engine in the running window, its running operation included (R184). -/
def State.busyTicks (s : State) (k : Nat) : Nat :=
  let run_ := s.belfry.slots.find? fun o => match o.stage with
    | .running g _ => g == k
    | _ => false
  nth s.belfry.stats.busy k 0 + (match run_ with
    | some o => match o.stage with
      | .running _ t => s.ticks - max t s.belfry.stats.start
      | _ => 0
    | none => 0)

/-- STATS_WINDOW_END: the values of a complete window replace those of the one before (R184). -/
def execStatsWindowEnd (dt : Nat) (s : State) : Host.Outcome State Fault Refusal :=
  run s dt fun s =>
    let st := s.belfry.stats
    let window := s.reg .BEL_STATS_WINDOW
    if clocksNs (s.ticks - st.start) < window then s
    else
      let s1 := (List.range 8).foldl (fun t p =>
        let n := nth st.waitCount p 0
        (t.setReg (.BEL_WAIT_MEAN (p + 1)) (if n = 0 then 0 else clocksNs (nth st.waitSum p 0) / n)).setReg (.BEL_WAIT_MAX (p + 1))
          (clocksNs (nth st.waitMax p 0))) s
      let clocks := max 1 (window * 100 / 256)
      let s2 := (List.range 16).foldl (fun t k =>
        t.setReg (.BEL_ENGINE_LOAD (k + 1))
          (if (nth s.belfry.engines k Engine.reset).active then s.busyTicks k / 2 * 1000 / clocks else 0)) s1
      s2.modBelfry fun b => { b with stats := BelStats.fresh s.ticks }

/-- A write of BEL_STATS_WINDOW starts a new window (R184). -/
def State.statsWindow (s : State) (value : Nat) : State :=
  if inRange .BEL_STATS_WINDOW value then
    ((s.setReg .BEL_STATS_WINDOW value).modBelfry fun b => { b with stats := BelStats.fresh s.ticks }).reply 0
  else s.reply 8

/-- BEL_STATS_WINDOW. -/
def execBelStatsWindow (dt who value : Nat) (s : State) : Host.Outcome State Fault Refusal :=
  run s dt fun s => s.asWriter who .BEL_STATS_WINDOW fun s => s.statsWindow value

end Sys2Proof.Machine
end

