-- ==== Sys2Proof/Machine/PixelOps.lean ====
section
/-! DEFINITION. The results of the pixel operations (R140, R142, R146, R191 to R193, R208, R210 to R212, R217 to R219, R248, R269): what
FETCH, COMPOSITE, CALIBRATE, REMAP, DITHER and PACK write when they complete. -/

namespace Sys2Proof.Machine

/-- A brick context changed. -/
def State.modContext (s : State) (engine epoch brick : Nat) (f : BrickContext → BrickContext) : State :=
  s.modEngine engine fun g => { g with
    contexts := g.contexts.map fun c => if c.epoch = epoch && c.brick == brick then f c else c }

/-- The page of a buffer that holds a stored pixel: brick within the buffer, plus 1,024 for its second half (R141, R142, R149). -/
def bufferPage (storedW x y : Nat) : Nat := y / 32 * ((storedW + 63) / 64) + x / 64 + 1024 * (y % 32 / 16)

/-- A canvas pixel of a WSF layer out of its frame: none outside the region shown or on a failed page (R140, R142). -/
def wsfPixel (c : LayerConfig) (f : IngestFrame) (bad : List Nat) (x y : Nat) : Option (List Nat) :=
  let lx := x - c.area.x
  let ly := y - c.area.y
  if c.area.has x y && f.region.has lx ly && !bad.contains (bufferPage c.area.w lx ly) then
    some (expandPixel (if f.format = 1 then 1 else 0) (nth f.pixels ((ly - f.region.y) * f.region.w + (lx - f.region.x)) 0))
  else none

/-- A component, 0 R, 1 G, 2 B, of a stored crop pixel given by its raster place, times 4 (R146). -/
def cropSample (c : LayerConfig) (f : IngestFrame) (k x y : Nat) : Nat :=
  let w := nth f.pixels ((y + 4 - c.crop.y) * (c.crop.w + 8) + (x + 4 - c.crop.x)) 0
  4 * field w (29 - 10 * k) (20 - 10 * k)

/-- Raster columns and rows the taps of an output pixel read (R146). -/
def tapPlaces (cropAt cropLen raster step i : Nat) (lo hi : Bool) : List Nat :=
  let n := scalePos2 cropAt step i / 2 / 65536
  (List.range 8).map fun (k : Nat) => edgeClamp cropAt cropLen raster lo hi (n - 3 + (k : Int))

/-- A canvas pixel of an ST 2110-20 layer, scaled where crop and size differ: a horizontal and then a vertical pass (R146). A pixel whose
taps read a failed page is transparent (log entry 23). -/
def rasterLayerPixel (c : LayerConfig) (f : IngestFrame) (bad : List Nat) (x y : Nat) : Option (List Nat) :=
  if !c.area.has x y then none
  else
    let i := x - c.area.x
    let j := y - c.area.y
    let (rw, rh) := if c.rasterCode = 0 then (1920, 1080) else (3840, 2160)
    let page := fun (p : Nat × Nat) => bufferPage (c.crop.w + 8) (p.1 + 4 - c.crop.x) (p.2 + 4 - c.crop.y)
    if c.crop.w = c.area.w ∧ c.crop.h = c.area.h then
      let p := (c.crop.x + i, c.crop.y + j)
      if bad.contains (page p) then none
      else some ([0, 1, 2].map (fun k => expand10 (cropSample c f k p.1 p.2 / 4)) ++ [4095])
    else
      let sx := scaleStep c.crop.w c.area.w
      let sy := scaleStep c.crop.h c.area.h
      let (el, et, er, eb) := (bitOf c.edge 0, bitOf c.edge 1, bitOf c.edge 2, bitOf c.edge 3)
      let cols := tapPlaces c.crop.x c.crop.w rw sx i el er
      let rows := tapPlaces c.crop.y c.crop.h rh sy j et eb
      if rows.any fun r => cols.any fun q => bad.contains (page (q, r)) then none
      else
        let value := fun (k : Nat) =>
          scaleAt c.filter (scalePos2 c.crop.y sy j) fun (r : Int) =>
            let row := edgeClamp c.crop.y c.crop.h rh et eb r
            scaleAt c.filter (scalePos2 c.crop.x sx i) fun (q : Int) =>
              cropSample c f k (edgeClamp c.crop.x c.crop.w rw el er q) row
        some ([value 0, value 1, value 2] ++ [4095])

/-- Pages that failed their check at a fetch are counted and reported (R142). -/
def State.pagesFailed (s : State) (layer : Nat) (bad : List Nat) : State :=
  bad.foldl (fun s p => (s.count (.INGCNT_PAGE_CHECK_FAIL layer)).post 0x4009 4 (layer + p * 16)) s

/-- A FETCH of a layer lands in the brick context (R140, R142, R146). -/
def State.landFetch (s : State) (e : Epoch) (o : BelOp) (k : Nat) (bad : List Nat) : State :=
  match nth e.layers o.aux .waiting with
  | .shows id =>
    match s.frameOf id with
    | some f =>
      let c := e.config.layer o.aux
      let px := (e.config.brick o.brick).pixels.map fun p =>
        if c.raster then rasterLayerPixel c f bad p.1 p.2 else wsfPixel c f bad p.1 p.2
      (s.pagesFailed o.aux bad).modContext k o.epoch o.brick fun x => { x with fetched := x.fetched ++ [(o.aux, px)] }
    | none => s
  | _ => s

/-- Every decision register changed alike (R209). -/
def State.modDecision (s : State) (f : Decision → Decision) : State :=
  let d := f s.decision
  (s.modCupola fun c => { c with decisions := List.replicate 3 d }).setReg .CUP_FIN_ASSERTED (d.asserted + d.blanked * 65536)

/-- The Finial FETCH (R210): pages numbered region × 4,096 + page. A page of copy 1 that fails is repaired from copy 2; where both fail
the region is blanked in this and every later epoch, and counted once. -/
def State.landFinial (s : State) (o : BelOp) (f : ReadFaults) : State :=
  f.finialCopy1.foldl (fun s p =>
    let region := p / 4096
    if f.finialCopy2.contains p then
      if bitOf s.decision.blanked region then s
      else
        let s1 := s.modDecision fun d => { d with blanked := setBitTo d.blanked region true }
        let from_ := ((s.epochOf o.epoch).map Epoch.tp).getD 0
        let s2 := { s1 with epochs := s1.epochs.map fun (e : Epoch) => if e.uncommitted && Nat.ble from_ e.tp then
          { e with config := { e.config with
            finial := e.config.finial.map fun (u : FinialUse) => if u.region = region then { u with blanked := true } else u } } else e }
        (s2.count .FINCNT_PAGE_BLANKED).post 0x6025 7 region
    else (s.count .FINCNT_PAGE_REPAIRED).post 0x6026 4 (region + p % 4096 * 16)) s

/-- A composed pixel (R193): the layers of the epoch's order that contribute, then the Finial regions. -/
def composePixel (c : EpochConfig) (fetched : List (Nat × List (Option (List Nat)))) (i x y : Nat) : Composed :=
  let base : Composed := ⟨colour36 c.background, 15, false, false⟩
  let d := c.order.foldl (fun d l =>
    match fetched.find? fun f => f.1 == l with
    | some f => match nth f.2 i none with
      | some px => blendLayer l (c.layer l) px d
      | none => d
    | none => d) base
  c.finial.foldl (fun d u =>
    if u.rect.has x y then
      blendFinial u c.failColour (some (expandPixel 0 (nth u.pixels ((y - u.rect.y) * u.rect.w + (x - u.rect.x)) 0))) d
    else d) d

/-- COMPOSITE lands in the brick context and in the output copy, and marks the lamp records it covers (R193, R211, R271). -/
def State.landComposite (s : State) (e : Epoch) (o : BelOp) (k : Nat) : State :=
  match s.context k o.epoch o.brick with
  | none => s
  | some c =>
    let px := (e.config.brick o.brick).pixels.zipIdx.map fun (p, i) => composePixel e.config c.fetched i p.1 p.2
    let words := px.map fun d => copyWord e.config.compact e.epoch d
    let lamps := (List.range 512).filter fun r =>
      let w := nth e.config.lampMap r 0
      lampEnabled w && brickOf e.config.canvasW (lampX w) (lampY w) == o.brick
    let s1 := s.modContext k o.epoch o.brick fun x => { x with composed := px.map Composed.rgb }
    let s2 := s1.modCupola fun u => { u with
      copy := modNth u.copy e.slot fun bricks => (o.brick, words) :: bricks.filter fun b => b.1 != o.brick }
    s2.modScan fun n => { n with
      marks := modNth n.marks e.slot fun m => m ++ lamps.filter fun r => !m.contains r }

/-- The composed colour of a canvas pixel in a brick context. -/
def contextColour (c : EpochConfig) (ctx : BrickContext) (brick x y : Nat) : List Nat :=
  let r := c.brick brick
  nth ctx.composed ((y - r.y) * r.w + (x - r.x)) [0, 0, 0]

/-- The calibration of a mapped pixel: its live data, else what CAL_UNCAL_ACTION gives an uncalibrated module (R220, R232). -/
def State.pixelCal (s : State) (c : EpochConfig) (p : MappedPixel) : LivePixel × List Nat :=
  let rgbw := runRgbw p.run
  match c.live.find? fun m => m.link == p.link && m.module == p.module with
  | some m => (nth m.pixels p.number ⟨[], 3⟩, m.table)
  | none =>
    if s.reg .CAL_UNCAL_ACTION = 1 then
      let m := if rgbw then (List.range 16).map fun i => s.regInt (.CAL_NOMINAL_RGBW (i + 1))
        else (List.range 9).map fun i => s.regInt (.CAL_NOMINAL_RGB (i + 1))
      (⟨m, 0⟩, [])
    else (⟨[], 3⟩, [])

/-- CALIBRATE lands per mapped pixel (R217, R218). -/
def State.landCalibrate (s : State) (e : Epoch) (o : BelOp) (k : Nat) : State :=
  match s.context k o.epoch o.brick with
  | none => s
  | some c =>
    let px := (brickPixels e.config.map e.config.canvasW o.brick).map fun p =>
      let (cal, table) := s.pixelCal e.config p
      emitterDrives cal.matrix (linearInputs table (runRgbw p.run) (contextColour e.config c o.brick p.x p.y))
    let clamped := (px.filter fun d => d.2).length
    (if clamped = 0 then s else s.count .CALCNT_CLAMP_PIXELS clamped).modContext k o.epoch o.brick fun x =>
      { x with emitters := px.map (·.1) }

/-- REMAP lands per emitter position, in the emitter order of the run (R219, R248). -/
def State.landRemap (s : State) (e : Epoch) (o : BelOp) (k : Nat) : State :=
  let px := brickPixels e.config.map e.config.canvasW o.brick
  s.modContext k o.epoch o.brick fun x => { x with
    emitters := (px.zip x.emitters).map fun (p, d) =>
      let ordered := ((emitterOrder (runOrder p.run)).getD []).map fun i => nth d i 0
      remap ordered (runSpares p.run) (s.pixelCal e.config p).1.selector }

/-- The depth a module declares; 16 where none is known. -/
def EpochConfig.depth (c : EpochConfig) (link module : Nat) : Nat :=
  let d := nth (nth c.depths link []) (module - 1) 0
  if d = 0 then 16 else d

/-- DITHER lands at link word depth (R269). -/
def State.landDither (s : State) (e : Epoch) (o : BelOp) (k : Nat) : State :=
  let px := brickPixels e.config.map e.config.canvasW o.brick
  s.modContext k o.epoch o.brick fun x => { x with
    emitters := (px.zip x.emitters).map fun (p, d) =>
      d.map fun v => dither e.config.dither e.index e.config.feeds p.x p.y (e.config.depth p.link p.module) v }

/-- PACK lands in the epoch's output frame slot at the addresses of its runs: link words by module × 262,144 + position (R153, R251). -/
def State.landPack (s : State) (e : Epoch) (o : BelOp) (k : Nat) : State :=
  match s.context k o.epoch o.brick with
  | none => s
  | some c =>
    let px := (brickPixels e.config.map e.config.canvasW o.brick).zip c.emitters
    let words := (px.filter fun p => p.1.link == o.aux).map fun (p, d) =>
      d.zipIdx.map fun (v, i) => (p.module * 262144 + p.word + i, v)
    let key := o.aux * 4096 + o.brick
    s.modCupola fun u => { u with
      frames := modNth u.frames e.slot fun f => (key, words.flatten) :: f.filter fun q => q.1 != key }

/-- The result of a pixel operation of an epoch in the live set (R170). -/
def State.landPixel (s : State) (e : Epoch) (o : BelOp) (k : Nat) (f : ReadFaults) : State :=
  if o.code ≤ 1 then (if o.aux = 8 then s.landFinial o f else s.landFetch e o k f.bufferPages)
  else if o.code = 2 then s.landComposite e o k
  else if o.code = 3 then s.landCalibrate e o k
  else if o.code = 4 then s.landRemap e o k
  else if o.code = 5 then s.landDither e o k
  else s.landPack e o k

/-- A running operation completes: its clocks count as busy, its slot is free, its successors have one dependency fewer, and its brick
may be at its end (R154, R158, R184). -/
def State.finishOp (s : State) (o : BelOp) (k since : Nat) : State :=
  let s1 := s.modBelfry fun b => { b with
    stats := { b.stats with busy := modNth b.stats.busy k (· + (s.ticks - max since b.stats.start)) } }
  let s2 := (s1.freeOp o).trace (o.record 3 0 (s1.opPriority o) k ((s.ticks - since) / 2))
  let s3 := s2.releaseSuccessors o
  if o.code < 7 then (s3.brickEnd o.epoch o.brick) else s3

end Sys2Proof.Machine
end

