-- ==== Sys2Proof/Machine/Sha.lean ====
section
/-! DEFINITION. SHA-256 and SHA-512 of FIPS 180-4, HMAC-SHA-256 of RFC 2104 and HKDF-SHA-256 of RFC 5869, the standards the spec
names (R204, R478, R479, R489, R500, R503). Their tables are those standards' (log entry 7). -/

namespace Sys2Proof.Machine

/-- Round constants of SHA-256, part 1. -/
def sha256K_1 : List Nat := [
  0x428a2f98, 0x71374491, 0xb5c0fbcf, 0xe9b5dba5, 0x3956c25b, 0x59f111f1, 0x923f82a4, 0xab1c5ed5,
  0xd807aa98, 0x12835b01, 0x243185be, 0x550c7dc3, 0x72be5d74, 0x80deb1fe, 0x9bdc06a7, 0xc19bf174,
  0xe49b69c1, 0xefbe4786, 0x0fc19dc6, 0x240ca1cc, 0x2de92c6f, 0x4a7484aa, 0x5cb0a9dc, 0x76f988da,
  0x983e5152, 0xa831c66d, 0xb00327c8, 0xbf597fc7, 0xc6e00bf3, 0xd5a79147, 0x06ca6351, 0x14292967,
  0x27b70a85, 0x2e1b2138, 0x4d2c6dfc, 0x53380d13, 0x650a7354, 0x766a0abb, 0x81c2c92e, 0x92722c85]

/-- Round constants of SHA-256, part 2. -/
def sha256K_2 : List Nat := [
  0xa2bfe8a1, 0xa81a664b, 0xc24b8b70, 0xc76c51a3, 0xd192e819, 0xd6990624, 0xf40e3585, 0x106aa070,
  0x19a4c116, 0x1e376c08, 0x2748774c, 0x34b0bcb5, 0x391c0cb3, 0x4ed8aa4a, 0x5b9cca4f, 0x682e6ff3,
  0x748f82ee, 0x78a5636f, 0x84c87814, 0x8cc70208, 0x90befffa, 0xa4506ceb, 0xbef9a3f7, 0xc67178f2]

/-- Round constants of SHA-256. -/
def sha256K : List Nat := sha256K_1 ++ sha256K_2

/-- Round constants of SHA-512, part 1. -/
def sha512K_1 : List Nat := [
  0x428a2f98d728ae22, 0x7137449123ef65cd, 0xb5c0fbcfec4d3b2f, 0xe9b5dba58189dbbc,
  0x3956c25bf348b538, 0x59f111f1b605d019, 0x923f82a4af194f9b, 0xab1c5ed5da6d8118,
  0xd807aa98a3030242, 0x12835b0145706fbe, 0x243185be4ee4b28c, 0x550c7dc3d5ffb4e2,
  0x72be5d74f27b896f, 0x80deb1fe3b1696b1, 0x9bdc06a725c71235, 0xc19bf174cf692694,
  0xe49b69c19ef14ad2, 0xefbe4786384f25e3, 0x0fc19dc68b8cd5b5, 0x240ca1cc77ac9c65,
  0x2de92c6f592b0275, 0x4a7484aa6ea6e483, 0x5cb0a9dcbd41fbd4, 0x76f988da831153b5,
  0x983e5152ee66dfab, 0xa831c66d2db43210, 0xb00327c898fb213f, 0xbf597fc7beef0ee4,
  0xc6e00bf33da88fc2, 0xd5a79147930aa725, 0x06ca6351e003826f, 0x142929670a0e6e70,
  0x27b70a8546d22ffc, 0x2e1b21385c26c926, 0x4d2c6dfc5ac42aed, 0x53380d139d95b3df,
  0x650a73548baf63de, 0x766a0abb3c77b2a8, 0x81c2c92e47edaee6, 0x92722c851482353b]

/-- Round constants of SHA-512, part 2. -/
def sha512K_2 : List Nat := [
  0xa2bfe8a14cf10364, 0xa81a664bbc423001, 0xc24b8b70d0f89791, 0xc76c51a30654be30,
  0xd192e819d6ef5218, 0xd69906245565a910, 0xf40e35855771202a, 0x106aa07032bbd1b8,
  0x19a4c116b8d2d0c8, 0x1e376c085141ab53, 0x2748774cdf8eeb99, 0x34b0bcb5e19b48a8,
  0x391c0cb3c5c95a63, 0x4ed8aa4ae3418acb, 0x5b9cca4f7763e373, 0x682e6ff3d6b2b8a3,
  0x748f82ee5defb2fc, 0x78a5636f43172f60, 0x84c87814a1f0ab72, 0x8cc702081a6439ec,
  0x90befffa23631e28, 0xa4506cebde82bde9, 0xbef9a3f7b2c67915, 0xc67178f2e372532b,
  0xca273eceea26619c, 0xd186b8c721c0c207, 0xeada7dd6cde0eb1e, 0xf57d4f7fee6ed178,
  0x06f067aa72176fba, 0x0a637dc5a2c898a6, 0x113f9804bef90dae, 0x1b710b35131c471b,
  0x28db77f523047d84, 0x32caab7b40c72493, 0x3c9ebe0a15c9bebc, 0x431d67c49c100d4c,
  0x4cc5d4becb3e42b6, 0x597f299cfc657e2a, 0x5fcb6fab3ad6faec, 0x6c44198c4a475817]

/-- Round constants of SHA-512. -/
def sha512K : List Nat := sha512K_1 ++ sha512K_2

/-- Initial hash value of SHA-256, part 1. -/
def sha256H0_1 : List Nat := [
  0x6a09e667, 0xbb67ae85, 0x3c6ef372, 0xa54ff53a, 0x510e527f, 0x9b05688c, 0x1f83d9ab, 0x5be0cd19]

/-- Initial hash value of SHA-256. -/
def sha256H0 : List Nat := sha256H0_1

/-- Initial hash value of SHA-512, part 1. -/
def sha512H0_1 : List Nat := [
  0x6a09e667f3bcc908, 0xbb67ae8584caa73b, 0x3c6ef372fe94f82b, 0xa54ff53a5f1d36f1,
  0x510e527fade682d1, 0x9b05688c2b3e6c1f, 0x1f83d9abfb41bd6b, 0x5be0cd19137e2179]

/-- Initial hash value of SHA-512. -/
def sha512H0 : List Nat := sha512H0_1

/-- The word width and the rotation amounts that tell SHA-256 and SHA-512 apart. -/
structure ShaParams where
  width : Nat
  big0 : Nat × Nat × Nat
  big1 : Nat × Nat × Nat
  small0 : Nat × Nat × Nat
  small1 : Nat × Nat × Nat
  consts : List Nat
  init : List Nat
  deriving DecidableEq, Repr

/-- SHA-256 (FIPS 180-4). -/
def sha256Params : ShaParams := ⟨32, (2, 13, 22), (6, 11, 25), (7, 18, 3), (17, 19, 10), sha256K, sha256H0⟩

/-- SHA-512 (FIPS 180-4). -/
def sha512Params : ShaParams := ⟨64, (28, 34, 39), (14, 18, 41), (1, 8, 7), (19, 61, 6), sha512K, sha512H0⟩

/-- Rotation right by n in w bits. -/
def rotr (w n x : Nat) : Nat := Nat.lor (x / 2 ^ n) ((x * 2 ^ (w - n)) % 2 ^ w)

/-- The sum of three rotations. -/
def shaBig (w : Nat) (r : Nat × Nat × Nat) (x : Nat) : Nat :=
  Nat.xor (Nat.xor (rotr w r.1 x) (rotr w r.2.1 x)) (rotr w r.2.2 x)

/-- The sum of two rotations and a shift. -/
def shaSmall (w : Nat) (r : Nat × Nat × Nat) (x : Nat) : Nat :=
  Nat.xor (Nat.xor (rotr w r.1 x) (rotr w r.2.1 x)) (x / 2 ^ r.2.2)

/-- One round over the eight working variables. -/
def shaRound (p : ShaParams) (v : List Nat) (k w : Nat) : List Nat :=
  match v with
  | [a, b, c, d, e, f, g, h] =>
    let m := 2 ^ p.width
    let ch := Nat.xor (Nat.land e f) (Nat.land (m - 1 - e) g)
    let maj := Nat.xor (Nat.xor (Nat.land a b) (Nat.land a c)) (Nat.land b c)
    let t1 := (h + shaBig p.width p.big1 e + ch + k + w) % m
    let t2 := (shaBig p.width p.big0 a + maj) % m
    [(t1 + t2) % m, a, b, c, (d + t1) % m, e, f, g]
  | _ => v

/-- The message schedule, newest word first, extended by n words. -/
def shaExtend (p : ShaParams) : Nat → List Nat → List Nat
  | 0, ws => ws
  | n + 1, ws =>
    let w := (shaSmall p.width p.small1 (nth ws 1 0) + nth ws 6 0 + shaSmall p.width p.small0 (nth ws 14 0) + nth ws 15 0)
      % 2 ^ p.width
    shaExtend p n (w :: ws)

/-- One block of sixteen words into the hash value. -/
def shaBlock (p : ShaParams) (h ws : List Nat) : List Nat :=
  let all := (shaExtend p (p.consts.length - 16) ws.reverse).reverse
  let v := (p.consts.zip all).foldl (fun v kw => shaRound p v kw.1 kw.2) h
  (h.zip v).map fun ab => (ab.1 + ab.2) % 2 ^ p.width

/-- Octets cut into n words of the width, highest octet first. -/
def shaWords (octets : Nat) : Nat → List Octet → List Nat
  | 0, _ => []
  | n + 1, bs => ofBe (bs.take octets) :: shaWords octets n (bs.drop octets)

/-- The blocks of a padded message. -/
def shaBlocks (p : ShaParams) : Nat → List Octet → List Nat → List Nat
  | 0, _, h => h
  | n + 1, bs, h => shaBlocks p n (bs.drop (2 * p.width)) (shaBlock p h (shaWords (p.width / 8) 16 bs))

/-- The padded message: a 1 bit, zeros, and the length in bits. -/
def shaPad (p : ShaParams) (m : List Octet) : List Octet :=
  let block := 2 * p.width
  let lenOctets := p.width / 4
  let zeros := (block - (m.length + 1 + lenOctets) % block) % block
  m ++ [0x80] ++ List.replicate zeros 0 ++ beOctets lenOctets (8 * m.length)

/-- The digest of a message. -/
def sha (p : ShaParams) (m : List Octet) : List Octet :=
  let bs := shaPad p m
  (shaBlocks p (bs.length / (2 * p.width)) bs p.init).flatMap (beOctets (p.width / 8))

/-- SHA-256, 32 octets. -/
def sha256 (m : List Octet) : List Octet := sha sha256Params m

/-- SHA-512, 64 octets. -/
def sha512 (m : List Octet) : List Octet := sha sha512Params m

/-- HMAC-SHA-256 (RFC 2104). -/
def hmac (key m : List Octet) : List Octet :=
  let k0 := if key.length > 64 then sha256 key else key
  let k := k0 ++ List.replicate (64 - k0.length) 0
  sha256 (k.map (fun b => b ^^^ 0x5C) ++ sha256 (k.map (fun b => b ^^^ 0x36) ++ m))

/-- HKDF-SHA-256 (RFC 5869) with an output of at most 32 octets. -/
def hkdf (salt ikm info : List Octet) (n : Nat) : List Octet :=
  (hmac (hmac salt ikm) (info ++ [1])).take n

/-- The first four octets of SHA-256 of a key, read little-endian (R204, R489). -/
def keyId (key : List Octet) : Nat := ofLe ((sha256 key).take 4)

end Sys2Proof.Machine
end

