-- ==== Sys2Proof/Machine/Cupola.lean ====
section
/-! DEFINITION. Cupola's commands: the layer order (R190), the safety channel and the Finial layer (R202 to R210), and the preview (R213). -/

namespace Sys2Proof.Machine

/-! Layer order -/

/-- Why an order change is refused: the lowest reason of R190. -/
def State.orderRefusal (s : State) : Option Nat :=
  let table := (List.range 8).map fun p => s.reg (.CUP_ORDER_ADMIN (p + 1))
  if 1 < s.reg .CUP_ORDER_ADMIN_MODE then some 1
  else if s.reg .CUP_ORDER_ADMIN_MODE = 1 ∧ !((List.range 8).all fun l => table.contains l) then some 2
  else none

/-- A write of 1 to CUP_ORDER_CHANGE (R190). -/
def State.orderRequest (s : State) : State :=
  if s.reg .CUP_ORDER_CHANGE = 1 then s.reply 10
  else match s.orderRefusal with
    | some r => (s.post 0x6002 4 r).reply 8
    | none => (s.setReg .CUP_ORDER_CHANGE 1).reply 0

/-- A write of 2 to CUP_ORDER_CHANGE (R190). -/
def State.orderCancel (s : State) : State :=
  if s.reg .CUP_ORDER_CHANGE = 1 then (s.setReg .CUP_ORDER_CHANGE 0).reply 0 else s.reply 15

/-- ORDER_CHANGE_REQUEST. -/
def execOrderChangeRequest (dt who : Nat) (s : State) : Host.Outcome State Fault Refusal :=
  run s dt fun s => s.asWriter who .CUP_ORDER_CHANGE fun s => s.orderRequest

/-- ORDER_CHANGE_CANCEL. -/
def execOrderChangeCancel (dt who : Nat) (s : State) : Host.Outcome State Fault Refusal :=
  run s dt fun s => s.asWriter who .CUP_ORDER_CHANGE fun s => s.orderCancel

/-! Safety messages (R202) -/

/-- A big-endian field of a safety message's header. -/
def smField (m : SafetyMessage) (o n : Nat) : Nat := ofBe (slice m.header o n)
/-- KIND. -/
def smKind (m : SafetyMessage) : Nat := smField m 3 1
/-- ALIVE. -/
def smAlive (m : SafetyMessage) : Nat := smField m 4 1
/-- REGION. -/
def smRegion (m : SafetyMessage) : Nat := smField m 5 1
/-- TARGET. -/
def smTarget (m : SafetyMessage) : Nat := smField m 6 2
/-- ISSUE_TIME. -/
def smIssue (m : SafetyMessage) : Nat := smField m 8 8
/-- RECT. -/
def smRect (m : SafetyMessage) : Rect := ⟨smField m 16 2, smField m 18 2, smField m 20 2, smField m 22 2⟩
/-- OFFSET. -/
def smOffset (m : SafetyMessage) : Nat := smField m 24 4
/-- COUNT. -/
def smCount (m : SafetyMessage) : Nat := smField m 28 2
/-- CONTENT_ID. -/
def smContentId (m : SafetyMessage) : Nat := smField m 30 2
/-- CONTENT_CRC. -/
def smCrc (m : SafetyMessage) : Nat := smField m 32 8

/-- Whether TARGET names the unit (R202). The chain address is chain × 256 + position. -/
def State.isTarget (s : State) (m : SafetyMessage) : Bool :=
  let t := smTarget m
  let own := s.reg .CHN_ADDRESS
  t == 0xFFFF || (own != 0 && ((t % 256 == 255 && t / 256 == own / 256) || (t == own && t % 256 != 255)))

/-- The canvas in force. -/
def State.canvas (s : State) : Nat × Nat := mapCanvas s.scan.mapOper s.lampMap

/-- The content slot an upload goes to (R207): the slot that holds it, the one not asserted, an empty one, or the older valid one. -/
def State.uploadSlot (s : State) (region id : Nat) : Nat :=
  let d := s.decision
  let slot := fun k => s.finialSlot region k
  let holds := fun k => (slot k).any fun c => c.contentId == id && !c.valid
  let valid := fun k => (slot k).any fun c => c.valid
  if holds 0 then 0
  else if holds 1 then 1
  else if bitOf d.asserted region then 1 - nth d.slots region 0
  else if !valid 0 then 0
  else if !valid 1 then 1
  else if ((slot 0).map FinialSlot.validOrder).getD 0 < ((slot 1).map FinialSlot.validOrder).getD 0 then 0 else 1

/-- Pixels of all content slots together with a rectangle put into one (R207). -/
def State.contentPixels (s : State) (region slot : Nat) (r : Rect) : Nat :=
  (s.cupola.content.zipIdx.map fun (slots, g) => (slots.zipIdx.map fun (c, k) =>
    if g = region && k == slot then r.area else (c.map fun c => c.rect.area).getD 0).sum).sum

/-- The first check of R205. -/
def State.messageFormat (s : State) (m : SafetyMessage) : Bool :=
  let (cw, ch) := s.canvas
  let r := smRect m
  let kind := smKind m
  s.flag .CUP_FIN_ENABLE && m.header.length == 56 && smField m 0 2 == 0x4649 && smField m 2 1 == 1 && Nat.ble kind 3 &&
    (if kind = 0 then smRegion m == 0xFF else Nat.ble (smRegion m) 15) &&
    (if kind = 1 then
      m.payload.length == 4 * smCount m && r.w != 0 && r.h != 0 && r.inside ⟨0, 0, cw, ch⟩ &&
        Nat.ble (smOffset m + smCount m) r.area &&
        Nat.ble (s.contentPixels (smRegion m) (s.uploadSlot (smRegion m) (smContentId m)) r) 1048576
    else m.payload.isEmpty)

/-- The second check of R205: the tag of R204. While no key is held no tag verifies. -/
def State.messageTag (s : State) (m : SafetyMessage) : Bool :=
  !s.idp.finKey.isEmpty && (hmac s.idp.finKey (m.header.take 40 ++ m.payload)).take 16 == slice m.header 40 16

/-- The third check of R205: window while TIME_VALID is 1, and no repeat. -/
def State.messageFresh (s : State) (m : SafetyMessage) : Bool :=
  let w := s.reg .CUP_FIN_WINDOW_MS * 1000000
  let t := smIssue m
  (!s.timeValid || (Nat.ble t (s.now + w) && Nat.ble s.now (t + w))) &&
    (match s.cupola.lastMessage with
      | none => true
      | some (alive, issue) => Nat.blt issue t && smAlive m != alive)

/-- A failed message: its count and its event (R205). -/
def State.refuseMessage (s : State) (r : Reg) (reason region : Nat) : State :=
  (s.count r).post 0x6022 5 (reason + region * 16)

/-- The epochs an assertion meets are superseded (R27, R208). -/
def State.supersedeRect (s : State) (r : Rect) : State :=
  (s.epochs.filter fun e => e.uncommitted && (r.meet ⟨0, 0, e.config.canvasW, e.config.canvasH⟩).area != 0).foldl
    (fun s e => s.squash e.epoch true) s

/-- The rectangle of a region's active slot. -/
def State.regionRect (s : State) (region : Nat) : Rect :=
  ((s.finialSlot region (nth s.decision.slots region 0)).map FinialSlot.rect).getD ⟨0, 0, 0, 0⟩

/-- CUP_FIN_REGION of a region (R214). -/
def State.showRegion (s : State) (region : Nat) : State :=
  let r := s.regionRect region
  s.setReg (.CUP_FIN_REGION (region + 1))
    (if bitOf s.decision.asserted region then r.x * 2 ^ 48 + r.y * 2 ^ 32 + r.w * 2 ^ 16 + r.h else 0)

/-- A region asserted with a slot, blanked or not: it takes effect at once (R208). -/
def State.assertRegion (s : State) (region slot : Nat) (blanked : Bool) : State :=
  let s1 := s.modDecision fun d => { d with
    asserted := setBitTo d.asserted region true, blanked := setBitTo d.blanked region blanked, slots := setNth d.slots region slot }
  let id := ((s1.finialSlot region slot).map FinialSlot.contentId).getD 0
  ((s1.showRegion region).post 0x6020 6 (region + id * 16)).supersedeRect (s1.regionRect region)

/-- The release of a region noted with its clock: an assertion of that clock does not stand against it (R208; log entry 121). -/
def State.noteRelease (s : State) (region : Nat) : State :=
  s.modCupola fun c => { c with released := (region, s.ticks) :: c.released.filter fun p => p.2 == s.ticks && p.1 != region }

/-- A region released (R208). -/
def State.releaseRegion (s : State) (region : Nat) : State :=
  if bitOf s.decision.asserted region then
    let s1 := s.modDecision fun d => { d with
      asserted := setBitTo d.asserted region false, blanked := setBitTo d.blanked region false }
    let s2 := (s1.modCupola fun c => { c with staleBlanked := setBitTo c.staleBlanked region false }).noteRelease region
    (s2.showRegion region).post 0x6021 4 region
  else s

/-- The safety channel is live again (R206): regions that staleness blanked show their content, as an assertion. -/
def State.liveAgain (s : State) : State :=
  let was := s.reg .CUP_FIN_STATE
  let s1 := (s.setReg .CUP_FIN_STATE 2).modCupola fun c => { c with lastAccepted := s.ticks }
  if was = 3 then
    let s2 := s1.post 0x6024 4 s1.decision.asserted
    let mask := s2.cupola.staleBlanked
    let s3 := s2.modCupola fun c => { c with staleBlanked := 0 }
    (List.range 16).foldl (fun s r =>
      if bitOf mask r && bitOf s.decision.asserted r then s.assertRegion r (nth s.decision.slots r 0) false else s) s3
  else s1

/-- An accepted message's sequence bookkeeping (R205). -/
def State.acceptMessage (s : State) (m : SafetyMessage) : State :=
  let lost := match s.cupola.lastMessage with
    | some (alive, _) => (smAlive m + 512 - alive - 1) % 256
    | none => 0
  let s1 := (s.count .FINCNT_MSG_ACCEPTED).modCupola fun c => { c with lastMessage := some (smAlive m, smIssue m) }
  (if lost = 0 then s1 else s1.count .FINCNT_MSG_LOST lost).liveAgain

/-- Pixels of a content message, four octets each. -/
def contentWords : Nat → List Octet → List Nat
  | 0, _ => []
  | n + 1, o => ofBe (o.take 4) :: contentWords n (o.drop 4)

/-- A content slot of a region set. -/
def State.setSlot (s : State) (region slot : Nat) (c : Option FinialSlot) : State :=
  s.modCupola fun u => { u with content := modNth u.content region fun l => setNth l slot c }

/-- A content message (R207). A message for a content that a slot already holds valid, with the same rectangle and check, changes nothing. -/
def State.uploadContent (s : State) (m : SafetyMessage) : State :=
  let g := smRegion m
  let id := smContentId m
  let same := fun (c : FinialSlot) => c.contentId == id && c.rect == smRect m && c.crc == smCrc m
  if [0, 1].any fun k => (s.finialSlot g k).any fun c => c.valid && same c then s
  else
    let k := s.uploadSlot g id
    let old := match s.finialSlot g k with
      | some c => if same c && !c.valid then c else ⟨id, smRect m, smCrc m, List.replicate (smRect m).area none, false, 0⟩
      | none => ⟨id, smRect m, smCrc m, List.replicate (smRect m).area none, false, 0⟩
    let px := (contentWords (smCount m) m.payload).zipIdx.foldl
      (fun (px : List (Option Nat)) q => setNth px (smOffset m + q.2) (some q.1)) old.pixels
    if px.all Option.isSome then
      let words := px.map fun p => p.getD 0
      if crcOf crc64 (words.map fun w => beOctets 4 w).flatten = old.crc then
        (s.setSlot g k (some { old with pixels := px, valid := true, validOrder := s.cupola.nextValid })).modCupola fun u =>
          { u with nextValid := u.nextValid + 1 }
      else ((s.setSlot g k none).count .FINCNT_CONTENT_CHECK_FAIL).post 0x6022 5 (4 + g * 16)
    else s.setSlot g k (some { old with pixels := px })

/-- An assert message (R208). With a release of the region in the same clock the region stays released, and no epoch is superseded. -/
def State.assertMessage (s : State) (m : SafetyMessage) : State :=
  let g := smRegion m
  let holds := fun (k : Nat) => (s.finialSlot g k).any fun c => c.valid && c.contentId == smContentId m
  match [0, 1].find? holds with
  | none => s.post 0x6022 5 (5 + g * 16)
  | some k =>
    if bitOf s.decision.asserted g ∧ holds (nth s.decision.slots g 0) then s
    else if s.cupola.released.contains (g, s.ticks) then s
    else (s.assertRegion g k false).modCupola fun c => { c with staleBlanked := setBitTo c.staleBlanked g false }

/-- A safety message: its checks in order, then its kind (R202 to R208). A release that makes the channel live again does not assert its own region first. -/
def State.safetyMessage (s : State) (m : SafetyMessage) : State :=
  if s.isTarget m = false then s
  else if s.messageFormat m = false then s.refuseMessage .FINCNT_MSG_FORMAT 1 (smRegion m)
  else if s.messageTag m = false then s.refuseMessage .FINCNT_MSG_TAG_FAIL 2 (smRegion m)
  else if s.messageFresh m = false then s.refuseMessage .FINCNT_MSG_REPEAT 3 (smRegion m)
  else
    let s0 := if smKind m = 3 then s.modCupola fun c => { c with staleBlanked := setBitTo c.staleBlanked (smRegion m) false } else s
    let s1 := s0.acceptMessage m
    if smKind m = 1 then s1.uploadContent m
    else if smKind m = 2 then s1.assertMessage m
    else if smKind m = 3 then (s1.noteRelease (smRegion m)).releaseRegion (smRegion m)
    else s1

/-- FINIAL_HEARTBEAT (R206). -/
def execFinialHeartbeat (dt : Nat) (m : SafetyMessage) (s : State) : Host.Outcome State Fault Refusal :=
  run s dt fun s => s.safetyMessage m

/-- FINIAL_CONTENT (R207). -/
def execFinialContent (dt : Nat) (m : SafetyMessage) (s : State) : Host.Outcome State Fault Refusal :=
  run s dt fun s => s.safetyMessage m

/-- FINIAL_ASSERT (R208). -/
def execFinialAssert (dt : Nat) (m : SafetyMessage) (s : State) : Host.Outcome State Fault Refusal :=
  run s dt fun s => s.safetyMessage m

/-- FINIAL_RELEASE (R208). -/
def execFinialRelease (dt : Nat) (m : SafetyMessage) (s : State) : Host.Outcome State Fault Refusal :=
  run s dt fun s => s.safetyMessage m

/-- One asserted region on entering stale (R206). -/
def State.staleRegion (s : State) (region : Nat) : State :=
  if bitOf s.decision.asserted region then
    let a := s.reg (.CUP_FIN_STALE_ACTION (region + 1))
    if a = 1 then
      if bitOf s.decision.blanked region then s
      else (s.assertRegion region (nth s.decision.slots region 0) true).modCupola fun c =>
        { c with staleBlanked := setBitTo c.staleBlanked region true }
    else if a = 2 then s.releaseRegion region
    else s
  else s

/-- FINIAL_STALE: no message accepted within CUP_FIN_STALE_MS (R206). -/
def execFinialStale (dt : Nat) (s : State) : Host.Outcome State Fault Refusal :=
  run s dt fun s =>
    if s.reg .CUP_FIN_STATE ≠ 2 ∨ s.ticks < s.cupola.lastAccepted + nsClocks (s.reg .CUP_FIN_STALE_MS * 1000000) then s
    else
      let s1 := ((s.setReg .CUP_FIN_STATE 3).count .FINCNT_STALE).post 0x6023 6 s.decision.asserted
      (List.range 16).foldl (fun s r => s.staleRegion r) s1

/-- A write of 0 to CUP_FIN_ENABLE (R208). -/
def State.finialDisable (s : State) : State :=
  let s1 := (List.range 16).foldl (fun s r => s.releaseRegion r) s
  ((s1.setReg .CUP_FIN_ENABLE 0).setReg .CUP_FIN_STATE 0).reply 0

/-- A write of 1 to CUP_FIN_ENABLE: the state is 1 with no message accepted since reset, else as its age gives (R206). -/
def State.finialEnable (s : State) : State :=
  let state := if s.cupola.lastMessage.isNone then 1
    else if s.ticks < s.cupola.lastAccepted + nsClocks (s.reg .CUP_FIN_STALE_MS * 1000000) then 2 else 3
  ((s.setReg .CUP_FIN_ENABLE 1).setReg .CUP_FIN_STATE state).reply 0

/-- FINIAL_DISABLE. -/
def execFinialDisable (dt who : Nat) (s : State) : Host.Outcome State Fault Refusal :=
  run s dt fun s => s.asWriter who .CUP_FIN_ENABLE fun s => s.finialDisable

/-- A write of CUP_FIN_KEY: 32 octets into the access record (R204). -/
def State.finialKey (s : State) (key : List Octet) : State :=
  if key.length ≠ 32 then s.reply 5
  else ({ s with idp := { s.idp with finKey := key } }.setReg .CUP_FIN_KEY_ID (keyId key)).reply 0

/-- FINIAL_KEY_WRITE. -/
def execFinialKeyWrite (dt who : Nat) (key : List Octet) (s : State) : Host.Outcome State Fault Refusal :=
  run s dt fun s => s.asWriter who .CUP_FIN_KEY fun s => s.finialKey key

/-- DECISION_MISMATCH: what the three decision registers are found to hold (R209). One that differs is reloaded from the majority; where all
differ every register takes the union of the masks and the slots of copy A. -/
def execDecisionMismatch (dt : Nat) (asserted blanked : List Nat) (slots : List (List Nat)) (s : State) :
    Host.Outcome State Fault Refusal :=
  run s dt fun s =>
    let d := fun k => (⟨nth asserted k 0, nth blanked k 0, nth slots k []⟩ : Decision)
    let load := fun (s : State) (x : Decision) => (List.range 16).foldl (fun s r => s.showRegion r) (s.modDecision fun _ => x)
    let corrected := fun (copy : Nat) (x : Decision) => ((load s x).count .FINCNT_DECISION_CORRECTED).post 0x6027 5 copy
    if d 0 = d 1 ∧ d 1 = d 2 then load s (d 0)
    else if d 0 = d 1 then corrected 2 (d 0)
    else if d 0 = d 2 then corrected 1 (d 0)
    else if d 1 = d 2 then corrected 0 (d 1)
    else
      let mask := (asserted.take 3).foldl Nat.lor 0
      (load s ⟨mask, (blanked.take 3).foldl Nat.lor 0, nth slots 0 []⟩).post 0x6028 7 mask

/-! Preview -/

/-- The rectangle of a preview. -/
def State.previewRect (s : State) : Rect :=
  ⟨s.reg (.CUP_PREVIEW_RECT 1), s.reg (.CUP_PREVIEW_RECT 2), s.reg (.CUP_PREVIEW_RECT 3), s.reg (.CUP_PREVIEW_RECT 4)⟩

/-- A write of CUP_PREVIEW_TAKE (R213). -/
def State.previewTake (s : State) (value : Nat) : State :=
  if value ≠ 1 ∨ 524288 < s.previewRect.area then s.reply 8 else (s.setReg .CUP_PREVIEW_TAKE 1).reply 0

/-- PREVIEW_TAKE. -/
def execPreviewTake (dt who value : Nat) (s : State) : Host.Outcome State Fault Refusal :=
  run s dt fun s => s.asWriter who .CUP_PREVIEW_TAKE fun s => s.previewTake value

/-- A word of the output copy of an epoch; none where nothing has written it. -/
def State.copyAt (s : State) (e : Epoch) (x y : Nat) : Option Nat :=
  let c := e.config
  let b := brickOf c.canvasW x y
  let r := c.brick b
  ((nth s.cupola.copy e.slot []).find? fun q => q.1 == b).bind fun q =>
    if r.has x y then q.2[(y - r.y) * r.w + (x - r.x)]? else none

/-- The snapshot at a strike (R213). A word nothing has written is a free value (log entry 5). -/
def State.previewSnapshot (s : State) (e : Epoch) : State :=
  if s.reg .CUP_PREVIEW_TAKE = 1 then
    let s1 := s.modCupola fun u => { u with
      preview := some (e.epoch, b2n e.config.compact, s.previewRect.pixels.zipIdx.map fun (p, i) =>
        (s.copyAt e p.1 p.2).getD (Config.freeValue (s.fresh + i) % 2 ^ (if e.config.compact then 32 else 64))) }
    { s1.setReg .CUP_PREVIEW_TAKE 2 with fresh := s.fresh + s.previewRect.area }
  else s

/-- A transfer of CUP_PREVIEW_READ (R213). -/
def State.previewRead (s : State) : State :=
  match s.cupola.preview with
  | none => s.reply 7
  | some (epoch, format, words) =>
    s.emit (.data (leOctets 2 epoch ++ leOctets 2 format ++ leOctets 4 words.length ++
      (words.map fun w => leOctets (if format = 1 then 4 else 8) w).flatten))

/-- CUP_PREVIEW_READ. -/
def execCupPreviewRead (dt who : Nat) (s : State) : Host.Outcome State Fault Refusal := run s dt fun s => s.asReader who State.previewRead

end Sys2Proof.Machine
end

