-- ==== Sys2Proof/Machine/Calibration.lean ====
section
/-! DEFINITION. Calibration: temperature zones and re-blend (R221 to R225), spare selectors (R226 to R229), images and their cached copies
(R230 to R237), trims (R238 to R240) and field recalibration (R241, R242). -/

namespace Sys2Proof.Machine

/-! Register transactions toward a module -/

/-- The session a transaction belongs to; firmware's are of session 0xFFFF (R422). -/
def TxPurpose.session : TxPurpose → Nat
  | .bridge n => n
  | .mapWrite _ => 0
  | .lock n => n
  | .unlock n => n
  | _ => 0xFFFF

/-- A register transaction queued for a module (R302). The bridge gives it the next TAG of the link, and keeps the last 256 TAGs of posted
writes (R426). -/
def State.queueTxn (s : State) (link module op address : Nat) (data : List Octet) (len : Nat) (purpose : TxPurpose) : State :=
  s.modLink link fun l => { l with
    txns := l.txns ++ [(module, ⟨op, address, l.nextTag, len, data, purpose⟩)]
    nextTag := (l.nextTag + 1) % 256
    tags := if op = 1 then (⟨l.nextTag, purpose.session, module, address, len⟩ :: l.tags.filter fun t => t.tag != l.nextTag).take 256
      else l.tags }

/-! Images (R231) -/

/-- Whether a page's check word verifies (R231). -/
def pageOk (page : List Octet) : Bool := page.length == 4096 && crcOf crc32c (page.take 4092) == pageField page 4092 4

/-- A page with its check word written from its data. -/
def sealPage (data : List Octet) : List Octet := data.take 4092 ++ leOctets 4 (crcOf crc32c (data.take 4092))

/-- Octets of a matrix record of the three sets: RGB 54, RGBW 96. -/
def matrixOctets (kind : Nat) : Nat := if kind = 0 then 54 else 96
/-- Matrix records to a page. -/
def matrixPerPage (kind : Nat) : Nat := if kind = 0 then 75 else 42
/-- Spare records to a page. -/
def sparePerPage (kind : Nat) : Nat := if kind = 0 then 70 else 40
/-- Pages of n records at so many to a page. -/
def pagesFor (n per : Nat) : Nat := (n + per - 1) / per
/-- Selector pages of an image (R234). -/
def CalHeader.selectorPages (h : CalHeader) : Nat := pagesFor h.pixels 4092

/-- IMAGE_CHECK over the check words of all pages but page 0 and the selector pages (R231). -/
def imageCheck (h : CalHeader) (pages : List (List Octet)) : Nat :=
  crcOf crc32c ((pages.zipIdx.filterMap fun (p, i) =>
    if i = 0 || (Nat.ble h.selector i && Nat.blt i (h.selector + h.selectorPages)) then none else some (slice p 4092 4)).flatten)

/-- The header check of R231 and R232; pages that could not be had leave IMAGE_CHECK unjudged. -/
def headerOk (pages : List (List Octet)) (lost : List Nat) : Bool :=
  let p := imagePage pages 0
  let h := calHeader p
  pageField p 0 4 == 0x4C435A49 && pageField p 4 2 == 1 && Nat.ble 1 h.pixels && Nat.ble h.pixels 16384 && Nat.ble h.kind 1 &&
    Nat.ble h.spares 2 && decide (h.t1 + 16 ≤ h.t2 ∧ h.t2 + 16 ≤ h.t3) && Nat.ble h.pages 1024 && h.pages == pages.length &&
    Nat.ble (h.lut + 3) h.pages && Nat.ble (h.matrix + pagesFor h.pixels (matrixPerPage h.kind)) h.pages &&
    Nat.ble (h.selector + h.selectorPages) h.pages &&
    (if h.spares = 0 then h.spare == 0 else Nat.ble (h.spare + pagesFor h.spareCount (sparePerPage h.kind)) h.pages) &&
    (!lost.isEmpty || imageCheck h pages == h.check)

/-- The linearising table of an image: 4,096 entries, 2,046 to a page (R231). -/
def imageTable (pages : List (List Octet)) : List Nat :=
  let h := calHeader (imagePage pages 0)
  (List.range 4096).map fun i => pageField (imagePage pages (h.lut + i / 2046)) (2 * (i % 2046)) 2

/-- n signed coefficients of a page from an octet on. -/
def coefficients (page : List Octet) (o n : Nat) : List Int := (List.range n).map fun i => toSigned 16 (pageField page (o + 2 * i) 2)

/-- Coefficients of one matrix. -/
def matrixSize (kind : Nat) : Nat := if kind = 0 then 9 else 16

/-- The three matrices of a pixel's primary set with the page they lie in (R231). -/
def primaryRecord (pages : List (List Octet)) (i : Nat) : Nat × List Int :=
  let h := calHeader (imagePage pages 0)
  let page := h.matrix + i / matrixPerPage h.kind
  (page, coefficients (imagePage pages page) (i % matrixPerPage h.kind * matrixOctets h.kind) (3 * matrixSize h.kind))

/-- The three matrices of a spare set of a pixel with the page they lie in; none where the pixel has no such set (R226, R231). -/
def spareRecord (pages : List (List Octet)) (pixel set : Nat) : Option (Nat × List Int) :=
  let h := calHeader (imagePage pages 0)
  let size := 4 + matrixOctets h.kind
  let place := fun (k : Nat) => (h.spare + k / sparePerPage h.kind, k % sparePerPage h.kind * size)
  ((List.range h.spareCount).find? fun k =>
    let (pg, o) := place k
    pageField (imagePage pages pg) o 2 == pixel && pageField (imagePage pages pg) (o + 2) 1 == set).map fun k =>
      let (pg, o) := place k
      (pg, coefficients (imagePage pages pg) (o + 4) (3 * matrixSize h.kind))

/-- Whether a pixel has an emitter set (R226). -/
def hasSet (pages : List (List Octet)) (pixel set : Nat) : Bool := set == 0 || (spareRecord pages pixel set).isSome

/-- The page and octet of a pixel's selector (R234). -/
def selectorPlace (pages : List (List Octet)) (pixel : Nat) : Nat × Nat :=
  ((calHeader (imagePage pages 0)).selector + pixel / 4092, pixel % 4092)

/-- The selector octet of a pixel. -/
def selectorOctet (pages : List (List Octet)) (pixel : Nat) : Nat :=
  let (pg, o) := selectorPlace pages pixel
  pageField (imagePage pages pg) o 1

/-- An image with a pixel's selector octet set and its page sealed. -/
def setSelector (pages : List (List Octet)) (pixel v : Nat) : List (List Octet) :=
  let (pg, o) := selectorPlace pages pixel
  modNth pages pg fun p => sealPage (setNth p o (BitVec.ofNat 8 v))

/-! Modules -/

/-- The cached calibration of a module. -/
def State.calModule (s : State) (link module : Nat) : Option CalModule :=
  s.cal.modules.find? fun c => c.link == link && c.module == module

/-- A module's cached calibration changed. -/
def State.modCalModule (s : State) (link module : Nat) (f : CalModule → CalModule) : State :=
  s.modCal fun c => { c with modules := c.modules.map fun x => if x.link = link && x.module == module then f x else x }

/-- A zone. -/
def State.zone (s : State) (z : Nat) : CalZone := nth s.cal.zones z CalZone.reset

/-- A zone changed. -/
def State.modZone (s : State) (z : Nat) (f : CalZone → CalZone) : State := s.modCal fun c => { c with zones := modNth c.zones z f }

/-- The zone of a module. -/
def State.zoneOf (s : State) (link module : Nat) : Nat := s.reg (.CAL_MODULE_ZONE link module)

/-- A re-blend of a zone requested (R224). -/
def State.requestPass (s : State) (z : Nat) : State := s.modZone z fun x => { x with requested := true }

/-! Re-blend -/

/-- Temperatures of a module's three sets. -/
def setTemps (pages : List (List Octet)) : Int × Int × Int :=
  let h := calHeader (imagePage pages 0)
  (h.t1, h.t2, h.t3)

/-- A live matrix from the three matrices of a set (R222). -/
def blendMatrix (theta : Int) (temps : Int × Int × Int) (n : Nat) (ms : List Int) : List Int :=
  (List.range n).map fun i =>
    liveCoefficient theta temps.1 temps.2.1 temps.2.2 (nth ms i 0) (nth ms (n + i) 0) (nth ms (2 * n + i) 0)

/-- A pixel whose records cannot be had follows CAL_UNCAL_ACTION (R232). -/
def State.nominalPixel (s : State) (kind : Nat) : LivePixel :=
  if s.reg .CAL_UNCAL_ACTION = 1 then
    ⟨if kind = 0 then (List.range 9).map fun i => s.regInt (.CAL_NOMINAL_RGB (i + 1))
      else (List.range 16).map fun i => s.regInt (.CAL_NOMINAL_RGBW (i + 1)), 0⟩
  else ⟨[], 3⟩

/-- The live data of a module at a temperature (R222, R223, R228). -/
def State.liveModule (s : State) (c : CalModule) (theta : Int) : LiveModule :=
  let h := calHeader (imagePage c.copyA 0)
  let n := matrixSize h.kind
  { link := c.link, module := c.module, table := nth s.cal.tables c.slot []
    pixels := (List.range h.pixels).map fun i =>
      let sel := selectorOctet c.copyA i % 4
      if sel = 3 then ⟨[], 3⟩
      else
        match if sel = 0 then some (primaryRecord c.copyA i) else spareRecord c.copyA i sel with
        | none => ⟨[], 3⟩
        | some (page, ms) =>
          if c.lost.contains page then s.nominalPixel h.kind else ⟨blendMatrix theta (setTemps c.copyA) n ms, sel⟩ }

/-- Engine clocks of a zone's pass: 4 px-op per RGB pixel, 8 per RGBW (R224). -/
def State.passClocks (s : State) (z : Nat) : Nat :=
  let work := ((s.zoneModules z).map fun p => match s.calModule p.1 p.2 with
    | some c =>
      let h := calHeader (imagePage c.copyA 0)
      h.pixels * (if h.kind = 0 then 4 else 8)
    | none => 0).sum
  (work + 3) / 4

/-- Background operations instantiated while more than BEL_SLOT_RESERVE slots are free (R159): REBLEND carries its zone, SCRUB its page. -/
def State.addBackground (s : State) (code brick aux epoch clocks : Nat) : State :=
  let slot := freeSlot 0 s.belfry.slots
  let o : BelOp := { slot := slot, code := code, epoch := epoch, brick := brick, aux := aux, engine := none, unmet := 0, deadline := 0
                     clocks := max 1 clocks, stage := .waiting }
  let s1 := s.modBelfry fun b => { b with slots := insertSlot o b.slots }
  ((s1.trace (o.record 0 0 (s1.opPriority o) 0 0)).makeReady o).showQueues

/-- Whether background operations may be instantiated (R159). -/
def State.slotsForBackground (s : State) : Bool := Nat.blt (s.reg .BEL_SLOT_RESERVE) (slotCount - s.belfry.slots.length)

/-- The pass of a zone starts at θ: its operations are issued, at most 4,096 clocks each (R156, R224). -/
def State.beginPass (s : State) (z : Nat) (theta : Int) : State :=
  let clocks := s.passClocks z
  let n := max 1 ((clocks + 4095) / 4096)
  let s1 := (s.modZone z fun x => { x with requested := false, pass := some theta, opsLeft := n }).setBit (.ZONE_FLAGS z) 2 true
  (List.range n).foldl (fun s i => s.addBackground 8 z 0 0 (min 4096 (clocks - 4096 * i))) s1

/-- A pushed pass: θ and the epoch at which both units swap (R452). -/
def State.pushPass (s : State) (z : Nat) : State :=
  let theta := ofSigned 16 (s.zone z).theta
  let epoch := s.swapEpoch
  if s.inPair ∧ s.mirrorUp then
    (s.modTwin fun t => { t with zonePushes := ⟨z, theta, epoch⟩ :: t.zonePushes.filter fun p => p.zone != z }).push 1 z
      (leOctets 2 theta ++ leOctets 2 epoch)
  else s

/-- The start of a zone's pass (R224). In a pair the Active unit pushes each pass, and its partner runs only passes pushed to it (R452). -/
def State.startPass (s : State) (z : Nat) : State :=
  let x := s.zone z
  if x.requested = false ∨ x.pass.isSome ∨ x.ready ∨ (s.zoneModules z).isEmpty ∨ s.slotsForBackground = false then s
  else if s.inPair ∧ s.mirrorUp ∧ s.reg .TWN_STATE ≠ 5 then
    match s.twin.zonePushes.find? fun p => p.zone == z with
    | some p => s.beginPass z (toSigned 16 p.theta)
    | none => s
  else (s.pushPass z).beginPass z x.theta

/-- REBLEND_PASS_START. -/
def execReblendPassStart (dt zone : Nat) (s : State) : Host.Outcome State Fault Refusal :=
  run s dt fun s => if zone < 64 then s.startPass zone else s

/-- A pass aborted: its operations go, the active half stays in force, and a new pass is requested (R176, R225). -/
def State.abortPass (s : State) (z : Nat) : State :=
  if (s.zone z).pass.isSome then
    let mine := s.belfry.slots.filter fun o => o.code == 8 && o.brick == z
    let s1 := mine.foldl (fun s o => match o.stage with
      | .running k _ => (s.freeOp o).trace (o.record 6 0 2 k 0)
      | _ => (s.freeOp o).trace (o.record 4 4 2 0 0)) s
    (((s1.modZone z fun x => { x with pass := none, opsLeft := 0, requested := true }).setBit (.ZONE_FLAGS z) 2 false).count
      .CALCNT_PASSES_ABORTED).showQueues
  else s

/-- Selector pages of a module written back (R229, R234): held while a recalibration of the module commits (R242), and while
the claim in force is below 128 (R443). -/
def State.writeBack (s : State) : State :=
  if s.mayWriteModules = false then s else
  let held := fun (w : Nat × Nat × Nat) => s.cal.recal.any fun r => r.committing && r.link == w.1 && r.module == w.2.1
  let go := s.cal.writebacks.filter fun w => !held w
  let s1 := s.modCal fun c => { c with writebacks := c.writebacks.filter held }
  go.foldl (fun s w => match s.calModule w.1 w.2.1 with
    | some c => s.queueTxn w.1 w.2.1 1 (0x800000 + w.2.2 * 4096) (imagePage c.copyA w.2.2) 4096 .selectorPage
    | none => s) s1

/-- Every link with runs is trained, and there is one (R540). -/
def State.linksTrained (s : State) : Bool :=
  let runs := (List.range 64).filter fun k => !(nth s.scan.mapOper k []).isEmpty
  !runs.isEmpty && runs.all fun k => s.reg (.SPL_STATE k) == 5

/-- Every calibrated module has been fetched, and its zone's first pass is complete (R540). -/
def State.calComplete (s : State) : Bool :=
  s.enumerated.all fun p =>
    let st := s.reg (.CAL_MODULE_STATUS p.1 p.2) / 65536 % 4
    st != 1 && (st != 2 || s.reg (.ZONE_PASSES (s.zoneOf p.1 p.2)) != 0)

/-- A pass complete: the inactive half is written whole, and the zone waits for its swap (R223, R224, R229). -/
def State.completePass (s : State) (z : Nat) : State :=
  match (s.zone z).pass with
  | none => s
  | some theta =>
    if (s.zone z).opsLeft ≠ 0 then s
    else
      let live := (s.zoneModules z).filterMap fun p => (s.calModule p.1 p.2).map fun c => s.liveModule c theta
      let s1 := s.modZone z fun x => { x with
        inactive := live, ready := true, blendTheta := theta, pass := none, lastPass := s.ticks }
      let s2 := (((s1.setBit (.ZONE_FLAGS z) 2 false).bump (.ZONE_PASSES z)).count .CALCNT_PASSES).writeBack
      if s2.calComplete then s2.milestone 7 else s2

/-- REBLEND_PASS_COMPLETE. -/
def execReblendPassComplete (dt zone : Nat) (s : State) : Host.Outcome State Fault Refusal :=
  run s dt fun s => if zone < 64 then s.completePass zone else s

/-! Temperature -/

/-- A MOD_TEMP reading that is valid: not 0x8000, and −50 °C to +150 °C (R233). -/
def validTemp (raw : Nat) : Option Int :=
  let t := toSigned 16 raw
  if raw = 0x8000 ∨ t < -800 ∨ 2400 < t then none else some t

/-- θ of a zone from its source, without the offset: none where the source has no valid reading (R221). -/
def State.zoneReading (s : State) (z : Nat) (temps : List (Nat × Nat × Nat)) : Option Int :=
  let source := s.reg (.CAL_ZONE_SOURCE z)
  if source = 0 then
    let v := (temps.filter fun t => s.zoneOf t.1 t.2.1 == z && s.enumerated.contains (t.1, t.2.1)).filterMap fun t => validTemp t.2.2
    if v.isEmpty then none else some (v.sum.tdiv v.length)
  else if source = 1 then
    let raw := s.reg (.LAN_NTC_TEMP (s.reg (.CAL_ZONE_NTC z) + 1))
    if raw = 0x8000 then none else some (toSigned 16 raw)
  else some (s.regInt .SYS_LOGIC_TJ)

/-- Whether θ lies more than 10 °C outside the set range of some module of a zone (R222). -/
def State.beyondSpan (s : State) (z : Nat) (theta : Int) : Bool :=
  (s.zoneModules z).any fun p => match s.calModule p.1 p.2 with
    | some c =>
      let (t1, _, t3) := setTemps c.copyA
      decide (theta < t1 - 160 ∨ t3 + 160 < theta)
    | none => false

/-- A poll of one zone (R221, R222, R224). -/
def State.pollZone (s : State) (temps : List (Nat × Nat × Nat)) (z : Nat) : State :=
  if (s.zoneModules z).isEmpty then s
  else
    match s.zoneReading z temps with
    | none =>
      let s1 := s.setBit (.ZONE_FLAGS z) 1 true
      if (s.zone z).lostPosted then s1 else (s1.modZone z fun x => { x with lostPosted := true }).post 0x7006 4 z
    | some t =>
      let theta := t + s.regInt (.CAL_ZONE_OFFSET z)
      let s1 := ((s.modZone z fun x => { x with theta := theta, lostPosted := false }).setBit (.ZONE_FLAGS z) 1 false).setInt
        (.ZONE_TEMP z) theta
      let beyond := s1.beyondSpan z theta
      let s2 := s1.setBit (.ZONE_FLAGS z) 0 beyond
      let s3 := if beyond ∧ (s.zone z).spanPosted = false then s2.post 0x7007 3 (z + ofSigned 16 theta * 64) else s2
      let s4 := s3.modZone z fun x => { x with spanPosted := beyond }
      let moved := (theta - (s.zone z).blendTheta).natAbs
      if s.reg .CAL_REBLEND_STEP ≤ moved then s4.requestPass z else s4

/-- TEMP_POLL: MOD_TEMP of each module that answered, as link, module and raw value (R221). -/
def execTempPoll (dt : Nat) (temps : List (Nat × Nat × Nat)) (s : State) : Host.Outcome State Fault Refusal :=
  run s dt fun s => (List.range 64).foldl (fun s z => s.pollZone temps z) s

/-- CAL_REFRESH_DUE: CAL_REFRESH_S after a zone's last completed pass (R224). -/
def execCalRefreshDue (dt zone : Nat) (s : State) : Host.Outcome State Fault Refusal :=
  run s dt fun s =>
    if zone < 64 ∧ (s.zoneModules zone).isEmpty = false ∧
        (s.zone zone).lastPass + nsClocks (s.reg .CAL_REFRESH_S * 1000000000) ≤ s.ticks then s.requestPass zone else s

/-! Fetching -/

/-- The table slot of an image: the slot in use with an equal table, or the lowest of 64 that no module refers to (R237). -/
def State.tableSlot (s : State) (t : List Nat) : Option (Nat × State) :=
  let used := s.cal.modules.map fun c => c.slot
  match used.find? fun k => nth s.cal.tables k [] == t with
  | some k => some (k, s)
  | none =>
    ((List.range 64).find? fun k => !used.contains k).map fun k =>
      (k, s.modCal fun c => { c with tables := (c.tables ++ List.replicate (k - c.tables.length) []).take k ++ [t] ++ c.tables.drop (k + 1) })

/-- Octets the cache holds per copy (R236). -/
def State.cacheOctets (s : State) : Nat := (s.cal.modules.map fun c => c.copyA.length * 4096).sum

/-- Whether a page holds the header, the table or selectors of an image: without it no pixel has its calibration (R232). -/
def vitalPage (h : CalHeader) (p : Nat) : Bool :=
  p == 0 || (Nat.ble h.lut p && Nat.blt p (h.lut + 3)) || (Nat.ble h.selector p && Nat.blt p (h.selector + h.selectorPages))

/-- Why a fetched image leaves its module uncalibrated (R232). -/
def State.fetchRefusal (s : State) (link module : Nat) (pages : List (List Octet)) (lost : List Nat) : Option Nat :=
  let h := calHeader (imagePage pages 0)
  if lost.contains 0 then some 3
  else if headerOk pages lost = false then some 1
  else if s.geometryOk link module h = false then some 2
  else if lost.any (vitalPage h) then some 3
  else if (s.tableSlot (imageTable pages)).isNone then some 4
  else if 268435456 < s.cacheOctets + pages.length * 4096 then some 5
  else none

/-- The selectors of a fetched image loaded into both live halves (R226). -/
def State.loadSelectors (s : State) (link module : Nat) (pages : List (List Octet)) : State :=
  let load := fun (l : List LiveModule) => l.map fun m =>
    if m.link = link && m.module == module then
      { m with pixels := m.pixels.zipIdx.map fun (p, i) => { p with selector := selectorOctet pages i % 4 } } else m
  s.modCal fun c => { c with zones := c.zones.map fun z => { z with active := load z.active, inactive := load z.inactive } }

/-- A module's image fetched into both cache copies (R235): each page as it was last read, and how often it was read again. -/
def State.calFetch (s : State) (link module : Nat) (reads : List (List Octet × Nat)) : State :=
  match (s.link link).modules[module - 1]? with
  | none => s
  | some d =>
    if module = 0 then s
    else if d.hasCal = false then
      if s.reg (.CAL_MODULE_STATUS link module) / 65536 % 4 = 3 then s else s.uncalibrate link module 6
    else
      let pages := reads.map (·.1)
      let lost := (List.range pages.length).filter fun i => !pageOk (imagePage pages i)
      let s1 := s.count .CALCNT_PAGES_FETCHED (pages.length - lost.length)
      let repeats := (reads.map (·.2)).sum
      let s2 := if repeats = 0 then s1 else s1.count .CALCNT_PAGE_FETCH_RETRY repeats
      let s3 := if lost.isEmpty then s2 else s2.count .CALCNT_PAGE_FETCH_FAIL lost.length
      let s4 := s3.abortPass (s.zoneOf link module)
      let old := s4.calModule link module
      let s5 := s4.modCal fun c => { c with modules := c.modules.filter fun x => !(x.link == link && x.module == module) }
      match s5.fetchRefusal link module pages lost, s5.tableSlot (imageTable pages) with
      | some r, _ => s5.uncalibrate link module r
      | none, none => s5.uncalibrate link module 4
      | none, some (slot, s6) =>
        let h := calHeader (imagePage pages 0)
        let c : CalModule := ⟨link, module, pages, pages, lost, slot, true⟩
        let s7 := s6.modCal fun x => { x with modules := x.modules ++ [c] }
        let s8 := (s7.setModuleStatus link module h.revision 2 slot 0).post 0x7001 1 (link + module * 64)
        let changed := (s.reg (.CAL_MODULE_STATUS link module) / 65536 % 4 != 1) && old.any fun o => imagePage o.copyA 0 != imagePage pages 0
        let s9 := if changed then s8.post 0x700C 3 (link + module * 64) else s8
        (s9.loadSelectors link module pages).requestPass (s.zoneOf link module)

/-- CAL_FETCH. -/
def execCalFetch (dt link module : Nat) (reads : List (List Octet × Nat)) (s : State) : Host.Outcome State Fault Refusal :=
  run s dt fun s => s.calFetch link module reads

/-- A page 0 read again and compared with the cached header: MODULE_ID, CAL_REVISION, IMAGE_CHECK (R235). A difference asks for a fetch. -/
def State.recheckHeader (s : State) (r : Nat × Nat × List Octet) : State :=
  match s.calModule r.1 r.2.1 with
  | none => s
  | some c =>
    let a := calHeader (imagePage c.copyA 0)
    let b := calHeader r.2.2
    if pageOk r.2.2 ∧ (a.moduleId ≠ b.moduleId ∨ a.revision ≠ b.revision ∨ a.check ≠ b.check) then
      (s.setModuleStatus r.1 r.2.1 a.revision 1 c.slot 0).post 0x700C 3 (r.1 + r.2.1 * 64)
    else s

/-- HEADER_RECHECK: page 0 of the modules as read again: link, module, page (R235). -/
def execHeaderRecheck (dt : Nat) (pages : List (Nat × Nat × List Octet)) (s : State) : Host.Outcome State Fault Refusal :=
  run s dt fun s => pages.foldl (fun s r => s.recheckHeader r) s

/-! The cached copies -/

/-- The table of R236 for one page: the copies as read, and the page as fetched again. A page fetched again, or lost, is blended anew; a lost
header, table or selector page leaves its module uncalibrated (R232). -/
def State.checkCopies (s : State) (r : CalPageRead) : State :=
  match s.calModule r.link r.module with
  | none => s
  | some x =>
    let arg := r.link + r.module * 64 + r.page * 4096
    let put := fun (s : State) (a b : List Octet) => s.modCalModule r.link r.module fun c => { c with
      copyA := setNth c.copyA r.page a, copyB := setNth c.copyB r.page b }
    let okA := pageOk r.copyA
    let okB := pageOk r.copyB
    if r.copyA.take 4092 = r.copyB.take 4092 then
      let s1 := put s (sealPage r.copyA) (sealPage r.copyB)
      if okA ∧ okB then s1
      else if okA then (s1.count .CALCNT_CHECK_WORD_REPAIRED).post 0x7003 3 (arg + 2 ^ 22)
      else if okB then (s1.count .CALCNT_CHECK_WORD_REPAIRED).post 0x7003 3 arg
      else ((s1.count .CALCNT_CHECK_WORD_REPAIRED 2).post 0x7003 3 arg)
    else if okA ∧ !okB then ((put s r.copyA r.copyA).count .CALCNT_COPY_REPAIRED).post 0x7004 3 (arg + 2 ^ 22)
    else if okB ∧ !okA then ((put s r.copyB r.copyB).count .CALCNT_COPY_REPAIRED).post 0x7004 3 arg
    else
      match r.refetch.filter pageOk with
      | some p => (((put s p p).count .CALCNT_PAGE_REFETCHED).post 0x7005 5 arg).requestPass (s.zoneOf r.link r.module)
      | none =>
        let s1 := (s.count .CALCNT_PAGE_FETCH_FAIL).post 0x7005 5 (arg + 2 ^ 23)
        if vitalPage (calHeader (imagePage x.copyA 0)) r.page then s1.uncalibrate r.link r.module 3
        else (s1.modCalModule r.link r.module fun c => { c with lost := r.page :: c.lost.filter (· != r.page) }).requestPass
          (s.zoneOf r.link r.module)

/-- SCRUB operations issued as slots allow; an operation holds its module in its epoch field, its page in its brick field and its link in AUX. -/
def State.issueScrub : Nat → State → State
  | 0, s => s
  | n + 1, s =>
    match s.cal.scrub with
    | [] => s
    | (k, m, p) :: rest =>
      if s.slotsForBackground then
        State.issueScrub n ((s.modCal fun c => { c with scrub := rest }).addBackground 9 p k m 1)
      else s

/-- SCRUB_PERIOD: every cached page is queued for its SCRUB operation (R236). -/
def execScrubPeriod (dt : Nat) (s : State) : Host.Outcome State Fault Refusal :=
  run s dt fun s =>
    let all := (s.cal.modules.map fun c => (List.range c.copyA.length).map fun p => (c.link, c.module, p)).flatten
    State.issueScrub all.length (s.modCal fun c => { c with scrub := all })

/-- The end of a REBLEND or SCRUB operation (R223, R236). A scrub of a selector page whose write failed writes it again (R229). -/
def State.landBackground (s : State) (o : BelOp) (f : ReadFaults) : State :=
  let s1 := f.calibration.foldl (fun s r => s.checkCopies r) s
  if o.code = 8 then s1.modZone o.brick fun z => { z with opsLeft := z.opsLeft - 1 }
  else if o.code = 9 then
    let page := (o.aux, o.epoch, o.brick)
    let s2 := if s1.cal.failed.contains page then
      (s1.modCal fun c => { c with failed := c.failed.filter (· != page), writebacks := c.writebacks ++ [page] }).writeBack else s1
    State.issueScrub 64 (s2.count .CALCNT_SCRUB_PAGES)
  else s1

/-! Spare selectors -/

/-- A pixel's selector octet changed in both copies, a re-blend of its zone requested and its page queued for writing back (R227 to R229). -/
def State.putSelector (s : State) (link module pixel v : Nat) : State :=
  match s.calModule link module with
  | none => s
  | some c =>
    let (pg, _) := selectorPlace c.copyA pixel
    let s1 := s.modCalModule link module fun c => { c with
      copyA := setSelector c.copyA pixel v, copyB := setSelector c.copyB pixel v }
    s1.modCal fun x =>
      let y := { x with failed := x.failed.filter (· != (link, module, pg)) }
      if x.writebacks.contains (link, module, pg) then y
      else { y with writebacks := x.writebacks ++ [(link, module, pg)] }

/-- A change of a pixel's selector (R227, R228). -/
def State.changeSelector (s : State) (link module pixel octet sel : Nat) : State :=
  let s1 := (s.putSelector link module pixel octet).count .CALCNT_SPARE_SWITCHES
  let arg := link + module * 64 + pixel * 4096 + sel * 2 ^ 26
  let s2 := (s1.post 0x7008 4 arg).requestPass (s.zoneOf link module)
  if sel = 3 then (s2.post 0x7009 5 arg).count .CALCNT_PIXELS_DARK else s2

/-- The bit of the failed mark of a set in a selector octet (R234). -/
def failedBit (set : Nat) : Nat := 3 + set

/-- An emitter fault report: an emitter set marked failed, and the selector moved under policy 1 (R227). -/
def State.emitterFault (s : State) (link module pixel set : Nat) : State :=
  match s.calModule link module with
  | none => s
  | some c =>
    let old := selectorOctet c.copyA pixel
    let marked := setBitTo old (failedBit set) true
    if s.reg .CAL_SPARE_POLICY = 1 ∧ old % 4 = set then
      let sel := (([0, 1, 2].find? fun k => hasSet c.copyA pixel k && !bitOf marked (failedBit k))).getD 3
      s.changeSelector link module pixel (marked - marked % 4 + sel) sel
    else s.putSelector link module pixel marked

/-- A write of 1 to CAL_SPARE_COMMIT (R227, R228). -/
def State.spareCommit (s : State) (value : Nat) : State :=
  let link := s.reg (.CAL_SPARE_CMD 1)
  let module := s.reg (.CAL_SPARE_CMD 2)
  let pixel := s.reg (.CAL_SPARE_CMD 3)
  let v := s.reg (.CAL_SPARE_CMD 4)
  match s.calModule link module with
  | none => s.reply 8
  | some c =>
    let h := calHeader (imagePage c.copyA 0)
    let old := selectorOctet c.copyA pixel
    if value ≠ 1 ∨ h.pixels ≤ pixel ∨ (v < 3 ∧ hasSet c.copyA pixel v = false) then s.reply 8
    else if v = 4 then (s.putSelector link module pixel (old % 4)).writeBack.reply 0
    else if old % 4 = v then s.reply 0
    else (s.changeSelector link module pixel (old - old % 4 + v) v).reply 0

/-- CAL_SPARE_COMMIT. -/
def execCalSpareCommit (dt who value : Nat) (s : State) : Host.Outcome State Fault Refusal :=
  run s dt fun s => s.asWriter who .CAL_SPARE_COMMIT fun s => s.spareCommit value

/-- A write of CAL_MODULE_ZONE: both zones take a pass, and the two swap in the same epoch (R224). -/
def State.moduleZone (s : State) (link module zone : Nat) : State :=
  if 63 < link then s.reply 2
  else if module = 0 ∨ 32 < module then s.reply 3
  else if 63 < zone then s.reply 8
  else
    let old := s.zoneOf link module
    let s1 := s.setReg (.CAL_MODULE_ZONE link module) zone
    if old = zone ∨ s.enumerated.contains (link, module) = false then s1.reply 0
    else
      let s2 := (s1.requestPass old).requestPass zone
      ((s2.modZone old fun z => { z with partner := some zone }).modZone zone fun z => { z with partner := some old }).reply 0

/-- MODULE_ZONE_WRITE. -/
def execModuleZoneWrite (dt who link module zone : Nat) (s : State) : Host.Outcome State Fault Refusal :=
  run s dt fun s => s.asWriter who (.CAL_MODULE_ZONE link module) fun s => s.moduleZone link module zone

/-! Field recalibration -/

/-- An image cut into pages of 4,096 octets. -/
def pagesOf : Nat → List Octet → List (List Octet)
  | 0, _ => []
  | n + 1, o => if o.isEmpty then [] else o.take 4096 :: pagesOf n (o.drop 4096)

/-- Pages of an image but the header and the selector pages and the table (matrix and spare records). -/
def coefficientPages (h : CalHeader) : List Nat :=
  ((List.range (pagesFor h.pixels (matrixPerPage h.kind))).map (· + h.matrix)) ++
    (if h.spares = 0 then [] else (List.range (pagesFor h.spareCount (sparePerPage h.kind))).map (· + h.spare))

/-- Octet places of the coefficients of a page with the record size, its header octets and its records (R231). -/
def recordPlaces (per size skip : Nat) (kind : Nat) : List Nat :=
  ((List.range per).map fun r => (List.range (3 * matrixSize kind)).map fun i => r * size + skip + 2 * i).flatten

/-- The coefficient places of a page of an image. -/
def coefficientPlaces (h : CalHeader) (page : Nat) : List Nat :=
  if page < h.matrix + pagesFor h.pixels (matrixPerPage h.kind) ∧ h.matrix ≤ page then
    recordPlaces (matrixPerPage h.kind) (matrixOctets h.kind) 0 h.kind
  else recordPlaces (sparePerPage h.kind) (4 + matrixOctets h.kind) 4 h.kind

/-- Differences of the coefficients of two images (R241). -/
def coefficientDeviations (h : CalHeader) (a b : List (List Octet)) : List Nat :=
  ((coefficientPages h).map fun p => (coefficientPlaces h p).map fun o =>
    (toSigned 16 (pageField (imagePage a p) o 2) - toSigned 16 (pageField (imagePage b p) o 2)).natAbs).flatten

/-- A 16-bit value of a page replaced. -/
def putField16 (page : List Octet) (o v : Nat) : List Octet := page.take o ++ leOctets 2 v ++ page.drop (o + 2)

/-- The averaged image (R241): coefficients and table entries (v1 + v2 + 1) >> 1, the present selector pages, the header of pass 2 with a new
IMAGE_CHECK. -/
def averageImage (h : CalHeader) (a b present : List (List Octet)) : List (List Octet) :=
  let mean := fun (x y : Int) => (x + y + 1) / 2
  let body := (List.range h.pages).map fun p =>
    if (coefficientPages h).contains p then
      sealPage ((coefficientPlaces h p).foldl (fun pg o => putField16 pg o
        (ofSigned 16 (mean (toSigned 16 (pageField (imagePage a p) o 2)) (toSigned 16 (pageField (imagePage b p) o 2))))) (imagePage b p))
    else if h.lut ≤ p ∧ p < h.lut + 3 then
      sealPage ((List.range 2046).foldl (fun pg i => putField16 pg (2 * i)
        (mean (pageField (imagePage a p) (2 * i) 2) (pageField (imagePage b p) (2 * i) 2)).toNat) (imagePage b p))
    else if h.selector ≤ p ∧ p < h.selector + h.selectorPages then imagePage present p
    else imagePage b p
  let check := imageCheck h body
  modNth body 0 fun p => sealPage (p.take 48 ++ leOctets 4 check ++ p.drop 52)

/-- The headers of two passes agree but for CAL_TIME and IMAGE_CHECK (R241). -/
def headersAgree (a b : List Octet) : Bool := a.take 40 == b.take 40 && slice a 52 4040 == slice b 52 4040

/-- A recalibration refused (R241, R242). -/
def State.recalRefuse (s : State) (link module reason : Nat) : State :=
  ((s.modCal fun c => { c with recal := none }).setReg .CAL_RECAL_STATUS 4).post 0x700B 4 (link + module * 64 + reason * 4096)

/-- An accepted image written to CAL_IMAGE_NEXT and committed; the commit status is then read (R230, R242). -/
def State.recalCommit (s : State) (link module revision : Nat) (pages : List (List Octet)) : State :=
  let s1 := (s.modCal fun c => { c with recal := some ⟨link, module, pages, revision, true⟩ }).setReg .CAL_RECAL_STATUS 2
  let s2 := pages.zipIdx.foldl (fun s (p, i) => s.queueTxn link module 1 (0xC00000 + i * 4096) p 4096 .latchWrite) s1
  let check := calHeader (imagePage pages 0) |>.check
  (s2.queueTxn link module 1 0x7FFF04 (leOctets 4 check) 4 .latchWrite).queueTxn link module 2 0x7FFF08 [] 4 .commitStatus

/-- The comparison of R241, once the second image is complete. -/
def State.recalCompare (s : State) : State :=
  let link := s.reg (.CAL_RECAL_TARGET 1)
  let module := s.reg (.CAL_RECAL_TARGET 2)
  let a := pagesOf 1025 s.cal.pass1
  let b := pagesOf 1025 s.cal.pass2
  let s0 := s.setReg .CAL_RECAL_STATUS 1
  let good := fun (p : List (List Octet)) => p.all pageOk && headerOk p [] && s.geometryOk link module (calHeader (imagePage p 0))
  match s.calModule link module with
  | none => s0.recalRefuse link module 1
  | some c =>
    let h := calHeader (imagePage a 0)
    let now_ := calHeader (imagePage c.copyA 0)
    if good a = false ∨ good b = false then s0.recalRefuse link module 1
    else if headersAgree (imagePage a 0) (imagePage b 0) = false ∨ h.revision ≤ now_.revision then s0.recalRefuse link module 2
    else
      let s1 := s0.setReg .CAL_RECAL_DEVIATION (maxOf (coefficientDeviations h a b))
      let table := ((imageTable a).zip (imageTable b)).map fun p => max p.1 p.2 - min p.1 p.2
      if s.reg .CAL_RECAL_TOL < maxOf (coefficientDeviations h a b) then s1.recalRefuse link module 3
      else if 196 < maxOf table then s1.recalRefuse link module 4
      else if s.mayWriteModules = false then s1.recalRefuse link module 5
      else s1.recalCommit link module h.revision (averageImage h a b c.copyA)

/-- RECAL_PASS2_COMPLETE: the second image is complete (R241). -/
def execRecalPass2Complete (dt who : Nat) (image : List Octet) (s : State) : Host.Outcome State Fault Refusal :=
  run s dt fun s => s.asWriter who .CAL_RECAL_PASS2 fun s =>
    ((s.modCal fun c => { c with pass2 := image }).recalCompare).reply 0

/-- Whether a transaction is one of a recalibration of a module: an image page, the commit or its status (R230, R242). -/
def recalTxn (module : Nat) (t : Nat × RegTxn) : Bool :=
  t.1 == module && (Nat.ble 0xC00000 t.2.address || t.2.address == 0x7FFF04 || t.2.address == 0x7FFF08)

/-- A write of 2 to CAL_RECAL_STATUS (R242): what is not yet sent of the recalibration is removed (R176). -/
def State.recalAbort (s : State) : State :=
  match s.cal.recal with
  | some r =>
    let s1 := s.modLink r.link fun l => { l with txns := l.txns.filter fun t => !recalTxn r.module t }
    (s1.recalRefuse r.link r.module 6).reply 0
  | none => s.reply 15

/-- RECAL_ABORT. -/
def execRecalAbort (dt who : Nat) (s : State) : Host.Outcome State Fault Refusal :=
  run s dt fun s => s.asWriter who .CAL_RECAL_STATUS fun s => s.recalAbort

/-- The module's CAL_COMMIT_STATUS as read (R230, R242). -/
def State.recalStatus (s : State) (v : Nat) : State :=
  match s.cal.recal with
  | none => s
  | some r =>
    if v = 2 then
      let s1 := (s.modCal fun c => { c with recal := none }).setReg .CAL_RECAL_STATUS 3
      let s2 := match s1.calModule r.link r.module with
        | some c =>
          let h := calHeader (imagePage c.copyA 0)
          (List.range h.selectorPages).foldl (fun (s : State) i =>
            s.queueTxn r.link r.module 1 (0x800000 + (h.selector + i) * 4096) (imagePage c.copyA (h.selector + i)) 4096 .selectorPage) s1
        | none => s1
      let rev := s2.reg (.CAL_MODULE_STATUS r.link r.module)
      (s2.setModuleStatus r.link r.module (rev % 65536) 1 (rev / 2 ^ 18 % 64) 0).post 0x700A 2 (r.link + r.module * 64 + r.revision * 4096)
    else if v = 3 then s.recalRefuse r.link r.module 5
    else s.queueTxn r.link r.module 2 0x7FFF08 [] 4 .commitStatus

/-! Trims -/

/-- The octets a trim copy's check covers. The layout is the model's (log entry 24). -/
def trimOctets (t : TrimCopy) : List Octet :=
  leOctets 4 t.reference ++ (t.sinks.map fun p => leOctets 2 p.1 ++ leOctets 1 (ofSigned 8 p.2)).flatten ++ leOctets 4 t.phy

/-- A trim copy with its CRC-16 (R238). -/
def sealTrim (t : TrimCopy) : TrimCopy := { t with check := crcOf crc16 (trimOctets t) }

/-- Whether a trim copy verifies. -/
def trimOk (t : TrimCopy) : Bool := t.check == crcOf crc16 (trimOctets t)

/-- CAL_SINK_TRIM from the trims in use (R243). -/
def State.showTrims (s : State) (t : TrimCopy) : State :=
  t.sinks.zipIdx.foldl (fun s (p, n) => (s.setReg (.CAL_SINK_TRIM n 1) p.1).setInt (.CAL_SINK_TRIM n 2) p.2) s

/-- A write of 1 to CAL_TRIM_MEASURE: refused while a sink is enabled or once 990 writes have been made (R240). -/
def State.trimMeasure (s : State) (value : Nat) : State :=
  if value ≠ 1 then s.reply 8
  else if ((List.range 512).any fun n => s.flag (.LAN_CH_ENABLE n)) || Nat.ble 990 (s.reg .CAL_TRIM_WRITES) then
    (s.setReg .CAL_TRIM_MEASURE 3).reply 8
  else (s.setReg .CAL_TRIM_MEASURE 1).reply 0

/-- TRIM_MEASURE. -/
def execTrimMeasure (dt who value : Nat) (s : State) : Host.Outcome State Fault Refusal :=
  run s dt fun s => s.asWriter who .CAL_TRIM_MEASURE fun s => s.trimMeasure value

/-- Whether two measurements agree within 0.3 % (R240), the difference against the first. -/
def agrees (a b : Nat) : Bool := decide (1000 * (max a b - min a b) ≤ 3 * a)

/-- The median of 16 currents, times two: the sum of the two in the middle (R239). -/
def median2 (xs : List Nat) : Nat :=
  let m := sortBy Nat.ble xs
  nth m 7 0 + nth m 8 0

/-- The segments of a sink within ±1.5 % of the median, nearest first (R239). -/
def goodSegments (xs : List Nat) : List Nat :=
  let m := median2 xs
  let dist := fun (i : Nat) => (max (2 * nth xs i 0) m) - (min (2 * nth xs i 0) m)
  sortBy (fun i j => Nat.blt (dist i) (dist j) || (dist i == dist j && Nat.ble i j)) ((List.range 16).filter fun i => decide (200 * dist i ≤ 3 * m))

/-- One sink after its two measurements: its new mask and gain, or its old trims (R239, R240). The gain that follows from a measurement is not
stated: a free value of eight bits (log entry 25). -/
def State.measureSink (s : State) (n : Nat) (a b : List Nat) (old : Nat × Int) : (Nat × Int) × Bool × Nat :=
  if (a.zip b).all fun p => agrees p.1 p.2 then
    let good := goodSegments a
    if good.length < 12 then (old, true, good.length)
    else (((good.take 12).map (2 ^ ·) |>.sum, toSigned 8 (Config.freeValue (s.fresh + n))), true, good.length)
  else (old, false, 12)

/-- Whether the two measurements of some sink agree and leave it its twelve segments, so that there are trims to write (R240). -/
def State.acceptsTrims (s : State) (first second : List (List Nat)) : Bool :=
  (nth s.cal.trims 0 TrimCopy.reset).sinks.zipIdx.any fun (old, n) =>
    let r := s.measureSink n (nth first n []) (nth second n []) old
    r.2.1 && Nat.ble 12 r.2.2

/-- TRIM_MEASURE_DONE: two measurements of each segment of each sink; both copies are written if the trims of any are accepted (R239, R240). -/
def execTrimMeasureDone (dt : Nat) (first second : List (List Nat)) (s : State) : Host.Outcome State Fault Refusal :=
  run s dt fun s =>
    if s.reg .CAL_TRIM_MEASURE ≠ 1 then s
    else
      let now_ := nth s.cal.trims 0 TrimCopy.reset
      let result := now_.sinks.zipIdx.map fun (old, n) => s.measureSink n (nth first n []) (nth second n []) old
      let trim := sealTrim { now_ with sinks := result.map fun r => r.1 }
      let s0 := { s with fresh := s.fresh + 512 }
      let s1 := if s.acceptsTrims first second then
        ((s0.modCal fun c => { c with trims := [trim, trim] }).bump .CAL_TRIM_WRITES 2).showTrims trim else s0
      let s2 := s1.setReg .CAL_TRIM_MEASURE 2
      let s3 := match result.findIdx? fun r => !r.2.1 with
        | some n => s2.post 0x7022 4 n
        | none => s2
      result.zipIdx.foldl (fun s (r, n) =>
        if r.2.2 < 12 then (s.setReg (.CAL_SINK_TRIM n 3) 1).post 0x7023 6 (n + r.2.2 * 512)
        else if r.2.1 then s.setReg (.CAL_SINK_TRIM n 3) 0 else s) s3

/-- The trims loaded and judged at internal reset release (R238). -/
def State.trimLoad (s : State) : State :=
  match s.cal.trims with
  | [a, b] =>
    let okA := trimOk a
    let okB := trimOk b
    let same := trimOctets a == trimOctets b
    let put := fun (s : State) (t : TrimCopy) => (s.modCal fun c => { c with trims := [t, t] }).showTrims t
    let repaired := fun (s : State) (copy : Nat) =>
      (((s.setReg .CAL_TRIM_STATE 1).bump .CAL_TRIM_WRITES).count .CALCNT_TRIM_REPAIRED).post 0x7020 4 copy
    if same ∧ okA ∧ okB then (put s a).setReg .CAL_TRIM_STATE 0
    else if same ∧ okA then repaired (put s (sealTrim a)) 1
    else if same ∧ okB then repaired (put s (sealTrim a)) 0
    else if same then repaired (repaired (put s (sealTrim a)) 0) 1
    else if okA then repaired (put s a) 1
    else if okB then repaired (put s b) 0
    else ((s.showTrims TrimCopy.reset).setReg .CAL_TRIM_STATE 2).post 0x7021 7 7
  | _ => s

end Sys2Proof.Machine
end

