-- ==== Sys2Proof/Machine/IdpOps.lean ====
section
/-! DEFINITION. Sessions, and how a response of the dictionary protocol is built, kept and sent (R470, R473, R474). -/

namespace Sys2Proof.Machine

/-- The dictionary service changed. -/
def State.modIdp (s : State) (f : Idp → Idp) : State := { s with idp := f s.idp }

/-- The session of a number, if it is open. -/
def State.session (s : State) (n : Nat) : Option Session := s.idp.sessions.find? fun x => x.number == n

/-- A session changed. -/
def State.modSession (s : State) (n : Nat) (f : Session → Session) : State :=
  s.modIdp fun i => { i with sessions := i.sessions.map fun x => if x.number = n then f x else x }

/-- Octets 0 to 15 of a message (R470). -/
def idpFront (op session seq len : Nat) (tagged : Bool) (status : Nat) : List Octet :=
  leOctets 2 0x5049 ++ leOctets 1 1 ++ leOctets 1 op ++ leOctets 2 session ++ leOctets 4 seq ++ leOctets 2 len ++ leOctets 1 (b2n tagged) ++
    leOctets 1 status ++ leOctets 2 0

/-- The TAG of a message under a session key (R470). -/
def idpTag (key front payload : List Octet) : List Octet := (hmac key (front ++ payload)).take 16

/-- A message with its TAG, where there is a key, and its CHECK (R470). -/
def idpOctets (op session seq status : Nat) (payload : List Octet) (key : Option (List Octet)) : List Octet :=
  let front := idpFront op session seq payload.length key.isSome status
  let body := front ++ (match key with
    | some k => idpTag k front payload
    | none => List.replicate 16 0) ++ payload
  body ++ leOctets 4 (crcOf crc32c body)

/-- A response sent to where its request came from: on the network, as a queued message of the DMX port (R481), or to the SPI service port, where it
waits to be read with SVC_IRQ_N low (R482). -/
def State.sendIdp (s : State) (dest : IdpSource) (octets : List Octet) : State :=
  if dest.transport = 0 then s.emit (.idp dest octets)
  else if dest.transport = 1 then
    { s with smap := { s.smap with ports := modNth s.smap.ports dest.unitPort fun p => { p with queue := p.queue ++ [octets] } } }
  else s.modIdp fun i => { i with spiWaiting := some octets }

/-- A stored response sent (R473), TAGGED from the first successful authentication on (R470). -/
def State.sendStored (s : State) (x : Session) (r : IdpResponse) : State :=
  s.sendIdp x.source (idpOctets (r.op + 128) x.number r.seq r.status r.payload x.key)

/-- The final response of the request that a session has sent last: kept, and sent (R473). -/
def State.respond (s : State) (n op status : Nat) (payload : List Octet) : State :=
  match s.session n with
  | none => s
  | some x =>
    let r : IdpResponse := ⟨op, x.lastSeq, status, payload⟩
    (s.modSession n fun x => { x with stored := some r, running := none, waits := [] }).sendStored x r

/-- Status 1 for a request that runs on (R473). Over RDM the ACK_TIMER stands for it (R481). -/
def State.respondRunning (s : State) (n op : Nat) : State :=
  match s.session n with
  | none => s
  | some x =>
    let s1 := s.modSession n fun x => { x with running := some op }
    if x.source.transport = 1 then s1 else s1.sendStored x ⟨op, x.lastSeq, 1, []⟩

/-- The response to DOMAIN_READ: total length and CRC-32C (R471). -/
def domainHead (data : List Octet) : List Octet := leOctets 4 data.length ++ leOctets 4 (crcOf crc32c data)

/-- The octets of a DOMAIN entry snapshot for a session's segments (R475). -/
def State.beginRead (s : State) (n index sub : Nat) (data : List Octet) : State :=
  s.modSession n fun x => { x with transfer := some ⟨index, sub, false, data.length, data⟩ }

/-- A DOMAIN_READ of BRG_READ ends with the transfer of its session (R423, R475); without data where the transfer failed, as BRG_STATUS shows. -/
def State.finishRead (s : State) (n status : Nat) (data : List Octet) : State :=
  match s.session n with
  | none => s
  | some x =>
    if x.running = some 0x20 then
      let d := if status = 0 then data else []
      (s.beginRead n 0xC400 6 d).respond n 0x20 0 (domainHead d)
    else s

/-- The response to a WRITE: index, sub and status of each item (R471). -/
def writePayload (ws : List WriteWait) : List Octet :=
  (ws.map fun w => leOctets 2 w.index ++ leOctets 1 w.sub ++ leOctets 1 (w.status.getD 1)).flatten

/-- The response of a request whose items are all done: a WRITE answers each item, a DOMAIN_END the status of its entry (R471, R473). -/
def State.finishWaits (s : State) (n : Nat) : State :=
  match s.session n with
  | none => s
  | some x =>
    if x.waits = [] then s
    else if x.waits.all fun w => w.status.isSome then
      match x.running with
      | some 0x11 => s.respond n 0x11 0 (writePayload x.waits)
      | some op => s.respond n op ((x.waits.head?.bind WriteWait.status).getD 0) []
      | none => s
    else s

/-- The first item of a list that waits for an entry takes its status. -/
def settleWait (index sub status : Nat) : List WriteWait → List WriteWait
  | [] => []
  | w :: ws => if w.status.isNone && w.index == index && w.sub == sub then { w with status := some status } :: ws else w :: settleWait index sub status ws

/-- An item that waited is done (R449, R473). -/
def State.waitDone (s : State) (n index sub status : Nat) : State :=
  (s.modSession n fun x => { x with waits := settleWait index sub status x.waits }).finishWaits n

end Sys2Proof.Machine
end

