-- ==== Sys2Proof/Machine/BrgOps.lean ====
section
/-! DEFINITION. What the register bridge does with the ends of its transfers (R422 to R427): completion, undelivered transfers, locks that are
lost, and the posted-write error log. -/

namespace Sys2Proof.Machine

/-- The bridge changed. -/
def State.modBrg (s : State) (f : Bridge → Bridge) : State := { s with bridge := f s.bridge }

/-- The bridge entries of a session (R422). -/
def State.brg (s : State) (session : Nat) : BrgSession :=
  (s.bridge.sessions.find? fun b => b.session == session).getD (BrgSession.fresh session)

/-- The bridge entries of a session changed. -/
def State.modBrgSession (s : State) (session : Nat) (f : BrgSession → BrgSession) : State :=
  let x := f (s.brg session)
  s.modBrg fun b => { b with sessions := x :: b.sessions.filter fun y => y.session != session }

/-- A transfer of a session ends with a BRG_STATUS (R423). -/
def State.brgEnd (s : State) (session status : Nat) : State :=
  (s.modBrgSession session fun b => { b with status := status, transfer := none }).finishRead session status (s.brg session).data

/-- A transfer of a session completes (R423). -/
def State.brgDone (s : State) (session status : Nat) : State := (s.brgEnd session status).count .BRGCNT_BRG_TRANSFERS

/-- Whether a session waits on a transaction with a TAG, not aborted (R423, R427). -/
def State.brgWaits (s : State) (session tag : Nat) : Bool :=
  match (s.brg session).transfer with
  | some t => t.tag == tag && !t.aborted
  | none => false

/-- The frame of a transfer was abandoned (R303, R423). -/
def State.brgUndelivered (s : State) (session link module : Nat) : State :=
  ((s.brgEnd session 2).count .BRGCNT_BRG_UNDELIVERED).post 0xC004 3 (link + (module - 1) * 64 + session * 2048)

/-- A session lost the lock it held on a link: cause 0 time limit, 1 session ended, 2 link down (R425). -/
def State.lockLost (s : State) (link cause session : Nat) : State :=
  let pending := (s.brg session).transfer.isSome
  let s1 := s.modBrgSession session fun b => { b with
    lock := 3, transfer := none, status := if pending then 7 else b.status }
  ((if pending then s1.finishRead session 7 [] else s1).count .BRGCNT_BRG_LOCK_LOST).post 0xC003 4 (link + cause * 64 + session * 256)

/-- Whether a session number stands for someone who is there: the signal map, firmware, or an open session. -/
def State.sessionOpen (s : State) (session : Nat) : Bool :=
  session == 0 || session == 0xFFFF || s.idp.sessions.any fun x => x.number == session

/-- A far-side failure of a posted write entered in the log (R426). A selector page whose write failed waits for its next change or scrub
(R229). -/
def State.pweEnter (s : State) (link module tag address len status : Nat) : State :=
  let found := (s.link link).tags.find? fun t => t.tag == tag && t.module == module && t.address == address
  let session := match found with
    | some t => t.session
    | none => 0xFFFE
  let ended := found.isSome && !s.sessionOpen session
  let e : PweEntry := ⟨s.now, address, link, module, status, len, session, tag, ended, s.bridge.pweSeq⟩
  let full := decide (16 ≤ s.bridge.pwe.length)
  let s1 := s.modBrg fun b => { b with
    pwe := (if full then b.pwe.drop 1 else b.pwe) ++ [e], pweSeq := (b.pweSeq + 1) % 2 ^ 32 }
  let s2 := s1.count .BRGCNT_BRG_PWE
  let s3 := if full then s2.count .BRGCNT_BRG_PWE_OVERWRITTEN else s2
  let page := (link, module, (address - 0x800000) / 4096)
  let s4 := if session = 0xFFFF ∧ 0x800000 ≤ address ∧ address < 0xC00000 then
    s3.modCal fun c => { c with failed := page :: c.failed.filter (· != page) } else s3
  s4.post 0xC001 4 (address + link * 2 ^ 24 + (module - 1) * 2 ^ 30 + (s.bridge.pweSeq % 16) * 2 ^ 35 + status % 8 * 2 ^ 39)

end Sys2Proof.Machine
end

