-- ==== Sys2Proof/Machine/Spire.lean ====
section
/-! DEFINITION. The Spire links (R275 to R313): control blocks and frames, training, enumeration and measurement, shadows and their
acknowledgement, the register channel with its lock, responses and fault reports. -/

namespace Sys2Proof.Machine

/-! Blocks and frames -/

/-- A control block as it arrived (R277): TYPE and fields; none where its CRC-8 fails. -/
def parseBlock (b : List Octet) : Option (List Nat) :=
  if b.length = 8 ∧ crcOf crc8 (b.take 7) = ofLe (b.drop 7) then some ((b.take 7).map BitVec.toNat) else none

/-- A control block taken at the unit: one that fails its CRC-8 is discarded and counted, one of another type has no effect (R277). -/
def State.onBlock (s : State) (link type : Nat) (b : List Octet) (f : List Nat → State → State) : State :=
  if 64 ≤ link then s
  else match parseBlock b with
    | none => s.count (.SPLCNT_CTRL_CHECK_FAIL link)
    | some v => if nth v 0 0 = type then f v s else s

/-- SOF of a downstream frame (R278). -/
def sofBlock (claim : Nat) (f : SpireFrame) : List Octet :=
  controlBlock 0x20 [f.kind * 32 + (f.module - 1), claim, f.number % 256, f.number / 256 % 256, f.segment, b2n f.last * 128 + f.gen]

/-- The CRC-32C of a frame: SOF octets 1 to 6, the data, EOF octets 1 and 2 (R281). -/
def frameCheck (sof data : List Octet) (blocks : Nat) : Nat := crcOf crc32c (slice sof 1 6 ++ data ++ leOctets 2 blocks)

/-- EOF of a frame (R278). -/
def eofBlock (blocks crc : Nat) : List Octet :=
  controlBlock 0x21 ((leOctets 2 blocks ++ leOctets 4 crc).map BitVec.toNat)

/-- A downstream frame sent; a frame with an uncorrectable line-buffer error carries the inverse of its check (R281, R364). -/
def State.sendFrame (s : State) (link : Nat) (f : SpireFrame) (data : List Octet) (bad : Bool) : State :=
  let sof := sofBlock s.claim f
  let crc := frameCheck sof data f.blocks
  (s.emit (.linkFrame link sof data (eofBlock f.blocks (if bad then 2 ^ 32 - 1 - crc else crc)))).count (.SPLCNT_FRAMES_SENT link)

/-- Whether a frame is still leaving on a link. -/
def State.linkBusy (s : State) (link : Nat) : Bool :=
  (s.link link).waiting.any fun f => Nat.blt s.ticks (f.sentAt + frameClocks f.blocks)

/-- Clocks in which a number of ns has passed, rounded up. -/
def nsTicks (ns : Nat) : Nat := (ns * 100 + 127) / 128

/-- A module of a link, addresses from 1. -/
def State.module (s : State) (link module : Nat) : Option SpireModule :=
  if module = 0 then none else (s.link link).modules[module - 1]?

/-- A module changed. -/
def State.modModule (s : State) (link module : Nat) (f : SpireModule → SpireModule) : State :=
  s.modLink link fun l => { l with modules := modNth l.modules (module - 1) f }

/-! Link down -/

/-- A transaction that will not reach its module or not be answered (R303, R423). -/
def State.txnLost (s : State) (link module : Nat) (t : RegTxn) : State :=
  match t.purpose with
  | .bridge n => if s.brgWaits n t.tag then s.brgUndelivered n link module else s
  | .lock n =>
    let s1 := if s.brgWaits n t.tag then (s.brgUndelivered n link module).modBrgSession n fun b => { b with lock := 0 } else s
    (s1.modLink link fun l => { l with lock := none }).setReg (.SPL_LOCKED link) 0
  | .unlock n => if s.brgWaits n t.tag then s.brgUndelivered n link module else s
  | _ => s

/-- Everything a link held goes with it: shadows, frames, transactions, the lock, its modules (R284, R425). A strike already decided still leaves
(R26). A module whose fetch had not
completed is uncalibrated with reason 7 (R232, R235). -/
def State.linkClear (s : State) (k : Nat) : State :=
  let l := s.link k
  let fetching := if s.reg (.SPL_STATE k) = 5 then
    ((List.range l.modules.length).filter fun i => s.reg (.CAL_MODULE_STATUS k (i + 1)) / 65536 % 4 == 1).map (· + 1) else []
  let s1 := match l.lock with
    | some x => if x.session = 0xFFFF then s else s.lockLost k 2 x.session
    | none => s
  let s2 := (l.waiting.map fun f => f.txns.map fun t => (f.module, t)).flatten.foldl (fun s p => s.txnLost k p.1 p.2) s1
  let s3 := (l.reads ++ l.txns).foldl (fun s p => s.txnLost k p.1 p.2) s2
  let s4 := s3.modLink k fun x => { SpireLink.reset with
    gens := x.gens, nextTag := x.nextTag, tags := x.tags, locked := x.locked, strikeWait := x.strikeWait, lastStruck := x.lastStruck }
  let s5 := (s4.setReg (.SPL_MODULES k) 0).setReg (.SPL_LOCKED k) 0
  let s6 := (List.range 32).foldl (fun s m => s.setReg (.SCN_MODULE_DEPTH k (m + 1)) 0) s5
  (fetching.foldl (fun s m => s.uncalibrate k m 7) s6).setReg (.SCN_LINK_URGENCY k) 0

/-- A link goes down (R284): event 0x8802 with the cause, and the wait of SPL_RETRAIN_MS starts. -/
def State.linkDown (s : State) (k cause module : Nat) : State :=
  let s1 := (s.linkClear k).modLink k fun l => { l with resting := true, downSince := s.ticks }
  ((s1.setReg (.SPL_STATE k) 1).setReg (.SPL_DOWN_CAUSE k) cause).post 0x8802 5 (k + cause * 64 + (module - 1) * 1024)

/-- A link taken out of use (R311). -/
def State.linkDisable (s : State) (k : Nat) : State := (s.linkClear k).setReg (.SPL_STATE k) 0

/-- A link that waits for block lock moves on to state 2 when it has it (R284). -/
def State.linkSeek (s : State) (k : Nat) : State :=
  if s.reg (.SPL_STATE k) = 1 ∧ (s.link k).locked ∧ (s.link k).resting = false then
    (s.modLink k fun l => { l with lockSince := s.ticks }).setReg (.SPL_STATE k) 2
  else s

/-- A link taken into use (R284, R311). -/
def State.linkEnable (s : State) (k : Nat) : State :=
  if s.reg (.SPL_STATE k) = 0 then (s.setReg (.SPL_STATE k) 1).linkSeek k else s

/-- BLOCK_LOCK_GAINED (R276, R284). -/
def execBlockLockGained (dt link : Nat) (s : State) : Host.Outcome State Fault Refusal :=
  run s dt fun s => if 64 ≤ link then s else (s.modLink link fun l => { l with locked := true }).linkSeek link

/-- BLOCK_LOCK_LOST: the invalid sync headers since the last loss count as SYNC_ERRORS (R276); a link beyond state 1 is down with cause 1
(R284). -/
def execBlockLockLost (dt link syncErrors : Nat) (s : State) : Host.Outcome State Fault Refusal :=
  run s dt fun s =>
    if 64 ≤ link then s
    else
      let s1 := (s.modLink link fun l => { l with locked := false }).count (.SPLCNT_SYNC_ERRORS link) syncErrors
      let s2 := s1.count (.SPLCNT_LOCK_LOSS link)
      if 2 ≤ s.reg (.SPL_STATE link) then s2.linkDown link 1 1 else s2

/-- RETRAIN_WAIT_END: SPL_RETRAIN_MS after the link went down, training starts again (R284). -/
def execRetrainWaitEnd (dt link : Nat) (s : State) : Host.Outcome State Fault Refusal :=
  run s dt fun s =>
    if (s.link link).resting ∧ (s.link link).downSince + nsTicks (1000000 * s.reg .SPL_RETRAIN_MS) ≤ s.ticks then
      (s.modLink link fun l => { l with resting := false }).linkSeek link
    else s

/-! Enumeration -/

/-- LINK_LOCK_HELD: block lock held for 1 ms; the unit sends ENUM (R284, R285). -/
def execLinkLockHeld (dt link : Nat) (s : State) : Host.Outcome State Fault Refusal :=
  run s dt fun s =>
    if s.reg (.SPL_STATE link) = 2 ∧ (s.link link).lockSince + nsTicks 1000000 ≤ s.ticks then
      ((s.modLink link fun l => { l with enumSince := s.ticks, modules := [] }).setReg (.SPL_STATE link) 3).sendBlock link 0x40
        [0, s.claim]
    else s

/-- Address of the descriptor (R309). -/
def descAddress : Nat := 0x7FF000

/-- Address of LATCH_DELAY_NEXT (R309). -/
def latchAddress : Nat := 0x7FF020

/-- ENUM_END gives the number of modules (R285); each descriptor is then read (R286), as one READ of 32 octets (log entry 32). -/
def State.enumEnd (s : State) (k n : Nat) : State :=
  if s.reg (.SPL_STATE k) ≠ 3 ∨ (s.link k).modules ≠ [] then s
  else if 32 < n then s.linkDown k 3 1
  else
    let s1 := (s.modLink k fun l => { l with modules := List.replicate n SpireModule.reset }).setReg (.SPL_MODULES k) n
    (List.range n).foldl (fun s m => s.queueTxn k (m + 1) 2 descAddress [] 32 .descriptor) s1

/-- ENUM_END_RECEIVE. -/
def execEnumEndReceive (dt link : Nat) (block : List Octet) (s : State) : Host.Outcome State Fault Refusal :=
  run s dt fun s => s.onBlock link 0x52 block fun v s => s.enumEnd link (nth v 1 0)

/-- ENUM_TIMEOUT: no ENUM_END within 5 ms (R285). -/
def execEnumTimeout (dt link : Nat) (s : State) : Host.Outcome State Fault Refusal :=
  run s dt fun s =>
    if s.reg (.SPL_STATE link) = 3 ∧ (s.link link).modules = [] ∧ (s.link link).enumSince + nsTicks 5000000 ≤ s.ticks then
      s.linkDown link 2 1
    else s

/-! Measurement -/

/-- ECHO sent to a module (R287). -/
def State.sendEcho (s : State) (k module : Nat) : State :=
  let q := (s.link k).echoSeq
  (s.modLink k fun l => { l with echoWait := some (module, q), echoSeq := (q + 1) % 65536 }).sendBlock k 0x41
    [module - 1, s.claim, q % 256, q / 256]

/-- LATCH_DELAY_NEXT of a module written and read back (R288). -/
def State.writeLatch (s : State) (k module : Nat) : State :=
  match s.module k module with
  | some m => (s.queueTxn k module 1 latchAddress (leOctets 2 m.latchNext) 2 .latchWrite).queueTxn k module 2 latchAddress [] 2 .latchRead
  | none => s

/-- The milestone of links trained, once every link with runs is (R543). -/
def State.whenTrained (s : State) : State := if s.linksTrained then s.milestone 6 else s

/-- The modules of a link as it is trained: one with HAS_CAL 0 is uncalibrated with reason 6 (R232), one without a cached image is fetched
(R235, R243). -/
def State.awaitFetch (s : State) (k : Nat) : State :=
  (s.link k).modules.zipIdx.foldl (fun s (m, i) =>
    let state := s.reg (.CAL_MODULE_STATUS k (i + 1)) / 65536 % 4
    if m.hasCal = false then (if state = 3 then s else s.uncalibrate k (i + 1) 6)
    else if (s.calModule k (i + 1)).isNone then s.setModuleStatus k (i + 1) 0 1 0 0 else s) s

/-- State 5 is reached: event 0x8801; the first STRIKE carries APPLY_DELAY (R284, R288); the freeze judgement of the link is suspended
(R359). -/
def State.linkTrained (s : State) (k : Nat) : State :=
  let l := s.link k
  let s1 := ((s.setReg (.SPL_STATE k) 5).setReg (.SPL_DELAY k) l.delayNext).modLink k fun l => { l with
    measuring := false, applyDelay := true, remeasured := false, measuredAt := s.ticks }
  ((((s1.count (.SPLCNT_TRAININGS k)).post 0x8801 2 (k + l.modules.length * 64 + l.delayNext * 4096)).suspendLink k).awaitFetch k).whenTrained

/-- Every LATCH_DELAY_NEXT has been read back: in training the link is trained, in a re-measurement the next STRIKE uses the new delays
(R288, R289). -/
def State.latchesSet (s : State) (k : Nat) : State :=
  if (s.link k).measuring ∧ (s.link k).modules.all (fun m => m.latchRead) then
    if s.reg (.SPL_STATE k) = 4 then s.linkTrained k
    else s.modLink k fun l => { l with measuring := false, applyDelay := true, remeasured := true }
  else s

/-- All modules measured: d_link and every L_k (R288). The result of a re-measurement is applied only if it differs by SPL_DELAY_HYST
(R289). -/
def State.measured (s : State) (k : Nat) : State :=
  let l := s.link k
  let reach := l.modules.map fun m => m.arrivalNext.getD 0 + m.emitLatency
  let d := 48 + maxOf reach
  if 4095 < d then s.linkDown k 5 1
  else
    let far := fun (a b : Nat) => Nat.ble (s.reg .SPL_DELAY_HYST) (max a b - min a b)
    let differs := far d (s.reg (.SPL_DELAY k)) ||
      reach.zipIdx.any fun (r, i) => far (d - 48 - r) (s.reg (.SPL_MODULE_LATCH k (i + 1)))
    if s.reg (.SPL_STATE k) = 5 ∧ differs = false then s.modLink k fun l => { l with measuring := false, measuredAt := s.ticks }
    else
      let s1 := s.modLink k fun l => { l with
        delayNext := d, measuredAt := s.ticks
        modules := l.modules.map fun m => { m with
          latchNext := d - 48 - (m.arrivalNext.getD 0 + m.emitLatency), latchRead := false } }
      let s2 := (List.range l.modules.length).foldl (fun t i =>
        (t.setReg (.SPL_MODULE_ARRIVAL k (i + 1)) (((nth l.modules i SpireModule.reset).arrivalNext).getD 0)).writeLatch k (i + 1)) s1
      s2.latchesSet k

/-- A measurement of every module starts (R287, R289). -/
def State.startMeasure (s : State) (k : Nat) : State :=
  let s1 := s.modLink k fun l => { l with
    measuring := true, modules := l.modules.map fun m => { m with samples := [], arrivalNext := none } }
  if (s.link k).modules = [] then s1.measured k else s1.sendEcho k 1

/-- A whole number in a list put in order. -/
def insertInt (a : Int) : List Int → List Int
  | [] => [a]
  | b :: bs => if a ≤ b then a :: b :: bs else b :: insertInt a bs

/-- The 9th smallest of 16 samples, each twice A, rounded up to a whole UI (R287). -/
def arrivalOf (samples : List Int) : Nat :=
  let x := nth (samples.foldl (fun acc a => insertInt a acc) []) 8 0
  ((x + 1) / 2).toNat

/-- One ECHO_REPLY: WAIT as it says, the round trip in UI as the unit timed it (R287). -/
def State.echoReply (s : State) (k module seq wait rtt : Nat) : State :=
  let l := s.link k
  if l.measuring = false ∨ l.echoWait ≠ some (module, seq) then s
  else match s.module k module with
    | none => s
    | some m =>
      let x : Int := (rtt : Int) - 48 - 56 - (m.turnaround : Int) - (wait : Int)
      let skew := (l.modules.take (module - 1)).foldl (fun (a : Int) j => a + (j.fwdDown : Int) - (j.fwdUp : Int)) 0
      let samples := m.samples ++ [x + skew]
      let s1 := (s.modLink k fun l => { l with echoWait := none }).modModule k module fun m => { m with samples := samples }
      if samples.length < 16 then s1.sendEcho k module
      else
        let s2 := s1.modModule k module fun m => { m with arrivalNext := some (arrivalOf samples) }
        if module < l.modules.length then s2.sendEcho k (module + 1) else s2.measured k

/-- ECHO_REPLY_RECEIVE. -/
def execEchoReplyReceive (dt link : Nat) (block : List Octet) (rtt : Nat) (s : State) : Host.Outcome State Fault Refusal :=
  run s dt fun s => s.onBlock link 0x51 block fun v s =>
    s.echoReply link (nth v 1 0 % 32 + 1) (nth v 2 0 + 256 * nth v 3 0) (nth v 4 0 + 256 * nth v 5 0) rtt

/-- REMEASURE_DUE: every SPL_MEASURE_S (R289). -/
def execRemeasureDue (dt link : Nat) (s : State) : Host.Outcome State Fault Refusal :=
  run s dt fun s =>
    if s.reg (.SPL_STATE link) = 5 ∧ (s.link link).measuring = false ∧
        (s.link link).measuredAt + s.reg .SPL_MEASURE_S * 781250000 ≤ s.ticks then s.startMeasure link
    else s

/-! Descriptors -/

/-- A descriptor's fields (R309). -/
def parseDescriptor (d : List Octet) : SpireModule :=
  { SpireModule.reset with
    kind := pageField d 6 1, emitterKind := pageField d 7 1, pixels := pageField d 8 2, depth := pageField d 10 1
    shadowDepth := pageField d 11 1, inputs := pageField d 12 1, hasCal := pageField d 13 1 == 1, fwdDown := pageField d 14 2
    fwdUp := pageField d 16 2, turnaround := pageField d 18 2, emitLatency := pageField d 20 2, moduleId := pageField d 24 8 }

/-- Whether a descriptor is refused (R286). -/
def descriptorRefused (d : List Octet) : Bool :=
  let m := parseDescriptor d
  decide (pageField d 0 4 ≠ 0x50535A49 ∨ pageField d 4 2 ≠ 1 ∨ m.depth < 8 ∨ 16 < m.depth ∨ m.shadowDepth < 1 ∨ 4 < m.shadowDepth ∨
    m.inputs < 1 ∨ 2 < m.inputs ∨ 256 < m.turnaround ∨ 1024 < m.emitLatency ∨ 64 < m.fwdDown ∨ 64 < m.fwdUp)

/-- A module's descriptor read (R286): refused, or accepted; a changed MODULE_ID posts event 0x8808. Once all are in, modules that do not fit
the operational map are excluded, and measurement starts. -/
def State.descriptorRead (s : State) (k module status : Nat) (d : List Octet) : State :=
  if s.reg (.SPL_STATE k) ≠ 3 then s
  else if status ≠ 0 ∨ descriptorRefused d then s.linkDown k 4 module
  else
    let m := parseDescriptor d
    let held := s.reg (.SPL_MODULE_ID k module)
    let s1 := s.modModule k module fun x => { m with accepted := true, seq := x.seq, upSeq := x.upSeq }
    let s2 := (s1.setReg (.SCN_MODULE_DEPTH k module) m.depth).setReg (.SPL_MODULE_ID k module) m.moduleId
    let s3 := if held ≠ 0 ∧ held ≠ m.moduleId then s2.post 0x8808 3 (k + (module - 1) * 64) else s2
    if (s3.link k).modules.all fun x => x.accepted then ((s3.excludeModules k).setReg (.SPL_STATE k) 4).startMeasure k else s3

/-! Shadows -/

/-- Emitter positions of a module in a map (R248, R283). -/
def EpochConfig.moduleWords (c : EpochConfig) (link module : Nat) : Nat :=
  (((nth c.map link []).filter fun w => runModule w == module).map fun w => runLen w * runPositions w).sum

/-- The shadow of a module out of the epoch's output frame slot: word w in stream bits w × d on, the last block padded with 0 (R283). -/
def State.shadowOctets (s : State) (e : Epoch) (link module : Nat) : List Octet :=
  let d := e.config.depth link module
  let n := e.config.moduleWords link module
  let words := ((nth s.cupola.frames e.slot []).filter fun p => p.1 / 4096 == link).map (·.2)
  let stream := words.flatten.foldl (fun (acc : Nat) p =>
    if p.1 / 262144 = module then acc + p.2 * 2 ^ (p.1 % 262144 * d) else acc) 0
  leOctets (8 * ((n * d + 63) / 64)) stream

/-- Segments of a module's shadow. -/
def EpochConfig.segments (c : EpochConfig) (link module : Nat) : Nat :=
  ((c.moduleWords link module * c.depth link module + 63) / 64 + 255) / 256

/-- One segment's payload (R283). -/
def State.segmentOctets (s : State) (e : Epoch) (link module segment : Nat) : List Octet :=
  slice (s.shadowOctets e link module) (2048 * segment) 2048

/-- Whether every PACK that writes a brick's words for a link is complete (R251). -/
def State.packed (s : State) (e : Epoch) (link brick : Nat) : Bool :=
  e.bricksDone.contains brick ||
    (Nat.blt brick e.nextBrick && !e.restart.contains brick &&
      !(s.belfry.slots.any fun o => o.code == 6 && o.epoch == e.epoch && o.brick == brick && o.aux == link))

/-- Whether a segment may be read: the words it holds lie in bricks that are packed (R251, R283). -/
def State.segmentReady (s : State) (e : Epoch) (link module segment : Nat) : Bool :=
  let d := e.config.depth link module
  ((linkPixels link (nth e.config.map link [])).filter fun p =>
      p.module == module && decide (p.word * d < 16384 * (segment + 1) ∧ 16384 * segment < (p.word + runPositions p.run) * d)).all
    fun p => s.packed e link (brickOf e.config.canvasW p.x p.y)

/-- Modules of a link that an epoch loads: with runs, enumerated and not excluded (R286, R291). -/
def State.loadedModules (s : State) (e : Epoch) (link : Nat) : List Nat :=
  ((s.link link).modules.zipIdx.filter fun (m, i) => !m.excluded && e.config.moduleWords link (i + 1) != 0).map fun p => p.2 + 1

/-- The loading of an epoch on a link before its first frame (R291). -/
def State.freshLoad (s : State) (e : Epoch) (link : Nat) : LinkEpoch :=
  let ms := s.loadedModules e link
  { epoch := e.epoch, gen := (s.link link).gen e.epoch, complete := [], modules := ms, failed := false, sent := false, payload := []
    toSend := (ms.map fun m =>
      let n := e.config.segments link m
      (List.range n).map fun i => (m, i, i + 1 == n)).flatten }

/-- Whether a link's shadow of an epoch is acknowledged (R293). -/
def LinkEpoch.acknowledged (x : LinkEpoch) : Bool := !x.failed && x.modules.all fun m => x.complete.contains m

/-- The loading of an epoch on a link, begun or not. -/
def State.loadOf (s : State) (e : Epoch) (link : Nat) : LinkEpoch :=
  ((s.link link).epochs.find? fun x => x.epoch == e.epoch).getD (s.freshLoad e link)

/-- The scan-out → strike credit of a link (R22). -/
def State.shadowCredit (s : State) (link : Nat) : Nat :=
  minOf 2 (((s.link link).modules.filter fun m => !m.excluded).map fun m => min 2 m.shadowDepth)

/-- The epoch a link loads next, with its loading: the oldest not decided, once the ones before it are loaded, within the credit (R22,
R251). -/
def State.nextLoad (s : State) (link : Nat) : Option (Epoch × LinkEpoch) :=
  match (s.epochs.filter fun e => e.stage == .live).find? fun e =>
      let x := s.loadOf e link
      !(x.failed || x.acknowledged) with
  | none => none
  | some e =>
    let begun := (s.link link).epochs.any fun x => x.epoch == e.epoch
    if begun ∨ (s.link link).epochs.length < s.shadowCredit link then some (e, s.loadOf e link) else none

/-- The loading of an epoch on a link changed. -/
def State.modLoad (s : State) (link epoch : Nat) (f : LinkEpoch → LinkEpoch) : State :=
  s.modLink link fun l => { l with epochs := l.epochs.map fun x => if x.epoch = epoch then f x else x }

/-- The urgency of a fill (R252). -/
def State.urgencyOf (s : State) (fill : Nat) : Nat :=
  if s.reg .SCN_WM_URG1 * 16384 ≤ fill * 1000 then 0 else if s.reg .SCN_WM_URG2 * 16384 ≤ fill * 1000 then 1 else 2

/-- The fetch urgency of a link set; entries into 1 and 2 count, and the first entry into 2 of each epoch posts event 0x8020 (R252). -/
def State.setUrgency (s : State) (link epoch u : Nat) : State :=
  let old := s.reg (.SCN_LINK_URGENCY link)
  let s1 := s.setReg (.SCN_LINK_URGENCY link) u
  if u = old ∨ u = 0 then s1
  else if u = 1 then s1.count .SCNCNT_URGENCY_1
  else
    let s2 := s1.count .SCNCNT_URGENCY_2
    match s2.epochOf epoch with
    | some e =>
      if e.urgentLinks.contains link then s2
      else (s2.modEpoch epoch fun x => { x with urgentLinks := link :: x.urgentLinks }).post 0x8020 3 (link + epoch * 64)
    | none => s2

/-- One 64-octet transfer of the line buffer leaves it at a fill (R252, R272). -/
def State.lineFill (s : State) (link epoch fill : Nat) : State :=
  let s1 := if fill < s.reg (.SCN_LINK_FILL_MIN link) then s.setReg (.SCN_LINK_FILL_MIN link) fill else s
  s1.setUrgency link epoch (s.urgencyOf fill)

/-- One segment sent for the first time or again, read from the output frame slot (R283, R291, R292). -/
def State.sendSegment (s : State) (e : Epoch) (link : Nat) (f : SpireFrame) (bad : Bool) : State :=
  let data := s.segmentOctets e link f.module f.segment
  let s1 := s.sendFrame link f data bad
  let s2 := s1.modLoad link e.epoch fun x =>
    if bad ∨ x.payload.any (fun p => p.1 == f.module && p.2.1 == f.segment) then x
    else { x with payload := x.payload ++ [(f.module, f.segment, data)] }
  if bad then (s2.count .OCUCNT_LINE_BUFFER_UNCORRECTED).post 0xA021 4 (link + e.epoch * 64) else s2

/-- The next segment of the epoch that loads starts (R251, R283, R291). The fills are those after each 64-octet transfer since the frame
before; starved counts the waits on DRAM (R253). -/
def State.startSegment (s : State) (link : Nat) (fills : List Nat) (starved : Nat) (bad : Bool) : State :=
  match s.nextLoad link with
  | none => s
  | some (e, x) =>
    match x.toSend with
    | [] => s
    | (m, seg, last) :: rest =>
      if s.segmentReady e link m seg = false then s
      else
        let s1 := if (s.link link).epochs.any fun y => y.epoch == e.epoch then s
          else s.modLink link fun l => { l with epochs := l.epochs ++ [x], joined := true }
        let s2 := (fills.foldl (fun s n => s.lineFill link e.epoch n) s1).count .SCNCNT_STARVED starved
        let blocks := (s.segmentOctets e link m seg).length / 8
        let f : SpireFrame := { kind := 0, module := m, number := e.epoch, segment := seg, gen := x.gen, last := last, resends := 0
                                sentAt := s.ticks, blocks := blocks, txns := [] }
        let s3 := (s2.sendSegment e link f bad).modLink link fun l => { l with waiting := l.waiting ++ [f] }
        let s4 := s3.modLoad link e.epoch fun y => { y with toSend := rest, sent := true }
        if rest = [] then s4.setReg (.SCN_LINK_URGENCY link) 0 else s4

/-! Register frames -/

/-- The data blocks of a transaction: header, then for a WRITE its octets padded to whole blocks (R302). -/
def txnOctets (t : RegTxn) : List Octet :=
  leOctets 1 t.op ++ leOctets 3 t.address ++ leOctets 1 t.tag ++ leOctets 2 t.len ++ [0] ++
    (if t.op = 1 then t.data ++ List.replicate ((8 - t.data.length % 8) % 8) 0 else [])

/-- A KIND 1 frame with one transaction (R302, R303; log entry 33). A READ, LOCK or UNLOCK then waits for its response; the lock is held from
the clock in which LOCK is sent (R305). -/
def State.sendTxn (s : State) (link module : Nat) (t : RegTxn) : State :=
  let seq := ((s.module link module).map SpireModule.seq).getD 0
  let data := txnOctets t
  let f : SpireFrame := { kind := 1, module := module, number := seq, segment := 0, gen := 0, last := false, resends := 0
                          sentAt := s.ticks, blocks := data.length / 8, txns := [t] }
  let s1 := (s.sendFrame link f data false).modModule link module fun m => { m with seq := (seq + 1) % 65536 }
  let s2 := s1.modLink link fun l => { l with
    waiting := l.waiting ++ [f]
    reads := if t.op = 1 then l.reads else l.reads ++ [(module, t)] }
  match t.purpose with
  | .lock n => (s2.modLink link fun l => { l with lock := some ⟨module, n, s.ticks, false⟩ }).setReg (.SPL_LOCKED link) module
  | .unlock _ => s2.modLink link fun l => { l with lock := l.lock.map fun x => { x with unlocking := true } }
  | _ => s2

/-- UNLOCK sent at once, ahead of what is queued (R306, R427). -/
def State.sendUnlock (s : State) (link module session : Nat) : State :=
  let tag := (s.link link).nextTag
  (s.modLink link fun l => { l with nextTag := (tag + 1) % 256 }).sendTxn link module ⟨4, 0, tag, 0, [], .unlock session⟩

/-- Transactions of a link that may leave: under a lock only those of the session that holds it (R425). -/
def SpireLink.sendable (l : SpireLink) : List (Nat × RegTxn) :=
  match l.lock with
  | none => l.txns
  | some x => l.txns.filter fun p => p.2.purpose.session == x.session

/-- The next register frame starts: at most 8 are outstanding (R422). -/
def State.startTxn (s : State) (link : Nat) : State :=
  let l := s.link link
  if 8 ≤ (l.waiting.filter fun f => f.kind == 1).length then s
  else match l.sendable with
    | [] => s
    | p :: _ => (s.modLink link fun l => { l with txns := l.txns.erase p }).sendTxn link p.1 p.2

/-- LINK_FRAME_START: a frame of the kind given starts, if one may (R251, R279, R302). Which of the two kinds goes first when both may is left
open by the spec, so the command says it. -/
def execLinkFrameStart (dt link kind : Nat) (fills : List Nat) (starved corrected : Nat) (double : Bool) (s : State) :
    Host.Outcome State Fault Refusal :=
  run s dt fun s =>
    if 64 ≤ link ∨ s.linkBusy link then s
    else if kind = 0 then
      if s.reg (.SPL_STATE link) = 5 then
        (s.startSegment link fills starved double).count .OCUCNT_LINE_BUFFER_CORRECTED corrected
      else s
    else if kind = 1 ∧ 3 ≤ s.reg (.SPL_STATE link) then s.startTxn link
    else s

/-! Acknowledgement -/

/-- A frame leaves the list of those that wait. -/
def State.dropFrameOf (s : State) (link : Nat) (f : SpireFrame) : State :=
  s.modLink link fun l => { l with waiting := l.waiting.erase f }

/-- A frame abandoned (R292, R303): event 0x8803; a shadow's loading stops, register transactions go back undelivered. -/
def State.frameFailed (s : State) (link : Nat) (f : SpireFrame) : State :=
  let s1 := ((s.dropFrameOf link f).count (.SPLCNT_FRAMES_FAILED link)).post 0x8803 4
    (link + (f.module - 1) * 64 + f.kind * 2048 + f.number * 16384)
  if f.kind = 0 then
    (s1.modLoad link f.number fun x => { x with failed := true, toSend := [] }).modEpoch f.number fun e => { e with
      failedLinks := link :: e.failedLinks }
  else
    f.txns.foldl (fun s t =>
      let s := s.modLink link fun l => { l with reads := l.reads.erase (f.module, t) }
      match t.purpose with
      | .descriptor => if s.reg (.SPL_STATE link) = 3 then s.linkDown link 4 f.module else s
      | .latchWrite => s.queueTxn link f.module t.op t.address t.data t.len .latchWrite
      | .latchRead => s.queueTxn link f.module t.op t.address t.data t.len .latchRead
      | .commitStatus => s.queueTxn link f.module t.op t.address t.data t.len .commitStatus
      | _ => s.txnLost link f.module t) s1

/-- A frame sent again, or abandoned after SPL_RETRIES resends (R292, R303). A segment is read again from the output frame slot. -/
def State.resend (s : State) (link : Nat) (f : SpireFrame) : State :=
  if s.reg .SPL_RETRIES ≤ f.resends then s.frameFailed link f
  else
    let g := { f with resends := f.resends + 1, sentAt := s.ticks }
    let s1 := (s.modLink link fun l => { l with waiting := l.waiting.map fun x => if x = f then g else x }).count
      (.SPLCNT_FRAMES_RESENT link)
    if f.kind = 0 then
      match s1.epochOf f.number with
      | some e => s1.sendSegment e link g false
      | none => s1.dropFrameOf link g
    else s1.sendFrame link g (f.txns.map txnOctets).flatten false

/-- A posted write that the module received (R423). -/
def State.txnDelivered (s : State) (t : RegTxn) : State :=
  match t.purpose with
  | .bridge n => if t.op = 1 ∧ s.brgWaits n t.tag then s.brgDone n 0 else s
  | _ => s

/-- A DACK (R291 to R293, R303). -/
def State.dack (s : State) (link : Nat) (v : List Nat) : State :=
  let kind := nth v 1 0 / 32
  let module := nth v 1 0 % 32 + 1
  let number := nth v 2 0 + 256 * nth v 3 0
  let status := nth v 5 0 / 16
  match (s.link link).waiting.find? fun f => f.kind == kind && f.module == module && f.number == number &&
      (kind != 0 || (f.segment == nth v 4 0 && f.gen == nth v 5 0 % 16)) with
  | none =>
    if kind = 0 ∧ (status = 0 ∨ status = 4) ∧ bitOf (nth v 6 0) 0 then
      s.modLoad link number fun x =>
        if x.gen = nth v 5 0 % 16 ∧ x.complete.contains module = false then { x with complete := module :: x.complete } else x
    else s
  | some f =>
    if status = 1 then (s.count (.SPLCNT_DACK_CHECK_FAIL link)).resend link f
    else if status = 2 ∨ status = 3 then s.frameFailed link f
    else if status = 0 ∨ status = 4 then
      let s1 := s.dropFrameOf link f
      if kind = 0 then
        if bitOf (nth v 6 0) 0 then
          s1.modLoad link number fun x =>
            if x.complete.contains module then x else { x with complete := module :: x.complete }
        else s1
      else f.txns.foldl (fun s t => s.txnDelivered t) s1
    else s

/-- Whether a link's loading of an epoch has been acknowledged, and its signature then. -/
def State.ackedSignature (s : State) (link epoch : Nat) : Option Nat :=
  match (s.link link).epochs.find? fun x => x.epoch == epoch with
  | some x => if x.acknowledged then some x.signature else none
  | none => none

/-- A DACK, and the LINK_SIG of a shadow that it acknowledges (R454). -/
def State.dackSig (s : State) (link : Nat) (v : List Nat) : State :=
  let epoch := nth v 2 0 + 256 * nth v 3 0
  let s1 := s.dack link v
  match s.ackedSignature link epoch, s1.ackedSignature link epoch with
  | none, some sig => s1.linkSig epoch link sig
  | _, _ => s1

/-- DACK_RECEIVE. -/
def execDackReceive (dt link : Nat) (block : List Octet) (s : State) : Host.Outcome State Fault Refusal :=
  run s dt fun s => s.onBlock link 0x50 block fun v s => s.dackSig link v

/-! Upstream frames -/

/-- GRANT of the REQ at the head (R304). -/
def State.grantNext (s : State) (link : Nat) : State :=
  match (s.link link).reqs with
  | [] => s
  | (_, m, q, _) :: _ =>
    (s.modLink link fun l => { l with grantAt := s.ticks }).sendBlock link 0x38 [m - 1, s.claim, q % 256, q / 256, 0]

/-- ACK_TIMEOUT: frames without DACK within SPL_ACK_TIMEOUT of their EOF are sent again or abandoned, and a granted frame that has not come is
given up (R292, R304). -/
def execAckTimeout (dt link : Nat) (s : State) : Host.Outcome State Fault Refusal :=
  run s dt fun s =>
    let limit := nsTicks (s.reg .SPL_ACK_TIMEOUT)
    let late := (s.link link).waiting.filter fun f => Nat.ble (f.sentAt + frameClocks f.blocks + limit) s.ticks
    let s1 := late.foldl (fun s f => (s.count (.SPLCNT_ACK_TIMEOUTS link)).resend link f) s
    match (s1.link link).reqs with
    | [] => s1
    | (_, _, _, n) :: rest =>
      if (s1.link link).grantAt + frameClocks n + limit ≤ s.ticks then
        ((s1.modLink link fun l => { l with reqs := rest }).count (.SPLCNT_ACK_TIMEOUTS link)).grantNext link
      else s1

/-- A REQ: granted in arrival order, one at a time; RETRY for a KIND 3 frame while the channel is locked (R304, R305, R308). A REQ that a module
issues again takes the place of its first, and is granted again if that was granted. -/
def State.reqTaken (s : State) (link kind module seq blocks : Nat) : State :=
  let l := s.link link
  if kind ≠ 2 ∧ kind ≠ 3 then s
  else if l.reqs.any (fun r => r.2.1 == module) then
    let s1 := s.modLink link fun l => { l with reqs := l.reqs.map fun r => if r.2.1 = module then (kind, module, seq, blocks) else r }
    if l.reqs.head?.any (fun r => r.2.1 == module) then s1.grantNext link else s1
  else if kind = 3 ∧ l.lock.isSome then
    (s.sendBlock link 0x38 [module - 1, s.claim, seq % 256, seq / 256, 1]).count (.SPLCNT_RETRY_GRANTS link)
  else
    let s1 := s.modLink link fun l => { l with reqs := l.reqs ++ [(kind, module, seq, blocks)] }
    if l.reqs = [] then s1.grantNext link else s1

/-- REQ_RECEIVE. -/
def execReqReceive (dt link : Nat) (block : List Octet) (s : State) : Host.Outcome State Fault Refusal :=
  run s dt fun s => s.onBlock link 0x53 block fun v s =>
    s.reqTaken link (nth v 1 0 / 32) (nth v 1 0 % 32 + 1) (nth v 2 0 + 256 * nth v 3 0) (nth v 4 0 + 256 * nth v 5 0)

/-- Whether an upstream frame is whole and verifies (R280, R281). -/
def upFrameOk (sof data eof : List Octet) : Bool :=
  match parseBlock sof, parseBlock eof with
  | some a, some b =>
    let kind := nth a 1 0 / 32
    let blocks := nth b 1 0 + 256 * nth b 2 0
    nth a 0 0 == 0x20 && nth b 0 0 == 0x21 && (kind == 2 || kind == 3) && data.length == 8 * blocks && Nat.ble 1 blocks &&
      Nat.ble blocks (if kind = 2 then 520 else 32) && frameCheck sof data blocks == ofLe (slice eof 3 4)
  | _, _ => false

/-- UP_FRAME_EOF: the granted frame is checked and answered with UACK; a frame accepted before is kept once (R304). -/
def execUpFrameEof (dt link : Nat) (sof data eof : List Octet) (s : State) : Host.Outcome State Fault Refusal :=
  run s dt fun s =>
    match (s.link link).reqs with
    | [] => s
    | (_, m, q, _) :: rest =>
      let ok := upFrameOk sof data eof
      let s1 := (s.modLink link fun l => { l with reqs := rest }).sendBlock link 0x39
        [m - 1, s.claim, q % 256, q / 256, if ok then 0 else 2]
      let again := (s.module link m).any fun x => x.upSeq == some q
      let s2 := if ok then
          if again then s1
          else (s1.modModule link m fun x => { x with upSeq := some q }).count (.SPLCNT_UP_FRAMES link)
        else s1.count (.SPLCNT_UP_CHECK_FAIL link)
      s2.grantNext link

/-! Responses -/

/-- The transaction a response answers: by module, TAG and OP. It is answered once. -/
def State.takeRead (s : State) (link module tag op : Nat) : Option (RegTxn × State) :=
  ((s.link link).reads.find? fun p => p.1 == module && p.2.tag == tag && p.2.op == op).map fun p =>
    (p.2, s.modLink link fun l => { l with reads := l.reads.erase p })

/-- READ_DATA_RESPONSE: for the bridge, for training, for a latch delay read back, or for a commit status (R230, R242, R286, R288, R307,
R423). -/
def execReadDataResponse (dt link module tag status : Nat) (data : List Octet) (s : State) : Host.Outcome State Fault Refusal :=
  run s dt fun s =>
    match s.takeRead link module tag 2 with
    | none => s
    | some (t, s) =>
      match t.purpose with
      | .bridge n =>
        if s.brgWaits n tag then
          ((s.modBrgSession n fun b => { b with modStatus := status, data := if status = 0 then data else b.data }).brgDone n
            (if status = 0 then 0 else 3)).emit (.data (if status = 0 then data else []))
        else s
      | .descriptor => s.descriptorRead link module status data
      | .latchRead =>
        match s.module link module with
        | some m =>
          if status = 0 ∧ ofLe (data.take 2) = m.latchNext then
            (s.modModule link module fun m => { m with latchRead := true }).latchesSet link
          else s.writeLatch link module
        | none => s
      | .commitStatus =>
        match s.cal.recal with
        | some r => if r.link = link ∧ r.module = module then s.recalStatus (if status = 0 then ofLe (data.take 4) else 1) else s
        | none => s
      | _ => s

/-- WRITE_ERROR_RESPONSE: logged, and not retried (R307, R426). -/
def execWriteErrorResponse (dt link module tag address len status : Nat) (s : State) : Host.Outcome State Fault Refusal :=
  run s dt fun s => if 64 ≤ link ∨ module = 0 then s else s.pweEnter link module tag address len status

/-- The lock of a link ends with UNLOCKED (R305). -/
def State.sendUnlocked (s : State) (link : Nat) : State :=
  ((s.modLink link fun l => { l with lock := none }).setReg (.SPL_LOCKED link) 0).sendBlock link 0x32 [0, s.claim]

/-- LOCK_RESPONSE (R305, R423): the session holds the lock, or an abort latched before sends UNLOCK (R427); a LOCK the module refused ends
with UNLOCKED (log entry 34). -/
def execLockResponse (dt link module tag status : Nat) (s : State) : Host.Outcome State Fault Refusal :=
  run s dt fun s =>
    match s.takeRead link module tag 3 with
    | none => s
    | some (t, s) =>
      let n := t.purpose.session
      let aborted := (s.brg n).transfer.any fun x => x.tag == tag && x.aborted
      let waits := s.brgWaits n tag
      let s1 := s.modBrgSession n fun b => { b with modStatus := status }
      if status ≠ 0 then
        let s2 := s1.sendUnlocked link
        if waits then (s2.modBrgSession n fun b => { b with lock := 0 }).brgDone n 3 else s2
      else if aborted ∨ waits = false then
        (s1.modBrgSession n fun b => { b with lock := 0, transfer := none }).sendUnlock link module n
      else
        (s1.modBrgSession n fun b => { b with lock := 2, lockedLink := link, lockedModule := module }).brgDone n 0

/-- UNLOCK_RESPONSE: followed by UNLOCKED (R305, R423). -/
def execUnlockResponse (dt link module tag status : Nat) (s : State) : Host.Outcome State Fault Refusal :=
  run s dt fun s =>
    match s.takeRead link module tag 4 with
    | none => s
    | some (t, s) =>
      let n := t.purpose.session
      let s1 := s.modBrgSession n fun b => { b with modStatus := status }
      let s2 := match (s.link link).lock with
        | some x => if x.session = n ∧ x.unlocking then s1.sendUnlocked link else s1
        | none => s1
      if s.brgWaits n tag then (s2.modBrgSession n fun b => { b with lock := 0 }).brgDone n 0 else s2

/-- The unit ends a lock itself: UNLOCK, then UNLOCKED (R306). -/
def State.forceUnlock (s : State) (link : Nat) (x : LinkLock) : State :=
  let s1 := s.modLink link fun l => { l with
    txns := l.txns.filter fun p => p.2.purpose != .bridge x.session && p.2.purpose != .unlock x.session }
  (s1.sendUnlock link x.module 0xFFFF).sendUnlocked link

/-- LOCK_TIME_LIMIT: a lock held beyond SPL_LOCK_MAX_US is released by the unit (R306, R425). -/
def execLockTimeLimit (dt link : Nat) (s : State) : Host.Outcome State Fault Refusal :=
  run s dt fun s =>
    match (s.link link).lock with
    | none => s
    | some x =>
      if x.since + nsTicks (1000 * s.reg .SPL_LOCK_MAX_US) ≤ s.ticks then
        ((s.forceUnlock link x).post 0x8806 4 (link + (x.module - 1) * 64)).lockLost link 0 x.session
      else s

/-! Fault reports -/

/-- One fault record: CLASS, SET, PIXEL and DETAIL (R310). -/
structure FaultRecord where
  cls : Nat
  set : Nat
  pixel : Nat
  detail : Nat
  deriving DecidableEq, Repr

/-- The records of a KIND 3 frame, one per data block (R310). -/
def parseRecords : Nat → List Octet → List FaultRecord
  | 0, _ => []
  | n + 1, o =>
    if o.length < 8 then []
    else ⟨pageField o 0 1, pageField o 1 1, pageField o 2 2, pageField o 4 4⟩ :: parseRecords n (o.drop 8)

/-- Whether a record of class 1 goes to calibration: its PIXEL and SET exist (R310). -/
def State.emitterRecord (s : State) (link module : Nat) (r : FaultRecord) : Bool :=
  r.cls == 1 && (match s.module link module with
    | some m => Nat.blt r.pixel m.pixels
    | none => false) &&
    (match s.calModule link module with
    | some c => hasSet c.copyA r.pixel r.set
    | none => r.set == 0)

/-- FAULT_RECORDS: class 1 records to calibration, in ascending order of pixel; every other posts event 0x8805 (R227, R229, R310). The changed
selector pages are written back at once, or at the end of the pass that the zone waits for. -/
def execFaultRecords (dt link module : Nat) (data : List Octet) (s : State) : Host.Outcome State Fault Refusal :=
  run s dt fun s =>
    if 64 ≤ link ∨ module = 0 then s
    else
      let records := parseRecords 32 data
      let emitter := sortBy (fun a b => Nat.ble a.pixel b.pixel) (records.filter fun r => s.emitterRecord link module r)
      let other := records.filter fun r => !s.emitterRecord link module r
      let s1 := s.count (.SPLCNT_FAULT_RECORDS link) records.length
      let marked := emitter.foldl (fun s r => s.emitterFault link module r.pixel r.set) s1
      let x := marked.zone (s.zoneOf link module)
      let s2 := if emitter.isEmpty || x.requested || x.pass.isSome then marked else marked.writeBack
      other.foldl (fun s r => s.post 0x8805 4 (link + (module - 1) * 64 + r.cls * 2048 + r.detail % 2 ^ 23 * 2 ^ 19)) s2

end Sys2Proof.Machine
end

