-- ==== Sys2Proof/Machine/Scanout.lean ====
section
/-! DEFINITION. Scan-out (R246 to R274): the map and its validation, timing modes and genlock, the commit instant with the withhold policy,
the export of lamp pixels, and the strike reference. -/

namespace Sys2Proof.Machine

/-! The map -/

/-- Whether a run's fields are refused: reserved bits, SPARES 3, ORDER (R247, R248). -/
def runFieldsBad (w : Nat) : Bool :=
  w % 2 ^ 14 != 0 || runSpares w == 3 || (if runRgbw w then Nat.blt (runOrder w) 6 || Nat.blt 9 (runOrder w) else Nat.blt 5 (runOrder w))

/-- Whether a run leaves the coordinate space (R249). -/
def runLeaves (w : Nat) : Bool :=
  (runPixels w).any fun p => decide (p.1 < 0 ∨ 4095 < p.1 ∨ p.2 < 0 ∨ 4095 < p.2)

/-- Whether a list of numbers never falls. -/
def neverFalls : List Nat → Bool
  | a :: b :: l => Nat.ble a b && neverFalls (b :: l)
  | _ => true

/-- The first link that a test names. -/
def firstLink (runs : List (List Nat)) (f : List Nat → Bool) : Option Nat :=
  (runs.zipIdx.find? fun p => f p.1).map (·.2)

/-- Canvas pixels of a table as numbers y × 4,096 + x. -/
def tablePixels (runs : List Nat) : List Nat :=
  (runs.map fun w => (runPixels w).map fun p => p.2.toNat * 4096 + p.1.toNat).flatten

/-- Canvas pixels of the enabled lamp map records. -/
def lampPixels (lamps : List Nat) : List Nat := (lamps.filter lampEnabled).map fun w => lampY w * 4096 + lampX w

/-- Numbers that stand in a list more than once. -/
def repeated (l : List Nat) : List Nat :=
  let sorted := sortBy Nat.ble l
  (sorted.zip (sorted.drop 1)).filterMap fun p => if p.1 = p.2 then some p.1 else none

/-- Whether a lamp map record's ORDER fits its COUNT (R270). -/
def lampOrderFits (w : Nat) : Bool :=
  if lampCount w = 4 then Nat.ble 6 (lampOrder w) && Nat.ble (lampOrder w) 9
  else Nat.ble (lampOrder w) 5

/-- Whether the lamp map fails R270. -/
def lampMapBad (lamps : List Nat) : Bool :=
  let on := lamps.filter lampEnabled
  (lamps.any fun w => w % 2 ^ 24 != 0) ||
    (on.any fun w => Nat.blt 512 (lampChannel w + lampCount w) || !lampOrderFits w) ||
    !(repeated (on.map fun w => (List.range (lampCount w)).map fun i => lampChannel w + i).flatten).isEmpty

/-- The greatest load of R34 at a rate; 0 beyond 480 Hz (R259). -/
def loadLimit (rate feeds : Nat) : Nat :=
  let (a, b) := nth frameRates rate (60, 1)
  if a * feeds ≤ 120 * b then 4194304 else if a * feeds ≤ 240 * b then 2097152 else if a * feeds ≤ 480 * b then 1048576 else 0

/-- Octets of the link words of one epoch (R249, reason 10). -/
def linkWordOctets (runs : List (List Nat)) : Nat := 2 * (runs.flatten.map fun w => runLen w * runPositions w).sum

/-- Whether an enabled layer leaves a canvas (R119, R249). -/
def State.layerOutside (s : State) (canvas : Nat × Nat) : Bool :=
  (List.range 8).any fun l => s.flag (.ING_LAYER_ENABLE l) &&
    !((⟨s.reg (.ING_CANVAS_X l), s.reg (.ING_CANVAS_Y l), s.reg (.ING_LAYER_W l), s.reg (.ING_LAYER_H l)⟩ : Rect).inside
      ⟨0, 0, canvas.1, canvas.2⟩)

/-- Why a map is refused: the lowest reason that holds, with its link field (R249). -/
def State.mapRefusal (s : State) (runs : List (List Nat)) (lamps : List Nat) : Option (Nat × Nat) :=
  let canvas := mapCanvas runs lamps
  let load := mapLoad runs lamps
  let pixels := runs.map tablePixels
  let twice := repeated (pixels.flatten ++ lampPixels lamps)
  match firstLink runs fun t => t.any runFieldsBad with
  | some k => some (1, k)
  | none =>
  match firstLink runs fun t => t.any runLeaves with
  | some k => some (2, k)
  | none =>
  if !twice.isEmpty then some (3, ((pixels.zipIdx.find? fun p => p.1.any twice.contains).map (·.2)).getD 64)
  else match firstLink runs fun t => !neverFalls (t.map runModule) with
  | some k => some (4, k)
  | none =>
  if loadLimit (s.reg .SCN_RATE_OPER) (s.reg .SCN_FEEDS_OPER) < load ∨
      (s.reg .SCN_MODE_CHANGE = 1 ∧ loadLimit (s.reg .SCN_RATE_ADMIN) (s.reg .SCN_FEEDS_ADMIN) < load) then some (5, 127)
  else if 4194304 < canvas.1 * canvas.2 then some (6, 127)
  else match firstLink runs fun t => Nat.blt 2048 t.length with
  | some k => some (7, k)
  | none =>
  if 32768 < (runs.map List.length).sum then some (7, 127)
  else if lampMapBad lamps then some (8, 64)
  else if s.layerOutside canvas then some (9, 127)
  else if 33554432 < linkWordOctets runs then some (10, 127)
  else none

/-- A write of 1 to SCN_MAP_CHANGE (R246, R249). -/
def State.mapRequest (s : State) : State :=
  if s.reg .SCN_MAP_CHANGE = 1 then s.reply 10
  else
    let lamps := (List.range 512).map fun k => s.reg (.SCN_LAMP_MAP_ADMIN (k + 1))
    match s.mapRefusal s.scan.mapAdmin lamps with
    | some (r, k) => (s.post 0x8004 4 (r + k * 16)).reply 8
    | none => (s.setReg .SCN_MAP_CHANGE 1).reply 0

/-- A write of 2 to SCN_MAP_CHANGE (R246). -/
def State.mapCancel (s : State) : State :=
  if s.reg .SCN_MAP_CHANGE = 1 then (s.setReg .SCN_MAP_CHANGE 0).reply 0 else s.reply 15

/-- MAP_CHANGE_REQUEST. -/
def execMapChangeRequest (dt who : Nat) (s : State) : Host.Outcome State Fault Refusal :=
  run s dt fun s => s.asWriter who .SCN_MAP_CHANGE fun s => s.mapRequest

/-- MAP_CHANGE_CANCEL. -/
def execMapChangeCancel (dt who : Nat) (s : State) : Host.Outcome State Fault Refusal :=
  run s dt fun s => s.asWriter who .SCN_MAP_CHANGE fun s => s.mapCancel

/-! Timing modes -/

/-- The administrative and operational elements of the timing mode (R272). -/
def modeRegs : List (Reg × Reg) :=
  [(.SCN_RATE_ADMIN, .SCN_RATE_OPER), (.SCN_FEEDS_ADMIN, .SCN_FEEDS_OPER), (.SCN_PHASE_ADMIN, .SCN_PHASE_OPER),
   (.SCN_GENLOCK_ADMIN, .SCN_GENLOCK_OPER), (.SCN_GENLOCK_PIN_ADMIN, .SCN_GENLOCK_PIN_OPER),
   (.SCN_GENLOCK_DELAY_ADMIN, .SCN_GENLOCK_DELAY_OPER), (.SCN_GENLOCK_SLEW_ADMIN, .SCN_GENLOCK_SLEW_OPER),
   (.SCN_ANCHOR_ADMIN, .SCN_ANCHOR_OPER), (.SCN_CAM_OFFSET_ADMIN, .SCN_CAM_OFFSET_OPER),
   (.SCN_CAM_WIDTH_ADMIN, .SCN_CAM_WIDTH_OPER)] ++
  ((List.range 4).map fun i => (.SCN_FEED_LAYERS_ADMIN (9 + i), .SCN_FEED_LAYERS_OPER (9 + i))) ++
  (List.range 4).map fun i => (.SCN_FEED_BELL_ADMIN (13 + i), .SCN_FEED_BELL_OPER (13 + i))

/-- Pins the feeds of the administrative mode name. -/
def State.adminPins (s : State) : List Nat :=
  ((List.range (s.reg .SCN_FEEDS_ADMIN)).map fun f => s.reg (.SCN_FEED_BELL_ADMIN (13 + f))).filter fun p => Nat.blt p 8

/-- Whether a field of the administrative mode is out of range (R272, R265 reason 1). -/
def State.modeRangeBad (s : State) : Bool :=
  let feeds := s.reg .SCN_FEEDS_ADMIN
  let width := s.reg .SCN_CAM_WIDTH_ADMIN
  let p := periodOf (s.reg .SCN_RATE_ADMIN) feeds
  let delay := s.regInt .SCN_GENLOCK_DELAY_ADMIN
  decide (23 < s.reg .SCN_RATE_ADMIN ∨ (feeds ≠ 1 ∧ feeds ≠ 2 ∧ feeds ≠ 4) ∨ 2 < s.reg .SCN_GENLOCK_ADMIN ∨
    7 < s.reg .SCN_GENLOCK_PIN_ADMIN ∨ delay < -10000000 ∨ 10000000 < delay ∨ s.reg .SCN_GENLOCK_SLEW_ADMIN < 10 ∨
    100000 < s.reg .SCN_GENLOCK_SLEW_ADMIN ∨ width < 10 ∨ p < nsUnits (width + 10)) ||
    (List.range 4).any fun i =>
      let b := s.reg (.SCN_FEED_BELL_ADMIN (13 + i))
      Nat.blt 7 b && b != 255

/-- Why a mode change is refused: the lowest reason (R265). -/
def State.modeRefusal (s : State) : Option Nat :=
  let rate := s.reg .SCN_RATE_ADMIN
  let feeds := s.reg .SCN_FEEDS_ADMIN
  if s.modeRangeBad then some 1
  else if loadLimit rate feeds < max 1 (s.reg .SCN_MAP_LOAD) then some 2
  else if s.reg .SCN_GENLOCK_ADMIN = 1 ∧ s.reg (.TCK_BELL_DIR (s.reg .SCN_GENLOCK_PIN_ADMIN + 1)) ≠ 0 then some 3
  else if s.adminPins.any (fun p => s.reg (.TCK_BELL_DIR (p + 1)) != 1 || ((s.cmp (5 + p)).armed && !s.scanOwns (5 + p))) then some 4
  else if periodOf rate feeds ≤ nsUnits (s.reg .SCN_PHASE_ADMIN) then some 5
  else none

/-- A write of 1 to SCN_MODE_CHANGE (R265): the change takes effect at the next presentation instant of the old mode, or at once with no epoch
in flight. -/
def State.modeRequest (s : State) : State :=
  if s.reg .SCN_MODE_CHANGE = 1 then s.reply 10
  else match s.modeRefusal with
    | some r => (s.post 0x8002 4 r).reply 8
    | none =>
      let when_ := if s.epochs.isEmpty then s.time96 else s.gridAt (s.gridFirst (s.time96 + 1))
      ((s.setReg .SCN_MODE_CHANGE 1).modScan fun n => { n with modeAt := some when_ }).reply 0

/-- A write of 2 to SCN_MODE_CHANGE (R265). -/
def State.modeCancel (s : State) : State :=
  if s.reg .SCN_MODE_CHANGE = 1 then ((s.setReg .SCN_MODE_CHANGE 0).modScan fun n => { n with modeAt := none }).reply 0 else s.reply 15

/-- MODE_CHANGE_REQUEST. -/
def execModeChangeRequest (dt who : Nat) (s : State) : Host.Outcome State Fault Refusal :=
  run s dt fun s => s.asWriter who .SCN_MODE_CHANGE fun s => s.modeRequest

/-- MODE_CHANGE_CANCEL. -/
def execModeChangeCancel (dt who : Nat) (s : State) : Host.Outcome State Fault Refusal :=
  run s dt fun s => s.asWriter who .SCN_MODE_CHANGE fun s => s.modeCancel

/-- The reference of a new grid (R260 to R262, R268): anchor and phase under PTP once time is valid, else the instant at which the mode takes
effect. -/
def State.newGridRef (s : State) : Nat :=
  let phase := nsUnits (s.reg .SCN_PHASE_OPER)
  if s.reg .SCN_GENLOCK_OPER = 0 ∧ s.clock.stepped then nsUnits (s.reg .SCN_ANCHOR_OPER) + phase else s.time96 + phase

/-- Comparators that the feeds of the mode in force own, disarmed (R264). -/
def State.cameraRelease (s : State) : State :=
  (List.range 11).foldl (fun s i =>
    if s.scanOwns (5 + i) then (s.modCmp (5 + i) fun c => { c with armed := false }).showNext (5 + i) else s) s

/-- A timing mode takes effect (R265 to R267): uncommitted epochs are superseded and retired, the grid starts anew with its first instant at or
after the effect plus 2 P of the old mode, and the freeze judgement is suspended. -/
def State.modeEffect (s : State) (apply step : Bool) (ref : State → Nat) : State :=
  let old := s.period
  let s1 := (s.epochs.filter Epoch.uncommitted).foldl (fun s e => s.squash e.epoch false) s
  let s2 := s1.cameraRelease
  let s3 := if apply then (modeRegs.foldl (fun t p => t.setReg p.2 (s2.reg p.1)) (s2.setReg .SCN_MODE_CHANGE 0)).cameraRelease else s2
  let s4 := s3.modScan fun n => { n with gridRef := ref s3, lastEdge := none, edgeErrors := 0, edgesLost := false, anchored := false }
  let s5 := s4.modScan fun n => { n with
    nextIndex := s4.gridFirst (s4.time96 + 2 * old), newMode := some step
    modeAt := if apply then none else n.modeAt.map fun _ => s4.gridAt (s4.gridFirst (s4.time96 + 1)) }
  (s5.count .SCNCNT_MODE_CHANGES).suspendAll 0 (some s5.scan.nextEpoch)

/-- MODE_CHANGE_EFFECT: a pending change whose instant has come (R265). -/
def execModeChangeEffect (dt : Nat) (s : State) : Host.Outcome State Fault Refusal :=
  run s dt fun s =>
    if s.reg .SCN_MODE_CHANGE = 1 ∧ s.scan.modeAt.any (fun t => Nat.ble t s.time96) then s.modeEffect true false State.newGridRef else s

/-! Genlock -/

/-- 1 / f in 2^-32 ns. -/
def State.framePeriod (s : State) : Nat := periodOf (s.reg .SCN_RATE_OPER) 1

/-- The index of feed 0 whose instant is nearest to an instant (R262). -/
def State.nearestFrame (s : State) (t : Nat) : Nat :=
  let f := s.reg .SCN_FEEDS_OPER
  let n := gridNum (s.reg .SCN_RATE_OPER)
  let d := gridDen (s.reg .SCN_RATE_OPER) 1
  f * ((2 * (t - s.scan.gridRef) * d + n) / (2 * n))

/-- The grid moved so that an index of feed 0 falls on an instant (R262). -/
def State.anchorGrid (s : State) (t : Nat) : State :=
  let k := s.nearestFrame t
  s.modScan fun n => { n with gridRef := t - gridOffset (s.reg .SCN_RATE_OPER) (s.reg .SCN_FEEDS_OPER) k, anchored := true }

/-- An edge accepted: it counts, ends a loss of edges, and moves the grid by at most SCN_GENLOCK_SLEW (R262). -/
def State.edgeAccepted (s : State) (err : Int) : State :=
  let pin := s.reg .SCN_GENLOCK_PIN_OPER
  let s1 := (if s.scan.edgesLost = false then s else s.post 0x8023 3 pin).count .SCNCNT_GENLOCK_EDGES
  let slew : Int := nsUnits (s.reg .SCN_GENLOCK_SLEW_OPER)
  s1.modScan fun n => { n with
    lastEdge := some s.time96, edgesLost := false, gridRef := ((n.gridRef : Int) + clampInt (-slew) slew err).toNat }

/-- GENLOCK_EDGE: a rising edge on the genlock pin (R262). The first after the mode took effect anchors the grid (log entry 35). -/
def State.genlockEdge (s : State) : State :=
  let ref : Int := (s.time96 : Int) + s.regInt .SCN_GENLOCK_DELAY_OPER * 2 ^ 32
  let t := ref.toNat
  if s.scan.anchored = false then (s.anchorGrid t).edgeAccepted 0
  else
    let err : Int := ref - s.gridAt (s.nearestFrame t)
    let mag := err.natAbs
    if s.framePeriod < 1000 * mag then s.count .SCNCNT_GENLOCK_REJECTED
    else
      let bad := decide (nsUnits 50000 < mag)
      let n := if bad then s.scan.edgeErrors + 1 else 0
      if 3 ≤ n then
        let s1 := (s.modeEffect false true fun u => (u.anchorGrid t).scan.gridRef).modScan fun x => { x with
          anchored := true, lastEdge := some s.time96 }
        (s1.count .SCNCNT_GENLOCK_EDGES).post 0x8022 5 (s.reg .SCN_GENLOCK_PIN_OPER + satSigned 39 (err / 2 ^ 32) * 8)
      else (s.modScan fun x => { x with edgeErrors := n }).edgeAccepted err

/-- GENLOCK_EDGE. -/
def execGenlockEdge (dt : Nat) (s : State) : Host.Outcome State Fault Refusal :=
  run s dt fun s =>
    if s.scan.gridOn ∧ s.reg .SCN_GENLOCK_OPER = 1 ∧ s.clock.stepped ∧
        s.reg (.TCK_BELL_DIR (s.reg .SCN_GENLOCK_PIN_OPER + 1)) = 0 then s.genlockEdge
    else s

/-- GENLOCK_LOSS: no edge accepted for 3 / f (R262). -/
def execGenlockLoss (dt : Nat) (s : State) : Host.Outcome State Fault Refusal :=
  run s dt fun s =>
    if s.scan.gridOn ∧ s.reg .SCN_GENLOCK_OPER = 1 ∧ s.clock.stepped ∧ s.scan.edgesLost = false ∧
        s.scan.lastEdge.getD s.scan.gridRef + 3 * s.framePeriod ≤ s.time96 then
      (s.modScan fun n => { n with edgesLost := true }).post 0x8021 5 (s.reg .SCN_GENLOCK_PIN_OPER)
    else s

/-! Commit -/

/-- Operations of an epoch not complete at its commit instant are removed (R171). -/
def State.timeoutOps (s : State) (e : Epoch) : State :=
  let mine := s.belfry.slots.filter fun o => o.code < 7 && o.epoch == e.epoch
  if mine.isEmpty then s
  else
    let s1 := mine.foldl (fun s o => match o.stage with
      | .running k since => ((s.freeOp o).stopEngine k e.epoch since).trace (o.record 7 0 0 k 0)
      | _ => (s.freeOp o).trace (o.record 7 0 (s.opPriority o) 0 0)) s
    let s2 := s1.modBelfry fun b => { b with
      engines := b.engines.map fun g => { g with contexts := g.contexts.filter fun c => c.epoch != e.epoch } }
    ((s2.count .BELCNT_OPS_TIMED_OUT mine.length).post 0x5004 5 (e.epoch + clampNat 32767 mine.length * 65536)).modEpoch e.epoch
      fun x => { x with timedOut := true }

/-- BEL_LAST_GRAPH at the commit instant (R183). The slack of a graph that timed out is negative and otherwise open (log entry 5). -/
def State.lastGraph (s : State) (e : Epoch) : State :=
  let (n, s0) := s.takeFree
  let slack : Int := match e.completedAt with
    | some t => ((e.tc : Int) - t) / 2 ^ 32
    | none => -1 - (Config.freeValue n % 2 ^ 31 : Nat)
  ((((s0.setReg (.BEL_LAST_GRAPH 1) e.epoch).setReg (.BEL_LAST_GRAPH 2) (clampNat 65535 e.operations)).setReg (.BEL_LAST_GRAPH 3)
    e.graphClocks).setInt (.BEL_LAST_GRAPH 4) slack)

/-- Whether a link is active: runs in its operational table, trained, and in the test since its first load (R255). -/
def State.linkActive (s : State) (k : Nat) : Bool :=
  s.reg (.SPL_STATE k) == 5 && s.reg (.SCN_LINK_RUNS k) != 0 && (s.link k).joined

/-- What the lamp map takes from a pixel of an epoch: its components in order, W the least of R, G and B (R270, R271). -/
def lampComponents (rgb : List Nat) (w : Nat) : List Nat :=
  (((emitterOrder (lampOrder w)).getD []).map fun i => nth (rgb ++ [minOf 0 rgb]) i 0).take (lampCount w)

/-- The values of one lamp map record: from the output copy where its pixel is written and reads clean, else the last handed over (R271). -/
def State.lampRecord (s : State) (e : Epoch) (poisoned : List Nat) (r : Nat) : List (Nat × Nat) :=
  let w := nth e.config.lampMap r 0
  let last := (List.range (lampCount w)).map fun i => (lampChannel w + i, nth s.scan.lampLast (lampChannel w + i) 0)
  if (nth s.scan.marks e.slot []).contains r ∧ poisoned.contains r = false then
    match s.copyAt e (lampX w) (lampY w) with
    | some word => (lampComponents (copyRgb e.config.compact word) w).zipIdx.map fun (v, i) => (lampChannel w + i, v)
    | none => last
  else last

/-- The lamp values of an epoch handed to Lantern for the first period that starts at or after its T_p (R32, R271). -/
def State.lampExport (s : State) (e : Epoch) (poisoned : List Nat) : State :=
  let on := (List.range e.config.lampMap.length).filter fun r => lampEnabled (nth e.config.lampMap r 0)
  if on.isEmpty then s
  else
    let values := (on.map fun r => s.lampRecord e poisoned r).flatten
    (s.modScan fun n => { n with
      lampNext := some (e.tp, values), lampLast := values.foldl (fun l p => setNth l p.1 p.2) n.lampLast }).count
      .SCNCNT_LAMP_EXPORTS

/-- The strike of an epoch withheld on every link (R254, R256). -/
def State.withhold (s : State) (e : Nat) (late : List Nat) : State :=
  let s1 := ((s.revoke e).modEpoch e fun x => { x with stage := .withheld }).count .SCNCNT_WITHHELD
  let s2 := s1.modBelfry fun b => { b with live := b.live.filter (· != e) }
  let s3 := if s.scan.withheldRun = 0 then s2.post 0x8010 4 (e + late.length * 65536) else s2
  s3.modScan fun n => { n with withheldRun := n.withheldRun + 1 }

/-- A link late under policy 1 (R254, R256). -/
def State.linkWithheld (s : State) (e k : Nat) : State :=
  let s1 := (s.revokeLink e k).count .SCNCNT_LINK_WITHHELD
  if nth s.scan.linkRun k false then s1
  else (s1.modScan fun n => { n with linkRun := setNth n.linkRun k true }).post 0x8012 4 (k + e * 64)

/-- The strike decision of an epoch (R25, R254, R257). -/
def State.decide_ (s : State) (e : Epoch) (poisoned : List Nat) : State :=
  let active := (List.range 64).filter s.linkActive
  let late := active.filter fun k => !(s.loadOf e k).acknowledged
  let s1 := late.foldl (fun s k => s.bump (.SCN_LINK_LATE k)) s
  let policy := s.reg .SCN_WITHHOLD_POLICY
  if policy = 0 ∧ late ≠ [] then s1.withhold e.epoch late
  else
    let links := active.filter fun k => !late.contains k
    let s2 := if policy = 0 then s1 else late.foldl (fun s k => s.linkWithheld e.epoch k) s1
    if links = [] ∧ active ≠ [] then
      ((s2.modEpoch e.epoch fun x => { x with stage := .withheld }).modBelfry fun b => { b with
        live := b.live.filter (· != e.epoch) }).count .SCNCNT_WITHHELD
    else
      let sigs := links.map fun k => (k, (s.loadOf e k).signature)
      let s3 := s2.modEpoch e.epoch fun x => { x with stage := .committed links, outSigs := sigs }
      let s4 := if links = [] then s3.count .SCNCNT_WITHHELD else s3
      s4.lampExport e poisoned

/-- COMMIT_INSTANT: at T_c the oldest undecided epoch's operations still open are removed, and its strike is decided (R25, R171, R254). An epoch
whose replacement is not in place is withheld. poisoned names the lamp map records whose read of the output copy is poisoned (R271). -/
def execCommitInstant (dt : Nat) (poisoned : List Nat) (s : State) : Host.Outcome State Fault Refusal :=
  run s dt fun s =>
    match s.oldest with
    | none => s
    | some e =>
      if s.time96 < e.tc then s
      else
        let s1 := (s.ownFire 0).timeoutOps e
        let s2 := match e.stage with
          | .live => (s1.lastGraph e).decide_ e poisoned
          | _ => s1.withhold e.epoch []
        s2.reprioritise.resume.showQueues

/-! The strike reference -/

/-- The committed epoch whose strike is next. -/
def State.toStrike (s : State) : Option (Epoch × List Nat) :=
  s.epochs.findSome? fun e => match e.stage with
    | .committed links => if links = [] then none else some (e, links)
    | _ => none

/-- d_link that the next STRIKE of a link uses (R288, R289). -/
def State.strikeDelay (s : State) (k : Nat) : Nat := if (s.link k).applyDelay then (s.link k).delayNext else s.reg (.SPL_DELAY k)

/-- Comparator 1 fires for an epoch with a residual r in 2^-32 ns: each link waits 4,096 − d_link − floor(r / 0.64 ns) UI (R108). Instants are
counted in UI, two to a clock. -/
def State.strikeFire (s : State) (e : Epoch) (links : List Nat) (r : Nat) : State :=
  links.foldl (fun s k => s.modLink k fun l => { l with
    strikeWait := some (e.epoch, 2 * s.ticks + (4096 - s.strikeDelay k - r * 100 / (64 * 2 ^ 32))) }) (s.ownFire 1)

/-- STRIKE_REFERENCE: comparator 1 fires at T_s = T_p − 2,621.44 ns (R107, R108). -/
def execStrikeReference (dt : Nat) (s : State) : Host.Outcome State Fault Refusal :=
  run s dt fun s =>
    match s.toStrike with
    | none => s
    | some (e, links) =>
      let ts := e.tp - strikeLead
      if s.time96 < ts ∨ e.struck ≠ [] ∨ links.any (fun k => (s.link k).strikeWait.isSome) then s
      else s.strikeFire e links (s.time96 - ts)

end Sys2Proof.Machine
end

