-- ==== Sys2Proof/Machine/Lantern.lean ====
section
/-! DEFINITION. Lantern (R315 to R350): the period grid, the merge with its stages, the governor, spread-pulse modulation, faults and function groups,
headroom, and tied sinks. -/

namespace Sys2Proof.Machine

/-- Lantern changed. -/
def State.modLantern (s : State) (f : Lantern → Lantern) : State := { s with lantern := f s.lantern }

/-- A sink; one with too few good segments counts as faulted, class 3 (R239). -/
def State.sink (s : State) (c : Nat) : LampSink :=
  let x := nth s.lantern.sinks c LampSink.reset
  if s.reg (.CAL_SINK_TRIM c 3) = 1 then { x with fault := 3 } else x

/-- A sink changed. -/
def State.modSink (s : State) (c : Nat) (f : LampSink → LampSink) : State :=
  s.modLantern fun l => { l with sinks := modNth l.sinks c f }

/-! The period grid -/

/-- The offset of period k from the anchor, k × 335,544.32 ns in 2^-32 ns, whole units (R319). -/
def lampOffset (k : Nat) : Nat := k * 2 ^ 57 / 100

/-- S_k (R319). -/
def State.lampStart (s : State) (k : Nat) : Nat := s.lantern.anchor + lampOffset k

/-- The first period that starts at or after an instant. -/
def State.lampFirst (s : State) (t : Nat) : Nat :=
  if t ≤ s.lantern.anchor then 0 else ((t - s.lantern.anchor) * 100 + 2 ^ 57 - 1) / 2 ^ 57

/-- Clocks of a period: 65,536 PWM ticks of 5.12 ns (R319). -/
def periodClocks : Nat := 262144

/-! Sources -/

/-- The lamp map transfer before gain (R322). -/
def lampCurve (curve v : Nat) : Nat :=
  if curve = 1 then (v * v * 1048576 + 8384512) / 16769025
  else if curve = 2 then (v * v * v * 1048576 + 34334578687) / 68669157375
  else (v * 1048576 + 2047) / 4095

/-- The lamp map transfer (R322). -/
def lampTransfer (curve gain v : Nat) : Nat := lampCurve curve v * (gain + 1) / 65536

/-- D of a signal map value (R321). -/
def signalLevel (v : Nat) : Nat := (v * 1048576 + 32767) / 65535

/-- The function group of a channel, 0 for none (R336). -/
def State.lampGroup (s : State) (c : Nat) : Nat := s.reg (.LAN_CH_FUNC_GROUP c)

/-- The Finial region a channel's group is linked to (R321). -/
def State.lampRegion (s : State) (c : Nat) : Option Nat :=
  let g := s.lampGroup c
  if g = 0 ∨ 64 < g then none
  else
    let r := s.reg (.LAN_GRP_FINIAL (g - 1))
    if r < 16 then some r else none

/-- Cue runs in the order in which they claim a channel: the one started later first, then the higher cue number (R325). -/
def cueBefore (a b : RunningCue) : Bool := Nat.blt b.first a.first || (a.first == b.first && Nat.ble b.cue a.cue)

/-- Whether a run of a cue covers a channel. -/
def State.cueCovers (s : State) (r : RunningCue) (c : Nat) : Bool :=
  let f := s.reg (.LAN_CUE_FIRST r.cue)
  Nat.ble f c && Nat.blt c (f + s.reg (.LAN_CUE_COUNT r.cue))

/-- Whether a run of a cue shows in a period (R325). -/
def RunningCue.runs (r : RunningCue) (p : Nat) : Bool := Nat.ble r.first p && r.endAt.all fun e => Nat.blt p e

/-- The last value a run landed for a channel up to a period: that of the period, or held from an earlier one (R324, R326). -/
def RunningCue.valueAt (r : RunningCue) (p c : Nat) : Option Nat :=
  (r.values.find? fun v => Nat.ble v.1 p && v.2.any fun x => x.1 == c).bind fun v => (v.2.find? fun x => x.1 == c).map (·.2)

/-- The cue value of a channel in a period, none where no running cue covers it: that of the run that claims it, and where that run has landed
none yet, the value of the period before (R325, R326). The fuel bounds the periods looked back. -/
def State.cueValueIn (s : State) (c : Nat) : Nat → Nat → Option Nat
  | 0, _ => some 0
  | n + 1, p =>
    match (sortBy cueBefore (s.lantern.cues.filter fun r => s.cueCovers r c && r.runs p)).head? with
    | none => none
    | some r => match r.valueAt p c with
      | some v => some v
      | none => some (if p = 0 then 0 else (State.cueValueIn s c n (p - 1)).getD 0)

/-- The cue value of a channel in a period. -/
def State.cueValue (s : State) (p c : Nat) : Option Nat := s.cueValueIn c 6 p

/-- Source in force and D of a channel before darkening (R321). -/
def State.lampSource (s : State) (p c : Nat) : Nat × Nat :=
  let bits := s.reg (.LAN_CH_SOURCES c)
  let d := s.decision
  let safe := match s.lampRegion c with
    | some r =>
      if bitOf d.blanked r then some (s.reg (.LAN_CH_SAFE_FAIL c))
      else if bitOf d.asserted r then some (s.reg (.LAN_CH_SAFE_LEVEL c)) else none
    | none => none
  let lamp := if (s.lampMap.any fun w => lampEnabled w && Nat.ble (lampChannel w) c && Nat.blt c (lampChannel w + lampCount w)) then
      (s.lantern.lampVals.find? fun v => v.1 == c).map (·.2) else none
  let signal := (s.lantern.signalVals.find? fun v => v.1 == c).map (·.2)
  match (if bitOf bits 0 then safe else none) with
  | some x => (1, if s.lantern.tableLost then 1048576 else x)
  | none =>
  match (if bitOf bits 1 then lamp else none) with
  | some v => (2, lampTransfer (s.reg (.LAN_CH_CURVE c)) (s.reg (.LAN_CH_GAIN c)) v)
  | none =>
  match (if bitOf bits 2 then signal else none) with
  | some v => (3, signalLevel v)
  | none =>
  match (if bitOf bits 3 then s.cueValue p c else none) with
  | some x => (4, x)
  | none => if bitOf bits 4 then (5, s.reg (.LAN_CH_DIRECT c)) else (0, 0)

/-! Derating -/

/-- f(T) (R327), T in 1/16 °C. -/
def deratingOf (knee cutoff t : Int) : Nat :=
  if t ≤ knee then 65536 else if cutoff ≤ t then 0 else ((cutoff - t) * 65536 / (cutoff - knee)).toNat

/-- The temperature a channel derates on besides the junction: its NTC, or the junction where it names none or the input is invalid (R327,
R329). -/
def State.sourceTemp (s : State) (c : Nat) : Int :=
  let k := s.reg (.LAN_CH_DERATE_SRC c)
  if k < 16 ∧ s.reg (.LAN_NTC_TEMP (k + 1)) ≠ 0x8000 then s.regInt (.LAN_NTC_TEMP (k + 1)) else s.regInt .LAN_JUNCTION

/-- The lesser of a channel's two factors, at temperatures raised by an amount (R327, R328). -/
def State.factorAt (s : State) (c : Nat) (more : Int) : Nat :=
  let f := fun t => deratingOf (s.regInt .LAN_KNEE) (s.regInt .LAN_CUTOFF) (t + more)
  min (f (s.sourceTemp c)) (f (s.regInt .LAN_JUNCTION))

/-- A channel's factor with the latch at 0 (R327). -/
def State.lampFactor (s : State) (c : Nat) : Nat :=
  let low := s.regInt .LAN_CUTOFF - s.reg .LAN_DERATE_HYST
  if (s.sink c).cut ∧ ¬(s.sourceTemp c < low ∧ s.regInt .LAN_JUNCTION < low) then 0 else s.factorAt c 0

/-- Whether a channel is in use: enabled, and the master of its gang (R316). -/
def State.lampMaster (s : State) (c : Nat) : Bool := s.flag (.LAN_CH_ENABLE c) && s.reg (.LAN_CH_GANG c) != 0

/-- Sinks of a channel. -/
def State.lampSinks (s : State) (c : Nat) : List Nat := (List.range (s.reg (.LAN_CH_GANG c))).map fun i => c + i

/-- The fault of a channel: that of any of its sinks (R316). -/
def State.lampFault (s : State) (c : Nat) : Nat :=
  ((s.lampSinks c).map fun k => (s.sink k).fault).find? (fun f => f != 0) |>.getD 0

/-- Channels in use that belong to a group. -/
def State.lampMembers (s : State) (g : Nat) : List Nat :=
  (List.range 512).filter fun c => s.lampMaster c && s.lampGroup c == g

/-- Whether an all-or-none group has a faulted member (R336). -/
def State.groupFaulted (s : State) (g : Nat) : Bool :=
  s.reg (.LAN_GRP_POLICY (g - 1)) == 1 && (s.lampMembers g).any fun c => s.lampFault c != 0

/-- Whether a channel's group is a safety group. -/
def State.lampSafe (s : State) (c : Nat) : Bool := s.lampGroup c != 0 && s.flag (.LAN_GRP_SAFETY (s.lampGroup c - 1))

/-! Function groups -/

/-- A function group changed. -/
def State.modGroup (s : State) (g : Nat) (f : LampGroup → LampGroup) : State :=
  s.modLantern fun l => { l with groups := modNth l.groups (g - 1) f }

/-- A function group, from 1. -/
def State.group (s : State) (g : Nat) : LampGroup := nth s.lantern.groups (g - 1) ⟨none, 0, false⟩

/-- GROUP_STATE: dark by fault, then by floor, then blanked, then asserted (R347; log entry 36). -/
def State.showGroup (s : State) (g : Nat) (floorDark : Bool) : State :=
  let r := s.reg (.LAN_GRP_FINIAL (g - 1))
  let d := s.decision
  s.setReg (.GROUP_STATE (g - 1))
    (if (s.group g).darkSince.isSome then 1 else if floorDark then 2 else if r < 16 ∧ bitOf d.blanked r then 4
     else if r < 16 ∧ bitOf d.asserted r then 3 else 0)

/-- Whether a group goes dark by fault, or is lit again (R336, R337). -/
def State.judgeGroup (s : State) (g : Nat) : State :=
  match s.groupFaulted g, (s.group g).darkSince with
  | true, none =>
    let first := ((s.lampMembers g).find? fun c => s.lampFault c != 0).getD 0
    let safe := s.flag (.LAN_GRP_SAFETY (g - 1))
    let s1 := (s.modGroup g fun x => { x with darkSince := some s.ticks, retryFrom := s.ticks }).count .LANCNT_GROUP_DARK
    (s1.post 0x9003 (if safe then 7 else 6) (g - 1 + first * 64)).showGroup g (s.group g).floorDark
  | false, some _ =>
    ((s.modGroup g fun x => { x with darkSince := none }).post 0x9004 3 (g - 1)).showGroup g (s.group g).floorDark
  | _, _ => s

/-- Every group judged. -/
def State.judgeGroups (s : State) : State := (List.range 64).foldl (fun s g => s.judgeGroup (g + 1)) s

/-! The governor -/

/-- A channel as the merge carries it from stage to stage. -/
structure LampRow where
  channel : Nat
  gang : Nat
  group : Nat
  safe : Bool
  source : Nat
  level : Nat
  factor : Nat
  groupDark : Bool
  derateDark : Bool
  deriving DecidableEq, Repr

/-- The current code in force: at most 511 while the trims are at factory default (R315). -/
def State.lampCode (s : State) (c : Nat) : Nat :=
  let v := s.reg (.LAN_CH_CURRENT c)
  if s.reg .CAL_TRIM_STATE = 2 then min v 511 else v

/-- cur(c) in mA (R315, R330). -/
def State.lampCurrent (s : State) (r : LampRow) : Rat :=
  ((s.lampCode r.channel * 60 * r.gang * r.level : Nat) : Rat) / ((1023 * 2 ^ 20 : Nat) : Rat)

/-- Currents summed over rows. -/
def State.lampSum (s : State) (rows : List LampRow) : Rat := (rows.map s.lampCurrent).sum

/-- P in mW: the mean headroom of each rail group times its current (R330). -/
def State.lampPower (s : State) (rows : List LampRow) : Rat :=
  (rows.map fun r => s.lampCurrent r * (s.reg (.LAN_RAIL_MEAN_MV (r.channel / 32)) : Rat) / 1000).sum

/-- The factor of a safety group: the least of its channels (R328). -/
def groupFactor (rows : List LampRow) (g : Nat) : Nat :=
  minOf 65536 ((rows.filter fun r => r.group == g).map LampRow.factor)

/-- floor_ok (R330). -/
def State.floorOk (s : State) (rows : List LampRow) (g ks : Nat) : Bool :=
  Nat.ble (s.reg (.LAN_GRP_FLOOR (g - 1))) (groupFactor rows g * ks / 65536)

/-- Safety groups that are lit. -/
def litGroups (rows : List LampRow) : List Nat :=
  ((rows.filter fun r => r.safe && r.level != 0).map LampRow.group).eraseDups

/-- The stage of the governor for safety groups (R330), at most one round for each group; with it the groups darkened. -/
def State.governSafety (s : State) (limit : Rat) : Nat → List LampRow → List Nat → List LampRow × List Nat
  | 0, rows, dark => (rows, dark)
  | n + 1, rows, dark =>
    let saf := s.lampSum (rows.filter LampRow.safe)
    if saf ≤ limit then (rows, dark)
    else
      let ks := (65536 * limit / saf).floor.toNat
      let bad := (litGroups rows).filter fun g => !s.floorOk rows g ks
      if bad.isEmpty then (rows.map fun r => if r.safe then { r with level := r.level * ks / 65536 } else r, dark)
      else
        let g := maxOf bad
        s.governSafety limit n (rows.map fun r => if r.group = g then { r with level := 0, derateDark := true } else r) (g :: dark)

/-- The governor (R330): the rows after it, k, the requested current in mA, and the groups it darkened. -/
def State.govern (s : State) (rows : List LampRow) : List LampRow × Nat × Nat × List Nat :=
  let saf := s.lampSum (rows.filter LampRow.safe)
  let oth := s.lampSum (rows.filter fun r => !r.safe)
  let p := s.lampPower rows
  let pLim : Rat := s.reg .LAN_SINK_P_LIMIT
  let total : Rat := s.reg .LAN_TOTAL_LIMIT
  let limit := if pLim < p then min total ((saf + oth) * pLim / p) else total
  if saf + oth ≤ limit then (rows, 65536, (saf + oth).floor.toNat, [])
  else
    let k := if oth = 0 then 0 else (65536 * max 0 (limit - saf) / oth).floor.toNat
    let (rows1, dark) := s.governSafety limit 65 rows []
    (rows1.map fun r => if r.safe then r else { r with level := r.level * k / 65536 }, k, (saf + oth).floor.toNat, dark)

/-! Spread-pulse modulation -/

/-- The low n bits of a number in reverse order. -/
def revBits : Nat → Nat → Nat
  | 0, _ => 0
  | n + 1, v => v % 2 * 2 ^ n + revBits n (v / 2)

/-- N of a channel in period k (R332). -/
def lampOnTicks (level k : Nat) : Nat := (level + revBits 4 (k % 16)) / 16

/-- n(s): the on-ticks of segment s (R333). -/
def segmentTicks (n seg : Nat) : Nat := n / 64 + b2n (Nat.blt (revBits 6 seg) (n % 64))

/-- Whether a channel is on in PWM tick t of a period, by its N and phase (R333): on for n(s) ticks from 1,024 s + φ, wrapping within the
segment. -/
def lampOnAt (n phase t : Nat) : Bool := Nat.blt ((t % 1024 + 1024 - phase) % 1024) (segmentTicks n (t / 1024))

/-- Whether the sinks of a rail group are driven here (R342, R343). -/
def State.railDriven (s : State) (g : Nat) : Bool :=
  s.sys.driveAlive && Nat.ble 2 (s.reg .LAN_STATE) && (!s.flag (.LAN_RAIL_TIED g) || s.lantern.tiedOn)

/-- Whether a sink conducts in PWM tick t of the running period (R333 to R335, R342). -/
def State.sinkOn (s : State) (sink t : Nat) : Bool :=
  s.railDriven (sink / 32) && (s.sink sink).fault != 2 &&
    match s.lantern.running with
    | some p => match p.values.find? fun v => Nat.ble v.channel sink && Nat.blt sink (v.channel + v.gang) with
      | some v => lampOnAt v.onTicks v.phase t
      | none => false
    | none => false

/-! The merge -/

/-- The temperature of a source, 16 the junction (R350). -/
def State.tempOf (s : State) (k : Nat) : Int := if k < 16 then s.regInt (.LAN_NTC_TEMP (k + 1)) else s.regInt .LAN_JUNCTION

/-- Events of sources that pass the knee and the cut-off (R350). -/
def State.derateEvents (s : State) (used : List Nat) : State :=
  let knee := s.regInt .LAN_KNEE
  let cutoff := s.regInt .LAN_CUTOFF
  let hot := used.filter fun k => decide (knee < s.tempOf k)
  let cut := used.filter fun k => decide (cutoff ≤ s.tempOf k)
  let arg := fun (k : Nat) => k + ofSigned 16 (s.tempOf k) * 32
  let s1 := (hot.filter fun k => !s.lantern.derating.contains k).foldl (fun s k => s.post 0x9006 3 (arg k)) s
  let s2 := (cut.filter fun k => !s.lantern.cutOff.contains k).foldl (fun s k => s.post 0x9007 5 (arg k)) s1
  s2.modLantern fun l => { l with derating := hot, cutOff := cut }

/-- The cut-off latches follow the factors; a channel that reaches 0 counts (R327). -/
def State.latchCut (s : State) (c factor : Nat) : State :=
  if factor = 0 then
    if (s.sink c).cut then s else (s.modSink c fun x => { x with cut := true }).count .LANCNT_CUTOFFS
  else s.modSink c fun x => { x with cut := false }

/-- The floor of a safety group judged (R328). -/
def State.judgeFloor (s : State) (rows : List LampRow) (g : Nat) : State :=
  let floor := s.reg (.LAN_GRP_FLOOR (g - 1))
  let f := groupFactor rows g
  if (s.group g).floorDark then
    if (rows.filter fun r => r.group == g).all fun r => Nat.ble floor (s.factorAt r.channel (s.reg .LAN_DERATE_HYST)) then
      (s.modGroup g fun x => { x with floorDark := false }).post 0x9004 3 (g - 1)
    else s
  else if f < floor then
    ((s.modGroup g fun x => { x with floorDark := true }).count .LANCNT_FLOOR_DARK).post 0x9005 7 (g - 1 + f * 128)
  else s

/-- Lamp map values due at a period start are taken; those of channels the map no longer names go (R32, R271, R321). -/
def State.takeLampValues (s : State) (p : Nat) : State :=
  let named := (s.lampMap.filter lampEnabled).map fun w => (List.range (lampCount w)).map fun i => lampChannel w + i
  let keep := fun (l : List (Nat × Nat)) => l.filter fun v => named.flatten.contains v.1
  match s.scan.lampNext with
  | some (tp, vs) =>
    if tp ≤ s.lampStart p then
      (((s.modScan fun n => { n with lampNext := none }).modLantern fun l => { l with
        lampVals := keep (vs ++ l.lampVals.filter fun v => !vs.any fun x => x.1 == v.1) }).count .LANCNT_LAMP_MAP_UPDATES)
    else s.modLantern fun l => { l with lampVals := keep l.lampVals }
  | none => s.modLantern fun l => { l with lampVals := keep l.lampVals }

/-- Stages 1 and 2 of a channel, with its factor (R320). -/
def State.lampRow (s : State) (p c : Nat) : LampRow :=
  let (source, level) := s.lampSource p c
  let dark := s.lampGroup c != 0 && ((s.group (s.lampGroup c)).darkSince.isSome)
  { channel := c, gang := s.reg (.LAN_CH_GANG c), group := s.lampGroup c, safe := s.lampSafe c, source := source
    level := if dark || s.lampFault c != 0 then 0 else level
    factor := s.lampFactor c, groupDark := dark, derateDark := false }

/-- Stage 3 (R327, R328): a safety group by its factor and floor, other channels by their own. -/
def State.derateRow (s : State) (rows : List LampRow) (r : LampRow) : LampRow :=
  if r.safe then
    if (s.group r.group).floorDark then { r with level := 0, derateDark := true }
    else { r with level := r.level * groupFactor rows r.group / 65536 }
  else { r with level := r.level * r.factor / 65536, derateDark := r.factor == 0 }

/-- The merge of period p (R320): stages 1 to 7. -/
def State.merge (s : State) (p : Nat) : State :=
  let s0 := (s.takeLampValues p).judgeGroups
  let rows := ((List.range 512).filter fun c => s0.lampMaster c).map fun c => s0.lampRow p c
  let used := (rows.filterMap fun r =>
    let k := s0.reg (.LAN_CH_DERATE_SRC r.channel)
    if k < 16 ∧ s0.reg (.LAN_NTC_TEMP (k + 1)) ≠ 0x8000 then some k else none).eraseDups ++ (if rows.isEmpty then [] else [16])
  let s1 := rows.foldl (fun s r => s.latchCut r.channel r.factor) (s0.derateEvents used)
  let safeGroups := ((rows.filter LampRow.safe).map LampRow.group).eraseDups
  let s1 := s1.modLantern fun l => { l with
    groups := l.groups.zipIdx.map fun (x, i) =>
      if safeGroups.contains (i + 1) then x else { x with floorDark := false } }
  let s2 := safeGroups.foldl (fun s g => s.judgeFloor rows g) s1
  let rows3 := rows.map fun r => s2.derateRow rows r
  let (rows4, k, requested, dark) := s2.govern rows3
  let s3 := dark.foldl (fun s g => (s.count .LANCNT_FLOOR_DARK).post 0x9005 7 (g - 1 + 64 + groupFactor rows g * 128)) s2
  let s4 := (List.range 64).foldl (fun s g => s.showGroup (g + 1) ((s.group (g + 1)).floorDark || dark.contains (g + 1))) s3
  let value := fun (r : LampRow) => ({
    channel := r.channel, gang := r.gang, source := r.source, level := r.level, onTicks := lampOnTicks r.level p
    phase := s4.reg (.LAN_CH_PHASE r.channel), groupDark := r.groupDark, derateDark := r.derateDark
    tied := s4.flag (.LAN_RAIL_TIED (r.channel / 32)) && !s4.lantern.tiedOn } : LampValue)
  s4.modLantern fun l => { l with
    nextMerge := p + 1
    merged := some {
      period := p, values := rows4.map value, govK := k, requested := requested, governed := k != 65536 || !dark.isEmpty
      totalMa := (s4.lampSum rows4).floor.toNat, sinkMw := (s4.lampPower rows4).floor.toNat
      derated := rows.any fun r => Nat.blt r.factor 65536 } }

/-- MERGE_INSTANT: S_k − 8 µs (R320). -/
def execMergeInstant (dt : Nat) (s : State) : Host.Outcome State Fault Refusal :=
  run s dt fun s =>
    if s.lantern.gridOn ∧ s.lantern.merged = none ∧ s.lampStart s.lantern.nextMerge ≤ s.time96 + nsUnits 8000 then
      (s.merge s.lantern.nextMerge).refreshClaim
    else s

/-! The period start and faults -/

/-- What the tested pulses of a sink showed in the period that ends: the sink, whether it was in regulation at some tested pulse, and the least and
greatest V_SNK in mV (R334). -/
structure SinkTest where
  sink : Nat
  regulated : Bool
  least : Nat
  greatest : Nat

/-- A test as an operand: sink, regulated, least, greatest. -/
def sinkTest (t : Nat × Bool × Nat × Nat) : SinkTest := ⟨t.1, t.2.1, t.2.2.1, t.2.2.2⟩

/-- Whether a sink was tested in the running period: its channel's N is at least 1,217, it is driven and not faulted (R334). -/
def State.sinkTested (s : State) (sink : Nat) : Bool :=
  s.railDriven (sink / 32) && (s.sink sink).fault == 0 &&
    match s.lantern.running with
    | some p => p.values.any fun v => Nat.ble v.channel sink && Nat.blt sink (v.channel + v.gang) && Nat.ble 1217 v.onTicks
    | none => false

/-- The channel a sink belongs to in the running period. -/
def State.sinkChannel (s : State) (sink : Nat) : Nat :=
  match s.lantern.running with
  | some p => ((p.values.find? fun v => Nat.ble v.channel sink && Nat.blt sink (v.channel + v.gang)).map LampValue.channel).getD sink
  | none => sink

/-- A fault declared on a sink: class 1 open, 2 short (R335). -/
def State.declareFault (s : State) (sink cls : Nat) : State :=
  s.modSink sink fun x => { x with fault := cls, declaredAt := some s.ticks, openRun := 0, shortRun := 0, headRun := 0 }

/-- The conditions of one sink judged at the end of a tested period (R334, R335). -/
def State.judgeSink (s : State) (tests : List SinkTest) (t : SinkTest) : State :=
  let g := t.sink / 32
  let inGroup := tests.filter fun x => x.sink / 32 == g
  let opened := !t.regulated && Nat.blt t.greatest (s.reg .LAN_OPEN_MV) && inGroup.any fun x => x.sink != t.sink && x.regulated
  let shorted := Nat.blt (s.reg .LAN_SHORT_MV) t.least
  let noHead := inGroup.all (fun x => !x.regulated) && s.reg (.LAN_RAIL_CODE g) == s.reg (.LAN_RAIL_CODE_MAX g)
  let s1 := s.modSink t.sink fun x => { x with
    openRun := if opened then x.openRun + 1 else 0, shortRun := if shorted then x.shortRun + 1 else 0
    headRun := if noHead then x.headRun + 1 else 0 }
  let n := s.reg .LAN_FAULT_PERIODS
  let x := s1.sink t.sink
  if n ≤ x.shortRun then
    ((s1.declareFault t.sink 2).count .LANCNT_SHORT_FAULTS).post 0x9002 5 (s1.sinkChannel t.sink + t.least * 512)
  else if n ≤ x.openRun then
    ((s1.declareFault t.sink 1).count .LANCNT_OPEN_FAULTS).post 0x9001 4 (s1.sinkChannel t.sink)
  else s1

/-- A rail group without headroom: every tested sink of it is declared open (R335). -/
def State.judgeRail (s : State) (tests : List SinkTest) (g : Nat) : State :=
  let mine := tests.filter fun t => t.sink / 32 == g && (s.sink t.sink).fault == 0
  if mine ≠ [] ∧ mine.all (fun t => Nat.ble (s.reg .LAN_FAULT_PERIODS) (s.sink t.sink).headRun) then
    (mine.foldl (fun s t => (s.declareFault t.sink 1).count .LANCNT_OPEN_FAULTS) s).post 0x900C 5 g
  else s

/-- The faults of the period that ends (R334 to R336). -/
def State.judgePeriod (s : State) (tests : List SinkTest) : State :=
  let seen := tests.filter fun t => s.sinkTested t.sink
  let s1 := seen.foldl (fun s t => s.judgeSink seen t) s
  ((List.range 16).foldl (fun s g => s.judgeRail seen g) s1).judgeGroups

/-- LAN_CH_STATUS of a channel in a period (R346). -/
def State.lampStatus (s : State) (v : LampValue) : Nat :=
  v.source + s.lampFault v.channel * 8 + b2n (s.sink v.channel).untested * 32 + b2n v.groupDark * 64 + b2n v.derateDark * 128 +
    b2n v.tied * 256

/-- LAN_CH_STATUS and LAN_CH_LEVEL of every channel (R346). -/
def State.showLamps (s : State) : State :=
  match s.lantern.running with
  | none => s
  | some p =>
    (List.range 512).foldl (fun s c =>
      match p.values.find? fun v => v.channel == c with
      | some v => (s.setReg (.LAN_CH_STATUS c) (s.lampStatus v)).setReg (.LAN_CH_LEVEL c) v.level
      | none => (s.setReg (.LAN_CH_STATUS c) ((s.sink c).fault * 8)).setReg (.LAN_CH_LEVEL c) 0) s

/-- The periods since which a channel goes untested (R334). -/
def State.trackTests (s : State) (p : LampPeriod) : State :=
  p.values.foldl (fun s v => s.modSink v.channel fun x =>
    if 1217 ≤ v.onTicks then { x with belowSince := none, untested := false }
    else { x with belowSince := some (x.belowSince.getD s.ticks) }) s

/-- The governor's run and its events at a period start (R331). -/
def State.governorRun (s : State) (p : LampPeriod) : State :=
  if p.governed then
    let s1 := (s.count .LANCNT_GOV_PERIODS).modLantern fun l => { l with govRun := l.govRun + 1 }
    if s.lantern.govRun = 0 then s1.post 0x9008 3 (p.govK + p.requested * 2 ^ 17) else s1
  else if s.lantern.govRun ≠ 0 then
    (s.modLantern fun l => { l with govRun := 0 }).post 0x9009 2 (clampNat (2 ^ 32 - 1) s.lantern.govRun)
  else s

/-- A period starts with its merged values, at the first PWM tick edge after comparator 2 fires; PWM ticks are 4 clocks (R319, R320). -/
def State.startPeriod (s : State) (p : LampPeriod) : State :=
  let s1 := (s.ownFire 2).modLantern fun l => { l with
    running := some p, merged := none, startTick := (s.ticks / 4 + 1) * 4, converted := false }
  let s2 := s1.count .LANCNT_PERIODS
  let s3 := if p.derated then s2.count .LANCNT_DERATE_PERIODS else s2
  let s4 := ((s3.setReg .LAN_TOTAL_MA p.totalMa).setReg .LAN_SINK_MW p.sinkMw).setReg .LAN_GOV_K p.govK
  ((s4.governorRun p).trackTests p).showLamps

/-- The fault marks of a rail group's sinks and the states of their function groups, as a push carries them (R452; log entry 41). -/
def State.tiedMarks (s : State) (g : Nat) : List Octet :=
  let sinks := (List.range 32).map fun i => 32 * g + i
  (sinks.map fun c => BitVec.ofNat 8 (s.sink c).fault) ++
    sinks.map fun c => BitVec.ofNat 8 (if s.lampGroup c = 0 then 0 else s.reg (.GROUP_STATE (s.lampGroup c - 1)))

/-- The driving unit of tied rail groups pushes their faults within a period of a change (R452). -/
def State.pushTied (s : State) : State :=
  if s.lantern.tiedOn = false then s
  else
    ((List.range 16).filter fun g => s.flag (.LAN_RAIL_TIED g)).foldl (fun s g =>
      let marks := s.tiedMarks g
      if s.twin.tiedSent.contains (g, marks) then s
      else (s.modTwin fun t => { t with tiedSent := (g, marks) :: t.tiedSent.filter fun p => p.1 != g }).push 2 g marks) s

/-- The first lamp output: event 0xF002 at the first period start after LAN_STATE 2 (R540, R541). -/
def State.lampStarted (s : State) : State :=
  if s.sys.lampSeen = false ∧ 2 ≤ s.reg .LAN_STATE then
    (({ s with sys := { s.sys with lampSeen := true } }).post 0xF002 2 (s.startMs % 2 ^ 32)).startUpDone 1
  else s

/-- PERIOD_START: comparator 2 fires at S_k (R319); tests are those of the period that ends (R335). After a step, starts before the end of the
running period are passed over (R344). -/
def execPeriodStart (dt : Nat) (tests : List (Nat × Bool × Nat × Nat)) (s : State) : Host.Outcome State Fault Refusal :=
  run s dt fun s =>
    match s.lantern.merged with
    | none => s
    | some p =>
      if s.time96 < s.lampStart p.period ∨ s.ticks < s.lantern.heldUntil then s
      else (((s.judgePeriod (tests.map sinkTest)).startPeriod p).pushTied).lampStarted

/-- CHANNEL_UNTESTED: N below 1,217 for 60 s (R334). -/
def execChannelUntested (dt channel : Nat) (s : State) : Host.Outcome State Fault Refusal :=
  run s dt fun s =>
    match (s.sink channel).belowSince with
    | some t =>
      if t + 60 * 781250000 ≤ s.ticks ∧ s.lampMaster channel then
        (s.modSink channel fun x => { x with untested := true }).setBit (.LAN_CH_STATUS channel) 5 true
      else s
    | none => s

/-! Conversions -/

/-- The HRFB code of a rail group after a conversion (R340). -/
def hrfbNext (code codeMax target band least : Nat) : Nat :=
  if least + 100 < target then min (code + 4) (max code codeMax)
  else if least < target then min (code + 1) (max code codeMax)
  else if least ≤ target + band then code
  else code - 1

/-- One rail group at a conversion: what its tracker holds, none for no tested pulse in regulation (R339, R340). -/
def State.convertRail (s : State) (g : Nat) (r : Option (Nat × Nat)) : State :=
  let least := (r.map (·.1)).getD 0
  let s1 := s.setReg (.LAN_RAIL_MIN_MV g) least
  let s2 := match r with
    | some x => s1.setReg (.LAN_RAIL_MEAN_MV g) x.2
    | none => s1
  let enabled := (List.range 32).any fun i => s.flag (.LAN_CH_ENABLE (32 * g + i))
  if s.railDriven g = false ∨ enabled = false then s2
  else
    let code := s.reg (.LAN_RAIL_CODE g)
    let top := s.reg (.LAN_RAIL_CODE_MAX g)
    let target := s.reg .LAN_HR_TARGET_MV
    let s3 := s2.setReg (.LAN_RAIL_CODE g) (hrfbNext code top target (s.reg .LAN_HR_BAND_MV) least)
    let n := if code = top ∧ least < target then nth s.lantern.railRun g 0 + 1 else 0
    let s4 := s3.modLantern fun l => { l with railRun := setNth l.railRun g n }
    if n = 64 then s4.post 0x900B 4 (g + least * 16) else s4

/-- The driving unit of a tied rail group pushes its HRFB code at each conversion (R452). -/
def State.pushCode (s : State) (g : Nat) : State :=
  if s.lantern.tiedOn ∧ s.flag (.LAN_RAIL_TIED g) then s.push 3 g (leOctets 1 (s.reg (.LAN_RAIL_CODE g))) else s

/-- One NTC input at a conversion, by its microvolts (R329, R339, R574). -/
def State.convertNtc (s : State) (k uv : Nat) : State :=
  let t := Config.ntcTemp uv (s.reg (.LAN_NTC_BETA (k + 1))) (s.reg (.LAN_NTC_R25 (k + 1)))
  if t < -880 ∨ 3200 < t then
    let s1 := (s.setReg (.LAN_NTC_TEMP (k + 1)) 0x8000).modLantern fun l => { l with
      ntcInvalid := k :: l.ntcInvalid.filter (· != k) }
    if s.lantern.ntcInvalid.contains k then s1 else s1.post 0x900A 4 k
  else (s.setInt (.LAN_NTC_TEMP (k + 1)) t).modLantern fun l => { l with ntcInvalid := l.ntcInvalid.filter (· != k) }

/-- ADC_CONVERSION: comparator 3 fires at S_k + LAN_ADC_OFFSET (R319, R339). -/
def execAdcConversion (dt : Nat) (rails : List (Option (Nat × Nat))) (ntc : List Nat) (junction vin : Nat) (s : State) :
    Host.Outcome State Fault Refusal :=
  run s dt fun s =>
    match s.lantern.running with
    | none => s
    | some p =>
      if s.lantern.converted ∨ s.time96 < s.lampStart p.period + nsUnits (s.reg .LAN_ADC_OFFSET) then s
      else
        let s1 := (s.ownFire 3).modLantern fun l => { l with converted := true }
        let s2 := (List.range 16).foldl (fun s g => (s.convertRail g (nth rails g none)).pushCode g) s1
        let s3 := (List.range 16).foldl (fun s k => s.convertNtc k (nth ntc k 0)) s2
        (s3.setReg .LAN_JUNCTION junction).setReg .LAN_VIN_MV vin

/-! Enables and clears -/

/-- The marks of a sink cleared, but for a declaration of the same clock and for disabled segments (R239, R335, R337). -/
def State.clearSink (s : State) (c : Nat) : State :=
  s.modSink c fun x =>
    if x.declaredAt = some s.ticks then x
    else { x with fault := 0, openRun := 0, shortRun := 0, headRun := 0, declaredAt := none }

/-- Why an enable of a gang's master is refused (R316). -/
def State.gangRefused (s : State) (c : Nat) : Bool :=
  let n := s.reg (.LAN_CH_GANG c)
  decide (n ≠ 0 ∧ c / 32 ≠ (c + n - 1) / 32) ||
    (List.range (n - 1)).any fun i => s.reg (.LAN_CH_GANG (c + 1 + i)) != 0 || s.flag (.LAN_CH_ENABLE (c + 1 + i))

/-- A write of LAN_CH_ENABLE (R316, R337). -/
def State.lampEnableWrite (s : State) (c value : Nat) : State :=
  if 512 ≤ c then s.reply 2
  else if 1 < value then s.reply 8
  else if value = 0 then (s.setReg (.LAN_CH_ENABLE c) 0).reply 0
  else if s.gangRefused c then (s.post 0x900F 4 c).reply 8
  else
    let s1 := s.setReg (.LAN_CH_ENABLE c) 1
    (if s.flag (.LAN_CH_ENABLE c) = false ∧ s.lampGroup c = 0 then (s1.lampSinks c).foldl State.clearSink s1 else s1).reply 0

/-- CHANNEL_ENABLE. -/
def execChannelEnable (dt who channel value : Nat) (s : State) : Host.Outcome State Fault Refusal :=
  run s dt fun s => s.asWriter who (.LAN_CH_ENABLE channel) fun s => s.lampEnableWrite channel value

/-- The fault marks of every channel of a group cleared (R337). -/
def State.clearGroup (s : State) (g : Nat) : State :=
  let members := (List.range 512).filter fun c => s.lampGroup c == g
  (members.foldl (fun s c => (s.lampSinks c).foldl State.clearSink s) s).judgeGroup g

/-- A write of LAN_GRP_CLEAR; groups are numbered from 1 (R337). -/
def State.groupClearWrite (s : State) (g value : Nat) : State :=
  if g = 0 ∨ 64 < g then s.reply 2 else if value ≠ 1 then s.reply 8 else (s.clearGroup g).reply 0

/-- GROUP_CLEAR. -/
def execGroupClear (dt who group value : Nat) (s : State) : Host.Outcome State Fault Refusal :=
  run s dt fun s => s.asWriter who (.LAN_GRP_CLEAR (group - 1)) fun s => s.groupClearWrite group value

/-- GROUP_RETRY: every LAN_GRP_RETRY_S seconds while the group is dark by fault (R337). -/
def execGroupRetry (dt group : Nat) (s : State) : Host.Outcome State Fault Refusal :=
  run s dt fun s =>
    let wait := s.reg (.LAN_GRP_RETRY_S (group - 1))
    if group ≠ 0 ∧ wait ≠ 0 ∧ (s.group group).darkSince.isSome ∧ (s.group group).retryFrom + wait * 781250000 ≤ s.ticks then
      (s.modGroup group fun x => { x with retryFrom := s.ticks }).clearGroup group
    else s

/-! The safety table -/

/-- The safety levels reloaded (R338): what the stored profile holds for them, else their default. -/
def State.reloadSafety (s : State) : State :=
  let p := s.storedProfile (s.reg .DIC_PROFILE_ACTIVE)
  (List.range 512).foldl (fun s c =>
    if (s.lampRegion c).isSome then
      let get := fun (r : Reg) => (p.bind fun p => imageGet p r).getD 0
      (s.setReg (.LAN_CH_SAFE_LEVEL c) (get (.LAN_CH_SAFE_LEVEL c))).setReg (.LAN_CH_SAFE_FAIL c) (get (.LAN_CH_SAFE_FAIL c))
    else s) s

/-- The copies of the safety table judged: which fail their CRC-64, and whether a reload verifies (R338). -/
def State.safetyCopies (s : State) (copy1Fails copy2Fails reloadOk : Bool) : State :=
  let s1 := if copy1Fails then s.count .LANCNT_SAFETY_TABLE_FAIL else s
  let s2 := if copy2Fails then s1.count .LANCNT_SAFETY_TABLE_FAIL else s1
  if copy1Fails && copy2Fails then
    let s3 := s2.post 0x9011 7 (b2n reloadOk)
    if reloadOk then s3.reloadSafety.modLantern fun l => { l with tableLost := false }
    else s3.modLantern fun l => { l with tableLost := true }
  else s2.modLantern fun l => { l with tableLost := false }

/-- SAFETY_TABLE_CHECK (R338). -/
def execSafetyTableCheck (dt : Nat) (copy1Fails copy2Fails reloadOk : Bool) (s : State) : Host.Outcome State Fault Refusal :=
  run s dt fun s => s.safetyCopies copy1Fails copy2Fails reloadOk

/-! Tied sinks -/

/-- Rail groups that are tied. -/
def State.tiedGroups (s : State) : List Nat := (List.range 16).filter fun g => s.flag (.LAN_RAIL_TIED g)

/-- The unit loses the higher claim: its tied groups are high-impedance (R342). -/
def State.tiedRelease (s : State) : State :=
  if s.lantern.tiedOn then
    (s.modLantern fun l => { l with tiedOn := false, tiedAt := none }).count .LANCNT_TWIN_SWITCHES s.tiedGroups.length
  else s.modLantern fun l => { l with tiedAt := none }

/-- The tick of the first segment boundary at least 2 µs after now (R342): segments are 4,096 clocks of the running period. -/
def State.tiedDue (s : State) : Nat :=
  let t := s.ticks + nsTicks 2000
  let from_ := s.lantern.startTick
  if t ≤ from_ then from_ else from_ + ((t - from_ + 4095) / 4096) * 4096

/-- The unit gains the higher claim (R342). -/
def State.tiedGain (s : State) : State :=
  if s.lantern.tiedOn then s else s.modLantern fun l => { l with tiedAt := some s.tiedDue }

/-- TIED_GROUP_ENABLE (R342). -/
def execTiedGroupEnable (dt : Nat) (s : State) : Host.Outcome State Fault Refusal :=
  run s dt fun s =>
    match s.lantern.tiedAt with
    | some t =>
      if t ≤ s.ticks then
        (s.modLantern fun l => { l with tiedOn := true, tiedAt := none }).count .LANCNT_TWIN_SWITCHES s.tiedGroups.length
      else s
    | none => s

/-! Steps of venue time -/

/-- Lantern at a step of venue time (R168, R344): the running period runs to its end in ticks, starts before that are passed over, and k counts on
the new grid, whose anchor is LAN_PERIOD_ANCHOR. The cue numbering follows; ticks skipped by a forward step are left to the next tick. -/
def State.lampStep (s : State) (old : Nat) : State :=
  if s.lantern.gridOn = false then s
  else
    let stop := s.lantern.startTick + periodClocks
    let held := if s.lantern.running.isSome ∧ s.ticks < stop then stop else s.ticks
    let s1 := s.modLantern fun l => { l with anchor := nsUnits (s.reg .LAN_PERIOD_ANCHOR), heldUntil := held, merged := none }
    let next := s1.lampFirst (s1.time96 + (held - s.ticks) * 128 * 2 ^ 32 / 100)
    let tick := s1.lampFirst s1.time96
    let was := s1.lampFirst old
    let skipped := if old < s1.time96 then tick - was else 0
    let shift : Int := (tick : Int) - (s.lantern.nextTick : Int) - (skipped : Int)
    let move := fun (p : Nat) => ((p : Int) + shift).toNat
    let s2 := s1.modLantern fun l => { l with
      nextMerge := next, nextTick := tick, heldPeriod := none
      cues := l.cues.map fun r => { r with
        first := move r.first, endAt := r.endAt.map move, values := r.values.map fun v => (move v.1, v.2) } }
    let s3 := s2.modBelfry fun b => { b with
      skippedTicks := b.skippedTicks + skipped
      slots := b.slots.map fun o => if o.code = 7 then { o with epoch := move o.epoch } else o }
    s3.post 0x9012 3 (next % 2 ^ 32)

end Sys2Proof.Machine
end

