-- ==== Sys2Proof/Machine/Cues.lean ====
section
/-! DEFINITION. Cues (R323 to R326) and the delay lists of Belfry (R166 to R169). -/

namespace Sys2Proof.Machine

/-! Delay lists -/

/-- An entry inserted with a delay of d ticks (R167). -/
def insertDelay (id d : Nat) : List DelayEntry → List DelayEntry
  | [] => [⟨d, id⟩]
  | e :: es => if d < e.delta then ⟨d, id⟩ :: ⟨e.delta - d, e.cue⟩ :: es else e :: insertDelay id (d - e.delta) es

/-- A number of ticks applied to a list (R167, R168): what is released, and the list after. Entries whose delay runs out leave in order. -/
def tickList : Nat → List DelayEntry → List Nat × List DelayEntry
  | _, [] => ([], [])
  | n, e :: es =>
    if n < e.delta then ([], ⟨e.delta - n, e.cue⟩ :: es)
    else
      let r := tickList (n - e.delta) es
      (e.cue :: r.1, r.2)

/-- An entry without its place in a list: the delta of the one behind it grows (R174). -/
def removeDelay (id : Nat) : List DelayEntry → List DelayEntry
  | [] => []
  | e :: es =>
    if e.cue = id then
      match es with
      | [] => []
      | x :: xs => ⟨x.delta + e.delta, x.cue⟩ :: xs
    else e :: removeDelay id es

/-- BEL_DELAY_DEPTH follows the lists (R183). -/
def State.showDelays (s : State) : State :=
  (List.range 4).foldl (fun s k => s.setReg (.BEL_DELAY_DEPTH (k + 1)) (nth s.belfry.delays k []).length) s

/-- A record about an entry of a delay list (R177). -/
def delayRecord (decision list arg : Nat) : TraceRecord :=
  { plainRecord decision 0 0 0 list 0 with lamp := true, op := 7, arg := arg % 2 ^ 19 }

/-- An entry put on its list, at least one tick ahead (R167). -/
def State.putDelay (s : State) (list id d : Nat) : State :=
  let d := max 1 d
  let s1 := s.modBelfry fun b => { b with delays := modNth b.delays list (insertDelay id d) }
  s1.trace (delayRecord 8 list d)

/-! Runs of cues -/

/-- A run of a cue changed. -/
def State.modCue (s : State) (id : Nat) (f : RunningCue → RunningCue) : State :=
  s.modLantern fun l => { l with cues := l.cues.map fun r => if r.id = id then f r else r }

/-- Why a cue is refused: 1 range, 2 parameters, 3 list full (R323, R348, R350). -/
def State.cueRefusal (s : State) (c : Nat) : Option Nat :=
  let count := s.reg (.LAN_CUE_COUNT c)
  if 255 < c ∨ 511 < s.reg (.LAN_CUE_FIRST c) + count - 1 then some 1
  else if 3 < s.reg (.LAN_CUE_GROUP c) ∨ count = 0 ∨ 512 < count ∨ 2 < s.reg (.LAN_CUE_WAVE c) ∨
      1048576 < s.reg (.LAN_CUE_LEVEL_A c) ∨ 1048576 < s.reg (.LAN_CUE_LEVEL_B c) ∨ 16777215 < s.reg (.LAN_CUE_FADE c) ∨
      s.reg (.LAN_CUE_CYCLE c) < 2 ∨ 16777215 < s.reg (.LAN_CUE_CYCLE c) then some 2
  else if 1024 ≤ (nth s.belfry.delays (s.reg (.LAN_CUE_GROUP c)) []).length then some 3
  else none

/-- The rail groups a cue covers. -/
def State.cueRails (s : State) (c : Nat) : List Nat :=
  let f := s.reg (.LAN_CUE_FIRST c)
  let e := f + s.reg (.LAN_CUE_COUNT c)
  (List.range 16).filter fun g => decide (f < 32 * g + 32 ∧ 32 * g < e)

/-- The end of a run by its parameters (R325); none for one that runs until it is stopped. -/
def State.cueEnd (s : State) (r : RunningCue) : Option Nat :=
  let hold := s.reg (.LAN_CUE_HOLD r.cue)
  if hold = 0 then none
  else some (r.first + hold + (if s.reg (.LAN_CUE_WAVE r.cue) = 0 then s.reg (.LAN_CUE_FADE r.cue) else 0))

/-- A run starts with a first period. An earlier run of the same cue ends there (log entry 37). -/
def State.startCue (s : State) (c first : Nat) : State :=
  s.modLantern fun l => { l with
    nextCue := l.nextCue + 1
    cues := (l.cues.map fun r => if r.cue = c && r.endAt.isNone then { r with endAt := some first, replaced := true } else r) ++
      [{ id := l.nextCue * 256 + c, cue := c, first := first, endAt := none, replaced := false, before := [], values := [] }] }

/-- The CUE operations of a run for a period, one for each rail group, ready at priority 7 (R153, R163, R324). Operations: code 7, brick the run,
aux the rail group, epoch the period. -/
def State.issueCue (s : State) (r : RunningCue) (p : Nat) : State :=
  (s.cueRails r.cue).foldl (fun s g =>
    let o : BelOp := { slot := freeSlot 0 s.belfry.slots, code := 7, epoch := p, brick := r.id, aux := g, engine := none, unmet := 0
                       deadline := s.lampStart p - nsUnits 10000, clocks := 64, stage := .waiting }
    (s.modBelfry fun b => { b with slots := insertSlot o b.slots }).makeReady o) s

/-- A released entry of a run for period p (R324, R325): it ends, with LAN_CUE_NEXT starting there, or it issues its operations and is put back. The
fuel bounds how many cues of length 0 may follow one another. -/
def State.releaseCue : Nat → State → Nat → Nat → State
  | 0, s, _, _ => s
  | n + 1, s, id, p =>
    match s.lantern.cues.find? fun r => r.id == id with
    | none => s
    | some r =>
      let fade := s.reg (.LAN_CUE_FADE r.cue)
      let wave := s.reg (.LAN_CUE_WAVE r.cue)
      let hold := s.reg (.LAN_CUE_HOLD r.cue)
      if r.endAt.any fun e => Nat.ble e p then s
      else if (s.cueEnd r).any fun e => Nat.ble e p then
        let s1 := s.modCue id fun r => { r with endAt := some p }
        let next := s.reg (.LAN_CUE_NEXT r.cue)
        if next = 0xFFFF then s1
        else match s1.cueRefusal next with
          | some reason => s1.post 0x900D 4 (next % 256 + reason * 256)
          | none =>
            let newId := s1.lantern.nextCue * 256 + next
            State.releaseCue n (s1.startCue next p) newId p
      else
        let s1 := s.issueCue r p
        let list := s.reg (.LAN_CUE_GROUP r.cue)
        if wave ≠ 0 ∨ p - r.first < fade then s1.putDelay list id 1
        else if hold = 0 then s1
        else s1.putDelay list id (r.first + fade + hold - p)

/-- LAMP_TICK: comparator 4 fires at a period start; every list takes the tick, with ticks a step has skipped (R166 to R168). -/
def execLampTick (dt : Nat) (s : State) : Host.Outcome State Fault Refusal :=
  run s dt fun s =>
    if s.lantern.gridOn = false ∨ s.time96 < s.lampStart s.lantern.nextTick then s
    else
      let n := s.lantern.nextTick
      let ticks := s.belfry.skippedTicks + 1
      let s1 := ((s.ownFire 4).modLantern fun l => { l with
        nextTick := n + 1, cues := l.cues.filter fun r => r.endAt.all fun e => Nat.blt n (e + 3) }).modBelfry fun b => { b with
          skippedTicks := 0 }
      ((List.range 4).foldl (fun s k =>
        let r := tickList ticks (nth s.belfry.delays k [])
        let s2 := s.modBelfry fun b => { b with delays := setNth b.delays k r.2 }
        r.1.foldl (fun s id => (s.trace (delayRecord 9 k 0)).releaseCue 256 id (n + 2)) s2) s1).showDelays.showQueues

/-! What a CUE operation computes -/

/-- π in units of 2^-128. -/
def piFix : Nat := 1069028584064966747859680373161870783300

/-- The cosine of an angle between 0 and π, both in units of 2^-128: its power series to 40 terms. -/
def cosFix (t : Int) : Int :=
  let t2 := t * t / 2 ^ 128
  ((List.range 40).foldl (fun (acc : Int × Int) n =>
    let term := -(acc.1 * t2 / 2 ^ 128) / ((2 * n + 1) * (2 * n + 2) : Nat)
    (term, acc.2 + term)) ((2 ^ 128 : Int), (2 ^ 128 : Int))).2

/-- w of R324: 32,768 × (1 − cos(2π x / CYCLE)), rounded half up. -/
def cueSine (x cycle : Nat) : Nat :=
  let y := min x (cycle - x)
  let c := cosFix ((2 * piFix * y / cycle : Nat) : Int)
  ((65536 * ((2 ^ 128 : Int) - c) + 2 ^ 128) / 2 ^ 129).toNat

/-- D of a cue for its i-th channel at u periods from its first, from L0 (R324). -/
def State.cueLevel (s : State) (c i u l0 : Nat) : Nat :=
  let a := s.reg (.LAN_CUE_LEVEL_A c)
  let b := s.reg (.LAN_CUE_LEVEL_B c)
  let cycle := max 1 (s.reg (.LAN_CUE_CYCLE c))
  let x := (u + i * s.reg (.LAN_CUE_SPREAD c)) % cycle
  let wave := s.reg (.LAN_CUE_WAVE c)
  if wave = 0 then
    let fade := s.reg (.LAN_CUE_FADE c)
    if fade ≤ u then a else ((l0 : Int) + Int.tdiv (((a : Int) - l0) * u) fade).toNat
  else if wave = 1 then ((a : Int) + ((b : Int) - a) * cueSine x cycle / 65536).toNat
  else if x < cycle / 2 then a else b

/-- A CUE operation lands the values of its period for the channels of its rail group (R324). -/
def State.landCue (s : State) (o : BelOp) : State :=
  match s.lantern.cues.find? fun r => r.id == o.brick with
  | none => s
  | some r =>
    let f := s.reg (.LAN_CUE_FIRST r.cue)
    let chans := (List.range 32).filterMap fun i => let c := 32 * o.aux + i; if s.cueCovers r c then some c else none
    let l0 := fun (c : Nat) => match r.before.find? fun x => x.1 == c with
      | some x => x.2
      | none => if r.first = 0 then 0 else (s.cueValue (r.first - 1) c).getD 0
    let values := chans.map fun c => (c, s.cueLevel r.cue (c - f) (o.epoch - r.first) (l0 c))
    s.modCue o.brick fun r => { r with
      before := if r.before.any (fun x => chans.contains x.1) then r.before else r.before ++ chans.map fun c => (c, l0 c)
      values := (r.values.map fun v => if v.1 = o.epoch then (v.1, v.2 ++ values) else v) |> fun l =>
        (if l.any fun v => v.1 == o.epoch then l else (o.epoch, values) :: l).take 6 }

/-! Deadlines -/

/-- A CUE operation removed at its deadline (R169). -/
def State.lateCue (s : State) (o : BelOp) : State :=
  let list := match s.lantern.cues.find? fun r => r.id == o.brick with
    | some r => s.reg (.LAN_CUE_GROUP r.cue)
    | none => 0
  let s1 := match o.stage with
    | .running k since => ((s.freeOp o).stopEngine k (65536 + o.epoch) since).trace (o.record 7 0 7 k 0)
    | _ => (s.freeOp o).trace (o.record 7 0 7 0 0)
  let s2 := (s1.count .BELCNT_LAMP_LATE).post 0x5006 4 (list % 4 + (s.reg (.CMP_FIRED 4) % 2 ^ 32) * 4)
  if s.lantern.heldPeriod = some o.epoch then s2
  else (s2.count .LANCNT_CUE_HELD).modLantern fun l => { l with heldPeriod := some o.epoch }

/-- CUE_DEADLINE: CUE operations not complete 10 µs before their period are removed (R166, R169, R326). -/
def execCueDeadline (dt : Nat) (s : State) : Host.Outcome State Fault Refusal :=
  run s dt fun s =>
    ((s.belfry.slots.filter fun o => o.code == 7 && Nat.ble (s.lampStart o.epoch - nsUnits 10000) s.time96).foldl State.lateCue s).showQueues

/-! Starting and stopping -/

/-- A write of 1 to LAN_CUE_GO_COMMIT (R323). -/
def State.cueGo (s : State) (value : Nat) : State :=
  if value ≠ 1 then s.reply 8
  else
    let c := s.reg .LAN_CUE_GO_CUE
    match s.cueRefusal c with
    | some r => (s.post 0x900D 4 (c % 256 + r * 256)).reply 8
    | none =>
      if s.lantern.stopped.contains (c, s.ticks) then s.reply 0
      else
        let go := s.reg .LAN_CUE_GO_TIME
        let first := if go = 0 then s.lantern.nextTick else s.lampFirst (nsUnits go)
        let reach := s.lantern.nextTick + 2
        let start := max first reach
        let s1 := (s.startCue c start).putDelay (s.reg (.LAN_CUE_GROUP c)) (s.lantern.nextCue * 256 + c) (start - 1 - s.lantern.nextTick)
        let s2 := if first < reach then s1.post 0x900E 3 (c + clampNat (2 ^ 24 - 1) (reach - first) * 256) else s1
        s2.showDelays.reply 0

/-- CUE_GO. -/
def execCueGo (dt who value : Nat) (s : State) : Host.Outcome State Fault Refusal :=
  run s dt fun s => s.asWriter who .LAN_CUE_GO_COMMIT fun s => s.cueGo value

/-- A write of a cue number to LAN_CUE_STOP (R325): its entries are cancelled, and its channels released from period n + 2. -/
def State.cueStop (s : State) (c : Nat) : State :=
  if 255 < c then s.reply 8
  else
    let n := s.lantern.nextTick - 1
    let runs := s.lantern.cues.filter fun r => r.cue == c && r.endAt.isNone
    let s1 := runs.foldl (fun s r =>
      let k := s.reg (.LAN_CUE_GROUP c)
      let held := (nth s.belfry.delays k []).any fun e => e.cue == r.id
      let s2 := s.modBelfry fun b => { b with delays := b.delays.map (removeDelay r.id) }
      let s3 := if held then (s2.count .BELCNT_OPS_CANCELLED).trace { delayRecord 4 k 0 with reason := 3 } else s2
      let ops := s3.belfry.slots.filter fun o => o.code == 7 && o.brick == r.id
      (ops.foldl (fun s o => s.cancelOp o 3) s3).modCue r.id fun r => { r with endAt := some (n + 2) }) s
    ((s1.modLantern fun l => { l with stopped := (c, s.ticks) :: l.stopped.filter fun x => x.2 == s.ticks }).showDelays.showQueues).reply 0

/-- CUE_STOP. -/
def execCueStop (dt who cue : Nat) (s : State) : Host.Outcome State Fault Refusal :=
  run s dt fun s => s.asWriter who .LAN_CUE_STOP fun s => s.cueStop cue

end Sys2Proof.Machine
end

