-- ==== Sys2Proof/Machine/Oculus.lean ====
section
/-! DEFINITION. Oculus (R351 to R360): signatures, and the freeze judgement at the presentation of an epoch. -/

namespace Sys2Proof.Machine

/-! Pages and check words -/

/-- The region of a frame in its buffer, and the width of the stored area (R141, R351). -/
def storedArea (c : LayerConfig) (f : IngestFrame) : Rect × Nat :=
  if c.raster then (⟨0, 0, c.crop.w + 8, c.crop.h + 8⟩, c.crop.w + 8) else (f.region, c.area.w)

/-- A pixel word of a buffer. Where the frame has written none the word is what the buffer held before (log entry 26). -/
def bufferWord (f : IngestFrame) (r : Rect) (x y : Nat) : Nat :=
  if r.has x y then nth f.pixels ((y - r.y) * r.w + (x - r.x)) 0 else Config.staleWord f.id x y % 2 ^ 32

/-- The check word of a page, 64 × 16 pixels row by row (R142). Pages count 2 × brick + half. -/
def pageCheck (c : LayerConfig) (f : IngestFrame) (page : Nat) : Nat :=
  let (r, w) := storedArea c f
  let across := (w + 63) / 64
  let x0 := page / 2 % across * 64
  let y0 := page / 2 / across * 32 + page % 2 * 16
  crcOf crc32c ((List.range 1024).map fun i => leOctets 4 (bufferWord f r (x0 + i % 64) (y0 + i / 64))).flatten

/-- The page that holds a stored pixel, in address order. -/
def pageOf (storedW x y : Nat) : Nat := (y / 32 * ((storedW + 63) / 64) + x / 64) * 2 + y % 32 / 16

/-- Pages that hold a pixel of a rectangle of the stored area, ascending. -/
def rectPages (storedW : Nat) (r : Rect) : List Nat :=
  if r.w = 0 ∨ r.h = 0 then []
  else
    let rows := (List.range (r.h / 16 + 2)).map (fun i => r.y / 16 + i) |>.filter fun y => Nat.ble (16 * y) (r.y + r.h - 1)
    let cols := (List.range (r.w / 64 + 2)).map (fun i => r.x / 64 + i) |>.filter fun x => Nat.ble (64 * x) (r.x + r.w - 1)
    sortBy Nat.ble (rows.flatMap fun y => cols.map fun x => pageOf storedW (64 * x) (16 * y))

/-- The input signature of a layer that shows a frame (R351). -/
def layerSignature (c : LayerConfig) (f : IngestFrame) : Nat :=
  let (r, w) := storedArea c f
  crcOf crc32c ((leOctets 2 r.x ++ leOctets 2 r.y ++ leOctets 2 r.w ++ leOctets 2 r.h) ++
    ((rectPages w r).map fun p => leOctets 4 (pageCheck c f p)).flatten)

/-- The frame a layer shows in an epoch. -/
def State.shownFrame (s : State) (e : Epoch) (layer : Nat) : Option IngestFrame :=
  match nth e.layers layer .waiting with
  | .shows id => s.frameOf id
  | _ => none

/-- The input signature of a layer in an epoch, 0 where it is transparent (R351). -/
def State.inputSignature (s : State) (e : Epoch) (layer : Nat) : Nat :=
  if (e.config.layer layer).enabled then ((s.shownFrame e layer).map fun f => layerSignature (e.config.layer layer) f).getD 0 else 0

/-- The input signature of the Finial layer in an epoch (R352). -/
def State.finialSignature (s : State) (e : Epoch) : Nat :=
  if e.config.finial = [] then 0
  else
    let mask := (e.config.finial.map fun u => 2 ^ u.region + (if u.blanked then 2 ^ (u.region + 16) else 0)).sum
    let parts := (e.config.finial.filter fun u => !u.blanked).map fun u =>
      leOctets 1 u.region ++ leOctets 8 (((s.finialSlot u.region u.slot).map FinialSlot.crc).getD 0)
    crcOf crc32c (leOctets 4 mask ++ parts.flatten)

/-- The output signature of a link in an epoch (R353). -/
def Epoch.outSig (e : Epoch) (link : Nat) : Nat := ((e.outSigs.find? fun p => p.1 == link).map (·.2)).getD 0

/-- The frame signature (R354). -/
def Epoch.frameSignature (e : Epoch) : Nat :=
  let links := (List.range 64).filter e.struck.contains
  if links = [] then 0 else crcOf crc32c (links.map fun k => leOctets 1 k ++ leOctets 4 (e.outSig k)).flatten

/-- The signatures of a struck epoch replace those of the one before (R355, R362). A link it was not struck on shows none. -/
def State.showSignatures (s : State) (e : Epoch) : State :=
  let s1 := (s.setReg (.OCU_FRAME_SIG 1) e.epoch).setReg (.OCU_FRAME_SIG 2) e.frameSignature
  let s2 := (List.range 8).foldl (fun t l =>
    (t.setReg (.OCU_IN_SIG (l + 1)) (s.inputSignature e l)).setReg (.OCU_IN_EPOCH (l + 1)) e.epoch) s1
  let s3 := (s2.setReg (.OCU_IN_SIG 9) (s.finialSignature e)).setReg (.OCU_IN_EPOCH 9) e.epoch
  (List.range 64).foldl (fun t k =>
    if e.struck.contains k then (t.setReg (.OCU_OUT_SIG k) (e.outSig k)).setReg (.OCU_OUT_EPOCH k) e.epoch
    else (t.setReg (.OCU_OUT_SIG k) 0).setReg (.OCU_OUT_EPOCH k) 0) s3

/-! The freeze rule -/

/-- Bricks that hold a run of a link in an epoch. -/
def EpochConfig.linkBricks (c : EpochConfig) (link : Nat) : List Nat :=
  ((linkPixels link (nth c.map link [])).map fun p => brickOf c.canvasW p.x p.y).eraseDups

/-- Stored columns or rows that an output stretch reads in one direction of a raster layer (R146). -/
def rasterReach (cropAt cropLen raster areaLen : Nat) (lo hi : Bool) (from_ n : Nat) : List Nat :=
  if cropLen = areaLen then (List.range n).map fun i => from_ + i + 4
  else
    ((List.range n).flatMap fun i => tapPlaces cropAt cropLen raster (scaleStep cropLen areaLen) (from_ + i) lo hi).map fun q =>
      q + 4 - cropAt

/-- Pages a FETCH of a layer reads in a brick (R140, R146, R357). -/
def State.fetchPages (s : State) (e : Epoch) (layer brick : Nat) (f : IngestFrame) : List Nat :=
  let c := e.config.layer layer
  let (_, w) := storedArea c f
  let m := (s.shownRect c (nth e.layers layer .waiting)).meet (e.config.brick brick)
  if m.area = 0 then []
  else if c.raster then
    let (rw, rh) := if c.rasterCode = 0 then (1920, 1080) else (3840, 2160)
    let cols := rasterReach c.crop.x c.crop.w rw c.area.w (bitOf c.edge 0) (bitOf c.edge 2) (m.x - c.area.x) m.w
    let rows := rasterReach c.crop.y c.crop.h rh c.area.h (bitOf c.edge 1) (bitOf c.edge 3) (m.y - c.area.y) m.h
    ((rows.map (· / 16)).eraseDups.flatMap fun y => ((cols.map (· / 64)).eraseDups).map fun x => pageOf w (64 * x) (16 * y))
  else rectPages w ⟨m.x - c.area.x, m.y - c.area.y, m.w, m.h⟩

/-- What a layer contributed to a link in an epoch; none where every FETCH of it was cancelled (R155, R196, R357). -/
def State.contribution (s : State) (e : Epoch) (link layer : Nat) : Option OcuLayer :=
  match s.shownFrame e layer with
  | none => none
  | some f =>
    let c := e.config.layer layer
    let shown := s.shownRect c (nth e.layers layer .waiting)
    let bricks := (e.config.linkBricks link).filter fun b =>
      c.enabled && !e.config.hides layer b && (shown.meet (e.config.brick b)).area != 0
    if bricks.isEmpty then none
    else
      let (r, w) := storedArea c f
      some { layer := layer, region := [r.x, r.y, r.w, r.h]
             read := ((bricks.map fun b => s.fetchPages e layer b f).flatten).eraseDups
             pages := (rectPages w ⟨0, 0, w, r.y + r.h⟩).map fun p => (p, pageCheck c f p), sig := 0 }

/-- What the Finial layer contributed to a link in an epoch. -/
def State.finialContribution (s : State) (e : Epoch) (link : Nat) : Option OcuLayer :=
  if (e.config.linkBricks link).any fun b => e.config.finial.any fun u => (u.rect.meet (e.config.brick b)).area != 0 then
    some { layer := 8, region := [], read := [], pages := [], sig := s.finialSignature e }
  else none

/-- The record of an epoch for a link (R356). -/
def State.ocuRecord (s : State) (e : Epoch) (link : Nat) : OcuRecord := {
  feed := e.feed, epoch := e.epoch, out := e.outSig link
  layers := ((List.range 8).filterMap fun l => s.contribution e link l) ++ (s.finialContribution e link).toList }

/-- Whether a contributing layer has changed since the reference (R357). -/
def OcuLayer.changed (x : OcuLayer) (ref : OcuRecord) : Bool :=
  match ref.layers.find? fun y => y.layer == x.layer with
  | none => true
  | some y =>
    x.region != y.region || x.sig != y.sig ||
      x.read.any fun p => (x.pages.find? fun q => q.1 == p) != (y.pages.find? fun q => q.1 == p)

/-- The run count after a judged epoch (R358). -/
def freezeRun (run : Nat) (setDiffers inputChanged outputChanged : Bool) : Nat :=
  if setDiffers then 0 else if inputChanged then (if outputChanged then 0 else run + 1) else run

/-- A link judged in an epoch against its reference (R358). -/
def State.judgeLink (s : State) (now_ ref : OcuRecord) (link : Nat) : State :=
  let run := s.reg (.OCU_FREEZE_RUN link)
  let differs := now_.layers.map OcuLayer.layer != ref.layers.map OcuLayer.layer
  let input := now_.layers.any fun x => x.changed ref
  let output := now_.out != ref.out
  let n := freezeRun run differs input output
  let arg := link + now_.epoch * 64
  let s1 := (s.count .OCUCNT_JUDGED).setReg (.OCU_FREEZE_RUN link) n
  let s2 := if !differs && input && !output then s1.count .OCUCNT_FROZEN_EPOCHS else s1
  let s3 := if s2.flag (.OCU_FROZEN link) && input && output then
      ((s2.setReg (.OCU_FROZEN link) 0).modOcuLink link fun o => { o with escalated := false }).post 0xA003 3
        (arg + clampNat 65535 run * 2 ^ 22)
    else s2
  let s4 := if s.reg .OCU_K ≤ n ∧ run < n ∧ s3.flag (.OCU_FROZEN link) = false then
      ((s3.setReg (.OCU_FROZEN link) 1).count .OCUCNT_FREEZES).post 0xA001 6 arg
    else s3
  if s.reg .OCU_ESCALATE ≤ n ∧ run < n ∧ (s4.ocuLink link).escalated = false then
    ((s4.modOcuLink link fun o => { o with escalated := true }).count .OCUCNT_ESCALATIONS).post 0xA002 7 arg
  else s4

/-- The suspension of all links at a struck epoch: counted down, or ended with event 0xA005; while judgement is off, the wait for the first epoch of
a new mode or map alone goes on (R359). -/
def State.passAll (s : State) (epoch : Nat) : State :=
  match s.ocu.all with
  | none => s
  | some w =>
    if s.flag .OCU_ENABLE = false then
      s.modOcu fun o => { o with all := some { w with start := w.start.filter fun f => Nat.ble 32768 ((epoch + 65536 - f) % 65536) } }
    else match w.start with
      | some f =>
        if (epoch + 65536 - f) % 65536 < 32768 then s.modOcu fun o => { o with all := some { w with start := none, left := w.left - 1 } } else s
      | none =>
        if w.left = 0 then ((s.modOcu fun o => { o with all := none }).showOculus).post 0xA005 2 (epoch + 63 * 65536)
        else s.modOcu fun o => { o with all := some { w with left := w.left - 1 } }

/-- The suspension of one link at an epoch struck on it (R359). -/
def State.passLink (s : State) (epoch link : Nat) : State :=
  match (s.ocuLink link).wait with
  | none => s
  | some 0 => ((s.modOcuLink link fun o => { o with wait := none }).showOculus).post 0xA005 2 (epoch + link * 65536)
  | some (n + 1) => s.modOcuLink link fun o => { o with wait := some n }

/-- One link at T_p of an epoch struck on it: judged unless suspended, and recorded (R356, R359). -/
def State.oculusLink (s : State) (e : Epoch) (link : Nat) : State :=
  let s1 := s.passLink e.epoch link
  let now_ := s1.ocuRecord e link
  let ref := (s1.ocuLink link).refs.find? fun r => r.feed == e.feed
  let s2 := match ref with
    | some r =>
      if s1.ocu.all.isSome || (s1.ocuLink link).wait.isSome || s1.flag .OCU_ENABLE == false then s1 else s1.judgeLink now_ r link
    | none => s1
  s2.modOcuLink link fun o => { o with refs := now_ :: o.refs.filter fun r => r.feed != e.feed }

/-- Oculus at T_p of a struck epoch (R351 to R359). -/
def State.oculusPresent (s : State) (e : Epoch) : State :=
  let s1 := s.showSignatures e
  ((List.range 64).filter e.struck.contains).foldl (fun s k => s.oculusLink e k) (s1.passAll e.epoch)

/-- A write of OCU_ENABLE (R359). -/
def State.ocuEnable (s : State) (value : Nat) : State :=
  if 1 < value then s.reply 8
  else if value = s.reg .OCU_ENABLE then s.reply 0
  else if value = 0 then ((s.setReg .OCU_ENABLE 0).suspendAll 3 none).reply 0
  else (((s.setReg .OCU_ENABLE 1).modOcu fun o => { o with all := some ⟨3, o.all.bind fun w => w.start, 3⟩ }).showOculus).reply 0

/-- OCU_ENABLE_WRITE. -/
def execOcuEnableWrite (dt who value : Nat) (s : State) : Host.Outcome State Fault Refusal :=
  run s dt fun s => s.asWriter who .OCU_ENABLE fun s => s.ocuEnable value

end Sys2Proof.Machine
end

