-- ==== Sys2Proof/Machine/Memory.lean ====
section
/-! DEFINITION. The memory arbiter (R385 to R404): requests, rounds, pre-emption, overruns, and its monitors. -/

namespace Sys2Proof.Machine

/-- MEM_REQUEST_RAISE: a port raises its request; with no owner a round starts (R394). -/
def execMemRequestRaise (dt port : Nat) (s : State) : Host.Outcome State Fault Refusal :=
  run s dt fun s =>
    if port = 0 ∨ 9 < port ∨ s.mem.raised.any fun r => r.port == port then s
    else
      let s1 := s.modMem fun m => { m with raised := m.raised ++ [⟨port, s.ticks⟩] }
      if s.mem.owner.isNone then s1.round else if s.reg .MEM_ARB_MODE = 1 then s1 else s1.parkWaiting

/-- What a grant moved: octets in bursts of 128, the row conflicts it met and the link errors corrected in it (R385, R404, R405, R406). -/
def State.grantDone (s : State) (port octets conflicts corrected : Nat) : State :=
  let bursts := (octets + 127) / 128
  let s1 := (s.bump (.MEM_REQ_OCTETS (port - 1)) octets).count .MEMCNT_ACCESSES bursts
  let s2 := (s1.count .MEMCNT_ROW_CONFLICTS conflicts).count .MEMCNT_LINK_ECC_CORRECTED corrected
  s2.modMem fun m => { m with windowAccesses := m.windowAccesses + bursts, windowConflicts := m.windowConflicts + conflicts }

/-- ARBITRATION_ROUND: the owner issues its last command; octets, row conflicts and corrected link errors are those of its grant (R394). -/
def execArbitrationRound (dt octets conflicts corrected : Nat) (s : State) : Host.Outcome State Fault Refusal :=
  run s dt fun s =>
    match s.mem.owner with
    | some p => (s.grantDone p (min octets (s.reg (.MEM_REQ_MAX_BURST (p - 1)))) conflicts corrected).round
    | none => s

/-- REFRESH_DUE: a refresh pre-empts the owner at its next burst boundary (R399). -/
def execRefreshDue (dt : Nat) (s : State) : Host.Outcome State Fault Refusal :=
  run s dt fun s => if s.mem.owner.isSome then s.count .MEMCNT_REFRESH_PREEMPTS else s

/-- Whether JTAG debug access is open at service level: while a session stands at that level (R399, R469; log entry 38). -/
def State.debugOpen (s : State) : Bool := s.idp.sessions.any fun x => x.level == 2

/-- DEBUG_ACCESS (R399). -/
def execDebugAccess (dt : Nat) (s : State) : Host.Outcome State Fault Refusal :=
  run s dt fun s => if s.debugOpen ∧ s.mem.owner.isSome then s.count .MEMCNT_DEBUG_PREEMPTS else s

/-- The error count of one die read: a rise is counted and reported (R385). -/
def State.odeccRead (s : State) (channel n : Nat) : State :=
  let last := nth s.mem.odecc channel 0
  let s1 := s.modMem fun m => { m with odecc := setNth m.odecc channel n }
  if last < n then (s1.count .MEMCNT_ODECC_CORRECTED (n - last)).post 0xB003 3 (channel + (n - last) % 2 ^ 32 * 2) else s1

/-- ODECC_POLL (R385). -/
def execOdeccPoll (dt count0 count1 : Nat) (s : State) : Host.Outcome State Fault Refusal :=
  run s dt fun s => (s.odeccRead 0 count0).odeccRead 1 count1

/-- The temperature of one die read, in 1/16 °C as 16 bits (R388). -/
def State.dramTemp (s : State) (channel t : Nat) : State :=
  let v := toSigned 16 t
  let rate := if v < 1360 then 1 else if v < 1520 then 2 else 4
  let s1 := (s.setReg (.MEM_DRAM_TEMP (channel + 1)) t).setReg (.MEM_REFRESH_RATE (channel + 1)) rate
  let s2 := s1.modMem fun m => { m with hot := setNth m.hot channel (rate == 4) }
  if rate = 4 ∧ nth s.mem.hot channel false = false then s2.post 0xB004 4 (channel + t % 65536 * 2) else s2

/-- DRAM_TEMP_READ (R388). -/
def execDramTempRead (dt t0 t1 : Nat) (s : State) : Host.Outcome State Fault Refusal :=
  run s dt fun s => (s.dramTemp 0 t0).dramTemp 1 t1

/-- GRANT_OVERRUN: a grant held for more than four times its hold, the maximum burst at 31.0 GB/s (R393, R402). -/
def execGrantOverrun (dt : Nat) (s : State) : Host.Outcome State Fault Refusal :=
  run s dt fun s =>
    match s.mem.owner with
    | none => s
    | some p =>
      let burst := s.reg (.MEM_REQ_MAX_BURST (p - 1))
      if s.mem.overrun ∨ (s.ticks - s.mem.grantAt) * 128 * 31 ≤ 400 * burst then s
      else ((s.modMem fun m => { m with overrun := true }).count .MEMCNT_GRANT_OVERRUNS).post 0xB020 7 p

/-- CONFLICT_WINDOW_END (R404, R405). -/
def execConflictWindowEnd (dt : Nat) (s : State) : Host.Outcome State Fault Refusal :=
  run s dt fun s =>
    let ms := s.reg .MEM_CONFLICT_WINDOW_MS
    if s.ticks < s.mem.windowStart + nsTicks (ms * 1000000) then s
    else
      let ratio := s.mem.windowConflicts * 1000 / max 1 s.mem.windowAccesses
      let s1 := (s.setReg .MEM_CONFLICT_NOW ratio).setReg .MEM_BW_MBPS (s.mem.windowAccesses * 128 / max 1 (ms * 1000))
      let s2 := s1.modMem fun m => { m with windowAccesses := 0, windowConflicts := 0, windowStart := s.ticks }
      let run_ := s.mem.windowRun
      if s.reg .MEM_CONFLICT_PERMILLE < ratio then
        let s3 := (s2.count .MEMCNT_CONFLICT_WINDOWS).modMem fun m => { m with windowRun := run_ + 1 }
        if run_ = 0 then s3.post 0xB010 3 ratio else s3
      else if run_ = 0 then s2
      else (s2.modMem fun m => { m with windowRun := 0 }).post 0xB011 2 (ratio + clampNat (2 ^ 32 - 1) run_ * 1024)

end Sys2Proof.Machine
end

