-- ==== Sys2Proof/Machine/Bridge.lean ====
section
/-! DEFINITION. The register bridge as sessions use it (R422 to R427). -/

namespace Sys2Proof.Machine

/-- Transfers that wait on a link, firmware's own left out (R422). -/
def State.brgQueued (s : State) (link : Nat) : Nat :=
  ((s.link link).txns.filter fun p => p.2.purpose.session != 0xFFFF).length

/-- What stops a transfer at once (R422, R423): 4 link not trained, 5 module absent, 10 queue full. -/
def State.brgStop (s : State) (link module : Nat) : Option Nat :=
  if s.reg (.SPL_STATE link) ≠ 5 then some 4
  else if (s.module link module).isNone then some 5
  else if 32 ≤ s.brgQueued link then some 10
  else none

/-- A transfer that a lock of another session holds is counted (R425). -/
def State.brgHold (s : State) (link session : Nat) : State :=
  match (s.link link).lock with
  | some x => if x.session = session then s else s.count .BRGCNT_BRG_HELD
  | none => s

/-- A transfer started (R423): 1 write, 2 read, 3 lock, 4 unlock. -/
def State.brgStart (s : State) (who op link module address : Nat) (data : List Octet) (len : Nat) : State :=
  match s.brgStop link module with
  | some st => (s.modBrgSession who fun b => { b with status := st }).reply 0
  | none =>
    let tag := (s.link link).nextTag
    let purpose := if op = 3 then TxPurpose.lock who else if op = 4 then .unlock who else .bridge who
    let s1 := (s.queueTxn link module op address data len purpose).brgHold link who
    let s2 := s1.modBrgSession who fun b => { b with
      status := 1, transfer := some ⟨op, link, module, tag, false⟩, lock := if op = 3 then 1 else b.lock }
    s2.reply 0

/-- A read of BRG_READ (R423, R424). -/
def State.brgRead (s : State) (who : Nat) : State :=
  let b := s.brg who
  if b.transfer.isSome then s.reply 10
  else if 2 ^ 24 < b.addr + b.len then s.reply 8
  else s.brgStart who 2 b.link b.module b.addr [] b.len

/-- BRG_READ: open at any level. -/
def execBrgRead (dt who : Nat) (s : State) : Host.Outcome State Fault Refusal := run s dt fun s => s.brgRead who

/-- A write of BRG_WRITE (R423, R424). -/
def State.brgWrite (s : State) (who : Nat) (data : List Octet) : State :=
  let b := s.brg who
  if b.transfer.isSome then s.reply 10
  else if data.length ≠ b.len then s.reply 17
  else if 2 ^ 24 < b.addr + b.len then s.reply 8
  else if 0x7FF000 < b.addr + b.len then (s.modBrgSession who fun b => { b with status := 6 }).reply 6
  else s.brgStart who 1 b.link b.module b.addr data b.len

/-- BRG_WRITE. -/
def execBrgWrite (dt who : Nat) (data : List Octet) (s : State) : Host.Outcome State Fault Refusal :=
  run s dt fun s => s.asWriter who .BRG_WRITE fun s => s.brgWrite who data

/-- A write of 1 to BRG_LOCK (R423, R425). -/
def State.brgLock (s : State) (who : Nat) : State :=
  let b := s.brg who
  if b.lock = 1 ∨ b.lock = 2 then (s.modBrgSession who fun b => { b with status := 6 }).reply 6
  else if b.transfer.isSome then s.reply 10
  else s.brgStart who 3 b.link b.module 0 [] 0

/-- BRG_LOCK_SET. -/
def execBrgLockSet (dt who : Nat) (s : State) : Host.Outcome State Fault Refusal :=
  run s dt fun s => s.asWriter who .BRG_LOCK fun s => s.brgLock who

/-- A write of 0 to BRG_LOCK (R423, R425). -/
def State.brgUnlock (s : State) (who : Nat) : State :=
  let b := s.brg who
  if b.transfer.isSome then s.reply 10
  else if b.lock = 2 then s.brgStart who 4 b.lockedLink b.lockedModule 0 [] 0
  else if b.lock = 3 then (s.modBrgSession who fun b => { b with lock := 0 }).reply 0
  else s.reply 15

/-- BRG_UNLOCK. -/
def execBrgUnlock (dt who : Nat) (s : State) : Host.Outcome State Fault Refusal :=
  run s dt fun s => s.asWriter who .BRG_LOCK fun s => s.brgUnlock who

/-- A transfer taken out before it completes (R427): removed where it has not been sent; a sent write is not sent again; the response of a sent
READ is discarded; a sent LOCK is undone at its response. -/
def State.brgDrop (s : State) (who : Nat) (t : BrgTransfer) : State :=
  let mine := fun (p : Nat × RegTxn) => p.1 == t.module && p.2.tag == t.tag
  let waiting := (s.link t.link).txns.any mine
  let s1 := s.modLink t.link fun l => { l with
    txns := l.txns.filter fun p => !mine p
    waiting := if t.op = 1 then l.waiting.filter fun f => !(f.kind == 1 && f.txns.any fun x => mine (f.module, x)) else l.waiting }
  s1.modBrgSession who fun b => { b with
    status := 9, transfer := none, lock := if t.op = 3 ∨ (t.op = 4 ∧ waiting = false) then 0 else b.lock }

/-- An abort of the session's transfer (R427). -/
def State.brgAbort (s : State) (who : Nat) : State :=
  match (s.brg who).transfer with
  | none => (s.modBrgSession who fun b => { b with status := 8 }).reply 15
  | some t => (s.brgDrop who t).reply 0

/-- A write of BRG_ABORT. -/
def State.brgAbortWrite (s : State) (who value : Nat) : State := if value ≠ 1 then s.reply 8 else s.brgAbort who

/-- BRG_ABORT. -/
def execBrgAbort (dt who value : Nat) (s : State) : Host.Outcome State Fault Refusal :=
  run s dt fun s => s.asWriter who .BRG_ABORT fun s => s.brgAbortWrite who value

/-- A write of BRG_PWE_CLEAR (R426). -/
def State.pweClear (s : State) (value : Nat) : State :=
  if value ≠ 1 then s.reply 8 else (s.modBrg fun b => { b with pwe := [] }).reply 0

/-- BRG_PWE_CLEAR. -/
def execBrgPweClear (dt who value : Nat) (s : State) : Host.Outcome State Fault Refusal :=
  run s dt fun s => s.asWriter who .BRG_PWE_CLEAR fun s => s.pweClear value

/-- An entry of the log as BRG_PWE_LOG returns it, 24 octets (R426). -/
def PweEntry.octets (e : PweEntry) : List Octet :=
  leOctets 8 e.time ++ leOctets 3 e.address ++ leOctets 1 e.link ++ leOctets 1 e.module ++ leOctets 1 e.status ++ leOctets 2 e.len ++
    leOctets 2 e.session ++ leOctets 1 e.tag ++ leOctets 1 (1 + 2 * b2n e.ended) ++ leOctets 4 e.seq

end Sys2Proof.Machine
end

