-- ==== Sys2Proof/Machine/SignalMap.lean ====
section
/-! DEFINITION. The signal map (R408 to R414) but for its passes, and the reception of E1.31 (R415 to R417). -/

namespace Sys2Proof.Machine

/-- The signal map, E1.31 and DMX changed. -/
def State.modMap (s : State) (f : SignalMap → SignalMap) : State := { s with smap := f s.smap }

/-! Records (R408) -/

/-- ENABLE. -/
def mapOn (w : Nat) : Bool := bitOf w 127
/-- SRC_KIND. -/
def srcKind (w : Nat) : Nat := field w 126 124
/-- SRC_SPACE. -/
def srcSpace (w : Nat) : Nat := field w 123 108
/-- SRC_SLOT. -/
def srcSlot (w : Nat) : Nat := field w 107 96
/-- SRC_16BIT. -/
def srcWide (w : Nat) : Bool := bitOf w 95
/-- CURVE. -/
def mapCurve (w : Nat) : Nat := field w 94 91
/-- GAIN. -/
def mapGain (w : Nat) : Int := toSigned 16 (field w 90 75)
/-- OFFSET. -/
def mapOffset (w : Nat) : Int := toSigned 18 (field w 74 57)
/-- DST_KIND. -/
def dstKind (w : Nat) : Nat := field w 56 54
/-- DST_SPACE. -/
def dstSpace (w : Nat) : Nat := field w 53 38
/-- The link of a module register target. -/
def dstLink (w : Nat) : Nat := dstSpace w / 1024
/-- The module of a module register target. -/
def dstModule (w : Nat) : Nat := dstSpace w / 32 % 32 + 1
/-- DST_ADDR. -/
def dstAddr (w : Nat) : Nat := field w 37 14
/-- DST_16BIT. -/
def dstWide (w : Nat) : Bool := bitOf w 13
/-- HOLD. -/
def mapHold (w : Nat) : Bool := bitOf w 12

/-- The type of a dictionary element, if it exists. -/
def elementType (r : Reg) : Option EntryType := (dictRow r).map DictRow.type

/-- Whether a type is one the signal map takes (R409, R412). -/
def mapType : Option EntryType → Bool
  | some .bool | some .u8 | some .u16 => true
  | _ => false

/-- Reason 1 of R409. -/
def mapFieldsBad (w : Nat) : Bool :=
  w % 2 ^ 12 != 0 || Nat.blt 3 (srcKind w) || Nat.blt 3 (dstKind w) || (dstKind w == 0 && dstSpace w != 0) ||
    (dstKind w == 2 && dstSpace w % 32 != 0)

/-- Reason 2 of R409. -/
def mapSourceBad (w : Nat) : Bool :=
  let slotBad := srcSlot w == 0 || Nat.blt 512 (srcSlot w + b2n (srcWide w))
  if srcKind w = 0 then srcSpace w == 0 || Nat.blt 63999 (srcSpace w) || slotBad
  else if srcKind w = 1 then Nat.blt 7 (srcSpace w) || slotBad
  else if srcKind w = 2 then Nat.blt 127 (srcSpace w)
  else Nat.blt 255 (srcSlot w) || !mapType (elementType ⟨srcSpace w, srcSlot w⟩)

/-- Reason 3 of R409. -/
def mapTargetBad (w : Nat) : Bool :=
  if dstKind w = 0 then Nat.blt 511 (dstAddr w)
  else if dstKind w = 1 then Nat.blt 7 (dstSpace w) || dstAddr w == 0 || Nat.blt 512 (dstAddr w + b2n (dstWide w))
  else if dstKind w = 2 then Nat.blt 0x7FF000 (dstAddr w + 1 + b2n (dstWide w))
  else
    let r : Reg := ⟨dstSpace w, dstAddr w⟩
    dstSpace w / 4096 == 0xC || writeLevel r != some 1 || !mapType (elementType r)

/-- What a target covers, as numbers that tell all targets apart. -/
def targetUnits (w : Nat) : List Nat :=
  let base := dstKind w * 2 ^ 48 + dstSpace w * 2 ^ 24 + dstAddr w
  if dstWide w && (dstKind w == 1 || dstKind w == 2) then [base, base + 1] else [base]

/-- Reason 5 of R409: a dictionary target that some enabled entry takes as its source. -/
def mapLoop (records : List Nat) (w : Nat) : Bool :=
  dstKind w == 3 && records.any fun x => mapOn x && srcKind x == 3 && srcSpace x == dstSpace w && srcSlot x == dstAddr w

/-- Why a signal map is refused: the lowest reason, with the first entry that fails it (R409). Reserved bits and field values count in every
record, the rest in enabled ones. -/
def signalMapRefusal (records : List Nat) : Option (Nat × Nat) :=
  let first := fun (f : Nat → Bool) => records.findIdx? f
  let on := fun (f : Nat → Bool) => first fun w => mapOn w && f w
  let twice := repeated ((records.filter mapOn).map targetUnits).flatten
  match first mapFieldsBad with
  | some i => some (1, i)
  | none => match on mapSourceBad with
  | some i => some (2, i)
  | none => match on mapTargetBad with
  | some i => some (3, i)
  | none => match on fun w => (targetUnits w).any twice.contains with
  | some i => some (4, i)
  | none => match on (mapLoop records) with
  | some i => some (5, i)
  | none => match on fun w => (dstKind w == 0 && !dstWide w) || (srcKind w == 2 && !srcWide w) with
  | some i => some (6, i)
  | none => if 4096 < records.length then some (7, 4096 % 4096) else none

/-- A write of 1 to MAP_CHANGE (R409). -/
def State.signalMapRequest (s : State) : State :=
  if s.reg .MAP_CHANGE = 1 then s.reply 10
  else match signalMapRefusal s.smap.admin with
    | some (r, i) => (s.post 0xC011 4 (r + i * 16)).reply 8
    | none => ((s.setReg .MAP_CHANGE 1).modMap fun m => { m with requestedAt := some s.ticks }).reply 0

/-- A write of 2 to MAP_CHANGE (R409). -/
def State.signalMapCancel (s : State) : State :=
  if s.reg .MAP_CHANGE = 1 then ((s.setReg .MAP_CHANGE 0).modMap fun m => { m with requestedAt := none }).reply 0 else s.reply 15

/-- SIGNAL_MAP_CHANGE_REQUEST. -/
def execSignalMapChangeRequest (dt who : Nat) (s : State) : Host.Outcome State Fault Refusal :=
  run s dt fun s => s.asWriter who .MAP_CHANGE fun s => s.signalMapRequest

/-- SIGNAL_MAP_CHANGE_CANCEL. -/
def execSignalMapChangeCancel (dt who : Nat) (s : State) : Host.Outcome State Fault Refusal :=
  run s dt fun s => s.asWriter who .MAP_CHANGE fun s => s.signalMapCancel

/-- The administrative map in force (R409, R410): entries start without an output. -/
def State.signalMapSwap (s : State) : State :=
  let on := (s.smap.admin.filter mapOn).length
  let s1 := s.modMap fun m => { m with
    oper := m.admin, requestedAt := none
    outputs := m.admin.zipIdx.map fun (w, i) => if m.oper[i]? = some w then nth m.outputs i MapOutput.reset else MapOutput.reset }
  ((s1.setReg .MAP_CHANGE 0).setReg .MAP_ENTRIES on).post 0xC010 2 on

/-! Curves (R411) -/

/-- The integer nearest to the square root of a number, by Newton's method from above on the truncated root. -/
def isqrtStep : Nat → Nat → Nat → Nat
  | 0, _, r => r
  | n + 1, a, r => let q := (r + a / max 1 r) / 2; if q < r then isqrtStep n a q else r

/-- The integer nearest to √a; none of the values used lies midway (R411). -/
def nearestRoot (a : Nat) : Nat :=
  let r := isqrtStep 64 a (a + 1)
  if r * r + r < a then r + 1 else r

/-- y of a curve at x, with the points of its table (R411). -/
def curveValue (curve x : Nat) (p : Nat → Nat) : Nat :=
  if curve = 0 then x
  else if curve = 1 then (x * x + 32767) / 65535
  else if curve = 2 then (x * x * x + 2147418112) / 4294836225
  else if curve = 3 then nearestRoot (x * 65535)
  else if curve = 4 then 65535 - x
  else if curve = 5 then (if x < 32768 then 0 else 65535)
  else if curve = 6 then (3 * 65535 * x * x - 2 * x * x * x + 2147418112) / 4294836225
  else if curve = 7 then 65535 - ((65535 - x) * (65535 - x) + 32767) / 65535
  else
    let u := (x * 65536 + 32767) / 65535
    let i := u / 256
    let f := u % 256
    if i = 256 then p 256
    else ((p i : Int) + (((p (i + 1) : Int) - p i) * f + 128) / 256).toNat

/-- z of an entry (R411). -/
def mapResult (gain offset : Int) (y : Nat) : Nat := (clampInt 0 65535 (((y : Int) * gain + 8192) / 16384 + offset)).toNat

/-- An 8-bit value of an output (R412). -/
def narrow (z : Nat) : Nat := (z * 255 + 32767) / 65535

/-- z of a record from its source value x (R411). -/
def State.mapZ (s : State) (w x : Nat) : Nat :=
  let y := curveValue (mapCurve w) x fun i => s.reg (.MAP_CURVE (mapCurve w - 8) (i + 1))
  mapResult (mapGain w) (mapOffset w) y

/-! E1.31 -/

/-- A universe entry changed. -/
def State.modUniverse (s : State) (n : Nat) (f : Universe → Universe) : State :=
  s.modMap fun m => { m with universes := modNth m.universes n f }

/-- A universe entry. -/
def State.universeOf (s : State) (n : Nat) : Universe := nth s.smap.universes n ⟨[], false⟩

/-- The sources merged: those of the highest priority present (R417). -/
def Universe.merged (u : Universe) : List SacnSource :=
  let top := maxOf (u.sources.map SacnSource.priority)
  u.sources.filter fun x => x.priority == top

/-- The merged slot count (R417). -/
def Universe.slotCount (u : Universe) : Nat := maxOf (u.merged.map fun x => x.slots.length)

/-- The merged value of slot n, from 1, by HTP or LTP among the sources whose last packet holds it (R417). -/
def Universe.slot (u : Universe) (ltp : Bool) (n : Nat) : Nat :=
  let have_ := u.merged.filter fun x => Nat.ble n x.slots.length
  if ltp then
    (have_.foldl (fun (best : Nat × Nat) x => if best.1 ≤ x.order then (x.order, nth x.slots (n - 1) 0) else best) (0, 0)).2
  else maxOf (have_.map fun x => nth x.slots (n - 1) 0)

/-- The entries of a universe follow its sources (R430); events 0xC020 and 0xC021 where it becomes live or loses its last source (R417). -/
def State.showUniverse (s : State) (n : Nat) : State :=
  let u := s.universeOf n
  let was := s.reg (.DMX_UNIV_STATE n)
  let state := if s.flag (.DMX_UNIV_ENABLE n) then (if u.sources.isEmpty then 1 else 2) else 0
  let s1 := (s.setReg (.DMX_UNIV_STATE n) state).setReg (.DMX_UNIV_SOURCES n) u.sources.length
  let s2 := (s1.setReg (.DMX_UNIV_PRIORITY n) (maxOf (u.sources.map SacnSource.priority))).setReg (.DMX_UNIV_SLOTS n) u.slotCount
  if was ≠ 2 ∧ state = 2 then s2.post 0xC020 2 (s.reg (.DMX_UNIV_NUMBER n))
  else if was = 2 ∧ state ≠ 2 then s2.post 0xC021 4 (s.reg (.DMX_UNIV_NUMBER n))
  else s2

/-- The enabled entry of a universe. -/
def State.universeEntry (s : State) (number : Nat) : Option Nat :=
  (List.range 64).find? fun n => s.flag (.DMX_UNIV_ENABLE n) && s.reg (.DMX_UNIV_NUMBER n) == number

/-- A packet of a universe taken (R416). -/
def State.sacnTake (s : State) (n : Nat) (p : SacnPacket) : State :=
  let u := s.universeOf n
  let add : SacnSource := ⟨p.cid, p.seq, p.priority, p.slots, s.ticks, s.smap.arrivals⟩
  let accept := fun (s : State) => (((s.modUniverse n fun u => { u with
    sources := if u.sources.any (fun x => x.cid == p.cid) then u.sources.map fun x => if x.cid = p.cid then add else x
      else u.sources ++ [add] }).modMap fun m => { m with arrivals := m.arrivals + 1 }).count .BRGCNT_SACN_PACKETS).showUniverse n
  match u.sources.find? fun x => x.cid == p.cid with
  | some x =>
    let d := (p.seq + 256 - x.seq) % 256
    if d = 0 ∨ 237 ≤ d then s.count .BRGCNT_SACN_SEQ_DISCARD
    else if p.terminated then
      (s.modUniverse n fun u => { u with sources := u.sources.filter fun x => x.cid != p.cid, limited := false }).showUniverse n
    else accept s
  | none =>
    if p.terminated then s
    else if 4 ≤ u.sources.length then
      let s1 := (s.count .BRGCNT_SACN_SOURCE_LIMIT).modUniverse n fun u => { u with limited := true }
      if u.limited then s1 else s1.post 0xC023 3 p.number
    else accept s

/-- SACN_PACKET (R415, R416). Packets of a universe no enabled entry names are not received. -/
def execSacnPacket (dt : Nat) (p : SacnPacket) (s : State) : Host.Outcome State Fault Refusal :=
  run s dt fun s =>
    match s.universeEntry p.number with
    | none => s
    | some n =>
      if p.wellFormed = false ∨ p.preview ∨ p.startCode ≠ 0 ∨ 200 < p.priority ∨ 512 < p.slots.length then
        s.count .BRGCNT_SACN_IGNORED
      else s.sacnTake n p

/-- SACN_SOURCE_LOSS: sources of a universe entry silent for DMX_SACN_LOSS_MS are dropped (R416). -/
def execSacnSourceLoss (dt entry : Nat) (s : State) : Host.Outcome State Fault Refusal :=
  run s dt fun s =>
    let limit := nsTicks (s.reg .DMX_SACN_LOSS_MS * 1000000)
    if (s.universeOf entry).sources.any fun x => Nat.ble (x.lastAt + limit) s.ticks then
      (s.modUniverse entry fun u => { sources := u.sources.filter fun x => Nat.blt s.ticks (x.lastAt + limit), limited := false }).showUniverse
        entry
    else s

/-- A write of an element of a universe entry (R415, R430): a number another entry uses is refused; a change rebuilds the group filter and the
reports. -/
def State.universeWrite (s : State) (n sub value : Nat) : State :=
  let r : Reg := ⟨0xC200 + n, sub⟩
  if inRange r value = false then s.reply 8
  else if sub = 2 ∧ (List.range 64).any (fun k => k != n && s.reg (.DMX_UNIV_NUMBER k) == value && s.flag (.DMX_UNIV_ENABLE k)) then s.reply 8
  else if sub = 1 ∧ value = 1 ∧
      (List.range 64).any (fun k => k != n && s.reg (.DMX_UNIV_NUMBER k) == s.reg (.DMX_UNIV_NUMBER n) && s.flag (.DMX_UNIV_ENABLE k)) then
    s.reply 8
  else if s.reg r = value then s.reply 0
  else if 3 ≤ sub then (s.setReg r value).reply 0
  else
    let s1 := (s.modUniverse n fun _ => ⟨[], false⟩).showUniverse n
    (((s1.setReg r value).showUniverse n).buildFilter.igmpReport).reply 0

end Sys2Proof.Machine
end

