-- ==== Sys2Proof/Machine/SessionOps.lean ====
section
/-! DEFINITION. The end of a dictionary session (R474), and who drives what is tied between the units of a pair (R342, R419, R444). -/

namespace Sys2Proof.Machine

/-- DIC_SESSIONS_OPEN follows the sessions held (R489). -/
def State.showSessions (s : State) : State := s.setReg .DIC_SESSIONS_OPEN s.idp.sessions.length

/-- The links whose lock a session holds end it (R425). -/
def State.endLocks (s : State) (n : Nat) : State :=
  (List.range 64).foldl (fun s k =>
    match (s.link k).lock with
    | some x => if x.session = n then (s.forceUnlock k x).lockLost k 1 n else s
    | none => s) s

/-- A session ends (R474): its check contexts are free (R366), its lock ends (R425), its transfers are abandoned. Cause: 0 closed, 1 timeout,
2 transport lost. -/
def State.endSession (s : State) (n cause : Nat) : State :=
  let s0 := match (s.session n).bind Session.running with
    | some op => s.respond n op 16 []
    | none => s
  let s1 := s0.endLocks n
  let s2 := match (s1.brg n).transfer with
    | some t => s1.brgDrop n t
    | none => s1
  let s3 := { s2 with
    ocu := { s2.ocu with contexts := s2.ocu.contexts.map fun (c : CrcContext) => if c.holder = some n then { c with holder := none } else c }
    bridge := { s2.bridge with sessions := s2.bridge.sessions.filter fun b => b.session != n }
    idp := { s2.idp with sessions := s2.idp.sessions.filter fun x => x.number != n } }
  let s4 := if cause = 0 then s3 else s3.count .DICCNT_SESSIONS_TIMED_OUT
  s4.showSessions.post 0x1002 2 (n + cause * 2 ^ 16)

/-- Every session a test holds of ends (R474). -/
def State.endSessions (s : State) (cause : Nat) (f : Session → Bool) : State :=
  (s.idp.sessions.filter f).foldl (fun s x => s.endSession x.number cause) s

/-- Whether a claim word or heartbeat of the partner is valid (R441, R461). -/
def State.partnerHeard (s : State) : Bool := bitOf (s.reg .TWN_FLAGS) 0 || bitOf (s.reg .TWN_FLAGS) 1

/-- Whether the unit drives what is tied: with a claim in force of 128 or more (R419); after a refused admission the unit with the lower EUI-64
while the partner is heard (R444). -/
def State.tiedDrive (s : State) : Bool :=
  if bitOf (s.reg .TWN_FLAGS) 2 && s.partnerHeard then Nat.blt s.unit.eui64 s.twin.partnerEui else Nat.ble 128 (s.reg .TWN_CLAIM)

end Sys2Proof.Machine
end

