-- ==== Sys2Proof/Machine/Dmx.lean ====
section
/-! DEFINITION. The DMX512-A ports and their RDM controllers and responders (R418 to R421). -/

namespace Sys2Proof.Machine

/-- A DMX port. -/
def State.dmx (s : State) (port : Nat) : DmxPort := nth s.smap.ports port DmxPort.reset

/-- A DMX port changed. -/
def State.modDmx (s : State) (port : Nat) (f : DmxPort → DmxPort) : State :=
  s.modMap fun m => { m with ports := modNth m.ports port f }

/-- The clocks in which a number of us has passed. -/
def usTicks (us : Nat) : Nat := nsTicks (us * 1000)

/-- Whether a transmit port is held by DMX_TX_TIED (R419). -/
def State.dmxHeld (s : State) (port : Nat) : Bool := s.flag (.DMX_TX_TIED port) && !s.tiedDrive

/-- DMX_STATE follows the port (R430). A port that is held drops the packet on its line (R419). -/
def State.showDmx (s : State) (port : Nat) : State :=
  let p := s.dmx port
  if p.mode = 1 then s.setReg (.DMX_STATE port) (if p.live then 2 else 1)
  else if p.mode = 2 then
    if s.dmxHeld port then (s.modDmx port fun p => { p with txEnd := none }).setReg (.DMX_STATE port) 4 else s.setReg (.DMX_STATE port) 3
  else s.setReg (.DMX_STATE port) 0

/-- The ports follow a change of who drives (R419, R443). -/
def State.showAllDmx (s : State) : State := (List.range 8).foldl State.showDmx s

/-- Whether the line of a port is in use by a packet or an RDM exchange. -/
def State.dmxBusy (s : State) (port : Nat) : Bool :=
  let p := s.dmx port
  p.txEnd.isSome || Nat.blt s.ticks p.lineFree || p.exchange.any fun x => x.sentAt.isSome

/-- A mode takes effect (R418): a receive port that was live is lost (R420). -/
def State.dmxModeEffect (s : State) (port mode : Nat) : State :=
  let lost := (s.dmx port).live && mode != 1
  let s1 := (s.modDmx port fun p => { p with
    mode := mode, newMode := none, live := p.live && mode == 1, txEnd := none
    txStart := if mode = 2 then p.txStart else none }).showDmx port
  if lost then (s1.post 0xC031 4 port).endSessions 2 fun x => x.source.transport == 1 && x.source.unitPort == port else s1

/-- A written mode that waited takes effect at the end of a packet or an exchange (R418). -/
def State.dmxModeDue (s : State) (port : Nat) : State :=
  match (s.dmx port).newMode with
  | some m => s.dmxModeEffect port m
  | none => s

/-- A write of DMX_MODE (R418). -/
def State.dmxMode (s : State) (port value : Nat) : State :=
  if 8 ≤ port then s.reply 2
  else if 2 < value then s.reply 8
  else
    let s1 := s.setReg (.DMX_MODE port) value
    (if s1.dmxBusy port then s1.modDmx port fun p => { p with newMode := some value } else s1.dmxModeEffect port value).reply 0

/-- DMX_MODE_WRITE. -/
def execDmxModeWrite (dt who port value : Nat) (s : State) : Host.Outcome State Fault Refusal :=
  run s dt fun s => s.asWriter who (.DMX_MODE port) fun s => s.dmxMode port value

/-! Transmission -/

/-- DMX_TX_PACKET: a packet starts with the slots of the last pass completed, DMX_TX_PERIOD_US after the one before or later (R419). -/
def execDmxTxPacket (dt port : Nat) (s : State) : Host.Outcome State Fault Refusal :=
  run s dt fun s =>
    let p := s.dmx port
    let due := match p.txStart with
      | some t => decide (t + usTicks (s.reg (.DMX_TX_PERIOD_US port)) ≤ s.ticks)
      | none => true
    if 8 ≤ port ∨ p.mode ≠ 2 ∨ s.smap.lastPass = none ∨ s.dmxBusy port ∨ due = false then s
    else if s.dmxHeld port then s.showDmx port
    else
      let brk := s.reg (.DMX_TX_BREAK_US port)
      let mab := s.reg (.DMX_TX_MAB_US port)
      let n := s.reg (.DMX_TX_SLOTS port)
      ((s.modDmx port fun p => { p with
        txStart := some s.ticks, txEnd := some (s.ticks + usTicks (brk + mab + (1 + n) * 44)) }).emit
          (.dmx port brk mab ((nth s.smap.dmxOut port []).take n))).showDmx port

/-! RDM packets (E1.20: log entry 40) -/

/-- An RDM packet: start code 0xCC, sub start code 0x01, length, destination, source, transaction number, port ID or response type, message
count, root device, command class, PID, data, and the 16-bit sum of what stands before (R421). -/
def rdmFrame (dest source tn kind messages cls pid : Nat) (data : List Octet) : List Octet :=
  let body := [0xCC, 0x01, BitVec.ofNat 8 (24 + data.length)] ++ beOctets 6 dest ++ beOctets 6 source ++
    [BitVec.ofNat 8 tn, BitVec.ofNat 8 kind, BitVec.ofNat 8 messages, 0, 0, BitVec.ofNat 8 cls] ++ beOctets 2 pid ++ [BitVec.ofNat 8 data.length] ++ data
  body ++ beOctets 2 (body.foldl (fun a b => a + b.toNat) 0 % 65536)

/-- The us an RDM packet of n octets takes, with the least break and mark after break of E1.20. -/
def rdmTime (n : Nat) : Nat := 176 + 12 + n * 44

/-- The UID that stands for every responder. -/
def broadcastUid : Nat := 2 ^ 48 - 1

/-- Whether a destination is a broadcast: to all, or to all of a manufacturer. -/
def rdmBroadcast (dest : Nat) : Bool := dest % 2 ^ 32 == 2 ^ 32 - 1

/-- Whether an exchange draws a response: broadcasts do not, a search of a branch does (R421). -/
def RdmExchange.answered (x : RdmExchange) : Bool :=
  match x.purpose with
  | .branch _ _ => true
  | _ => !rdmBroadcast x.dest

/-- The exchange of a port. -/
def RdmExchange.make (purpose : RdmPurpose) (dest cls pid : Nat) (data : List Octet) : RdmExchange := {
  purpose := purpose, dest := dest, cls := cls, pid := pid, data := data, transaction := 0, resends := 0, joined := [], sentAt := none
  timer := none }

/-- An exchange put in wait for the line. -/
def State.rdmQueue (s : State) (port : Nat) (x : RdmExchange) : State := s.modDmx port fun p => { p with exchange := some x }

/-- A search of the next range; when none is left the discovery is complete (R421). -/
def State.rdmSearch (s : State) (port : Nat) : State :=
  match (s.dmx port).search with
  | (lo, hi) :: rest =>
    (s.modDmx port fun p => { p with search := rest }).rdmQueue port
      (RdmExchange.make (.branch lo hi) broadcastUid 0x10 0x0001 (beOctets 6 lo ++ beOctets 6 hi))
  | [] =>
    ((s.modDmx port fun p => { p with exchange := none }).setReg (.DMX_RDM_DISCOVER port) 2).post 0xC040 2
      (port + (s.dmx port).uids.length * 8)

/-- A range with more than one responder is cut in two (R421). -/
def State.rdmSplit (s : State) (port lo hi : Nat) : State :=
  let mid := (lo + hi) / 2
  (if lo < hi then s.modDmx port fun p => { p with search := (lo, mid) :: (mid + 1, hi) :: p.search } else s).rdmSearch port

/-- A request ends without a response (R421). -/
def State.rdmNoResponse (s : State) (port : Nat) : State :=
  ((s.modDmx port fun p => { p with exchange := none }).setReg (.DMX_RDM_STATUS port) 3).count (.DMXCNT_RDM_NO_RESPONSE port)

/-- The exchange has sent a request that draws no response (R421). -/
def State.rdmUnanswered (s : State) (port : Nat) (x : RdmExchange) : State :=
  match x.purpose with
  | .unMute => s.rdmSearch port
  | _ => (s.modDmx port fun p => { p with exchange := none }).setReg (.DMX_RDM_STATUS port) 0

/-- The waiting exchange is sent (R421). -/
def State.rdmSend (s : State) (port : Nat) (x : RdmExchange) : State :=
  let tn := (s.dmx port).transaction
  let frame := rdmFrame x.dest s.unit.rdmUid tn 1 0 x.cls x.pid x.data
  let leaves := s.ticks + usTicks (rdmTime frame.length)
  let sent := { x with transaction := tn, sentAt := some leaves, timer := none }
  let s1 := ((s.modDmx port fun p => { p with
    transaction := (tn + 1) % 256, lineFree := leaves, exchange := some sent }).emit (.rdm port frame)).count (.DMXCNT_RDM_REQUESTS port)
  if x.answered then s1 else s1.rdmUnanswered port sent

/-- DMX_TX_PACKET_END: the packet is counted; a mode that waits takes effect, or a waiting exchange is sent (R418, R421). -/
def execDmxTxPacketEnd (dt port : Nat) (s : State) : Host.Outcome State Fault Refusal :=
  run s dt fun s =>
    match (s.dmx port).txEnd with
    | none => s
    | some e =>
      if s.ticks < e then s
      else
        let s1 := (s.modDmx port fun p => { p with txEnd := none }).count (.DMXCNT_DMX_TX_PACKETS port)
        if (s1.dmx port).newMode.isSome then s1.dmxModeDue port
        else match (s1.dmx port).exchange with
          | some x => if x.timer.isNone ∧ s1.flag (.DMX_RDM_ENABLE port) then s1.rdmSend port x else s1
          | none => s1

/-- The exchange waits to be sent again, or its request ends with no response (R421). -/
def State.rdmAgain (s : State) (port : Nat) (x : RdmExchange) : State :=
  if x.resends < s.reg (.DMX_RDM_RETRIES port) then
    (s.rdmQueue port { x with resends := x.resends + 1, sentAt := none }).dmxModeDue port
  else
    match x.purpose with
    | .branch _ _ => (s.rdmSearch port).dmxModeDue port
    | .mute _ lo hi => (s.rdmSplit port lo hi).dmxModeDue port
    | .unMute => (s.rdmSearch port).dmxModeDue port
    | .request | .queued => (s.rdmNoResponse port).dmxModeDue port

/-- What DMX_RDM_REQ reads: source UID, response type, command class, PID and data of the last response (log entry 40). -/
def rdmStored (p : RdmPacket) (data : List Octet) : List Octet :=
  beOctets 6 p.source ++ [BitVec.ofNat 8 p.kind, BitVec.ofNat 8 p.cls] ++ beOctets 2 p.pid ++ data

/-- A response completes a request (R421). -/
def State.rdmComplete (s : State) (port : Nat) (p : RdmPacket) (data : List Octet) : State :=
  ((s.modDmx port fun d => { d with exchange := none, response := rdmStored p data }).setReg (.DMX_RDM_STATUS port) 2).dmxModeDue port

/-- A good response to a host request: ACK and NACK complete it, ACK_TIMER waits and asks for the queued message, ACK_OVERFLOW asks again and
joins up to 4 KiB (R421). -/
def State.rdmAnswer (s : State) (port : Nat) (x : RdmExchange) (p : RdmPacket) : State :=
  let joined := x.joined ++ p.data
  if p.kind = 1 then
    (s.rdmQueue port { x with sentAt := none, timer := some (s.ticks + usTicks (100000 * ofBe (p.data.take 2))) }).dmxModeDue port
  else if p.kind = 3 ∧ joined.length < 4096 then
    (s.rdmQueue port { x with sentAt := none, resends := 0, joined := joined }).dmxModeDue port
  else s.rdmComplete port p (if p.kind = 2 then p.data else joined.take 4096)

/-- A UID was muted: kept, or one too many (R421). -/
def State.rdmFound (s : State) (port uid lo hi : Nat) : State :=
  if (s.dmx port).uids.contains uid then s.rdmSearch port
  else if 256 ≤ (s.dmx port).uids.length then
    ((s.modDmx port fun p => { p with exchange := none, search := [] }).setReg (.DMX_RDM_DISCOVER port) 3).post 0xC041 3 port
  else (s.modDmx port fun p => { p with uids := p.uids ++ [uid], search := (lo, hi) :: p.search }).rdmSearch port

/-- A response on the line of a port. -/
def State.rdmResponse (s : State) (port : Nat) (x : RdmExchange) (p : RdmPacket) : State :=
  match x.purpose with
  | .branch lo hi =>
    if p.checksumOk then
      s.rdmQueue port (RdmExchange.make (.mute p.source lo hi) p.source 0x10 0x0002 [])
    else (s.count (.DMXCNT_RDM_CHECKSUM_FAIL port)).rdmSplit port lo hi
  | .mute uid lo hi =>
    if p.checksumOk ∧ p.transaction = x.transaction then s.rdmFound port uid lo hi
    else (s.count (.DMXCNT_RDM_CHECKSUM_FAIL port)).rdmAgain port x
  | .unMute => s
  | .request | .queued =>
    if p.checksumOk ∧ p.transaction = x.transaction then s.rdmAnswer port x p
    else (s.count (.DMXCNT_RDM_CHECKSUM_FAIL port)).rdmAgain port x

/-- RDM_RESPONSE_RECEIVE (R421). -/
def execRdmResponseReceive (dt port : Nat) (p : RdmPacket) (s : State) : Host.Outcome State Fault Refusal :=
  run s dt fun s =>
    match (s.dmx port).exchange with
    | some x => if x.sentAt.isSome then (s.rdmResponse port x p).dmxModeDue port else s
    | none => s

/-- RDM_RESPONSE_TIMEOUT: no response within 2.8 ms (R421). A branch without a response is empty. -/
def execRdmResponseTimeout (dt port : Nat) (s : State) : Host.Outcome State Fault Refusal :=
  run s dt fun s =>
    match (s.dmx port).exchange with
    | some x =>
      match x.sentAt with
      | some t =>
        if s.ticks < t + usTicks 2800 then s
        else match x.purpose with
          | .branch _ _ => (s.rdmSearch port).dmxModeDue port
          | _ => s.rdmAgain port x
      | none => s
    | none => s

/-- RDM_ACK_TIMER_EXPIRY: GET QUEUED_MESSAGE waits for the line (R421). -/
def execRdmAckTimerExpiry (dt port : Nat) (s : State) : Host.Outcome State Fault Refusal :=
  run s dt fun s =>
    match (s.dmx port).exchange with
    | some x =>
      match x.timer with
      | some t =>
        if s.ticks < t then s
        else s.rdmQueue port { x with purpose := .queued, cls := 0x20, pid := 0x0020, data := [0x04], resends := 0, timer := none }
      | none => s
    | none => s

/-- A write of DMX_RDM_REQ (R421): destination UID, command class, PID and up to 231 octets. -/
def State.rdmRequest (s : State) (port dest cls pid : Nat) (data : List Octet) : State :=
  if 8 ≤ port then s.reply 2
  else if 231 < data.length then s.reply 17
  else if (s.dmx port).exchange.isSome ∨ s.reg (.DMX_RDM_DISCOVER port) = 1 then s.reply 10
  else if s.flag (.DMX_RDM_ENABLE port) = false ∨ (s.dmx port).mode ≠ 2 then s.reply 8
  else ((s.rdmQueue port (RdmExchange.make .request dest cls pid data)).setReg (.DMX_RDM_STATUS port) 1).reply 0

/-- RDM_REQUEST. -/
def execRdmRequest (dt who port dest cls pid : Nat) (data : List Octet) (s : State) : Host.Outcome State Fault Refusal :=
  run s dt fun s => s.asWriter who (.DMX_RDM_REQ port) fun s => s.rdmRequest port dest cls pid data

/-- A write of DMX_RDM_DISCOVER (R421): DISC_UN_MUTE to all, then a search of every UID. -/
def State.rdmDiscover (s : State) (port value : Nat) : State :=
  if 8 ≤ port then s.reply 2
  else if value ≠ 1 then s.reply 8
  else if (s.dmx port).exchange.isSome ∨ s.reg (.DMX_RDM_DISCOVER port) = 1 then s.reply 10
  else if s.flag (.DMX_RDM_ENABLE port) = false ∨ (s.dmx port).mode ≠ 2 then s.reply 8
  else
    (((s.modDmx port fun p => { p with uids := [], search := [(0, broadcastUid - 1)] }).rdmQueue port
      (RdmExchange.make .unMute broadcastUid 0x10 0x0003 [])).setReg (.DMX_RDM_DISCOVER port) 1).reply 0

/-- DMX_RDM_DISCOVER. -/
def execDmxRdmDiscover (dt who port value : Nat) (s : State) : Host.Outcome State Fault Refusal :=
  run s dt fun s => s.asWriter who (.DMX_RDM_DISCOVER port) fun s => s.rdmDiscover port value

/-- A write of DMX_RDM_STATUS: 4 aborts a pending request under R176 (R421, R430). -/
def State.rdmAbort (s : State) (port value : Nat) : State :=
  if 8 ≤ port then s.reply 2
  else if value ≠ 4 then s.reply 8
  else if s.reg (.DMX_RDM_STATUS port) = 1 then
    (((s.modDmx port fun p => { p with exchange := none }).setReg (.DMX_RDM_STATUS port) 4).dmxModeDue port).reply 0
  else (s.setReg (.DMX_RDM_STATUS port) 5).reply 15

/-- RDM_ABORT. -/
def execRdmAbort (dt who port value : Nat) (s : State) : Host.Outcome State Fault Refusal :=
  run s dt fun s => s.asWriter who (.DMX_RDM_STATUS port) fun s => s.rdmAbort port value

/-! Reception -/

/-- A valid packet replaces the slots of its port (R420). -/
def State.dmxTake (s : State) (port : Nat) (slots : List Nat) : State :=
  let was := (s.dmx port).live
  let s1 := (((s.modDmx port fun p => { p with slots := slots, live := true, lastValid := s.ticks }).setReg (.DMX_RX_SLOTS port)
    slots.length).count (.DMXCNT_DMX_RX_PACKETS port)).showDmx port
  if was then s1 else s1.post 0xC030 2 port

/-- DMX_RX_PACKET: a packet ends on a receive port (R420). -/
def execDmxRxPacket (dt port startCode : Nat) (slots : List Nat) (framing : Bool) (s : State) : Host.Outcome State Fault Refusal :=
  run s dt fun s =>
    if (s.dmx port).mode ≠ 1 then s
    else if framing then s.count (.DMXCNT_DMX_RX_FRAMING port)
    else if startCode ≠ 0 then s.count (.DMXCNT_DMX_RX_OTHER_START port)
    else s.dmxTake port slots

/-- DMX_RX_LOSS: no valid packet for DMX_RX_LOSS_MS; the sessions of the port end (R420, R474). -/
def execDmxRxLoss (dt port : Nat) (s : State) : Host.Outcome State Fault Refusal :=
  run s dt fun s =>
    let p := s.dmx port
    if p.mode = 1 ∧ p.live ∧ p.lastValid + usTicks (1000 * s.reg (.DMX_RX_LOSS_MS port)) ≤ s.ticks then
      (((s.modDmx port fun p => { p with live := false }).showDmx port).post 0xC031 4 port).endSessions 2
        fun x => x.source.transport == 1 && x.source.unitPort == port
    else s

/-! Responder -/

/-- Whether a request on a receive port is for this unit (R420, R421). -/
def State.rdmForUs (s : State) (port : Nat) (p : RdmPacket) : Bool :=
  (s.dmx port).mode == 1 && s.flag (.DMX_RDM_ENABLE port) && (p.dest == s.unit.rdmUid || p.dest == broadcastUid ||
    (rdmBroadcast p.dest && p.dest / 2 ^ 32 == s.unit.rdmUid / 2 ^ 32))

/-- A response sent (R421): to a broadcast there is none. -/
def State.rdmRespond (s : State) (port : Nat) (p : RdmPacket) (kind : Nat) (data : List Octet) : State :=
  let s1 := s.count (.DMXCNT_RDM_REQUESTS port)
  if rdmBroadcast p.dest then s1
  else s1.emit (.rdm port (rdmFrame p.source s.unit.rdmUid p.transaction kind (min 255 (s.dmx port).queue.length) (p.cls + 1) p.pid data))

/-- The response to DISC_UNIQUE_BRANCH, without break: eight octets 0xFE or less, 0xAA, the UID and its sum coded in two octets each (E1.20, log
entry 40). -/
def branchResponse (uid : Nat) : List Octet :=
  let code := fun (o : List Octet) => (o.map fun b => [b ||| 0xAA, b ||| 0x55]).flatten
  let u := code (beOctets 6 uid)
  List.replicate 7 0xFE ++ [0xAA] ++ u ++ code (beOctets 2 (u.foldl (fun a b => a + b.toNat) 0 % 65536))

/-- The standard parameters of the responder (R421); others answer NACK, unknown PID. -/
def State.rdmStandard (s : State) (port : Nat) (p : RdmPacket) : State :=
  if p.cls = 0x10 then
    if p.pid = 0x0001 then
      let lo := ofBe (p.data.take 6)
      let hi := ofBe (slice p.data 6 6)
      if (s.dmx port).muted ∨ s.unit.rdmUid < lo ∨ hi < s.unit.rdmUid then s
      else (s.count (.DMXCNT_RDM_REQUESTS port)).emit (.rdm port (branchResponse s.unit.rdmUid))
    else if p.pid = 0x0002 then (s.modDmx port fun d => { d with muted := true }).rdmRespond port p 0 [0, 0]
    else if p.pid = 0x0003 then (s.modDmx port fun d => { d with muted := false }).rdmRespond port p 0 [0, 0]
    else s
  else if p.cls = 0x20 ∧ p.pid = 0x0060 then s.rdmRespond port p 0 Config.deviceInfo
  else s.rdmRespond port p 2 [0, 0]

end Sys2Proof.Machine
end

