-- ==== Sys2Proof/Machine/TwinStates.lean ====
section
/-! DEFINITION. The states of a Twin unit and what moves it between them (R439 to R444, R454 to R459). -/

namespace Sys2Proof.Machine

/-- Who drives what is tied follows the claim in force and the admission (R342, R419, R443, R444). -/
def State.tiedUpdate (s : State) : State := (if s.tiedDrive then s.tiedGain else s.tiedRelease).showAllDmx

/-- A state entered, with its claim in one clock on every output (R439, R443). -/
def State.enterTwin (s : State) (n : Nat) : State :=
  (((s.setReg .TWN_STATE n).modTwin fun t => { t with yieldSince := none }).claimFollows).tiedUpdate

/-- The unit counts as the higher: the greater claim, and of equal claims the lower EUI-64 (R442). -/
def State.isHigher (s : State) : Bool :=
  let own := s.reg .TWN_CLAIM
  let other := s.reg .TWN_PARTNER_CLAIM
  Nat.blt other own || (own == other && Nat.blt s.unit.eui64 s.twin.partnerEui)

/-- Uncommitted epochs in which the unit is not in step; with the mirror link down it is in step in none (R458, R460). -/
def State.outOfStep (s : State) : List Epoch :=
  (s.epochs.filter Epoch.uncommitted).filter fun e => !(s.mirrorUp && s.inStep e.epoch)

/-- The next epoch to be presented. -/
def State.nextPresented (s : State) : Option Epoch := s.epochs.find? fun e => !e.shown

/-- Takeover: the unit becomes Active, supersedes every uncommitted epoch in which it was not in step, and becomes the sequencer (R458). -/
def State.takeover (s : State) : State :=
  let gone := s.outOfStep
  let next := s.nextPresented
  let stepped := match next with
    | some e => s.mirrorUp && s.inStep e.epoch
    | none => false
  let s1 := (s.enterTwin 5).modTwin fun t => { t with lastDseq := s.reg .TWN_DSEQ, join := none }
  let s2 := gone.foldl (fun s e => s.squash e.epoch true) s1
  let s3 := if s.reg .TWN_STATE = 3 then s2.setReg .TWN_REJOIN 0 else s2
  ((s3.reprioritise.showQueues).count .TWNCNT_TAKEOVERS).post 0xD004 5
    ((next.map Epoch.epoch).getD 0 + b2n stepped * 65536 + clampNat 255 gone.length * 2 ^ 17)

/-- The states follow the partner claim (R442). -/
def State.settleTwin (s : State) : State :=
  let st := s.reg .TWN_STATE
  let own := s.reg .TWN_CLAIM
  let other := s.reg .TWN_PARTNER_CLAIM
  if (st = 3 ∨ st = 4 ∨ st = 6) ∧ other < own then s.takeover
  else if st = 5 ∧ 128 ≤ other ∧ s.isHigher = false then (s.enterTwin 4).post 0xD00D 4 (own + other * 256)
  else s

/-- The unit becomes an Observer: cause 0 divergence, 1 configuration, 2 re-join failed (R450, R456, R457). -/
def State.observe (s : State) (cause : Nat) : State :=
  let s1 := ((s.enterTwin 6).modTwin fun t => { t with join := none, divergeRun := 0, stepRun := 0 }).count .TWNCNT_DEMOTIONS
  (s1.setReg .TWN_REJOIN 0).post 0xD007 6 cause

/-- An epoch in step and not divergent while joining: after TWN_REJOIN_K of them the unit is in Standby (R457). -/
def State.joinStep (s : State) (epoch : Nat) (good : Bool) : State :=
  if s.reg .TWN_STATE ≠ 3 then s
  else
    let n := if good then s.twin.stepRun + 1 else 0
    let s1 := s.modTwin fun t => { t with stepRun := n }
    if s.reg .TWN_REJOIN_K ≤ n then
      (((s1.enterTwin 4).modTwin fun t => { t with join := none, stepRun := 0, failedSyncs := 0 }).setReg .TWN_REJOIN 0
        |>.count .TWNCNT_REJOINS).post 0xD009 3 ((epoch + 1) % 65536)
    else s1

/-- A divergent epoch (R455, R456). -/
def State.diverged (s : State) (epoch : Nat) : State :=
  let n := s.twin.divergeRun + 1
  let s1 := (s.modTwin fun t => { t with divergeRun := n }).count .TWNCNT_DIVERGENT_EPOCHS
  let s2 := if n = 1 then s1.post 0xD006 4 epoch else s1
  if s.reg .TWN_DIVERGE_K ≤ n ∧ s2.isHigher = false ∧ (s2.reg .TWN_STATE = 3 ∨ s2.reg .TWN_STATE = 4) then s2.observe 0 else s2

/-- Both FRAME_SIG records of an epoch compared, unless comparison was suspended at its presentation (R455). -/
def State.judgeFrame (s : State) (epoch : Nat) : State :=
  match s.twin.frameRecords.find? fun r => r.epoch == epoch with
  | none => s
  | some r =>
    match r.own, r.partner with
    | some a, some b =>
      if r.suspended then s
      else if a = b then (s.modTwin fun t => { t with divergeRun := 0 }).joinStep epoch (s.reg .TWN_INSTEP_EPOCH == epoch || s.inStep epoch)
      else (s.diverged epoch).joinStep epoch false
    | _, _ => s

/-- The unit's FRAME_SIG at T_p of an epoch (R455). -/
def State.frameSig (s : State) (epoch sig mask : Nat) : State :=
  let off := s.compareOff epoch
  let s0 := if s.inPair then s.setBit .TWN_FLAGS 3 off else s
  if s.inPair ∧ s.mirrorUp then
    ((s0.sendMirror 0x21 (leOctets 2 epoch ++ leOctets 4 sig ++ leOctets 8 mask)).recordFrame epoch fun r => { r with
      own := some (sig, mask), suspended := off }).judgeFrame epoch
  else s0

end Sys2Proof.Machine
end

