-- ==== Sys2Proof/Machine/Links.lean ====
section
/-! DEFINITION. The network ports going down (R72, R600), and steps of venue time with what they do to every block (R93, R98, R100, R112,
R267). -/

namespace Sys2Proof.Machine

/-- Frames that waited on a port whose link goes down: forwarded ones count as FWD_NO_LINK (R49). -/
def State.dropQueues (s : State) (port : Nat) : State :=
  let waiting := (nth s.net.ports port NetPort.reset).queues.flatten.filter QueuedFrame.forwarded
  let s1 := if port < 2 then s.count (.NETCNT_FWD_NO_LINK port) waiting.length else s
  s1.modNet fun n => { n with ports := modNth n.ports port fun p => { p with queues := List.replicate 8 [] } }

/-- A port goes down (R72): event 0x2002; the sessions that came over it end (R474), and a servo that follows it enters holdover (R97). -/
def State.portDown (s : State) (port : Nat) : State :=
  if s.linkIsUp port then
    let s1 := (((s.setReg (.NET_LINK_STATE (port + 1)) 0).count (.NETCNT_LINK_DOWN port)).post 0x2002 5 port).dropQueues port
    let s2 := s1.endSessions 2 fun x => x.source.transport == 0 && x.source.unitPort == port
    if s2.reg .TCK_SLAVE_PORT = port + 1 ∧ (s2.reg .TCK_STATE = stLocking ∨ s2.reg .TCK_STATE = stLocked) then s2.enterHoldover 2 else s2
  else s

/-- LINK_DOWN: lock lost, or a fault signalled, for more than 100 us (R72). -/
def execLinkDown (dt port : Nat) (lockLost : Bool) (s : State) : Host.Outcome State Fault Refusal :=
  run s dt fun s =>
    if 3 ≤ port then s
    else if lockLost ∧ s.linkIsUp port then (s.count (.NETCNT_PCS_LOCK_LOSS port)).portDown port
    else s.portDown port

/-- A write of NET_SPEED or NET_FEC (R598, R600): a change takes the port down and relocks its SerDes PLL. -/
def State.portWrite (s : State) (port : Nat) (fec : Bool) (value : Nat) : State :=
  let r := if fec then Reg.NET_FEC (port + 1) else .NET_SPEED (port + 1)
  if 2 ≤ port then s.reply 3
  else if inRange r value = false then s.reply 8
  else if fec = true ∧ value = 2 ∧ s.reg (.NET_SPEED (port + 1)) = 1 then s.reply 8
  else if fec = false ∧ value = 1 ∧ s.reg (.NET_FEC (port + 1)) = 2 then s.reply 8
  else if s.reg r = value then s.reply 0
  else
    let s1 := (((s.portDown port).setReg r value).setBit .SYS_PLL_STATE (port + 1) false).loadTsConst
    let fast := s1.reg (.NET_SPEED (port + 1)) == 0
    (s1.modNet fun n => { n with sfp := modNth n.sfp port fun x => (x.1, fast, fast, x.2.2.2) }).reply 0

/-- PORT_RESTART. -/
def execPortRestart (dt who port : Nat) (fec : Bool) (value : Nat) (s : State) : Host.Outcome State Fault Refusal :=
  run s dt fun s => s.asWriter who (.NET_SPEED (port + 1)) fun s => s.portWrite port fec value

/-! Steps of venue time -/

/-- Instances of comparators 1 to 4 that a forward step passes over, counted as skipped (R112). Comparator 1 has one instance per committed epoch;
2, 3 and 4 one per lamp period. -/
def State.ownSkips (s : State) (old : Nat) (n : Nat) : Nat :=
  if s.time96 ≤ old then 0
  else if n = 1 then
    (s.epochs.filter fun e => match e.stage with
      | .committed links => !links.isEmpty && e.struck.isEmpty && decide (e.tp - strikeLead < s.time96)
      | _ => false).length
  else if s.lantern.gridOn then
    let shift := if n = 3 then nsUnits (s.reg .LAN_ADC_OFFSET) else 0
    s.lampFirst (s.time96 - shift) - s.lampFirst (old - shift)
  else 0

/-- The skips of a comparator that a block of the unit owns, counted and reported (R112). -/
def State.countSkips (s : State) (old n : Nat) : State :=
  let k := s.ownSkips old n
  if k = 0 then s else (s.bump (.CMP_SKIPPED n) k).post 0x3021 3 (n + (k % 2 ^ 32) * 16)

/-- Committed epochs whose strike reference a forward step passes are not struck (R26, R267). -/
def State.passedEpochs (s : State) : State :=
  (s.epochs.filter fun e => match e.stage with
    | .committed links => !links.isEmpty && e.struck.isEmpty && decide (e.tp - strikeLead < s.time96) &&
        !(links.any fun k => (s.link k).strikeWait.isSome)
    | _ => false).foldl (fun s e => (s.withhold e.epoch []).modScan fun n => { n with
      lampNext := if n.lampNext.any fun p => p.1 == e.tp then none else n.lampNext }) s

/-- Venue time stepped by a whole number of 2^-32 ns, in one clock on all three turrets (R100, R102). -/
def State.stepBy (s : State) (step : Int) (again : Bool) : State :=
  let old := s.time96
  let t := (((old : Int) + step) % (2 ^ 96 : Int)).toNat
  let ns : Rat := (step : Rat) / 2 ^ 32
  let move := fun (x : ClockSample) => { x with at_ := x.at_ + ns, offset := x.offset + ns }
  let s1 := s.modClock fun c => { c with
    turrets := c.turrets.map fun u => { u with time := t }, stepped := true, acquire := []
    history := c.history.map move, lastAccepted := c.lastAccepted.map (· + ns), syncDelta := c.syncDelta.map (· + ns)
    lastEdge := c.lastEdge.map fun e => e.map fun x => (((x : Int) + step) % (2 ^ 96 : Int)).toNat }
  let s2 := ((s1.bump .TCK_STEPS).setBit .TCK_FLAGS 0 (!bitOf (s1.reg .TCK_FLAGS) 4)).post 0x3002 3 (b2n again * 2 ^ 41 + satSigned 41 (step / 2 ^ 32))
  let s3 := [1, 2, 3, 4].foldl (fun s n => s.countSkips old n) s2
  let s4 := (List.range 11).foldl (fun s i => s.cmpStep (5 + i) old) s3
  let s5 := (s4.gclStep 0).gclStep 1
  let s6 := if s5.scan.gridOn then (s5.passedEpochs).modeEffect false true State.newGridRef else s5
  let s7 := if s6.reg .SCN_STATE = 1 then s6.setReg .SCN_STATE 2 else s6
  (if s7.timeValid then s7.milestone 8 else s7).lampStep old

/-- FIRST_STEP: 16 samples of ACQUIRE give the rate, within the range of R79, and the step (R93). -/
def execFirstStep (dt : Nat) (s : State) : Host.Outcome State Fault Refusal :=
  run s dt fun s =>
    match s.clock.acquire.getLast? with
    | none => s
    | some last =>
      if s.reg .TCK_STATE ≠ stAcquire ∨ s.clock.acquire.length < 16 then s
      else
        let slope := lsqSlope s.clock.acquire
        let a := max (-200000) (min 200000 (-slope * 1000000000))
        let offset := last.offset + slope * ((s.time96 : Rat) / 2 ^ 32 - last.at_)
        let s1 := (s.modClock fun c => { c with freq := a, applied := [a], lastAccepted := some last.at_ }).setF a
        (s1.stepBy (-(roundRat (offset * 2 ^ 32))) false).setServo stLocking

/-- The samples a re-acquire fits: the last 8 of the 2 s before (R98), newest first. -/
def State.recentSamples (s : State) : List ClockSample :=
  (s.clock.history.filter fun x => decide ((s.time96 : Rat) / 2 ^ 32 - 2000000000 ≤ x.at_)).take 8

/-- REACQUIRE_STEP: at T_r (R98). -/
def execReacquireStep (dt : Nat) (s : State) : Host.Outcome State Fault Refusal :=
  run s dt fun s =>
    let tr := s.reg .TCK_REACQUIRE_AT
    if tr = 0 ∨ s.now < tr then s
    else
      let xs := s.recentSamples
      let s0 := s.setReg .TCK_REACQUIRE_AT 0
      match xs with
      | [] => s0.post 0x3007 4 tr
      | _ =>
        let offset := lsqAt xs ((s.time96 : Rat) / 2 ^ 32)
        let s1 := ((s0.setBit .TCK_FLAGS 1 false).modClock fun c => { c with refusedRun := 0 }).stepBy (-(roundRat (offset * 2 ^ 32))) true
        s1.setServo stLocking

end Sys2Proof.Machine
end

