-- ==== Sys2Proof/Machine/Strike.lean ====
section
/-! DEFINITION. The strike as it leaves, the presentation of an epoch (R24 to R26, R256, R295, R355, R455, R540), and the end of an engine's operation
(R153 to R170). -/

namespace Sys2Proof.Machine

/-! Strike -/

/-- The three copies of STRIKE: OFFSET, claim, epoch, COPY and GEN, APPLY_DELAY (R277, R295). -/
def State.sendStrike (s : State) (link epoch offset2 : Nat) : State :=
  let gen := (s.link link).gen epoch
  let apply := b2n (s.link link).applyDelay
  [0, 1, 2].foldl (fun s i =>
    s.sendBlock link 0x30 [offset2 + 66 * (2 - i), s.claim, epoch % 256, epoch / 256, i * 16 + gen, apply]) s

/-- A STRIKE with APPLY_DELAY puts the new delays in force (R288, R289). -/
def State.applyDelays (s : State) (link : Nat) : State :=
  let l := s.link link
  if l.applyDelay = false then s
  else
    let old := s.reg (.SPL_DELAY link)
    let s1 := l.modules.zipIdx.foldl (fun s p => s.setReg (.SPL_MODULE_LATCH link (p.2 + 1)) p.1.latchNext) (s.setReg (.SPL_DELAY link) l.delayNext)
    let s2 := s1.modLink link fun l => { l with applyDelay := false, remeasured := false }
    if l.remeasured then
      (s2.count (.SPLCNT_DELAY_CHANGES link)).post 0x8804 2 (link + old * 64 + l.delayNext * 2 ^ 18)
    else s2

/-- The first strike of an epoch: the run of withheld epochs ends, and a requested preview is taken (R213, R256, R273). -/
def State.firstStrike (s : State) (e : Epoch) : State :=
  let s1 := s.count .SCNCNT_STRUCK
  let run_ := s.scan.withheldRun
  let s2 := if run_ = 0 then s1
    else (s1.modScan fun n => { n with withheldRun := 0 }).post 0x8011 2 (e.epoch + clampNat (2 ^ 26 - 1) run_ * 65536)
  s2.previewSnapshot e

/-- A link struck again after a run of late epochs (R256). -/
def State.linkStruck (s : State) (e link : Nat) : State :=
  if nth s.scan.linkRun link false then
    (s.modScan fun n => { n with linkRun := setNth n.linkRun link false }).post 0x8013 2 (link + e * 64)
  else s

/-- Whether a strike of an epoch is the first picture (R540). -/
def State.firstPicture (s : State) (e : Epoch) : Bool :=
  !s.sys.pictureSeen && s.sys.releasedAt.isSome && s.timeValid && s.linksTrained && s.calComplete &&
    e.layers.any fun r => match r with
      | .shows _ => true
      | _ => false

/-- Event 0xF003 at the first picture (R540, R541). -/
def State.pictureStruck (s : State) (e : Epoch) : State :=
  if s.firstPicture e then
    let s1 := ({ s with sys := { s.sys with pictureSeen := true } }).milestone 9
    (s1.post 0xF003 2 (e.epoch + clampNat (2 ^ 26 - 1) s1.startMs * 65536)).startUpDone 0
  else s

/-- STRIKE_LEAVE: a link's wait ends. offset2 is the place of the strike mark in the block of COPY 2, 0 to 65 (R295). -/
def execStrikeLeave (dt link offset2 : Nat) (s : State) : Host.Outcome State Fault Refusal :=
  run s dt fun s =>
    match (s.link link).strikeWait with
    | none => s
    | some (n, due) =>
      if 2 * s.ticks + 1 < due ∨ 65 < offset2 then s
      else
        let s1 := (((s.sendStrike link n offset2).applyDelays link).count (.SPLCNT_STRIKES link)).modLink link fun l => { l with
          strikeWait := none, lastStruck := some n, epochs := l.epochs.filter fun x => Nat.blt 32767 ((n + 65536 - x.epoch) % 65536) }
        match s1.epochOf n with
        | none => s1
        | some e =>
          let s2 := if e.struck = [] then s1.firstStrike e else s1
          let s3 := (s2.modEpoch n fun x => { x with struck := link :: x.struck }).linkStruck n link
          (if e.struck = [] then s3.pictureStruck e else s3).refreshClaim

/-! Presentation -/

/-- The layers of an epoch as it was shown: a layer that never resolved shows what it showed before (R134). -/
def Epoch.shownLayers (e : Epoch) : List Resolution :=
  (List.range 8).map fun l => match nth e.layers l .waiting with
    | .waiting => nth e.before l .transparent
    | r => r

/-- The decided epoch whose presentation comes next: its strikes, if any, have left. -/
def State.toPresent (s : State) : Option Epoch :=
  s.epochs.find? fun e => !e.shown && (match e.stage with
    | .committed links => links.all e.struck.contains
    | .withheld => true
    | _ => false)

/-- Epochs leave flight: those presented before a struck one, and a withheld one at once (R24, R26). -/
def State.leaveFlight (s : State) (e : Epoch) : State :=
  let gone := fun (x : Epoch) => if e.struck = [] then x.epoch == e.epoch else x.shown && x.epoch != e.epoch
  let ids := (s.epochs.filter gone).map Epoch.epoch
  (({ s with epochs := s.epochs.filter fun x => !gone x }).modBelfry fun b => { b with live := b.live.filter fun x => !ids.contains x }).collect

/-- The mask of links on which an epoch was struck (R446). -/
def Epoch.mask (e : Epoch) : Nat := ((List.range 64).map fun k => if e.struck.contains k then 2 ^ k else 0).sum

/-- PRESENTATION_INSTANT: T_p of the next decided epoch (R355, R356, R455). -/
def execPresentationInstant (dt : Nat) (s : State) : Host.Outcome State Fault Refusal :=
  run s dt fun s =>
    match s.toPresent with
    | none => s
    | some e =>
      if s.time96 < e.tp then s
      else
        let s1 := (s.modEpoch e.epoch fun x => { x with shown := true }).frameSig e.epoch e.frameSignature e.mask
        let s2 := if e.struck = [] then s1 else s1.oculusPresent e
        (s2.modIngest fun g => { g with lastShown := e.shownLayers }).leaveFlight e

/-! Engines -/

/-- OPERATION_COMPLETE: the result of an engine's operation lands if its epoch is live (R153, R170), its slot is free and its successors have one
dependency fewer. faults are the reads that failed while it ran. -/
def execOperationComplete (dt engine : Nat) (faults : ReadFaults) (s : State) : Host.Outcome State Fault Refusal :=
  run s dt fun s =>
    match s.belfry.slots.find? fun o => match o.stage with
      | .running g _ => g == engine
      | _ => false with
    | none => s
    | some o =>
      let since := match o.stage with
        | .running _ t => t
        | _ => s.ticks
      let s1 :=
        if o.code < 7 then
          match s.epochOf o.epoch with
          | some e => if s.belfry.live.contains o.epoch then s.landPixel e o engine faults else s
          | none => s
        else if o.code = 7 then s.landCue o
        else s.landBackground o faults
      ((s1.finishOp o engine since).resume).showQueues

end Sys2Proof.Machine
end

