-- ==== Sys2Proof/Machine/Restart.lean ====
section
/-! DEFINITION. Resets (R526 to R532), and the memory errors that end in one (R365, R385, R386, R402). -/

namespace Sys2Proof.Machine

/-- Start-up and supplies changed. -/
def State.modSys (s : State) (f : Sys → Sys) : State := { s with sys := f s.sys }

/-- Images and the update changed. -/
def State.modUpdate (s : State) (f : Update → Update) : State := { s with update := f s.update }

/-- The chain changed. -/
def State.modChain (s : State) (f : Chain → Chain) : State := { s with chain := f s.chain }

/-- What a reset keeps: the flash with its profiles, access record, log, backups, boot record and image area (R502), the trims with the
count of their writes and the identity of the unit (R238, R240), and across a warm reset the retained image (R389, R526). Events of the clock of the reset are logged before it (R517). Counters,
entries, venue time and every other state start again. -/
def State.restarted (s : State) (warm : Bool) : State :=
  let s := s.settle
  let r := State.reset
  let t : State := { r with
    unit := s.unit, log := s.log, cal := { r.cal with trims := s.cal.trims }
    idp := { r.idp with slots := s.idp.slots, installKey := s.idp.installKey, integratorKey := s.idp.integratorKey, finKey := s.idp.finKey }
    chain := { r.chain with slots := s.chain.slots, wordAt := s.ticks }
    update := { r.update with
      boot := s.update.boot, keep := s.update.keep, area := s.update.area, retained := if warm then s.update.retained else none
      fellBack := s.update.fellBack, recovered := s.update.recovered }
    sys := { r.sys with
      holds := s.sys.holds, cause := s.sys.cause, warm := warm, startedAt := s.ticks, railFaults := s.sys.railFaults
      railsLocked := s.sys.railsLocked, retryAt := s.sys.retryAt, lastFault := s.sys.lastFault, nextProfile := s.sys.nextProfile }
    ticks := s.ticks, fresh := s.fresh, out := s.out, pending := s.pending }
  t.setReg .CAL_TRIM_WRITES (s.reg .CAL_TRIM_WRITES)

/-- A source sets its bit of SYS_RESET_CAUSE (R531, R532). -/
def State.addCause (s : State) (bit : Nat) : State := s.modSys fun y => { y with cause := setBitTo y.cause bit true }

/-- A cold source: the unit is reset, and stays so while it is held (R526, R531). -/
def State.coldReset (s : State) (bit : Nat) : State := (s.addCause bit).restarted false

/-- A warm source: one warm reset; while a reset runs it is merged into that reset (R526, R531). -/
def State.warmReset (s : State) (bit : Nat) : State :=
  if s.sys.releasedAt.isNone then s.addCause bit else (s.addCause bit).restarted true

/-- CONTROL_SRAM_ERROR: a single-bit error, which is corrected (R380), or a double-bit error in an area of R365 (0 slots, 1 safety table, 2 microcode, 3 other) at a word address. For the safety table:
the copy it falls in, whether the other copy fails too and whether a reload verifies. -/
def execControlSramError (dt area address copy : Nat) (single otherFails reloadOk : Bool) (s : State) : Host.Outcome State Fault Refusal :=
  run s dt fun s => if single then s.count .OCUCNT_CONTROL_SRAM_CORRECTED else
    let s1 := (s.count .OCUCNT_CONTROL_SRAM_UNCORRECTED).post 0xA020 7 (area % 4 + address % 2 ^ 20 * 4)
    if area % 4 = 0 then
      (((s1.epochs.filter Epoch.uncommitted).foldl (fun s e => s.squash e.epoch true) s1).reprioritise).showQueues
    else if area % 4 = 1 then s1.safetyCopies (copy == 0 || otherFails) (copy != 0 || otherFails) reloadOk
    else if area % 4 = 2 then (((s1.modBelfry fun b => { b with reload := true }).setReg .BEL_STATE 1).arbMode 3).reloadEngines
    else s1.warmReset 7

/-- DRAM_READ_ERROR: an uncorrectable link error in a read of a port; whether the repeat is clean; and the zone of a read of the live set (R385,
R386). What the other requesters do with a poisoned read stands in the commands in which they read. -/
def execDramReadError (dt port address : Nat) (repeatClean : Bool) (zone : Option Nat) (s : State) : Host.Outcome State Fault Refusal :=
  run s dt fun s =>
    if repeatClean then s.count .MEMCNT_READ_RETRIES
    else
      let s1 := (s.count .MEMCNT_READ_POISONED).post 0xB002 6 (address % 2 ^ 31 + port % 16 * 2 ^ 31)
      if port = 6 ∨ port = 7 then s1.warmReset 7
      else match zone with
        | some z => s1.requestPass z
        | none => s1

/-- GRANT_HOLD_RESTART: a grant held for 100 us restarts the unit (R402, R527). -/
def execGrantHoldRestart (dt : Nat) (s : State) : Host.Outcome State Fault Refusal :=
  run s dt fun s =>
    if s.mem.owner.isSome ∧ s.mem.grantAt + nsTicks 100000 ≤ s.ticks then s.warmReset 8 else s

end Sys2Proof.Machine
end

