-- ==== Sys2Proof/Machine/Images.lean ====
section
/-! DEFINITION. Firmware images (R506, R507), the image area and the boot record (R502, R503), and the messages of the chain protocol (R494, R495). -/

namespace Sys2Proof.Machine

/-! Images -/

/-- A block of the image area: what has been written since the factory, else the factory's. -/
def State.areaBlock (s : State) (k : Nat) : List Octet :=
  match s.update.area.find? fun p => p.1 == k with
  | some p => p.2
  | none => Config.factoryImage k

/-- Fields of the header of an image (R506). -/
def imageField (image : List (List Octet)) (at_ n : Nat) : Nat := ofLe (slice (nth image 0 []) at_ n)

/-- BLOCKS of a header, 1 to 6,144. -/
def imageBlocks (image : List (List Octet)) : Nat := max 1 (min 6144 (imageField image 12 2))

/-- The image in the image area. -/
def State.areaImage (s : State) : List (List Octet) := (List.range (imageBlocks [s.areaBlock 0])).map fun k => s.areaBlock k

/-- The signed message of an image: its signature field read as 0 (R507). -/
def signedMessage (image : List (List Octet)) : List Octet :=
  let b := nth image 0 []
  b.take 160 ++ List.replicate 64 0 ++ b.drop 224 ++ (image.drop 1).flatten

/-- IMAGE_ID (R507). -/
def imageId (image : List (List Octet)) : Nat := ofLe ((sha512 (signedMessage image)).take 8)

/-- A section of an image: kind, first block, length, CRC-32C. -/
structure ImageSection where
  kind : Nat
  first : Nat
  length : Nat
  crc : Nat
  deriving DecidableEq, Repr

/-- The eight section entries (R506). -/
def imageSections (image : List (List Octet)) : List ImageSection :=
  (List.range 8).map fun i =>
    ⟨imageField image (32 + 16 * i) 1, imageField image (36 + 16 * i) 4, imageField image (40 + 16 * i) 4, imageField image (44 + 16 * i) 4⟩

/-- The octets of a section. -/
def sectionOctets (image : List (List Octet)) (x : ImageSection) : List Octet := ((image.drop x.first).flatten).take x.length

/-- Whether every section CRC verifies (R507). -/
def sectionsOk (image : List (List Octet)) : Bool :=
  (imageSections image).all fun x => x.kind == 0 || crcOf crc32c (sectionOctets image x) == x.crc

/-- Whether an image carries a section of a kind. -/
def hasSection (image : List (List Octet)) (kind : Nat) : Bool := (imageSections image).any fun x => x.kind == kind

/-- Whether an image is verified (R507). -/
def State.imageOk (s : State) (image : List (List Octet)) : Bool :=
  imageField image 0 4 == 0x4D495A49 && imageField image 4 2 == 1 && imageField image 6 2 == s.reg .DIC_BEHAVIOUR_LEVEL &&
    Config.imageSignatureOk (imageField image 14 2) (signedMessage image) (slice (nth image 0 []) 160 64) && sectionsOk image

/-- A block written to the image area. -/
def State.putArea (s : State) (k : Nat) (data : List Octet) : State :=
  s.modUpdate fun u => { u with area := (k, data) :: u.area.filter fun p => p.1 != k }

/-- The image area restored from the retained area, block by block (R511). -/
def State.restoreArea (s : State) : State :=
  match s.update.retained with
  | some image => image.zipIdx.foldl (fun s p => s.putArea p.2 p.1) s
  | none => s

/-! The boot record -/

/-- NET_IPV4_ACTIVE: the static address, or the one derived from the chain address (R39). -/
def State.showIp (s : State) : State :=
  let a := s.reg .CHN_ADDRESS
  s.setReg .NET_IPV4_ACTIVE (if s.reg .NET_IPV4_MODE = 0 then s.reg .NET_IPV4_STATIC
    else if a = 0 then 0 else s.reg .NET_IPV4_BASE / 65536 * 65536 + a)

/-- The update entries and the address follow the boot record (R39, R492, R519). -/
def State.showBoot (s : State) : State :=
  match s.update.boot with
  | none => s
  | some b =>
    ((((s.setReg .UPD_STATE b.state).setReg .UPD_PENDING_ID b.pendingId).setReg .UPD_ACTIVATE_AT (if b.state = 1 ∨ b.state = 2 then b.tAct else 0)).setReg
      .CHN_ADDRESS b.address).showIp

/-- The boot record written: its GENERATION rises with each write (R503). -/
def State.writeBoot (s : State) (f : BootRecord → BootRecord) : State :=
  (s.modUpdate fun u => { u with
    boot := u.boot.map fun b => { f b with generation := (b.generation + 1) % 2 ^ 32 } }).showBoot

/-- STATE of the boot record. -/
def State.bootState (s : State) : Nat := (s.update.boot.map BootRecord.state).getD 0

/-- The retained area holds the image of RETAINED_HASH (R504). -/
def State.retainedOk (s : State) : Bool :=
  match s.update.retained, s.update.boot with
  | some image, some b => sha512 image.flatten == b.retainedHash
  | _, _ => false

/-! Messages -/

/-- The chain address in force (R492). -/
def State.address (s : State) : Nat := s.reg .CHN_ADDRESS

/-- A message of the chain protocol (R494). SEQ counts per type. -/
def State.chainOctets (s : State) (kind image : Nat) (payload : List Octet) : List Octet × State :=
  let seq := ((s.chain.seqs.find? fun p => p.1 == kind).map (·.2)).getD 0
  let body := leOctets 2 0x4E43 ++ leOctets 1 1 ++ leOctets 1 kind ++ leOctets 2 s.address ++ leOctets 2 payload.length ++ leOctets 8 s.unit.eui64 ++
    leOctets 8 image ++ leOctets 4 seq ++ leOctets 4 0 ++ payload
  (body ++ leOctets 4 (crcOf crc32c body),
    s.modChain fun c => { c with seqs := (kind, (seq + 1) % 2 ^ 32) :: c.seqs.filter fun p => p.1 != kind })

/-- A message to a neighbour. -/
def State.sendChain (s : State) (netb : Bool) (mac kind image : Nat) (payload : List Octet) : State :=
  let (o, s1) := s.chainOctets kind image payload
  s1.emit (.chain (b2n netb) mac o)

/-- A message broadcast from both chain ports. -/
def State.castChain (s : State) (kind image : Nat) (payload : List Octet) : State :=
  let (o, s1) := s.chainOctets kind image payload
  (s1.emit (.chain 0 0xFFFFFFFFFFFF o)).emit (.chain 1 0xFFFFFFFFFFFF o)

/-- A received message whose CHECK fails is discarded and counted (R494). -/
def State.chainMessage (s : State) (h : ChainHead) (f : State → State) : State :=
  if h.checkOk then f s else s.count .CHNCNT_MSG_CHECK_FAIL

/-- The neighbour on a side: its MAC-48 (R496). -/
def State.neighbourMac (s : State) (up : Bool) : Nat := if up then s.chain.upMac else s.chain.downMac

/-- Whether a neighbour on a side is known. -/
def State.hasNeighbour (s : State) (up : Bool) : Bool :=
  if up then s.reg (.CHN_UPSTREAM 1) != 0 else s.reg (.CHN_DOWNSTREAM 1) != 0

end Sys2Proof.Machine
end

