-- ==== Sys2Proof/Machine/Profiles.lean ====
section
/-! DEFINITION. Stored profiles and the access record (R483 to R489): capturing the persistent entries, saving, creating, and the keys. -/

namespace Sys2Proof.Machine

/-! Capturing -/

/-- Every index that some row of the dictionary names. -/
def dictIndexes : List Nat :=
  ((List.range 16).flatMap fun i => (dictRowsOf (4096 * i)).flatMap fun r => (List.range (r.indexHi + 1 - r.indexLo)).map (r.indexLo + ·)).foldl
    (fun acc i => if acc.head? = some i then acc else i :: acc) [] |>.reverse

/-- Octets of words, each of so many octets. -/
def wordOctets (n : Nat) (l : List Nat) : List Octet := (l.map fun w => leOctets n w).flatten

/-- The administrative DOMAIN entries that a profile holds (R246, R408, R483). -/
def State.domainOctets (s : State) (index : Nat) : List Octet :=
  if index = 0xC000 then wordOctets 16 s.smap.admin else wordOctets 8 (nth s.scan.mapAdmin (index - 0x8100) [])

/-- Whether an entry is a DOMAIN a profile holds. -/
def domainEntry (index : Nat) : Bool := index == 0xC000 || (Nat.ble 0x8100 index && Nat.ble index 0x813F)

/-- The record of an entry, if a profile holds any of it (R483). -/
def State.captureEntry (s : State) (index : Nat) : Option ProfileRecord :=
  if domainEntry index then some ⟨index, 0, 0x10, s.domainOctets index⟩
  else
    match persistentElements index with
    | [] => none
    | els => some ⟨index, 0, entryCode index, (els.map fun e =>
        leOctets e.2 (if commandElement ⟨index, e.1⟩ then 0 else s.reg ⟨index, e.1⟩)).flatten⟩

/-- The persistent entries in ascending index (R483, R484). -/
def State.persistents (s : State) : List ProfileRecord := dictIndexes.filterMap s.captureEntry

/-- The persistent entries of the factory profile for a role (R483, R487). -/
def factoryRecords (role : Nat) : List ProfileRecord :=
  let s0 := State.reset.setReg .DIC_ROLE role
  let s1 := (List.range 64).foldl (fun s k => s.setReg (.SPL_LINK_ENABLE k) (1 - role)) s0
  ((List.range 512).foldl (fun s c => s.setReg (.LAN_CH_ENABLE c) role) s1).persistents

/-! Saving -/

/-- The entries that show the stored profiles (R489). -/
def State.showProfiles (s : State) : State :=
  (List.range 4).foldl (fun s n =>
    match s.storedProfile n with
    | some p =>
      ((((s.setReg (.PROFILE_VALID n) 1).setReg (.PROFILE_ROLE n) p.role).setReg (.PROFILE_GENERATION n) p.generation).setReg (.PROFILE_SAVED n)
        p.saved).setReg (.PROFILE_SOURCE n) p.source
    | none =>
      ((((s.setReg (.PROFILE_VALID n) 0).setReg (.PROFILE_ROLE n) 0).setReg (.PROFILE_GENERATION n) 0).setReg (.PROFILE_SAVED n) 0).setReg
        (.PROFILE_SOURCE n) 0) s

/-- A slot that holds no profile in force (R483). -/
def State.freeSlotOf (s : State) : Nat :=
  let used := (List.range 4).filterMap fun n => (s.slotInForce n).map (·.1)
  ((List.range 5).find? fun i => !used.contains i).getD 0

/-- A save begins: the image takes a GENERATION one above that of the profile's slot in force (R486). -/
def State.beginSave (s : State) (n role : Nat) (records : List ProfileRecord) : State :=
  let gen := ((s.storedProfile n).map fun p => p.generation + 1).getD 1
  let p : ProfileImage := {
    profile := n, role := role, level := s.reg .DIC_BEHAVIOUR_LEVEL, generation := gen % 2 ^ 32, saved := s.now, source := s.unit.eui64
    records := records, check := 0 }
  (s.modIdp fun i => { i with save := some ⟨s.freeSlotOf, { p with check := crcOf crc32c (slotBody p) }⟩ }).setReg .DIC_PROFILE_STATUS 1

/-- A save asked for: refused while one runs (R486). -/
def State.saveProfile (s : State) (n role : Nat) (records : List ProfileRecord) : State :=
  if s.idp.save.isSome then s.reply 10 else (s.beginSave n role records).reply 0

/-- A write of DIC_PROFILE_SAVE (R486). -/
def State.profileSave (s : State) (value : Nat) : State :=
  if value < 4 then s.saveProfile value (s.reg .DIC_ROLE) s.persistents else s.reply 8

/-- DIC_PROFILE_SAVE written. -/
def execDicProfileSave (dt who value : Nat) (s : State) : Host.Outcome State Fault Refusal :=
  run s dt fun s => s.asWriter who .DIC_PROFILE_SAVE fun s => s.profileSave value

/-- A commit of DIC_PROFILE_CREATE (R487). -/
def State.profileCreate (s : State) (value : Nat) : State :=
  if value = 1 then
    s.saveProfile (s.reg (.DIC_PROFILE_CREATE 1)) (s.reg (.DIC_PROFILE_CREATE 2)) (factoryRecords (s.reg (.DIC_PROFILE_CREATE 2)))
  else if value = 0 then s.reply 0
  else s.reply 8

/-- DIC_PROFILE_CREATE committed. -/
def execDicProfileCreate (dt who value : Nat) (s : State) : Host.Outcome State Fault Refusal :=
  run s dt fun s => s.asWriter who (.DIC_PROFILE_CREATE 3) fun s => s.profileCreate value

/-- PROFILE_SAVE_DONE: whether the image read back as written (R486). -/
def execProfileSaveDone (dt : Nat) (ok : Bool) (s : State) : Host.Outcome State Fault Refusal :=
  run s dt fun s =>
    match s.idp.save with
    | none => s
    | some x =>
      let s1 := s.modIdp fun i => { i with save := none }
      if ok then
        (((s1.modIdp fun i => { i with slots := setNth i.slots x.slot (some x.image) }).setReg .DIC_PROFILE_STATUS 2).count
          .DICCNT_PROFILE_SAVES).showProfiles.post 0x1020 2 (x.image.profile + x.image.generation * 4)
      else ((s1.setReg .DIC_PROFILE_STATUS 3).count .DICCNT_PROFILE_SAVE_FAIL).post 0x1021 5 x.image.profile

/-! Restart and keys -/

/-- A write of DIC_RESTART (R489, R527). -/
def State.restartWrite (s : State) (value : Nat) : State := if value = 1 then (s.reply 0).warmReset 5 else s.reply 8

/-- DIC_RESTART written. -/
def execDicRestart (dt who value : Nat) (s : State) : Host.Outcome State Fault Refusal :=
  run s dt fun s => s.asWriter who .DIC_RESTART fun s => s.restartWrite value

/-- The identification of a key held, 0 where there is none (R489). -/
def heldKeyId (key : List Octet) : Nat := if key = [] then 0 else keyId key

/-- The entries that identify the keys (R488). -/
def State.showKeys (s : State) : State :=
  ((s.setReg .DIC_INSTALL_KEY_ID (heldKeyId s.idp.installKey)).setReg .DIC_INSTALL_KEY_STATE (b2n (s.idp.installKey != []))).setReg
    .DIC_SERVICE_KEY_ID (heldKeyId s.idp.integratorKey)

/-- Whether a writer may change the installation key: level 2, level 1 proven with the present key, or level 1 while none is set (R489). -/
def State.mayInstall (s : State) (who : Nat) : Bool :=
  Nat.ble 2 (s.levelOf who) || (Nat.ble 1 (s.levelOf who) && (s.idp.installKey == [] || s.idp.sessions.any fun x => x.number == who && x.provedKey))

/-- A write of DIC_INSTALL_KEY: 32 octets, all zero to clear it (R489). -/
def State.installKey (s : State) (who : Nat) (key : List Octet) : State :=
  if s.mayInstall who = false then s.reply 6
  else if key.length ≠ 32 then s.reply 5
  else
    let k := if key.all (· == 0) then [] else key
    (((s.modIdp fun i => { i with installKey := k }).showKeys).post 0x1008 5 (heldKeyId k)).reply 0

/-- DIC_INSTALL_KEY written. -/
def execDicInstallKey (dt who : Nat) (key : List Octet) (s : State) : Host.Outcome State Fault Refusal :=
  run s dt fun s => s.installKey who key

/-- A write of DIC_SERVICE_KEY_INTEGRATOR: 65 octets, or none to clear it (R489). -/
def State.integratorKey (s : State) (key : List Octet) : State :=
  if key.length ≠ 65 ∧ key ≠ [] then s.reply 5
  else (((s.modIdp fun i => { i with integratorKey := key }).showKeys).post 0x1009 5 (heldKeyId key)).reply 0

/-- DIC_SERVICE_KEY_INTEGRATOR written. -/
def execDicServiceKeyIntegrator (dt who : Nat) (key : List Octet) (s : State) : Host.Outcome State Fault Refusal :=
  run s dt fun s => s.asWriter who .DIC_SERVICE_KEY_INTEGRATOR fun s => s.integratorKey key

end Sys2Proof.Machine
end

