-- ==== Sys2Proof/Machine/Chain.lean ====
section
/-! DEFINITION. Chain addresses: CHAIN_IN, discovery, and the taking of addresses (R492 to R498), and the requests for backups (R499 to R501). -/

namespace Sys2Proof.Machine

/-- Position of an address (R492). -/
def position (a : Nat) : Nat := a % 256

/-- Milliseconds in clocks. -/
def msTicks (n : Nat) : Nat := usTicks (1000 * n)

/-- Whether the firmware runs: the Drum takes events only then (R533). -/
def State.firmwareRuns (s : State) : Bool := s.reg .SYS_STATE == 3

/-! Sending -/

/-- The profile in force and its GENERATION, as DISCOVER names them (R495). -/
def State.profileWord (s : State) : List Octet :=
  let n := s.reg .DIC_PROFILE_ACTIVE
  leOctets 1 n ++ leOctets 1 0 ++ leOctets 4 ((s.storedProfile n).map ProfileImage.generation |>.getD 0)

/-- A DISCOVER sent (R495, R496). -/
def State.discover (s : State) : State :=
  let flags := (if s.firmwareRuns then 0 else 2) + (if s.reg .UPD_STATE = 0 then 0 else 4)
  (s.castChain 0x01 0 (leOctets 1 (s.address / 256) ++ leOctets 1 flags ++ s.profileWord ++ leOctets 4 (s.reg .UPD_RUNNING_SEQ))).modChain fun c => { c with
    discoverAt := s.ticks }

/-- DISCOVER_SEND: every CHN_DISCOVER_MS by a unit that holds an address (R496). -/
def execDiscoverSend (dt : Nat) (s : State) : Host.Outcome State Fault Refusal :=
  run s dt fun s =>
    if s.address ≠ 0 ∧ s.chain.discoverAt + msTicks (s.reg .CHN_DISCOVER_MS) ≤ s.ticks then s.discover else s

/-! Backups wanted -/

/-- A BACKUP_REQUEST to a neighbour for the backup of an address (R499, R500). The ephemeral key is a new one. -/
def State.askBackup (s : State) (up adopt : Bool) (address : Nat) : State :=
  let (n, s1) := s.takeFree
  let side := b2n (!up)
  let sender := if up then s.reg (.CHN_UPSTREAM 1) else s.reg (.CHN_DOWNSTREAM 1)
  (s1.sendChain (!up) (s.neighbourMac up) 0x10 0 (leOctets 2 address ++ leOctets 1 side ++ Config.wrapKey n)).modChain fun c => { c with
    rx := ⟨side, sender, address, [], adopt, n⟩ :: c.rx.filter fun r => r.side != side }

/-- The backup in force of a side: the valid slot of highest generation (R499). -/
def State.backupOf (s : State) (side : Nat) : Option BackupSlot :=
  (s.chain.slots.filterMap id).foldl (fun best b =>
    if b.side ≠ side then best
    else match best with
      | some x => if x.generation < b.generation then some b else best
      | none => some b) none

/-- CHN_BACKUP of a side follows the backup in force (R518). -/
def State.showBackup (s : State) (side : Nat) : State :=
  match s.backupOf side with
  | some b =>
    let r := fun (k : Nat) => Reg.mk (0xE00A + side) k
    ((((s.setReg (r 1) 1).setReg (r 2) b.backup.address).setReg (r 3) b.backup.image.source).setReg (r 4) b.backup.image.profile).setReg (r 5)
      b.backup.image.generation
  | none => s

/-- A neighbour whose sender or generation differs from the backup held is asked for its profile, by the firmware (R499). -/
def State.wantBackup (s : State) (up : Bool) (h : Heard) : State :=
  let side := b2n (!up)
  let held := (s.backupOf side).any fun b => b.backup.sender == h.sender && b.backup.image.generation == h.generation
  if held ∨ s.firmwareRuns = false ∨ (s.chain.rx.any fun r => r.side == side && r.sender == h.sender) then s else s.askBackup up false h.address

/-- Adoption: once the unit holds an address it asks its upstream neighbour for the backup of that address (R501). -/
def State.adoptAsk (s : State) : State :=
  if s.chain.adopting ∧ s.chain.asked.isNone ∧ s.chain.confirmed then
    let up := s.hasNeighbour true
    (s.askBackup up true s.address).modChain fun c => { c with asked := some (b2n (!up), s.ticks) }
  else s

/-! Addresses -/

/-- An address taken in one clock: the boot record, the events, and the sessions on the chain ports (R497, R498). -/
def State.takeAddress (s : State) (new kind : Nat) : State :=
  let old := s.address
  let s1 := (s.writeBoot fun b => { b with address := new }).modChain fun c => { c with confirmed := true, conflictAt := none }
  let s2 := ((s1.setReg .CHN_STATE 2).setReg .CHN_ADDR_PROPOSED 0).count .CHNCNT_ADDRESS_CHANGES
  let s3 := s2.post 0xE001 2 (new + kind * 65536)
  let s4 := if old = 0 then s3
    else (s3.post 0xE002 4 (new + old * 65536)).endSessions 2 fun x => x.source.transport == 0 && Nat.blt x.source.unitPort 2
  s4.discover.adoptAsk

/-- A case of R497 holds for an address: confirmed if it is the one in force, held under CHN_READDRESS 1, else taken (R498). -/
def State.offerAddress (s : State) (new kind : Nat) : State :=
  if new = s.address then
    (if s.reg .CHN_STATE = 3 then s.modChain fun c => { c with confirmed := true }
      else (s.setReg .CHN_STATE 2).modChain fun c => { c with confirmed := true }).adoptAsk
  else if s.address ≠ 0 ∧ s.reg .CHN_READDRESS = 1 then
    if s.reg .CHN_ADDR_PROPOSED = new then s
    else ((s.setReg .CHN_ADDR_PROPOSED new).modChain fun c => { c with proposedCase := kind }).post 0xE002 4 (new + s.address * 65536 + 2 ^ 32)
  else s.takeAddress new kind

/-- Whether CHAIN_IN has been idle for so many milliseconds. -/
def State.idleFor (s : State) (ms : Nat) : Bool := s.chain.idle && Nat.ble (s.chain.wordAt + msTicks ms) s.ticks

/-- The follower case: an addressed upstream unit whose DISCOVER came within 2 s; behind position 255 there is no address, which is posted once
(R497). -/
def State.follow (s : State) : State :=
  match s.chain.word with
  | none => s
  | some w =>
    let from_ := w.chain * 256 + w.position
    let heard := s.chain.heard.any fun h =>
      !h.netb && h.address == from_ && h.sender % 2 ^ 32 == w.euiLow && Nat.ble s.ticks (h.heardAt + msTicks 2000)
    if s.chain.idle ∨ w.addressed = false ∨ heard = false then s
    else if w.position = 255 then
      if s.chain.endSeen then s else (s.modChain fun c => { c with endSeen := true }).post 0xE004 4 w.chain
    else (s.modChain fun c => { c with endSeen := false }).offerAddress (from_ + 1) 1

/-! CHAIN_IN -/

/-- A neighbour in Keep, seen once (R516). -/
def State.keepNotice (s : State) (up now : Bool) : State :=
  let seen := if up then s.chain.keepSeen.1 else s.chain.keepSeen.2
  let s1 := s.modChain fun c => { c with keepSeen := if up then (now, c.keepSeen.2) else (c.keepSeen.1, now) }
  if now ∧ seen = false ∧ s.firmwareRuns then s1.post 0xE030 5 (b2n (!up)) else s1

/-- CHAIN_IN_WORD: a 64-bit word of CHAIN_IN (R493). -/
def execChainInWord (dt word : Nat) (s : State) : Host.Outcome State Fault Refusal :=
  run s dt fun s =>
    if field word 63 60 ≠ 11 ∨ field word 7 0 ≠ crcOf crc8 (beOctets 7 (word / 256)) then s
    else
      let w : ChainWord := ⟨bitOf word 59, bitOf word 58, bitOf word 57, field word 55 48, field word 47 40, field word 39 8⟩
      ((s.modChain fun c => { c with word := some w, wordAt := s.ticks, idle := false }).keepNotice true w.inKeep).follow

/-- CHAIN_IN_IDLE: no valid word for four word times (R493). -/
def execChainInIdle (dt : Nat) (s : State) : Host.Outcome State Fault Refusal :=
  run s dt fun s =>
    if s.chain.idle = false ∧ s.chain.wordAt + 262144 ≤ s.ticks then s.modChain fun c => { c with idle := true, wordAt := s.ticks } else s

/-! Discovery -/

/-- The upstream neighbour: the sender whose low 32 bits are the EUI_LOW of CHAIN_IN (R496). -/
def State.upstreamHeard (s : State) (h : Heard) : State :=
  match s.chain.word with
  | some w =>
    if !s.chain.idle && !h.netb && h.sender % 2 ^ 32 == w.euiLow then
      (((s.setReg (.CHN_UPSTREAM 1) h.sender).setReg (.CHN_UPSTREAM 2) h.address).modChain fun c => { c with upMac := h.mac }).wantBackup true h
    else s
  | none => s

/-- The downstream neighbour: it sends on NETB from the address behind the unit's own (R496). -/
def State.downstreamHeard (s : State) (h : Heard) (inKeep : Bool) : State :=
  if h.netb ∧ s.address ≠ 0 ∧ h.address = s.address + 1 then
    ((((s.setReg (.CHN_DOWNSTREAM 1) h.sender).setReg (.CHN_DOWNSTREAM 2) h.address).modChain fun c => { c with downMac := h.mac }).keepNotice false
      inKeep).wantBackup false h
  else s

/-- A DISCOVER with the unit's own address from another sender (R498). -/
def State.conflictHeard (s : State) (h : Heard) : State :=
  if h.address = 0 ∨ h.address ≠ s.address ∨ h.sender = s.unit.eui64 then s
  else
    let s1 := s.modChain fun c => { c with conflictAt := some s.ticks }
    if s.reg .CHN_STATE = 3 then s1
    else ((s1.setReg .CHN_STATE 3).count .CHNCNT_CONFLICTS).post 0xE003 5 (h.address + h.sender % 2 ^ 26 * 65536)

/-- DISCOVER: chain number, flags, profile in force and its GENERATION (R495 to R498). -/
def execChainDiscover (dt : Nat) (h : ChainHead) (chain flags profile generation : Nat) (s : State) : Host.Outcome State Fault Refusal :=
  run s dt fun s => s.chainMessage h fun s =>
    let x : Heard := ⟨h.netb, h.address, h.sender, bitOf flags 0, chain, profile, generation, h.mac, s.ticks⟩
    let s1 := s.modChain fun c => { c with heard := (x :: c.heard.filter fun y => !(y.netb == h.netb && y.sender == h.sender)).take 16 }
    let s2 := ((s1.upstreamHeard x).downstreamHeard x (bitOf flags 1)).conflictHeard x
    if bitOf flags 0 ∧ h.netb = false ∧ s2.idleFor 1000 then s2.offerAddress (chain % 256 * 256 + 1) 0 else s2.follow

/-- DISCOVER_BACK: an address offered from behind (R497). -/
def execDiscoverBack (dt : Nat) (h : ChainHead) (euiLow address : Nat) (s : State) : Host.Outcome State Fault Refusal :=
  run s dt fun s => s.chainMessage h fun s =>
    if h.netb ∧ euiLow = s.unit.eui64 % 2 ^ 32 ∧ s.address = 0 ∧ s.idleFor 2000 then s.offerAddress address 2 else s

/-- DISCOVER_BACK_SEND (R497). -/
def execDiscoverBackSend (dt : Nat) (s : State) : Host.Outcome State Fault Refusal :=
  run s dt fun s =>
    match s.chain.word with
    | none => s
    | some w =>
      let before := s.address - 1
      let heard := s.chain.heard.any fun h => h.address == before && Nat.blt s.ticks (h.heardAt + msTicks 2000)
      if 2 ≤ position s.address ∧ s.chain.idle = false ∧ w.addressed = false ∧ heard = false ∧ s.chain.backAt + msTicks 1000 ≤ s.ticks then
        let (o, s1) := s.chainOctets 0x02 0 (leOctets 4 w.euiLow ++ leOctets 2 before)
        (s1.emit (.chain 0 0xFFFFFFFFFFFF o)).modChain fun c => { c with backAt := s.ticks }
      else s

/-- A write of CHN_ADDR_ACCEPT (R498). -/
def State.addrAccept (s : State) (value : Nat) : State :=
  if value ≠ 1 then s.reply 8
  else if s.reg .CHN_ADDR_PROPOSED = 0 then s.reply 15
  else (s.takeAddress (s.reg .CHN_ADDR_PROPOSED) s.chain.proposedCase).reply 0

/-- CHN_ADDR_ACCEPT written. -/
def execChnAddrAccept (dt who value : Nat) (s : State) : Host.Outcome State Fault Refusal :=
  run s dt fun s => s.asWriter who .CHN_ADDR_ACCEPT fun s => s.addrAccept value

/-- CONFLICT_CLEAR: 5 s without a conflicting DISCOVER (R498). -/
def execConflictClear (dt : Nat) (s : State) : Host.Outcome State Fault Refusal :=
  run s dt fun s =>
    match s.chain.conflictAt with
    | some t =>
      if t + msTicks 5000 ≤ s.ticks then
        (s.modChain fun c => { c with conflictAt := none }).setReg .CHN_STATE (if s.chain.confirmed then 2 else 1)
      else s
    | none => s

end Sys2Proof.Machine
end

