-- ==== Sys2Proof/Machine/Update.lean ====
section
/-! DEFINITION. Firmware images on the chain (R508 to R516): offers, relay, verification, activation, health, and recovery from a neighbour. -/

namespace Sys2Proof.Machine

/-- Low bits of an image identity in an event. -/
def idBits (id : Nat) : Nat := id % 2 ^ 42

/-- The running update changed. -/
def State.modRun (s : State) (f : UpdateRun → UpdateRun) : State := s.modUpdate fun u => { u with run := u.run.map f }

/-- The relays of the running update changed. -/
def State.modRelay (s : State) (up : Bool) (f : Relay → Relay) : State :=
  s.modRun fun r => { r with relays := r.relays.map fun x => if x.up = up then f x else x }

/-! Offers -/

/-- The payload of an OFFER (R495). -/
def Offer.payload (o : Offer) : List Octet :=
  leOctets 2 o.level ++ leOctets 4 o.seq ++ leOctets 2 o.blocks ++ leOctets 8 o.tAct ++ leOctets 4 o.healthS ++ leOctets 1 o.forward

/-- The neighbours an offer goes on to: downstream under 1 or 3, upstream under 2 or 3, never back to its sender (R509). -/
def State.relaySides (s : State) (source forward : Nat) : List Bool :=
  ([true, false].filter fun up => if up then bitOf forward 1 else bitOf forward 0).filter fun up =>
    s.hasNeighbour up && !(source == 1 && up) && !(source == 2 && !up)

/-- The offer passed on, and a relay for each neighbour (R509, R510). -/
def State.passOffer (s : State) (source : Nat) (o : Offer) : State :=
  let sides := s.relaySides source o.forward
  let s1 := s.modRun fun r => { r with relays := sides.map fun up => ⟨up, false, [], [], 0, s.ticks⟩ }
  sides.foldl (fun s up => s.sendChain (!up) (s.neighbourMac up) 0x20 o.imageId o.payload) s1

/-- The first reply of R509 that applies. -/
def State.offerReply (s : State) (o : Offer) : Nat :=
  if o.level ≠ s.reg .DIC_BEHAVIOUR_LEVEL then 1
  else if o.seq < s.reg .UPD_RUNNING_SEQ ∧ s.flag .UPD_ALLOW_OLDER = false then 2
  else if o.tAct < s.now + 10000000000 then 5
  else if o.imageId = s.reg .UPD_PENDING_ID ∨ o.imageId = s.reg .UPD_RUNNING_ID then 4
  else if s.bootState ≠ 0 ∨ s.flag .UPD_AUTO_ACCEPT = false then 3
  else 0

/-- An update begins: STATE is RELAYING (R508, R509). -/
def State.beginUpdate (s : State) (source host : Nat) (o : Offer) : State :=
  let s1 := s.writeBoot fun b => { b with state := 1, pendingId := o.imageId, tAct := o.tAct, healthS := o.healthS }
  (s1.modUpdate fun u => { u with run := some ⟨source, host, o, false, 0, []⟩, lateUntil := none }).setReg .UPD_BLOCKS_DONE 0

/-- A recovery offer, of T_act 0: only a unit in FETCHING that asked its sender takes it; only the level is judged (R509, R516). -/
def State.recoveryOffer (s : State) (h : ChainHead) (o : Offer) : State :=
  let take := fun (s : State) => s.sendChain h.netb h.mac 0x21 o.imageId (leOctets 1 (if o.level = s.reg .DIC_BEHAVIOUR_LEVEL then 0 else 1))
  match s.update.fetch with
  | some f =>
    if s.bootState = 6 ∧ f.target = h.address ∧ f.offer.isNone then
      let s1 := take s
      if o.level = s.reg .DIC_BEHAVIOUR_LEVEL then s1.modUpdate fun u => { u with fetch := some { f with offer := some o, next := 0 } } else s1
    else s
  | none => s

/-- An OFFER from a neighbour (R509). -/
def execImageOffer (dt : Nat) (h : ChainHead) (level seq blocks tAct healthS forward : Nat) (s : State) : Host.Outcome State Fault Refusal :=
  run s dt fun s => s.chainMessage h fun s =>
    let o : Offer := ⟨h.imageId, level, seq, blocks, tAct, healthS, forward⟩
    if tAct = 0 then s.recoveryOffer h o
    else if s.bootState = 7 then
      if level = s.reg .DIC_BEHAVIOUR_LEVEL ∧ s.update.fetch.isNone then
        (s.sendChain h.netb h.mac 0x21 h.imageId (leOctets 1 0)).modUpdate fun u => { u with fetch := some ⟨h.address, s.ticks, s.ticks, some o, 0⟩ }
      else s.sendChain h.netb h.mac 0x21 h.imageId (leOctets 1 (if level = s.reg .DIC_BEHAVIOUR_LEVEL then 3 else 1))
    else
      let reply := s.offerReply o
      let s1 := s.sendChain h.netb h.mac 0x21 h.imageId (leOctets 1 reply)
      if reply = 0 then
        let source := if h.netb then 2 else 1
        ((s1.beginUpdate source 0 o).post 0xE021 2 (idBits o.imageId)).passOffer source o
      else if reply = 1 then s1.post 0xE020 4 (1 + o.imageId % 2 ^ 34 * 256)
      else s1

/-! Sending blocks -/

/-- A BLOCK sent to a neighbour, resends included in the count (R510, R520). -/
def State.sendBlockTo (s : State) (up : Bool) (image k : Nat) (data : List Octet) : State :=
  (s.sendChain (!up) (s.neighbourMac up) 0x22 image (leOctets 2 k ++ data ++ leOctets 4 (crcOf crc32c data))).count .CHNCNT_BLOCKS_FORWARDED

/-- Queued blocks leave while fewer than 32 are unacknowledged (R510). -/
def State.drainRelay (up : Bool) : Nat → State → State
  | 0, s => s
  | n + 1, s =>
    match s.update.run with
    | none => s
    | some r =>
      match r.relays.find? fun x => x.up == up with
      | none => s
      | some x =>
        match x.queued with
        | (k, d) :: rest =>
          if x.accepted && Nat.blt x.unacked.length 32 then
            State.drainRelay up n ((s.modRelay up fun x => { x with queued := rest, unacked := x.unacked ++ [(k, s.ticks, d)] }).sendBlockTo up
              r.offer.imageId k d)
          else s
        | [] => s

/-- A block handed to every relay (R510). -/
def State.forwardBlock (s : State) (k : Nat) (data : List Octet) : State :=
  match s.update.run with
  | none => s
  | some r => r.relays.foldl (fun s x => State.drainRelay x.up 32 (s.modRelay x.up fun x => { x with queued := x.queued ++ [(k, data)] })) s

/-- The relay to a side runs from now on. -/
def State.acceptRelay (s : State) (up : Bool) : State :=
  State.drainRelay up 32 (s.modRelay up fun x => { x with accepted := true, ackAt := s.ticks })

/-- The relay to a side ends. -/
def State.dropRelay (s : State) (up : Bool) : State := s.modRun fun r => { r with relays := r.relays.filter fun x => x.up != up }

/-- A block of a rescue image sent to the neighbour that fetches (R516). -/
def State.sendRescue (s : State) (x : Rescue) (k : Nat) : State :=
  let d := nth x.blocks k []
  ((s.sendChain x.netb x.dest 0x22 (imageId x.blocks) (leOctets 2 k ++ d ++ leOctets 4 (crcOf crc32c d))).modUpdate fun u => { u with
    rescue := some { x with next := k, sentAt := s.ticks } }).count .CHNCNT_BLOCKS_FORWARDED

/-- OFFER_REPLY: a neighbour takes the relay, or does not (R509); one that fetches takes the rescue image (R516). -/
def execOfferReply (dt : Nat) (h : ChainHead) (reply : Nat) (s : State) : Host.Outcome State Fault Refusal :=
  run s dt fun s => s.chainMessage h fun s =>
    match s.update.rescue.filter fun x => x.netb == h.netb && x.dest == h.mac with
    | some x => if reply = 0 then s.sendRescue { x with ackAt := s.ticks } 0 else s.modUpdate fun u => { u with rescue := none }
    | none => if reply = 0 then s.acceptRelay !h.netb else s.dropRelay !h.netb

/-! The end of an update -/

/-- The update abandoned: the image area restored, ABORT to the neighbours of R509 (R515). -/
def State.abandon (s : State) : State :=
  let run_ := s.update.run
  let id := (run_.map fun r => r.offer.imageId).getD (s.reg .UPD_PENDING_ID)
  let sides := (run_.map fun r => s.relaySides r.source r.offer.forward).getD []
  let s1 := sides.foldl (fun s up => s.sendChain (!up) (s.neighbourMac up) 0x24 id []) s
  let s2 := (s1.restoreArea.modUpdate fun u => { u with run := none, lateUntil := none }).writeBoot fun b => { b with state := 0 }
  (s2.setReg .UPD_LAST_RESULT 3).post 0xE028 3 (idBits id)

/-- Not activated: the unit stays on its image and restores the image area (R512). -/
def State.notActivated (s : State) (result arg : Nat) : State :=
  let s1 := (s.restoreArea.modUpdate fun u => { u with run := none, lateUntil := none }).writeBoot fun b => { b with state := 0 }
  (s1.setReg .UPD_LAST_RESULT result).post 0xE025 5 arg

/-- UPD_START_COMMIT (R508). -/
def State.startCommit (s : State) (who value : Nat) : State :=
  let tAct := s.reg .UPD_START_TACT
  let blocks := s.reg .UPD_START_BLOCKS
  if value ≠ 1 then s.reply 8
  else if tAct < s.now + 60000000000 ∨ s.now + 604800000000000 < tAct ∨ blocks = 0 ∨ 6144 < blocks ∨ s.bootState ≠ 0 then s.reply 8
  else
    let host := ((s.idp.sessions.find? fun x => x.number == who).map fun x => x.source.address).getD 0
    let o : Offer := ⟨s.reg .UPD_START_ID, 0, 0, blocks, tAct, s.reg .UPD_START_HEALTH_S, s.reg .UPD_START_FORWARD⟩
    let (octets, s1) := (s.beginUpdate 0 host o).chainOctets 0x21 o.imageId (leOctets 1 0)
    (s1.emit (.host host octets)).reply 0

/-- UPD_START_COMMIT written. -/
def execUpdStartCommit (dt who value : Nat) (s : State) : Host.Outcome State Fault Refusal :=
  run s dt fun s => s.asWriter who .UPD_START_COMMIT fun s => s.startCommit who value

/-! Receiving blocks -/

/-- The acknowledgement of a block, to the neighbour or to the host (R510). -/
def State.ackBlock (s : State) (h : ChainHead) (host : Option Nat) (k status : Nat) : State :=
  let p := leOctets 2 k ++ leOctets 1 status
  match host with
  | some a =>
    let (o, s1) := s.chainOctets 0x23 h.imageId p
    s1.emit (.host a o)
  | none => s.sendChain h.netb h.mac 0x23 h.imageId p

/-- The reply that block 0 of a host's image takes, 6 where BLOCKS disagrees (R508). -/
def State.hostReply (s : State) (o : Offer) (blocks : Nat) : Nat :=
  if o.level ≠ s.reg .DIC_BEHAVIOUR_LEVEL then 1
  else if o.seq < s.reg .UPD_RUNNING_SEQ ∧ s.flag .UPD_ALLOW_OLDER = false then 2
  else if o.tAct < s.now + 10000000000 then 5
  else if o.imageId = s.reg .UPD_RUNNING_ID then 4
  else if o.blocks ≠ blocks then 6
  else 0

/-- Block 0 judged against the host's start or the offer (R508); false where the update is abandoned. -/
def State.judgeBlock0 (s : State) (r : UpdateRun) (data : List Octet) : State × Bool :=
  let level := imageField [data] 6 2
  let seq := imageField [data] 8 4
  let blocks := imageField [data] 12 2
  if r.source = 0 then
    let o := { r.offer with level := level, seq := seq }
    let reply := s.hostReply o blocks
    if reply = 0 then
      (((s.modRun fun r => { r with offer := o, judged := true }).post 0xE021 2 (idBits o.imageId)).passOffer 0 o, true)
    else ((s.abandon).post 0xE020 4 (reply + o.imageId % 2 ^ 34 * 256), false)
  else if level = r.offer.level ∧ seq = r.offer.seq ∧ blocks = r.offer.blocks then (s.modRun fun r => { r with judged := true }, true)
  else (s.abandon, false)

/-- A block written to the image area, or not: the last two steps of R510. -/
def State.writeBlock (s : State) (h : ChainHead) (host : Option Nat) (k : Nat) (data : List Octet) (flashOk : Bool) : State :=
  if flashOk then
    (((s.putArea k data).count .CHNCNT_BLOCKS_RECEIVED).setReg .UPD_BLOCKS_DONE (k + 1)).ackBlock h host k 0
  else (s.count .CHNCNT_FLASH_ERRORS).ackBlock h host k 2

/-- A block of the running update (R510). -/
def State.runBlock (s : State) (r : UpdateRun) (h : ChainHead) (k crc : Nat) (data : List Octet) (flashOk : Bool) : State :=
  let host := if r.source = 0 then some r.host else none
  if (r.source = 1 ∧ h.netb) ∨ (r.source = 2 ∧ h.netb = false) then s
  else if crc ≠ crcOf crc32c data then (s.count .CHNCNT_BLOCK_CHECK_FAIL).ackBlock h host k 1
  else if k < r.next then s.ackBlock h host k 0
  else if k ≠ r.next ∨ r.offer.blocks ≤ k then s
  else
    let (s1, go) := if k = 0 ∧ r.judged = false then s.judgeBlock0 r data else (s, true)
    if go then
      let s2 := (s1.forwardBlock k data).writeBlock h host k data flashOk
      if flashOk then s2.modRun fun r => { r with next := k + 1 } else s2
    else s1

/-- A block of an image fetched: written without forwarding (R516). -/
def State.fetchBlock (s : State) (f : Fetch) (h : ChainHead) (k crc : Nat) (data : List Octet) (flashOk : Bool) : State :=
  if crc ≠ crcOf crc32c data then (s.count .CHNCNT_BLOCK_CHECK_FAIL).ackBlock h none k 1
  else if k < f.next then s.ackBlock h none k 0
  else if k ≠ f.next then s
  else
    let s1 := s.writeBlock h none k data flashOk
    if flashOk then s1.modUpdate fun u => { u with fetch := some { f with next := k + 1 } } else s1

/-- BLOCK: number, data, CRC-32C of the data, and whether the flash reads back as written within two writes (R510). -/
def execImageBlock (dt : Nat) (h : ChainHead) (block crc : Nat) (data : List Octet) (flashOk : Bool) (s : State) : Host.Outcome State Fault Refusal :=
  run s dt fun s => s.chainMessage h fun s =>
    match s.update.fetch with
    | some f => if f.offer.isSome then s.fetchBlock f h block crc data flashOk else s
    | none =>
      match s.update.run with
      | some r => s.runBlock r h block crc data flashOk
      | none => s

/-! Acknowledgements -/

/-- A block sent again to a neighbour: as it was sent, or from the image area where its acknowledgement has come before (R510). -/
def State.resendBlock (s : State) (up : Bool) (k : Nat) : State :=
  match s.update.run with
  | none => s
  | some r =>
    let sent := (((r.relays.find? fun x => x.up == up).map Relay.unacked).getD []).find? fun p => p.1 == k
    (s.modRelay up fun x => { x with unacked := x.unacked.map fun p => if p.1 = k then (k, s.ticks, p.2.2) else p }).sendBlockTo up r.offer.imageId k
      ((sent.map fun p => p.2.2).getD (s.areaBlock k))

/-- BLOCK_ACK: 0 releases the next block, 1 and 2 have it sent again (R510). -/
def execBlockAck (dt : Nat) (h : ChainHead) (block status : Nat) (s : State) : Host.Outcome State Fault Refusal :=
  run s dt fun s => s.chainMessage h fun s =>
    match s.update.rescue.filter fun x => x.netb == h.netb && x.dest == h.mac with
    | some x =>
      if block ≠ x.next then s
      else if status ≠ 0 then s.sendRescue x block
      else if x.blocks.length ≤ block + 1 then s.modUpdate fun u => { u with rescue := none }
      else s.sendRescue { x with ackAt := s.ticks } (block + 1)
    | none =>
      let up := !h.netb
      if status = 0 then
        State.drainRelay up 32 (s.modRelay up fun x => { x with
          unacked := x.unacked.filter fun p => p.1 != block, lastAck := block, ackAt := s.ticks })
      else s.resendBlock up block

/-- BLOCK_RESEND: blocks without acknowledgement for 200 ms (R510). -/
def execBlockResend (dt : Nat) (s : State) : Host.Outcome State Fault Refusal :=
  run s dt fun s =>
    let late := fun (t : Nat) => Nat.ble (t + msTicks 200) s.ticks
    let s1 := ((s.update.run.map UpdateRun.relays).getD []).foldl (fun s x =>
      (x.unacked.filter fun p => late p.2.1).foldl (fun s p => s.resendBlock x.up p.1) s) s
    match s.update.rescue with
    | some x => if late x.sentAt then s1.sendRescue x x.next else s1
    | none => s1

/-- RELAY_STALL: a neighbour that has acknowledged nothing for 10 s (R510). -/
def execRelayStall (dt : Nat) (s : State) : Host.Outcome State Fault Refusal :=
  run s dt fun s =>
    let late := fun (t : Nat) => Nat.ble (t + msTicks 10000) s.ticks
    let stalled := ((s.update.run.map UpdateRun.relays).getD []).filter fun x => !x.unacked.isEmpty && late x.ackAt
    let s1 := stalled.foldl (fun s x => (s.dropRelay x.up).post 0xE024 4 (b2n x.up + x.lastAck % 2 ^ 13 * 2)) s
    match s.update.rescue with
    | some x => if late x.ackAt then (s1.modUpdate fun u => { u with rescue := none }).post 0xE024 4 (b2n (!x.netb) + x.next % 2 ^ 13 * 2) else s1
    | none => s1

/-! Fetching -/

/-- The neighbour a fetch names (R516). -/
def State.fetchTarget (s : State) (second : Bool) : Nat :=
  if s.address = 0 then 0 else if second ∨ position s.address = 1 then s.address + 1 else s.address - 1

/-- Whether the ROM loader runs: no Keep copy verifies (R505). -/
def State.romLoader (s : State) : Bool := s.update.keep == (false, false)

/-- fetch(): HALTED after two images, else FETCHING and a broadcast (R516). The ROM loader takes FETCHES as 0 (R505). -/
def State.fetchImage (s : State) : State :=
  if s.romLoader = false ∧ (s.update.boot.map BootRecord.fetches).getD 0 = 2 then
    (s.writeBoot fun b => { b with state := 7 }).modUpdate fun u => { u with fetch := none, boots := 3 }
  else
    let target := s.fetchTarget false
    let s1 := s.writeBoot fun b => { b with state := 6, fetches := if s.romLoader then 1 else b.fetches + 1 }
    let s2 := s1.modUpdate fun u => { u with boots := 0, fetch := some ⟨target, s.ticks, s.ticks, none, 0⟩ }
    if target = 0 then s2 else s2.castChain 0x30 0 (leOctets 2 target)

/-- FETCH_RETRY: each second, and the other neighbour after 5 s; a unit without an address takes one first (R516). The ROM loader repeats the
fetch every 60 s (R505). -/
def execFetchRetry (dt : Nat) (s : State) : Host.Outcome State Fault Refusal :=
  run s dt fun s =>
    match s.update.fetch with
    | some f =>
      if f.offer.isNone ∧ s.bootState = 6 ∧ s.address ≠ 0 ∧ f.sentAt + msTicks 1000 ≤ s.ticks then
        let since := if f.target = 0 ∨ (s.romLoader ∧ f.since + msTicks 60000 ≤ s.ticks) then s.ticks else f.since
        let target := s.fetchTarget (Nat.ble (since + msTicks 5000) s.ticks)
        (s.modUpdate fun u => { u with
          fetch := some { f with target := target, since := since, sentAt := s.ticks } }).castChain 0x30 0 (leOctets 2 target)
      else s
    | none => s

/-- FETCH: the unit named offers its confirmed image: of the image area in CONFIRMED, else the retained one (R516). -/
def execImageFetch (dt : Nat) (h : ChainHead) (address : Nat) (s : State) : Host.Outcome State Fault Refusal :=
  run s dt fun s => s.chainMessage h fun s =>
    let image := if s.bootState = 0 then some s.areaImage else s.update.retained
    match image with
    | some x =>
      if address = s.address ∧ s.address ≠ 0 ∧ s.firmwareRuns then
        let o : Offer := ⟨imageId x, imageField x 6 2, imageField x 8 4, imageBlocks x, 0, 0, 0⟩
        (s.sendChain h.netb h.mac 0x20 o.imageId o.payload).modUpdate fun u => { u with rescue := some ⟨h.netb, h.mac, x, 0, s.ticks, s.ticks⟩ }
      else s
    | none => s

/-! Verification -/

/-- An image fetched: booted on trial if it verifies (R516), the Keep copies first where neither verified (R505); else fetched again. -/
def State.fetchVerified (s : State) : State :=
  let image := s.areaImage
  if s.imageOk image then
    let s1 := (s.writeBoot fun b => { b with pendingId := imageId image, state := 4, attempts := 1 })
    let s1 := if s.bootState = 6 then s1.count .CHNCNT_FETCHES else s1
    let s2 := s1.modUpdate fun u => { u with fetch := none, boots := 1, recovered := s.update.boot.map BootRecord.fetches }
    if s.romLoader then
      (s2.modUpdate fun u => { u with keep := (hasSection image 5, hasSection image 5) }).warmReset 6
    else s2
  else s.fetchImage

/-- IMAGE_VERIFIED: the image area read back after the last block (R511). -/
def execImageVerified (dt : Nat) (s : State) : Host.Outcome State Fault Refusal :=
  run s dt fun s =>
    match s.update.fetch with
    | some f => if f.offer.any fun o => Nat.ble o.blocks f.next then s.fetchVerified else s
    | none =>
      match s.update.run with
      | none => s
      | some r =>
        if r.next < r.offer.blocks ∨ s.bootState ≠ 1 then s
        else if s.imageOk s.areaImage ∧ imageId s.areaImage = r.offer.imageId then
          (s.writeBoot fun b => { b with state := 2 }).post 0xE022 3 (idBits r.offer.imageId)
        else
          let s1 := (s.restoreArea.modUpdate fun u => { u with run := none }).writeBoot fun b => { b with state := 0 }
          s1.post 0xE023 5 (idBits r.offer.imageId)

/-! Abort -/

/-- Whether an update is under way that activation has not ended (R515). -/
def State.updating (s : State) : Bool := s.bootState == 1 || s.bootState == 2

/-- ABORT from a neighbour (R515). -/
def execChainAbort (dt : Nat) (h : ChainHead) (s : State) : Host.Outcome State Fault Refusal :=
  run s dt fun s => s.chainMessage h fun s => if s.updating then s.abandon else s

/-- A write of UPD_ABORT (R515). -/
def State.updAbort (s : State) (value : Nat) : State :=
  if value ≠ 1 then s.reply 8 else if s.updating then (s.abandon).reply 0 else s.reply 15

/-- UPD_ABORT written. -/
def execUpdAbort (dt who value : Nat) (s : State) : Host.Outcome State Fault Refusal :=
  run s dt fun s => s.asWriter who .UPD_ABORT fun s => s.updAbort value

/-! Activation and health -/

/-- ACTIVATION: voted time has reached T_act; without TIME_VALID then, it may follow within 60 s (R512). -/
def execActivation (dt : Nat) (s : State) : Host.Outcome State Fault Refusal :=
  run s dt fun s =>
    let tAct := (s.update.boot.map BootRecord.tAct).getD 0
    if s.updating = false ∨ s.now < tAct then s
    else if s.bootState = 1 then s.notActivated 2 0
    else if s.update.lateUntil.any (Nat.blt · s.ticks) then s.notActivated 6 1
    else if s.timeValid then ((s.writeBoot fun b => { b with state := 3 }).count .CHNCNT_ACTIVATIONS).warmReset 6
    else s.modUpdate fun u => { u with lateUntil := some (u.lateUntil.getD (s.ticks + msTicks 60000)) }

/-- ACTIVATION_WINDOW_EXPIRY: 60 s after T_act without TIME_VALID (R512). -/
def execActivationWindowExpiry (dt : Nat) (s : State) : Host.Outcome State Fault Refusal :=
  run s dt fun s =>
    match s.update.lateUntil with
    | some t => if t ≤ s.ticks ∧ s.bootState = 2 then s.notActivated 6 1 else s
    | none => s

/-- The new image confirmed (R513). -/
def State.confirm (s : State) : State :=
  let image := s.update.running
  let s1 := s.modUpdate fun u => { u with
    retained := some image, healthEnd := none, keep := if hasSection image 5 then (true, true) else u.keep }
  let s2 := s1.writeBoot fun b => { b with retainedHash := sha512 image.flatten, confirmedId := imageId image, fetches := 0, state := 0 }
  (s2.setReg .UPD_LAST_RESULT 1).post 0xE026 3 (idBits (imageId image))

/-- Every condition of health (R513). -/
def State.healthy (s : State) : Bool :=
  (if s.sys.role = 1 then s.sys.lampSeen else s.sys.pictureSeen) && s.timeValid && s.reg .CHN_STATE == 2 &&
    (s.reg (.NET_LINK_STATE 1) != 0 || s.reg (.NET_LINK_STATE 2) != 0) && s.reg .BEL_STATE == 2 && s.reg .MEM_STATE == 2

/-- HEALTH_CONFIRMED (R513, R515). -/
def execHealthConfirmed (dt : Nat) (s : State) : Host.Outcome State Fault Refusal :=
  run s dt fun s =>
    match s.update.healthEnd with
    | some t => if s.bootState = 4 ∧ s.healthy ∧ s.ticks ≤ t then s.confirm else s
    | none => s

/-- A write of UPD_CONFIRM (R513). -/
def State.updConfirm (s : State) (value : Nat) : State :=
  if value ≠ 1 then s.reply 8 else if s.bootState = 4 then (s.confirm).reply 0 else s.reply 15

/-- UPD_CONFIRM written. -/
def execUpdConfirm (dt who value : Nat) (s : State) : Host.Outcome State Fault Refusal :=
  run s dt fun s => s.asWriter who .UPD_CONFIRM fun s => s.updConfirm value

/-- Fallback: 0 the window ended, 1 rejected (R514). -/
def State.fallback (s : State) (cause : Nat) : State :=
  (((s.writeBoot fun b => { b with state := 5 }).modUpdate fun u => { u with fellBack := some cause }).count .CHNCNT_FALLBACKS).warmReset 6

/-- A write of UPD_REJECT (R514, R515). -/
def State.updReject (s : State) (value : Nat) : State :=
  if value ≠ 1 then s.reply 8 else if s.bootState = 4 then (s.reply 0).fallback 1 else s.reply 15

/-- UPD_REJECT written. -/
def execUpdReject (dt who value : Nat) (s : State) : Host.Outcome State Fault Refusal :=
  run s dt fun s => s.asWriter who .UPD_REJECT fun s => s.updReject value

/-- HEALTH_WINDOW_END (R514). -/
def execHealthWindowEnd (dt : Nat) (s : State) : Host.Outcome State Fault Refusal :=
  run s dt fun s =>
    match s.update.healthEnd with
    | some t => if s.bootState = 4 ∧ t ≤ s.ticks then s.fallback 0 else s
    | none => s

end Sys2Proof.Machine
end

