-- ==== Sys2Proof/Machine/Apply.lean ====
section
/-! DEFINITION. The application of a profile: the pairs of R598, and the three passes of R599. -/

namespace Sys2Proof.Machine

/-! Pairs of entries that bound each other (R598) -/

/-- Whether the pairs that an entry belongs to lie within their range (R598). -/
def State.pairsOk (s : State) (index : Nat) : Bool :=
  if index = 0x3024 ∨ index = 0x3025 then Nat.ble (s.reg .TCK_LOCK_NS) (s.reg .TCK_JUMP_NS)
  else if index = 0x2013 ∨ index = 0x2031 then (List.range 8).all fun c => Nat.ble (s.reg (.NET_TC_MAX_FRAME (c + 1))) (s.reg .NET_MAX_FRAME)
  else if index = 0x9004 ∨ index = 0x9005 then decide (s.regInt .LAN_KNEE + 16 ≤ s.regInt .LAN_CUTOFF)
  else if index = 0x2010 ∨ index = 0x2011 then
    (List.range 2).all fun p => !(s.reg (.NET_SPEED (p + 1)) == 1 && s.reg (.NET_FEC (p + 1)) == 2)
  else if 0x4100 ≤ index ∧ index ≤ 0x4107 then Nat.ble (s.reg (.ING_TIMEOUT (index - 0x4100))) (s.reg (.ING_LEAD_MIN (index - 0x4100)))
  else true

/-- The entries of the pairs, pair by pair. -/
def pairEntries : List (List Nat) :=
  [[0x2010, 0x2011], [0x2013, 0x2031], [0x3024, 0x3025], [0x9004, 0x9005]] ++ (List.range 8).map fun l => [0x4100 + l]

/-! Pass 1 -/

/-- A record not applied: event 0x1024 (R599). -/
def State.recordFailed (s : State) (index sub pass : Nat) : State := s.post 0x1024 5 (index + sub % 256 * 2 ^ 16 + pass * 2 ^ 24)

/-- The elements of a record with their values. -/
def recordValues (r : ProfileRecord) : List (Reg × Nat) :=
  (persistentElements r.index).filterMap fun e =>
    (elementPlace (persistentElements r.index) e.1 0).map fun q => (⟨r.index, e.1⟩, ofLe (slice r.value q.1 q.2))

/-- Whether an element may take a value: one within its stated range, or its default. -/
def mayTake (r : Reg) (v : Nat) : Bool := v == dictDefault r || inRange r v

/-- An entry back at its default. -/
def State.revertEntry (s : State) (index : Nat) : State :=
  (persistentElements index).foldl (fun s e => s.setReg ⟨index, e.1⟩ (dictDefault ⟨index, e.1⟩)) s

/-- Words of so many octets. -/
def octetWords (n : Nat) (o : List Octet) : List Nat := (List.range (o.length / n)).map fun i => ofLe (slice o (i * n) n)

/-- A record of a DOMAIN entry: the administrative copy of the signal map or of a link's map (R246, R409). -/
def State.applyDomain (s : State) (r : ProfileRecord) : State :=
  let n := if r.index = 0xC000 then 16 else 8
  if r.value.length % n ≠ 0 then s.recordFailed r.index 0 1
  else if r.index = 0xC000 then s.modMap fun m => { m with admin := octetWords n r.value }
  else s.modScan fun c => { c with mapAdmin := setNth c.mapAdmin (r.index - 0x8100) (octetWords n r.value) }

/-- A record of pass 1: judged whole against type and range (R599). -/
def State.applyRecord (s : State) (r : ProfileRecord) : State :=
  if domainEntry r.index then s.applyDomain r
  else
    let els := persistentElements r.index
    if els.isEmpty || (els.map (·.2)).sum != r.value.length then s.recordFailed r.index 0 1
    else
      match (recordValues r).find? fun p => !mayTake p.1 p.2 || (p.1 == .OCU_ESCALATE && Nat.blt p.2 (s.reg .OCU_K)) with
      | some p => s.recordFailed r.index p.1.sub 1
      | none => (recordValues r).foldl (fun s p =>
          if commandElement p.1 then s else if p.1 = .TCK_PROFILE then s.loadPtp p.2 else s.setReg p.1 p.2) s

/-- Pairs outside their range: every entry of the pair keeps its default (R598, R599). -/
def State.applyPairs (s : State) : State :=
  pairEntries.foldl (fun s p =>
    if p.all s.pairsOk then s else p.foldl (fun s i => (s.revertEntry i).recordFailed i 0 1) s) s

/-! Pass 2 -/

/-- Whether the operational gate list of a port is the administrative one. -/
def State.gclSame (s : State) (port : Nat) : Bool :=
  let p := port + 1
  s.reg (.NET_GCL_OPER_BASE p) == s.reg (.NET_GCL_ADMIN_BASE p) && s.reg (.NET_GCL_OPER_CYCLE p) == s.reg (.NET_GCL_ADMIN_CYCLE p) &&
    s.reg (.NET_GCL_OPER_EXT p) == s.reg (.NET_GCL_ADMIN_EXT p) && s.reg (.NET_GCL_OPER_LEN p) == s.reg (.NET_GCL_ADMIN_LEN p) &&
    (List.range 64).all fun k => s.gclEntry port k == s.gclAdmin port k

/-- The gate list of a port: valid, it is in force from the first start of a cycle (R65, R67, R599). -/
def State.applyGcl (s : State) (port : Nat) : State :=
  match s.gclFault port with
  | some e => (s.post 0x2031 4 (port + e * 2)).recordFailed (0x2045 + port) e 2
  | none =>
    if s.gclSame port then s
    else (s.gclCopy port).gclStep port

/-- The layer order (R190, R599). -/
def State.applyOrder (s : State) : State :=
  match s.orderRefusal with
  | some r => (s.post 0x6002 4 r).recordFailed 0x6002 0 2
  | none => s.orderInstall

/-- The timing mode, judged before a map is loaded (R265, R599). -/
def State.applyMode (s : State) : State :=
  match s.modeRefusal with
  | some r => (s.post 0x8002 4 r).recordFailed 0x8010 0 2
  | none => modeRegs.foldl (fun t p => t.setReg p.2 (s.reg p.1)) s

/-- The map and the lamp map (R249, R599). -/
def State.applyMap (s : State) : State :=
  match s.mapRefusal s.scan.mapAdmin ((List.range 512).map fun k => s.reg (.SCN_LAMP_MAP_ADMIN (k + 1))) with
  | some (r, k) => (s.post 0x8004 4 (r + k * 16)).recordFailed (if k < 64 then 0x8100 + k else if k = 64 then 0x8143 else 0x8100) 0 2
  | none => s.mapInstall

/-- The signal map (R409, R599). -/
def State.applySignalMap (s : State) : State :=
  match signalMapRefusal s.smap.admin with
  | some (r, i) => (s.post 0xC011 4 (r + i * 16)).recordFailed 0xC000 0 2
  | none =>
    (s.modMap fun m => { m with oper := m.admin, outputs := m.admin.map fun _ => MapOutput.reset }).setReg .MAP_ENTRIES
      (s.smap.admin.filter mapOn).length

/-! Pass 3 -/

/-- A value with a refusal of its own: judged with the element at its default, and left there where it is refused (R599). -/
def State.applyOwn (s : State) (r : Reg) (refused : State → Option State) (take : State → State) : State :=
  let v := s.reg r
  if v = dictDefault r then s
  else
    let s0 := s.setReg r (dictDefault r)
    match refused s0 with
    | some t => t.recordFailed r.index r.sub 3
    | none => (take s0).setReg r v

/-- The refusals of single values (R86, R99, R119, R316, R321, R329, R415, R599). -/
def State.applyOwns (s : State) : State :=
  let s1 := if s.reg .TCK_PROFILE = 2 ∧ s.reg .TCK_DOMAIN ≠ 0 then (s.setReg .TCK_DOMAIN 0).recordFailed 0x3021 0 3 else s
  let s2 := if s1.reg .TCK_PROFILE = 2 ∧ s1.reg .TCK_TRANSPORT = 0 then (s1.setReg .TCK_TRANSPORT 1).recordFailed 0x3023 0 3 else s1
  let s3 := s2.applyOwn .TCK_REACQUIRE_AT (fun s => some s) id
  let s4 := (List.range 8).foldl (fun s l => s.applyOwn (.ING_LAYER_ENABLE l)
    (fun t => (t.enableRefusal l).map fun r => t.post 0x4020 4 (l + r * 16)) fun t => t.setPitch l) s3
  let s5 := (List.range 64).foldl (fun s n => s.applyOwn (.DMX_UNIV_ENABLE n)
    (fun t => if (List.range 64).any fun k => k != n && t.reg (.DMX_UNIV_NUMBER k) == t.reg (.DMX_UNIV_NUMBER n) && t.flag (.DMX_UNIV_ENABLE k)
      then some t else none) id) s4
  let s6 := (List.range 64).foldl (fun s g => s.applyOwn (.LAN_GRP_FINIAL g)
    (fun t => if t.flag (.LAN_GRP_SAFETY g) then none else some t) id) s5
  let s7 := (List.range 512).foldl (fun s c => s.applyOwn (.LAN_CH_SOURCES c)
    (fun t => if bitOf (s.reg (.LAN_CH_SOURCES c)) 0 = false ∧ (s.lampRegion c).isSome then some t else none) id) s6
  let s8 := s7.applyOwn (.LAN_CH_GANG 0) (fun t => if s7.reg (.LAN_CH_GANG 0) = 0 then some t else none) id
  (List.range 512).foldl (fun s c => s.applyOwn (.LAN_CH_ENABLE c)
    (fun t => if t.gangRefused c then some (t.post 0x900F 4 c) else none) id) s8

/-! The whole -/

/-- The port entries of a profile, which the Keep loader applies first (R50, R485, R533). -/
def State.applyPorts (s : State) (p : Option ProfileImage) : State :=
  let records := ((p.map ProfileImage.records).getD []).filter fun r => r.index / 4096 == 2
  let s1 := (records.foldl State.applyRecord s).applyPairs
  ((List.range 2).foldl State.applyGcl s1).buildFilter.loadTsConst.showIp

/-- What follows the entries at once: the gates, the filter, the timestamp constants, the universes and the address. -/
def State.afterProfile (s : State) : State :=
  ((List.range 64).foldl State.showUniverse s.buildFilter.igmpReport).loadTsConst.showIp

/-- A profile applied in the three passes of R599, and the DMX ports put in their modes. -/
def State.applyProfile (s : State) (number : Nat) (p : Option ProfileImage) : State :=
  let records := ((p.map ProfileImage.records).getD []).filter fun r => Nat.blt r.index 0x10000
  let s1 := (records.foldl State.applyRecord s).applyPairs
  let s2 := ((((List.range 2).foldl State.applyGcl s1).applyOrder.applyMode).applyMap).applySignalMap
  let s3 := s2.applyOwns.afterProfile
  let s4 := (List.range 8).foldl (fun s k => s.dmxModeEffect k (s.reg (.DMX_MODE k))) s3
  (s4.setReg .DIC_PROFILE_ACTIVE number).setReg .DIC_PROFILE_NEXT s4.sys.nextProfile

end Sys2Proof.Machine
end

