-- ==== Sys2Proof/Machine/Twin.lean ====
section
/-! DEFINITION. Twin operation (R437 to R460): claim words, loss of the partner and of a path, admission, pushes, records, joining and yield. -/

namespace Sys2Proof.Machine

/-! Joining -/

/-- A sync begins: the unit is in Joining and sends SYNC step 1 (R457). -/
def State.beginJoin (s : State) : State :=
  let s1 := ((s.enterTwin 3).setReg .TWN_REJOIN 1).modTwin fun t => { t with
    join := some ⟨true, none, 0, 1⟩, stepRun := 0, bulk := [], compareFrom := none }
  s1.sendMirror 0x60 (leOctets 1 1 ++ leOctets 2 0)

/-- A sync without success: the third makes the unit an Observer (R457). -/
def State.failSync (s : State) : State :=
  let n := s.twin.failedSyncs + 1
  let s1 := s.modTwin fun t => { t with failedSyncs := n, join := none }
  if 3 ≤ n then (s1.modTwin fun t => { t with failedSyncs := 0 }).observe 2 else if s.mirrorUp then s1.beginJoin else s1

/-- E_s: the first epoch instantiated at least 250 ms from now, three periods before its presentation (R457; log entry 41), and its grid index. -/
def State.syncEpoch (s : State) : Nat × Nat :=
  let i := s.gridFirst (s.time96 + nsUnits 250000000 + 3 * s.period)
  ((s.scan.nextEpoch + (i - s.scan.nextIndex)) % 65536, i)

/-- The objects of a sync, and the numbering from E_s + 3, taken over (R457). -/
def State.joinTake (s : State) (es tp : Nat) : State :=
  let obj := fun n => ((s.twin.bulk.find? fun p => p.1 == n + 256).map (·.2)).getD []
  let s1 := ((s.takeImage (obj 1)).takeMaps (obj 2)).takeFinial (obj 3)
  let s2 := (List.range 8).foldl (fun s l => s.takeFrame l (obj (16 + l))) s1
  let s3 := (s2.takeItems (obj 32)).buildFilter.igmpReport
  let first := s3.gridFirst (nsUnits tp + 3 * s3.period - s3.period / 2)
  let index := max first s3.scan.nextIndex
  let s4 := s3.modScan fun n => { n with nextIndex := index, nextEpoch := (es + 3 + (index - first)) % 65536 }
  s4.modTwin fun t => { t with join := none, bulk := [] }

/-- SYNC (R457). -/
def State.syncMessage (s : State) (p : List Octet) : State :=
  let step := ofLe (p.take 1)
  let es := ofLe (slice p 1 2)
  if step = 1 then
    if s.reg .TWN_STATE ≠ 5 then s
    else
      let (e, i) := s.syncEpoch
      let s1 := s.modTwin fun t => { t with join := some ⟨false, some e, 0, 2⟩ }
      let s2 := (s1.sendMirror 0x60 (leOctets 1 2 ++ leOctets 2 e)).sendMirror 0x11 (leOctets 2 e ++ leOctets 8 (s.gridAt i / 2 ^ 32))
      (s2.sendBulk 1 s2.imageObject).sendBulk 2 s2.mapObject
  else
    match s.twin.join with
    | none => s
    | some j =>
      if j.joining = false then s
      else if step = 2 then s.modTwin fun t => { t with join := some { j with es := some es, step := 2 } }
      else if step = 3 then
        let have_ := fun n => s.twin.bulk.any fun p => p.1 == n + 256
        if j.es == some es && have_ 1 && have_ 2 && have_ 3 && have_ 32 then s.joinTake es j.tp else s.failSync
      else s

/-- ANCHOR: E_s and its T_p; comparison starts with E_s + 3 (R455, R457). -/
def State.anchorMessage (s : State) (p : List Octet) : State :=
  let es := ofLe (p.take 2)
  match s.twin.join with
  | some j =>
    if j.joining then
      (s.modTwin fun t => { t with
        join := some { j with es := some es, tp := ofLe (slice p 2 8) }, compareFrom := some ((es + 3) % 65536) }).post 0xD008 2 es
    else s
  | none => s

/-- BULK: data of an object in order, and its close with the check (R446). An object out of order or with a wrong check is lost. -/
def State.bulkMessage (s : State) (p : List Octet) : State :=
  let object := ofLe (p.take 1)
  let at_ := ofLe (slice p 1 4)
  let data := p.drop 5
  let now := ((s.twin.bulk.find? fun q => q.1 == object).map (·.2)).getD []
  let others := s.twin.bulk.filter fun q => q.1 != object && q.1 != object + 256
  if data = [] then
    if at_ = crcOf crc32c now then s.modTwin fun t => { t with bulk := (object + 256, now) :: others }
    else s.modTwin fun t => { t with bulk := others }
  else if at_ = now.length then s.modTwin fun t => { t with bulk := (object, now ++ data) :: others }
  else s.modTwin fun t => { t with bulk := others }

/-- TWN_REJOIN: 1 takes an Observer to Joining (R456, R461). -/
def State.rejoin (s : State) (value : Nat) : State :=
  if value ≠ 1 then s.reply 8
  else if s.reg .TWN_STATE = 6 ∧ s.mirrorUp then (s.modTwin fun t => { t with failedSyncs := 0 }).beginJoin.reply 0
  else (s.setReg .TWN_REJOIN 2).reply 0

/-- TWN_REJOIN written. -/
def execTwnRejoin (dt who value : Nat) (s : State) : Host.Outcome State Fault Refusal :=
  run s dt fun s => s.asWriter who .TWN_REJOIN fun s => s.rejoin value

/-! Forming a pair -/

/-- ADMIT (R444, R446). -/
def State.admitOctets (s : State) : List Octet :=
  leOctets 8 s.unit.eui64 ++ leOctets 1 (s.reg .DIC_ROLE) ++ leOctets 2 (s.reg .DIC_BEHAVIOUR_LEVEL) ++ leOctets 8 (s.reg .UPD_RUNNING_ID) ++
    leOctets 1 (s.reg .TWN_PREFER) ++ leOctets 1 (s.reg .TWN_STATE)

/-- Whether the scan-out or the Lantern can drive (R444). -/
def State.canDrive (s : State) : Bool := Nat.ble 2 (s.reg .LAN_STATE) || s.reg .SYS_LINK_CTRL != 0

/-- The unit's state after the pair is admitted: the partner's preference and state. A unit that cannot drive yet stays in Starting (R442,
R444). -/
def State.admitted (s : State) (prefer state : Nat) : State :=
  let formed := fun (u : State) => u.post 0xD001 3 (u.reg .TWN_STATE + u.twin.partnerEui % 2 ^ 39 * 8)
  if s.reg .TWN_STATE = 1 ∧ s.canDrive then
    let own := s.reg .TWN_PREFER
    if state = 5 ∨ state = 2 then formed s.beginJoin
    else if state = 1 then
      if prefer < own ∨ (own = prefer ∧ s.isHigher) then formed (s.enterTwin 5) else formed s.beginJoin
    else s
  else if s.reg .TWN_STATE = 2 then formed (s.enterTwin 5)
  else if s.reg .TWN_STATE = 1 then s.modTwin fun t => { t with admission := some (prefer, state) }
  else s

/-- A unit admitted before it could drive leaves Starting once it can: seen at the partner's next heartbeat (R444). -/
def State.admitLate (s : State) : State :=
  match s.twin.admission with
  | some (prefer, state) => if s.reg .TWN_STATE = 1 ∧ s.canDrive then (s.modTwin fun t => { t with admission := none }).admitted prefer state else s
  | none => s

/-- ADMIT received: the pair is refused for the first of role, level and image that differs (R444). -/
def State.admitMessage (s : State) (p : List Octet) : State :=
  let eui := ofLe (p.take 8)
  let reason := if ofLe (slice p 8 1) ≠ s.reg .DIC_ROLE then 1
    else if ofLe (slice p 9 2) ≠ s.reg .DIC_BEHAVIOUR_LEVEL then 2
    else if ofLe (slice p 11 8) ≠ s.reg .UPD_RUNNING_ID then 3 else 0
  let s1 := (s.setReg .TWN_PARTNER_EUI64 eui).modTwin fun t => { t with partnerEui := eui }
  if s.reg .TWN_STATE = 0 ∨ bitOf (s.reg .TWN_FLAGS) 2 then s1
  else if reason ≠ 0 then (((s1.setBit .TWN_FLAGS 2 true).modTwin fun t => { t with join := none }).enterTwin 2).post 0xD002 5 reason
  else s1.admitted (ofLe (slice p 19 1)) (ofLe (slice p 20 1))

/-- PAIR_WAIT_EXPIRY: no valid word within TWN_PAIR_WAIT_MS of the unit's first claim word (R444). -/
def execPairWaitExpiry (dt : Nat) (s : State) : Host.Outcome State Fault Refusal :=
  run s dt fun s =>
    match s.twin.wordsFrom with
    | some t =>
      if s.reg .TWN_STATE = 1 ∧ s.twin.wordAt.isNone ∧ t + usTicks (1000 * s.reg .TWN_PAIR_WAIT_MS) ≤ s.ticks ∧ s.canDrive then s.enterTwin 2
      else s
    | none => s

/-! Claims of the partner -/

/-- The condition of a yield, and since when it holds (R442). -/
def State.mayYield (s : State) : Bool :=
  s.reg .TWN_STATE == 5 && s.twin.partnerState == 4 && s.mirrorUp &&
    Nat.ble (s.twin.partnerD + s.reg .TWN_YIELD_MARGIN) (s.reg .TWN_DEDUCTION)

/-- The start of the run in which a unit may yield. -/
def State.watchYield (s : State) : State :=
  s.modTwin fun t => { t with yieldSince := if s.mayYield then some (t.yieldSince.getD s.ticks) else none }

/-- A claim of the partner taken (R441, R442). -/
def State.partnerClaim (s : State) (claim state : Nat) : State :=
  ((((s.setReg .TWN_PARTNER_CLAIM claim).setReg .TWN_PARTNER_EUI64 s.twin.partnerEui).modTwin fun t => { t with
    partnerState := state }).settleTwin).tiedUpdate

/-- CLAIM_WORD_RECEIVE: a word of TWIN_CLAIM_IN (R438). -/
def execClaimWordReceive (dt word : Nat) (s : State) : Host.Outcome State Fault Refusal :=
  run s dt fun s =>
    let seq := field word 15 8
    let check := crcOf crc8 (beOctets 3 (field word 31 8))
    let next : Bool := match s.twin.lastWseq with
      | some n => (n + 1) % 256 == seq
      | none => true
    if field word 31 28 == 13 && field word 7 0 == check && next then
      ((s.setBit .TWN_FLAGS 0 true).modTwin fun t => { t with lastWseq := some seq, wordAt := some s.ticks }).partnerClaim
        (field word 27 20) (field word 19 17)
    else s.count .TWNCNT_CLAIM_WORD_ERRORS

/-- Whether a time lies four word times back, or is none (R441). -/
def State.silent (s : State) (t : Option Nat) : Bool :=
  match t with
  | some x => Nat.ble (x + 8192) s.ticks
  | none => true

/-- PARTNER_LOST (R441, R459). -/
def execPartnerLost (dt : Nat) (s : State) : Host.Outcome State Fault Refusal :=
  run s dt fun s =>
    if (s.twin.wordAt.isSome ∨ s.twin.beatAt.isSome) ∧ s.silent s.twin.wordAt ∧ s.silent s.twin.beatAt then
      let s1 := ((s.setReg .TWN_PARTNER_CLAIM 0).setReg .TWN_PARTNER_EUI64 0).setReg .TWN_FLAGS (s.reg .TWN_FLAGS / 4 * 4)
      let s2 := s1.modTwin fun t => { t with lastWseq := none, wordAt := none, beatAt := none, partnerState := 0, yieldSince := none, admission := none }
      ((s2.post 0xD003 6 (s.twin.partnerState % 8)).settleTwin).tiedUpdate
    else s

/-- CLAIM_LINE_LOSS: claim words stop while heartbeats stay valid (R441, R460). -/
def execClaimLineLoss (dt : Nat) (s : State) : Host.Outcome State Fault Refusal :=
  run s dt fun s =>
    if s.twin.wordAt.isSome ∧ s.silent s.twin.wordAt ∧ s.silent s.twin.beatAt = false then
      ((s.setBit .TWN_FLAGS 0 false).modTwin fun t => { t with lastWseq := none, wordAt := none }).post 0xD00C 5 1
    else s

/-- YIELD: the condition has held for 100 ms (R442). -/
def execTwinYield (dt : Nat) (s : State) : Host.Outcome State Fault Refusal :=
  run s dt fun s =>
    match s.twin.yieldSince with
    | some t =>
      if s.mayYield ∧ t + usTicks 100000 ≤ s.ticks then
        ((s.enterTwin 4).count .TWNCNT_YIELDS).post 0xD005 4 (s.reg .TWN_DEDUCTION + s.twin.partnerD * 256)
      else s
    | none => s

/-! The mirror link -/

/-- MIRROR_LINK_UP (R437, R444, R451). -/
def execMirrorLinkUp (dt : Nat) (s : State) : Host.Outcome State Fault Refusal :=
  run s dt fun s =>
    if s.reg .TWN_STATE = 0 ∨ s.mirrorUp then s
    else
      let s1 := (s.setReg .TWN_MIR_STATE 2).modTwin fun t => { t with txSeq := 1, rxSeq := 1, sent := [], held := [], bulk := [] }
      let s2 := (s1.post 0xD00B 3 0).sendMirror 0x10 s1.admitOctets
      if s.reg .TWN_STATE = 3 then s2.beginJoin else s2

/-- The mirror link is down: cause 1 lock lost, 2 resends exhausted (R447, R451, R460). -/
def State.mirrorDown (s : State) (cause : Nat) : State :=
  let s1 := ((s.setReg .TWN_MIR_STATE 0).setBit .TWN_FLAGS 1 false).count .TWNCNT_MIR_DOWN
  let s2 := (if s.inPair then s1.setBit .TWN_FLAGS 3 true else s1).modTwin fun t => { t with
    sent := [], held := [], yieldSince := none, zonePushes := [], join := match t.join with
      | some j => if j.joining then some j else none
      | none => none }
  let s3 := s2.post 0xD00A 5 cause
  match s.twin.join with
  | some j => if j.joining then s3.failSync else s3
  | none => s3

/-- MIRROR_LINK_DOWN (R460). -/
def execMirrorLinkDown (dt : Nat) (s : State) : Host.Outcome State Fault Refusal :=
  run s dt fun s => if s.mirrorUp then s.mirrorDown 1 else s

/-- MIRROR_RESEND: messages without ACK for 20 us are resent; after 3 resends the link is taken down (R447). -/
def execMirrorResend (dt : Nat) (s : State) : Host.Outcome State Fault Refusal :=
  run s dt fun s =>
    let due := s.twin.sent.filter fun m => Nat.ble (m.sentAt + 15625) s.ticks
    if s.mirrorUp = false then s
    else if due.any fun m => Nat.ble 3 m.resends then s.mirrorDown 2
    else due.foldl (fun s m =>
      ((s.modTwin fun t => { t with
        sent := t.sent.map fun x => if x.mseq = m.mseq then { x with sentAt := s.ticks, resends := x.resends + 1 } else x }).count
          .TWNCNT_MIR_RESENDS).emit (.mirror m.kind m.mseq m.payload)) s

/-- An ACK (R447). -/
def State.ackMessage (s : State) (p : List Octet) : State :=
  s.modTwin fun t => { t with sent := t.sent.filter fun m => m.mseq != ofLe (p.take 4) }

/-- A heartbeat (R441, R446). The first since the link came up shows whether this Standby is behind the sequencer (R451). -/
def State.beatMessage (s : State) (m : MirMessage) : State :=
  let p := m.payload
  let dseq := ofLe (slice p 4 4)
  let first := !bitOf (s.reg .TWN_FLAGS) 1
  let s1 := ((s.setBit .TWN_FLAGS 1 true).modTwin fun t => { t with
    beatAt := some s.ticks, partnerD := ofLe (slice p 1 1), partnerEpoch := ofLe (slice p 2 2), partnerDseq := dseq }).partnerClaim
      m.claim (ofLe (p.take 1))
  let behind := (dseq + 2 ^ 32 - s1.reg .TWN_DSEQ) % 2 ^ 32
  (if first && s1.reg .TWN_STATE == 4 && s1.twin.partnerState == 5 && behind != 0 && Nat.blt behind (2 ^ 31) then s1.beginJoin
    else s1.admitLate).watchYield

/-! Records and pushes -/

/-- LINK_SIG of the partner (R454). -/
def State.linkSigMessage (s : State) (p : List Octet) : State :=
  s.recordLink (ofLe (p.take 2)) (ofLe (slice p 2 1)) fun r => { r with partner := some (ofLe (slice p 3 4)) }

/-- FRAME_SIG of the partner (R455). -/
def State.frameSigMessage (s : State) (p : List Octet) : State :=
  let e := ofLe (p.take 2)
  (s.recordFrame e fun r => { r with partner := some (ofLe (slice p 2 4), ofLe (slice p 6 8)) }).judgeFrame e

/-- A pushed item in use (R452): a zone pass; fault marks and states of a tied rail group; an HRFB code. -/
def State.usePush (s : State) (item key : Nat) (data : List Octet) : State :=
  if item = 1 then
    if s.reg .TWN_STATE = 5 ∨ 64 ≤ key then s
    else
      let push : ZonePush := ⟨key, ofLe (data.take 2), ofLe (slice data 2 2)⟩
      ((s.modTwin fun t => { t with zonePushes := push :: t.zonePushes.filter fun p => p.zone != key }).requestPass key).startPass key
  else if s.lantern.tiedOn ∨ s.flag (.LAN_RAIL_TIED key) = false ∨ 16 ≤ key then s
  else if item = 2 then
    (List.range 32).foldl (fun s i =>
      let c := 32 * key + i
      let s1 := s.modSink c fun k => { k with fault := ofLe (slice data i 1) }
      let g := s1.lampGroup c
      if g = 0 then s1 else s1.setReg (.GROUP_STATE (g - 1)) (ofLe (slice data (32 + i) 1))) s
  else if item = 3 then s.setReg (.LAN_RAIL_CODE key) (ofLe (data.take 1))
  else s

/-- STATE_PUSH: of two pushes of one item in one clock, that of the higher claim stands, and both units count the other (R453). -/
def State.pushMessage (s : State) (m : MirMessage) : State :=
  let item := ofLe (m.payload.take 1)
  let key := ofLe (slice m.payload 1 1)
  if s.twin.pushed.contains (item, key, m.sent) then
    let s1 := s.count .TWNCNT_PUSH_DISCARDED
    if s.isHigher then s1 else s1.usePush item key (m.payload.drop 2)
  else s.usePush item key (m.payload.drop 2)

end Sys2Proof.Machine
end

