-- ==== Sys2Proof/Machine/Start.lean ====
section
/-! DEFINITION. Resets and the start sequence (R522 to R544, R563 to R565): the reset sources, the boot ROM, the Keep loader, the firmware and the
start of the blocks. -/

namespace Sys2Proof.Machine

/-! Reset sources -/

/-- A hold of the unit set or ended. -/
def State.hold (s : State) (f : Holds → Holds) : State := s.modSys fun y => { y with holds := f y.holds }

/-- Whether nothing holds the unit in reset. -/
def Holds.free (h : Holds) : Bool := !(h.vin || h.rails || h.pin || h.thermal)

/-- The start sequence counts from now: t0 (R533). -/
def State.fromNow (s : State) : State := s.modSys fun y => { y with startedAt := s.ticks }

/-- POWER_ON: VIN rises through 4.6 V (R527). -/
def execPowerOn (dt : Nat) (s : State) : Host.Outcome State Fault Refusal :=
  run s dt fun s => (s.hold fun h => { h with vin := false }).coldReset 0

/-- VIN_UNDERVOLTAGE: VIN below 4.4 V for 2 us; the fault count and the fault record clear (R527, R564, R565). -/
def execVinUndervoltage (dt : Nat) (s : State) : Host.Outcome State Fault Refusal :=
  run s dt fun s =>
    ((s.hold fun h => { h with vin := true, rails := false }).modSys fun y => { y with
      railFaults := [], railsLocked := false, retryAt := none, lastFault := 0 }).coldReset 2

/-- RAIL_FAULT: rail 1 to 6, cause 1 tolerance or 2 current limit (R527, R564, R565). With the rails off there is none. -/
def execRailFault (dt rail cause : Nat) (s : State) : Host.Outcome State Fault Refusal :=
  run s dt fun s =>
    if s.sys.holds.rails ∨ s.sys.holds.vin then s
    else
      let window := match s.sys.railFaults with
        | t :: rest => if s.ticks < t + msTicks 10000 then t :: rest ++ [s.ticks] else [s.ticks]
        | [] => [s.ticks]
      let locked := Nat.ble 3 window.length
      ((s.hold fun h => { h with rails := true }).modSys fun y => { y with
        railFaults := window, railsLocked := locked, retryAt := if locked then none else some (s.ticks + msTicks 100)
        lastFault := rail % 8 + cause % 4 * 8 + min 3 window.length * 32 }).coldReset 2

/-- RAIL_RETRY_WAIT: 100 ms after a rail fault the rails start again (R564). -/
def execRailRetryWait (dt : Nat) (s : State) : Host.Outcome State Fault Refusal :=
  run s dt fun s =>
    match s.sys.retryAt with
    | some t =>
      if t ≤ s.ticks then ((s.hold fun h => { h with rails := false }).modSys fun y => { y with retryAt := none }).fromNow else s
    | none => s

/-- CLOCK_FAULT: the reference or the lock of the system PLL is lost (R525). -/
def execClockFault (dt : Nat) (s : State) : Host.Outcome State Fault Refusal :=
  run s dt fun s => (s.hold fun h => { h with clock := true }).coldReset 3

/-- SERDES_PLL_LOSS: the SerDes PLL of a chain port loses lock (R525). -/
def execSerdesPllLoss (dt port : Nat) (s : State) : Host.Outcome State Fault Refusal :=
  run s dt fun s =>
    if 2 ≤ port ∨ bitOf (s.reg .SYS_PLL_STATE) (port + 1) = false then s
    else ((s.setBit .SYS_PLL_STATE (port + 1) false).portDown port).post 0xF021 5 port

/-- SERDES_PLL_LOCK: the SerDes PLL of a chain port has lock (R525, R543). -/
def execSerdesPllLock (dt port : Nat) (s : State) : Host.Outcome State Fault Refusal :=
  run s dt fun s => if 2 ≤ port then s else s.setBit .SYS_PLL_STATE (port + 1) true

/-- RESET_N_LOW: low for 1 us or more (R528). -/
def execResetNLow (dt : Nat) (s : State) : Host.Outcome State Fault Refusal :=
  run s dt fun s => (s.hold fun h => { h with pin := true }).coldReset 1

/-- RESET_N_RELEASE: the start sequence begins at the rising edge (R528). -/
def execResetNRelease (dt : Nat) (s : State) : Host.Outcome State Fault Refusal :=
  run s dt fun s => if s.sys.holds.pin then (s.hold fun h => { h with pin := false }).fromNow else s

/-- THERMAL_TRIP: a junction at 145 °C or above (R527). -/
def execThermalTrip (dt : Nat) (s : State) : Host.Outcome State Fault Refusal :=
  run s dt fun s => (s.hold fun h => { h with thermal := true }).coldReset 9

/-- THERMAL_TRIP_CLEAR: both junctions below 125 °C (R527). -/
def execThermalTripClear (dt : Nat) (s : State) : Host.Outcome State Fault Refusal :=
  run s dt fun s => if s.sys.holds.thermal then (s.hold fun h => { h with thermal := false }).fromNow else s

/-- JTAG_RESET: the reset instruction, while JTAG is open at service level (R527; log entry 38). -/
def execJtagReset (dt : Nat) (s : State) : Host.Outcome State Fault Refusal :=
  run s dt fun s => if s.debugOpen then s.coldReset 10 else s

/-- CPU0_WATCHDOG: CPU0 has not served its watchdog for SYS_WDT_MS (R527). -/
def execCpu0Watchdog (dt : Nat) (s : State) : Host.Outcome State Fault Refusal := run s dt fun s => s.warmReset 4

/-- DRIVE_HEARTBEAT_LOSS: the drive die does not hear the logic die for 1 us (R529). -/
def execDriveHeartbeatLoss (dt : Nat) (s : State) : Host.Outcome State Fault Refusal :=
  run s dt fun s => s.modSys fun y => { y with driveAlive := false }

/-! The boot ROM -/

/-- An event of the steps before the firmware, kept in control SRAM (R539). -/
def State.postEarly (s : State) (code priority arg : Nat) : State :=
  s.modSys fun y => { y with early := y.early ++ [⟨.single, priority, code, arg⟩] }

/-- The trims judged; the events wait for the firmware (R534, R539). -/
def State.bootTrims (s : State) : State :=
  let t := ({ s with drum := ⟨s.drum.words, []⟩ }).trimLoad
  let early := t.drum.incoming.flatten.filter fun w => w.code == 0x7020 || w.code == 0x7021
  ({ t with drum := s.drum }.setReg .DRM_FAULT_SUMMARY (s.reg .DRM_FAULT_SUMMARY)).modSys fun y => { y with early := y.early ++ early }

/-- Internal reset released: the boot ROM samples the pins, judges the trims and loads a Keep copy (R504, R533 to R535). -/
def State.bootRom (s : State) (pins : Nat) : State :=
  let y := s.sys
  let s1 := (s.hold fun h => { h with clock := false }).modSys fun y => { y with
    releasedAt := some s.ticks, pins := pins % 4, limitsFrom := if y.warm then s.ticks else y.startedAt }
  let s2 := ((((s1.setReg .SYS_RESET_CAUSE y.cause).setReg .SYS_RESET_KIND (b2n y.warm)).setBit .SYS_PLL_STATE 0 true).setReg .DIC_PROFILE_PINS
    (pins % 4)).bootTrims
  let s3 := if s.update.keep.1 = false ∧ s.update.keep.2 then s2.postEarly 0xF012 4 0 else s2
  ((s3.milestone 1).setReg .SYS_STATE 1).setReg .MEM_STATE 1

/-- INTERNAL_RESET_RELEASE: PROF1 and PROF0, and for a warm reset whether both dies confirmed self-refresh (R530, R533). A warm reset holds the die
100 us, a clock fault until the PLL has kept lock for 1 ms (R525). -/
def execInternalResetRelease (dt pins : Nat) (refreshed : Bool) (s : State) : Host.Outcome State Fault Refusal :=
  run s dt fun s =>
    let y := s.sys
    if y.holds.free = false ∨ y.releasedAt.isSome then s
    else if (y.warm ∧ s.ticks < y.startedAt + usTicks 100) ∨ (y.holds.clock ∧ s.ticks < y.startedAt + msTicks 1) then s
    else if y.warm ∧ refreshed = false then s.restarted false
    else s.bootRom pins

/-! The ports -/

/-- The profile chosen: DIC_PROFILE_NEXT once, else the pins (R485). -/
def State.chooseProfile (s : State) : State :=
  let n := if s.sys.nextProfile = 0xFF then s.sys.pins else s.sys.nextProfile
  s.modSys fun y => { y with chosen := n, nextProfile := 0xFF }

/-- The port entries applied, the chain and the forwarding (R50, R493, R504, R505, R533, R570): of the profile chosen, or the factory values. -/
def State.keepPorts (s : State) : State :=
  let s1 := s.chooseProfile
  let p := if s.update.keep = (false, false) then none else s1.storedProfile s1.sys.chosen
  let s2 := s1.showBoot.applyPorts p
  let s3 := s2.modNet fun n => { n with
    forwarding := true
    sfp := n.sfp.zipIdx.map fun (x, k) => let fast := s2.reg (.NET_SPEED (k + 1)) == 0; (x.2.2.2, fast, fast, x.2.2.2) }
  (if s3.address = 0 then s3 else s3.setReg .CHN_STATE 1).milestone 3

/-! Memory training -/

/-- MEM_TRAINING_DONE: whether an attempt succeeded, else the channel that failed; three failures hold the unit in the Keep loader (R538). -/
def execMemTrainingDone (dt : Nat) (ok : Bool) (channel : Nat) (s : State) : Host.Outcome State Fault Refusal :=
  run s dt fun s =>
    if s.reg .SYS_STATE ≠ 1 ∨ s.reg .MEM_STATE ≠ 1 then s
    else
      let n := s.sys.memFailed + 1
      let s1 := s.setReg .SYS_MEM_ATTEMPTS n
      if ok then (s1.setReg .MEM_STATE 2).milestone 2
      else
        let s2 := s1.modSys fun y => { y with memFailed := n }
        if n < 3 then s2.postEarly 0xB001 7 (channel % 2)
        else (((s2.setReg .MEM_STATE 3).setReg .SYS_STATE 4).logRecord ⟨.single, 7, 0xB001, channel % 2⟩).keepPorts

/-! The Keep loader -/

/-- The Keep loader acts on the boot record (R504). -/
def State.actOnBoot (s : State) : State :=
  let warm := s.retainedOk
  let flash := fun (s : State) (f : BootRecord → BootRecord) => (s.writeBoot f).modUpdate fun u => { u with boots := 1 }
  let kept := fun (s : State) (f : BootRecord → BootRecord) => (s.writeBoot f).modUpdate fun u => { u with boots := 2 }
  match s.update.boot with
  | none => s
  | some b =>
    if b.state = 0 then flash s id
    else if b.state = 1 then (if warm then kept s fun b => { b with state := 5 } else s.fetchImage)
    else if b.state = 2 then (if warm then kept s id else s.fetchImage)
    else if b.state = 3 then flash s fun b => { b with state := 4, attempts := 1 }
    else if b.state = 4 then
      (if warm then kept s fun b => { b with state := 5 }
      else if b.attempts < 3 then flash s fun b => { b with attempts := b.attempts + 1 }
      else s.fetchImage)
    else if b.state = 5 then (if warm then kept s id else s.fetchImage)
    else if b.state = 6 then s.fetchImage
    else s.modUpdate fun u => { u with boots := 3 }

/-- A boot record written where neither copy is valid (R504). -/
def State.newBoot (s : State) : State :=
  if s.update.boot.isSome then s
  else s.modUpdate fun u => { u with boot := some ⟨1, if s.imageOk s.areaImage then 0 else 6, 0, 0, 0, 0, 0, 0, 0, []⟩ }

/-- KEEP_LOADER_START: the loader verified runs the ports and the chain, and acts on the boot record; the ROM loader, where no Keep copy verifies,
takes the factory values and fetches an image (R504, R505). -/
def execKeepLoaderStart (dt : Nat) (s : State) : Host.Outcome State Fault Refusal :=
  run s dt fun s =>
    if s.reg .SYS_STATE ≠ 1 ∨ s.reg .MEM_STATE ≠ 2 ∨ s.net.forwarding then s
    else
      let s1 := s.keepPorts.newBoot.showBoot
      if s.update.keep = (false, false) then (s1.writeBoot fun b => { b with fetches := 0 }).fetchImage else s1.actOnBoot

/-! The firmware image -/

/-- An image that runs from now on (R504, R507, R533). -/
def State.runImage (s : State) (image : List (List Octet)) : State :=
  (s.modUpdate fun u => { u with running := image, boots := 0 }).setReg .SYS_STATE 2

/-- IMAGE_LOAD_DONE: the image chosen read and verified; a confirmed image is copied to the retained area (R504, R507, R533). -/
def execImageLoadDone (dt : Nat) (s : State) : Host.Outcome State Fault Refusal :=
  run s dt fun s =>
    if s.reg .SYS_STATE ≠ 1 then s
    else if s.update.boots = 1 then
      let image := s.areaImage
      if s.imageOk image = false then s.fetchImage
      else if s.bootState = 0 then
        ((s.modUpdate fun u => { u with retained := some image }).writeBoot fun b => { b with retainedHash := sha512 image.flatten }).runImage image
      else s.runImage image
    else if s.update.boots = 2 then
      match s.update.retained with
      | some image => if s.retainedOk then s.runImage image else s.fetchImage
      | none => s.fetchImage
    else s

/-! The start of the blocks -/

/-- The drive-die sequencer (R537, R343): LAN_STATE 2, or 3 on factory trims. -/
def State.startDrive (s : State) : State :=
  if s.sys.loads.1 then
    (((s.setReg .SYS_DRIVE_SEQ 1).setReg .LAN_STATE (if s.reg .CAL_TRIM_STATE = 2 then 3 else 2)).modSys fun y => { y with driveAlive := true }).milestone 5
  else (s.setReg .SYS_DRIVE_SEQ 2).post 0xF010 7 0

/-- The engines whose microcode verified (R181). The version is in the image, at a place the spec does not give: a free value (log entry 5). -/
def State.startEngines (s : State) : State :=
  let bad := s.sys.loads.2.1 % 2 ^ 16
  let (v, s0) := s.takeFree
  let s1 := (s0.setReg .BEL_UCODE_VERSION (Config.freeValue v)).modBelfry fun b => { b with engines := b.engines.zipIdx.map fun (g, k) => { g with active := !bitOf bad k } }
  let s2 := (s1.setReg .BEL_ENGINES_ACTIVE (2 ^ 16 - 1 - bad)).setReg .BEL_STATE (if bad = 2 ^ 16 - 1 then 3 else 2)
  if bad = 0 then s2 else s2.post 0x5002 (if bad = 2 ^ 16 - 1 then 7 else 6) bad

/-- The link controllers that verified, and the links they serve (R284, R537). -/
def State.startLinks (s : State) : State :=
  let bad := s.sys.loads.2.2 % 2 ^ 8
  let s1 := (List.range 64).foldl (fun s k => if s.flag (.SPL_LINK_ENABLE k) ∧ bitOf bad (k / 8) = false then s.linkEnable k else s)
    (s.setReg .SYS_LINK_CTRL (2 ^ 8 - 1 - bad))
  if bad = 0 then s1 else s1.post 0xF011 6 bad

/-- The period grid, the cue ticks and the signal-map passes run from the moment the profile is applied (R343, R410). -/
def State.startPeriods (s : State) : State :=
  s.modLantern fun l => { l with gridOn := true, anchor := s.time96, nextMerge := 1, nextTick := 1 }

/-- The presentation grid on free-running time (R267, R268). -/
def State.startGrid (s : State) : State :=
  let s1 := s.modScan fun n => { n with gridOn := true, gridRef := s.newGridRef }
  (s1.modScan fun n => { n with nextIndex := s1.gridFirst (s1.time96 + 2 * s1.period) }).setReg .SCN_STATE 1

/-- Twin operation (R438, R439, R444). -/
def State.startTwin (s : State) : State :=
  (s.modTwin fun t => { t with wordsFrom := some s.ticks }).enterTwin (if s.flag .TWN_ENABLE then 1 else 0)

/-- The blocks start once the profile is applied (R485, R533, R537). -/
def State.startBlocks (s : State) : State :=
  let s1 := s.startPeriods.startDrive.startEngines.startLinks.startGrid
  (((s1.arbMode 1).showOculus).showCalState).startTwin

/-- A profile applied and the blocks started (R485). The role is that of the profile; no later write changes it (R7). -/
def State.startWith (s : State) (number : Nat) (p : Option ProfileImage) : State :=
  let s1 := s.applyProfile number p
  (s1.modSys fun y => { y with role := s1.reg .DIC_ROLE }).startBlocks

/-- The factory profile in force in place of the one chosen (R485). -/
def State.startFactory (s : State) : State := (s.post 0x1023 7 s.sys.chosen).startWith 4 none

/-! The start of the firmware -/

/-- What the start of the firmware reports of the steps before it, in the order in which they occurred (R539, R544, R565). -/
def State.reportStart (s : State) : State :=
  let s0 := (((({ s with drum := ⟨[], []⟩ }).setReg .DRM_DEPTH 0).setReg .DRM_DEPTH_MAX 0).setReg .DRM_FAULT_SUMMARY 0)
  let words := s.sys.early ++ (if s.sys.lastFault = 0 then [] else [⟨.single, 6, 0xF040, s.sys.lastFault⟩])
  let s1 := State.enterWords 4 s0 words
  let s2 := words.foldl (fun s w => if w.priority = 7 then s.setBit .DRM_FAULT_SUMMARY (w.code / 4096) true else s) s1
  ((s2.setReg .SYS_RAIL_LAST_FAULT s.sys.lastFault).post 0xF001 3 (s.sys.cause % 2 ^ 11 + b2n s.sys.warm * 2 ^ 11)).modSys fun y => { y with
    early := [], cause := 0 }

/-- The entries that show the image that runs and what the flash holds (R11, R489, R519). -/
def State.showFlash (s : State) : State :=
  let image := s.update.running
  (((((s.setReg .UPD_RUNNING_ID (imageId image)).setReg .UPD_RUNNING_SEQ (imageField image 8 4)).setReg .DIC_IMAGE_LEVEL
    (imageField image 6 2)).showKeys).showProfiles.showBackup 0).showBackup 1

/-- What the boot record asks of the firmware: the end of a fallback, the report of a recovery, the health window of a trial (R513, R514, R516). -/
def State.afterBoot (s : State) : State :=
  let s1 := if s.bootState = 5 then
      ((((s.restoreArea).writeBoot fun b => { b with state := 0 }).post 0xE027 6 (s.update.fellBack.getD 0)).setReg .UPD_LAST_RESULT 4).modUpdate fun u =>
        { u with fellBack := none }
    else s
  let s2 := match s1.update.recovered with
    | some n => ((s1.post 0xE029 6 (n % 4)).setReg .UPD_LAST_RESULT 5).modUpdate fun u => { u with recovered := none }
    | none => s1
  if s2.bootState = 4 then
    let h := (s2.update.boot.map BootRecord.healthS).getD 0
    s2.modUpdate fun u => { u with healthEnd := some (s.sys.releasedAt.getD s.ticks + msTicks (1000 * (if h = 0 then 300 else h))) }
  else s2

/-- Adoption begins: only the network, clock and chain entries of the factory profile are applied (R501). -/
def State.startAdoption (s : State) : State :=
  let s1 := (s.post 0x1022 6 s.sys.chosen).afterProfile.setReg .DIC_PROFILE_ACTIVE 4
  (s1.modChain fun c => { c with
    adopting := true, asked := none, adoptEnd := s.sys.releasedAt.getD s.ticks + msTicks (1000 * s.reg .CHN_ADOPT_WAIT_S) }).adoptAsk

/-- The profile chosen applied, or a backup adopted, or the factory profile (R485, R501). -/
def State.startProfile (s : State) : State :=
  let n := s.sys.chosen
  match s.storedProfile n with
  | some p => s.startWith n (some p)
  | none =>
    if n = 4 then s.startWith 4 none
    else if s.reg .CHN_ADOPT = 1 then s.startAdoption
    else (s.post 0x1022 6 n).startFactory

/-- FIRMWARE_START: whether the sequencer verified, and the engines and link controllers that failed, bit by bit (R485, R533, R537). -/
def execFirmwareStart (dt : Nat) (seqOk : Bool) (engineFails ctrlFails : Nat) (s : State) : Host.Outcome State Fault Refusal :=
  run s dt fun s =>
    if s.reg .SYS_STATE ≠ 2 then s
    else
      let s1 := ((s.setReg .SYS_STATE 3).modSys fun y => { y with loads := (seqOk, engineFails, ctrlFails) }).milestone 4
      s1.reportStart.showFlash.afterBoot.startProfile

/-! Limits and the logic junction -/

/-- Milestones of SYS_START_MS not reached, bit n − 1 for sub n (R541, R544). -/
def State.missed (s : State) : Nat :=
  ((List.range 9).map fun n => if s.reg (.SYS_START_MS (n + 1)) = 2 ^ 32 - 1 then 2 ^ n else 0).sum

/-- STARTUP_LIMIT: 2 s without LAN_STATE 2, or for a cabinet hub 6 s without a picture (R540, R541). -/
def execStartupLimit (dt : Nat) (s : State) : Host.Outcome State Fault Refusal :=
  run s dt fun s =>
    let y := s.sys
    let open_ := s.firmwareRuns && !y.doneSeen && !s.chain.adopting
    let lamp := open_ && !y.lateLamp && Nat.blt (s.reg .LAN_STATE) 2 && s.reg .SYS_DRIVE_SEQ != 2 && Nat.ble (y.limitsFrom + msTicks 2000) s.ticks
    let picture := open_ && !y.latePicture && s.sys.role == 0 && !y.pictureSeen && Nat.ble (y.limitsFrom + msTicks 6000) s.ticks
    if lamp || picture then
      (s.modSys fun y => { y with lateLamp := y.lateLamp || lamp, latePicture := y.latePicture || picture }).post 0xF030 4 s.missed
    else s

/-- LOGIC_TJ_READ, and the rail voltages where their second has passed (R565): the junction in 1/16 °C, two's complement; the first reading of a run at the warning posts event 0xF020 (R542). -/
def execLogicTjRead (dt tj : Nat) (rails : List Nat) (s : State) : Host.Outcome State Fault Refusal :=
  run s dt fun s =>
    let s1 := rails.zipIdx.foldl (fun s (v, k) => if k < 6 then s.setReg (.SYS_RAIL_MV (k + 1)) v else s) (s.setReg .SYS_LOGIC_TJ tj)
    let hot := decide (s.regInt .SYS_TJ_WARN ≤ s1.regInt .SYS_LOGIC_TJ)
    let s2 := s1.modSys fun y => { y with hot := hot }
    if hot && !s.sys.hot then s2.post 0xF020 5 (s1.reg .SYS_LOGIC_TJ) else s2

end Sys2Proof.Machine
end

