-- ==== Sys2Proof/Machine/Backup.lean ====
section
/-! DEFINITION. Neighbour backups and their adoption (R499 to R501). -/

namespace Sys2Proof.Machine

/-! The access record -/

/-- The octets of the access record (R488): each of the three keys behind its length. The layout is the model's (log entry 43). -/
def State.accessOctets (s : State) : List Octet :=
  ([s.idp.installKey, s.idp.integratorKey, s.idp.finKey].map fun k => leOctets 1 k.length ++ k).flatten

/-- A key behind its length, and the octets behind it. -/
def takeKey (o : List Octet) : List Octet × List Octet :=
  let n := ofLe (o.take 1)
  (slice o 1 n, o.drop (1 + n))

/-- The access record taken over (R488, R501). -/
def State.takeAccess (s : State) (o : List Octet) : State :=
  let (k1, o1) := takeKey o
  let (k2, o2) := takeKey o1
  let (k3, _) := takeKey o2
  (s.modIdp fun i => { i with installKey := k1, integratorKey := k2, finKey := k3 }).showKeys

/-! Answering a request -/

/-- The segments of a backup: the slot image in segments of 4,096 octets, then the wrapped access record alone (R495). -/
def backupSegments (image wrapped : List Octet) : List (Nat × List Octet) :=
  let parts := (List.range ((image.length + 4095) / 4096)).map fun i => (i * 4096, slice image (i * 4096) 4096)
  parts ++ [(image.length, wrapped)]

/-- What a unit sends for an address: its own profile in force and access record, or the backup it holds of that address (R499, R501). -/
def State.backupFor (s : State) (address : Nat) : Option (ProfileImage × List Octet) :=
  if address = s.address then (s.storedProfile (s.reg .DIC_PROFILE_ACTIVE)).map fun p => (p, s.accessOctets)
  else (((List.range 2).filterMap s.backupOf).find? fun b => b.backup.address == address).map fun b => (b.backup.image, b.backup.access)

/-- The segment at the front of a transfer sent (R499). -/
def State.sendSegmentOf (s : State) (x : BackupTx) : State :=
  match x.segments with
  | (o, data) :: _ => s.sendChain x.netb x.dest 0x11 0 (leOctets 4 o ++ leOctets 4 x.total ++ data)
  | [] => s

/-- The transfers with one of them in place of that to the same neighbour, or gone. -/
def State.putTx (s : State) (netb : Bool) (dest : Nat) (x : Option BackupTx) : State :=
  s.modChain fun c => { c with tx := x.toList ++ c.tx.filter fun y => !(y.netb == netb && y.dest == dest) }

/-- A backup transfer begins (R499, R500). -/
def State.sendBackup (s : State) (h : ChainHead) (wrapKey : List Octet) (image : ProfileImage) (access : List Octet) : State :=
  let (n, s1) := s.takeFree
  let wrapped := Config.wrapRecord (wrapKey ++ leOctets 8 h.sender ++ leOctets 8 s.unit.eui64) n access
  let segments := backupSegments (slotOctets image) wrapped
  let x : BackupTx := ⟨h.netb, h.mac, segments, ((segments.map fun p => p.2.length).sum), s.ticks, 0⟩
  (s1.putTx h.netb h.mac (some x)).sendSegmentOf x

/-- BACKUP_REQUEST: the address wanted, the side, and the wrap key (R499, R500). -/
def execBackupRequest (dt : Nat) (h : ChainHead) (address side : Nat) (wrapKey : List Octet) (s : State) : Host.Outcome State Fault Refusal :=
  run s dt fun s => s.chainMessage h fun s =>
    if side ≤ 1 ∧ s.firmwareRuns then
      if Config.certificateOk wrapKey = false then (s.count .CHNCNT_BACKUP_FAILS).post 0xE012 5 (address % 65536)
      else if Config.wrapKeyOk wrapKey = false then (s.count .CHNCNT_BACKUP_FAILS).post 0xE012 5 (address % 65536 + 65536)
      else match s.backupFor address with
        | some (image, access) => s.sendBackup h wrapKey image access
        | none => s
    else s

/-- BACKUP_ACK: 0 releases the next segment, 1 ends the transfer (R499). -/
def execBackupAck (dt : Nat) (h : ChainHead) (offset status : Nat) (s : State) : Host.Outcome State Fault Refusal :=
  run s dt fun s => s.chainMessage h fun s =>
    match s.chain.tx.find? fun x => x.netb == h.netb && x.dest == h.mac with
    | none => s
    | some x =>
      if (x.segments.head?.map (·.1)) ≠ some offset then s
      else if status ≠ 0 then (s.putTx x.netb x.dest none).count .CHNCNT_BACKUP_FAILS
      else match x.segments.drop 1 with
        | [] => s.putTx x.netb x.dest none
        | rest =>
          let y := { x with segments := rest, sentAt := s.ticks, resends := 0 }
          (s.putTx x.netb x.dest (some y)).sendSegmentOf y

/-- BACKUP_RESEND: no acknowledgement for 20 ms: sent again at most three times, then abandoned (R499). -/
def execBackupResend (dt : Nat) (s : State) : Host.Outcome State Fault Refusal :=
  run s dt fun s =>
    (s.chain.tx.filter fun x => Nat.ble (x.sentAt + msTicks 20) s.ticks).foldl (fun s x =>
      if 3 ≤ x.resends then (s.putTx x.netb x.dest none).count .CHNCNT_BACKUP_FAILS
      else
        let y := { x with sentAt := s.ticks, resends := x.resends + 1 }
        (s.putTx x.netb x.dest (some y)).sendSegmentOf y) s

/-! Taking a backup -/

/-- A backup slot that holds no backup in force (R499). -/
def State.freeBackupSlot (s : State) : Nat :=
  let inForce := (List.range 2).filterMap s.backupOf
  ((List.range 3).find? fun i =>
    match nth s.chain.slots i none with
    | some b => !inForce.contains b
    | none => true).getD 0

/-- A backup stored in the free slot, and in force from then on (R499). -/
def State.storeBackup (s : State) (side : Nat) (b : Backup) : State :=
  let gen := ((s.backupOf side).map fun x => x.generation + 1).getD 1
  let s1 := s.modChain fun c => { c with slots := setNth c.slots s.freeBackupSlot (some ⟨side, gen, b⟩) }
  ((s1.showBackup side).count .CHNCNT_BACKUPS_TAKEN).post 0xE011 2 (b.address % 65536 + side * 65536)

/-- A backup adopted: saved as the profile chosen, its access record kept, the profile applied and the blocks started (R501). -/
def State.adopt (s : State) (side : Nat) (image : ProfileImage) (access : List Octet) : State :=
  let n := s.sys.chosen
  let s1 := ((s.modChain fun c => { c with adopting := false }).beginSave n image.role image.records).takeAccess access
  let s2 := (s1.modSys fun y => { y with limitsFrom := s.ticks }).startWith n (some image)
  s2.post 0xE010 5 (s.address + side * 65536 + image.source % 2 ^ 25 * 2 ^ 17)

/-- A whole backup that has come: its CHECK and its access record judged, then stored or adopted (R499, R501). The status is that of the
acknowledgement. -/
def State.backupWhole (s : State) (r : BackupRx) (address : Nat) (image wrapped : List Octet) : Nat × State :=
  let s1 := s.modChain fun c => { c with rx := c.rx.filter fun x => x.side != r.side }
  let access := Config.unwrapRecord wrapped r.key (leOctets 8 s.unit.eui64 ++ leOctets 8 r.sender)
  match parseProfile image, access with
  | some p, some a =>
    if p.check ≠ crcOf crc32c (slotBody p) then (1, s1.count .CHNCNT_BACKUP_FAILS)
    else if r.adopt then
      if s.chain.adopting ∧ r.address = s.address ∧ p.level = s.reg .DIC_BEHAVIOUR_LEVEL then (0, s1.adopt r.side p a)
      else (0, s1.count .CHNCNT_BACKUP_FAILS)
    else (0, s1.storeBackup r.side ⟨address, r.sender, p, a⟩)
  | _, _ => (1, s1.count .CHNCNT_BACKUP_FAILS)

/-- An acknowledgement of a segment (R495). -/
def State.ackSegment (s : State) (h : ChainHead) (offset status : Nat) : State :=
  s.sendChain h.netb h.mac 0x12 0 (leOctets 4 offset ++ leOctets 1 status)

/-- BACKUP_DATA: offset, total and data of a segment; segments come in ascending offset (R495, R499). -/
def execBackupData (dt : Nat) (h : ChainHead) (offset total : Nat) (data : List Octet) (s : State) : Host.Outcome State Fault Refusal :=
  run s dt fun s => s.chainMessage h fun s =>
    match s.chain.rx.find? fun r => r.side == b2n h.netb && r.sender == h.sender with
    | none => s
    | some r =>
      if offset < r.data.length then s.ackSegment h offset 0
      else if offset ≠ r.data.length then s
      else if offset + data.length < total then
        (s.modChain fun c => { c with rx := c.rx.map fun x => if x.side = r.side then { x with data := x.data ++ data } else x }).ackSegment h offset 0
      else
        let (status, s1) := s.backupWhole r h.address r.data data
        s1.ackSegment h offset status

/-! Adoption -/

/-- BACKUP_REQUEST_TIMEOUT: no data from the upstream neighbour within 3 s (R501). -/
def execBackupRequestTimeout (dt : Nat) (s : State) : Host.Outcome State Fault Refusal :=
  run s dt fun s =>
    match s.chain.asked with
    | some (0, t) =>
      let none_ := s.chain.rx.all fun r => !(r.adopt && r.side == 0) || r.data.isEmpty
      if s.chain.adopting ∧ none_ ∧ t + msTicks 3000 ≤ s.ticks then
        (s.askBackup false true s.address).modChain fun c => { c with asked := some (1, s.ticks) }
      else s
    | _ => s

/-- ADOPT_WAIT_EXPIRY: no backup adopted within CHN_ADOPT_WAIT_S: the factory profile applies (R485, R501). -/
def execAdoptWaitExpiry (dt : Nat) (s : State) : Host.Outcome State Fault Refusal :=
  run s dt fun s =>
    if s.chain.adopting ∧ s.chain.adoptEnd ≤ s.ticks then
      ((s.modChain fun c => { c with adopting := false, rx := c.rx.filter fun r => !r.adopt }).modSys fun y => { y with
        limitsFrom := s.ticks }).startFactory
    else s

end Sys2Proof.Machine
end

