-- ==== Sys2Proof/Machine/Check.lean ====
section
/-! DEFINITION. The check units (R366 to R371) and the reads and writes of the Drum (R372 to R379). -/

namespace Sys2Proof.Machine

/-! Check contexts -/

/-- A check context. -/
def State.crcContext (s : State) (n : Nat) : CrcContext := nth s.ocu.contexts n ⟨none, none⟩

/-- A check context changed. -/
def State.modCrcContext (s : State) (n : Nat) (f : CrcContext → CrcContext) : State :=
  { s with ocu := { s.ocu with contexts := modNth s.ocu.contexts n f } }

/-- The parameters of a context (R367). -/
def State.crcParams (s : State) (n : Nat) : CrcParams := {
  width := s.reg (.CRC_WIDTH n), poly := s.reg (.CRC_POLY n), init := s.reg (.CRC_INIT n)
  reflectIn := s.flag (.CRC_REFLECT_IN n), reflectOut := s.flag (.CRC_REFLECT_OUT n), invert := s.flag (.CRC_INVERT n) }

/-- The running value set, with CRC_RESULT (R367). -/
def State.setRunning (s : State) (n v : Nat) : State :=
  let s1 := s.setReg (.CRC_RUNNING n) v
  s1.setReg (.CRC_RESULT n) (crcResult (s1.crcParams n) v)

/-- reg set to INIT, CRC_OCTETS to 0, and the alive monitor as before its first write (R367, R370). -/
def State.crcRestart (s : State) (n : Nat) : State :=
  ((s.setRunning n (s.reg (.CRC_INIT n))).setReg (.CRC_OCTETS n) 0).modCrcContext n fun c => { c with lastAlive := none }

/-- CRC_CLAIM as a session reads it (R371). -/
def State.crcClaimRead (s : State) (who n : Nat) : Nat :=
  if n < 4 then 2
  else match (s.crcContext n).holder with
    | none => 0
    | some h => if h = who then 1 else 2

/-- A write to a context by the session that holds it; contexts 0 to 3 read as RO (R366, R371). -/
def State.crcWrite (s : State) (who n : Nat) (f : State → State) : State :=
  if 8 ≤ n then s.reply 2
  else if n < 4 then s.reply 7
  else if s.levelOf who < 1 then s.reply 6
  else if (s.crcContext n).holder = some who then f s
  else s.reply 8

/-- A write of CRC_CLAIM (R366). -/
def State.crcClaim (s : State) (who n value : Nat) : State :=
  if 8 ≤ n then s.reply 2
  else if n < 4 then s.reply 7
  else if s.levelOf who < 1 then s.reply 6
  else if 1 < value then s.reply 8
  else
    let held := (s.crcContext n).holder
    if held.any (· != who) then s.reply 8
    else if value = 1 then
      (s.modCrcContext n fun c => { holder := some who, lastAlive := if held = some who then c.lastAlive else none }).reply 0
    else (s.modCrcContext n fun c => { c with holder := none }).reply 0

/-- CRC_CLAIM. -/
def execCrcClaim (dt who context value : Nat) (s : State) : Host.Outcome State Fault Refusal :=
  run s dt fun s => s.crcClaim who context value

/-- A write of CRC_PRESET (R368). -/
def State.crcPresetWrite (s : State) (n value : Nat) : State :=
  match crcPreset value with
  | none => s.reply 8
  | some p =>
    let s1 := ((s.setReg (.CRC_WIDTH n) p.width).setReg (.CRC_POLY n) p.poly).setReg (.CRC_INIT n) p.init
    let s2 := ((s1.setReg (.CRC_REFLECT_IN n) (b2n p.reflectIn)).setReg (.CRC_REFLECT_OUT n) (b2n p.reflectOut)).setReg
      (.CRC_INVERT n) (b2n p.invert)
    (s2.crcRestart n).reply 0

/-- CRC_PRESET. -/
def execCrcPreset (dt who context value : Nat) (s : State) : Host.Outcome State Fault Refusal :=
  run s dt fun s => s.crcWrite who context fun s => s.crcPresetWrite context value

/-- A write of CRC_WIDTH (sub 2), CRC_POLY (3), CRC_INIT (4) or a flag (5 to 7) (R367). -/
def State.crcParameter (s : State) (n sub value : Nat) : State :=
  let w := s.reg (.CRC_WIDTH n)
  if sub < 2 ∨ 7 < sub then s.reply 3
  else if sub = 2 then
    if value < 8 ∨ 64 < value then s.reply 8
    else
      let s1 := (s.setReg (.CRC_WIDTH n) value).setReg (.CRC_POLY n) (s.reg (.CRC_POLY n) % 2 ^ value)
      ((s1.setReg (.CRC_INIT n) (s.reg (.CRC_INIT n) % 2 ^ value)).crcRestart n).reply 0
  else if sub ≤ 4 then
    if 2 ^ w ≤ value then s.reply 8 else ((s.setReg ⟨0xA100 + n, sub⟩ value).crcRestart n).reply 0
  else if 1 < value then s.reply 8
  else ((s.setReg ⟨0xA100 + n, sub⟩ value).crcRestart n).reply 0

/-- CRC_PARAMETER_WRITE. -/
def execCrcParameterWrite (dt who context sub value : Nat) (s : State) : Host.Outcome State Fault Refusal :=
  run s dt fun s => s.crcWrite who context fun s => s.crcParameter context sub value

/-- A write of CRC_RUNNING (R367). -/
def State.crcRunning (s : State) (n value : Nat) : State :=
  if 2 ^ s.reg (.CRC_WIDTH n) ≤ value then s.reply 8 else (s.setRunning n value).reply 0

/-- CRC_RUNNING_WRITE. -/
def execCrcRunningWrite (dt who context value : Nat) (s : State) : Host.Outcome State Fault Refusal :=
  run s dt fun s => s.crcWrite who context fun s => s.crcRunning context value

/-- A write of CRC_FEED (R367): 1 to 4,096 octets. -/
def State.crcFeedWrite (s : State) (n : Nat) (o : List Octet) : State :=
  if o = [] ∨ 4096 < o.length then s.reply 5
  else ((s.setRunning n (crcFeed (s.crcParams n) (s.reg (.CRC_RUNNING n)) o)).bump (.CRC_OCTETS n) o.length).reply 0

/-- CRC_FEED. -/
def execCrcFeed (dt who context : Nat) (octets : List Octet) (s : State) : Host.Outcome State Fault Refusal :=
  run s dt fun s => s.crcWrite who context fun s => s.crcFeedWrite context octets

/-- CRC_ALIVE_STATUS of a value after the last one (R370). -/
def aliveStatus (last : Option Nat) (v : Nat) : Nat :=
  match last with
  | none => 0
  | some l =>
    let step := (v + 256 - l) % 256
    if step = 1 then 1 else if step = 0 then 2 else 3 + (step - 1) * 256

/-- A write of CRC_ALIVE_IN (R370). -/
def State.crcAlive (s : State) (n value : Nat) : State :=
  if 255 < value then s.reply 8
  else ((s.setReg (.CRC_ALIVE_STATUS n) (aliveStatus (s.crcContext n).lastAlive value)).modCrcContext n fun c =>
    { c with lastAlive := some value }).reply 0

/-- CRC_ALIVE_IN. -/
def execCrcAliveIn (dt who context value : Nat) (s : State) : Host.Outcome State Fault Refusal :=
  run s dt fun s => s.crcWrite who context fun s => s.crcAlive context value

/-! The Drum -/

/-- EVENT_POST: an event of 1 to 4 words (R372, R375). Codes below 0x1000 are never posted (R382). -/
def execEventPost (dt code priority : Nat) (args : List Nat) (s : State) : Host.Outcome State Fault Refusal :=
  run s dt fun s =>
    if code < 0x1000 ∨ 0xFFFF < code ∨ 7 < priority ∨ args = [] ∨ 4 < args.length then s
    else
      let n := args.length
      s.postItem (args.zipIdx.map fun (a, i) =>
        ⟨if n = 1 then .single else if i = 0 then .first else if i + 1 = n then .last else .middle, priority, code, a % 2 ^ 42⟩)

/-- A word as it is read (R18). -/
def DrumWord.octets (w : DrumWord) : List Octet :=
  let pos := match w.position with
    | .single => 0
    | .first => 1
    | .middle => 2
    | .last => 3
  leOctets 8 (2 ^ 63 + pos * 2 ^ 61 + w.priority * 2 ^ 58 + w.code * 2 ^ 42 + w.arg)

/-- Where the word of highest priority stands, the oldest of equals (R373). -/
def popPlace (ws : List DrumWord) : Option Nat :=
  (ws.zipIdx.foldl (fun (best : Option (Nat × Nat)) p => match best with
    | none => some (p.1.priority, p.2)
    | some b => if b.1 < p.1.priority then some (p.1.priority, p.2) else best) none).map (·.2)

/-- One word popped: the word, and the words left (R373). -/
def popWord (ws : List DrumWord) : Option DrumWord × List DrumWord :=
  match popPlace ws with
  | some i => (ws[i]?, ws.eraseIdx i)
  | none => (none, ws)

/-- Up to n words popped in order (R373). -/
def popWords : Nat → List DrumWord → List DrumWord × List DrumWord
  | 0, ws => ([], ws)
  | n + 1, ws =>
    match popWord ws with
    | (some w, rest) => let r := popWords n rest; (w :: r.1, r.2)
    | (none, rest) => ([], rest)

/-- A read of DRM_POP (R373): a word, or zeros. -/
def State.drumPop (s : State) : State :=
  let r := popWord s.drum.words
  ((s.setWords r.2).reply 0).emit (.data (match r.1 with
    | some w => w.octets
    | none => List.replicate 8 0))

/-- DRM_POP. -/
def execDrmPop (dt who : Nat) (s : State) : Host.Outcome State Fault Refusal := run s dt fun s => s.asReader who State.drumPop

/-- The words DRM_POP_BLOCK returns (R373). -/
def drumBlock (ws : List DrumWord) : List Octet := leOctets 2 ws.length ++ List.replicate 6 0 ++ (ws.map DrumWord.octets).flatten

/-- A read of DRM_POP_BLOCK (R373). -/
def State.drumPopBlock (s : State) : State :=
  let r := popWords 64 s.drum.words
  ((s.setWords r.2).reply 0).emit (.data (drumBlock r.1))

/-- DRM_POP_BLOCK. -/
def execDrmPopBlock (dt who : Nat) (s : State) : Host.Outcome State Fault Refusal :=
  run s dt fun s => s.asReader who State.drumPopBlock

/-- A write of DRM_FLUSH (R376): the words present go, counted in DRM_FLUSHED. -/
def State.drumFlush (s : State) (value : Nat) : State :=
  if value ≠ 1 then s.reply 8
  else ((s.count .DRM_FLUSHED s.drum.words.length).setWords []).reply 0

/-- DRM_FLUSH. -/
def execDrmFlush (dt who value : Nat) (s : State) : Host.Outcome State Fault Refusal :=
  run s dt fun s => s.asWriter who .DRM_FLUSH fun s => s.drumFlush value

/-- A write of DRM_FAULT_SUMMARY: a 1 clears its bit (R378). -/
def State.faultClear (s : State) (value : Nat) : State :=
  ((List.range 16).foldl (fun s n => if bitOf value n then s.setBit .DRM_FAULT_SUMMARY n false else s) s).reply 0

/-- FAULT_SUMMARY_CLEAR. -/
def execFaultSummaryClear (dt who value : Nat) (s : State) : Host.Outcome State Fault Refusal :=
  run s dt fun s => s.asWriter who .DRM_FAULT_SUMMARY fun s => s.faultClear value

end Sys2Proof.Machine
end

