-- ==== Sys2Proof/Machine/Reading.lean ====
section
/-! DEFINITION. What a read of the dictionary returns (R465, R466, R468). -/

namespace Sys2Proof.Machine

/-- Octets of a text of ASCII characters. -/
def asciiOctets (l : List Char) : List Octet := l.map fun c => BitVec.ofNat 8 c.toNat

/-- Whole seconds until a clock (R471, R489, R519). -/
def State.secondsTo (s : State) (t : Option Nat) : Nat :=
  match t with
  | some t => (t - s.ticks) * 128 / 100 / 1000000000
  | none => 0

/-- An entry of the bridge as its session reads it (R422, R431). -/
def BrgSession.read (b : BrgSession) (sub : Nat) : Nat :=
  if sub = 1 then b.link else if sub = 2 then b.module else if sub = 3 then b.addr else if sub = 4 then b.len else if sub = 7 then b.lock
  else if sub = 8 then b.status else if sub = 9 then b.modStatus else 0

/-- The raw value of a numeric element as a session reads it: those that depend on the time or on the session are computed, the others are held. -/
def State.readNumber (s : State) (who : Nat) (r : Reg) : Nat :=
  if r = .TCK_TIME 1 then s.now
  else if r = .TCK_TIME 2 then s.time96 % 2 ^ 32
  else if r = .TCK_HOLDOVER_S then (if s.reg .TCK_STATE = 4 then (s.now - s.clock.holdoverSince) / 1000000000 else 0)
  else if r = .DIC_LEVEL then s.levelOf who
  else if r = .DIC_SESSION then who
  else if r = .DIC_SERVICE_REMAIN_S then s.secondsTo ((s.session who).bind Session.windowEnd)
  else if r = .UPD_HEALTH_REMAIN_S then s.secondsTo s.update.healthEnd
  else if r.index = 0xC400 then (s.brg who).read r.sub
  else if 0xA100 ≤ r.index ∧ r.index ≤ 0xA107 ∧ r.sub = 1 then s.crcClaimRead who (r.index - 0xA100)
  else s.reg r

/-- The octets of an OCTETS or STRING element; the addresses are in the order of the wire. -/
def State.readOctets (s : State) (r : Reg) : List Octet :=
  if r.index = 0x1000 then asciiOctets ['I', 'Z', '4', '0', '9', '6']
  else if r.index = 0x1001 then asciiOctets ['B', '1']
  else if r.index = 0x1043 then s.unit.serviceKey
  else if r.index = 0x1044 then s.idp.integratorKey
  else if r.index = 0x2000 then beOctets 6 s.unit.macChain
  else if r.index = 0x2001 then beOctets 6 s.unit.macM
  else if r.index = 0x2020 then beOctets 6 (nth s.net.exact (r.sub - 1) 0)
  else if r.index = 0xC108 then beOctets 6 s.unit.rdmUid
  else if r.index = 0xE006 then beOctets 6 s.chain.upMac
  else if r.index = 0xE007 then beOctets 6 s.chain.downMac
  else []

/-- Whether a read of an element removes or advances data, in one item (R468). -/
def popElement (r : Reg) : Bool := r.index == 0xA200 || (Nat.ble 0x3200 r.index && Nat.ble r.index 0x3207 && r.sub == 6)

/-- Whether the dictionary has an entry of an index. -/
def entryDefined (index : Nat) : Bool := (dictRowsOf index).any fun row => Nat.ble row.indexLo index && Nat.ble index row.indexHi

/-- The rows of an entry, in subindex order. -/
def entryRows (index : Nat) : List DictRow := (dictRowsOf index).filter fun row => Nat.ble row.indexLo index && Nat.ble index row.indexHi

/-- Whether an entry is an ARRAY or a RECORD: it has no element 0 of its own (R465). -/
def composite (index : Nat) : Bool := (entryRows index).all fun row => row.subLo != 0

/-- The highest subindex of an entry. -/
def highestSub (index : Nat) : Nat := maxOf ((entryRows index).map DictRow.subHi)

/-- An element read without side effect: status, type code and octets. DOMAIN entries are read in transfers only (R466). -/
def State.readElement (s : State) (who : Nat) (r : Reg) : Nat × Nat × List Octet :=
  match dictRow r with
  | none => (if entryDefined r.index then 3 else 2, 0, [])
  | some row =>
    if row.access = .wo then (7, row.type.code, [])
    else match row.type with
      | .domain => (4, 0x10, [])
      | .octets | .string => (0, row.type.code, s.readOctets r)
      | t => (0, t.code, leOctets t.octetLen (s.readNumber who r))

/-- The elements that a read of subindex 0 returns (R465). -/
def wholeElements (index : Nat) : List Reg :=
  ((entryRows index).filter fun row => row.access != .wo && row.type != .domain).flatMap fun row =>
    ((List.range (row.subHi + 1 - row.subLo)).map fun i => (⟨index, row.subLo + i⟩ : Reg)).filter fun r => !popElement r

/-- The status a piece of work answers, 0 where it answers none, and the state without the answer. -/
def State.answered (s : State) (f : State → State) : Nat × State :=
  let t := f { s with out := [] }
  let status := (t.out.findSome? fun o => match o with
    | .reply n => some n
    | _ => none).getD 0
  (status, { t with out := s.out ++ t.out.filter fun o => match o with
    | .reply _ => false
    | _ => true })

/-- The octets a piece of work reads, beside its status. -/
def State.fetched (s : State) (f : State → State) : (Nat × List Octet) × State :=
  let (status, t) := s.answered f
  let data := (t.out.findSome? fun o => match o with
    | .data d => some d
    | _ => none).getD []
  ((status, data), { t with out := t.out.filter fun o => match o with
    | .data _ => false
    | _ => true })

/-- An item of a READ (R465, R468, R471): status, type code, octets. A highest subindex above 255 does not fit its U8: a free value (log entry 5). -/
def State.readItem (s : State) (who index sub : Nat) : (Nat × Nat × List Octet) × State :=
  let r : Reg := ⟨index, sub⟩
  if entryDefined index = false then ((2, 0, []), s)
  else if sub = 255 ∧ composite index then
    if highestSub index < 256 then ((0, 0x02, leOctets 1 (highestSub index)), s)
    else
      let (v, s1) := s.takeFree
      ((0, 0x02, leOctets 1 (Config.freeValue v)), s1)
  else if sub = 0 ∧ composite index then
    ((0, entryCode index, ((wholeElements index).map fun r => (s.readElement who r).2.2).flatten), s)
  else if popElement r then
    let ((status, data), s1) := s.fetched fun s => s.asReader who fun s => if index = 0xA200 then s.drumPop else s.capPop (index - 0x3200)
    ((status, (if index = 0xA200 then 0x05 else 0x0C), data), s1)
  else (s.readElement who r, s)

/-! DOMAIN entries -/

/-- A record of the flash log, 32 octets (R517). -/
def LogRecord.octets (r : LogRecord) : List Octet :=
  let o := leOctets 8 r.time ++ leOctets 2 r.code ++ leOctets 1 r.priority ++ leOctets 1 0 ++ leOctets 8 r.arg ++ leOctets 4 r.boot ++ leOctets 4 r.seq
  o ++ leOctets 4 (crcOf crc32c o)

/-- An output of the signal map as MAP_OUTPUTS shows it (R429). -/
def MapOutput.octets (m : MapOutput) : List Octet := leOctets 4 (m.z % 65536 + b2n m.live * 2 ^ 16 + b2n m.claiming * 2 ^ 17)

/-- The octets of a DOMAIN entry whose read removes nothing (R179, R246, R408, R426, R429, R430, R517). -/
def State.domainData (s : State) (index sub : Nat) : Option (List Octet) :=
  if 0x8100 ≤ index ∧ index ≤ 0x813F ∧ sub = 0 then some (wordOctets 8 (nth s.scan.mapAdmin (index - 0x8100) []))
  else if 0x8300 ≤ index ∧ index ≤ 0x833F ∧ sub = 0 then some (wordOctets 8 (nth s.scan.mapOper (index - 0x8300) []))
  else if index = 0xC000 ∧ sub = 0 then some (wordOctets 16 s.smap.admin)
  else if index = 0xC002 ∧ sub = 0 then some (wordOctets 16 s.smap.oper)
  else if index = 0xC006 ∧ sub = 0 then some ((s.smap.outputs.map MapOutput.octets).flatten)
  else if 0xC100 ≤ index ∧ index ≤ 0xC107 ∧ sub = 12 then some (s.dmx (index - 0xC100)).response
  else if 0xC100 ≤ index ∧ index ≤ 0xC107 ∧ sub = 15 then
    let uids := (s.dmx (index - 0xC100)).uids
    some (leOctets 2 uids.length ++ (uids.map fun u => beOctets 6 u).flatten)
  else if index = 0xC410 ∧ sub = 0 then some ((s.bridge.pwe.map PweEntry.octets).flatten)
  else if index = 0xE10E ∧ sub = 0 then some ((s.log.records.map LogRecord.octets).flatten)
  else if index = 0x7410 ∧ sub = 3 then some s.cal.pass1
  else if index = 0x7410 ∧ sub = 4 then some s.cal.pass2
  else none

/-- The DOMAIN entries whose read removes or advances data (R468). -/
def State.domainPop (s : State) (who index : Nat) : Option ((Nat × List Octet) × State) :=
  if index = 0x5027 then some (s.fetched fun s => s.asReader who State.traceRead)
  else if index = 0x6302 then some (s.fetched fun s => s.asReader who State.previewRead)
  else if index = 0xA201 then some (s.fetched fun s => s.asReader who State.drumPopBlock)
  else none

end Sys2Proof.Machine
end

