-- ==== Sys2Proof/Machine/DictWrite.lean ====
section
/-! DEFINITION. What a write of the dictionary does in the unit that applies it (R465 to R469, R598): the checks every write meets, and the
behaviour of the entries that have one. -/

namespace Sys2Proof.Machine

/-! Checks -/

/-- Whether the function named for an RWF element runs (R17, R468): the pin, the layer, the trace, the link, the sinks of the gang or of the rail
group. -/
def State.functionRuns (s : State) (r : Reg) : Bool :=
  let i := r.index
  if i = 0x3010 then
    let n := r.sub + 4
    (s.cmp n).armed || s.scanOwns n ||
      (s.scan.gridOn && s.reg .SCN_GENLOCK_OPER == 1 && s.reg .SCN_GENLOCK_PIN_OPER + 1 == r.sub)
  else if 0x4100 ≤ i ∧ i ≤ 0x4107 then s.flag (.ING_LAYER_ENABLE (i - 0x4100))
  else if 0x6100 ≤ i ∧ i ≤ 0x6107 then s.flag (.ING_LAYER_ENABLE (i - 0x6100))
  else if i = 0x5022 then s.flag .BEL_TRACE_ENABLE
  else if 0x8900 ≤ i ∧ i ≤ 0x893F then s.flag (.SPL_LINK_ENABLE (i - 0x8900))
  else if 0x9100 ≤ i ∧ i ≤ 0x92FF then
    let c := i - 0x9100
    (List.range (max 1 (s.reg (.LAN_CH_GANG c)))).any fun k => s.flag (.LAN_CH_ENABLE (c + k))
  else if 0x9340 ≤ i ∧ i ≤ 0x934F then (List.range 32).any fun k => s.flag (.LAN_CH_ENABLE ((i - 0x9340) * 32 + k))
  else false

/-- Whether an element is RWF. -/
def isRwf (r : Reg) : Bool :=
  match dictRow r with
  | some row => row.access == .rwf
  | none => false

/-- Whether a change is pending on the administrative copy an element belongs to (R65, R190, R246, R265, R409). -/
def State.changePending (s : State) (r : Reg) : Bool :=
  let i := r.index
  if 0x2041 ≤ i ∧ i ≤ 0x2044 then (s.port (r.sub - 1)).gate.pending
  else if i = 0x2045 ∨ i = 0x2046 then (s.port (i - 0x2045)).gate.pending
  else if i = 0x6001 ∨ i = 0x6002 then s.reg .CUP_ORDER_CHANGE == 1
  else if i = 0x8010 then s.reg .SCN_MODE_CHANGE == 1
  else if (0x8100 ≤ i ∧ i ≤ 0x813F) ∨ i = 0x8143 then s.reg .SCN_MAP_CHANGE == 1
  else if i = 0xC000 then s.reg .MAP_CHANGE == 1
  else false

/-- The values that a rule refuses beyond the range of their row (R316, R321, R329, R362). -/
def State.valueRefused (s : State) (r : Reg) (v : Nat) : Bool :=
  let i := r.index
  if i = 0xA002 then Nat.blt v (s.reg .OCU_K)
  else if 0x9100 ≤ i ∧ i ≤ 0x92FF then
    (r.sub == 4 && !bitOf v 0 && (s.lampRegion (i - 0x9100)).isSome) || (i == 0x9100 && r.sub == 3 && v == 0)
  else if 0x9300 ≤ i ∧ i ≤ 0x933F then r.sub == 4 && v != 255 && !s.flag (.LAN_GRP_SAFETY (i - 0x9300))
  else false

/-! Entries with a behaviour of their own -/

/-- A write of TCK_BELL_DIR: a pin that becomes an output stands at its comparator's idle level (R113). -/
def State.bellDirection (s : State) (sub v : Nat) : State :=
  let s1 := s.setReg (.TCK_BELL_DIR sub) v
  (if v = 1 then s1.emit (.bell (sub - 1) (s1.cmp (sub + 4)).bellLevel) else s1).reply 0

/-- A write of SPL_LINK_ENABLE (R284, R311); a link whose controller failed stays out of use (R537). -/
def State.linkEnableWrite (s : State) (k v : Nat) : State :=
  let s1 := s.setReg (.SPL_LINK_ENABLE k) v
  (if v = 0 then s1.linkDisable k else if bitOf (s1.reg .SYS_LINK_CTRL) (k / 8) then s1.linkEnable k else s1).reply 0

/-- A write of an entry of the bridge: its session's own copy (R422). -/
def State.brgEntry (s : State) (who sub v : Nat) : State :=
  (s.modBrgSession who fun b =>
    if sub = 1 then { b with link := v } else if sub = 2 then { b with module := v } else if sub = 3 then { b with addr := v } else { b with len := v }).reply 0

/-- Two values of a change entry: 1 requests, 2 cancels. -/
def changeWrite (v : Nat) (request cancel : State → State) : State → State := if v = 1 then request else cancel

/-- The behaviour of a write of an element in the ranges below 0x7000, if it has one. -/
def lowBehaviour (r : Reg) (v : Nat) : Option (State → State) :=
  let i := r.index
  if i = 0x1023 then some fun s => s.profileSave v
  else if i = 0x1025 ∧ r.sub = 3 then some fun s => s.profileCreate v
  else if i = 0x1026 then some fun s => s.restartWrite v
  else if i = 0x2010 ∨ i = 0x2011 then some fun s => s.portWrite (r.sub - 1) (i == 0x2011) v
  else if i = 0x2047 then some (changeWrite v (fun s => s.gclRequest (r.sub - 1)) fun s => s.gclCancel (r.sub - 1))
  else if 0x2400 ≤ i ∧ i ≤ 0x247F then some fun s => s.streamTableWrite (i - 0x2400) r.sub v
  else if i = 0x300A then some fun s => if v = 0 then s.reacquireCancel else s.reacquireSchedule v
  else if 0x3020 ≤ i ∧ i ≤ 0x3023 then some fun s => s.ptpConfigWrite i v
  else if i = 0x3010 then some fun s => s.bellDirection r.sub v
  else if 0x3100 ≤ i ∧ i ≤ 0x310F ∧ r.sub = 11 then some fun s => s.cmpCommit (i - 0x3100)
  else if 0x4100 ≤ i ∧ i ≤ 0x4107 ∧ r.sub = 1 then some fun s => s.layerEnable (i - 0x4100) v
  else if i = 0x5022 then some fun s => s.traceSize v
  else if i = 0x5025 then some fun s => s.traceMark v
  else if i = 0x5026 then some fun s => s.traceRewind v
  else if i = 0x5105 then some fun s => s.statsWindow v
  else if i = 0x6003 then some (changeWrite v State.orderRequest State.orderCancel)
  else if i = 0x6200 then some fun s => if v = 0 then s.finialDisable else s.finialEnable
  else if i = 0x6301 then some fun s => s.previewTake v
  else none

/-- The behaviour of a write of an element in the ranges 0x7000 to 0x9FFF, if it has one. -/
def midBehaviour (r : Reg) (v : Nat) : Option (State → State) :=
  let i := r.index
  if i = 0x7400 ∧ r.sub = 5 then some fun s => s.spareCommit v
  else if 0x7200 ≤ i ∧ i ≤ 0x723F then some fun s => s.moduleZone (i - 0x7200) r.sub v
  else if i = 0x7410 ∧ r.sub = 5 then some State.recalAbort
  else if i = 0x7501 then some fun s => s.trimMeasure v
  else if i = 0x8002 then some (changeWrite v State.modeRequest State.modeCancel)
  else if i = 0x8140 then some (changeWrite v State.mapRequest State.mapCancel)
  else if 0x8900 ≤ i ∧ i ≤ 0x893F ∧ r.sub = 1 then some fun s => s.linkEnableWrite (i - 0x8900) v
  else if i = 0x9080 ∧ r.sub = 3 then some fun s => s.cueGo v
  else if i = 0x9081 then some fun s => s.cueStop v
  else if 0x9100 ≤ i ∧ i ≤ 0x92FF ∧ r.sub = 1 then some fun s => s.lampEnableWrite (i - 0x9100) v
  else if 0x9300 ≤ i ∧ i ≤ 0x933F ∧ r.sub = 5 then some fun s => s.groupClearWrite (i - 0x9300 + 1) v
  else none

/-- The behaviour of a write of a CRC context (R366 to R371). -/
def crcBehaviour (who n sub v : Nat) : State → State :=
  if sub = 1 then fun s => s.crcClaim who n v
  else fun s => s.crcWrite who n fun s =>
    if sub = 8 then s.crcPresetWrite n v else if sub = 9 then s.crcRunning n v else if sub = 13 then s.crcAlive n v else s.crcParameter n sub v

/-- The behaviour of a write of an element in the ranges from 0xA000 on, if it has one. -/
def highBehaviour (who : Nat) (r : Reg) (v : Nat) : Option (State → State) :=
  let i := r.index
  if i = 0xA000 then some fun s => s.ocuEnable v
  else if 0xA100 ≤ i ∧ i ≤ 0xA107 then some (crcBehaviour who (i - 0xA100) r.sub v)
  else if i = 0xA204 then some fun s => s.drumFlush v
  else if i = 0xA205 then some fun s => s.faultClear v
  else if i = 0xC001 then some (changeWrite v State.signalMapRequest State.signalMapCancel)
  else if 0xC100 ≤ i ∧ i ≤ 0xC107 ∧ r.sub = 1 then some fun s => s.dmxMode (i - 0xC100) v
  else if 0xC100 ≤ i ∧ i ≤ 0xC107 ∧ r.sub = 13 then some fun s => s.rdmAbort (i - 0xC100) v
  else if 0xC100 ≤ i ∧ i ≤ 0xC107 ∧ r.sub = 14 then some fun s => s.rdmDiscover (i - 0xC100) v
  else if 0xC200 ≤ i ∧ i ≤ 0xC23F then some fun s => s.universeWrite (i - 0xC200) r.sub v
  else if i = 0xC400 ∧ r.sub ≤ 4 then some fun s => s.brgEntry who r.sub v
  else if i = 0xC400 ∧ r.sub = 7 then some fun s => if v = 1 then s.brgLock who else s.brgUnlock who
  else if i = 0xC400 ∧ r.sub = 10 then some fun s => s.brgAbortWrite who v
  else if i = 0xC411 then some fun s => s.pweClear v
  else if i = 0xD00C then some fun s => s.rejoin v
  else if i = 0xE004 then some fun s => s.addrAccept v
  else if i = 0xE101 ∧ r.sub = 6 then some fun s => s.startCommit who v
  else if i = 0xE102 then some fun s => s.updAbort v
  else if i = 0xE103 then some fun s => s.updConfirm v
  else if i = 0xE104 then some fun s => s.updReject v
  else none

/-- The behaviour of a write of an element, if it has one of its own. -/
def behaviour (who : Nat) (r : Reg) (v : Nat) : Option (State → State) :=
  if r.index < 0x7000 then lowBehaviour r v else if r.index < 0xA000 then midBehaviour r v else highBehaviour who r v

/-! Entries without -/

/-- The value an element takes: bit 15 of BEL_TRACE_FILTER cannot be cleared (R183). -/
def plainValue (r : Reg) (v : Nat) : Nat := if r = .BEL_TRACE_FILTER then setBitTo v 15 true else v

/-- What follows the write of a plain element at once: the address in use (R39), the timestamp constants (R91), the choice of the next profile (R485),
what a DMX port shows (R419), the claim in force (R439) and the wait for a yield (R442). -/
def State.afterPlain (s : State) (r : Reg) : State :=
  let i := r.index
  if 0x2002 ≤ i ∧ i ≤ 0x2008 then s.showIp
  else if i = 0x3028 ∨ i = 0x3029 then s.loadTsConst
  else if r = .DIC_PROFILE_NEXT then { s with sys := { s.sys with nextProfile := s.reg .DIC_PROFILE_NEXT } }
  else if 0xC100 ≤ i ∧ i ≤ 0xC107 ∧ r.sub = 6 then s.showDmx (i - 0xC100)
  else if i = 0xD005 ∨ i = 0xD006 then s.claimFollows.settleTwin.tiedUpdate
  else if i = 0xD008 then s.watchYield
  else s

/-- A plain element set. -/
def State.setPlain (s : State) (r : Reg) (v : Nat) : State := (s.setReg r (plainValue r v)).afterPlain r

/-! Writes -/

/-- What refuses a value of an element before its behaviour is asked (R466, R468, R472): 8 out of range, 9 its function runs, 10 a change is
pending. In a write of subindex 0 an RWF element may be written with the value it holds (R465). -/
def State.valueStatus (s : State) (whole : Bool) (r : Reg) (v : Nat) : Option Nat :=
  if inRange r v = false then some 8
  else if isRwf r && s.functionRuns r && !(whole && s.reg r == v) then some 9
  else if s.changePending r then some 10
  else none

/-- A value written to a numeric element by a writer who may. -/
def State.writeNumber (s : State) (who : Nat) (r : Reg) (v : Nat) : State :=
  match s.valueStatus false r v with
  | some st => s.reply st
  | none =>
    if s.valueRefused r v then s.reply 8
    else match behaviour who r v with
      | some f => f s
      | none =>
        let t := s.setReg r (plainValue r v)
        if t.pairsOk r.index then (s.setPlain r v).reply 0 else s.reply 8

/-- The elements that a write of subindex 0 carries: every writable one of fixed length, in subindex order (R465). -/
def writableElements (index : Nat) : List Reg :=
  ((entryRows index).filter fun row => row.access != .ro && row.access != .const && row.type.octetLen != 0).flatMap fun row =>
    (List.range (row.subHi + 1 - row.subLo)).map fun i => (⟨index, row.subLo + i⟩ : Reg)

/-- The octets of the elements of an entry, cut to their values. -/
def wholeValues : List Reg → List Octet → List (Reg × Nat)
  | [], _ => []
  | r :: rs, o =>
    let n := ((dictRow r).map fun row => row.type.octetLen).getD 0
    (r, ofLe (o.take n)) :: wholeValues rs (o.drop n)

/-- The octets that the elements of an entry take. -/
def wholeLength (rs : List Reg) : Nat := (rs.map fun r => ((dictRow r).map fun row => row.type.octetLen).getD 0).sum

/-- The order in which behaviours follow: enables and universe numbers are judged with the other new values. -/
def wholeOrder (index : Nat) (vs : List (Reg × Nat)) : List (Reg × Nat) :=
  if (0x4100 ≤ index ∧ index ≤ 0x4107) ∨ (0x8900 ≤ index ∧ index ≤ 0x893F) ∨ (0x9100 ≤ index ∧ index ≤ 0x92FF) ∨ (0xC200 ≤ index ∧ index ≤ 0xC23F) then
    (vs.filter fun p => p.1.sub != 1) ++ vs.filter fun p => p.1.sub == 1
  else vs

/-- The behaviours of a write of subindex 0, in order; the first refusal ends them with its status and its events. -/
def State.wholeBehaviours (who : Nat) : List (Reg × Nat) → State → Nat × List (List DrumWord) × State
  | [], s => (0, [], s)
  | (r, v) :: rest, s =>
    match behaviour who r v with
    | none => State.wholeBehaviours who rest s
    | some f =>
      let (st, t) := s.answered f
      if st = 0 then State.wholeBehaviours who rest t else (st, t.drum.incoming.drop s.drum.incoming.length, t)

/-- A write of subindex 0 of an ARRAY or RECORD: judged whole against the complete set of new values, and applied or refused whole (R465, R598). -/
def State.writeWhole (s : State) (who index : Nat) (octets : List Octet) : State :=
  let vs := wholeValues (writableElements index) octets
  match vs.findSome? fun p => s.valueStatus true p.1 p.2 with
  | some st => s.reply st
  | none =>
    let plain := vs.filter fun p => (behaviour who p.1 p.2).isNone
    let base := plain.foldl (fun s p => s.setReg p.1 (plainValue p.1 p.2)) s
    if base.pairsOk index = false ∨ vs.any (fun p => base.valueRefused p.1 p.2) then s.reply 8
    else
      let (st, events, t) := State.wholeBehaviours who (wholeOrder index vs) (plain.foldl (fun s p => s.afterPlain p.1) base)
      if st = 0 then t.reply 0
      else { s with drum := { s.drum with incoming := s.drum.incoming ++ events } }.reply st

/-- An OCTETS element written (R204, R367, R489). -/
def State.writeOctets (s : State) (who : Nat) (r : Reg) (octets : List Octet) : State :=
  if r.index = 0x1040 then s.installKey who octets
  else if r.index = 0x1044 then s.integratorKey octets
  else if r.index = 0x6201 then s.finialKey octets
  else if 0xA100 ≤ r.index ∧ r.index ≤ 0xA107 then s.crcWrite who (r.index - 0xA100) fun s => s.crcFeedWrite (r.index - 0xA100) octets
  else s.reply 7

/-- A DOMAIN entry written in one clock (R241, R246, R409, R421, R423, R475). The layout of DMX_RDM_REQ is the model's (log entry 40). -/
def State.writeDomain (s : State) (who index sub : Nat) (data : List Octet) : State :=
  let r : Reg := ⟨index, sub⟩
  if s.changePending r then s.reply 10
  else if 0x8100 ≤ index ∧ index ≤ 0x813F then
    if data.length % 8 ≠ 0 then s.reply 17
    else (s.modScan fun c => { c with mapAdmin := setNth c.mapAdmin (index - 0x8100) (octetWords 8 data) }).reply 0
  else if index = 0xC000 then
    if data.length % 16 ≠ 0 then s.reply 17 else (s.modMap fun m => { m with admin := octetWords 16 data }).reply 0
  else if index = 0x7410 ∧ s.cal.recal.isSome then s.reply 10
  else if index = 0x7410 ∧ sub = 3 then (s.modCal fun c => { c with pass1 := data }).reply 0
  else if index = 0x7410 ∧ sub = 4 then ((s.modCal fun c => { c with pass2 := data }).recalCompare).reply 0
  else if 0xC100 ≤ index ∧ index ≤ 0xC107 then
    if data.length < 9 then s.reply 17
    else s.rdmRequest (index - 0xC100) (ofBe (data.take 6)) (ofBe (slice data 6 1)) (ofBe (slice data 7 2)) (data.drop 9)
  else if index = 0xC400 then s.brgWrite who data
  else s.reply 7

/-- The level a write of subindex 0 asks: that of its highest element. -/
def wholeLevel (index : Nat) : Option Nat :=
  match (writableElements index).filterMap writeLevel with
  | [] => none
  | l => some (maxOf l)

/-- What refuses a write before its value is looked at: 2 and 3 no such entry or subindex, 7 not writable, 6 level, 4 type (R465, R466, R468, R472).
A DOMAIN is written by transfer only, which names no type. -/
def State.writeGate (s : State) (who index sub : Nat) (type : Option Nat) : Option Nat :=
  let levels := fun (l : Option Nat) (code : Nat) => match l with
    | none => some 7
    | some l => if s.levelOf who < l then some 6 else if type = some code then none else if code = 0x10 ∧ type = none then none else some 4
  if entryDefined index = false then some 2
  else if sub = 255 ∧ composite index then some 7
  else if sub = 0 ∧ composite index then levels (wholeLevel index) (entryCode index)
  else match dictRow ⟨index, sub⟩ with
    | none => some 3
    | some row =>
      if row.type = .domain ∧ type.isSome then (if (writeLevel ⟨index, sub⟩).isNone then some 7 else some 4)
      else levels (writeLevel ⟨index, sub⟩) row.type.code

/-- A value that has passed the gate: its length, and the write (R465, R466). -/
def State.applyValue (s : State) (who index sub : Nat) (octets : List Octet) : State :=
  if sub = 0 ∧ composite index then
    if octets.length = wholeLength (writableElements index) then s.writeWhole who index octets else s.reply 5
  else match dictRow ⟨index, sub⟩ with
    | none => s.reply 3
    | some row =>
      if row.type = .domain then s.writeDomain who index sub octets
      else if row.type.octetLen = 0 then s.writeOctets who ⟨index, sub⟩ octets
      else if octets.length ≠ row.type.octetLen then s.reply 5
      else s.writeNumber who ⟨index, sub⟩ (ofLe octets)

/-- A write applied by the unit that receives it. -/
def State.writeLocal (s : State) (who index sub : Nat) (type : Option Nat) (octets : List Octet) : State :=
  match s.writeGate who index sub type with
  | some st => s.reply st
  | none => s.applyValue who index sub octets

end Sys2Proof.Machine
end

