-- ==== Sys2Proof/Machine/Mirror.lean ====
section
/-! DEFINITION. Mirrored writes (R448 to R451), and the delivery of mirror messages (R445 to R447). -/

namespace Sys2Proof.Machine

/-! Sequencing (R449) -/

/-- T_a in ns: the first T_p(k) + P/2 at least 50 us away, moved to 2 us after a merge instant within 1 us of it (R449). -/
def State.applyTime (s : State) : Nat :=
  let half := s.period / 2
  let i := s.gridFirst (s.time96 + nsUnits 50000 - half)
  let t := s.gridAt i + half
  let merge := s.lampStart (s.lampFirst (t + nsUnits 7000)) - nsUnits 8000
  (if s.lantern.gridOn ∧ merge ≤ t + nsUnits 1000 then merge + nsUnits 2000 else t) / 2 ^ 32

/-- How a write is taken: 0 by this unit alone, 1 sequenced here, 2 forwarded to the sequencer, 3 refused (R448, R449, R451). -/
def State.mirrorRoute (s : State) (index : Nat) : Nat :=
  let st := s.reg .TWN_STATE
  if mirrored index = false ∨ st = 0 ∨ st = 2 then 0
  else if s.mirrorUp = false then (if st = 5 then 0 else 3)
  else if st = 5 then 1
  else if st = 1 then 3
  else 2

/-- A write taken into the sequence: the next DSEQ and T_a, and DICT_WRITE to the partner. Data too long for a message travel as BULK object 128
before it (R449; log entry 42). -/
def State.putInSequence (s : State) (mine domain : Bool) (index sub session : Nat) (value : List Octet) : State :=
  let big := domain || Nat.blt 4046 value.length
  let s1 := if big then s.sendBulk 128 value else s
  let dseq := (s.twin.lastDseq + 1) % 2 ^ 32
  let ta := s.applyTime
  let s2 := s1.modTwin fun t => { t with lastDseq := dseq, writes := t.writes ++ [⟨dseq, ta, index, sub, session, 0, value, mine⟩] }
  s2.sendMirror 0x30 (leOctets 4 dseq ++ leOctets 8 ta ++ leOctets 2 index ++ leOctets 1 sub ++ leOctets 2 session ++ leOctets 1 0 ++
    (if big then [] else value))

/-- A write that has passed the gate, as the sequencer takes it: validated on the values that stand, and sequenced where it is accepted (R449). -/
def State.sequenceWrite (s : State) (mine domain : Bool) (who index sub session : Nat) (value : List Octet) : State :=
  if (s.answered fun t => t.applyValue who index sub value).1 = 0 then (s.putInSequence mine domain index sub session value).reply 1
  else s.applyValue who index sub value

/-- A write forwarded to the sequencer (R449). -/
def State.forwardWrite (s : State) (domain : Bool) (index sub session : Nat) (value : List Octet) : State :=
  let big := domain || Nat.blt 4046 value.length
  (((if big then s.sendBulk 128 value else s).modTwin fun t => { t with forwards := t.forwards ++ [⟨index, sub, session⟩] }).sendMirror 0x31
    (leOctets 2 index ++ leOctets 1 sub ++ leOctets 2 session ++ if big then [] else value)).reply 1

/-- A write of this unit alone. An Active unit whose mirror link is down counts a mirrored one as sequenced (R451). -/
def State.writeAlone (s : State) (who index sub : Nat) (type : Option Nat) (value : List Octet) : State :=
  let t := s.writeLocal who index sub type value
  if mirrored index ∧ s.reg .TWN_STATE = 5 ∧ (s.answered fun t => t.writeLocal who index sub type value).1 = 0 then
    let dseq := (s.twin.lastDseq + 1) % 2 ^ 32
    (t.modTwin fun x => { x with lastDseq := dseq }).setReg .TWN_DSEQ dseq
  else t

/-- A write of a session to the dictionary, status 1 while it waits for its apply time (R448 to R451, R467). -/
def State.writeItem (s : State) (who index sub : Nat) (type : Option Nat) (value : List Octet) : State :=
  let route := s.mirrorRoute index
  if route = 0 ∨ who = 0 then s.writeAlone who index sub type value
  else match s.writeGate who index sub type with
    | some st => s.reply st
    | none =>
      if route = 3 then s.reply 6
      else if route = 1 then s.sequenceWrite true type.isNone who index sub who value
      else s.forwardWrite type.isNone index sub who value

/-- REGISTER_WRITE (R467): a write of an entry, with its type code and octets. -/
def execRegisterWrite (dt who : Nat) (item : WriteItem) (s : State) : Host.Outcome State Fault Refusal :=
  run s dt fun s => s.writeItem who item.index item.sub (some item.type) item.value

/-! Applying (R449, R450) -/

/-- A numeric element as the sequencer holds it, where the partner's own write was refused (R450). -/
def State.keepValue (s : State) (w : MirWrite) : State :=
  if w.sub = 0 ∧ composite w.index then
    (wholeValues (writableElements w.index) w.value).foldl (fun s p => s.setReg p.1 p.2) s
  else s.setReg ⟨w.index, w.sub⟩ (ofLe w.value)

/-- A mirrored write applied. The partner answers with its status; one that differs from the sequencer's makes it an Observer (R450). -/
def State.applyMirrored (s : State) (w : MirWrite) : State :=
  let (st, s1) := s.answered fun t => t.applyValue 0xFFFF w.index w.sub w.value
  let s2 := (s1.count .TWNCNT_DICT_MIRRORED).setReg .TWN_DSEQ w.dseq
  let s3 :=
    if s.reg .TWN_STATE = 5 then s2
    else
      let s4 := s2.sendMirror 0x32 (leOctets 4 w.dseq ++ leOctets 1 st)
      if st = w.status then s4 else (s4.keepValue w).observe 1
  if w.mine then s3.waitDone w.session w.index w.sub st else s3

/-- MIRROR_WRITE_APPLY: the oldest write whose T_a the voted time has reached (R449). -/
def execMirrorWriteApply (dt : Nat) (s : State) : Host.Outcome State Fault Refusal :=
  run s dt fun s =>
    match s.twin.writes with
    | w :: rest => if w.ta ≤ s.now then (s.modTwin fun t => { t with writes := rest }).applyMirrored w else s
    | [] => s

/-! Messages -/

/-- DICT_WRITE (R449, R450): it waits for its apply time. -/
def State.dictWriteMessage (s : State) (p : List Octet) : State :=
  let index := ofLe (slice p 12 2)
  let sub := ofLe (slice p 14 1)
  let session := ofLe (slice p 15 2)
  let bulk := ((s.twin.bulk.find? fun q => q.1 == 128 + 256).map (·.2)).getD []
  let value := if p.drop 18 = [] then bulk else p.drop 18
  let mine : Bool := match s.twin.forwards with
    | f :: _ => f.index == index && f.sub == sub && f.session == session
    | [] => false
  s.modTwin fun t => { t with
    writes := t.writes ++ [⟨ofLe (p.take 4), ofLe (slice p 4 8), index, sub, session, ofLe (slice p 17 1), value, mine⟩]
    forwards := if mine then t.forwards.drop 1 else t.forwards
    bulk := t.bulk.filter fun q => q.1 != 128 + 256
    lastDseq := ofLe (p.take 4) }

/-- DICT_FORWARD (R449): handled as if this unit had received the write. A refusal goes back in a DICT_STATUS of DSEQ 0 (log entry 44). -/
def State.dictForwardMessage (s : State) (p : List Octet) : State :=
  let index := ofLe (p.take 2)
  let sub := ofLe (slice p 2 1)
  let domain := p.drop 5 = [] && s.twin.bulk.any fun q => q.1 == 128 + 256
  let value := if domain then ((s.twin.bulk.find? fun q => q.1 == 128 + 256).map (·.2)).getD [] else p.drop 5
  let s0 := if domain then s.modTwin fun t => { t with bulk := t.bulk.filter fun q => q.1 != 128 + 256 } else s
  if s.reg .TWN_STATE ≠ 5 then s0.sendMirror 0x32 (leOctets 4 0 ++ leOctets 1 6)
  else
    let (st, s1) := s0.answered fun t => t.sequenceWrite false domain 0xFFFF index sub (ofLe (slice p 3 2)) value
    if st = 1 then s1 else s1.sendMirror 0x32 (leOctets 4 0 ++ leOctets 1 st)

/-- DICT_STATUS (R450): a status of DSEQ 0 ends the oldest write this unit forwarded. A partner whose status differs settles that itself. -/
def State.dictStatusMessage (s : State) (p : List Octet) : State :=
  if ofLe (p.take 4) = 0 then
    match s.twin.forwards with
    | f :: rest => (s.modTwin fun t => { t with forwards := rest }).waitDone f.session f.index f.sub (ofLe (slice p 4 1))
    | [] => s
  else s

/-- A message taken by its TYPE (R446). -/
def State.mirrorDeliver (s : State) (kind : Nat) (m : MirMessage) : State :=
  if kind = 0x10 then s.admitMessage m.payload
  else if kind = 0x11 then s.anchorMessage m.payload
  else if kind = 0x20 then s.linkSigMessage m.payload
  else if kind = 0x21 then s.frameSigMessage m.payload
  else if kind = 0x30 then s.dictWriteMessage m.payload
  else if kind = 0x31 then s.dictForwardMessage m.payload
  else if kind = 0x32 then s.dictStatusMessage m.payload
  else if kind = 0x40 then s.pushMessage m
  else if kind = 0x50 then s.bulkMessage m.payload
  else if kind = 0x60 then s.syncMessage m.payload
  else s

/-- Messages that waited for a gap, delivered as far as they follow (R447). -/
def State.deliverHeld : Nat → State → State
  | 0, s => s
  | n + 1, s =>
    match s.twin.held.find? fun p => p.2.mseq == s.twin.rxSeq with
    | none => s
    | some (kind, m) =>
      State.deliverHeld n ((s.modTwin fun t => { t with
        held := t.held.filter fun p => p.2.mseq != m.mseq, rxSeq := nextMseq m.mseq }).mirrorDeliver kind m)

/-- How far an MSEQ lies ahead of the next to be delivered, around 2^32 - 1. -/
def mseqAhead (mseq next : Nat) : Nat := (mseq + (2 ^ 32 - 1) - next) % (2 ^ 32 - 1)

/-- An acknowledged message as it arrives: its check, its ACK, and its delivery in order of MSEQ, once (R447). -/
def State.mirrorTake (s : State) (kind : Nat) (m : MirMessage) : State :=
  if s.mirrorUp = false then s
  else if m.checkOk = false then s.count .TWNCNT_MIR_CHECK_FAIL
  else
    let s1 := s.sendMirror 0x01 (leOctets 4 m.mseq)
    let ahead := mseqAhead m.mseq s.twin.rxSeq
    if ahead = 0 then
      State.deliverHeld (s1.twin.held.length + 1) ((s1.modTwin fun t => { t with rxSeq := nextMseq m.mseq }).mirrorDeliver kind m)
    else if ahead < 2 ^ 31 then
      if s.twin.held.any fun p => p.2.mseq == m.mseq then s1 else s1.modTwin fun t => { t with held := t.held ++ [(kind, m)] }
    else s1

/-- A message without acknowledgement: only its check (R446, R447). -/
def State.mirrorLight (s : State) (m : MirMessage) (f : State → State) : State :=
  if s.mirrorUp = false then s else if m.checkOk = false then s.count .TWNCNT_MIR_CHECK_FAIL else f s

/-- ACK (R447). -/
def execMirrorAck (dt : Nat) (m : MirMessage) (s : State) : Host.Outcome State Fault Refusal :=
  run s dt fun s => s.mirrorLight m fun s => s.ackMessage m.payload

/-- HEARTBEAT (R441, R446). -/
def execMirrorHeartbeat (dt : Nat) (m : MirMessage) (s : State) : Host.Outcome State Fault Refusal :=
  run s dt fun s => s.mirrorLight m fun s => s.beatMessage m

/-- ADMIT (R444). -/
def execMirrorAdmit (dt : Nat) (m : MirMessage) (s : State) : Host.Outcome State Fault Refusal := run s dt fun s => s.mirrorTake 0x10 m

/-- ANCHOR (R457). -/
def execMirrorAnchor (dt : Nat) (m : MirMessage) (s : State) : Host.Outcome State Fault Refusal := run s dt fun s => s.mirrorTake 0x11 m

/-- LINK_SIG (R454). -/
def execLinkSig (dt : Nat) (m : MirMessage) (s : State) : Host.Outcome State Fault Refusal := run s dt fun s => s.mirrorTake 0x20 m

/-- FRAME_SIG (R455). -/
def execFrameSig (dt : Nat) (m : MirMessage) (s : State) : Host.Outcome State Fault Refusal := run s dt fun s => s.mirrorTake 0x21 m

/-- DICT_WRITE (R450). -/
def execDictWrite (dt : Nat) (m : MirMessage) (s : State) : Host.Outcome State Fault Refusal := run s dt fun s => s.mirrorTake 0x30 m

/-- DICT_FORWARD (R449). -/
def execDictForward (dt : Nat) (m : MirMessage) (s : State) : Host.Outcome State Fault Refusal := run s dt fun s => s.mirrorTake 0x31 m

/-- DICT_STATUS (R450). -/
def execDictStatus (dt : Nat) (m : MirMessage) (s : State) : Host.Outcome State Fault Refusal := run s dt fun s => s.mirrorTake 0x32 m

/-- STATE_PUSH (R452, R453). -/
def execStatePush (dt : Nat) (m : MirMessage) (s : State) : Host.Outcome State Fault Refusal := run s dt fun s => s.mirrorTake 0x40 m

/-- BULK (R446). -/
def execMirrorBulk (dt : Nat) (m : MirMessage) (s : State) : Host.Outcome State Fault Refusal := run s dt fun s => s.mirrorTake 0x50 m

/-- SYNC (R457). -/
def execMirrorSync (dt : Nat) (m : MirMessage) (s : State) : Host.Outcome State Fault Refusal := run s dt fun s => s.mirrorTake 0x60 m

end Sys2Proof.Machine
end

