-- ==== Sys2Proof/Machine/MapPass.lean ====
section
/-! DEFINITION. The passes of the signal map (R409 to R414). -/

namespace Sys2Proof.Machine

/-! Sources (R411, R414) -/

/-- x of a slot source, from the slots an entry reads. -/
def slotValue (wide : Bool) (slot : Nat → Nat) (n : Nat) : Nat := if wide then slot n * 256 + slot (n + 1) else slot n * 257

/-- x of a record's source where it is live (R411, R414). -/
def State.mapSource (s : State) (w : Nat) : Option Nat :=
  let last := srcSlot w + b2n (srcWide w)
  if srcKind w = 0 then
    match s.universeEntry (srcSpace w) with
    | none => none
    | some n =>
      let u := s.universeOf n
      if u.sources.isEmpty || Nat.blt u.slotCount last then none
      else some (slotValue (srcWide w) (u.slot (s.flag (.DMX_UNIV_MERGE n))) (srcSlot w))
  else if srcKind w = 1 then
    let p := s.dmx (srcSpace w)
    if p.mode ≠ 1 ∨ p.live = false ∨ p.slots.length < last then none
    else some (slotValue (srcWide w) (fun n => nth p.slots (n - 1) 0) (srcSlot w))
  else if srcKind w = 2 then
    match s.ingest.controls.find? fun c => c.1 == srcSpace w * 4096 + srcSlot w with
    | none => none
    | some (_, v, t) => if s.now ≤ t + s.reg .MAP_WSF_LOSS_MS * 1000000 then some v else none
  else
    let r : Reg := ⟨srcSpace w, srcSlot w⟩
    let v := s.readNumber 0 r
    match elementType r with
    | some .bool => some (v * 65535)
    | some .u8 => some (v * 257)
    | _ => some v

/-- An entry's output after a pass (R411, R414). -/
def State.mapOutput (s : State) (w : Nat) (o : MapOutput) : MapOutput :=
  if mapOn w = false then { o with live := false, claiming := false }
  else match s.mapSource w with
    | some x => { o with z := s.mapZ w x, live := true, claiming := true }
    | none => { o with live := false, claiming := mapHold w && o.claiming }

/-! Targets (R412, R413) -/

/-- The value written to a register or dictionary target (R412). -/
def targetValue (w z : Nat) : Nat :=
  if dstKind w = 2 then (if dstWide w then z else narrow z)
  else match elementType ⟨dstSpace w, dstAddr w⟩ with
    | some .bool => b2n (Nat.ble 32768 z)
    | some .u8 => narrow z
    | _ => z

/-- The output of an entry changed. -/
def State.modOutput (s : State) (i : Nat) (f : MapOutput → MapOutput) : State := s.modMap fun m => { m with outputs := modNth m.outputs i f }

/-- Whether a lock of a session holds the writes of the map on a link (R425). -/
def State.mapHeld (s : State) (link : Nat) : Bool :=
  match (s.link link).lock with
  | some x => x.session != 0
  | none => false

/-- A module-register write of an entry (R413): none while the claim is below 128 or where the bridge cannot take it; one held by a lock takes the
latest value (R425). -/
def State.mapRegister (s : State) (i w v : Nat) : State :=
  let link := dstLink w
  let data := leOctets (if dstWide w then 2 else 1) v
  let done := fun (s : State) => s.modOutput i fun o => { o with written := some v, writtenAt := some s.ticks, waits := false }
  let mine := fun (p : Nat × RegTxn) => p.2.purpose == .mapWrite i
  if s.mayWriteModules = false then s.modOutput i fun o => { o with waits := true }
  else if s.mapHeld link && (s.link link).txns.any mine then
    done (s.modLink link fun l => { l with txns := l.txns.map fun p => if mine p then (p.1, { p.2 with data := data }) else p })
  else if (s.brgStop link (dstModule w)).isSome then s.modOutput i fun o => { o with waits := true, writtenAt := some s.ticks }
  else done (((s.queueTxn link (dstModule w) 1 (dstAddr w) data data.length (.mapWrite i)).brgHold link 0).count .BRGCNT_MAP_REG_WRITES)

/-- A dictionary write of an entry, at operator level as session 0 (R413, R469). -/
def State.mapElement (s : State) (i w v : Nat) : State :=
  let t := elementType ⟨dstSpace w, dstAddr w⟩
  let code := (t.map EntryType.code).getD 0
  let n := (t.map EntryType.octetLen).getD 0
  let (st, s1) := s.answered fun s => s.writeItem 0 (dstSpace w) (dstAddr w) (some code) (leOctets n v)
  let known := (nth s.smap.outputs i MapOutput.reset).refused
  let s2 := s1.modOutput i fun o => { o with written := some v, writtenAt := some s.ticks, waits := false, refused := st != 0 }
  if st = 0 then s2
  else
    let s3 := s2.count .BRGCNT_MAP_DICT_REFUSED
    if known then s3 else s3.post 0xC012 3 i

/-- A register or dictionary target written where its output has changed, at most once per MAP_REG_INTERVAL_MS (R413). -/
def State.mapWriteDue (s : State) (i w : Nat) : State :=
  let o := nth s.smap.outputs i MapOutput.reset
  let v := targetValue w o.z
  if mapOn w = false ∨ dstKind w < 2 ∨ o.claiming = false then s
  else if o.written = some v then s.modOutput i fun o => { o with waits := false }
  else
    let free := match o.writtenAt with
      | some t => decide (t + usTicks (1000 * s.reg .MAP_REG_INTERVAL_MS) ≤ s.ticks)
      | none => true
    if free = false then s.modOutput i fun o => { o with waits := true }
    else if dstKind w = 2 then s.mapRegister i w v
    else s.mapElement i w v

/-- The slots of a DMX port from the entries that claim them; a released slot is 0 (R412, R414). -/
def portSlots (port : Nat) (es : List (Nat × MapOutput)) : List Nat :=
  (es.filter fun p => mapOn p.1 && dstKind p.1 == 1 && dstSpace p.1 == port && p.2.claiming).foldl (fun slots p =>
    let n := dstAddr p.1 - 1
    if dstWide p.1 then setNth (setNth slots n (p.2.z / 256)) (n + 1) (p.2.z % 256) else setNth slots n (narrow p.2.z)) (List.replicate 512 0)

/-- One pass for a period: every source is latched before any output goes to its target (R410). -/
def State.mapPass (s : State) (period : Nat) : State :=
  let outputs := s.smap.oper.zipIdx.map fun (w, i) => s.mapOutput w (nth s.smap.outputs i MapOutput.reset)
  let es := s.smap.oper.zip outputs
  let lamps := (es.filter fun p => mapOn p.1 && dstKind p.1 == 0 && p.2.claiming).map fun p => (dstAddr p.1, p.2.z)
  let s1 := (s.modMap fun m => { m with
    outputs := outputs, dmxOut := (List.range 8).map fun port => portSlots port es, lastPass := some period }).modLantern fun l => { l with
      signalVals := lamps }
  (s.smap.oper.zipIdx.foldl (fun s (w, i) => s.mapWriteDue i w) s1).count .BRGCNT_MAP_PASSES

/-- The period whose pass has started last: 16 us before S_k (R410). -/
def State.passPeriod (s : State) : Nat := s.lampFirst (s.time96 + nsUnits 16000 + 1) - 1

/-- MAP_PASS (R410): at S_k − 16 us, once per period; a pending map is in force from here, but for one requested in this clock (R409). -/
def execMapPass (dt : Nat) (s : State) : Host.Outcome State Fault Refusal :=
  run s dt fun s =>
    let k := s.passPeriod
    if s.lantern.gridOn = false ∨ s.smap.lastPass.getD 0 = k then s
    else
      let due : Bool := match s.smap.requestedAt with
        | some t => t != s.ticks
        | none => false
      (if s.reg .MAP_CHANGE = 1 ∧ due then s.signalMapSwap else s).mapPass k

/-- REG_INTERVAL_END (R413): the writes that waited and may now be made. -/
def execRegIntervalEnd (dt : Nat) (s : State) : Host.Outcome State Fault Refusal :=
  run s dt fun s =>
    s.smap.oper.zipIdx.foldl (fun s (w, i) => if (nth s.smap.outputs i MapOutput.reset).waits then s.mapWriteDue i w else s) s

end Sys2Proof.Machine
end

