-- ==== Sys2Proof/Machine/Idp.lean ====
section
/-! DEFINITION. The dictionary protocol (R470 to R480) and the SPI service port (R482). -/

namespace Sys2Proof.Machine

/-! Messages -/

/-- The largest payload of a transport (R477). -/
def payloadLimit (transport : Nat) : Nat := if transport = 0 then 1400 else if transport = 1 then 195 else 4096

/-- A final response; one beyond the payload limit is answered with status 5 in its place (R477, R481). -/
def State.answer (s : State) (n op status : Nat) (payload : List Octet) : State :=
  let limit := ((s.session n).map fun x => payloadLimit x.source.transport).getD 0
  if limit < payload.length then s.respond n op 5 [] else s.respond n op status payload

/-- An error response to a message that names no session of its own: SESSION and SEQ echoed, untagged. -/
def State.answerBare (s : State) (h : IdpHead) (op status : Nat) : State := s.sendIdp h.source (idpOctets (op + 128) h.session h.seq status [] none)

/-! Sessions (R474) -/

/-- Whether a transport may take a session: 16 in all, one of them kept for the SPI service port. -/
def State.sessionFree (s : State) (transport : Nat) : Bool :=
  let others := s.idp.sessions.filter fun x => x.source.transport != 2
  Nat.blt s.idp.sessions.length 16 && (transport == 2 || Nat.blt others.length 15)

/-- The first session number from one on that is not in use; numbers run from 1 to 0xFFFD. -/
def freeNumber (used : List Nat) : Nat → Nat → Nat
  | 0, n => n
  | k + 1, n => if used.contains n then freeNumber used k (if n = 0xFFFD then 1 else n + 1) else n

/-- OPEN (R471, R474). The unit nonce is a free value (log entry 5). -/
def State.openSession (s : State) (h : IdpHead) (nonce : List Octet) : State :=
  if nonce.length ≠ 16 then s.answerBare h 0x01 19
  else if s.sessionFree h.source.transport = false then (s.count .DICCNT_SESSION_LIMIT).answerBare h 0x01 18
  else
    let n := freeNumber (s.idp.sessions.map Session.number) 17 s.idp.nextNumber
    let (v, s1) := s.takeFree
    let own := leOctets 16 (Config.freeValue v)
    let payload := leOctets 2 n ++ own ++ leOctets 8 s.unit.eui64 ++ leOctets 2 (s.reg .DIC_BEHAVIOUR_LEVEL) ++ leOctets 2 (payloadLimit h.source.transport)
    let x : Session := {
      number := n, source := h.source, level := 0, provedKey := false, unitNonce := own, clientNonce := nonce, key := none, lastSeq := 0
      stored := some ⟨0x01, h.seq, 0, payload⟩, running := none, waits := [], transfer := none, challenge := none, windowEnd := none
      lastMessage := s.ticks }
    let s2 := s1.modIdp fun i => { i with sessions := i.sessions ++ [x], nextNumber := if n = 0xFFFD then 1 else n + 1 }
    ((s2.showSessions.count .DICCNT_SESSIONS_OPENED).post 0x1001 1 (n + h.source.transport * 2 ^ 16)).sendStored x ⟨0x01, h.seq, 0, payload⟩

/-- CLOSE (R471, R474). -/
def State.closeSession (s : State) (n : Nat) : State := (s.respond n 0x02 0 []).endSession n 0

/-- KEEPALIVE (R471). -/
def State.keepalive (s : State) (n : Nat) : State :=
  s.answer n 0x03 0 (leOctets 1 (s.levelOf n) ++ leOctets 2 (s.secondsTo ((s.session n).bind Session.windowEnd)))

/-! Authentication (R478 to R480) -/

/-- What failed authentications are counted by: the IPv4 address or the controller UID; none for the SPI service port, which is never locked out. -/
def authKey (x : IdpSource) : Option Nat := if x.transport = 2 then none else some (x.transport * 2 ^ 64 + x.address)

/-- Whether a source is locked out. -/
def State.lockedOut (s : State) (x : IdpSource) : Bool :=
  match authKey x with
  | none => false
  | some k => s.idp.auth.any fun a => a.address == k && (match a.lockedUntil with
    | some t => Nat.blt s.ticks t
    | none => false)

/-- A failed authentication counted against its source; the fifth within 60 s locks it out for 300 s. -/
def State.authFailed (s : State) (x : IdpSource) : State :=
  match authKey x with
  | none => s
  | some k =>
    let old := ((s.idp.auth.find? fun a => a.address == k).map AuthSource.failures).getD []
    let recent := s.ticks :: old.filter fun t => Nat.blt s.ticks (t + usTicks 60000000)
    let others := s.idp.auth.filter fun a => a.address != k
    if 5 ≤ recent.length then
      ((s.modIdp fun i => { i with auth := ⟨k, [], some (s.ticks + usTicks 300000000)⟩ :: others }).count .DICCNT_LOCKOUTS).post 0x1007 5
        (if x.transport = 0 then x.address % 2 ^ 32 else 0)
    else s.modIdp fun i => { i with auth := ⟨k, recent, none⟩ :: others }

/-- The operator proof of a session under an installation key (R478). -/
def operatorProof (key : List Octet) (eui : Nat) (x : Session) : List Octet :=
  hmac key (asciiOctets ['I', 'Z', 'O', 'P'] ++ leOctets 8 eui ++ leOctets 2 x.number ++ x.unitNonce ++ x.clientNonce)

/-- The session key after an operator proof (R478). -/
def operatorKey (key : List Octet) (x : Session) : List Octet := hmac key (asciiOctets ['I', 'Z', 'S', 'K'] ++ x.unitNonce ++ x.clientNonce)

/-- A session raised to level 1; one at service level keeps it. -/
def State.raiseOperator (s : State) (x : Session) (proved : Bool) (key : Option (List Octet)) : State :=
  ((s.modSession x.number fun y => { y with level := max 1 y.level, provedKey := proved || y.provedKey, key := key.or y.key }).post 0x1003 3
    x.number).answer x.number 0x04 0 (leOctets 1 (max 1 (s.levelOf x.number)))

/-- AUTH_OPERATOR (R478, R480). -/
def State.authOperator (s : State) (x : Session) (proof : List Octet) : State :=
  let key := s.idp.installKey
  if proof.length ≠ 32 then s.answer x.number 0x04 19 []
  else if s.lockedOut x.source then s.answer x.number 0x04 14 []
  else if key = [] ∧ x.source.transport = 2 ∧ proof.all (· == 0) then s.raiseOperator x false none
  else if key ≠ [] ∧ proof = operatorProof key s.unit.eui64 x then s.raiseOperator x true (some (operatorKey key x))
  else (((s.count .DICCNT_AUTH_OPERATOR_FAIL).post 0x1006 4 x.number).authFailed x.source).answer x.number 0x04 13 []

/-- The public key of a slot (R479). -/
def State.slotKey (s : State) (slot : Nat) : List Octet :=
  if slot = 0 then s.unit.serviceKey else if slot = 1 then s.idp.integratorKey else []

/-- CHALLENGE (R479). Nonce and ephemeral key are free values (log entry 5). -/
def State.challenge (s : State) (x : Session) (p : List Octet) : State :=
  let slot := ofLe (p.take 1)
  let client := p.drop 1
  if p.length ≠ 66 then s.answer x.number 0x05 19 []
  else if s.slotKey slot = [] ∨ client.head? ≠ some 0x04 ∨ s.levelOf x.number = 2 then s.answer x.number 0x05 8 []
  else
    let (v, s1) := s.takeFree
    let (k, s2) := s1.takeFree
    let expiry := s.now + 60000000000
    let text := asciiOctets ['I', 'Z', 'S', 'V'] ++ leOctets 8 s.unit.eui64 ++ leOctets 2 x.number ++ leOctets 1 slot ++ [0] ++
      leOctets 32 (Config.freeValue v) ++ leOctets 8 expiry ++ Config.ephemeralKey k
    (s2.modSession x.number fun y => { y with challenge := some ⟨slot, text, client, k, expiry⟩ }).answer x.number 0x05 0 text

/-- AUTH_SERVICE (R479, R480). -/
def State.authService (s : State) (x : Session) (signature : List Octet) : State :=
  let s0 := s.modSession x.number fun y => { y with challenge := none }
  let failed := (((s0.count .DICCNT_AUTH_SERVICE_FAIL).post 0x1006 4 (x.number + 2 ^ 16)).authFailed x.source).answer x.number 0x06 13 []
  if signature.length ≠ 64 then s.answer x.number 0x06 19 []
  else if s.lockedOut x.source then s.answer x.number 0x06 14 []
  else match x.challenge with
    | none => failed
    | some c =>
      if Config.ecdsaVerify (s.slotKey c.slot) (c.text ++ c.clientKey) signature = false ∨ c.expiry < s.now then failed
      else
        let window := s.reg .DIC_SERVICE_WINDOW_S
        let key := sha256 (Config.ecdhSharedX c.unitKey c.clientKey ++ slice c.text 16 32)
        let s1 := s0.modSession x.number fun y => { y with
          level := 2, key := some key, windowEnd := some (s.ticks + usTicks (window * 1000000)) }
        (s1.post 0x1004 4 (x.number + c.slot * 2 ^ 16)).answer x.number 0x06 0 (leOctets 1 2 ++ leOctets 2 window)

/-! Reading and writing (R471) -/

/-- Whether an entry is served: a unit held in the Keep loader answers reads of some ranges only (R538). -/
def State.served (s : State) (index : Nat) : Bool := s.reg .SYS_STATE != 4 || [1, 0xB, 0xF].contains (index / 4096)

/-- The items of a READ, of three octets each. -/
def readItems (p : List Octet) : List (Nat × Nat) := (List.range (p.length / 3)).map fun i => (ofLe (slice p (3 * i) 2), ofLe (slice p (3 * i + 2) 1))

/-- Items read in order: the octets of the response, and the state after. -/
def State.readAll (who : Nat) : List (Nat × Nat) → State → List Octet × State
  | [], s => ([], s)
  | (index, sub) :: rest, s =>
    let ((st, type, value), s1) := if s.served index then s.readItem who index sub else ((2, 0, []), s)
    let (more, s2) := State.readAll who rest s1
    (leOctets 2 index ++ leOctets 1 sub ++ leOctets 1 st ++ leOctets 1 type ++ leOctets 2 value.length ++ value ++ more, s2)

/-- READ (R471). A response too long for the transport reads nothing. -/
def State.readRequest (s : State) (n : Nat) (p : List Octet) : State :=
  let items := readItems p
  if p.length % 3 ≠ 0 ∨ items = [] ∨ 32 < items.length then s.answer n 0x10 19 []
  else
    let limit := ((s.session n).map fun x => payloadLimit x.source.transport).getD 0
    let (payload, s1) := State.readAll n items s
    if limit < payload.length then s.respond n 0x10 5 [] else s1.respond n 0x10 0 payload

/-- The items of a WRITE; none where the payload does not come out even. -/
def writeItems : Nat → List Octet → Option (List WriteItem)
  | _, [] => some []
  | 0, _ => none
  | k + 1, p =>
    let len := ofLe (slice p 4 2)
    if p.length < 6 + len then none
    else (writeItems k (p.drop (6 + len))).map fun rest => ⟨ofLe (p.take 2), ofLe (slice p 2 1), ofLe (slice p 3 1), slice p 6 len⟩ :: rest

/-- Items written in order, each alone: their statuses, none for one that waits for its apply time (R449, R471). -/
def State.writeAll (who : Nat) : List WriteItem → State → List WriteWait × State
  | [], s => ([], s)
  | w :: rest, s =>
    let (st, s1) := s.answered fun s => s.writeItem who w.index w.sub (some w.type) w.value
    let (more, s2) := State.writeAll who rest s1
    (⟨w.index, w.sub, if st = 1 then none else some st⟩ :: more, s2)

/-- WRITE (R471, R473). -/
def State.writeRequest (s : State) (n : Nat) (p : List Octet) : State :=
  match writeItems 33 p with
  | none => s.answer n 0x11 19 []
  | some items =>
    if items = [] ∨ 32 < items.length then s.answer n 0x11 19 []
    else
      let (ws, s1) := State.writeAll n items s
      if ws.any fun w => w.status.isNone then (s1.modSession n fun x => { x with waits := ws }).respondRunning n 0x11
      else s1.answer n 0x11 0 (writePayload ws)

/-! DOMAIN transfers (R475) -/

/-- Octets of the staging area in use: transfers announced, and blocks that wait to be relayed (R389, R510). -/
def State.stagingUsed (s : State) : Nat :=
  (s.idp.sessions.map fun x => match x.transfer with
    | some t => if t.writing then t.total else 0
    | none => 0).sum +
  (match s.update.run with
    | some r => (r.relays.map fun y => (y.queued.map fun b => b.2.length).sum).sum
    | none => 0)

/-- DOMAIN_READ (R475): the data as they are in this clock. A read of BRG_READ ends with its transfer. -/
def State.domainRead (s : State) (x : Session) (p : List Octet) : State :=
  let n := x.number
  let index := ofLe (p.take 2)
  let sub := ofLe (slice p 2 1)
  let take := fun (s : State) (data : List Octet) => (s.beginRead n index sub data).answer n 0x20 0 (domainHead data)
  if p.length ≠ 3 then s.answer n 0x20 19 []
  else if x.transfer.isSome then s.answer n 0x20 18 []
  else match dictRow ⟨index, sub⟩ with
    | none => s.answer n 0x20 (if entryDefined index then 3 else 2) []
    | some row =>
      if row.access = .wo then s.answer n 0x20 7 []
      else if row.type ≠ .domain then s.answer n 0x20 4 []
      else if index = 0xC400 then
        let (st, s1) := s.answered fun s => s.brgRead n
        if st ≠ 0 then s1.answer n 0x20 st []
        else if (s1.brg n).transfer.isSome then s1.respondRunning n 0x20
        else take s1 []
      else match s.domainPop n index with
        | some ((st, data), s1) => if st = 0 then take s1 data else s1.answer n 0x20 st []
        | none => take s ((s.domainData index sub).getD [])

/-- DOMAIN_WRITE (R475). -/
def State.domainWrite (s : State) (x : Session) (p : List Octet) : State :=
  let n := x.number
  let index := ofLe (p.take 2)
  let sub := ofLe (slice p 2 1)
  let total := ofLe (slice p 3 4)
  if p.length ≠ 7 then s.answer n 0x21 19 []
  else if x.transfer.isSome then s.answer n 0x21 18 []
  else match s.writeGate n index sub none with
    | some st => s.answer n 0x21 st []
    | none =>
      if 8388608 < s.stagingUsed + total then s.answer n 0x21 18 []
      else (s.modSession n fun x => { x with transfer := some ⟨index, sub, true, total, []⟩ }).answer n 0x21 0 []

/-- DOMAIN_SEGMENT (R475). -/
def State.domainSegment (s : State) (x : Session) (p : List Octet) : State :=
  let n := x.number
  let offset := ofLe (p.take 4)
  match x.transfer with
  | none => s.answer n 0x22 17 []
  | some t =>
    if p.length < 4 then s.answer n 0x22 19 []
    else if t.writing then
      if offset ≠ t.data.length ∨ t.total < offset + (p.length - 4) then s.answer n 0x22 17 []
      else (s.modSession n fun x => { x with transfer := some { t with data := t.data ++ p.drop 4 } }).answer n 0x22 0 (leOctets 4 offset)
    else
      let len := ofLe (slice p 4 2)
      if p.length ≠ 6 then s.answer n 0x22 19 []
      else if t.total < offset + len then s.answer n 0x22 17 []
      else s.answer n 0x22 0 (leOctets 4 offset ++ slice t.data offset len)

/-- DOMAIN_END (R475). -/
def State.domainEnd (s : State) (x : Session) (p : List Octet) : State :=
  let n := x.number
  let s0 := s.modSession n fun x => { x with transfer := none }
  match x.transfer with
  | none => s.answer n 0x23 17 []
  | some t =>
    if t.writing = false then s0.answer n 0x23 0 []
    else if p.length ≠ 4 ∨ t.data.length ≠ t.total ∨ ofLe p ≠ crcOf crc32c t.data then s0.answer n 0x23 17 []
    else
      let (st, s1) := s0.answered fun s => s.writeItem n t.index t.sub none t.data
      if st = 1 then (s1.modSession n fun x => { x with waits := [⟨t.index, t.sub, none⟩] }).respondRunning n 0x23
      else s1.answer n 0x23 st []

/-- DOMAIN_ABORT (R475). -/
def State.domainAbort (s : State) (x : Session) : State :=
  if x.transfer.isSome then (s.modSession x.number fun x => { x with transfer := none }).answer x.number 0x24 16 []
  else s.answer x.number 0x24 15 []

/-! Requests (R470 to R473) -/

/-- An operation executed (R471). -/
def State.perform (s : State) (x : Session) (op : Nat) (p : List Octet) : State :=
  if s.reg .SYS_STATE = 4 ∧ op ≠ 0x02 ∧ op ≠ 0x03 ∧ op ≠ 0x10 then s.answer x.number op 19 []
  else if op = 0x02 then s.closeSession x.number
  else if op = 0x03 then s.keepalive x.number
  else if op = 0x04 then s.authOperator x p
  else if op = 0x05 then s.challenge x p
  else if op = 0x06 then s.authService x p
  else if op = 0x10 then s.readRequest x.number p
  else if op = 0x11 then s.writeRequest x.number p
  else if op = 0x20 then s.domainRead x p
  else if op = 0x21 then s.domainWrite x p
  else if op = 0x22 then s.domainSegment x p
  else if op = 0x23 then s.domainEnd x p
  else if op = 0x24 then s.domainAbort x
  else s.answer x.number op 19 []

/-- A request of a session by its SEQ: a new one is executed, the last one answered again, any other refused (R473). -/
def State.sequenced (s : State) (x : Session) (h : IdpHead) (op : Nat) (p : List Octet) : State :=
  if h.seq = (x.lastSeq + 1) % 2 ^ 32 ∧ x.running.isNone then
    (s.modSession x.number fun y => { y with lastSeq := h.seq }).perform { x with lastSeq := h.seq } op p
  else if h.seq = x.lastSeq ∧ x.running.isSome then s.sendStored x ⟨x.running.getD op, h.seq, 1, []⟩
  else match x.stored with
    | some r =>
      if h.seq = x.lastSeq ∧ x.running.isNone then (s.count .DICCNT_MSG_DUPLICATE).sendStored x r
      else (s.count .DICCNT_MSG_SEQ_ERROR).sendStored x ⟨op, h.seq, 11, []⟩
    | none => (s.count .DICCNT_MSG_SEQ_ERROR).sendStored x ⟨op, h.seq, 11, []⟩

/-- Whether a message is TAGGED as its session asks (R470). -/
def tagOk (x : Session) (h : IdpHead) (op : Nat) (p : List Octet) : Bool :=
  match x.key with
  | none => h.tag.isNone
  | some k => h.tag == some (idpTag k (idpFront op h.session h.seq p.length true 0) p)

/-- Whether the dictionary is served to a transport: by the firmware; by a unit held in the Keep loader on the SPI service port (R482, R538). -/
def State.idpServes (s : State) (transport : Nat) : Bool := s.reg .SYS_STATE == 3 || (s.reg .SYS_STATE == 4 && transport == 2)

/-- A request with its operation and payload (R470 to R474). -/
def State.idpTake (s : State) (h : IdpHead) (op : Nat) (p : List Octet) : State :=
  if s.idpServes h.source.transport = false then s
  else if h.checkOk = false then s.count .DICCNT_MSG_CHECK_FAIL
  else if op = 0x01 then s.openSession h p
  else match s.session h.session with
    | none => s.answerBare h op 12
    | some x =>
      if x.source ≠ h.source then s.answerBare h op 12
      else if tagOk x h op p = false then s.count .DICCNT_MSG_TAG_FAIL
      else
        let y := { x with lastMessage := s.ticks }
        (s.modSession x.number fun _ => y).sequenced y h op p

/-- OPEN (R474). -/
def execIdpOpen (dt : Nat) (h : IdpHead) (nonce : List Octet) (s : State) : Host.Outcome State Fault Refusal := run s dt fun s => s.idpTake h 0x01 nonce

/-- CLOSE (R474). -/
def execIdpClose (dt : Nat) (h : IdpHead) (s : State) : Host.Outcome State Fault Refusal := run s dt fun s => s.idpTake h 0x02 []

/-- KEEPALIVE (R471). -/
def execIdpKeepalive (dt : Nat) (h : IdpHead) (s : State) : Host.Outcome State Fault Refusal := run s dt fun s => s.idpTake h 0x03 []

/-- AUTH_OPERATOR (R478). -/
def execAuthOperator (dt : Nat) (h : IdpHead) (proof : List Octet) (s : State) : Host.Outcome State Fault Refusal :=
  run s dt fun s => s.idpTake h 0x04 proof

/-- CHALLENGE (R479). -/
def execChallenge (dt : Nat) (h : IdpHead) (slot : Nat) (key : List Octet) (s : State) : Host.Outcome State Fault Refusal :=
  run s dt fun s => s.idpTake h 0x05 (leOctets 1 slot ++ key)

/-- AUTH_SERVICE (R479). -/
def execAuthService (dt : Nat) (h : IdpHead) (signature : List Octet) (s : State) : Host.Outcome State Fault Refusal :=
  run s dt fun s => s.idpTake h 0x06 signature

/-- READ (R471): index and subindex of each item. -/
def execIdpRead (dt : Nat) (h : IdpHead) (items : List (Nat × Nat)) (s : State) : Host.Outcome State Fault Refusal :=
  run s dt fun s => s.idpTake h 0x10 (items.map fun i => leOctets 2 i.1 ++ leOctets 1 i.2).flatten

/-- An item of a WRITE as it travels (R471). -/
def itemOctets (w : WriteItem) : List Octet :=
  leOctets 2 w.index ++ leOctets 1 w.sub ++ leOctets 1 w.type ++ leOctets 2 w.value.length ++ w.value

/-- WRITE (R471). -/
def execIdpWrite (dt : Nat) (h : IdpHead) (items : List WriteItem) (s : State) : Host.Outcome State Fault Refusal :=
  run s dt fun s => s.idpTake h 0x11 (items.map itemOctets).flatten

/-- DOMAIN_READ (R475). -/
def execDomainRead (dt : Nat) (h : IdpHead) (index sub : Nat) (s : State) : Host.Outcome State Fault Refusal :=
  run s dt fun s => s.idpTake h 0x20 (leOctets 2 index ++ leOctets 1 sub)

/-- DOMAIN_WRITE (R475). -/
def execDomainWrite (dt : Nat) (h : IdpHead) (index sub total : Nat) (s : State) : Host.Outcome State Fault Refusal :=
  run s dt fun s => s.idpTake h 0x21 (leOctets 2 index ++ leOctets 1 sub ++ leOctets 4 total)

/-- DOMAIN_SEGMENT (R475): the offset, then the data when writing or the two octets of a length when reading. -/
def execDomainSegment (dt : Nat) (h : IdpHead) (offset : Nat) (data : List Octet) (s : State) : Host.Outcome State Fault Refusal :=
  run s dt fun s => s.idpTake h 0x22 (leOctets 4 offset ++ data)

/-- DOMAIN_END (R475): the check when writing, none when reading. -/
def execDomainEnd (dt : Nat) (h : IdpHead) (check : Option Nat) (s : State) : Host.Outcome State Fault Refusal :=
  run s dt fun s => s.idpTake h 0x23 (match check with
    | some c => leOctets 4 c
    | none => [])

/-- DOMAIN_ABORT (R475). -/
def execDomainAbort (dt : Nat) (h : IdpHead) (s : State) : Host.Outcome State Fault Refusal := run s dt fun s => s.idpTake h 0x24 []

/-- SESSION_TIMEOUT: the sessions of which no message has come for DIC_SESSION_TIMEOUT_S end (R474). -/
def execSessionTimeout (dt : Nat) (s : State) : Host.Outcome State Fault Refusal :=
  run s dt fun s => s.endSessions 1 fun x => Nat.ble (x.lastMessage + usTicks (s.reg .DIC_SESSION_TIMEOUT_S * 1000000)) s.ticks

/-- The service window of a session ends (R479). -/
def State.windowEnds (s : State) (x : Session) : State :=
  (s.modSession x.number fun y => { y with level := b2n y.provedKey, windowEnd := none }).post 0x1005 3 x.number

/-- SERVICE_WINDOW_END (R479). -/
def execServiceWindowEnd (dt : Nat) (s : State) : Host.Outcome State Fault Refusal :=
  run s dt fun s => (s.idp.sessions.filter fun x => match x.windowEnd with
    | some t => Nat.ble t s.ticks
    | none => false).foldl State.windowEnds s

/-- LOCKOUT_END (R480). -/
def execLockoutEnd (dt : Nat) (s : State) : Host.Outcome State Fault Refusal :=
  run s dt fun s => s.modIdp fun i => { i with auth := i.auth.filter fun a => match a.lockedUntil with
    | some t => Nat.blt s.ticks t
    | none => true }

/-! Messages in octets -/

/-- A message read from octets: its head, operation and payload; an operation of 0 where MAGIC, VERSION or LEN do not agree (status 19). -/
def parseIdp (source : IdpSource) (o : List Octet) : IdpHead × Nat × List Octet :=
  let body := o.take (o.length - 4)
  let p := body.drop 32
  let fits := ofLe (o.take 2) == 0x5049 && ofLe (slice o 2 1) == 1 && ofLe (slice o 10 2) == p.length && Nat.ble p.length (payloadLimit source.transport)
  (⟨source, ofLe (slice o 4 2), ofLe (slice o 6 4), if bitOf (ofLe (slice o 12 1)) 0 then some (slice o 16 16) else none,
    Nat.ble 36 o.length && crcOf crc32c body == ofLe (o.drop body.length)⟩, if fits then ofLe (slice o 3 1) else 0, p)

/-- A message in octets taken. -/
def State.idpMessage (s : State) (source : IdpSource) (o : List Octet) : State :=
  let (h, op, p) := parseIdp source o
  s.idpTake h op p

/-! The SPI service port (R482) -/

/-- The one source of the SPI service port. -/
def spiSource : IdpSource := ⟨2, 0, 0, 0⟩

/-- SPI_REQUEST: command 0x01 with an IDP message. -/
def execSpiRequest (dt : Nat) (message : List Octet) (s : State) : Host.Outcome State Fault Refusal := run s dt fun s => s.idpMessage spiSource message

/-- SPI_READ_RESPONSE: command 0x02; SVC_IRQ_N is released. -/
def execSpiReadResponse (dt : Nat) (s : State) : Host.Outcome State Fault Refusal :=
  run s dt fun s =>
    let o := s.idp.spiWaiting.getD []
    (s.modIdp fun i => { i with spiWaiting := none }).emit (.spi (leOctets 2 o.length ++ o))

/-- SPI_STATUS: command 0x03, 0 before the port answers. -/
def execSpiStatus (dt : Nat) (s : State) : Host.Outcome State Fault Refusal :=
  run s dt fun s =>
    s.emit (.spi (leOctets 1 (if s.idpServes 2 then b2n s.idp.spiWaiting.isSome + 2 else 0)))

end Sys2Proof.Machine
end

