-- ==== Sys2Proof/Machine/RdmIdp.lean ====
section
/-! DEFINITION. The RDM responder and the dictionary over RDM (R421, R481). -/

namespace Sys2Proof.Machine

/-- Whether a port's responder supports the parameters of R481. -/
def State.rdmIdpOn (s : State) : Bool := s.flag .DIC_RDM_IDP

/-- The oldest queued message of a port's responder taken off its queue. -/
def State.popMessage (s : State) (port : Nat) : List Octet × State :=
  (((s.dmx port).queue.head?).getD [], s.modDmx port fun d => { d with queue := d.queue.tail })

/-- GET QUEUED_MESSAGE: the oldest queued response of PID 0x8A00, or STATUS_MESSAGES without data (E1.20, log entry 40). -/
def State.rdmQueued (s : State) (port : Nat) (p : RdmPacket) : State :=
  if (s.dmx port).queue = [] then s.rdmRespond port { p with pid := 0x0030 } 0 []
  else
    let (o, s1) := s.popMessage port
    s1.rdmRespond port { p with cls := 0x30, pid := 0x8A00 } 0 o

/-- SET of PID 0x8A00 (R481): a broadcast is ignored. The response is sent with ACK when it is ready within 1.0 ms; otherwise ACK_TIMER leaves it
queued. 20 ms is 1 in the tenths of a second of E1.20 (log entry 40). -/
def State.rdmIdpSet (s : State) (port : Nat) (p : RdmPacket) (ready : Bool) : State :=
  if rdmBroadcast p.dest then s
  else
    let before := (s.dmx port).queue.length
    let s1 := s.idpMessage ⟨1, p.source, 0, port⟩ p.data
    let q := (s1.dmx port).queue
    if ready ∧ before < q.length then
      (s1.modDmx port fun d => { d with queue := q.dropLast }).rdmRespond port p 0 (q.getLast?.getD [])
    else s1.rdmRespond port p 1 [0, 1]

/-- GET of PID 0x8A01 (R481). -/
def State.rdmGetEui (s : State) (port : Nat) (p : RdmPacket) : State := s.rdmRespond port p 0 (leOctets 8 s.unit.eui64)

/-- GET of PID 0x8A02 (R481). -/
def State.rdmGetIdentity (s : State) (port : Nat) (p : RdmPacket) : State :=
  s.rdmRespond port p 0 (leOctets 2 (s.reg .DIC_BEHAVIOUR_LEVEL) ++ leOctets 1 (s.reg .DIC_ROLE) ++ leOctets 1 (s.reg .DIC_PROFILE_ACTIVE))

/-- A request of the responder by its command class and PID (R421, R481). A parameter of R481 under the other class is refused with NACK,
unsupported command class (E1.20, log entry 40). -/
def State.rdmServe (s : State) (port : Nat) (p : RdmPacket) (ready : Bool) : State :=
  if p.cls = 0x20 ∧ p.pid = 0x0020 then s.rdmQueued port p
  else if s.rdmIdpOn = false ∨ p.cls = 0x10 ∨ p.pid < 0x8A00 ∨ 0x8A02 < p.pid then s.rdmStandard port p
  else if p.pid = 0x8A00 ∧ p.cls = 0x30 then s.rdmIdpSet port p ready
  else if p.pid = 0x8A01 ∧ p.cls = 0x20 then s.rdmGetEui port p
  else if p.pid = 0x8A02 ∧ p.cls = 0x20 then s.rdmGetIdentity port p
  else s.rdmRespond port p 2 [0, 5]

/-- An RDM request on a port: not answered unless it is for this unit and its checksum agrees (R421). -/
def State.rdmRequestIn (s : State) (port : Nat) (p : RdmPacket) (ready : Bool) : State :=
  if s.rdmForUs port p = false then s
  else if p.checksumOk = false then s.count (.DMXCNT_RDM_CHECKSUM_FAIL port)
  else s.rdmServe port p ready

/-- RDM_RESPONDER_REQUEST: an RDM request, and whether an IDP response to it is ready within 1.0 ms. -/
def execRdmResponderRequest (dt port : Nat) (p : RdmPacket) (ready : Bool) (s : State) : Host.Outcome State Fault Refusal :=
  run s dt fun s => s.rdmRequestIn port p ready

/-- RDM_IDP_SET: an IDP request message in a SET of PID 0x8A00. -/
def execRdmIdpSet (dt port dest source transaction : Nat) (message : List Octet) (ready : Bool) (s : State) : Host.Outcome State Fault Refusal :=
  run s dt fun s => s.rdmRequestIn port ⟨true, dest, source, transaction, 1, 0x30, 0x8A00, message⟩ ready

/-- RDM_GET_EUI. -/
def execRdmGetEui (dt port dest source transaction : Nat) (s : State) : Host.Outcome State Fault Refusal :=
  run s dt fun s => s.rdmRequestIn port ⟨true, dest, source, transaction, 1, 0x20, 0x8A01, []⟩ true

/-- RDM_GET_IDENTITY. -/
def execRdmGetIdentity (dt port dest source transaction : Nat) (s : State) : Host.Outcome State Fault Refusal :=
  run s dt fun s => s.rdmRequestIn port ⟨true, dest, source, transaction, 1, 0x20, 0x8A02, []⟩ true

end Sys2Proof.Machine
end

