-- ==== Sys2Proof/Machine/Dispatch.lean ====
section
/-! DEFINITION. One arm per command: a direct call of its meaning. -/

namespace Sys2Proof.Machine

open Sys2Proof

def exec (i : Instr) (s : State) : Host.Outcome State Fault Refusal :=
  match i with
  | .rxFrame dt port f ecc => Sys2Proof.Machine.execRxFrame dt port f ecc s
  | .netmRxFrame dt f ecc => Sys2Proof.Machine.execNetmRxFrame dt f ecc s
  | .egressTransmit dt port => Sys2Proof.Machine.execEgressTransmit dt port s
  | .gateEntryExpiry dt port => Sys2Proof.Machine.execGateEntryExpiry dt port s
  | .gclChangeRequest dt who port => Sys2Proof.Machine.execGclChangeRequest dt who port s
  | .gclChangeCancel dt who port => Sys2Proof.Machine.execGclChangeCancel dt who port s
  | .gclSwap dt port => Sys2Proof.Machine.execGclSwap dt port s
  | .portRestart dt who port fec value => Sys2Proof.Machine.execPortRestart dt who port fec value s
  | .linkUp dt port => Sys2Proof.Machine.execLinkUp dt port s
  | .linkDown dt port lockLost => Sys2Proof.Machine.execLinkDown dt port lockLost s
  | .moduleDetect dt port => Sys2Proof.Machine.execModuleDetect dt port s
  | .fecWindowEnd dt port corrected uncorrected codewords => Sys2Proof.Machine.execFecWindowEnd dt port corrected uncorrected codewords s
  | .streamTableChange dt who entry sub value => Sys2Proof.Machine.execStreamTableChange dt who entry sub value s
  | .igmpQuery dt port => Sys2Proof.Machine.execIgmpQuery dt port s
  | .syncReceive dt m => Sys2Proof.Machine.execSyncReceive dt m s
  | .announceReceive dt m => Sys2Proof.Machine.execAnnounceReceive dt m s
  | .delayRespReceive dt m => Sys2Proof.Machine.execDelayRespReceive dt m s
  | .pdelayReqReceive dt port seq => Sys2Proof.Machine.execPdelayReqReceive dt port seq s
  | .firstStep dt => Sys2Proof.Machine.execFirstStep dt s
  | .syncTimeout dt => Sys2Proof.Machine.execSyncTimeout dt s
  | .announceTimeout dt => Sys2Proof.Machine.execAnnounceTimeout dt s
  | .holdoverLimit dt => Sys2Proof.Machine.execHoldoverLimit dt s
  | .reacquireSchedule dt who time => Sys2Proof.Machine.execReacquireSchedule dt who time s
  | .reacquireCancel dt who => Sys2Proof.Machine.execReacquireCancel dt who s
  | .reacquireStep dt => Sys2Proof.Machine.execReacquireStep dt s
  | .ptpClientRestart dt who index value => Sys2Proof.Machine.execPtpClientRestart dt who index value s
  | .turretMismatch dt turret time f => Sys2Proof.Machine.execTurretMismatch dt turret time f s
  | .voteFailure dt a b c => Sys2Proof.Machine.execVoteFailure dt a b c s
  | .comparatorFire dt n => Sys2Proof.Machine.execComparatorFire dt n s
  | .cmpCommit dt who n => Sys2Proof.Machine.execCmpCommit dt who n s
  | .bellPulseEnd dt n => Sys2Proof.Machine.execBellPulseEnd dt n s
  | .bellEdge dt pin falling heldNs => Sys2Proof.Machine.execBellEdge dt pin falling heldNs s
  | .capPop dt who channel => Sys2Proof.Machine.execCapPop dt who channel s
  | .wsfPacket dt p => Sys2Proof.Machine.execWsfPacket dt p s
  | .controlFrameHandover dt => Sys2Proof.Machine.execControlFrameHandover dt s
  | .controlFrameAbandon dt => Sys2Proof.Machine.execControlFrameAbandon dt s
  | .fenceRelease dt p => Sys2Proof.Machine.execFenceRelease dt p s
  | .fenceAbandon dt p => Sys2Proof.Machine.execFenceAbandon dt p s
  | .fenceEntryExpiry dt => Sys2Proof.Machine.execFenceEntryExpiry dt s
  | .layerTimeout dt layer => Sys2Proof.Machine.execLayerTimeout dt layer s
  | .incompleteAbandon dt => Sys2Proof.Machine.execIncompleteAbandon dt s
  | .st2110Packet dt p => Sys2Proof.Machine.execSt2110Packet dt p s
  | .layerEnable dt who layer value => Sys2Proof.Machine.execLayerEnable dt who layer value s
  | .frameCreditWaitEnd dt layer => Sys2Proof.Machine.execFrameCreditWaitEnd dt layer s
  | .instantiate dt => Sys2Proof.Machine.execInstantiate dt s
  | .dispatch dt engine => Sys2Proof.Machine.execDispatch dt engine s
  | .operationComplete dt engine faults => Sys2Proof.Machine.execOperationComplete dt engine faults s
  | .urgentPriority dt => Sys2Proof.Machine.execUrgentPriority dt s
  | .lampTick dt => Sys2Proof.Machine.execLampTick dt s
  | .cueDeadline dt => Sys2Proof.Machine.execCueDeadline dt s
  | .squashBarrier dt epoch => Sys2Proof.Machine.execSquashBarrier dt epoch s
  | .watchdogTrip dt engine => Sys2Proof.Machine.execWatchdogTrip dt engine s
  | .traceGapRecord dt => Sys2Proof.Machine.execTraceGapRecord dt s
  | .belTraceRead dt who => Sys2Proof.Machine.execBelTraceRead dt who s
  | .belTraceRewind dt who value => Sys2Proof.Machine.execBelTraceRewind dt who value s
  | .belTraceMark dt who value => Sys2Proof.Machine.execBelTraceMark dt who value s
  | .statsWindowEnd dt => Sys2Proof.Machine.execStatsWindowEnd dt s
  | .belStatsWindow dt who value => Sys2Proof.Machine.execBelStatsWindow dt who value s
  | .orderChangeRequest dt who => Sys2Proof.Machine.execOrderChangeRequest dt who s
  | .orderChangeCancel dt who => Sys2Proof.Machine.execOrderChangeCancel dt who s
  | .finialHeartbeat dt m => Sys2Proof.Machine.execFinialHeartbeat dt m s
  | .finialContent dt m => Sys2Proof.Machine.execFinialContent dt m s
  | .finialAssert dt m => Sys2Proof.Machine.execFinialAssert dt m s
  | .finialRelease dt m => Sys2Proof.Machine.execFinialRelease dt m s
  | .finialStale dt => Sys2Proof.Machine.execFinialStale dt s
  | .finialDisable dt who => Sys2Proof.Machine.execFinialDisable dt who s
  | .finialKeyWrite dt who key => Sys2Proof.Machine.execFinialKeyWrite dt who key s
  | .decisionMismatch dt asserted blanked slots => Sys2Proof.Machine.execDecisionMismatch dt asserted blanked slots s
  | .previewTake dt who value => Sys2Proof.Machine.execPreviewTake dt who value s
  | .cupPreviewRead dt who => Sys2Proof.Machine.execCupPreviewRead dt who s
  | .tempPoll dt temps => Sys2Proof.Machine.execTempPoll dt temps s
  | .calRefreshDue dt zone => Sys2Proof.Machine.execCalRefreshDue dt zone s
  | .reblendPassStart dt zone => Sys2Proof.Machine.execReblendPassStart dt zone s
  | .reblendPassComplete dt zone => Sys2Proof.Machine.execReblendPassComplete dt zone s
  | .calFetch dt link module reads => Sys2Proof.Machine.execCalFetch dt link module reads s
  | .headerRecheck dt pages => Sys2Proof.Machine.execHeaderRecheck dt pages s
  | .scrubPeriod dt => Sys2Proof.Machine.execScrubPeriod dt s
  | .calSpareCommit dt who value => Sys2Proof.Machine.execCalSpareCommit dt who value s
  | .moduleZoneWrite dt who link module zone => Sys2Proof.Machine.execModuleZoneWrite dt who link module zone s
  | .recalPass2Complete dt who image => Sys2Proof.Machine.execRecalPass2Complete dt who image s
  | .recalAbort dt who => Sys2Proof.Machine.execRecalAbort dt who s
  | .trimMeasure dt who value => Sys2Proof.Machine.execTrimMeasure dt who value s
  | .trimMeasureDone dt first second => Sys2Proof.Machine.execTrimMeasureDone dt first second s
  | .mapChangeRequest dt who => Sys2Proof.Machine.execMapChangeRequest dt who s
  | .mapChangeCancel dt who => Sys2Proof.Machine.execMapChangeCancel dt who s
  | .commitInstant dt poisoned => Sys2Proof.Machine.execCommitInstant dt poisoned s
  | .strikeReference dt => Sys2Proof.Machine.execStrikeReference dt s
  | .strikeLeave dt link offset2 => Sys2Proof.Machine.execStrikeLeave dt link offset2 s
  | .modeChangeRequest dt who => Sys2Proof.Machine.execModeChangeRequest dt who s
  | .modeChangeCancel dt who => Sys2Proof.Machine.execModeChangeCancel dt who s
  | .modeChangeEffect dt => Sys2Proof.Machine.execModeChangeEffect dt s
  | .genlockEdge dt => Sys2Proof.Machine.execGenlockEdge dt s
  | .genlockLoss dt => Sys2Proof.Machine.execGenlockLoss dt s
  | .linkFrameStart dt link kind fills starved corrected double => Sys2Proof.Machine.execLinkFrameStart dt link kind fills starved corrected double s
  | .blockLockGained dt link => Sys2Proof.Machine.execBlockLockGained dt link s
  | .blockLockLost dt link syncErrors => Sys2Proof.Machine.execBlockLockLost dt link syncErrors s
  | .linkLockHeld dt link => Sys2Proof.Machine.execLinkLockHeld dt link s
  | .enumEndReceive dt link block => Sys2Proof.Machine.execEnumEndReceive dt link block s
  | .enumTimeout dt link => Sys2Proof.Machine.execEnumTimeout dt link s
  | .echoReplyReceive dt link block rtt => Sys2Proof.Machine.execEchoReplyReceive dt link block rtt s
  | .retrainWaitEnd dt link => Sys2Proof.Machine.execRetrainWaitEnd dt link s
  | .remeasureDue dt link => Sys2Proof.Machine.execRemeasureDue dt link s
  | .dackReceive dt link block => Sys2Proof.Machine.execDackReceive dt link block s
  | .ackTimeout dt link => Sys2Proof.Machine.execAckTimeout dt link s
  | .reqReceive dt link block => Sys2Proof.Machine.execReqReceive dt link block s
  | .upFrameEof dt link sof data eof => Sys2Proof.Machine.execUpFrameEof dt link sof data eof s
  | .readDataResponse dt link module tag status data => Sys2Proof.Machine.execReadDataResponse dt link module tag status data s
  | .writeErrorResponse dt link module tag address len status => Sys2Proof.Machine.execWriteErrorResponse dt link module tag address len status s
  | .lockResponse dt link module tag status => Sys2Proof.Machine.execLockResponse dt link module tag status s
  | .unlockResponse dt link module tag status => Sys2Proof.Machine.execUnlockResponse dt link module tag status s
  | .faultRecords dt link module data => Sys2Proof.Machine.execFaultRecords dt link module data s
  | .lockTimeLimit dt link => Sys2Proof.Machine.execLockTimeLimit dt link s
  | .mergeInstant dt => Sys2Proof.Machine.execMergeInstant dt s
  | .periodStart dt tests => Sys2Proof.Machine.execPeriodStart dt tests s
  | .channelUntested dt channel => Sys2Proof.Machine.execChannelUntested dt channel s
  | .adcConversion dt rails ntc junction vin => Sys2Proof.Machine.execAdcConversion dt rails ntc junction vin s
  | .cueGo dt who value => Sys2Proof.Machine.execCueGo dt who value s
  | .cueStop dt who cue => Sys2Proof.Machine.execCueStop dt who cue s
  | .channelEnable dt who channel value => Sys2Proof.Machine.execChannelEnable dt who channel value s
  | .groupClear dt who group value => Sys2Proof.Machine.execGroupClear dt who group value s
  | .groupRetry dt group => Sys2Proof.Machine.execGroupRetry dt group s
  | .safetyTableCheck dt copy1Fails copy2Fails reloadOk => Sys2Proof.Machine.execSafetyTableCheck dt copy1Fails copy2Fails reloadOk s
  | .tiedGroupEnable dt => Sys2Proof.Machine.execTiedGroupEnable dt s
  | .ocuEnableWrite dt who value => Sys2Proof.Machine.execOcuEnableWrite dt who value s
  | .controlSramError dt area address copy single otherFails reloadOk => Sys2Proof.Machine.execControlSramError dt area address copy single otherFails reloadOk s
  | .crcClaim dt who context value => Sys2Proof.Machine.execCrcClaim dt who context value s
  | .crcPreset dt who context value => Sys2Proof.Machine.execCrcPreset dt who context value s
  | .crcParameterWrite dt who context sub value => Sys2Proof.Machine.execCrcParameterWrite dt who context sub value s
  | .crcRunningWrite dt who context value => Sys2Proof.Machine.execCrcRunningWrite dt who context value s
  | .crcFeed dt who context octets => Sys2Proof.Machine.execCrcFeed dt who context octets s
  | .crcAliveIn dt who context value => Sys2Proof.Machine.execCrcAliveIn dt who context value s
  | .eventPost dt code priority args => Sys2Proof.Machine.execEventPost dt code priority args s
  | .drmPop dt who => Sys2Proof.Machine.execDrmPop dt who s
  | .drmPopBlock dt who => Sys2Proof.Machine.execDrmPopBlock dt who s
  | .drmFlush dt who value => Sys2Proof.Machine.execDrmFlush dt who value s
  | .faultSummaryClear dt who value => Sys2Proof.Machine.execFaultSummaryClear dt who value s
  | .memRequestRaise dt port => Sys2Proof.Machine.execMemRequestRaise dt port s
  | .arbitrationRound dt octets conflicts corrected => Sys2Proof.Machine.execArbitrationRound dt octets conflicts corrected s
  | .refreshDue dt => Sys2Proof.Machine.execRefreshDue dt s
  | .debugAccess dt => Sys2Proof.Machine.execDebugAccess dt s
  | .dramReadError dt port address repeatClean zone => Sys2Proof.Machine.execDramReadError dt port address repeatClean zone s
  | .odeccPoll dt count0 count1 => Sys2Proof.Machine.execOdeccPoll dt count0 count1 s
  | .dramTempRead dt t0 t1 => Sys2Proof.Machine.execDramTempRead dt t0 t1 s
  | .grantOverrun dt => Sys2Proof.Machine.execGrantOverrun dt s
  | .grantHoldRestart dt => Sys2Proof.Machine.execGrantHoldRestart dt s
  | .conflictWindowEnd dt => Sys2Proof.Machine.execConflictWindowEnd dt s
  | .mapPass dt => Sys2Proof.Machine.execMapPass dt s
  | .signalMapChangeRequest dt who => Sys2Proof.Machine.execSignalMapChangeRequest dt who s
  | .signalMapChangeCancel dt who => Sys2Proof.Machine.execSignalMapChangeCancel dt who s
  | .regIntervalEnd dt => Sys2Proof.Machine.execRegIntervalEnd dt s
  | .sacnPacket dt p => Sys2Proof.Machine.execSacnPacket dt p s
  | .sacnSourceLoss dt entry => Sys2Proof.Machine.execSacnSourceLoss dt entry s
  | .dmxTxPacket dt port => Sys2Proof.Machine.execDmxTxPacket dt port s
  | .dmxRxPacket dt port startCode slots framing => Sys2Proof.Machine.execDmxRxPacket dt port startCode slots framing s
  | .dmxRxLoss dt port => Sys2Proof.Machine.execDmxRxLoss dt port s
  | .dmxModeWrite dt who port value => Sys2Proof.Machine.execDmxModeWrite dt who port value s
  | .rdmRequest dt who port dest cls pid data => Sys2Proof.Machine.execRdmRequest dt who port dest cls pid data s
  | .rdmResponseReceive dt port p => Sys2Proof.Machine.execRdmResponseReceive dt port p s
  | .rdmResponseTimeout dt port => Sys2Proof.Machine.execRdmResponseTimeout dt port s
  | .dmxRdmDiscover dt who port value => Sys2Proof.Machine.execDmxRdmDiscover dt who port value s
  | .rdmAbort dt who port value => Sys2Proof.Machine.execRdmAbort dt who port value s
  | .rdmResponderRequest dt port p ready => Sys2Proof.Machine.execRdmResponderRequest dt port p ready s
  | .brgRead dt who => Sys2Proof.Machine.execBrgRead dt who s
  | .brgWrite dt who data => Sys2Proof.Machine.execBrgWrite dt who data s
  | .brgLockSet dt who => Sys2Proof.Machine.execBrgLockSet dt who s
  | .brgUnlock dt who => Sys2Proof.Machine.execBrgUnlock dt who s
  | .brgAbort dt who value => Sys2Proof.Machine.execBrgAbort dt who value s
  | .brgPweClear dt who value => Sys2Proof.Machine.execBrgPweClear dt who value s
  | .claimWordReceive dt word => Sys2Proof.Machine.execClaimWordReceive dt word s
  | .partnerLost dt => Sys2Proof.Machine.execPartnerLost dt s
  | .mirrorLinkUp dt => Sys2Proof.Machine.execMirrorLinkUp dt s
  | .mirrorLinkDown dt => Sys2Proof.Machine.execMirrorLinkDown dt s
  | .mirrorResend dt => Sys2Proof.Machine.execMirrorResend dt s
  | .mirrorAck dt m => Sys2Proof.Machine.execMirrorAck dt m s
  | .mirrorHeartbeat dt m => Sys2Proof.Machine.execMirrorHeartbeat dt m s
  | .mirrorAdmit dt m => Sys2Proof.Machine.execMirrorAdmit dt m s
  | .pairWaitExpiry dt => Sys2Proof.Machine.execPairWaitExpiry dt s
  | .mirrorAnchor dt m => Sys2Proof.Machine.execMirrorAnchor dt m s
  | .linkSig dt m => Sys2Proof.Machine.execLinkSig dt m s
  | .frameSig dt m => Sys2Proof.Machine.execFrameSig dt m s
  | .dictWrite dt m => Sys2Proof.Machine.execDictWrite dt m s
  | .dictForward dt m => Sys2Proof.Machine.execDictForward dt m s
  | .dictStatus dt m => Sys2Proof.Machine.execDictStatus dt m s
  | .mirrorWriteApply dt => Sys2Proof.Machine.execMirrorWriteApply dt s
  | .statePush dt m => Sys2Proof.Machine.execStatePush dt m s
  | .mirrorBulk dt m => Sys2Proof.Machine.execMirrorBulk dt m s
  | .mirrorSync dt m => Sys2Proof.Machine.execMirrorSync dt m s
  | .twinYield dt => Sys2Proof.Machine.execTwinYield dt s
  | .twnRejoin dt who value => Sys2Proof.Machine.execTwnRejoin dt who value s
  | .idpOpen dt h nonce => Sys2Proof.Machine.execIdpOpen dt h nonce s
  | .idpClose dt h => Sys2Proof.Machine.execIdpClose dt h s
  | .idpKeepalive dt h => Sys2Proof.Machine.execIdpKeepalive dt h s
  | .authOperator dt h proof => Sys2Proof.Machine.execAuthOperator dt h proof s
  | .challenge dt h slot key => Sys2Proof.Machine.execChallenge dt h slot key s
  | .authService dt h signature => Sys2Proof.Machine.execAuthService dt h signature s
  | .idpRead dt h items => Sys2Proof.Machine.execIdpRead dt h items s
  | .idpWrite dt h items => Sys2Proof.Machine.execIdpWrite dt h items s
  | .registerWrite dt who item => Sys2Proof.Machine.execRegisterWrite dt who item s
  | .domainRead dt h index sub => Sys2Proof.Machine.execDomainRead dt h index sub s
  | .domainWrite dt h index sub total => Sys2Proof.Machine.execDomainWrite dt h index sub total s
  | .domainSegment dt h offset data => Sys2Proof.Machine.execDomainSegment dt h offset data s
  | .domainEnd dt h check => Sys2Proof.Machine.execDomainEnd dt h check s
  | .domainAbort dt h => Sys2Proof.Machine.execDomainAbort dt h s
  | .sessionTimeout dt => Sys2Proof.Machine.execSessionTimeout dt s
  | .serviceWindowEnd dt => Sys2Proof.Machine.execServiceWindowEnd dt s
  | .lockoutEnd dt => Sys2Proof.Machine.execLockoutEnd dt s
  | .rdmIdpSet dt port dest source transaction message ready => Sys2Proof.Machine.execRdmIdpSet dt port dest source transaction message ready s
  | .rdmGetEui dt port dest source transaction => Sys2Proof.Machine.execRdmGetEui dt port dest source transaction s
  | .rdmGetIdentity dt port dest source transaction => Sys2Proof.Machine.execRdmGetIdentity dt port dest source transaction s
  | .spiRequest dt message => Sys2Proof.Machine.execSpiRequest dt message s
  | .spiReadResponse dt => Sys2Proof.Machine.execSpiReadResponse dt s
  | .spiStatus dt => Sys2Proof.Machine.execSpiStatus dt s
  | .dicProfileSave dt who value => Sys2Proof.Machine.execDicProfileSave dt who value s
  | .profileSaveDone dt ok => Sys2Proof.Machine.execProfileSaveDone dt ok s
  | .dicProfileCreate dt who value => Sys2Proof.Machine.execDicProfileCreate dt who value s
  | .dicRestart dt who value => Sys2Proof.Machine.execDicRestart dt who value s
  | .dicInstallKey dt who key => Sys2Proof.Machine.execDicInstallKey dt who key s
  | .dicServiceKeyIntegrator dt who key => Sys2Proof.Machine.execDicServiceKeyIntegrator dt who key s
  | .chainInWord dt word => Sys2Proof.Machine.execChainInWord dt word s
  | .chainInIdle dt => Sys2Proof.Machine.execChainInIdle dt s
  | .discoverSend dt => Sys2Proof.Machine.execDiscoverSend dt s
  | .chainDiscover dt h chain flags profile generation => Sys2Proof.Machine.execChainDiscover dt h chain flags profile generation s
  | .discoverBack dt h euiLow address => Sys2Proof.Machine.execDiscoverBack dt h euiLow address s
  | .chnAddrAccept dt who value => Sys2Proof.Machine.execChnAddrAccept dt who value s
  | .conflictClear dt => Sys2Proof.Machine.execConflictClear dt s
  | .backupRequest dt h address side wrapKey => Sys2Proof.Machine.execBackupRequest dt h address side wrapKey s
  | .backupData dt h offset total data => Sys2Proof.Machine.execBackupData dt h offset total data s
  | .backupAck dt h offset status => Sys2Proof.Machine.execBackupAck dt h offset status s
  | .backupResend dt => Sys2Proof.Machine.execBackupResend dt s
  | .adoptWaitExpiry dt => Sys2Proof.Machine.execAdoptWaitExpiry dt s
  | .updStartCommit dt who value => Sys2Proof.Machine.execUpdStartCommit dt who value s
  | .imageOffer dt h level seq blocks tAct healthS forward => Sys2Proof.Machine.execImageOffer dt h level seq blocks tAct healthS forward s
  | .offerReply dt h reply => Sys2Proof.Machine.execOfferReply dt h reply s
  | .imageBlock dt h block crc data flashOk => Sys2Proof.Machine.execImageBlock dt h block crc data flashOk s
  | .blockAck dt h block status => Sys2Proof.Machine.execBlockAck dt h block status s
  | .blockResend dt => Sys2Proof.Machine.execBlockResend dt s
  | .relayStall dt => Sys2Proof.Machine.execRelayStall dt s
  | .imageVerified dt => Sys2Proof.Machine.execImageVerified dt s
  | .chainAbort dt h => Sys2Proof.Machine.execChainAbort dt h s
  | .updAbort dt who value => Sys2Proof.Machine.execUpdAbort dt who value s
  | .activation dt => Sys2Proof.Machine.execActivation dt s
  | .healthConfirmed dt => Sys2Proof.Machine.execHealthConfirmed dt s
  | .updConfirm dt who value => Sys2Proof.Machine.execUpdConfirm dt who value s
  | .updReject dt who value => Sys2Proof.Machine.execUpdReject dt who value s
  | .healthWindowEnd dt => Sys2Proof.Machine.execHealthWindowEnd dt s
  | .imageFetch dt h address => Sys2Proof.Machine.execImageFetch dt h address s
  | .fetchRetry dt => Sys2Proof.Machine.execFetchRetry dt s
  | .keepLoaderStart dt => Sys2Proof.Machine.execKeepLoaderStart dt s
  | .powerOn dt => Sys2Proof.Machine.execPowerOn dt s
  | .vinUndervoltage dt => Sys2Proof.Machine.execVinUndervoltage dt s
  | .railFault dt rail cause => Sys2Proof.Machine.execRailFault dt rail cause s
  | .railRetryWait dt => Sys2Proof.Machine.execRailRetryWait dt s
  | .clockFault dt => Sys2Proof.Machine.execClockFault dt s
  | .serdesPllLoss dt port => Sys2Proof.Machine.execSerdesPllLoss dt port s
  | .resetNLow dt => Sys2Proof.Machine.execResetNLow dt s
  | .resetNRelease dt => Sys2Proof.Machine.execResetNRelease dt s
  | .thermalTrip dt => Sys2Proof.Machine.execThermalTrip dt s
  | .thermalTripClear dt => Sys2Proof.Machine.execThermalTripClear dt s
  | .jtagReset dt => Sys2Proof.Machine.execJtagReset dt s
  | .cpu0Watchdog dt => Sys2Proof.Machine.execCpu0Watchdog dt s
  | .driveHeartbeatLoss dt => Sys2Proof.Machine.execDriveHeartbeatLoss dt s
  | .internalResetRelease dt pins refreshed => Sys2Proof.Machine.execInternalResetRelease dt pins refreshed s
  | .memTrainingDone dt ok channel => Sys2Proof.Machine.execMemTrainingDone dt ok channel s
  | .imageLoadDone dt => Sys2Proof.Machine.execImageLoadDone dt s
  | .firmwareStart dt seqOk engineFails ctrlFails => Sys2Proof.Machine.execFirmwareStart dt seqOk engineFails ctrlFails s
  | .startupLimit dt => Sys2Proof.Machine.execStartupLimit dt s
  | .logicTjRead dt tj rails => Sys2Proof.Machine.execLogicTjRead dt tj rails s
  | .presentationInstant dt => Sys2Proof.Machine.execPresentationInstant dt s
  | .claimLineLoss dt => Sys2Proof.Machine.execClaimLineLoss dt s
  | .dmxTxPacketEnd dt port => Sys2Proof.Machine.execDmxTxPacketEnd dt port s
  | .rdmAckTimerExpiry dt port => Sys2Proof.Machine.execRdmAckTimerExpiry dt port s
  | .discoverBackSend dt => Sys2Proof.Machine.execDiscoverBackSend dt s
  | .activationWindowExpiry dt => Sys2Proof.Machine.execActivationWindowExpiry dt s
  | .serdesPllLock dt port => Sys2Proof.Machine.execSerdesPllLock dt port s
  | .backupRequestTimeout dt => Sys2Proof.Machine.execBackupRequestTimeout dt s

end Sys2Proof.Machine
end

