-- ==== Sys2Proof/Safety.lean ====
section
/-! DEFINITION. The terms claims are stated in: what a command leaves, which parts of the state and which elements of the dictionary it may change,
which word it puts into the Drum, and the forms every state is held to. -/

namespace Sys2Proof

/-- The clocks that pass before a command has its effect. -/
def Instr.dt : Instr → Nat
  | .rxFrame dt _ _ _ => dt
  | .netmRxFrame dt _ _ => dt
  | .egressTransmit dt _ => dt
  | .gateEntryExpiry dt _ => dt
  | .gclChangeRequest dt _ _ => dt
  | .gclChangeCancel dt _ _ => dt
  | .gclSwap dt _ => dt
  | .portRestart dt _ _ _ _ => dt
  | .linkUp dt _ => dt
  | .linkDown dt _ _ => dt
  | .moduleDetect dt _ => dt
  | .fecWindowEnd dt _ _ _ _ => dt
  | .streamTableChange dt _ _ _ _ => dt
  | .igmpQuery dt _ => dt
  | .syncReceive dt _ => dt
  | .announceReceive dt _ => dt
  | .delayRespReceive dt _ => dt
  | .pdelayReqReceive dt _ _ => dt
  | .firstStep dt => dt
  | .syncTimeout dt => dt
  | .announceTimeout dt => dt
  | .holdoverLimit dt => dt
  | .reacquireSchedule dt _ _ => dt
  | .reacquireCancel dt _ => dt
  | .reacquireStep dt => dt
  | .ptpClientRestart dt _ _ _ => dt
  | .turretMismatch dt _ _ _ => dt
  | .voteFailure dt _ _ _ => dt
  | .comparatorFire dt _ => dt
  | .cmpCommit dt _ _ => dt
  | .bellPulseEnd dt _ => dt
  | .bellEdge dt _ _ _ => dt
  | .capPop dt _ _ => dt
  | .wsfPacket dt _ => dt
  | .controlFrameHandover dt => dt
  | .controlFrameAbandon dt => dt
  | .fenceRelease dt _ => dt
  | .fenceAbandon dt _ => dt
  | .fenceEntryExpiry dt => dt
  | .layerTimeout dt _ => dt
  | .incompleteAbandon dt => dt
  | .st2110Packet dt _ => dt
  | .layerEnable dt _ _ _ => dt
  | .frameCreditWaitEnd dt _ => dt
  | .instantiate dt => dt
  | .dispatch dt _ => dt
  | .operationComplete dt _ _ => dt
  | .urgentPriority dt => dt
  | .lampTick dt => dt
  | .cueDeadline dt => dt
  | .squashBarrier dt _ => dt
  | .watchdogTrip dt _ => dt
  | .traceGapRecord dt => dt
  | .belTraceRead dt _ => dt
  | .belTraceRewind dt _ _ => dt
  | .belTraceMark dt _ _ => dt
  | .statsWindowEnd dt => dt
  | .belStatsWindow dt _ _ => dt
  | .orderChangeRequest dt _ => dt
  | .orderChangeCancel dt _ => dt
  | .finialHeartbeat dt _ => dt
  | .finialContent dt _ => dt
  | .finialAssert dt _ => dt
  | .finialRelease dt _ => dt
  | .finialStale dt => dt
  | .finialDisable dt _ => dt
  | .finialKeyWrite dt _ _ => dt
  | .decisionMismatch dt _ _ _ => dt
  | .previewTake dt _ _ => dt
  | .cupPreviewRead dt _ => dt
  | .tempPoll dt _ => dt
  | .calRefreshDue dt _ => dt
  | .reblendPassStart dt _ => dt
  | .reblendPassComplete dt _ => dt
  | .calFetch dt _ _ _ => dt
  | .headerRecheck dt _ => dt
  | .scrubPeriod dt => dt
  | .calSpareCommit dt _ _ => dt
  | .moduleZoneWrite dt _ _ _ _ => dt
  | .recalPass2Complete dt _ _ => dt
  | .recalAbort dt _ => dt
  | .trimMeasure dt _ _ => dt
  | .trimMeasureDone dt _ _ => dt
  | .mapChangeRequest dt _ => dt
  | .mapChangeCancel dt _ => dt
  | .commitInstant dt _ => dt
  | .strikeReference dt => dt
  | .strikeLeave dt _ _ => dt
  | .modeChangeRequest dt _ => dt
  | .modeChangeCancel dt _ => dt
  | .modeChangeEffect dt => dt
  | .genlockEdge dt => dt
  | .genlockLoss dt => dt
  | .linkFrameStart dt _ _ _ _ _ _ => dt
  | .blockLockGained dt _ => dt
  | .blockLockLost dt _ _ => dt
  | .linkLockHeld dt _ => dt
  | .enumEndReceive dt _ _ => dt
  | .enumTimeout dt _ => dt
  | .echoReplyReceive dt _ _ _ => dt
  | .retrainWaitEnd dt _ => dt
  | .remeasureDue dt _ => dt
  | .dackReceive dt _ _ => dt
  | .ackTimeout dt _ => dt
  | .reqReceive dt _ _ => dt
  | .upFrameEof dt _ _ _ _ => dt
  | .readDataResponse dt _ _ _ _ _ => dt
  | .writeErrorResponse dt _ _ _ _ _ _ => dt
  | .lockResponse dt _ _ _ _ => dt
  | .unlockResponse dt _ _ _ _ => dt
  | .faultRecords dt _ _ _ => dt
  | .lockTimeLimit dt _ => dt
  | .mergeInstant dt => dt
  | .periodStart dt _ => dt
  | .channelUntested dt _ => dt
  | .adcConversion dt _ _ _ _ => dt
  | .cueGo dt _ _ => dt
  | .cueStop dt _ _ => dt
  | .channelEnable dt _ _ _ => dt
  | .groupClear dt _ _ _ => dt
  | .groupRetry dt _ => dt
  | .safetyTableCheck dt _ _ _ => dt
  | .tiedGroupEnable dt => dt
  | .ocuEnableWrite dt _ _ => dt
  | .controlSramError dt _ _ _ _ _ _ => dt
  | .crcClaim dt _ _ _ => dt
  | .crcPreset dt _ _ _ => dt
  | .crcParameterWrite dt _ _ _ _ => dt
  | .crcRunningWrite dt _ _ _ => dt
  | .crcFeed dt _ _ _ => dt
  | .crcAliveIn dt _ _ _ => dt
  | .eventPost dt _ _ _ => dt
  | .drmPop dt _ => dt
  | .drmPopBlock dt _ => dt
  | .drmFlush dt _ _ => dt
  | .faultSummaryClear dt _ _ => dt
  | .memRequestRaise dt _ => dt
  | .arbitrationRound dt _ _ _ => dt
  | .refreshDue dt => dt
  | .debugAccess dt => dt
  | .dramReadError dt _ _ _ _ => dt
  | .odeccPoll dt _ _ => dt
  | .dramTempRead dt _ _ => dt
  | .grantOverrun dt => dt
  | .grantHoldRestart dt => dt
  | .conflictWindowEnd dt => dt
  | .mapPass dt => dt
  | .signalMapChangeRequest dt _ => dt
  | .signalMapChangeCancel dt _ => dt
  | .regIntervalEnd dt => dt
  | .sacnPacket dt _ => dt
  | .sacnSourceLoss dt _ => dt
  | .dmxTxPacket dt _ => dt
  | .dmxRxPacket dt _ _ _ _ => dt
  | .dmxRxLoss dt _ => dt
  | .dmxModeWrite dt _ _ _ => dt
  | .rdmRequest dt _ _ _ _ _ _ => dt
  | .rdmResponseReceive dt _ _ => dt
  | .rdmResponseTimeout dt _ => dt
  | .dmxRdmDiscover dt _ _ _ => dt
  | .rdmAbort dt _ _ _ => dt
  | .rdmResponderRequest dt _ _ _ => dt
  | .brgRead dt _ => dt
  | .brgWrite dt _ _ => dt
  | .brgLockSet dt _ => dt
  | .brgUnlock dt _ => dt
  | .brgAbort dt _ _ => dt
  | .brgPweClear dt _ _ => dt
  | .claimWordReceive dt _ => dt
  | .partnerLost dt => dt
  | .mirrorLinkUp dt => dt
  | .mirrorLinkDown dt => dt
  | .mirrorResend dt => dt
  | .mirrorAck dt _ => dt
  | .mirrorHeartbeat dt _ => dt
  | .mirrorAdmit dt _ => dt
  | .pairWaitExpiry dt => dt
  | .mirrorAnchor dt _ => dt
  | .linkSig dt _ => dt
  | .frameSig dt _ => dt
  | .dictWrite dt _ => dt
  | .dictForward dt _ => dt
  | .dictStatus dt _ => dt
  | .mirrorWriteApply dt => dt
  | .statePush dt _ => dt
  | .mirrorBulk dt _ => dt
  | .mirrorSync dt _ => dt
  | .twinYield dt => dt
  | .twnRejoin dt _ _ => dt
  | .idpOpen dt _ _ => dt
  | .idpClose dt _ => dt
  | .idpKeepalive dt _ => dt
  | .authOperator dt _ _ => dt
  | .challenge dt _ _ _ => dt
  | .authService dt _ _ => dt
  | .idpRead dt _ _ => dt
  | .idpWrite dt _ _ => dt
  | .registerWrite dt _ _ => dt
  | .domainRead dt _ _ _ => dt
  | .domainWrite dt _ _ _ _ => dt
  | .domainSegment dt _ _ _ => dt
  | .domainEnd dt _ _ => dt
  | .domainAbort dt _ => dt
  | .sessionTimeout dt => dt
  | .serviceWindowEnd dt => dt
  | .lockoutEnd dt => dt
  | .rdmIdpSet dt _ _ _ _ _ _ => dt
  | .rdmGetEui dt _ _ _ _ => dt
  | .rdmGetIdentity dt _ _ _ _ => dt
  | .spiRequest dt _ => dt
  | .spiReadResponse dt => dt
  | .spiStatus dt => dt
  | .dicProfileSave dt _ _ => dt
  | .profileSaveDone dt _ => dt
  | .dicProfileCreate dt _ _ => dt
  | .dicRestart dt _ _ => dt
  | .dicInstallKey dt _ _ => dt
  | .dicServiceKeyIntegrator dt _ _ => dt
  | .chainInWord dt _ => dt
  | .chainInIdle dt => dt
  | .discoverSend dt => dt
  | .chainDiscover dt _ _ _ _ _ => dt
  | .discoverBack dt _ _ _ => dt
  | .chnAddrAccept dt _ _ => dt
  | .conflictClear dt => dt
  | .backupRequest dt _ _ _ _ => dt
  | .backupData dt _ _ _ _ => dt
  | .backupAck dt _ _ _ => dt
  | .backupResend dt => dt
  | .adoptWaitExpiry dt => dt
  | .updStartCommit dt _ _ => dt
  | .imageOffer dt _ _ _ _ _ _ _ => dt
  | .offerReply dt _ _ => dt
  | .imageBlock dt _ _ _ _ _ => dt
  | .blockAck dt _ _ _ => dt
  | .blockResend dt => dt
  | .relayStall dt => dt
  | .imageVerified dt => dt
  | .chainAbort dt _ => dt
  | .updAbort dt _ _ => dt
  | .activation dt => dt
  | .healthConfirmed dt => dt
  | .updConfirm dt _ _ => dt
  | .updReject dt _ _ => dt
  | .healthWindowEnd dt => dt
  | .imageFetch dt _ _ => dt
  | .fetchRetry dt => dt
  | .keepLoaderStart dt => dt
  | .powerOn dt => dt
  | .vinUndervoltage dt => dt
  | .railFault dt _ _ => dt
  | .railRetryWait dt => dt
  | .clockFault dt => dt
  | .serdesPllLoss dt _ => dt
  | .resetNLow dt => dt
  | .resetNRelease dt => dt
  | .thermalTrip dt => dt
  | .thermalTripClear dt => dt
  | .jtagReset dt => dt
  | .cpu0Watchdog dt => dt
  | .driveHeartbeatLoss dt => dt
  | .internalResetRelease dt _ _ => dt
  | .memTrainingDone dt _ _ => dt
  | .imageLoadDone dt => dt
  | .firmwareStart dt _ _ _ => dt
  | .startupLimit dt => dt
  | .logicTjRead dt _ _ => dt
  | .presentationInstant dt => dt
  | .claimLineLoss dt => dt
  | .dmxTxPacketEnd dt _ => dt
  | .rdmAckTimerExpiry dt _ => dt
  | .discoverBackSend dt => dt
  | .activationWindowExpiry dt => dt
  | .serdesPllLock dt _ => dt
  | .backupRequestTimeout dt => dt

/-- The session that makes a write, or a read that removes data, for the commands that are one (R468; BRG_READ is open at any level, R424); 0 stands for the signal map, 0xFFFF for firmware. -/
def Instr.writer : Instr → Option Nat
  | .gclChangeRequest _ who _ => some who
  | .gclChangeCancel _ who _ => some who
  | .portRestart _ who _ _ _ => some who
  | .streamTableChange _ who _ _ _ => some who
  | .reacquireSchedule _ who _ => some who
  | .reacquireCancel _ who => some who
  | .ptpClientRestart _ who _ _ => some who
  | .cmpCommit _ who _ => some who
  | .capPop _ who _ => some who
  | .layerEnable _ who _ _ => some who
  | .belTraceRead _ who => some who
  | .belTraceRewind _ who _ => some who
  | .belTraceMark _ who _ => some who
  | .belStatsWindow _ who _ => some who
  | .orderChangeRequest _ who => some who
  | .orderChangeCancel _ who => some who
  | .finialDisable _ who => some who
  | .finialKeyWrite _ who _ => some who
  | .previewTake _ who _ => some who
  | .cupPreviewRead _ who => some who
  | .calSpareCommit _ who _ => some who
  | .moduleZoneWrite _ who _ _ _ => some who
  | .recalPass2Complete _ who _ => some who
  | .recalAbort _ who => some who
  | .trimMeasure _ who _ => some who
  | .mapChangeRequest _ who => some who
  | .mapChangeCancel _ who => some who
  | .modeChangeRequest _ who => some who
  | .modeChangeCancel _ who => some who
  | .cueGo _ who _ => some who
  | .cueStop _ who _ => some who
  | .channelEnable _ who _ _ => some who
  | .groupClear _ who _ _ => some who
  | .ocuEnableWrite _ who _ => some who
  | .crcClaim _ who _ _ => some who
  | .crcPreset _ who _ _ => some who
  | .crcParameterWrite _ who _ _ _ => some who
  | .crcRunningWrite _ who _ _ => some who
  | .crcFeed _ who _ _ => some who
  | .crcAliveIn _ who _ _ => some who
  | .drmPop _ who => some who
  | .drmPopBlock _ who => some who
  | .drmFlush _ who _ => some who
  | .faultSummaryClear _ who _ => some who
  | .signalMapChangeRequest _ who => some who
  | .signalMapChangeCancel _ who => some who
  | .dmxModeWrite _ who _ _ => some who
  | .rdmRequest _ who _ _ _ _ _ => some who
  | .dmxRdmDiscover _ who _ _ => some who
  | .rdmAbort _ who _ _ => some who
  | .brgWrite _ who _ => some who
  | .brgLockSet _ who => some who
  | .brgUnlock _ who => some who
  | .brgAbort _ who _ => some who
  | .brgPweClear _ who _ => some who
  | .twnRejoin _ who _ => some who
  | .registerWrite _ who _ => some who
  | .dicProfileSave _ who _ => some who
  | .dicProfileCreate _ who _ => some who
  | .dicRestart _ who _ => some who
  | .dicInstallKey _ who _ => some who
  | .dicServiceKeyIntegrator _ who _ => some who
  | .chnAddrAccept _ who _ => some who
  | .updStartCommit _ who _ => some who
  | .updAbort _ who _ => some who
  | .updConfirm _ who _ => some who
  | .updReject _ who _ => some who
  | _ => none

namespace Machine

/-- The command answers a next state, of which the claim holds; the claim also sees the state the command found, its clocks passed. -/
def Completes (c : Instr) (s : State) (claim : State → State → Prop) : Prop := ∃ t, exec c s = .next t ∧ claim (s.elapse c.dt) t

/-- The parts of the state beside the dictionary and the outputs. -/
inductive Part where
  | unit | drum | log | clock | net | idp | ingest | epochs | belfry | cupola | scan | spire | cal | bridge | ocu | lantern | mem | smap | twin | chain | update | sys | ticks | fresh | pending
  deriving DecidableEq, Repr

/-- A part is the same in two states. -/
def Part.same (s t : State) : Part → Prop
  | .unit => t.unit = s.unit
  | .drum => t.drum = s.drum
  | .log => t.log = s.log
  | .clock => t.clock = s.clock
  | .net => t.net = s.net
  | .idp => t.idp = s.idp
  | .ingest => t.ingest = s.ingest
  | .epochs => t.epochs = s.epochs
  | .belfry => t.belfry = s.belfry
  | .cupola => t.cupola = s.cupola
  | .scan => t.scan = s.scan
  | .spire => t.spire = s.spire
  | .cal => t.cal = s.cal
  | .bridge => t.bridge = s.bridge
  | .ocu => t.ocu = s.ocu
  | .lantern => t.lantern = s.lantern
  | .mem => t.mem = s.mem
  | .smap => t.smap = s.smap
  | .twin => t.twin = s.twin
  | .chain => t.chain = s.chain
  | .update => t.update = s.update
  | .sys => t.sys = s.sys
  | .ticks => t.ticks = s.ticks
  | .fresh => t.fresh = s.fresh
  | .pending => t.pending = s.pending

/-- Of the parts of the state only those named may differ, and of the elements of the dictionary only those named. -/
def OnlyChanges (parts : List Part) (regs : Reg → Bool) (s t : State) : Prop :=
  (∀ p, p ∉ parts → p.same s t) ∧ ∀ r : Reg, r.sub < 1024 → regs r = false → t.reg r = s.reg r

/-- No element. -/
def noRegs (_r : Reg) : Bool := false

/-- The elements of a list. -/
def among (rs : List Reg) (r : Reg) : Bool := rs.contains r

/-- The elements of the Drum's own registers and counters (R379), which any event may move. -/
def drumRegs (r : Reg) : Bool := [0xA202, 0xA203, 0xA205, 0xA207, 0xA208, 0xA20A].contains r.index

/-- The elements of entries, by index. -/
def entries (is : List Nat) (r : Reg) : Bool := is.contains r.index

/-- The elements given, and those any event may move. -/
def andDrum (regs : Reg → Bool) (r : Reg) : Bool := drumRegs r || regs r

/-- The elements of whole blocks, by the first hexadecimal digit of the index (R464). -/
def blocks (ds : List Nat) (r : Reg) : Bool := ds.contains (r.index / 4096)

/-- Nothing waits to enter the Drum: so every command leaves it. -/
abbrev Quiet (s : State) : Prop := s.drum.incoming = []

/-- Nothing waits to enter the Drum, and it filters no word of the priority: the state between commands, since every command leaves it so. -/
abbrev Takes (s : State) (priority : Nat) : Prop := s.drum.incoming = [] ∧ s.reg .DRM_MIN_PRIORITY ≤ priority

/-- The Drum holds an event of one word. -/
abbrev Posted (t : State) (code priority arg : Nat) : Prop := (⟨.single, priority, code, arg % 2 ^ 42⟩ : DrumWord) ∈ t.drum.words

/-- Whether a capture channel is armed for a source (R114). -/
def Captures (s : State) (source : Nat) : Bool := (List.range 8).any fun ch => s.flag (.CAP_ENABLE ch) && s.reg (.CAP_SOURCE ch) == source

/-- The operations an engine runs (R161). -/
def State.runningOn (s : State) (engine : Nat) : List BelOp := s.belfry.slots.filter fun o => match o.stage with
  | .running k _ => k == engine
  | _ => false

/-- What a reset leaves (R526 to R530): every element and every block as State.reset has it; of what the flash and the unit itself hold nothing is
lost, and the retained image stays across a warm reset only. -/
def Restarted (warm : Bool) (s t : State) : Prop :=
  t.dict = State.reset.dict ∧
    (∀ p ∈ [Part.net, .clock, .ingest, .epochs, .belfry, .cupola, .scan, .spire, .bridge, .ocu, .lantern, .mem, .smap, .twin, .drum],
      p.same State.reset t) ∧
    t.unit = s.unit ∧ t.cal.trims = s.cal.trims ∧ t.idp.slots = s.idp.slots ∧ t.idp.installKey = s.idp.installKey ∧
    t.idp.integratorKey = s.idp.integratorKey ∧ t.idp.finKey = s.idp.finKey ∧ t.idp.sessions = [] ∧ t.chain.slots = s.chain.slots ∧
    t.update.boot = s.update.boot ∧ t.update.area = s.update.area ∧
    t.update.retained = (if warm then s.update.retained else none) ∧ t.sys.warm = warm ∧ t.sys.startedAt = s.ticks ∧ t.sys.releasedAt = none

/-- The dictionary in its one form: keys rising, no element at its default (R464). -/
def DictForm (s : State) : Prop :=
  storeRising 0 s.dict = true ∧ ∀ p ∈ s.dict, p.2 ≠ dictDefault ⟨p.1 / 1024, p.1 % 1024⟩

/-- The Drum within its 64 words (R372), with nothing left to enter. -/
def DrumForm (s : State) : Prop := s.drum.words.length ≤ 64 ∧ s.drum.incoming = []

end Machine

end Sys2Proof
end

