-- ==== Sys2Proof/Certificates/Slice0/Obligations.lean ====
section
/-! DEFINITION. The statements about the block. A state s0 in a statement is the state the command finds, its clocks passed; t is the state it leaves. -/

open Sys2Proof Sys2Proof.Machine

/-- A step runs the command at the front of the queue, with the rest of the queue: the form of the model (log entry 3), no rule of the spec. -/
def Obligations.StepRunsFront : Prop :=
  ∀ (c : Instr) (rest : List Instr) (s : State), step { s with pending := c :: rest } = exec c { s with pending := rest }

/-- With no command waiting a step is one clock (log entry 3): each turret advances once (R79). -/
def Obligations.IdleStepIsATick : Prop :=
  ∀ s : State, s.pending = [] → ∃ t, step s = .next t ∧ t.out = [] ∧ t.ticks = s.ticks + 1 ∧
  t.clock.turrets = s.clock.turrets.map (fun u => { u with time := (u.time + (2 ^ 32 + u.f)) % 2 ^ 96 }) ∧
  OnlyChanges [.ticks, .clock, .belfry] noRegs s t

/-- No command ever stops the block: each answers a next state, in which the queue is as it was and every event posted has entered the Drum or been filtered (R372). -/
def Obligations.EveryCommandCompletes : Prop :=
  ∀ (c : Instr) (s : State), Completes c s fun _ t => t.pending = s.pending ∧ t.ticks = s.ticks + c.dt ∧ t.drum.incoming = []

/-- The queue runs first in, first out, from every state and for every length of run; no command stops it and no time is lost. -/
def Obligations.QueueRunsInOrder : Prop :=
  ∀ (k : Nat) (s : State), k ≤ s.pending.length → Quiet s →
  ∃ t, Host.Core.run core k s = .next t ∧ t.pending = s.pending.drop k ∧ t.ticks = s.ticks + ((s.pending.take k).map Instr.dt).sum ∧ Quiet t

/-- Any number of steps from any state ends in a next state. -/
def Obligations.NoRunStops : Prop :=
  ∀ (k : Nat) (s : State), ∃ t, Host.Core.run core k s = .next t

/-- A good frame for the unit is delivered, and one for another station goes on -/
def Obligations.NetPortsTakeFrames : Prop :=
  (∀ (dt port : Nat) (f : Frame) (s : State), port < 2 → s.net.forwarding = true → s.linkIsUp port = true → fcsKind f = .good → f.codeError = false →
    64 ≤ f.octets.length + 4 → f.octets.length + 4 ≤ s.reg .NET_MAX_FRAME → ethDst f.octets = s.unit.macChain → s.unit.macChain ≠ 0xFFFFFFFFFFFF →
    ethType f.octets ≠ 0x8808 → isIpv4 f.octets = false → cellsOf (f.octets.length + 4) ≤ s.freeCells → Completes (.rxFrame dt port f .clean) s fun s0
    t => t.reg (.NETCNT_RX_LOCAL port) = (s.reg (.NETCNT_RX_LOCAL port) + 1) % 2 ^ 32 ∧ t.out = [] ∧ OnlyChanges [.drum, .log] (andDrum (entries
    [0x2100 + port])) s0 t) ∧
  (∀ (dt port : Nat) (f : Frame) (s : State), port < 2 → s.net.forwarding = true → s.linkIsUp port = true → fcsKind f = .good → f.codeError = false →
    64 ≤ f.octets.length + 4 → f.octets.length + 4 ≤ s.reg .NET_MAX_FRAME → f.octets.length + 4 ≤ s.reg (.NET_TC_MAX_FRAME (s.classOf f.octets + 1)) →
    ethDst f.octets ≠ s.unit.macChain → ethDst f.octets / 2 ^ 40 % 2 = 0 → ethType f.octets ≠ 0x8808 → s.correctsPtp f.octets = false → (s.elapse
    dt).cutThrough port (otherPort port) (s.classOf f.octets) = true → Completes (.rxFrame dt port f .clean) s fun s0 t => t.out = [.frame (otherPort
    port) f.octets f.fcs true] ∧ OnlyChanges [.drum, .log] (andDrum (entries [0x2100, 0x2101])) s0 t) ∧
  (∀ (dt : Nat) (f : Frame) (s : State), s.linkIsUp 2 = true → fcsKind f = .good → f.codeError = false → 64 ≤ f.octets.length + 4 → f.octets.length +
    4 ≤ s.reg .NET_MAX_FRAME → ethDst f.octets = s.unit.macM → ethType f.octets ≠ 0x8808 → isIpv4 f.octets = false → cellsOf (f.octets.length + 4) ≤
    s.freeCells → Completes (.netmRxFrame dt f .clean) s fun s0 t => t.reg (.NETCNT_RX_LOCAL 2) = (s.reg (.NETCNT_RX_LOCAL 2) + 1) % 2 ^ 32 ∧ t.out =
    [] ∧ OnlyChanges [.drum, .log] (andDrum (entries [0x2102])) s0 t)

/-- The head frame of the eligible class leaves, and gate lists run and change -/
def Obligations.EgressSendsAndGatesRun : Prop :=
  (∀ (dt port c : Nat) (f : QueuedFrame) (rest : List QueuedFrame) (s : State), (s.elapse dt).nextClass port = some c → nth (s.port port).queues c []
    = f :: rest → s.linkIsUp port = true → f.ptpRx = none → f.stomp = false → Completes (.egressTransmit dt port) s fun s0 t => nth (t.port
    port).queues c [] = rest ∧ t.out = [.frame port f.octets (crcOf crc32 f.octets) false] ∧ OnlyChanges [.net, .drum, .log] (andDrum (entries [0x2100
    + port])) s0 t) ∧
  (∀ (dt port : Nat) (s : State), port < 2 → port < s.net.ports.length → Quiet s → (s.port port).gate.restartAt = none → (s.port port).gate.pending =
    false → s.gclEntryEnd port (s.port port).gate.entry ≤ (s.elapse dt).now → Completes (.gateEntryExpiry dt port) s fun s0 t => (t.port
    port).gate.entry = s.gclNext port (s.port port).gate.entry ∧ (t.port port).gate.gates = gclGates (s.gclEntry port (s.gclNext port (s.port
    port).gate.entry)) ∧ OnlyChanges [.net] noRegs s0 t) ∧
  (∀ (dt who port : Nat) (s : State), port < 2 → port < s.net.ports.length → Quiet s → 1 ≤ (s.elapse dt).levelOf who → (s.port port).gate.pending =
    false → s.gclFault port = none → Completes (.gclChangeRequest dt who port) s fun s0 t => (t.port port).gate.pending = true ∧ t.reg
    (.NET_GCL_CHANGE (port + 1)) = 1 ∧ t.reg (.NET_GCL_CHANGE_TIME (port + 1)) = gclChangeTime (s.reg (.NET_GCL_ADMIN_BASE (port + 1))) (s.reg
    (.NET_GCL_ADMIN_CYCLE (port + 1))) s0.now % 2 ^ 64 ∧ t.out = [.reply 0] ∧ OnlyChanges [.net] (among [.NET_GCL_CHANGE (port + 1),
    .NET_GCL_CHANGE_TIME (port + 1)]) s0 t) ∧
  (∀ (dt who port : Nat) (s : State), port < 2 → port < s.net.ports.length → Quiet s → 1 ≤ (s.elapse dt).levelOf who → (s.port port).gate.pending =
    true → Completes (.gclChangeCancel dt who port) s fun s0 t => (t.port port).gate.pending = false ∧ t.reg (.NET_GCL_CHANGE (port + 1)) = 0 ∧ t.reg
    (.NET_GCL_CHANGE_TIME (port + 1)) = 0 ∧ t.out = [.reply 0] ∧ OnlyChanges [.net] (among [.NET_GCL_CHANGE (port + 1), .NET_GCL_CHANGE_TIME (port +
    1)]) s0 t) ∧
  (∀ (dt port : Nat) (s : State), port < 2 → port < s.net.ports.length → Takes s 2 → (s.port port).gate.pending = true → (s.port port).gate.restartAt
    = none → s.reg (.NET_GCL_CHANGE_TIME (port + 1)) ≤ (s.elapse dt).now → Completes (.gclSwap dt port) s fun s0 t => (∀ k < 64, t.gclEntry port k =
    s.gclAdmin port k % 2 ^ 64) ∧ t.reg (.NET_GCL_OPER_LEN (port + 1)) = s.reg (.NET_GCL_ADMIN_LEN (port + 1)) % 2 ^ dictBits (.NET_GCL_OPER_LEN (port
    + 1)) ∧ (t.port port).gate.entry = 0 ∧ (t.port port).gate.pending = false ∧ t.reg (.NET_GCL_CHANGE (port + 1)) = 0 ∧ Posted t 0x2030 2 (port +
    (s.reg (.NET_GCL_CHANGE_TIME (port + 1)) % 2 ^ 41) * 2) ∧ OnlyChanges [.net, .drum, .log] (andDrum (entries [0x2047, 0x2048, 0x2050, 0x2051,
    0x2052, 0x2053, 0x2054, 0x2055, 0x2056])) s0 t)

/-- Links come up and go down, and the stream table and the reports follow -/
def Obligations.LinksAndFilters : Prop :=
  (∀ (dt port : Nat) (s : State), port < 3 → s.linkIsUp port = false → Takes s 3 → Completes (.linkUp dt port) s fun s0 t => t.reg (.NET_LINK_STATE
    (port + 1)) = 1 ∧ Posted t 0x2001 3 port ∧ t.out = [] ∧ OnlyChanges [.drum, .log] (andDrum (among [.NET_LINK_STATE (port + 1)])) s0 t) ∧
  (∀ (dt port : Nat) (lockLost : Bool) (s : State), port < 3 → port < s.net.ports.length → s.linkIsUp port = true → Takes s 5 → s.idp.sessions = [] →
    s.reg .TCK_SLAVE_PORT ≠ port + 1 → Completes (.linkDown dt port lockLost) s fun s0 t => t.linkIsUp port = false ∧ t.reg (.NETCNT_LINK_DOWN port) =
    (s.reg (.NETCNT_LINK_DOWN port) + 1) % 2 ^ 32 ∧ (∀ c < 8, nth (t.port port).queues c [] = []) ∧ OnlyChanges [.net, .drum, .log] (andDrum (fun r =>
    r = .NET_LINK_STATE (port + 1) || entries [0x2100 + port] r)) s0 t) ∧
  (∀ (dt who port : Nat) (fec : Bool) (value : Nat) (s : State), port < 2 → Quiet s → 1 ≤ (s.elapse dt).levelOf who → s.linkIsUp port = false →
    inRange (if fec then .NET_FEC (port + 1) else .NET_SPEED (port + 1)) value = true → s.reg (if fec then .NET_FEC (port + 1) else .NET_SPEED (port +
    1)) ≠ value → fec = true → value = 2 → s.reg (.NET_SPEED (port + 1)) ≠ 1 → fec = false → value = 1 → s.reg (.NET_FEC (port + 1)) ≠ 2 → Completes
    (.portRestart dt who port fec value) s fun s0 t => t.reg (if fec then .NET_FEC (port + 1) else .NET_SPEED (port + 1)) = value ∧ bitOf (t.reg
    .SYS_PLL_STATE) (port + 1) = false ∧ t.out = [.reply 0] ∧ OnlyChanges [.net] (fun r => among [.NET_FEC (port + 1), .NET_SPEED (port + 1),
    .SYS_PLL_STATE] r || entries [0x302C] r) s0 t) ∧
  (∀ (dt port : Nat) (s : State), port < 2 → port < s.net.sfp.length → Quiet s → s.net.forwarding = true → Completes (.moduleDetect dt port) s fun s0
    t => nth t.net.sfp port (true, true, true, true) = (false, s.reg (.NET_SPEED (port + 1)) == 0, s.reg (.NET_SPEED (port + 1)) == 0, false) ∧ t.out
    = [] ∧ OnlyChanges [.net] noRegs s0 t) ∧
  (∀ (dt port corrected uncorrected codewords : Nat) (s : State), port < 2 → Takes s 5 → s.reg (.NET_LINK_STATE (port + 1)) = 1 → codewords <
    uncorrected * 1000000 → Completes (.fecWindowEnd dt port corrected uncorrected codewords) s fun s0 t => t.reg (.NET_LINK_STATE (port + 1)) = 2 ∧
    t.reg (.NETCNT_FEC_UNCORRECTED port) = (s.reg (.NETCNT_FEC_UNCORRECTED port) + uncorrected) % 2 ^ 32 ∧ Posted t 0x2003 5 (port + (uncorrected % 2
    ^ 32) * 4) ∧ OnlyChanges [.net, .drum, .log] (andDrum (among [.NET_LINK_STATE (port + 1), .NETCNT_FEC_CORRECTED port, .NETCNT_FEC_UNCORRECTED
    port])) s0 t) ∧
  (∀ (dt who entry sub value : Nat) (s : State), entry < 128 → dictBits ⟨0x2400 + entry, sub⟩ ≠ 0 → inRange ⟨0x2400 + entry, sub⟩ value = true → 1 ≤
    (s.elapse dt).levelOf who → Takes s 3 → Completes (.streamTableChange dt who entry sub value) s fun s0 t => t.reg ⟨0x2400 + entry, sub⟩ = value ∧
    (∃ w ∈ t.drum.words, w.code = 0x2050 ∧ w.priority = 3) ∧ t.out.getLast? = some (.reply 0) ∧ OnlyChanges [.net, .drum, .log] (andDrum (fun r => r =
    ⟨0x2400 + entry, sub⟩ || entries [0x2021] r)) s0 t) ∧
  (∀ (dt : Nat) (s : State), Quiet s → s.linkIsUp 0 = true → s.linkIsUp 1 = false → s.flag .NET_IGMP_ENABLE = true → s.net.joined = s.streamGroups →
    Completes (.igmpQuery dt 0) s fun s0 t => t.out = s.streamGroups.map (fun g => .igmp 0 g false) ∧ OnlyChanges [] noRegs s0 t)

/-- PTP messages select a grandmaster and give the servo its samples -/
def Obligations.PtpFeedsTheServo : Prop :=
  (∀ (dt : Nat) (m : PtpSync) (s : State), Quiet s → m.domain = s.reg .TCK_DOMAIN → s.reg .TCK_GM_ID ≠ 0 → m.clockId = s.reg .TCK_GM_ID → m.port + 1 =
    s.reg .TCK_SLAVE_PORT → s.reg .TCK_STATE = 1 → Captures s 32 = false → Completes (.syncReceive dt m) s fun s0 t => t.clock.acquire =
    (s.clock.acquire ++ [(⟨s.correctRx m.port m.rxStamp, s.correctRx m.port m.rxStamp - m.originNs - (m.correction : Rat) / 65536 - (s.regInt
    (.TCK_ASYMMETRY (m.port + 1)) : Rat) / 1000 - s.meanPath m.linkSum⟩ : ClockSample)]).take 16 ∧ t.out = [] ∧ OnlyChanges [.clock] (among
    [.TCK_MEAN_PATH, .TCK_OFFSET, .TCK_FLAGS]) s0 t) ∧
  (∀ (dt h : Nat) (a m : PtpAnnounce) (s : State), Takes s 3 ∧ s.reg .DRM_MIN_PRIORITY ≤ 2 → m.domain = s.reg .TCK_DOMAIN → s.clock.masters = [⟨a, h⟩]
    → 1 ≤ h → a.gmId = m.gmId → a.port = m.port → s.portAllowed m.port = true → s.reg .TCK_STATE = 0 → s.clock.lastGm ≠ some m.gmId → Completes
    (.announceReceive dt m) s fun s0 t => t.reg .TCK_GM_ID = m.gmId % 2 ^ 64 ∧ t.reg .TCK_SLAVE_PORT = (m.port + 1) % 2 ^ 8 ∧ t.reg .TCK_STATE = 1 ∧
    Posted t 0x3006 3 m.gmId ∧ Posted t 0x3001 2 1 ∧ OnlyChanges [.clock, .drum, .log] (andDrum (among [.TCK_GM_ID, .TCK_SLAVE_PORT, .TCK_UTC_OFFSET,
    .TCK_STATE])) s0 t) ∧
  (∀ (dt : Nat) (m : PtpDelay) (fwd : Rat) (s : State), Quiet s → m.domain = s.reg .TCK_DOMAIN → m.peer = false → s.reg .TCK_PROFILE ≠ 2 → m.port + 1
    = s.reg .TCK_SLAVE_PORT → s.clock.syncDelta = some fwd → Completes (.delayRespReceive dt m) s fun s0 t => t.clock.paths = ((fwd + ((m.t4 : Rat) /
    2 ^ 32 - s.correctTx m.port m.t3 - (m.correction : Rat) / 65536 + (s.regInt (.TCK_ASYMMETRY (m.port + 1)) : Rat) / 1000)) / 2 ::
    s.clock.paths).take 16 ∧ OnlyChanges [.clock] (among [.TCK_MEAN_PATH]) s0 t) ∧
  (∀ (dt port seq : Nat) (s : State), Quiet s → port < 2 → s.reg .TCK_PROFILE = 2 → Completes (.pdelayReqReceive dt port seq) s fun s0 t => t.out =
    [.pdelayResp port seq] ∧ OnlyChanges [] noRegs s0 t)

/-- The first step and a re-acquire set one time on all turrets and go to LOCKING -/
def Obligations.TimeIsStepped : Prop :=
  (∀ (dt : Nat) (s : State), s.reg .TCK_STATE = 1 → 16 ≤ s.clock.acquire.length → Completes (.firstStep dt) s fun s0 t => t.reg .TCK_STATE = 2 ∧
    t.clock.stepped = true ∧ t.reg .TCK_STEPS = (s.reg .TCK_STEPS + 1) % 2 ^ 32 ∧ (∀ u ∈ t.clock.turrets, ∀ v ∈ t.clock.turrets, u.time = v.time) ∧
    OnlyChanges [.belfry, .clock, .drum, .log, .epochs, .lantern, .net, .ocu, .scan, .spire, .twin] (blocks [3, 5, 8, 0xA, 0xF]) s0 t) ∧
  (∀ (dt : Nat) (s : State), s.reg .TCK_REACQUIRE_AT ≠ 0 → s.reg .TCK_REACQUIRE_AT ≤ (s.elapse dt).now → (s.elapse dt).recentSamples ≠ [] → Completes
    (.reacquireStep dt) s fun s0 t => t.reg .TCK_REACQUIRE_AT = 0 ∧ t.reg .TCK_STATE = 2 ∧ t.reg .TCK_STEPS = (s.reg .TCK_STEPS + 1) % 2 ^ 32 ∧ (∀ u ∈
    t.clock.turrets, ∀ v ∈ t.clock.turrets, u.time = v.time) ∧ OnlyChanges [.belfry, .clock, .drum, .log, .epochs, .lantern, .net, .ocu, .scan,
    .spire, .twin] (blocks [3, 5, 8, 0xA, 0xF]) s0 t)

/-- Loss of the grandmaster enters HOLDOVER, and the client is restarted and scheduled -/
def Obligations.GrandmasterLossAndControl : Prop :=
  (∀ (dt : Nat) (s : State), Takes s 2 → s.reg .TCK_STATE = 3 → Completes (.syncTimeout dt) s fun s0 t => t.reg .TCK_STATE = 4 ∧ Posted t 0x3003 4 0 ∧
    Posted t 0x3001 2 28 ∧ t.clock.holdoverSince = s0.now ∧ OnlyChanges [.clock, .drum, .log] (andDrum (among [.TCK_STATE, .TCK_RATE_PPB])) s0 t) ∧
  (∀ (dt : Nat) (s : State), s.reg .TCK_GM_ID ≠ 0 → s.clock.masters.all (fun m => m.announce.gmId == s.reg .TCK_GM_ID) = true → Completes
    (.announceTimeout dt) s fun s0 t => t.reg .TCK_GM_ID = 0 ∧ t.reg .TCK_SLAVE_PORT = 0 ∧ t.reg .TCK_STATE = (if s.clock.stepped then 4 else 0) ∧
    OnlyChanges [.clock, .drum, .log] (andDrum (among [.TCK_GM_ID, .TCK_SLAVE_PORT, .TCK_FLAGS, .TCK_STATE, .TCK_RATE_PPB, .TCK_HOLDOVER_S])) s0 t) ∧
  (∀ (dt : Nat) (s : State), Takes s 5 → s.reg .TCK_STATE = 4 → bitOf (s.reg .TCK_FLAGS) 2 = false → s.reg .TCK_HOLDOVER_LIMIT ≤ ((s.elapse dt).now -
    s.clock.holdoverSince) / 1000000000 → Completes (.holdoverLimit dt) s fun s0 t => bitOf (t.reg .TCK_FLAGS) 2 = true ∧ Posted t 0x3005 5 ((s0.now -
    s.clock.holdoverSince) / 1000000000 % 2 ^ 32) ∧ OnlyChanges [.drum, .log] (andDrum (among [.TCK_FLAGS])) s0 t) ∧
  (∀ (dt who time : Nat) (s : State), Quiet s → 1 ≤ (s.elapse dt).levelOf who → s.reg .TCK_STATE ≠ 0 → s.reg .TCK_STATE ≠ 1 → time ≠ 0 → (s.elapse
    dt).now + 100000000 ≤ time → Completes (.reacquireSchedule dt who time) s fun s0 t => t.reg .TCK_REACQUIRE_AT = time % 2 ^ 64 ∧ t.out = [.reply 0]
    ∧ OnlyChanges [] (among [.TCK_REACQUIRE_AT]) s0 t) ∧
  (∀ (dt who : Nat) (s : State), Quiet s → 1 ≤ (s.elapse dt).levelOf who → s.reg .TCK_REACQUIRE_AT ≠ 0 → Completes (.reacquireCancel dt who) s fun s0
    t => t.reg .TCK_REACQUIRE_AT = 0 ∧ t.out = [.reply 0] ∧ OnlyChanges [] (among [.TCK_REACQUIRE_AT]) s0 t) ∧
  (∀ (dt who value : Nat) (s : State), 1 ≤ (s.elapse dt).levelOf who → inRange .TCK_PTP_PORT value = true → s.reg .TCK_PTP_PORT ≠ value → Completes
    (.ptpClientRestart dt who 0x3022 value) s fun s0 t => t.reg .TCK_PTP_PORT = value ∧ t.clock.masters = [] ∧ t.clock.paths = [] ∧ t.reg .TCK_GM_ID =
    0 ∧ t.reg .TCK_STATE = (if s.clock.stepped then 4 else 0) ∧ t.out = [.reply 0] ∧ OnlyChanges [.clock, .drum, .log] (andDrum (among [.TCK_PTP_PORT,
    .TCK_GM_ID, .TCK_SLAVE_PORT, .TCK_FLAGS, .TCK_STATE, .TCK_RATE_PPB, .TCK_HOLDOVER_S])) s0 t)

/-- A turret that differs is outvoted, and a failed vote clears TIME_VALID -/
def Obligations.TurretsAndTheVote : Prop :=
  (∀ (dt turret time f : Nat) (s : State), Takes s 5 → turret < 3 → s.clock.excluded = none → nth (s.elapse dt).clock.turrets turret Turret.reset ≠
    ⟨time, f⟩ → (s.clock.corrections.filter fun p => p.2 == turret) = [] → Captures s 33 = false → Completes (.turretMismatch dt turret time f) s fun
    s0 t => t.reg (.TCK_TURRET_CORRECTED (turret + 1)) = (s.reg (.TCK_TURRET_CORRECTED (turret + 1)) + 1) % 2 ^ 32 ∧ Posted t 0x3010 5 turret ∧
    t.clock.turrets = s0.clock.turrets ∧ t.clock.excluded = none ∧ OnlyChanges [.clock, .drum, .log] (andDrum (among [.TCK_TURRET_CORRECTED (turret +
    1)])) s0 t) ∧
  (∀ (dt turret time f a b : Nat) (s : State), Takes s 6 → turret < 3 → s.clock.excluded = none → nth (s.elapse dt).clock.turrets turret Turret.reset
    ≠ ⟨time, f⟩ → s.clock.corrections = [(a, turret), (b, turret)] → s.ticks + dt ≤ b + 781250000 ∧ s.ticks + dt ≤ a + 781250000 → Captures s 33 =
    false → Completes (.turretMismatch dt turret time f) s fun _ t => t.clock.excluded = some turret ∧ t.reg .TCK_TURRET_EXCLUDED = turret + 1 ∧ bitOf
    (t.reg .TCK_FLAGS) 3 = true ∧ Posted t 0x3011 6 turret) ∧
  (∀ (dt a b c : Nat) (s : State), Quiet s → s.clock.excluded = none → a ≠ b → b ≠ c → a ≠ c → s.scan.gridOn = false → Captures s 33 = false →
    Completes (.voteFailure dt a b c) s fun s0 t => t.timeValid = false ∧ bitOf (t.reg .TCK_FLAGS) 4 = true ∧ Posted t 0x3012 7 7 ∧ bitOf (t.reg
    .DRM_FAULT_SUMMARY) 3 = true ∧ (∀ u ∈ t.clock.turrets, ∀ v ∈ t.clock.turrets, u.time = v.time) ∧ OnlyChanges [.clock, .drum, .log] (andDrum (among
    [.TCK_FLAGS])) s0 t)

/-- Comparators fire and pulse, and captures are stored and popped -/
def Obligations.ComparatorsAndCaptures : Prop :=
  (∀ (dt n : Nat) (s : State), Quiet s → 5 ≤ n ∧ n ≤ 15 → n < s.clock.comparators.length → (s.cmp n).armed = true → s.scanOwns n = false → (s.cmp
    n).action = 1 → (s.cmp n).lateDue = false → (s.cmp n).instant (s.cmp n).next ≤ (s.elapse dt).time96 → Completes (.comparatorFire dt n) s fun s0 t
    => t.reg (.CMP_FIRED n) = (s.reg (.CMP_FIRED n) + 1) % 2 ^ 32 ∧ (t.cmp n).next = (s.cmp n).next + 1 ∧ (t.cmp n).pulse = true ∧ t.out = [.bell (n -
    5) (!(s.cmp n).polarity)] ∧ OnlyChanges [.clock] (among [.CMP_FIRED n, .CMP_NEXT n]) s0 t) ∧
  (∀ (dt who n : Nat) (s : State), Quiet s → 5 ≤ n ∧ n ≤ 15 → n < s.clock.comparators.length → 1 ≤ (s.elapse dt).levelOf who → s.scanOwns n = false →
    s.cmpRefusal n = none → s.flag (.CMP_ENABLE n) = true → (s.elapse dt).time96 ≤ s.reg (.CMP_TARGET n) * 2 ^ 32 + s.reg (.CMP_TARGET_FRAC n) →
    Completes (.cmpCommit dt who n) s fun s0 t => (t.cmp n).armed = true ∧ (t.cmp n).next = 0 ∧ (t.cmp n).target = s.reg (.CMP_TARGET n) * 2 ^ 32 +
    s.reg (.CMP_TARGET_FRAC n) ∧ (t.cmp n).action = s.reg (.CMP_ACTION n) ∧ t.out.getLast? = some (.reply 0) ∧ OnlyChanges [.clock] (among [.CMP_NEXT
    n]) s0 t) ∧
  (∀ (dt n : Nat) (s : State), Quiet s → n < s.clock.comparators.length → (s.cmp n).pulse = true → Completes (.bellPulseEnd dt n) s fun s0 t => (t.cmp
    n).pulse = false ∧ t.out = [.bell (n - 5) (s.cmp n).polarity] ∧ OnlyChanges [.clock] noRegs s0 t) ∧
  (∀ (dt pin heldNs : Nat) (falling : Bool) (s : State), pin < 8 → s.clock.captures.length = 8 → nth s.clock.lastEdge pin none = none → Completes
    (.bellEdge dt pin falling heldNs) s fun s0 t => (∀ ch ∈ List.range 8, (nth t.clock.captures ch ⟨[], 0⟩).fifo = (nth s.clock.captures ch ⟨[],
    0⟩).fifo ++ if s.flag (.CAP_ENABLE ch) = true ∧ s.reg (.CAP_SOURCE ch) = pin ∧ (s.reg (.CAP_EDGE ch) = 2 ∨ s.reg (.CAP_EDGE ch) = b2n falling) ∧
    s.reg (.CAP_DEGLITCH ch) ≤ heldNs ∧ (nth s.clock.captures ch ⟨[], 0⟩).fifo.length < 16 then [(⟨(s0.time96 + 2 ^ 96 - heldNs * 2 ^ 32) % 2 ^ 96,
    falling, s.timeValid, s.reg .TCK_STATE == 4, (nth s.clock.captures ch ⟨[], 0⟩).seq⟩ : Capture)] else []) ∧ OnlyChanges [.clock, .drum, .log]
    (andDrum (fun r => (List.range 8).any fun ch => among [.CAP_COUNT ch, .CAP_LOST ch] r)) s0 t) ∧
  (∀ (dt who channel : Nat) (s : State), Quiet s → 1 ≤ (s.elapse dt).levelOf who → channel < 8 → channel < s.clock.captures.length → Completes
    (.capPop dt who channel) s fun s0 t => t.out = [.reply 0, .data (captureOctets (nth s.clock.captures channel ⟨[], 0⟩).fifo.head?)] ∧ (nth
    t.clock.captures channel ⟨[], 0⟩).fifo = (nth s.clock.captures channel ⟨[], 0⟩).fifo.tail ∧ OnlyChanges [.clock] noRegs s0 t)

/-- The first packet of a frame is accepted into a buffer, and a first video packet opens a frame -/
def Obligations.PacketsBecomeFrames : Prop :=
  (∀ (dt l k : Nat) (p : WsfPacket) (s : State), p.header.length = 48 → p.at_ 0 2 = 0x5753 → p.at_ 2 1 = 1 → p.kind = 0 → p.format ≤ 1 →
    p.payload.length = 4 * p.count → p.fence = false → s.recordOf p.entry = l → l < 8 → s.ingest.frames.all (fun f => f.stream != p.stream && Nat.blt
    f.id s.ingest.nextId) = true → s.ingest.refused.contains (p.stream, p.time, p.srcEpoch) = false → s.ingest.ended.all (fun x => x.1 != p.stream) =
    true → s.timeValid = true → (s.elapse dt).window (s.reg (.ING_LEAD_MIN l)) p.time = .inside → s.freeBuffer l = some k → 2 ≤ p.total →
    s.packetReason (newFrame p l none) p = none → Completes (.wsfPacket dt p) s fun s0 t => t.reg (.INGCNT_FRAMES_ACCEPTED l) = (s.reg
    (.INGCNT_FRAMES_ACCEPTED l) + 1) % 2 ^ 32 ∧ t.ingest.nextId = s.ingest.nextId + 1 ∧ (∃ f ∈ t.ingest.frames, f.id = s.ingest.nextId ∧ f.layer = l ∧
    f.buffer = some k ∧ f.time = p.time ∧ f.parts.map PacketPart.payload = [p.payload]) ∧ t.out = [] ∧ OnlyChanges [.net, .ingest, .drum, .log]
    (andDrum (entries [0x4300 + l])) s0 t) ∧
  (∀ (dt l : Nat) (p : VideoPacket) (s : State), s.layersOf p.entry = [l] → s.ingest.streams.all (fun v => v.entry != p.entry) = true → p.rows.all
    (fun r => !r.fieldBit && s.rowFits l r) = true → s.ingest.frames.all (fun f => f.stream != 2 ^ 32 + p.entry * 8 + l) = true → s.ingest.refused.all
    (fun r => r.1 != 2 ^ 32 + p.entry * 8 + l) = true → s.timeValid = true → (s.elapse dt).window (s.reg (.ING_LEAD_MIN l)) (samplingInstant (s.elapse
    dt).now p.timestamp + s.reg (.ING_2110_DELAY l)) = .inside → Completes (.st2110Packet dt p) s fun s0 t => t.reg (.INGCNT_FRAMES_ACCEPTED l) =
    (s.reg (.INGCNT_FRAMES_ACCEPTED l) + 1) % 2 ^ 32 ∧ (∃ v ∈ t.ingest.streams, v.entry = p.entry ∧ v.highest = 2 ^ 32 + p.seq % 2 ^ 32 ∧ (2 ^ 32 +
    p.seq % 2 ^ 32) ∈ v.received) ∧ OnlyChanges [.net, .ingest, .cupola, .belfry, .epochs, .spire, .twin, .drum, .log] (andDrum (blocks [4, 5, 6, 8]))
    s0 t)

/-- Control frames are handed over or abandoned, marked frames abandoned, fences matched or dropped -/
def Obligations.FramesAndFencesEnd : Prop :=
  (∀ (dt : Nat) (s : State), (s.ingest.frames.filter fun f => f.layer == 8 && f.isComplete && Nat.ble (nsUnits f.time) (s.elapse dt).time96) ≠ [] →
    Completes (.controlFrameHandover dt) s fun s0 t => (∀ f ∈ t.ingest.frames, ¬(f.layer = 8 ∧ f.isComplete = true ∧ nsUnits f.time ≤ s0.time96)) ∧
    t.reg (.INGCNT_SHOWN 8) = (s.reg (.INGCNT_SHOWN 8) + (s.ingest.frames.filter fun f => f.layer == 8 && f.isComplete && Nat.ble (nsUnits f.time)
    s0.time96).length) % 2 ^ 32 ∧ t.out = [] ∧ OnlyChanges [.ingest, .drum, .log] (andDrum (entries [0x4308])) s0 t) ∧
  (∀ (dt : Nat) (s : State), (s.ingest.frames.filter fun f => f.layer == 8 && !f.isComplete && Nat.ble (nsUnits f.time + s.period) (s.elapse
    dt).time96) ≠ [] → Completes (.controlFrameAbandon dt) s fun s0 t => (∀ f ∈ t.ingest.frames, ¬(f.layer = 8 ∧ f.isComplete = false ∧ nsUnits f.time
    + s.period ≤ s0.time96)) ∧ t.reg (.INGCNT_INCOMPLETE 8) = (s.reg (.INGCNT_INCOMPLETE 8) + (s.ingest.frames.filter fun f => f.layer == 8 &&
    !f.isComplete && Nat.ble (nsUnits f.time + s.period) s0.time96).length) % 2 ^ 32 ∧ t.out = [] ∧ OnlyChanges [.ingest, .drum, .log] (andDrum
    (entries [0x4308])) s0 t) ∧
  (∀ (dt : Nat) (s : State), (s.ingest.frames.any fun f => !f.isComplete && f.late.any (fun x => Nat.ble x (s.elapse dt).time96)) = true →
    s.ingest.frames.all (fun f => Nat.ble f.layer 8) = true → Completes (.incompleteAbandon dt) s fun s0 t => (∀ f ∈ t.ingest.frames, f ∈
    s.ingest.frames ∧ (f.isComplete = true ∨ f.late.all (fun x => Nat.blt s0.time96 x) = true)) ∧ t.out = [] ∧ OnlyChanges [.ingest, .drum, .log]
    (andDrum (blocks [4])) s0 t) ∧
  (∀ (dt : Nat) (p : WsfPacket) (f : IngestFrame) (s : State), p.header.length = 48 → p.at_ 0 2 = 0x5753 → p.at_ 2 1 = 1 → p.kind = 2 → p.fenceOk =
    true → s.ingest.frames = [f] → f.fenced = true ∧ f.released = false → f.stream = p.stream → f.fenceId = p.fenceId → s.epochs = [] → Quiet s →
    Completes (.fenceRelease dt p) s fun s0 t => t.ingest.frames = [{ f with released := true }] ∧ t.out = [] ∧ OnlyChanges [.net, .ingest] noRegs s0
    t) ∧
  (∀ (dt : Nat) (p : WsfPacket) (f : IngestFrame) (s : State), p.header.length = 48 → p.at_ 0 2 = 0x5753 → p.at_ 2 1 = 1 → p.kind = 3 → p.fenceOk =
    true → Takes s 3 → s.ingest.frames = [f] → f.fenced = true ∧ f.shown = false → f.layer < 8 → f.stream = p.stream → f.fenceId = p.fenceId →
    Completes (.fenceAbandon dt p) s fun s0 t => t.ingest.frames = [] ∧ t.reg (.CUPCNT_FENCE_ABANDONED f.layer) = (s.reg (.CUPCNT_FENCE_ABANDONED
    f.layer) + 1) % 2 ^ 32 ∧ Posted t 0x6011 3 (f.layer + p.fenceId * 16) ∧ t.out = [] ∧ OnlyChanges [.net, .ingest, .drum, .log] (andDrum (entries
    [0x4300 + f.layer, 0x6400 + f.layer])) s0 t) ∧
  (∀ (dt : Nat) (s : State), (s.cupola.fences.filter fun e => Nat.ble (e.accepted + 3 * s.period) (s.elapse dt).time96) ≠ [] → Completes
    (.fenceEntryExpiry dt) s fun s0 t => t.cupola.fences = (s.cupola.fences.filter fun e => Nat.blt s0.time96 (e.accepted + 3 * s.period)) ∧ t.out =
    [] ∧ OnlyChanges [.cupola, .drum, .log] (andDrum (blocks [6])) s0 t)

/-- A layer without a frame holds at its time-out, credits are taken, and a layer is enabled -/
def Obligations.LayersAndTheirTimeouts : Prop :=
  (∀ (dt layer : Nat) (e : Epoch) (s : State), s.epochs = [e] → layer < 8 → e.layers.length = 8 → e.timedLayers.contains layer = false → e.timeout
    layer ≤ (s.elapse dt).time96 → e.waits layer = true → (e.config.layer layer).flipGroup = 0 → s.candidate e layer = none → e.ready.contains layer =
    false → Completes (.layerTimeout dt layer) s fun s0 t => t.reg (.INGCNT_NOT_READY layer) = (s.reg (.INGCNT_NOT_READY layer) + 1) % 2 ^ 32 ∧
    t.epochs.map Epoch.epoch = [e.epoch] ∧ (∀ x ∈ t.epochs, x.timedLayers.contains layer = true ∧ nth x.layers layer .waiting = nth s.ingest.lastShown
    layer .transparent) ∧ OnlyChanges [.ingest, .belfry, .epochs, .twin, .drum, .log] (andDrum (blocks [4, 5, 6])) s0 t) ∧
  (∀ (dt layer k : Nat) (f : IngestFrame) (s : State), Quiet s → s.ingest.frames = [f] → f.layer = layer → layer < 8 → f.buffer = none ∧ f.replaces =
    none → s.freeBuffer layer = some k → s.epochs = [] → Completes (.frameCreditWaitEnd dt layer) s fun s0 t => t.ingest.frames =
    [{ f with buffer := some k, cells := 0 }] ∧ t.out = [] ∧ OnlyChanges [.ingest] noRegs s0 t) ∧
  (∀ (dt who layer : Nat) (s : State), Quiet s → 1 ≤ (s.elapse dt).levelOf who → layer < 8 → s.flag (.ING_LAYER_ENABLE layer) = false →
    s.enableRefusal layer = none → Completes (.layerEnable dt who layer 1) s fun s0 t => t.reg (.ING_LAYER_ENABLE layer) = 1 ∧ t.out = [.reply 0] ∧
    OnlyChanges [.drum, .log] (andDrum (fun r => among [.ING_LAYER_ENABLE layer, .ING_LAYER_PITCH layer] r || entries [0xB200] r)) s0 t)

/-- Engines take the first ready operation and free its slot; the watchdog stops one that overruns -/
def Obligations.EnginesTakeAndFinishOperations : Prop :=
  (∀ (dt engine p since order : Nat) (o : BelOp) (s : State), (s.elapse dt).idle engine = true → (s.elapse dt).firstReady engine = some o → o.stage =
    .ready p since order → Completes (.dispatch dt engine) s fun s0 t => (∀ q ∈ t.belfry.slots, q.slot = o.slot → q.stage = .running engine (s.ticks +
    dt)) ∧ t.belfry.slots.map BelOp.slot = s.belfry.slots.map BelOp.slot ∧ t.reg .BELCNT_OPS_DISPATCHED = (s.reg .BELCNT_OPS_DISPATCHED + 1) % 2 ^ 64
    ∧ t.out = [] ∧ OnlyChanges [.belfry, .drum, .log] (andDrum (blocks [5])) s0 t) ∧
  (∀ (dt engine : Nat) (faults : ReadFaults) (o : BelOp) (s : State), s.runningOn engine = [o] → s.epochs.all (fun e => e.restart.isEmpty && Nat.ble
    (brickCount e.config.canvasW e.config.canvasH) e.nextBrick) = true → Completes (.operationComplete dt engine faults) s fun s0 t => (∀ q ∈
    t.belfry.slots, q.slot ≠ o.slot) ∧ t.out = [] ∧ OnlyChanges [.belfry, .cal, .cupola, .scan, .lantern, .epochs, .drum, .log] (andDrum (blocks [4,
    5, 6, 7])) s0 t) ∧
  (∀ (dt engine since : Nat) (o : BelOp) (s : State), Quiet s → s.runningOn engine = [o] → o.stage = .running engine since → s.epochs = [] → engine <
    16 → 4 * o.clocks + 1024 < (s.ticks + dt - since) / 2 → Completes (.watchdogTrip dt engine) s fun s0 t => t.reg .BELCNT_WATCHDOG = (s.reg
    .BELCNT_WATCHDOG + 1) % 2 ^ 32 ∧ (s.reg .BEL_TRACE_ENABLE = 0 → s.reg .DRM_MIN_PRIORITY ≤ 5 → Posted t 0x5008 5 (engine + o.code * 16 + o.slot *
    256)) ∧ (nth t.belfry.engines engine Engine.reset).contexts = [] ∧ t.out = [] ∧ OnlyChanges [.belfry, .drum, .log] (andDrum (blocks [5])) s0 t)

/-- An epoch is instantiated, raised to priority 5, and after a squash replaced or retired -/
def Obligations.EpochsAreBuiltRaisedAndRetired : Prop :=
  (∀ (dt : Nat) (s : State), s.epochs = [] → s.belfry.reload = false → s.reg .BEL_STATE = 2 → s.reg .TWN_STATE ≠ 3 → s.scan.gridOn = true → Completes
    (.instantiate dt) s fun s0 t => t.scan.nextEpoch = (s.scan.nextEpoch + 1) % 65536 ∧ t.scan.nextIndex = max s.scan.nextIndex ((s.elapse
    dt).gridFirst ((s.elapse dt).time96 + commitLead)) + 1 ∧ s.scan.nextEpoch ∈ t.belfry.live ∧ t.epochs.map (fun e => (e.epoch, e.stage, e.tp)) =
    [(s.scan.nextEpoch, .live, s.gridAt (max s.scan.nextIndex ((s.elapse dt).gridFirst ((s.elapse dt).time96 + commitLead))))] ∧ OnlyChanges [.belfry,
    .cal, .clock, .epochs, .ingest, .ocu, .scan, .spire, .twin, .drum, .log] (andDrum (blocks [4, 5, 6, 7, 8, 10])) s0 t) ∧
  (∀ (dt : Nat) (e : Epoch) (s : State), s.oldest = some e → (s.epochs.map Epoch.epoch).Nodup → (s.belfry.slots.map BelOp.slot).Nodup → e.urgent =
    false → e.replacement = false → e.tc ≤ (s.elapse dt).time96 + nsUnits (s.reg .BEL_URGENT_NS) → Completes (.urgentPriority dt) s fun s0 t => (∀ x ∈
    t.epochs, x.epoch = e.epoch → x.urgent = true) ∧ t.epochs.map Epoch.epoch = s.epochs.map Epoch.epoch ∧ (∀ p ∈ List.range 8, p ≠ 5 → ∀ o ∈
    t.belfry.ready p, ¬(o.code < 7 ∧ o.epoch = e.epoch)) ∧ t.out = [] ∧ OnlyChanges [.belfry, .epochs, .drum, .log] (andDrum (blocks [5])) s0 t) ∧
  (∀ (dt epoch : Nat) (e : Epoch) (s : State), (s.belfry.engines.any fun g => g.stopping.any fun x => x.1 == epoch && Nat.blt (s.ticks + dt) x.2) =
    false → s.epochOf epoch = some e → e.stage = .squashing true → Completes (.squashBarrier dt epoch) s fun s0 t => (∀ x ∈ t.epochs, x.epoch = epoch
    → x.stage = .awaiting ∧ x.replacement = true) ∧ t.epochs.map Epoch.epoch = s.epochs.map Epoch.epoch ∧ t.out = [] ∧ OnlyChanges [.belfry, .epochs,
    .ingest, .drum, .log] (andDrum (blocks [5, 6])) s0 t) ∧
  (∀ (dt epoch : Nat) (e : Epoch) (s : State), (s.belfry.engines.any fun g => g.stopping.any fun x => x.1 == epoch && Nat.blt (s.ticks + dt) x.2) =
    false → s.epochOf epoch = some e → e.stage = .squashing false → (s.epochs.all fun x => x.epoch == epoch || x.stage != .live || (x.restart.isEmpty
    && Nat.ble (brickCount x.config.canvasW x.config.canvasH) x.nextBrick)) = true → Completes (.squashBarrier dt epoch) s fun s0 t => t.epochs =
    s.epochs.filter (fun x => x.epoch != epoch) ∧ t.out = [] ∧ OnlyChanges [.belfry, .epochs, .ingest, .drum, .log] (andDrum (blocks [5])) s0 t)

/-- The trace is read, rewound and marked, gaps are recorded, and statistics windows close -/
def Obligations.TraceAndStatistics : Prop :=
  (∀ (dt : Nat) (s : State), s.belfry.traceLost ≠ 0 → (s.elapse dt).belfry.traceQueue < 128 → 16 ≤ s.reg .BEL_TRACE_SIZE → Completes (.traceGapRecord
    dt) s fun s0 t => t.belfry.traceLost = 0 ∧ t.belfry.trace.getLast?.map (fun r => (r.decision, r.arg, r.seq)) = some (15, clampNat (2 ^ 19 - 1)
    s.belfry.traceLost, s.reg .BEL_TRACE_WRITE_SEQ) ∧ t.reg .BEL_TRACE_WRITE_SEQ = (s.reg .BEL_TRACE_WRITE_SEQ + 1) % 2 ^ 32 ∧ t.out = [] ∧
    OnlyChanges [.belfry, .drum, .log] (andDrum (blocks [5])) s0 t) ∧
  (∀ (dt who : Nat) (s : State), Quiet s → 1 ≤ (s.elapse dt).levelOf who → bitOf (s.reg .BEL_TRACE_FLAGS) 1 = false → s.traceValid (s.reg
    .BEL_TRACE_READ_POS) = true → Completes (.belTraceRead dt who) s fun s0 t => t.out = [.data (leOctets 4 (s.reg .BEL_TRACE_READ_POS) ++ leOctets 2
    ((s.belfry.trace.dropWhile fun r => r.seq != s.reg .BEL_TRACE_READ_POS).take 4096).length ++ leOctets 2 (b2n (bitOf (s.reg .BEL_TRACE_FLAGS) 0))
    ++ (((s.belfry.trace.dropWhile fun r => r.seq != s.reg .BEL_TRACE_READ_POS).take 4096).map fun r => leOctets 16 r.word).flatten)] ∧ t.reg
    .BEL_TRACE_READ_POS = (s.reg .BEL_TRACE_READ_POS + ((s.belfry.trace.dropWhile fun r => r.seq != s.reg .BEL_TRACE_READ_POS).take 4096).length) % 2
    ^ 32 ∧ t.reg .BEL_TRACE_FLAGS % 4 = 0 ∧ OnlyChanges [] (among [.BEL_TRACE_READ_POS, .BEL_TRACE_FLAGS]) s0 t) ∧
  (∀ (dt who : Nat) (s : State), Quiet s → 1 ≤ (s.elapse dt).levelOf who → Completes (.belTraceRewind dt who 1) s fun s0 t => t.reg
    .BEL_TRACE_READ_POS = (if bitOf (s.reg .BEL_TRACE_FLAGS) 2 then s.reg .BEL_TRACE_MARK else s.traceOldest) % 2 ^ 32 ∧ t.out = [.reply 0] ∧
    OnlyChanges [] (among [.BEL_TRACE_READ_POS]) s0 t) ∧
  (∀ (dt who value : Nat) (s : State), Quiet s → 1 ≤ (s.elapse dt).levelOf who → Completes (.belTraceMark dt who value) s fun s0 t => t.reg
    .BEL_TRACE_MARK = value % 2 ^ 32 ∧ bitOf (t.reg .BEL_TRACE_FLAGS) 2 = s.traceValid (value % 2 ^ 32) ∧ t.out = [.reply 0] ∧ OnlyChanges [] (among
    [.BEL_TRACE_MARK, .BEL_TRACE_FLAGS]) s0 t) ∧
  (∀ (dt : Nat) (s : State), Quiet s → s.reg .BEL_STATS_WINDOW ≤ clocksNs (s.ticks + dt - s.belfry.stats.start) → Completes (.statsWindowEnd dt) s fun
    s0 t => t.belfry.stats = BelStats.fresh (s.ticks + dt) ∧ (∀ p ∈ List.range 8, t.reg (.BEL_WAIT_MAX (p + 1)) = clocksNs (nth s.belfry.stats.waitMax
    p 0) % 2 ^ 32 ∧ t.reg (.BEL_WAIT_MEAN (p + 1)) = (if nth s.belfry.stats.waitCount p 0 = 0 then 0 else clocksNs (nth s.belfry.stats.waitSum p 0) /
    nth s.belfry.stats.waitCount p 0) % 2 ^ 32) ∧ t.out = [] ∧ OnlyChanges [.belfry] (entries [0x5102, 0x5103, 0x5104]) s0 t) ∧
  (∀ (dt who value : Nat) (s : State), Quiet s → 1 ≤ (s.elapse dt).levelOf who → inRange .BEL_STATS_WINDOW value = true → Completes (.belStatsWindow
    dt who value) s fun s0 t => t.reg .BEL_STATS_WINDOW = value ∧ t.belfry.stats = BelStats.fresh (s.ticks + dt) ∧ t.out = [.reply 0] ∧ OnlyChanges
    [.belfry] (among [.BEL_STATS_WINDOW]) s0 t)

/-- Cues start, stop, tick, and miss their deadline -/
def Obligations.CuesRunOnTheTick : Prop :=
  (∀ (dt who c : Nat) (s : State), 1 ≤ (s.elapse dt).levelOf who → s.reg .LAN_CUE_GO_CUE = c → s.cueRefusal c = none → s.lantern.stopped.contains (c,
    s.ticks + dt) = false → Completes (.cueGo dt who 1) s fun s0 t => (∃ r ∈ t.lantern.cues, r.cue = c ∧ r.id = s.lantern.nextCue * 256 + c ∧ r.endAt
    = none ∧ r.first = max (if s.reg .LAN_CUE_GO_TIME = 0 then s.lantern.nextTick else s.lampFirst (nsUnits (s.reg .LAN_CUE_GO_TIME)))
    (s.lantern.nextTick + 2)) ∧ t.lantern.nextCue = s.lantern.nextCue + 1 ∧ t.out = [.reply 0] ∧ OnlyChanges [.belfry, .lantern, .drum, .log] (andDrum
    (blocks [5])) s0 t) ∧
  (∀ (dt who c r : Nat) (s : State), Takes s 4 → 1 ≤ (s.elapse dt).levelOf who → s.reg .LAN_CUE_GO_CUE = c → s.cueRefusal c = some r → Completes
    (.cueGo dt who 1) s fun s0 t => Posted t 0x900D 4 (c % 256 + r * 256) ∧ t.out = [.reply 8] ∧ OnlyChanges [.drum, .log] drumRegs s0 t) ∧
  (∀ (dt who c : Nat) (s : State), 1 ≤ (s.elapse dt).levelOf who → c ≤ 255 → Completes (.cueStop dt who c) s fun s0 t => (∀ r ∈ t.lantern.cues, r.cue
    = c → r.endAt ≠ none) ∧ t.lantern.cues.map RunningCue.id = s.lantern.cues.map RunningCue.id ∧ (c, s.ticks + dt) ∈ t.lantern.stopped ∧ t.out =
    [.reply 0] ∧ OnlyChanges [.belfry, .lantern, .drum, .log] (andDrum (blocks [5])) s0 t) ∧
  (∀ (dt : Nat) (s : State), s.lantern.gridOn = true → s.lampStart s.lantern.nextTick ≤ (s.elapse dt).time96 → Completes (.lampTick dt) s fun s0 t =>
    t.lantern.nextTick = s.lantern.nextTick + 1 ∧ t.belfry.skippedTicks = 0 ∧ t.reg (.CMP_FIRED 4) = (s.reg (.CMP_FIRED 4) + 1) % 2 ^ 32 ∧ t.out = []
    ∧ OnlyChanges [.belfry, .clock, .lantern, .drum, .log] (andDrum (blocks [3, 5])) s0 t) ∧
  (∀ (dt : Nat) (s : State), Completes (.cueDeadline dt) s fun s0 t => (∀ o ∈ t.belfry.slots, o.code = 7 → s0.time96 < s.lampStart o.epoch - nsUnits
    10000) ∧ (∀ o ∈ t.belfry.slots, o ∈ s.belfry.slots) ∧ t.out = [] ∧ OnlyChanges [.belfry, .lantern, .drum, .log] (andDrum (fun r => blocks [5] r ||
    entries [0x9600] r)) s0 t)

/-- Layer order changes, previews, the Finial key and the decision registers -/
def Obligations.OrdersPreviewsAndKeys : Prop :=
  (∀ (dt who : Nat) (s : State), Quiet s → 1 ≤ (s.elapse dt).levelOf who → s.reg .CUP_ORDER_CHANGE ≠ 1 → s.orderRefusal = none → Completes
    (.orderChangeRequest dt who) s fun s0 t => t.reg .CUP_ORDER_CHANGE = 1 ∧ t.out = [.reply 0] ∧ OnlyChanges [] (among [.CUP_ORDER_CHANGE]) s0 t) ∧
  (∀ (dt who r : Nat) (s : State), Takes s 4 → 1 ≤ (s.elapse dt).levelOf who → s.reg .CUP_ORDER_CHANGE ≠ 1 → s.orderRefusal = some r → Completes
    (.orderChangeRequest dt who) s fun s0 t => Posted t 0x6002 4 r ∧ t.out = [.reply 8] ∧ OnlyChanges [.drum, .log] drumRegs s0 t) ∧
  (∀ (dt who : Nat) (s : State), Quiet s → 1 ≤ (s.elapse dt).levelOf who → s.reg .CUP_ORDER_CHANGE = 1 → Completes (.orderChangeCancel dt who) s fun
    s0 t => t.reg .CUP_ORDER_CHANGE = 0 ∧ t.out = [.reply 0] ∧ OnlyChanges [] (among [.CUP_ORDER_CHANGE]) s0 t) ∧
  (∀ (dt who : Nat) (s : State), Quiet s → 1 ≤ (s.elapse dt).levelOf who → s.previewRect.area ≤ 524288 → Completes (.previewTake dt who 1) s fun s0 t
    => t.reg .CUP_PREVIEW_TAKE = 1 ∧ t.out = [.reply 0] ∧ OnlyChanges [] (among [.CUP_PREVIEW_TAKE]) s0 t) ∧
  (∀ (dt who e f : Nat) (ws : List Nat) (s : State), Quiet s → 1 ≤ (s.elapse dt).levelOf who → s.cupola.preview = some (e, f, ws) → Completes
    (.cupPreviewRead dt who) s fun s0 t => t.out = [.data (leOctets 2 e ++ leOctets 2 f ++ leOctets 4 ws.length ++ (ws.map fun w => leOctets (if f = 1
    then 4 else 8) w).flatten)] ∧ OnlyChanges [] noRegs s0 t) ∧
  (∀ (dt who : Nat) (key : List Octet) (s : State), Quiet s → 2 ≤ (s.elapse dt).levelOf who → key.length = 32 → Completes (.finialKeyWrite dt who key)
    s fun s0 t => t.idp.finKey = key ∧ t.reg .CUP_FIN_KEY_ID = keyId key ∧ t.out = [.reply 0] ∧ OnlyChanges [.idp] (among [.CUP_FIN_KEY_ID]) s0 t) ∧
  (∀ (dt : Nat) (a b : Decision) (s : State), Takes s 5 → a ≠ b → Completes (.decisionMismatch dt [a.asserted, a.asserted, b.asserted] [a.blanked,
    a.blanked, b.blanked] [a.slots, a.slots, b.slots]) s fun s0 t => t.cupola.decisions = [a, a, a] ∧ t.reg .FINCNT_DECISION_CORRECTED = (s.reg
    .FINCNT_DECISION_CORRECTED + 1) % 2 ^ 32 ∧ Posted t 0x6027 5 2 ∧ t.out = [] ∧ OnlyChanges [.cupola, .drum, .log] (andDrum (entries [0x6209,
    0x620A, 0x6408])) s0 t) ∧
  (∀ (dt : Nat) (a b c : Decision) (s : State), Quiet s → a ≠ b ∧ a ≠ c ∧ b ≠ c → Completes (.decisionMismatch dt [a.asserted, b.asserted, c.asserted]
    [a.blanked, b.blanked, c.blanked] [a.slots, b.slots, c.slots]) s fun s0 t => t.cupola.decisions = List.replicate 3 ⟨a.asserted ||| b.asserted |||
    c.asserted, a.blanked ||| b.blanked ||| c.blanked, a.slots⟩ ∧ Posted t 0x6028 7 (a.asserted ||| b.asserted ||| c.asserted) ∧ t.out = [] ∧
    OnlyChanges [.cupola, .drum, .log] (andDrum (entries [0x6209, 0x620A])) s0 t)

/-- Accepted safety messages keep the channel live, load content, assert and release; silence and disabling act -/
def Obligations.SafetyMessagesAct : Prop :=
  (∀ (dt : Nat) (m : SafetyMessage) (s : State), s.isTarget m = true → s.messageFormat m = true → s.messageTag m = true → (s.elapse dt).messageFresh m
    = true → s.reg .CUP_FIN_STATE ≠ 3 → smKind m = 0 → Completes (.finialHeartbeat dt m) s fun s0 t => t.reg .FINCNT_MSG_ACCEPTED = (s.reg
    .FINCNT_MSG_ACCEPTED + 1) % 2 ^ 32 ∧ t.cupola.lastMessage = some (smAlive m, smIssue m) ∧ t.reg .CUP_FIN_STATE = 2 ∧ t.cupola.lastAccepted =
    s.ticks + dt ∧ t.out = [] ∧ OnlyChanges [.cupola, .drum, .log] (andDrum (entries [0x6208, 0x6408])) s0 t) ∧
  (∀ (dt : Nat) (m : SafetyMessage) (s : State), s.isTarget m = true → s.messageFormat m = true → s.messageTag m = true → (s.elapse dt).messageFresh m
    = true → s.reg .CUP_FIN_STATE ≠ 3 → smKind m = 1 → smCount m < (smRect m).area → s.cupola.content.length = 16 → (nth s.cupola.content (smRegion m)
    []).length = 2 → s.finialSlot (smRegion m) (s.uploadSlot (smRegion m) (smContentId m)) = none → ([0, 1].any fun k => (s.finialSlot (smRegion m)
    k).any fun c => c.contentId == smContentId m) = false → Completes (.finialContent dt m) s fun s0 t => t.reg .FINCNT_MSG_ACCEPTED = (s.reg
    .FINCNT_MSG_ACCEPTED + 1) % 2 ^ 32 ∧ t.cupola.lastMessage = some (smAlive m, smIssue m) ∧ (t.finialSlot (smRegion m) (s.uploadSlot (smRegion m)
    (smContentId m))).map (fun c => (c.contentId, c.rect, c.valid, c.pixels.length)) = some (smContentId m, smRect m, false, (smRect m).area) ∧ t.out
    = [] ∧ OnlyChanges [.cupola, .drum, .log] (andDrum (entries [0x6208, 0x6408])) s0 t) ∧
  (∀ (dt k : Nat) (m : SafetyMessage) (s : State), Takes s 6 → s.isTarget m = true → s.messageFormat m = true → s.messageTag m = true → (s.elapse
    dt).messageFresh m = true → s.reg .CUP_FIN_STATE ≠ 3 → smKind m = 2 → s.epochs = [] → ([0, 1].find? fun k => (s.finialSlot (smRegion m) k).any fun
    c => c.valid && c.contentId == smContentId m) = some k → bitOf s.decision.asserted (smRegion m) = false → (smRegion m, s.ticks + dt) ∉
    s.cupola.released → Completes (.finialAssert dt m) s fun s0 t => t.reg .FINCNT_MSG_ACCEPTED = (s.reg .FINCNT_MSG_ACCEPTED + 1) % 2 ^ 32 ∧
    t.cupola.lastMessage = some (smAlive m, smIssue m) ∧ bitOf t.decision.asserted (smRegion m) = true ∧ bitOf t.decision.blanked (smRegion m) = false
    ∧ t.decision.slots = setNth s.decision.slots (smRegion m) k ∧ Posted t 0x6020 6 (smRegion m + smContentId m * 16) ∧ t.out = [] ∧ OnlyChanges
    [.cupola, .drum, .log] (andDrum (entries [0x6208, 0x6209, 0x620A, 0x6408])) s0 t) ∧
  (∀ (dt : Nat) (m : SafetyMessage) (s : State), Takes s 4 → s.isTarget m = true → s.messageFormat m = true → s.messageTag m = true → (s.elapse
    dt).messageFresh m = true → s.reg .CUP_FIN_STATE ≠ 3 → smKind m = 3 → bitOf s.decision.asserted (smRegion m) = true → Completes (.finialRelease dt
    m) s fun s0 t => t.reg .FINCNT_MSG_ACCEPTED = (s.reg .FINCNT_MSG_ACCEPTED + 1) % 2 ^ 32 ∧ t.cupola.lastMessage = some (smAlive m, smIssue m) ∧
    bitOf t.decision.asserted (smRegion m) = false ∧ Posted t 0x6021 4 (smRegion m) ∧ t.reg (.CUP_FIN_REGION (smRegion m + 1)) = 0 ∧ t.out = [] ∧
    OnlyChanges [.cupola, .drum, .log] (andDrum (entries [0x6208, 0x6209, 0x620A, 0x6408])) s0 t) ∧
  (∀ (dt : Nat) (s : State), Quiet s → s.reg .CUP_FIN_STATE = 2 → s.cupola.lastAccepted + nsClocks (s.reg .CUP_FIN_STALE_MS * 1000000) ≤ s.ticks + dt
    → Completes (.finialStale dt) s fun s0 t => t.reg .CUP_FIN_STATE = 3 ∧ t.reg .FINCNT_STALE = (s.reg .FINCNT_STALE + 1) % 2 ^ 32 ∧ (∀ r ∈
    List.range 16, bitOf s.decision.asserted r = true → s.reg (.CUP_FIN_STALE_ACTION (r + 1)) = 1 → bitOf t.decision.blanked r = true) ∧
    (s.decision.asserted = 0 → s.reg .DRM_MIN_PRIORITY ≤ 6 → Posted t 0x6023 6 0) ∧ OnlyChanges [.belfry, .cupola, .epochs, .spire, .twin, .drum,
    .log] (andDrum (blocks [5, 6, 8])) s0 t) ∧
  (∀ (dt who : Nat) (s : State), 1 ≤ (s.elapse dt).levelOf who → Completes (.finialDisable dt who) s fun s0 t => t.reg .CUP_FIN_ENABLE = 0 ∧ t.reg
    .CUP_FIN_STATE = 0 ∧ (∀ r ∈ List.range 16, bitOf t.decision.asserted r = false) ∧ t.out = [.reply 0] ∧ OnlyChanges [.cupola, .drum, .log] (andDrum
    (entries [0x6200, 0x6208, 0x6209, 0x620A])) s0 t)

/-- Zones follow their temperature, re-blend, scrub and recheck, and a module moves zone -/
def Obligations.ZonesAreBlendedAndChecked : Prop :=
  (∀ (dt z : Nat) (reading : Int) (temps : List (Nat × Nat × Nat)) (s : State), z < 64 → s.cal.zones.length = 64 → (s.zoneModules z).isEmpty = false →
    s.zoneReading z temps = some reading → Completes (.tempPoll dt temps) s fun s0 t => (t.zone z).theta = reading + s.regInt (.CAL_ZONE_OFFSET z) ∧
    bitOf (t.reg (.ZONE_FLAGS z)) 1 = false ∧ t.out = [] ∧ OnlyChanges [.cal, .drum, .log] (andDrum (blocks [7])) s0 t) ∧
  (∀ (dt z : Nat) (s : State), Quiet s → z < 64 → s.cal.zones.length = 64 → (s.zoneModules z).isEmpty = false → (s.zone z).lastPass + nsClocks (s.reg
    .CAL_REFRESH_S * 1000000000) ≤ s.ticks + dt → Completes (.calRefreshDue dt z) s fun s0 t => t.zone z = { s.zone z with requested := true } ∧ t.out
    = [] ∧ OnlyChanges [.cal] noRegs s0 t) ∧
  (∀ (dt z : Nat) (s : State), z < 64 → s.cal.zones.length = 64 → (s.zone z).requested = true ∧ (s.zone z).pass = none ∧ (s.zone z).ready = false →
    (s.zoneModules z).isEmpty = false → s.slotsForBackground = true → s.inPair = false → Completes (.reblendPassStart dt z) s fun s0 t => (t.zone
    z).pass = some (s.zone z).theta ∧ (t.zone z).requested = false ∧ (t.zone z).opsLeft = max 1 ((s.passClocks z + 4095) / 4096) ∧ bitOf (t.reg
    (.ZONE_FLAGS z)) 2 = true ∧ t.out = [] ∧ OnlyChanges [.belfry, .cal, .drum, .log] (andDrum (blocks [5, 7])) s0 t) ∧
  (∀ (dt z : Nat) (theta : Int) (s : State), z < 64 → s.cal.zones.length = 64 → (s.zone z).pass = some theta → (s.zone z).opsLeft = 0 → Completes
    (.reblendPassComplete dt z) s fun s0 t => (t.zone z).ready = true ∧ (t.zone z).pass = none ∧ (t.zone z).blendTheta = theta ∧ (t.zone z).lastPass =
    s.ticks + dt ∧ t.reg .CALCNT_PASSES = (s.reg .CALCNT_PASSES + 1) % 2 ^ 32 ∧ t.reg (.ZONE_PASSES z) = (s.reg (.ZONE_PASSES z) + 1) % 2 ^ 32 ∧ t.out
    = [] ∧ OnlyChanges [.cal, .spire, .drum, .log] (andDrum (fun r => blocks [7] r || entries [0xF010] r)) s0 t) ∧
  (∀ (dt : Nat) (s : State), Completes (.scrubPeriod dt) s fun s0 t => t.cal.scrub.length + (t.belfry.slots.filter fun o => o.code == 9).length =
    (s.cal.modules.map fun c => c.copyA.length).sum + (s.belfry.slots.filter fun o => o.code == 9).length ∧ t.out = [] ∧ OnlyChanges [.belfry, .cal,
    .drum, .log] (andDrum (blocks [5])) s0 t) ∧
  (∀ (dt link module : Nat) (page : List Octet) (c : CalModule) (s : State), Takes s 3 → link < 64 ∧ 1 ≤ module ∧ module ≤ 32 → s.calModule link
    module = some c → Completes (.headerRecheck dt [(link, module, page)]) s fun s0 t => (if pageOk page = true ∧ ((calHeader (imagePage c.copyA
    0)).moduleId ≠ (calHeader page).moduleId ∨ (calHeader (imagePage c.copyA 0)).revision ≠ (calHeader page).revision ∨ (calHeader (imagePage c.copyA
    0)).check ≠ (calHeader page).check) then t.reg (.CAL_MODULE_STATUS link module) = ((calHeader (imagePage c.copyA 0)).revision + 65536 + c.slot * 2
    ^ 18) % 2 ^ 32 ∧ Posted t 0x700C 3 (link + module * 64) else t.dict = s.dict ∧ t.drum = s.drum) ∧ t.out = [] ∧ OnlyChanges [.drum, .log] (andDrum
    (fun r => among [.CAL_MODULE_STATUS link module] r || among [.CAL_STATE] r)) s0 t) ∧
  (∀ (dt who link module zone : Nat) (s : State), Quiet s → 1 ≤ (s.elapse dt).levelOf who → link < 64 ∧ 1 ≤ module ∧ module ≤ 32 ∧ zone < 64 →
    Completes (.moduleZoneWrite dt who link module zone) s fun s0 t => t.reg (.CAL_MODULE_ZONE link module) = zone ∧ (s.enumerated.contains (link,
    module) = true → s.zoneOf link module ≠ zone → s.cal.zones.length = 64 → (t.zone zone).requested = true ∧ (t.zone zone).partner = some (s.zoneOf
    link module)) ∧ t.out = [.reply 0] ∧ OnlyChanges [.cal] (among [.CAL_MODULE_ZONE link module]) s0 t)

/-- Images are fetched, spares committed, recalibrations compared and aborted, and trims measured -/
def Obligations.ImagesSparesAndTrims : Prop :=
  (∀ (dt link module : Nat) (d : SpireModule) (reads : List (List Octet × Nat)) (s : State), link < 64 ∧ 1 ≤ module ∧ module ≤ 32 → (s.link
    link).modules[module - 1]? = some d → d.hasCal = true → s.calModule link module = none → Completes (.calFetch dt link module reads) s fun s0 t =>
    (s.fetchRefusal link module (reads.map Prod.fst) ((List.range reads.length).filter fun i => !pageOk (imagePage (reads.map Prod.fst) i)) = none →
    (t.calModule link module).map (fun c => (c.copyA, c.copyB, c.fetched)) = some (reads.map Prod.fst, reads.map Prod.fst, true) ∧ t.reg
    (.CAL_MODULE_STATUS link module) / 65536 % 4 = 2) ∧ (∀ r ∈ (s.fetchRefusal link module (reads.map Prod.fst) ((List.range reads.length).filter fun
    i => !pageOk (imagePage (reads.map Prod.fst) i))).toList, t.calModule link module = none ∧ t.reg (.CAL_MODULE_STATUS link module) = (3 * 65536 + r
    * 2 ^ 24) % 2 ^ 32) ∧ t.out = [] ∧ OnlyChanges [.belfry, .cal, .drum, .log] (andDrum (blocks [5, 7])) s0 t) ∧
  (∀ (dt who link module pixel v : Nat) (c : CalModule) (s : State), Takes s 4 → 1 ≤ (s.elapse dt).levelOf who → s.reg (.CAL_SPARE_CMD 1) = link ∧
    s.reg (.CAL_SPARE_CMD 2) = module ∧ s.reg (.CAL_SPARE_CMD 3) = pixel ∧ s.reg (.CAL_SPARE_CMD 4) = v → s.calModule link module = some c → pixel <
    (calHeader (imagePage c.copyA 0)).pixels → v < 3 → hasSet c.copyA pixel v = true → selectorOctet c.copyA pixel % 4 ≠ v → Completes
    (.calSpareCommit dt who 1) s fun s0 t => t.calModule link module = some
    { c with copyA := setSelector c.copyA pixel (selectorOctet c.copyA pixel - selectorOctet c.copyA pixel % 4 + v), copyB := setSelector c.copyB pixel (selectorOctet c.copyA pixel - selectorOctet c.copyA pixel % 4 + v) }
    ∧ (link, module, (selectorPlace c.copyA pixel).1) ∈ t.cal.writebacks ∧ t.reg .CALCNT_SPARE_SWITCHES = (s.reg .CALCNT_SPARE_SWITCHES + 1) % 2 ^ 32
    ∧ Posted t 0x7008 4 (link + module * 64 + pixel * 4096 + v * 2 ^ 26) ∧ t.out = [.reply 0] ∧ OnlyChanges [.cal, .drum, .log] (andDrum (entries
    [0x7800])) s0 t) ∧
  (∀ (dt who : Nat) (image : List Octet) (s : State), 2 ≤ (s.elapse dt).levelOf who → s.cal.recal = none → Completes (.recalPass2Complete dt who
    image) s fun s0 t => t.cal.pass2 = image ∧ (t.reg .CAL_RECAL_STATUS = 4 ∧ t.cal.recal = none ∨ t.reg .CAL_RECAL_STATUS = 2 ∧ t.cal.recal.any (fun
    r => r.committing) = true) ∧ (s.calModule (s.reg (.CAL_RECAL_TARGET 1)) (s.reg (.CAL_RECAL_TARGET 2)) = none → t.reg .CAL_RECAL_STATUS = 4) ∧
    t.out = [.reply 0] ∧ OnlyChanges [.cal, .spire, .drum, .log] (andDrum (entries [0x7410])) s0 t) ∧
  (∀ (dt who : Nat) (r : Recal) (s : State), Takes s 4 → 2 ≤ (s.elapse dt).levelOf who → s.cal.recal = some r → Completes (.recalAbort dt who) s fun
    s0 t => t.cal.recal = none ∧ t.reg .CAL_RECAL_STATUS = 4 ∧ Posted t 0x700B 4 (r.link + r.module * 64 + 6 * 4096) ∧ t.out = [.reply 0] ∧
    OnlyChanges [.cal, .spire, .drum, .log] (andDrum (entries [0x7410])) s0 t) ∧
  (∀ (dt who : Nat) (s : State), Quiet s → 2 ≤ (s.elapse dt).levelOf who → ((List.range 512).any fun n => s.flag (.LAN_CH_ENABLE n)) = false → s.reg
    .CAL_TRIM_WRITES < 990 → Completes (.trimMeasure dt who 1) s fun s0 t => t.reg .CAL_TRIM_MEASURE = 1 ∧ t.out = [.reply 0] ∧ OnlyChanges [] (among
    [.CAL_TRIM_MEASURE]) s0 t) ∧
  (∀ (dt who : Nat) (s : State), Quiet s → 2 ≤ (s.elapse dt).levelOf who → ((List.range 512).any fun n => s.flag (.LAN_CH_ENABLE n)) = true ∨ 990 ≤
    s.reg .CAL_TRIM_WRITES → Completes (.trimMeasure dt who 1) s fun s0 t => t.reg .CAL_TRIM_MEASURE = 3 ∧ t.out = [.reply 8] ∧ OnlyChanges [] (among
    [.CAL_TRIM_MEASURE]) s0 t) ∧
  (∀ (dt : Nat) (first second : List (List Nat)) (s : State), s.reg .CAL_TRIM_MEASURE = 1 → s.acceptsTrims first second = true → Completes
    (.trimMeasureDone dt first second) s fun s0 t => t.reg .CAL_TRIM_MEASURE = 2 ∧ t.reg .CAL_TRIM_WRITES = (s.reg .CAL_TRIM_WRITES + 2) % 2 ^ 32 ∧
    t.fresh = s.fresh + 512 ∧ t.cal.trims.length = 2 ∧ t.cal.trims.all trimOk = true ∧ t.out = [] ∧ OnlyChanges [.cal, .fresh, .drum, .log] (andDrum
    (blocks [7])) s0 t)

/-- Maps and timing modes are requested, refused, cancelled and take effect; genlock edges anchor, move or are rejected -/
def Obligations.MapsModesAndGenlock : Prop :=
  (∀ (dt who : Nat) (s : State), Quiet s → 1 ≤ (s.elapse dt).levelOf who → s.reg .SCN_MAP_CHANGE ≠ 1 → s.mapRefusal s.scan.mapAdmin ((List.range
    512).map fun k => s.reg (.SCN_LAMP_MAP_ADMIN (k + 1))) = none → Completes (.mapChangeRequest dt who) s fun s0 t => t.reg .SCN_MAP_CHANGE = 1 ∧
    t.out = [.reply 0] ∧ OnlyChanges [] (among [.SCN_MAP_CHANGE]) s0 t) ∧
  (∀ (dt who r k : Nat) (s : State), Takes s 4 → 1 ≤ (s.elapse dt).levelOf who → s.reg .SCN_MAP_CHANGE ≠ 1 → s.mapRefusal s.scan.mapAdmin ((List.range
    512).map fun k => s.reg (.SCN_LAMP_MAP_ADMIN (k + 1))) = some (r, k) → Completes (.mapChangeRequest dt who) s fun s0 t => Posted t 0x8004 4 (r + k
    * 16) ∧ t.out = [.reply 8] ∧ OnlyChanges [.drum, .log] drumRegs s0 t) ∧
  (∀ (dt who : Nat) (s : State), Quiet s → 1 ≤ (s.elapse dt).levelOf who → s.reg .SCN_MAP_CHANGE = 1 → Completes (.mapChangeCancel dt who) s fun s0 t
    => t.reg .SCN_MAP_CHANGE = 0 ∧ t.out = [.reply 0] ∧ OnlyChanges [] (among [.SCN_MAP_CHANGE]) s0 t) ∧
  (∀ (dt who : Nat) (s : State), Quiet s → 1 ≤ (s.elapse dt).levelOf who → s.reg .SCN_MODE_CHANGE ≠ 1 → s.modeRefusal = none → Completes
    (.modeChangeRequest dt who) s fun s0 t => t.reg .SCN_MODE_CHANGE = 1 ∧ t.scan.modeAt = some (if s.epochs.isEmpty then s0.time96 else s.gridAt
    (s.gridFirst (s0.time96 + 1))) ∧ t.out = [.reply 0] ∧ OnlyChanges [.scan] (among [.SCN_MODE_CHANGE]) s0 t) ∧
  (∀ (dt who r : Nat) (s : State), Takes s 4 → 1 ≤ (s.elapse dt).levelOf who → s.reg .SCN_MODE_CHANGE ≠ 1 → s.modeRefusal = some r → Completes
    (.modeChangeRequest dt who) s fun s0 t => Posted t 0x8002 4 r ∧ t.out = [.reply 8] ∧ OnlyChanges [.drum, .log] drumRegs s0 t) ∧
  (∀ (dt who : Nat) (s : State), Quiet s → 1 ≤ (s.elapse dt).levelOf who → s.reg .SCN_MODE_CHANGE = 1 → Completes (.modeChangeCancel dt who) s fun s0
    t => t.reg .SCN_MODE_CHANGE = 0 ∧ t.scan.modeAt = none ∧ t.out = [.reply 0] ∧ OnlyChanges [.scan] (among [.SCN_MODE_CHANGE]) s0 t) ∧
  (∀ (dt a : Nat) (s : State), s.reg .SCN_MODE_CHANGE = 1 → s.scan.modeAt = some a → a ≤ (s.elapse dt).time96 → (s.epochs.map Epoch.epoch).Nodup →
    Completes (.modeChangeEffect dt) s fun s0 t => t.reg .SCN_MODE_CHANGE = 0 ∧ (∀ p ∈ modeRegs, t.reg p.2 = s.reg p.1 % 2 ^ dictBits p.2) ∧
    t.scan.modeAt = none ∧ t.scan.newMode = some false ∧ t.scan.gridRef = t.newGridRef ∧ (∀ e ∈ t.epochs, e.stage ≠ .live) ∧ t.reg
    .SCNCNT_MODE_CHANGES = (s.reg .SCNCNT_MODE_CHANGES + 1) % 2 ^ 32 ∧ OnlyChanges [.belfry, .clock, .epochs, .ocu, .scan, .spire, .twin, .drum, .log]
    (andDrum (blocks [3, 5, 8, 10])) s0 t) ∧
  (∀ (dt : Nat) (s : State), s.scan.gridOn = true → s.reg .SCN_GENLOCK_OPER = 1 → s.clock.stepped = true → s.reg (.TCK_BELL_DIR (s.reg
    .SCN_GENLOCK_PIN_OPER + 1)) = 0 → s.scan.anchored = false → Completes (.genlockEdge dt) s fun s0 t => t.scan.anchored = true ∧ t.scan.lastEdge =
    some s0.time96 ∧ t.scan.edgesLost = false ∧ t.reg .SCNCNT_GENLOCK_EDGES = (s.reg .SCNCNT_GENLOCK_EDGES + 1) % 2 ^ 32 ∧ t.out = [] ∧ OnlyChanges
    [.scan, .drum, .log] (andDrum (entries [0x8400])) s0 t) ∧
  (∀ (dt : Nat) (err : Int) (s : State), s.scan.gridOn = true → s.reg .SCN_GENLOCK_OPER = 1 → s.clock.stepped = true → s.reg (.TCK_BELL_DIR (s.reg
    .SCN_GENLOCK_PIN_OPER + 1)) = 0 → s.scan.anchored = true → err = ((s.elapse dt).time96 : Int) + s.regInt .SCN_GENLOCK_DELAY_OPER * 2 ^ 32 -
    s.gridAt (s.nearestFrame (((s.elapse dt).time96 : Int) + s.regInt .SCN_GENLOCK_DELAY_OPER * 2 ^ 32).toNat) → 1000 * err.natAbs ≤ s.framePeriod →
    err.natAbs ≤ nsUnits 50000 → Completes (.genlockEdge dt) s fun s0 t => t.scan.gridRef = ((s.scan.gridRef : Int) + clampInt (-(nsUnits (s.reg
    .SCN_GENLOCK_SLEW_OPER) : Int)) (nsUnits (s.reg .SCN_GENLOCK_SLEW_OPER)) err).toNat ∧ t.scan.edgeErrors = 0 ∧ t.scan.lastEdge = some s0.time96 ∧
    t.reg .SCNCNT_GENLOCK_EDGES = (s.reg .SCNCNT_GENLOCK_EDGES + 1) % 2 ^ 32 ∧ t.out = [] ∧ OnlyChanges [.scan, .drum, .log] (andDrum (entries
    [0x8400])) s0 t) ∧
  (∀ (dt : Nat) (err : Int) (s : State), s.scan.gridOn = true → s.reg .SCN_GENLOCK_OPER = 1 → s.clock.stepped = true → s.reg (.TCK_BELL_DIR (s.reg
    .SCN_GENLOCK_PIN_OPER + 1)) = 0 → s.scan.anchored = true → err = ((s.elapse dt).time96 : Int) + s.regInt .SCN_GENLOCK_DELAY_OPER * 2 ^ 32 -
    s.gridAt (s.nearestFrame (((s.elapse dt).time96 : Int) + s.regInt .SCN_GENLOCK_DELAY_OPER * 2 ^ 32).toNat) → s.framePeriod < 1000 * err.natAbs →
    Completes (.genlockEdge dt) s fun s0 t => t.reg .SCNCNT_GENLOCK_REJECTED = (s.reg .SCNCNT_GENLOCK_REJECTED + 1) % 2 ^ 32 ∧ t.out = [] ∧
    OnlyChanges [.drum, .log] (andDrum (entries [0x8400])) s0 t) ∧
  (∀ (dt : Nat) (s : State), Takes s 5 → s.scan.gridOn = true → s.reg .SCN_GENLOCK_OPER = 1 → s.clock.stepped = true → s.scan.edgesLost = false →
    s.scan.lastEdge.getD s.scan.gridRef + 3 * s.framePeriod ≤ (s.elapse dt).time96 → Completes (.genlockLoss dt) s fun s0 t => t.scan =
    { s.scan with edgesLost := true } ∧ Posted t 0x8021 5 (s.reg .SCN_GENLOCK_PIN_OPER) ∧ t.out = [] ∧ OnlyChanges [.scan, .drum, .log] drumRegs s0 t)

/-- At T_c an epoch is committed or withheld, at T_s its links wait, the STRIKE leaves, and at T_p it is shown -/
def Obligations.EpochsAreDecidedStruckAndShown : Prop :=
  (∀ (dt : Nat) (poisoned : List Nat) (e : Epoch) (s : State), s.oldest = some e → e.tc ≤ (s.elapse dt).time96 → (s.epochs.map Epoch.epoch).Nodup →
    Completes (.commitInstant dt poisoned) s fun s0 t => (∀ x ∈ t.epochs, x.epoch = e.epoch → x.uncommitted = false) ∧ t.epochs.map Epoch.epoch =
    s.epochs.map Epoch.epoch ∧ (∀ o ∈ t.belfry.slots, ¬(o.code < 7 ∧ o.epoch = e.epoch)) ∧ t.reg (.CMP_FIRED 0) = (s.reg (.CMP_FIRED 0) + 1) % 2 ^ 32
    ∧ (e.stage = .live → s.reg .SCN_WITHHOLD_POLICY = 0 → (((List.range 64).filter s.linkActive).any fun k => !(s.loadOf e k).acknowledged) = true → ∀
    x ∈ t.epochs, x.epoch = e.epoch → x.stage = .withheld) ∧ (e.stage = .live → ((List.range 64).filter s.linkActive).all (fun k => (s.loadOf e
    k).acknowledged) = true → ∀ x ∈ t.epochs, x.epoch = e.epoch → x.stage = .committed ((List.range 64).filter s.linkActive)) ∧ OnlyChanges [.belfry,
    .clock, .epochs, .fresh, .scan, .spire, .drum, .log] (andDrum (blocks [3, 5, 6, 8])) s0 t) ∧
  (∀ (dt : Nat) (e : Epoch) (links : List Nat) (s : State), s.toStrike = some (e, links) → e.struck = [] → e.tp - strikeLead ≤ (s.elapse dt).time96 →
    (links.any fun k => (s.link k).strikeWait.isSome) = false → s.spire.length = 64 → links.all (fun k => Nat.blt k 64) = true → Completes
    (.strikeReference dt) s fun s0 t => (∀ k ∈ links, (t.link k).strikeWait = some (e.epoch, 2 * (s.ticks + dt) + (4096 - s.strikeDelay k - (s0.time96
    - (e.tp - strikeLead)) * 100 / (64 * 2 ^ 32)))) ∧ t.reg (.CMP_FIRED 1) = (s.reg (.CMP_FIRED 1) + 1) % 2 ^ 32 ∧ t.out = [] ∧ OnlyChanges [.clock,
    .spire, .drum, .log] (andDrum (blocks [3])) s0 t) ∧
  (∀ (dt k off n due : Nat) (s : State), k < 64 → s.spire.length = 64 → (s.link k).strikeWait = some (n, due) → due ≤ 2 * (s.ticks + dt) + 1 → off ≤
    65 → Completes (.strikeLeave dt k off) s fun s0 t => t.out = [0, 1, 2].map (fun i => Output.block k (controlBlock 0x30 [off + 66 * (2 - i),
    s.claim, n % 256, n / 256, i * 16 + (s.link k).gen n, b2n (s.link k).applyDelay])) ∧ (t.link k).strikeWait = none ∧ (t.link k).lastStruck = some n
    ∧ t.reg (.SPLCNT_STRIKES k) = (s.reg (.SPLCNT_STRIKES k) + 1) % 2 ^ 32 ∧ (∀ x ∈ t.epochs, x.epoch = n → k ∈ x.struck) ∧ OnlyChanges [.cupola,
    .epochs, .fresh, .scan, .spire, .sys, .drum, .log] (andDrum (blocks [6, 8, 13, 15])) s0 t) ∧
  (∀ (dt : Nat) (e : Epoch) (s : State), s.toPresent = some e → e.tp ≤ (s.elapse dt).time96 → e.struck = [] → Completes (.presentationInstant dt) s
    fun s0 t => (∀ x ∈ t.epochs, x.epoch ≠ e.epoch) ∧ t.ingest.lastShown = e.shownLayers ∧ OnlyChanges [.belfry, .epochs, .ingest, .lantern, .ocu,
    .smap, .twin, .drum, .log] (andDrum (blocks [8, 9, 10, 12, 13])) s0 t) ∧
  (∀ (dt : Nat) (e : Epoch) (s : State), s.toPresent = some e → e.tp ≤ (s.elapse dt).time96 → e.struck ≠ [] → Completes (.presentationInstant dt) s
    fun s0 t => (∀ x ∈ t.epochs, (x.epoch = e.epoch → x.shown = true) ∧ (x.epoch ≠ e.epoch → x.shown = false)) ∧ t.ingest.lastShown = e.shownLayers ∧
    OnlyChanges [.belfry, .epochs, .ingest, .lantern, .ocu, .smap, .twin, .drum, .log] (andDrum (blocks [8, 9, 10, 12, 13])) s0 t)

/-- Links gain and lose lock, enumerate and measure -/
def Obligations.LinksTrain : Prop :=
  (∀ (dt k : Nat) (s : State), Quiet s → k < 64 → s.spire.length = 64 → Completes (.blockLockGained dt k) s fun s0 t => (t.link k).locked = true ∧
    t.reg (.SPL_STATE k) = (if s.reg (.SPL_STATE k) = 1 ∧ (s.link k).resting = false then 2 else s.reg (.SPL_STATE k)) ∧ t.out = [] ∧ OnlyChanges
    [.spire] (among [.SPL_STATE k]) s0 t) ∧
  (∀ (dt k errors : Nat) (s : State), k < 64 → s.spire.length = 64 → 2 ≤ s.reg (.SPL_STATE k) → Completes (.blockLockLost dt k errors) s fun s0 t =>
    (t.link k).locked = false ∧ (t.link k).resting = true ∧ (t.link k).modules = [] ∧ t.reg (.SPL_STATE k) = 1 ∧ t.reg (.SPL_DOWN_CAUSE k) = 1 ∧ t.reg
    (.SPLCNT_LOCK_LOSS k) = (s.reg (.SPLCNT_LOCK_LOSS k) + 1) % 2 ^ 32 ∧ OnlyChanges [.bridge, .cal, .idp, .smap, .spire, .drum, .log] (andDrum
    (blocks [7, 8, 12])) s0 t) ∧
  (∀ (dt k : Nat) (s : State), Quiet s → k < 64 → s.spire.length = 64 → s.reg (.SPL_STATE k) = 2 → (s.link k).lockSince + nsTicks 1000000 ≤ s.ticks +
    dt → Completes (.linkLockHeld dt k) s fun s0 t => t.reg (.SPL_STATE k) = 3 ∧ (t.link k).enumSince = s.ticks + dt ∧ t.out = [.block k (controlBlock
    0x40 [0, s.claim])] ∧ OnlyChanges [.spire] (among [.SPL_STATE k]) s0 t) ∧
  (∀ (dt k n : Nat) (v : List Nat) (block : List Octet) (s : State), Quiet s → k < 64 → s.spire.length = 64 → parseBlock block = some v → nth v 0 0 =
    0x52 ∧ nth v 1 0 = n → n ≤ 32 → s.reg (.SPL_STATE k) = 3 → (s.link k).modules = [] → Completes (.enumEndReceive dt k block) s fun s0 t => (t.link
    k).modules = List.replicate n SpireModule.reset ∧ t.reg (.SPL_MODULES k) = n ∧ (t.link k).txns.length = (s.link k).txns.length + n ∧ t.out = [] ∧
    OnlyChanges [.spire] (among [.SPL_MODULES k]) s0 t) ∧
  (∀ (dt k : Nat) (s : State), Takes s 5 → k < 64 → s.spire.length = 64 → s.reg (.SPL_STATE k) = 3 → (s.link k).modules = [] → (s.link k).enumSince +
    nsTicks 5000000 ≤ s.ticks + dt → (s.link k).lock = none ∧ (s.link k).waiting = [] ∧ (s.link k).reads = [] ∧ (s.link k).txns = [] → Completes
    (.enumTimeout dt k) s fun s0 t => t.reg (.SPL_STATE k) = 1 ∧ t.reg (.SPL_DOWN_CAUSE k) = 2 ∧ (t.link k).resting = true ∧ (t.link k).downSince =
    s.ticks + dt ∧ Posted t 0x8802 5 (k + 2 * 64) ∧ t.out = [] ∧ OnlyChanges [.spire, .drum, .log] (andDrum (blocks [8])) s0 t) ∧
  (∀ (dt k rtt : Nat) (v : List Nat) (block : List Octet) (m : SpireModule) (s : State), Quiet s → k < 64 → s.spire.length = 64 → parseBlock block =
    some v → nth v 0 0 = 0x51 → (s.link k).measuring = true → (s.link k).echoWait = some (nth v 1 0 % 32 + 1, nth v 2 0 + 256 * nth v 3 0) → s.module
    k (nth v 1 0 % 32 + 1) = some m → m.samples.length < 15 → Completes (.echoReplyReceive dt k block rtt) s fun s0 t => (t.module k (nth v 1 0 % 32 +
    1)).map SpireModule.samples = some (m.samples ++ [(rtt : Int) - 48 - 56 - m.turnaround - (nth v 4 0 + 256 * nth v 5 0 : Nat) + ((s.link
    k).modules.take (nth v 1 0 % 32)).foldl (fun (a : Int) j => a + (j.fwdDown : Int) - (j.fwdUp : Int)) 0]) ∧ t.out = [.block k (controlBlock 0x41
    [nth v 1 0 % 32, s.claim, (s.link k).echoSeq % 256, (s.link k).echoSeq / 256])] ∧ OnlyChanges [.spire] noRegs s0 t) ∧
  (∀ (dt k : Nat) (s : State), Quiet s → k < 64 → s.spire.length = 64 → (s.link k).resting = true → (s.link k).downSince + nsTicks (1000000 * s.reg
    .SPL_RETRAIN_MS) ≤ s.ticks + dt → Completes (.retrainWaitEnd dt k) s fun s0 t => (t.link k).resting = false ∧ t.reg (.SPL_STATE k) = (if s.reg
    (.SPL_STATE k) = 1 ∧ (s.link k).locked = true then 2 else s.reg (.SPL_STATE k)) ∧ t.out = [] ∧ OnlyChanges [.spire] (among [.SPL_STATE k]) s0 t) ∧
  (∀ (dt k : Nat) (s : State), Quiet s → k < 64 → s.spire.length = 64 → s.reg (.SPL_STATE k) = 5 → (s.link k).measuring = false → (s.link k).modules ≠
    [] → (s.link k).measuredAt + s.reg .SPL_MEASURE_S * 781250000 ≤ s.ticks + dt → Completes (.remeasureDue dt k) s fun s0 t => (t.link k).measuring =
    true ∧ (t.link k).echoWait = some (1, (s.link k).echoSeq) ∧ t.out = [.block k (controlBlock 0x41 [0, s.claim, (s.link k).echoSeq % 256, (s.link
    k).echoSeq / 256])] ∧ OnlyChanges [.spire] noRegs s0 t)

/-- Link frames leave, are acknowledged or sent again, and upstream frames are granted and answered -/
def Obligations.LinkFramesAreSentAndAnswered : Prop :=
  (∀ (dt k starved corrected module seg : Nat) (last : Bool) (fills : List Nat) (e : Epoch) (x : LinkEpoch) (rest : List (Nat × Nat × Bool)) (s :
    State), k < 64 → s.spire.length = 64 → (s.elapse dt).linkBusy k = false → s.reg (.SPL_STATE k) = 5 → s.nextLoad k = some (e, x) → x.toSend =
    (module, seg, last) :: rest → s.segmentReady e k module seg = true → Completes (.linkFrameStart dt k 0 fills starved corrected false) s fun s0 t
    => t.out.length = 1 ∧ (t.link k).waiting.length = (s.link k).waiting.length + 1 ∧ (t.link k).waiting.getLast?.map (fun f => (f.kind, f.module,
    f.number, f.segment, f.last, f.sentAt)) = some (0, module, e.epoch, seg, last, s.ticks + dt) ∧ t.reg (.SPLCNT_FRAMES_SENT k) = (s.reg
    (.SPLCNT_FRAMES_SENT k) + 1) % 2 ^ 32 ∧ OnlyChanges [.epochs, .spire, .drum, .log] (andDrum (fun r => blocks [8] r || entries [0xA080] r)) s0 t) ∧
  (∀ (dt k starved corrected : Nat) (double : Bool) (fills : List Nat) (p : Nat × RegTxn) (rest : List (Nat × RegTxn)) (s : State), k < 64 →
    s.spire.length = 64 → (s.elapse dt).linkBusy k = false → 3 ≤ s.reg (.SPL_STATE k) → ((s.link k).waiting.filter fun f => f.kind == 1).length < 8 →
    (s.link k).sendable = p :: rest → Completes (.linkFrameStart dt k 1 fills starved corrected double) s fun s0 t => t.out = [.linkFrame k (sofBlock
    s.claim (⟨1, p.1, ((s.module k p.1).map SpireModule.seq).getD 0, 0, 0, false, 0, s.ticks + dt, (txnOctets p.2).length / 8, [p.2]⟩ : SpireFrame))
    (txnOctets p.2) (eofBlock ((txnOctets p.2).length / 8) (frameCheck (sofBlock s.claim (⟨1, p.1, ((s.module k p.1).map SpireModule.seq).getD 0, 0,
    0, false, 0, s.ticks + dt, (txnOctets p.2).length / 8, [p.2]⟩ : SpireFrame)) (txnOctets p.2) ((txnOctets p.2).length / 8)))] ∧ (t.link k).waiting
    = (s.link k).waiting ++ [(⟨1, p.1, ((s.module k p.1).map SpireModule.seq).getD 0, 0, 0, false, 0, s.ticks + dt, (txnOctets p.2).length / 8, [p.2]⟩
    : SpireFrame)] ∧ (t.link k).txns = (s.link k).txns.erase p ∧ t.reg (.SPLCNT_FRAMES_SENT k) = (s.reg (.SPLCNT_FRAMES_SENT k) + 1) % 2 ^ 32 ∧
    OnlyChanges [.spire, .drum, .log] (andDrum (blocks [8])) s0 t) ∧
  (∀ (dt k : Nat) (v : List Nat) (block : List Octet) (f : SpireFrame) (s : State), k < 64 → s.spire.length = 64 → parseBlock block = some v → nth v 0
    0 = 0x50 ∧ nth v 5 0 / 16 = 0 → (s.link k).waiting = [f] → f.kind = 1 ∧ nth v 1 0 = 32 + (f.module - 1) ∧ 1 ≤ f.module ∧ f.module ≤ 32 → f.number
    = nth v 2 0 + 256 * nth v 3 0 → Completes (.dackReceive dt k block) s fun s0 t => (t.link k).waiting = [] ∧ OnlyChanges [.bridge, .idp, .smap,
    .spire, .drum, .log] (andDrum (entries [0xC600])) s0 t) ∧
  (∀ (dt k : Nat) (v : List Nat) (block : List Octet) (f : SpireFrame) (s : State), k < 64 → s.spire.length = 64 → parseBlock block = some v → nth v 0
    0 = 0x50 ∧ nth v 5 0 / 16 = 1 → (s.link k).waiting = [f] → f.kind = 1 ∧ nth v 1 0 = 32 + (f.module - 1) ∧ 1 ≤ f.module ∧ f.module ≤ 32 → f.number
    = nth v 2 0 + 256 * nth v 3 0 → f.resends < s.reg .SPL_RETRIES → Completes (.dackReceive dt k block) s fun s0 t => (t.link k).waiting =
    [{ f with resends := f.resends + 1, sentAt := s.ticks + dt }] ∧ t.out.length = 1 ∧ t.reg (.SPLCNT_DACK_CHECK_FAIL k) = (s.reg
    (.SPLCNT_DACK_CHECK_FAIL k) + 1) % 2 ^ 32 ∧ t.reg (.SPLCNT_FRAMES_RESENT k) = (s.reg (.SPLCNT_FRAMES_RESENT k) + 1) % 2 ^ 32 ∧ OnlyChanges
    [.spire, .drum, .log] (andDrum (blocks [8])) s0 t) ∧
  (∀ (dt k : Nat) (v : List Nat) (block : List Octet) (f : SpireFrame) (x : LinkEpoch) (s : State), k < 64 → s.spire.length = 64 → parseBlock block =
    some v → nth v 0 0 = 0x50 ∧ nth v 5 0 / 16 = 0 ∧ bitOf (nth v 6 0) 0 = true → (s.link k).waiting = [f] → f.kind = 0 ∧ nth v 1 0 = f.module - 1 ∧ 1
    ≤ f.module ∧ f.module ≤ 32 ∧ f.segment = nth v 4 0 ∧ f.gen = nth v 5 0 % 16 → f.number = nth v 2 0 + 256 * nth v 3 0 → (s.link k).epochs = [x] →
    x.epoch = f.number → Completes (.dackReceive dt k block) s fun s0 t => (t.link k).waiting = [] ∧ (∀ y ∈ (t.link k).epochs, y.complete.contains
    f.module = true) ∧ (t.link k).epochs.length = 1 ∧ OnlyChanges [.spire, .twin, .drum, .log] (andDrum (blocks [13])) s0 t) ∧
  (∀ (dt k : Nat) (f : SpireFrame) (s : State), k < 64 → s.spire.length = 64 → (s.link k).waiting = [f] → (s.link k).reqs = [] → f.kind = 1 →
    f.resends < s.reg .SPL_RETRIES → f.sentAt + frameClocks f.blocks + nsTicks (s.reg .SPL_ACK_TIMEOUT) ≤ s.ticks + dt → Completes (.ackTimeout dt k)
    s fun s0 t => (t.link k).waiting = [{ f with resends := f.resends + 1, sentAt := s.ticks + dt }] ∧ t.out.length = 1 ∧ t.reg (.SPLCNT_ACK_TIMEOUTS
    k) = (s.reg (.SPLCNT_ACK_TIMEOUTS k) + 1) % 2 ^ 32 ∧ t.reg (.SPLCNT_FRAMES_RESENT k) = (s.reg (.SPLCNT_FRAMES_RESENT k) + 1) % 2 ^ 32 ∧
    OnlyChanges [.spire, .drum, .log] (andDrum (blocks [8])) s0 t) ∧
  (∀ (dt k : Nat) (f : SpireFrame) (s : State), Takes s 4 → k < 64 → s.spire.length = 64 → (s.link k).waiting = [f] → (s.link k).reqs = [] → f.kind =
    0 → s.reg .SPL_RETRIES ≤ f.resends → f.sentAt + frameClocks f.blocks + nsTicks (s.reg .SPL_ACK_TIMEOUT) ≤ s.ticks + dt → Completes (.ackTimeout dt
    k) s fun s0 t => (t.link k).waiting = [] ∧ t.reg (.SPLCNT_FRAMES_FAILED k) = (s.reg (.SPLCNT_FRAMES_FAILED k) + 1) % 2 ^ 32 ∧ Posted t 0x8803 4 (k
    + (f.module - 1) * 64 + f.number * 16384) ∧ (∀ e ∈ t.epochs, e.epoch = f.number → k ∈ e.failedLinks) ∧ t.out = [] ∧ OnlyChanges [.epochs, .spire,
    .drum, .log] (andDrum (blocks [8])) s0 t) ∧
  (∀ (dt k : Nat) (v : List Nat) (block : List Octet) (s : State), Quiet s → k < 64 → s.spire.length = 64 → parseBlock block = some v → nth v 0 0 =
    0x53 → nth v 1 0 / 32 = 2 ∨ nth v 1 0 / 32 = 3 ∧ (s.link k).lock = none → (s.link k).reqs = [] → Completes (.reqReceive dt k block) s fun s0 t =>
    (t.link k).reqs = [(nth v 1 0 / 32, nth v 1 0 % 32 + 1, nth v 2 0 + 256 * nth v 3 0, nth v 4 0 + 256 * nth v 5 0)] ∧ t.out = [.block k
    (controlBlock 0x38 [nth v 1 0 % 32, s.claim, (nth v 2 0 + 256 * nth v 3 0) % 256, (nth v 2 0 + 256 * nth v 3 0) / 256, 0])] ∧ OnlyChanges [.spire]
    noRegs s0 t) ∧
  (∀ (dt k a m q n : Nat) (rest : List (Nat × Nat × Nat × Nat)) (sof data eof : List Octet) (s : State), k < 64 → s.spire.length = 64 → (s.link
    k).reqs = (a, m, q, n) :: rest → Completes (.upFrameEof dt k sof data eof) s fun s0 t => (t.link k).reqs = rest ∧ t.out.head? = some (.block k
    (controlBlock 0x39 [m - 1, s.claim, q % 256, q / 256, if upFrameOk sof data eof then 0 else 2])) ∧ (upFrameOk sof data eof = false → t.reg
    (.SPLCNT_UP_CHECK_FAIL k) = (s.reg (.SPLCNT_UP_CHECK_FAIL k) + 1) % 2 ^ 32) ∧ (upFrameOk sof data eof = true → (s.module k m).all (fun x =>
    x.upSeq != some q) = true → t.reg (.SPLCNT_UP_FRAMES k) = (s.reg (.SPLCNT_UP_FRAMES k) + 1) % 2 ^ 32) ∧ OnlyChanges [.spire, .drum, .log] (andDrum
    (blocks [8])) s0 t)

/-- Responses on the register channel and fault reports -/
def Obligations.RegisterResponsesArrive : Prop :=
  (∀ (dt k module tag n : Nat) (data : List Octet) (x : RegTxn) (s : State), k < 64 → s.spire.length = 64 → (s.link k).reads = [(module, x)] → x.tag =
    tag ∧ x.op = 2 ∧ x.purpose = .bridge n → s.brgWaits n tag = true → Completes (.readDataResponse dt k module tag 0 data) s fun s0 t => (t.brg
    n).status = 0 ∧ (t.brg n).data = data ∧ (t.brg n).transfer = none ∧ (t.link k).reads = [] ∧ t.reg .BRGCNT_BRG_TRANSFERS = (s.reg
    .BRGCNT_BRG_TRANSFERS + 1) % 2 ^ 32 ∧ Output.data data ∈ t.out ∧ OnlyChanges [.bridge, .idp, .smap, .spire, .drum, .log] (andDrum (entries
    [0xC600])) s0 t) ∧
  (∀ (dt k module tag address len status : Nat) (s : State), Takes s 4 → k < 64 → 1 ≤ module → Completes (.writeErrorResponse dt k module tag address
    len status) s fun s0 t => t.bridge.pwe.getLast?.map (fun e => (e.time, e.address, e.link, e.module)) = some (s0.now, address, k, module) ∧
    t.bridge.pwe.getLast?.map (fun e => (e.status, e.len, e.tag, e.seq)) = some (status, len, tag, s.bridge.pweSeq) ∧ t.reg .BRGCNT_BRG_PWE = (s.reg
    .BRGCNT_BRG_PWE + 1) % 2 ^ 32 ∧ Posted t 0xC001 4 (address + k * 2 ^ 24 + (module - 1) * 2 ^ 30 + (s.bridge.pweSeq % 16) * 2 ^ 35 + status % 8 * 2
    ^ 39) ∧ t.out = [] ∧ OnlyChanges [.bridge, .cal, .drum, .log] (andDrum (entries [0xC600])) s0 t) ∧
  (∀ (dt k module tag n : Nat) (x : RegTxn) (s : State), k < 64 → s.spire.length = 64 → (s.link k).reads = [(module, x)] → x.tag = tag ∧ x.op = 3 ∧
    x.purpose = .lock n → s.brgWaits n tag = true → Completes (.lockResponse dt k module tag 0) s fun s0 t => (t.brg n).lock = 2 ∧ (t.brg
    n).lockedLink = k ∧ (t.brg n).lockedModule = module ∧ (t.brg n).status = 0 ∧ (t.brg n).transfer = none ∧ t.reg .BRGCNT_BRG_TRANSFERS = (s.reg
    .BRGCNT_BRG_TRANSFERS + 1) % 2 ^ 32 ∧ OnlyChanges [.bridge, .idp, .smap, .spire, .drum, .log] (andDrum (entries [0xC600])) s0 t) ∧
  (∀ (dt k module tag n since : Nat) (x : RegTxn) (s : State), k < 64 → s.spire.length = 64 → (s.link k).reads = [(module, x)] → x.tag = tag ∧ x.op =
    4 ∧ x.purpose = .unlock n → (s.link k).lock = some ⟨module, n, since, true⟩ → Completes (.unlockResponse dt k module tag 0) s fun s0 t => (t.link
    k).lock = none ∧ t.reg (.SPL_LOCKED k) = 0 ∧ t.out.head? = some (.block k (controlBlock 0x32 [0, s.claim])) ∧ OnlyChanges [.bridge, .idp, .smap,
    .spire, .drum, .log] (andDrum (fun r => among [.SPL_LOCKED k] r || entries [0xC600] r)) s0 t) ∧
  (∀ (dt k module : Nat) (data : List Octet) (r : FaultRecord) (s : State), Takes s 4 → k < 64 → 1 ≤ module → parseRecords 32 data = [r] →
    s.emitterRecord k module r = false → Completes (.faultRecords dt k module data) s fun s0 t => t.reg (.SPLCNT_FAULT_RECORDS k) = (s.reg
    (.SPLCNT_FAULT_RECORDS k) + 1) % 2 ^ 32 ∧ Posted t 0x8805 4 (k + (module - 1) * 64 + r.cls * 2048 + r.detail % 2 ^ 23 * 2 ^ 19) ∧ t.out = [] ∧
    OnlyChanges [.drum, .log] (andDrum (blocks [8])) s0 t) ∧
  (∀ (dt k module : Nat) (data : List Octet) (r : FaultRecord) (c : CalModule) (s : State), k < 64 → 1 ≤ module → parseRecords 32 data = [r] →
    s.emitterRecord k module r = true → s.calModule k module = some c → s.reg .CAL_SPARE_POLICY ≠ 1 → (s.zone (s.zoneOf k module)).requested = true →
    Completes (.faultRecords dt k module data) s fun s0 t => t.calModule k module = some
    { c with copyA := setSelector c.copyA r.pixel (setBitTo (selectorOctet c.copyA r.pixel) (failedBit r.set) true), copyB := setSelector c.copyB r.pixel (setBitTo (selectorOctet c.copyA r.pixel) (failedBit r.set) true) }
    ∧ (k, module, (selectorPlace c.copyA r.pixel).1) ∈ t.cal.writebacks ∧ t.out = [] ∧ OnlyChanges [.cal, .drum, .log] (andDrum (blocks [8])) s0 t) ∧
  (∀ (dt k module : Nat) (data : List Octet) (r : FaultRecord) (c : CalModule) (s : State), k < 64 → 1 ≤ module → parseRecords 32 data = [r] →
    s.emitterRecord k module r = true → s.calModule k module = some c → s.reg .CAL_SPARE_POLICY ≠ 1 → ((s.zone (s.zoneOf k module)).requested ||
    (s.zone (s.zoneOf k module)).pass.isSome) = false → s.mayWriteModules = true ∧ s.cal.recal = none ∧ k < s.spire.length → Completes (.faultRecords
    dt k module data) s fun s0 t => t.calModule k module = some
    { c with copyA := setSelector c.copyA r.pixel (setBitTo (selectorOctet c.copyA r.pixel) (failedBit r.set) true), copyB := setSelector c.copyB r.pixel (setBitTo (selectorOctet c.copyA r.pixel) (failedBit r.set) true) }
    ∧ t.cal.writebacks = [] ∧ (t.link k).txns.any (fun x => x.1 == module && x.2.op == 1 && x.2.address == 0x800000 + (selectorPlace c.copyA
    r.pixel).1 * 4096) = true ∧ t.out = [] ∧ OnlyChanges [.cal, .spire, .drum, .log] (andDrum (blocks [8])) s0 t) ∧
  (∀ (dt k : Nat) (x : LinkLock) (s : State), Takes s 4 → k < 64 → s.spire.length = 64 → (s.link k).lock = some x → x.since + nsTicks (1000 * s.reg
    .SPL_LOCK_MAX_US) ≤ s.ticks + dt → Completes (.lockTimeLimit dt k) s fun s0 t => (t.link k).lock = none ∧ t.reg (.SPL_LOCKED k) = 0 ∧ (t.brg
    x.session).lock = 3 ∧ (t.brg x.session).transfer = none ∧ Posted t 0x8806 4 (k + (x.module - 1) * 64) ∧ t.reg .BRGCNT_BRG_LOCK_LOST = (s.reg
    .BRGCNT_BRG_LOCK_LOST + 1) % 2 ^ 32 ∧ OnlyChanges [.bridge, .idp, .smap, .spire, .drum, .log] (andDrum (fun r => blocks [8] r || entries [0xC600]
    r)) s0 t)

/-- Lamp periods are merged, started and converted; sinks go untested; tied groups are taken over -/
def Obligations.LampPeriodsRun : Prop :=
  (∀ (dt : Nat) (s : State), s.lantern.gridOn = true → s.lantern.merged = none → s.lampStart s.lantern.nextMerge ≤ (s.elapse dt).time96 + nsUnits 8000
    → Completes (.mergeInstant dt) s fun s0 t => t.lantern.nextMerge = s.lantern.nextMerge + 1 ∧ t.lantern.merged.map LampPeriod.period = some
    s.lantern.nextMerge ∧ (∀ p ∈ t.lantern.merged.toList, ∀ v ∈ p.values, s.lampMaster v.channel = true ∧ v.onTicks = lampOnTicks v.level p.period ∨
    v.channel ≥ 512) ∧ (∀ p ∈ t.lantern.merged.toList, ∀ v ∈ p.values, s.lampFault v.channel ≠ 0 → v.level = 0) ∧ t.out = [] ∧ OnlyChanges [.lantern,
    .scan, .drum, .log] (andDrum (blocks [8, 9, 13])) s0 t) ∧
  (∀ (dt : Nat) (tests : List (Nat × Bool × Nat × Nat)) (p : LampPeriod) (s : State), s.lantern.merged = some p → s.lampStart p.period ≤ (s.elapse
    dt).time96 → s.lantern.heldUntil ≤ s.ticks + dt → Completes (.periodStart dt tests) s fun s0 t => t.lantern.running = some p ∧ t.lantern.merged =
    none ∧ t.lantern.converted = false ∧ t.lantern.startTick = ((s.ticks + dt) / 4 + 1) * 4 ∧ t.reg .LANCNT_PERIODS = (s.reg .LANCNT_PERIODS + 1) % 2
    ^ 32 ∧ t.reg .LAN_TOTAL_MA = p.totalMa % 2 ^ dictBits .LAN_TOTAL_MA ∧ t.reg .LAN_GOV_K = p.govK % 2 ^ dictBits .LAN_GOV_K ∧ t.reg (.CMP_FIRED 2) =
    (s.reg (.CMP_FIRED 2) + 1) % 2 ^ 32 ∧ OnlyChanges [.clock, .lantern, .sys, .twin, .drum, .log] (andDrum (blocks [3, 9])) s0 t) ∧
  (∀ (dt junction vin : Nat) (rails : List (Option (Nat × Nat))) (ntc : List Nat) (p : LampPeriod) (s : State), s.lantern.running = some p →
    s.lantern.converted = false → s.lampStart p.period + nsUnits (s.reg .LAN_ADC_OFFSET) ≤ (s.elapse dt).time96 → Completes (.adcConversion dt rails
    ntc junction vin) s fun s0 t => t.lantern.converted = true ∧ t.lantern.running = some p ∧ (∀ g ∈ List.range 16, t.reg (.LAN_RAIL_MIN_MV g) = ((nth
    rails g none).map (fun x => x.1)).getD 0 % 2 ^ 16) ∧ t.reg .LAN_JUNCTION = junction % 2 ^ 16 ∧ t.reg .LAN_VIN_MV = vin % 2 ^ dictBits .LAN_VIN_MV
    ∧ t.reg (.CMP_FIRED 3) = (s.reg (.CMP_FIRED 3) + 1) % 2 ^ 32 ∧ OnlyChanges [.clock, .lantern, .twin, .drum, .log] (andDrum (blocks [3, 9])) s0 t) ∧
  (∀ (dt c since : Nat) (s : State), Quiet s → c < 512 → s.lantern.sinks.length = 512 → (s.sink c).belowSince = some since → since + 60 * 781250000 ≤
    s.ticks + dt → s.lampMaster c = true → Completes (.channelUntested dt c) s fun s0 t => t.sink c = { s.sink c with untested := true } ∧ bitOf
    (t.reg (.LAN_CH_STATUS c)) 5 = true ∧ t.out = [] ∧ OnlyChanges [.lantern] (among [.LAN_CH_STATUS c]) s0 t) ∧
  (∀ (dt due : Nat) (s : State), s.lantern.tiedAt = some due → due ≤ s.ticks + dt → Completes (.tiedGroupEnable dt) s fun s0 t => t.lantern =
    { s.lantern with tiedOn := true, tiedAt := none } ∧ t.reg .LANCNT_TWIN_SWITCHES = (s.reg .LANCNT_TWIN_SWITCHES + s.tiedGroups.length) % 2 ^ 32 ∧
    t.out = [] ∧ OnlyChanges [.lantern, .drum, .log] (andDrum (entries [0x9600])) s0 t)

/-- Channels are enabled or refused, groups cleared and retried, and the safety table checked -/
def Obligations.ChannelsAndGroupsAreCleared : Prop :=
  (∀ (dt who c : Nat) (s : State), Quiet s → 1 ≤ (s.elapse dt).levelOf who → c < 512 → s.gangRefused c = false → s.lantern.sinks.length = 512 →
    Completes (.channelEnable dt who c 1) s fun s0 t => t.reg (.LAN_CH_ENABLE c) = 1 ∧ (s.flag (.LAN_CH_ENABLE c) = false → s.lampGroup c = 0 → ∀ k ∈
    s.lampSinks c, k < 512 → (s.sink k).declaredAt ≠ some (s.ticks + dt) → (t.sink k).fault = 0) ∧ t.out = [.reply 0] ∧ OnlyChanges [.lantern] (among
    [.LAN_CH_ENABLE c]) s0 t) ∧
  (∀ (dt who c : Nat) (s : State), Quiet s → 1 ≤ (s.elapse dt).levelOf who → c < 512 → Completes (.channelEnable dt who c 0) s fun s0 t => t.reg
    (.LAN_CH_ENABLE c) = 0 ∧ t.out = [.reply 0] ∧ OnlyChanges [] (among [.LAN_CH_ENABLE c]) s0 t) ∧
  (∀ (dt who c : Nat) (s : State), Takes s 4 → 1 ≤ (s.elapse dt).levelOf who → c < 512 → s.gangRefused c = true → Completes (.channelEnable dt who c
    1) s fun s0 t => Posted t 0x900F 4 c ∧ t.out = [.reply 8] ∧ OnlyChanges [.drum, .log] drumRegs s0 t) ∧
  (∀ (dt who g : Nat) (s : State), 1 ≤ (s.elapse dt).levelOf who → 1 ≤ g ∧ g ≤ 64 → s.lantern.sinks.length = 512 → Completes (.groupClear dt who g 1)
    s fun s0 t => (∀ c ∈ List.range 512, s.lampGroup c = g → ∀ k ∈ s.lampSinks c, k < 512 → (s.sink k).declaredAt ≠ some (s.ticks + dt) → (t.sink
    k).fault = 0) ∧ t.out = [.reply 0] ∧ OnlyChanges [.lantern, .drum, .log] (andDrum (blocks [9])) s0 t) ∧
  (∀ (dt g : Nat) (s : State), 1 ≤ g ∧ g ≤ 64 → s.lantern.sinks.length = 512 → s.lantern.groups.length = 64 → s.reg (.LAN_GRP_RETRY_S (g - 1)) ≠ 0 →
    (s.group g).darkSince.isSome = true → (s.group g).retryFrom + s.reg (.LAN_GRP_RETRY_S (g - 1)) * 781250000 ≤ s.ticks + dt → Completes (.groupRetry
    dt g) s fun s0 t => (∀ c ∈ List.range 512, s.lampGroup c = g → ∀ k ∈ s.lampSinks c, k < 512 → (s.sink k).declaredAt ≠ some (s.ticks + dt) →
    (t.sink k).fault = 0) ∧ (t.group g).retryFrom = s.ticks + dt ∧ t.out = [] ∧ OnlyChanges [.lantern, .drum, .log] (andDrum (blocks [9])) s0 t) ∧
  (∀ (dt : Nat) (s : State), Quiet s → Completes (.safetyTableCheck dt true true false) s fun s0 t => t.lantern = { s.lantern with tableLost := true }
    ∧ t.reg .LANCNT_SAFETY_TABLE_FAIL = (s.reg .LANCNT_SAFETY_TABLE_FAIL + 2) % 2 ^ 32 ∧ Posted t 0x9011 7 0 ∧ t.out = [] ∧ OnlyChanges [.lantern,
    .drum, .log] (andDrum (entries [0x9600])) s0 t) ∧
  (∀ (dt : Nat) (reload : Bool) (s : State), Completes (.safetyTableCheck dt true false reload) s fun s0 t => t.lantern =
    { s.lantern with tableLost := false } ∧ t.reg .LANCNT_SAFETY_TABLE_FAIL = (s.reg .LANCNT_SAFETY_TABLE_FAIL + 1) % 2 ^ 32 ∧ t.out = [] ∧
    OnlyChanges [.lantern, .drum, .log] (andDrum (entries [0x9600])) s0 t)

/-- Check contexts are claimed, set up and fed, and the freeze judgement is switched -/
def Obligations.CheckContextsWork : Prop :=
  (∀ (dt who value : Nat) (s : State), 1 ≤ (s.elapse dt).levelOf who → value ≤ 1 → value ≠ s.reg .OCU_ENABLE → Completes (.ocuEnableWrite dt who
    value) s fun s0 t => t.reg .OCU_ENABLE = value ∧ t.out = [.reply 0] ∧ OnlyChanges [.ocu, .drum, .log] (andDrum (blocks [10])) s0 t) ∧
  (∀ (dt who n : Nat) (s : State), Quiet s → 4 ≤ n ∧ n < 8 → 1 ≤ (s.elapse dt).levelOf who → s.ocu.contexts.length = 8 → (s.crcContext n).holder =
    none → Completes (.crcClaim dt who n 1) s fun s0 t => t.crcContext n = ⟨some who, none⟩ ∧ t.out = [.reply 0] ∧ OnlyChanges [.ocu] noRegs s0 t) ∧
  (∀ (dt who n : Nat) (s : State), Quiet s → 4 ≤ n ∧ n < 8 → 1 ≤ (s.elapse dt).levelOf who → (s.crcContext n).holder = some who →
    s.ocu.contexts.length = 8 → Completes (.crcClaim dt who n 0) s fun s0 t => (t.crcContext n).holder = none ∧ t.out = [.reply 0] ∧ OnlyChanges
    [.ocu] noRegs s0 t) ∧
  (∀ (dt who n h value : Nat) (s : State), Quiet s → 4 ≤ n ∧ n < 8 → 1 ≤ (s.elapse dt).levelOf who → (s.crcContext n).holder = some h → h ≠ who →
    value ≤ 1 → Completes (.crcClaim dt who n value) s fun s0 t => t.out = [.reply 8] ∧ OnlyChanges [] noRegs s0 t) ∧
  (∀ (dt who n value : Nat) (s : State), Quiet s → 4 ≤ n ∧ n < 8 → 1 ≤ (s.elapse dt).levelOf who → (s.crcContext n).holder = some who → 8 ≤ value ∧
    value ≤ 64 → s.ocu.contexts.length = 8 → Completes (.crcParameterWrite dt who n 2 value) s fun s0 t => t.reg (.CRC_WIDTH n) = value ∧ t.reg
    (.CRC_POLY n) = s.reg (.CRC_POLY n) % 2 ^ value ∧ t.reg (.CRC_INIT n) = s.reg (.CRC_INIT n) % 2 ^ value ∧ t.reg (.CRC_RUNNING n) = t.reg
    (.CRC_INIT n) ∧ t.reg (.CRC_OCTETS n) = 0 ∧ (t.crcContext n).lastAlive = none ∧ t.out = [.reply 0] ∧ OnlyChanges [.ocu] (entries [0xA100 + n]) s0
    t) ∧
  (∀ (dt who n value : Nat) (s : State), Quiet s → 4 ≤ n ∧ n < 8 → 1 ≤ (s.elapse dt).levelOf who → (s.crcContext n).holder = some who → value < 2 ^
    s.reg (.CRC_WIDTH n) → value < 2 ^ 64 → s.reg (.CRC_INIT n) < 2 ^ 64 → s.ocu.contexts.length = 8 → Completes (.crcParameterWrite dt who n 3 value)
    s fun s0 t => t.reg (.CRC_POLY n) = value ∧ t.reg (.CRC_RUNNING n) = s.reg (.CRC_INIT n) ∧ t.reg (.CRC_OCTETS n) = 0 ∧ (t.crcContext n).lastAlive
    = none ∧ t.out = [.reply 0] ∧ OnlyChanges [.ocu] (entries [0xA100 + n]) s0 t) ∧
  (∀ (dt who n value : Nat) (s : State), Quiet s → 4 ≤ n ∧ n < 8 → 1 ≤ (s.elapse dt).levelOf who → (s.crcContext n).holder = some who → value < 2 ^
    s.reg (.CRC_WIDTH n) → value < 2 ^ 64 → Completes (.crcRunningWrite dt who n value) s fun s0 t => t.reg (.CRC_RUNNING n) = value ∧ t.reg
    (.CRC_RESULT n) = crcResult (s.crcParams n) value % 2 ^ 64 ∧ t.out = [.reply 0] ∧ OnlyChanges [] (among [.CRC_RUNNING n, .CRC_RESULT n]) s0 t) ∧
  (∀ (dt who n : Nat) (octets : List Octet) (s : State), Quiet s → 4 ≤ n ∧ n < 8 → 1 ≤ (s.elapse dt).levelOf who → (s.crcContext n).holder = some who
    → octets ≠ [] ∧ octets.length ≤ 4096 → Completes (.crcFeed dt who n octets) s fun s0 t => t.reg (.CRC_RUNNING n) = crcFeed (s.crcParams n) (s.reg
    (.CRC_RUNNING n)) octets % 2 ^ 64 ∧ t.reg (.CRC_OCTETS n) = (s.reg (.CRC_OCTETS n) + octets.length) % 2 ^ 64 ∧ t.out = [.reply 0] ∧ OnlyChanges []
    (among [.CRC_RUNNING n, .CRC_RESULT n, .CRC_OCTETS n]) s0 t)

/-- The alive monitor of a check context (R370) -/
def Obligations.AliveMonitorJudges : Prop :=
  (∀ (dt who n v : Nat) (s : State), Quiet s → 4 ≤ n ∧ n < 8 → 1 ≤ (s.elapse dt).levelOf who → (s.crcContext n).holder = some who → v ≤ 255 →
    s.ocu.contexts.length = 8 → (s.crcContext n).lastAlive = none → Completes (.crcAliveIn dt who n v) s fun s0 t => t.reg (.CRC_ALIVE_STATUS n) = 0 ∧
    t.crcContext n = ⟨some who, some v⟩ ∧ t.out = [.reply 0] ∧ OnlyChanges [.ocu] (among [.CRC_ALIVE_STATUS n]) s0 t) ∧
  (∀ (dt who n v last : Nat) (s : State), Quiet s → 4 ≤ n ∧ n < 8 → 1 ≤ (s.elapse dt).levelOf who → (s.crcContext n).holder = some who → v ≤ 255 ∧
    last ≤ 255 → s.ocu.contexts.length = 8 → (s.crcContext n).lastAlive = some last → Completes (.crcAliveIn dt who n v) s fun s0 t => t.reg
    (.CRC_ALIVE_STATUS n) = (if (v + 256 - last) % 256 = 1 then 1 else if v = last then 2 else 3 + (v + 255 - last) % 256 * 256) ∧ t.crcContext n =
    ⟨some who, some v⟩ ∧ t.out = [.reply 0] ∧ OnlyChanges [.ocu] (among [.CRC_ALIVE_STATUS n]) s0 t) ∧
  ((∀ n < 8, (State.reset.crcContext n).lastAlive = none)) ∧
  (∀ (dt who n value : Nat) (s : State), 4 ≤ n ∧ n < 8 → 1 ≤ (s.elapse dt).levelOf who → (s.crcContext n).holder = none → s.ocu.contexts.length = 8 →
    Completes (.crcClaim dt who n 1) s fun _ t => (t.crcContext n).lastAlive = none) ∧
  (∀ (dt who n sub value : Nat) (s : State), 4 ≤ n ∧ n < 8 → 1 ≤ (s.elapse dt).levelOf who → (s.crcContext n).holder = some who →
    s.ocu.contexts.length = 8 → Completes (.crcParameterWrite dt who n sub value) s fun _ t => t.out = [.reply 0] → (t.crcContext n).lastAlive = none) ∧
  (∀ (dt who n value : Nat) (s : State), 4 ≤ n ∧ n < 8 → 1 ≤ (s.elapse dt).levelOf who → (s.crcContext n).holder = some who → s.ocu.contexts.length =
    8 → Completes (.crcPreset dt who n value) s fun _ t => t.out = [.reply 0] → (t.crcContext n).lastAlive = none)

/-- CRC_PRESET loads the standard sets of R368 -/
def Obligations.PresetsLoadTheStandardChecks : Prop :=
  (∀ (dt who n : Nat) (s : State), Quiet s → 4 ≤ n ∧ n < 8 → 1 ≤ (s.elapse dt).levelOf who → (s.crcContext n).holder = some who →
    s.ocu.contexts.length = 8 → Completes (.crcPreset dt who n 0) s fun s0 t => t.reg (.CRC_WIDTH n) = 8 ∧ t.reg (.CRC_POLY n) = 0x2F ∧ t.reg
    (.CRC_INIT n) = 0xFF ∧ t.reg (.CRC_REFLECT_IN n) = 0 ∧ t.reg (.CRC_REFLECT_OUT n) = 0 ∧ t.reg (.CRC_INVERT n) = 1 ∧ t.reg (.CRC_RUNNING n) = 0xFF
    ∧ t.reg (.CRC_OCTETS n) = 0 ∧ t.out = [.reply 0] ∧ OnlyChanges [.ocu] (entries [0xA100 + n]) s0 t) ∧
  (∀ (dt who n : Nat) (s : State), Quiet s → 4 ≤ n ∧ n < 8 → 1 ≤ (s.elapse dt).levelOf who → (s.crcContext n).holder = some who →
    s.ocu.contexts.length = 8 → Completes (.crcPreset dt who n 1) s fun s0 t => t.reg (.CRC_WIDTH n) = 16 ∧ t.reg (.CRC_POLY n) = 0x1021 ∧ t.reg
    (.CRC_INIT n) = 0xFFFF ∧ t.reg (.CRC_REFLECT_IN n) = 0 ∧ t.reg (.CRC_REFLECT_OUT n) = 0 ∧ t.reg (.CRC_INVERT n) = 0 ∧ t.reg (.CRC_RUNNING n) =
    0xFFFF ∧ t.reg (.CRC_OCTETS n) = 0 ∧ t.out = [.reply 0] ∧ OnlyChanges [.ocu] (entries [0xA100 + n]) s0 t) ∧
  (∀ (dt who n : Nat) (s : State), Quiet s → 4 ≤ n ∧ n < 8 → 1 ≤ (s.elapse dt).levelOf who → (s.crcContext n).holder = some who →
    s.ocu.contexts.length = 8 → Completes (.crcPreset dt who n 2) s fun s0 t => t.reg (.CRC_WIDTH n) = 32 ∧ t.reg (.CRC_POLY n) = 0x1EDC6F41 ∧ t.reg
    (.CRC_INIT n) = 0xFFFFFFFF ∧ t.reg (.CRC_REFLECT_IN n) = 1 ∧ t.reg (.CRC_REFLECT_OUT n) = 1 ∧ t.reg (.CRC_INVERT n) = 1 ∧ t.reg (.CRC_RUNNING n) =
    0xFFFFFFFF ∧ t.reg (.CRC_OCTETS n) = 0 ∧ t.out = [.reply 0] ∧ OnlyChanges [.ocu] (entries [0xA100 + n]) s0 t) ∧
  (∀ (dt who n : Nat) (s : State), Quiet s → 4 ≤ n ∧ n < 8 → 1 ≤ (s.elapse dt).levelOf who → (s.crcContext n).holder = some who →
    s.ocu.contexts.length = 8 → Completes (.crcPreset dt who n 3) s fun s0 t => t.reg (.CRC_WIDTH n) = 64 ∧ t.reg (.CRC_POLY n) = 0x42F0E1EBA9EA3693 ∧
    t.reg (.CRC_INIT n) = 0xFFFFFFFFFFFFFFFF ∧ t.reg (.CRC_REFLECT_IN n) = 1 ∧ t.reg (.CRC_REFLECT_OUT n) = 1 ∧ t.reg (.CRC_INVERT n) = 1 ∧ t.reg
    (.CRC_RUNNING n) = 0xFFFFFFFFFFFFFFFF ∧ t.reg (.CRC_OCTETS n) = 0 ∧ t.out = [.reply 0] ∧ OnlyChanges [.ocu] (entries [0xA100 + n]) s0 t) ∧
  (∀ (dt who n : Nat) (s : State), Quiet s → 4 ≤ n ∧ n < 8 → 1 ≤ (s.elapse dt).levelOf who → (s.crcContext n).holder = some who →
    s.ocu.contexts.length = 8 → Completes (.crcPreset dt who n 4) s fun s0 t => t.reg (.CRC_WIDTH n) = 32 ∧ t.reg (.CRC_POLY n) = 0x04C11DB7 ∧ t.reg
    (.CRC_INIT n) = 0xFFFFFFFF ∧ t.reg (.CRC_REFLECT_IN n) = 1 ∧ t.reg (.CRC_REFLECT_OUT n) = 1 ∧ t.reg (.CRC_INVERT n) = 1 ∧ t.reg (.CRC_RUNNING n) =
    0xFFFFFFFF ∧ t.reg (.CRC_OCTETS n) = 0 ∧ t.out = [.reply 0] ∧ OnlyChanges [.ocu] (entries [0xA100 + n]) s0 t) ∧
  (∀ (dt who n value : Nat) (s : State), Quiet s → 4 ≤ n ∧ n < 8 → 1 ≤ (s.elapse dt).levelOf who → (s.crcContext n).holder = some who → 5 ≤ value ∧
    value ≤ 255 → Completes (.crcPreset dt who n value) s fun s0 t => t.out = [.reply 8] ∧ OnlyChanges [] noRegs s0 t) ∧
  (((crcPreset 0).map (fun p => crcOf p [0x31, 0x32, 0x33, 0x34, 0x35, 0x36, 0x37, 0x38, 0x39]) = some 0xDF ∧ (crcPreset 1).map (fun p => crcOf p
    [0x31, 0x32, 0x33, 0x34, 0x35, 0x36, 0x37, 0x38, 0x39]) = some 0x29B1 ∧ (crcPreset 2).map (fun p => crcOf p [0x31, 0x32, 0x33, 0x34, 0x35, 0x36,
    0x37, 0x38, 0x39]) = some 0xE3069283 ∧ (crcPreset 3).map (fun p => crcOf p [0x31, 0x32, 0x33, 0x34, 0x35, 0x36, 0x37, 0x38, 0x39]) = some
    0x995DC9BBDF1939FA ∧ (crcPreset 4).map (fun p => crcOf p [0x31, 0x32, 0x33, 0x34, 0x35, 0x36, 0x37, 0x38, 0x39]) = some 0xCBF43926))

/-- Events enter the Drum, overwrite the oldest word when it is full, and are popped, flushed and cleared -/
def Obligations.DrumTakesAndGivesWords : Prop :=
  (∀ (dt code prio a : Nat) (s : State), Takes s prio → 0x1000 ≤ code ∧ code ≤ 0xFFFF ∧ prio ≤ 7 → Completes (.eventPost dt code prio [a]) s fun s0 t
    => Posted t code prio a ∧ (prio = 7 → bitOf (t.reg .DRM_FAULT_SUMMARY) (code / 4096) = true) ∧ t.out = [] ∧ OnlyChanges [.drum, .log] drumRegs s0
    t) ∧
  (∀ (dt code prio a b : Nat) (s : State), Takes s prio → 0x1000 ≤ code ∧ code ≤ 0xFFFF ∧ prio ≤ 7 → Completes (.eventPost dt code prio [a, b]) s fun
    s0 t => (⟨.first, prio, code, a % 2 ^ 42⟩ : DrumWord) ∈ t.drum.words ∧ (⟨.last, prio, code, b % 2 ^ 42⟩ : DrumWord) ∈ t.drum.words ∧ t.out = [] ∧
    OnlyChanges [.drum, .log] drumRegs s0 t) ∧
  (∀ (dt code prio a : Nat) (s : State), Quiet s → 0x1000 ≤ code ∧ code ≤ 0xFFFF → prio < 7 ∧ prio < s.reg .DRM_MIN_PRIORITY → s.reg .DRM_FILTERED < 2
    ^ 31 - 1 → Completes (.eventPost dt code prio [a]) s fun s0 t => t.drum.words = s.drum.words ∧ t.reg .DRM_FILTERED = s.reg .DRM_FILTERED + 1 ∧
    OnlyChanges [.log] (among [.DRM_FILTERED]) s0 t) ∧
  (∀ (dt code prio a : Nat) (old : DrumWord) (rest : List DrumWord) (s : State), Takes s prio → 0x1000 ≤ code ∧ code ≤ 0xFFFF ∧ prio ≤ 7 →
    s.drum.words = old :: rest → rest.length = 63 → old.priority ≤ 7 → s.reg .DRM_LOST < 2 ^ 31 - 1 → s.reg (.DRM_LOST_PRIO (old.priority + 1)) < 2 ^
    31 - 1 → Completes (.eventPost dt code prio [a]) s fun _ t => t.drum.words = rest ++ [(⟨.single, prio, code, a % 2 ^ 42⟩ : DrumWord)] ∧ t.reg
    .DRM_LOST = s.reg .DRM_LOST + 1 ∧ t.reg (.DRM_LOST_PRIO (old.priority + 1)) = s.reg (.DRM_LOST_PRIO (old.priority + 1)) + 1) ∧
  (∀ (dt who : Nat) (s : State), Quiet s → 1 ≤ (s.elapse dt).levelOf who → s.drum.words ≠ [] → Completes (.drmPop dt who) s fun s0 t => (∃ p ∈
    s.drum.words.zipIdx, t.drum.words = s.drum.words.eraseIdx p.2 ∧ (∀ q ∈ s.drum.words.zipIdx, q.1.priority ≤ p.1.priority ∧ (q.1.priority =
    p.1.priority → p.2 ≤ q.2)) ∧ t.out = [.reply 0, .data p.1.octets]) ∧ OnlyChanges [.drum] (among [.DRM_DEPTH, .DRM_DEPTH_MAX]) s0 t) ∧
  (∀ (dt who : Nat) (s : State), Quiet s → 1 ≤ (s.elapse dt).levelOf who → s.drum.words = [] → Completes (.drmPop dt who) s fun _ t => t.out = [.reply
    0, .data (List.replicate 8 0)] ∧ t.drum = s.drum) ∧
  (∀ (dt who : Nat) (s : State), Quiet s → 1 ≤ (s.elapse dt).levelOf who → s.drum.words.length ≤ 64 → Completes (.drmPopBlock dt who) s fun s0 t =>
    t.drum.words = [] ∧ (popWords 64 s.drum.words).1.length = s.drum.words.length ∧ t.out = [.reply 0, .data (leOctets 2 s.drum.words.length ++
    List.replicate 6 0 ++ ((popWords 64 s.drum.words).1.map DrumWord.octets).flatten)] ∧ OnlyChanges [.drum] (among [.DRM_DEPTH, .DRM_DEPTH_MAX]) s0
    t) ∧
  (∀ (dt who : Nat) (s : State), Quiet s → 1 ≤ (s.elapse dt).levelOf who → s.reg .DRM_FLUSHED + s.drum.words.length < 2 ^ 31 → Completes (.drmFlush dt
    who 1) s fun s0 t => t.drum.words = [] ∧ t.reg .DRM_FLUSHED = s.reg .DRM_FLUSHED + s.drum.words.length ∧ t.reg .DRM_DEPTH = 0 ∧ t.out = [.reply 0]
    ∧ OnlyChanges [.drum] (among [.DRM_DEPTH, .DRM_DEPTH_MAX, .DRM_FLUSHED]) s0 t) ∧
  (∀ (dt who value : Nat) (s : State), Quiet s → 1 ≤ (s.elapse dt).levelOf who → Completes (.faultSummaryClear dt who value) s fun s0 t => (∀ n ∈
    List.range 16, bitOf (t.reg .DRM_FAULT_SUMMARY) n = (bitOf (s.reg .DRM_FAULT_SUMMARY) n && !bitOf value n)) ∧ t.out = [.reply 0] ∧ OnlyChanges []
    (among [.DRM_FAULT_SUMMARY]) s0 t)

/-- Memory requests are granted in rounds, refresh and debug pre-empt, overruns and conflict windows are reported -/
def Obligations.MemoryRoundsAndWindows : Prop :=
  (∀ (dt port : Nat) (s : State), 1 ≤ port ∧ port ≤ 9 → s.mem.owner = none ∧ s.mem.raised = [] ∧ s.mem.queue = [] ∧ s.mem.newMode = none → s.reg
    .MEM_ARB_MODE = 1 → Completes (.memRequestRaise dt port) s fun s0 t => t.mem.owner = some port ∧ t.mem.grantAt = s.ticks + dt ∧ t.mem.raised = []
    ∧ t.mem.grants = s.mem.grants + 1 ∧ t.reg (.MEM_REQ_GRANTS (port - 1)) = (s.reg (.MEM_REQ_GRANTS (port - 1)) + 1) % 2 ^ 32 ∧ t.out = [] ∧
    OnlyChanges [.mem, .drum, .log] (andDrum (blocks [11])) s0 t) ∧
  (∀ (dt port owner : Nat) (s : State), Quiet s → 1 ≤ port ∧ port ≤ 9 → s.mem.owner = some owner → (s.mem.raised.any fun r => r.port == port) = false
    → s.reg .MEM_ARB_MODE = 1 → Completes (.memRequestRaise dt port) s fun s0 t => t.mem =
    { s.mem with raised := s.mem.raised ++ [⟨port, s.ticks + dt⟩] } ∧ t.out = [] ∧ OnlyChanges [.mem] noRegs s0 t) ∧
  (∀ (dt octets conflicts corrected owner : Nat) (r : MemRequest) (s : State), s.mem.owner = some owner → 1 ≤ owner ∧ owner ≤ 9 → 1 ≤ r.port ∧ r.port
    ≤ 9 → s.mem.raised = [r] ∧ s.mem.queue = [] ∧ s.mem.newMode = none → s.reg .MEM_ARB_MODE = 1 → octets ≤ s.reg (.MEM_REQ_MAX_BURST (owner - 1)) →
    Completes (.arbitrationRound dt octets conflicts corrected) s fun s0 t => t.mem.owner = some r.port ∧ t.mem.raised = [] ∧ t.mem.grants =
    s.mem.grants + 1 ∧ t.mem.windowConflicts = s.mem.windowConflicts + conflicts ∧ t.reg .MEMCNT_ACCESSES = (s.reg .MEMCNT_ACCESSES + (octets + 127) /
    128) % 2 ^ 32 ∧ t.reg (.MEM_REQ_GRANTS (r.port - 1)) = (s.reg (.MEM_REQ_GRANTS (r.port - 1)) + 1) % 2 ^ 32 ∧ t.out = [] ∧ OnlyChanges [.mem,
    .drum, .log] (andDrum (blocks [11])) s0 t) ∧
  (∀ (dt : Nat) (s : State), s.mem.owner.isSome = true → Completes (.refreshDue dt) s fun s0 t => t.reg .MEMCNT_REFRESH_PREEMPTS = (s.reg
    .MEMCNT_REFRESH_PREEMPTS + 1) % 2 ^ 32 ∧ t.out = [] ∧ OnlyChanges [.drum, .log] (andDrum (entries [0xB200])) s0 t) ∧
  (∀ (dt : Nat) (s : State), s.mem.owner.isSome = true → s.debugOpen = true → Completes (.debugAccess dt) s fun s0 t => t.reg .MEMCNT_DEBUG_PREEMPTS =
    (s.reg .MEMCNT_DEBUG_PREEMPTS + 1) % 2 ^ 32 ∧ t.out = [] ∧ OnlyChanges [.drum, .log] (andDrum (entries [0xB200])) s0 t) ∧
  (∀ (dt : Nat) (s : State), s.debugOpen = false → Quiet s → Completes (.debugAccess dt) s fun s0 t => t.out = [] ∧ OnlyChanges [] noRegs s0 t) ∧
  (∀ (dt owner : Nat) (s : State), Quiet s → s.mem.owner = some owner → s.mem.overrun = false → 400 * s.reg (.MEM_REQ_MAX_BURST (owner - 1)) <
    (s.ticks + dt - s.mem.grantAt) * 128 * 31 → Completes (.grantOverrun dt) s fun s0 t => t.mem = { s.mem with overrun := true } ∧ t.reg
    .MEMCNT_GRANT_OVERRUNS = (s.reg .MEMCNT_GRANT_OVERRUNS + 1) % 2 ^ 32 ∧ Posted t 0xB020 7 owner ∧ t.out = [] ∧ OnlyChanges [.mem, .drum, .log]
    (andDrum (entries [0xB200])) s0 t) ∧
  (∀ (dt : Nat) (s : State), s.mem.windowStart + nsTicks (s.reg .MEM_CONFLICT_WINDOW_MS * 1000000) ≤ s.ticks + dt → Completes (.conflictWindowEnd dt)
    s fun s0 t => t.reg .MEM_CONFLICT_NOW = s.mem.windowConflicts * 1000 / max 1 s.mem.windowAccesses % 2 ^ dictBits .MEM_CONFLICT_NOW ∧
    t.mem.windowAccesses = 0 ∧ t.mem.windowConflicts = 0 ∧ t.mem.windowStart = s.ticks + dt ∧ t.mem.windowRun = (if s.reg .MEM_CONFLICT_PERMILLE <
    s.mem.windowConflicts * 1000 / max 1 s.mem.windowAccesses then s.mem.windowRun + 1 else 0) ∧ t.out = [] ∧ OnlyChanges [.mem, .drum, .log] (andDrum
    (blocks [11])) s0 t)

/-- Memory errors are counted, reported, and some restart the unit -/
def Obligations.MemoryErrorsActAndRestart : Prop :=
  (∀ (dt port address : Nat) (zone : Option Nat) (s : State), Completes (.dramReadError dt port address true zone) s fun s0 t => t.reg
    .MEMCNT_READ_RETRIES = (s.reg .MEMCNT_READ_RETRIES + 1) % 2 ^ 32 ∧ t.out = [] ∧ OnlyChanges [.drum, .log] (andDrum (entries [0xB200])) s0 t) ∧
  (∀ (dt port address : Nat) (s : State), Takes s 6 → port ≠ 6 ∧ port ≠ 7 → Completes (.dramReadError dt port address false none) s fun s0 t => t.reg
    .MEMCNT_READ_POISONED = (s.reg .MEMCNT_READ_POISONED + 1) % 2 ^ 32 ∧ Posted t 0xB002 6 (address % 2 ^ 31 + port % 16 * 2 ^ 31) ∧ t.out = [] ∧
    OnlyChanges [.drum, .log] (andDrum (entries [0xB200])) s0 t) ∧
  (∀ (dt port address : Nat) (zone : Option Nat) (s : State), port = 6 ∨ port = 7 → s.sys.releasedAt.isSome = true → Completes (.dramReadError dt port
    address false zone) s fun s0 t => Restarted true s0 t ∧ t.sys.cause = setBitTo s.sys.cause 7 true) ∧
  (∀ (dt c0 c1 a b : Nat) (s : State), s.mem.odecc = [a, b] → Completes (.odeccPoll dt c0 c1) s fun s0 t => t.mem = { s.mem with odecc := [c0, c1] } ∧
    t.reg .MEMCNT_ODECC_CORRECTED = (s.reg .MEMCNT_ODECC_CORRECTED + (c0 - a) + (c1 - b)) % 2 ^ 32 ∧ t.out = [] ∧ OnlyChanges [.mem, .drum, .log]
    (andDrum (entries [0xB200])) s0 t) ∧
  (∀ (dt t0 t1 : Nat) (s : State), Completes (.dramTempRead dt t0 t1) s fun s0 t => t.reg (.MEM_DRAM_TEMP 1) = t0 % 2 ^ 16 ∧ t.reg (.MEM_DRAM_TEMP 2)
    = t1 % 2 ^ 16 ∧ t.reg (.MEM_REFRESH_RATE 1) = (if toSigned 16 t0 < 1360 then 1 else if toSigned 16 t0 < 1520 then 2 else 4) ∧ t.reg
    (.MEM_REFRESH_RATE 2) = (if toSigned 16 t1 < 1360 then 1 else if toSigned 16 t1 < 1520 then 2 else 4) ∧ t.out = [] ∧ OnlyChanges [.mem, .drum,
    .log] (andDrum (entries [0xB006, 0xB007])) s0 t) ∧
  (∀ (dt : Nat) (s : State), s.mem.owner.isSome = true → s.sys.releasedAt.isSome = true → s.mem.grantAt + nsTicks 100000 ≤ s.ticks + dt → Completes
    (.grantHoldRestart dt) s fun s0 t => Restarted true s0 t ∧ t.sys.cause = setBitTo s.sys.cause 8 true) ∧
  (∀ (dt area address copy : Nat) (other reload : Bool) (s : State), Completes (.controlSramError dt area address copy true other reload) s fun s0 t
    => t.reg .OCUCNT_CONTROL_SRAM_CORRECTED = (s.reg .OCUCNT_CONTROL_SRAM_CORRECTED + 1) % 2 ^ 32 ∧ t.out = [] ∧ OnlyChanges [.drum, .log] (andDrum
    (entries [0xA080])) s0 t) ∧
  (∀ (dt address copy : Nat) (other reload : Bool) (s : State), Quiet s → s.epochs ≠ [] → Completes (.controlSramError dt 2 address copy false other
    reload) s fun s0 t => t.reg .OCUCNT_CONTROL_SRAM_UNCORRECTED = (s.reg .OCUCNT_CONTROL_SRAM_UNCORRECTED + 1) % 2 ^ 32 ∧ t.reg .BEL_STATE = 1 ∧
    t.belfry = { s0.belfry with reload := true } ∧ Posted t 0xA020 7 (2 + address % 2 ^ 20 * 4) ∧ t.out = [] ∧ OnlyChanges [.belfry, .mem, .drum,
    .log] (andDrum (entries [0x5000, 0xA080, 0xB001])) s0 t) ∧
  (∀ (dt address copy : Nat) (other reload : Bool) (s : State), s.sys.releasedAt.isSome = true → Completes (.controlSramError dt 3 address copy false
    other reload) s fun s0 t => Restarted true s0 t ∧ t.sys.cause = setBitTo s.sys.cause 7 true)

/-- The signal map is changed, passes over its entries and writes its targets; E1.31 universes follow their sources -/
def Obligations.SignalMapPassesAndUniverses : Prop :=
  (∀ (dt who : Nat) (s : State), Quiet s → 1 ≤ (s.elapse dt).levelOf who → s.reg .MAP_CHANGE = 0 → signalMapRefusal s.smap.admin = none → Completes
    (.signalMapChangeRequest dt who) s fun s0 t => t.reg .MAP_CHANGE = 1 ∧ t.smap = { s.smap with requestedAt := some (s.ticks + dt) } ∧ t.out =
    [.reply 0] ∧ OnlyChanges [.smap] (among [.MAP_CHANGE]) s0 t) ∧
  (∀ (dt who reason entry : Nat) (s : State), Takes s 4 → 1 ≤ (s.elapse dt).levelOf who → s.reg .MAP_CHANGE = 0 → signalMapRefusal s.smap.admin = some
    (reason, entry) → Completes (.signalMapChangeRequest dt who) s fun s0 t => Posted t 0xC011 4 (reason + entry * 16) ∧ t.out = [.reply 8] ∧
    OnlyChanges [.drum, .log] drumRegs s0 t) ∧
  (∀ (dt who : Nat) (s : State), Quiet s → 1 ≤ (s.elapse dt).levelOf who → s.reg .MAP_CHANGE = 1 → Completes (.signalMapChangeCancel dt who) s fun s0
    t => t.reg .MAP_CHANGE = 0 ∧ t.smap = { s.smap with requestedAt := none } ∧ t.out = [.reply 0] ∧ OnlyChanges [.smap] (among [.MAP_CHANGE]) s0 t) ∧
  (∀ (dt who : Nat) (s : State), Quiet s → 1 ≤ (s.elapse dt).levelOf who → s.reg .MAP_CHANGE ≠ 1 → Completes (.signalMapChangeCancel dt who) s fun s0
    t => t.out = [.reply 15] ∧ OnlyChanges [] noRegs s0 t) ∧
  (∀ (dt : Nat) (s : State), s.lantern.gridOn = true → s.smap.lastPass.getD 0 ≠ (s.elapse dt).passPeriod → s.reg .MAP_CHANGE = 0 → ∀ w ∈ s.smap.oper,
    mapOn w = false ∨ dstKind w < 2 → Completes (.mapPass dt) s fun s0 t => t.smap.outputs = s.smap.oper.zipIdx.map (fun p => ({ s0 with out := [] } :
    State).mapOutput p.1 (nth s.smap.outputs p.2 MapOutput.reset)) ∧ t.smap.dmxOut = (List.range 8).map (fun port => portSlots port (s.smap.oper.zip
    t.smap.outputs)) ∧ t.lantern.signalVals = ((s.smap.oper.zip t.smap.outputs).filter fun p => mapOn p.1 && dstKind p.1 == 0 && p.2.claiming).map
    (fun p => (dstAddr p.1, p.2.z)) ∧ t.smap.lastPass = some s0.passPeriod ∧ t.reg .BRGCNT_MAP_PASSES = (s.reg .BRGCNT_MAP_PASSES + 1) % 2 ^ 32 ∧
    t.out = [] ∧ OnlyChanges [.smap, .lantern, .drum, .log] (andDrum (among [.BRGCNT_MAP_PASSES])) s0 t) ∧
  (∀ (dt w : Nat) (o : MapOutput) (s : State), s.smap.oper = [w] → s.smap.outputs = [o] → mapOn w = true ∧ dstKind w = 2 → o.waits = true ∧ o.claiming
    = true → o.written ≠ some (targetValue w o.z) → o.writtenAt = none → 128 ≤ s.reg .TWN_CLAIM → (s.link (dstLink w)).lock = none → s.brgStop
    (dstLink w) (dstModule w) = none → s.spire.length = 64 ∧ dstLink w < 64 → Completes (.regIntervalEnd dt) s fun s0 t => t.smap.outputs =
    [{ o with written := some (targetValue w o.z), writtenAt := some (s.ticks + dt), waits := false }] ∧ (t.link (dstLink w)).txns = (s.link (dstLink
    w)).txns ++ [(dstModule w, ⟨1, dstAddr w, (s.link (dstLink w)).nextTag, if dstWide w then 2 else 1, leOctets (if dstWide w then 2 else 1)
    (targetValue w o.z), .mapWrite 0⟩)] ∧ t.reg .BRGCNT_MAP_REG_WRITES = (s.reg .BRGCNT_MAP_REG_WRITES + 1) % 2 ^ 32 ∧ t.out = [] ∧ OnlyChanges
    [.smap, .spire, .drum, .log] (andDrum (among [.BRGCNT_MAP_REG_WRITES])) s0 t) ∧
  (∀ (dt n : Nat) (p : SacnPacket) (s : State), s.universeEntry p.number = some n → p.wellFormed = true ∧ p.preview = false ∧ p.terminated = false ∧
    p.startCode = 0 → p.priority ≤ 200 ∧ p.slots.length ≤ 512 → (s.universeOf n).sources = [] → s.smap.universes.length = 64 → Completes (.sacnPacket
    dt p) s fun s0 t => (t.universeOf n).sources = [⟨p.cid, p.seq, p.priority, p.slots, s.ticks + dt, s.smap.arrivals⟩] ∧ t.reg .BRGCNT_SACN_PACKETS =
    (s.reg .BRGCNT_SACN_PACKETS + 1) % 2 ^ 32 ∧ t.reg (.DMX_UNIV_SOURCES n) = 1 ∧ t.reg (.DMX_UNIV_STATE n) = 2 ∧ t.reg (.DMX_UNIV_SLOTS n) =
    p.slots.length ∧ t.out = [] ∧ OnlyChanges [.smap, .drum, .log] (andDrum (fun r => among [.BRGCNT_SACN_PACKETS] r || entries [0xC200 + n] r)) s0 t) ∧
  (∀ (dt n : Nat) (p : SacnPacket) (x : SacnSource) (s : State), s.universeEntry p.number = some n → p.wellFormed = true ∧ p.preview = false ∧
    p.startCode = 0 → p.priority ≤ 200 ∧ p.slots.length ≤ 512 → (s.universeOf n).sources.find? (fun y => y.cid == p.cid) = some x → (p.seq + 256 -
    x.seq) % 256 = 0 ∨ 237 ≤ (p.seq + 256 - x.seq) % 256 → Completes (.sacnPacket dt p) s fun s0 t => t.reg .BRGCNT_SACN_SEQ_DISCARD = (s.reg
    .BRGCNT_SACN_SEQ_DISCARD + 1) % 2 ^ 32 ∧ t.out = [] ∧ OnlyChanges [.drum, .log] (andDrum (among [.BRGCNT_SACN_SEQ_DISCARD])) s0 t) ∧
  (∀ (dt n : Nat) (s : State), n < 64 ∧ s.smap.universes.length = 64 → (s.universeOf n).sources ≠ [] → ∀ x ∈ (s.universeOf n).sources, x.lastAt +
    nsTicks (s.reg .DMX_SACN_LOSS_MS * 1000000) ≤ s.ticks + dt → Completes (.sacnSourceLoss dt n) s fun s0 t => (t.universeOf n).sources = [] ∧ t.reg
    (.DMX_UNIV_SOURCES n) = 0 ∧ t.reg (.DMX_UNIV_STATE n) = (if s.flag (.DMX_UNIV_ENABLE n) then 1 else 0) ∧ t.out = [] ∧ OnlyChanges [.smap, .drum,
    .log] (andDrum (entries [0xC200 + n])) s0 t)

/-- DMX ports send the slots of the last pass, take received packets, and change their mode -/
def Obligations.DmxPortsSendAndReceive : Prop :=
  (∀ (dt port : Nat) (s : State), Quiet s → port < 8 → s.smap.ports.length = 8 → (s.dmx port).mode = 2 → s.smap.lastPass ≠ none → (s.elapse
    dt).dmxBusy port = false → (s.dmx port).txStart = none → s.dmxHeld port = false → Completes (.dmxTxPacket dt port) s fun s0 t => t.out = [.dmx
    port (s.reg (.DMX_TX_BREAK_US port)) (s.reg (.DMX_TX_MAB_US port)) ((nth s.smap.dmxOut port []).take (s.reg (.DMX_TX_SLOTS port)))] ∧ (t.dmx
    port).txStart = some (s.ticks + dt) ∧ (t.dmx port).txEnd = some (s.ticks + dt + usTicks (s.reg (.DMX_TX_BREAK_US port) + s.reg (.DMX_TX_MAB_US
    port) + (1 + s.reg (.DMX_TX_SLOTS port)) * 44)) ∧ t.reg (.DMX_STATE port) = 3 ∧ OnlyChanges [.smap] (among [.DMX_STATE port]) s0 t) ∧
  (∀ (dt port e : Nat) (s : State), port < 8 → s.smap.ports.length = 8 → (s.dmx port).txEnd = some e → e ≤ s.ticks + dt → (s.dmx port).newMode = none
    → (s.dmx port).exchange = none → Completes (.dmxTxPacketEnd dt port) s fun s0 t => (t.dmx port).txEnd = none ∧ t.reg (.DMXCNT_DMX_TX_PACKETS port)
    = (s.reg (.DMXCNT_DMX_TX_PACKETS port) + 1) % 2 ^ 32 ∧ t.out = [] ∧ OnlyChanges [.smap, .drum, .log] (andDrum (among [.DMXCNT_DMX_TX_PACKETS
    port])) s0 t) ∧
  (∀ (dt port e : Nat) (x : RdmExchange) (s : State), port < 8 → s.smap.ports.length = 8 → (s.dmx port).txEnd = some e → e ≤ s.ticks + dt → (s.dmx
    port).newMode = none → (s.dmx port).exchange = some x → x.timer = none ∧ x.answered = true → s.flag (.DMX_RDM_ENABLE port) = true → Completes
    (.dmxTxPacketEnd dt port) s fun s0 t => t.out = [.rdm port (rdmFrame x.dest s.unit.rdmUid (s.dmx port).transaction 1 0 x.cls x.pid x.data)] ∧
    (t.dmx port).exchange = some
    { x with transaction := (s.dmx port).transaction, sentAt := some (s.ticks + dt + usTicks (rdmTime (rdmFrame x.dest s.unit.rdmUid (s.dmx port).transaction 1 0 x.cls x.pid x.data).length)), timer := none }
    ∧ (t.dmx port).transaction = ((s.dmx port).transaction + 1) % 256 ∧ t.reg (.DMXCNT_RDM_REQUESTS port) = (s.reg (.DMXCNT_RDM_REQUESTS port) + 1) %
    2 ^ 32 ∧ OnlyChanges [.smap, .drum, .log] (andDrum (among [.DMXCNT_DMX_TX_PACKETS port, .DMXCNT_RDM_REQUESTS port])) s0 t) ∧
  (∀ (dt port : Nat) (slots : List Nat) (s : State), port < 8 → s.smap.ports.length = 8 → (s.dmx port).mode = 1 → slots.length ≤ 512 → Completes
    (.dmxRxPacket dt port 0 slots false) s fun s0 t => (t.dmx port).slots = slots ∧ (t.dmx port).live = true ∧ (t.dmx port).lastValid = s.ticks + dt ∧
    t.reg (.DMX_RX_SLOTS port) = slots.length ∧ t.reg (.DMX_STATE port) = 2 ∧ t.reg (.DMXCNT_DMX_RX_PACKETS port) = (s.reg (.DMXCNT_DMX_RX_PACKETS
    port) + 1) % 2 ^ 32 ∧ t.out = [] ∧ OnlyChanges [.smap, .drum, .log] (andDrum (among [.DMX_RX_SLOTS port, .DMX_STATE port, .DMXCNT_DMX_RX_PACKETS
    port])) s0 t) ∧
  (∀ (dt port code : Nat) (slots : List Nat) (s : State), port < 8 → s.smap.ports.length = 8 → (s.dmx port).mode = 1 → code ≠ 0 → Completes
    (.dmxRxPacket dt port code slots false) s fun s0 t => t.reg (.DMXCNT_DMX_RX_OTHER_START port) = (s.reg (.DMXCNT_DMX_RX_OTHER_START port) + 1) % 2
    ^ 32 ∧ t.out = [] ∧ OnlyChanges [.drum, .log] (andDrum (among [.DMXCNT_DMX_RX_OTHER_START port])) s0 t) ∧
  (∀ (dt port : Nat) (s : State), Takes s 4 → port < 8 → s.smap.ports.length = 8 → (s.dmx port).mode = 1 ∧ (s.dmx port).live = true → s.idp.sessions =
    [] → (s.dmx port).lastValid + usTicks (1000 * s.reg (.DMX_RX_LOSS_MS port)) ≤ s.ticks + dt → Completes (.dmxRxLoss dt port) s fun s0 t => (t.dmx
    port).live = false ∧ t.reg (.DMX_STATE port) = 1 ∧ Posted t 0xC031 4 port ∧ t.out = [] ∧ OnlyChanges [.smap, .drum, .log] (andDrum (among
    [.DMX_STATE port])) s0 t) ∧
  (∀ (dt who port value : Nat) (s : State), Quiet s → port < 8 → s.smap.ports.length = 8 → 1 ≤ (s.elapse dt).levelOf who → value ≤ 1 → (s.elapse
    dt).dmxBusy port = false → (s.dmx port).live = false → Completes (.dmxModeWrite dt who port value) s fun s0 t => (t.dmx port).mode = value ∧
    (t.dmx port).newMode = none ∧ (t.dmx port).txEnd = none ∧ t.reg (.DMX_MODE port) = value ∧ t.reg (.DMX_STATE port) = value ∧ t.out = [.reply 0] ∧
    OnlyChanges [.smap] (among [.DMX_MODE port, .DMX_STATE port]) s0 t)

/-- RDM requests and discoveries are queued, answered, sent again and aborted, and the responder answers -/
def Obligations.RdmRequestsAndDiscovery : Prop :=
  (∀ (dt who port dest cls pid : Nat) (data : List Octet) (s : State), Quiet s → port < 8 → s.smap.ports.length = 8 → 1 ≤ (s.elapse dt).levelOf who →
    data.length ≤ 231 → (s.dmx port).exchange = none → s.reg (.DMX_RDM_DISCOVER port) ≠ 1 → s.flag (.DMX_RDM_ENABLE port) = true → (s.dmx port).mode =
    2 → Completes (.rdmRequest dt who port dest cls pid data) s fun s0 t => (t.dmx port).exchange = some (RdmExchange.make .request dest cls pid data)
    ∧ t.reg (.DMX_RDM_STATUS port) = 1 ∧ t.out = [.reply 0] ∧ OnlyChanges [.smap] (among [.DMX_RDM_STATUS port]) s0 t) ∧
  (∀ (dt port e : Nat) (p : RdmPacket) (x : RdmExchange) (s : State), Quiet s → port < 8 → s.smap.ports.length = 8 → (s.dmx port).exchange = some x →
    (s.dmx port).newMode = none → x.purpose = .request → x.sentAt = some e → p.checksumOk = true ∧ p.transaction = x.transaction ∧ p.kind = 0 →
    Completes (.rdmResponseReceive dt port p) s fun s0 t => (t.dmx port).exchange = none ∧ (t.dmx port).response = rdmStored p ((x.joined ++
    p.data).take 4096) ∧ t.reg (.DMX_RDM_STATUS port) = 2 ∧ t.out = [] ∧ OnlyChanges [.smap] (among [.DMX_RDM_STATUS port]) s0 t) ∧
  (∀ (dt port e : Nat) (x : RdmExchange) (s : State), Quiet s → port < 8 → s.smap.ports.length = 8 → (s.dmx port).exchange = some x → (s.dmx
    port).newMode = none → x.purpose = .request → x.sentAt = some e → e + usTicks 2800 ≤ s.ticks + dt → x.resends < s.reg (.DMX_RDM_RETRIES port) →
    Completes (.rdmResponseTimeout dt port) s fun s0 t => (t.dmx port).exchange = some { x with resends := x.resends + 1, sentAt := none } ∧ t.out =
    [] ∧ OnlyChanges [.smap] noRegs s0 t) ∧
  (∀ (dt port e : Nat) (x : RdmExchange) (s : State), port < 8 → s.smap.ports.length = 8 → (s.dmx port).exchange = some x → (s.dmx port).newMode =
    none → x.purpose = .request → x.sentAt = some e → e + usTicks 2800 ≤ s.ticks + dt → s.reg (.DMX_RDM_RETRIES port) ≤ x.resends → Completes
    (.rdmResponseTimeout dt port) s fun s0 t => (t.dmx port).exchange = none ∧ t.reg (.DMX_RDM_STATUS port) = 3 ∧ t.reg (.DMXCNT_RDM_NO_RESPONSE port)
    = (s.reg (.DMXCNT_RDM_NO_RESPONSE port) + 1) % 2 ^ 32 ∧ t.out = [] ∧ OnlyChanges [.smap, .drum, .log] (andDrum (among [.DMX_RDM_STATUS port,
    .DMXCNT_RDM_NO_RESPONSE port])) s0 t) ∧
  (∀ (dt port e : Nat) (x : RdmExchange) (s : State), Quiet s → port < 8 → s.smap.ports.length = 8 → (s.dmx port).exchange = some x → x.timer = some e
    → e ≤ s.ticks + dt → Completes (.rdmAckTimerExpiry dt port) s fun s0 t => (t.dmx port).exchange = some
    { x with purpose := .queued, cls := 0x20, pid := 0x0020, data := [0x04], resends := 0, timer := none } ∧ t.out = [] ∧ OnlyChanges [.smap] noRegs
    s0 t) ∧
  (∀ (dt who port : Nat) (s : State), Quiet s → port < 8 → s.smap.ports.length = 8 → 1 ≤ (s.elapse dt).levelOf who → (s.dmx port).exchange = none →
    s.reg (.DMX_RDM_DISCOVER port) ≠ 1 → s.flag (.DMX_RDM_ENABLE port) = true → (s.dmx port).mode = 2 → Completes (.dmxRdmDiscover dt who port 1) s
    fun s0 t => (t.dmx port).exchange = some (RdmExchange.make .unMute broadcastUid 0x10 0x0003 []) ∧ (t.dmx port).search = [(0, broadcastUid - 1)] ∧
    (t.dmx port).uids = [] ∧ t.reg (.DMX_RDM_DISCOVER port) = 1 ∧ t.out = [.reply 0] ∧ OnlyChanges [.smap] (among [.DMX_RDM_DISCOVER port]) s0 t) ∧
  (∀ (dt who port : Nat) (s : State), Quiet s → port < 8 → s.smap.ports.length = 8 → 1 ≤ (s.elapse dt).levelOf who → s.reg (.DMX_RDM_STATUS port) = 1
    → (s.dmx port).newMode = none → Completes (.rdmAbort dt who port 4) s fun s0 t => (t.dmx port).exchange = none ∧ t.reg (.DMX_RDM_STATUS port) = 4
    ∧ t.out = [.reply 0] ∧ OnlyChanges [.smap] (among [.DMX_RDM_STATUS port]) s0 t) ∧
  (∀ (dt port : Nat) (p : RdmPacket) (ready : Bool) (s : State), port < 8 → s.smap.ports.length = 8 → s.rdmForUs port p = true → p.checksumOk = true →
    p.cls = 0x10 ∧ p.pid = 0x0002 → rdmBroadcast p.dest = false → Completes (.rdmResponderRequest dt port p ready) s fun s0 t => (t.dmx port).muted =
    true ∧ t.out = [.rdm port (rdmFrame p.source s.unit.rdmUid p.transaction 0 (min 255 (s.dmx port).queue.length) 0x11 0x0002 [0, 0])] ∧ t.reg
    (.DMXCNT_RDM_REQUESTS port) = (s.reg (.DMXCNT_RDM_REQUESTS port) + 1) % 2 ^ 32 ∧ OnlyChanges [.smap, .drum, .log] (andDrum (among
    [.DMXCNT_RDM_REQUESTS port])) s0 t) ∧
  (∀ (dt port dest source transaction : Nat) (s : State), port < 8 → s.smap.ports.length = 8 → s.rdmForUs port ⟨true, dest, source, transaction, 1,
    0x20, 0x8A01, []⟩ = true → rdmBroadcast dest = false → s.flag .DIC_RDM_IDP = true → Completes (.rdmGetEui dt port dest source transaction) s fun
    s0 t => t.out = [.rdm port (rdmFrame source s.unit.rdmUid transaction 0 (min 255 (s.dmx port).queue.length) 0x21 0x8A01 (leOctets 8
    s.unit.eui64))] ∧ t.reg (.DMXCNT_RDM_REQUESTS port) = (s.reg (.DMXCNT_RDM_REQUESTS port) + 1) % 2 ^ 32 ∧ OnlyChanges [.drum, .log] (andDrum (among
    [.DMXCNT_RDM_REQUESTS port])) s0 t) ∧
  (∀ (dt port dest source transaction : Nat) (s : State), port < 8 → s.smap.ports.length = 8 → s.rdmForUs port ⟨true, dest, source, transaction, 1,
    0x20, 0x8A02, []⟩ = true → rdmBroadcast dest = false → s.flag .DIC_RDM_IDP = true → Completes (.rdmGetIdentity dt port dest source transaction) s
    fun s0 t => t.out = [.rdm port (rdmFrame source s.unit.rdmUid transaction 0 (min 255 (s.dmx port).queue.length) 0x21 0x8A02 (leOctets 2 (s.reg
    .DIC_BEHAVIOUR_LEVEL) ++ leOctets 1 (s.reg .DIC_ROLE) ++ leOctets 1 (s.reg .DIC_PROFILE_ACTIVE)))] ∧ OnlyChanges [.drum, .log] (andDrum (among
    [.DMXCNT_RDM_REQUESTS port])) s0 t)

/-- The register bridge starts, refuses, aborts and releases transfers of a session -/
def Obligations.BridgeTransfersStartAndEnd : Prop :=
  (∀ (dt who : Nat) (s : State), Quiet s → (s.brg who).transfer = none → s.spire.length = 64 ∧ (s.brg who).link < 64 → (s.link (s.brg who).link).lock
    = none → s.brgStop (s.brg who).link (s.brg who).module = none → (s.brg who).addr + (s.brg who).len ≤ 2 ^ 24 → Completes (.brgRead dt who) s fun s0
    t => (t.link ((s.brg who).link)).txns = (s.link ((s.brg who).link)).txns ++ [((s.brg who).module, ⟨2, (s.brg who).addr, (s.link ((s.brg
    who).link)).nextTag, (s.brg who).len, [], .bridge who⟩)] ∧ (t.brg who).status = 1 ∧ (t.brg who).transfer = some ⟨2, (s.brg who).link, (s.brg
    who).module, (s.link ((s.brg who).link)).nextTag, false⟩ ∧ t.out = [.reply 0] ∧ OnlyChanges [.bridge, .spire] noRegs s0 t) ∧
  (∀ (dt who : Nat) (s : State), Quiet s → (s.brg who).transfer ≠ none → Completes (.brgRead dt who) s fun s0 t => t.out = [.reply 10] ∧ OnlyChanges
    [] noRegs s0 t) ∧
  (∀ (dt who : Nat) (data : List Octet) (s : State), Quiet s → 1 ≤ (s.elapse dt).levelOf who → (s.brg who).transfer = none → s.spire.length = 64 ∧
    (s.brg who).link < 64 → (s.link (s.brg who).link).lock = none → s.brgStop (s.brg who).link (s.brg who).module = none → data.length = (s.brg
    who).len → (s.brg who).addr + (s.brg who).len ≤ 0x7FF000 → Completes (.brgWrite dt who data) s fun s0 t => (t.link ((s.brg who).link)).txns =
    (s.link ((s.brg who).link)).txns ++ [((s.brg who).module, ⟨1, (s.brg who).addr, (s.link ((s.brg who).link)).nextTag, (s.brg who).len, data,
    .bridge who⟩)] ∧ (t.brg who).status = 1 ∧ (t.brg who).transfer = some ⟨1, (s.brg who).link, (s.brg who).module, (s.link ((s.brg
    who).link)).nextTag, false⟩ ∧ t.out = [.reply 0] ∧ OnlyChanges [.bridge, .spire] noRegs s0 t) ∧
  (∀ (dt who : Nat) (data : List Octet) (s : State), Quiet s → 1 ≤ (s.elapse dt).levelOf who → (s.brg who).transfer = none → data.length = (s.brg
    who).len → 0x7FF000 < (s.brg who).addr + (s.brg who).len → (s.brg who).addr + (s.brg who).len ≤ 2 ^ 24 → Completes (.brgWrite dt who data) s fun
    s0 t => (t.brg who).status = 6 ∧ t.out = [.reply 6] ∧ OnlyChanges [.bridge] noRegs s0 t) ∧
  (∀ (dt who : Nat) (s : State), Quiet s → 1 ≤ (s.elapse dt).levelOf who → (s.brg who).transfer = none → s.spire.length = 64 ∧ (s.brg who).link < 64 →
    (s.link (s.brg who).link).lock = none → s.brgStop (s.brg who).link (s.brg who).module = none → (s.brg who).lock = 0 → Completes (.brgLockSet dt
    who) s fun s0 t => (t.brg who).lock = 1 ∧ (t.link ((s.brg who).link)).txns = (s.link ((s.brg who).link)).txns ++ [((s.brg who).module, ⟨3, 0,
    (s.link ((s.brg who).link)).nextTag, 0, [], .lock who⟩)] ∧ (t.brg who).status = 1 ∧ (t.brg who).transfer = some ⟨3, (s.brg who).link, (s.brg
    who).module, (s.link ((s.brg who).link)).nextTag, false⟩ ∧ t.out = [.reply 0] ∧ OnlyChanges [.bridge, .spire] noRegs s0 t) ∧
  (∀ (dt who : Nat) (s : State), Quiet s → 1 ≤ (s.elapse dt).levelOf who → (s.brg who).transfer = none → s.spire.length = 64 ∧ (s.brg who).lockedLink
    < 64 → ∀ x ∈ (s.link (s.brg who).lockedLink).lock.toList, x.session = who → s.brgStop (s.brg who).lockedLink (s.brg who).lockedModule = none →
    (s.brg who).lock = 2 → Completes (.brgUnlock dt who) s fun s0 t => (t.link ((s.brg who).lockedLink)).txns = (s.link ((s.brg who).lockedLink)).txns
    ++ [((s.brg who).lockedModule, ⟨4, 0, (s.link ((s.brg who).lockedLink)).nextTag, 0, [], .unlock who⟩)] ∧ (t.brg who).status = 1 ∧ (t.brg
    who).transfer = some ⟨4, (s.brg who).lockedLink, (s.brg who).lockedModule, (s.link ((s.brg who).lockedLink)).nextTag, false⟩ ∧ t.out = [.reply 0]
    ∧ OnlyChanges [.bridge, .spire] noRegs s0 t) ∧
  (∀ (dt who : Nat) (x : BrgTransfer) (s : State), Quiet s → 1 ≤ (s.elapse dt).levelOf who → (s.brg who).transfer = some x → x.op = 2 → s.spire.length
    = 64 ∧ x.link < 64 → Completes (.brgAbort dt who 1) s fun s0 t => (t.brg who).status = 9 ∧ (t.brg who).transfer = none ∧ (t.link x.link).txns =
    (s.link x.link).txns.filter (fun p => !(p.1 == x.module && p.2.tag == x.tag)) ∧ t.out = [.reply 0] ∧ OnlyChanges [.bridge, .spire] noRegs s0 t) ∧
  (∀ (dt who : Nat) (s : State), Quiet s → 1 ≤ (s.elapse dt).levelOf who → (s.brg who).transfer = none → Completes (.brgAbort dt who 1) s fun s0 t =>
    (t.brg who).status = 8 ∧ t.out = [.reply 15] ∧ OnlyChanges [.bridge] noRegs s0 t) ∧
  (∀ (dt who : Nat) (s : State), Quiet s → 1 ≤ (s.elapse dt).levelOf who → Completes (.brgPweClear dt who 1) s fun s0 t => t.bridge =
    { s.bridge with pwe := [] } ∧ t.out = [.reply 0] ∧ OnlyChanges [.bridge] noRegs s0 t)

/-- Claims of the partner, and the loss of the partner or of a path -/
def Obligations.PartnerClaimsAndPaths : Prop :=
  (∀ (dt word : Nat) (s : State), s.reg .TWN_STATE = 2 → s.twin.lastWseq = none → field word 31 28 = 13 ∧ field word 7 0 = crcOf crc8 (beOctets 3
    (field word 31 8)) → Completes (.claimWordReceive dt word) s fun s0 t => t.reg .TWN_PARTNER_CLAIM = field word 27 20 ∧ t.twin.partnerState = field
    word 19 17 ∧ t.twin.lastWseq = some (field word 15 8) ∧ t.twin.wordAt = some (s.ticks + dt) ∧ bitOf (t.reg .TWN_FLAGS) 0 = true ∧ t.reg .TWN_STATE
    = 2 ∧ t.out = [] ∧ OnlyChanges [.twin, .lantern, .smap, .drum, .log] (andDrum (blocks [8, 9, 12, 13])) s0 t) ∧
  (∀ (dt word : Nat) (s : State), field word 31 28 ≠ 13 ∨ field word 7 0 ≠ crcOf crc8 (beOctets 3 (field word 31 8)) → Completes (.claimWordReceive dt
    word) s fun s0 t => t.reg .TWNCNT_CLAIM_WORD_ERRORS = (s.reg .TWNCNT_CLAIM_WORD_ERRORS + 1) % 2 ^ 32 ∧ t.out = [] ∧ OnlyChanges [.drum, .log]
    (andDrum (among [.TWNCNT_CLAIM_WORD_ERRORS])) s0 t) ∧
  (∀ (dt : Nat) (m : MirMessage) (s : State), s.reg .TWN_STATE = 2 → s.reg .TWN_MIR_STATE = 2 → m.checkOk = true → Completes (.mirrorHeartbeat dt m) s
    fun s0 t => t.reg .TWN_PARTNER_CLAIM = m.claim % 2 ^ dictBits .TWN_PARTNER_CLAIM ∧ bitOf (t.reg .TWN_FLAGS) 1 = true ∧ t.twin.beatAt = some
    (s.ticks + dt) ∧ t.twin.partnerState = ofLe (m.payload.take 1) ∧ t.twin.partnerD = ofLe (slice m.payload 1 1) ∧ t.twin.partnerEpoch = ofLe (slice
    m.payload 2 2) ∧ t.twin.partnerDseq = ofLe (slice m.payload 4 4) ∧ t.out = [] ∧ OnlyChanges [.twin, .lantern, .smap, .drum, .log] (andDrum (blocks
    [8, 9, 12, 13])) s0 t) ∧
  (∀ (dt x y : Nat) (s : State), Takes s 6 → s.reg .TWN_STATE = 4 → 0 < s.reg .TWN_CLAIM → s.twin.wordAt = some x ∧ s.twin.beatAt = some y → x + 8192
    ≤ s.ticks + dt ∧ y + 8192 ≤ s.ticks + dt → s.epochs = [] ∧ s.belfry.slots = [] → Completes (.partnerLost dt) s fun _ t => t.reg .TWN_STATE = 5 ∧
    t.reg .TWN_PARTNER_CLAIM = 0 ∧ t.reg .TWN_CLAIM = claimOf 5 (s.reg .TWN_CLAIM_ACTIVE) (s.reg .TWN_CLAIM_STANDBY) (t.reg .TWN_DEDUCTION) % 2 ^
    dictBits .TWN_CLAIM ∧ t.reg .SPL_CLAIM_SENT = t.reg .TWN_CLAIM ∧ t.reg .TWNCNT_TAKEOVERS = (s.reg .TWNCNT_TAKEOVERS + 1) % 2 ^ 32 ∧ t.twin.wordAt
    = none ∧ t.twin.beatAt = none ∧ t.twin.lastDseq = s.reg .TWN_DSEQ) ∧
  (∀ (dt x : Nat) (s : State), Takes s 6 → s.reg .TWN_STATE = 2 → s.twin.wordAt = some x ∧ s.twin.beatAt = none → x + 8192 ≤ s.ticks + dt → Completes
    (.partnerLost dt) s fun s0 t => t.reg .TWN_STATE = 2 ∧ t.reg .TWN_PARTNER_CLAIM = 0 ∧ t.twin.wordAt = none ∧ t.twin.lastWseq = none ∧ Posted t
    0xD003 6 (s.twin.partnerState % 8) ∧ t.out = [] ∧ OnlyChanges [.twin, .lantern, .smap, .drum, .log] (andDrum (blocks [8, 9, 12, 13])) s0 t) ∧
  (∀ (dt x y : Nat) (s : State), Takes s 5 → s.twin.wordAt = some x ∧ s.twin.beatAt = some y → x + 8192 ≤ s.ticks + dt ∧ s.ticks + dt < y + 8192 →
    Completes (.claimLineLoss dt) s fun s0 t => t.twin = { s.twin with lastWseq := none, wordAt := none } ∧ t.reg .TWN_FLAGS = setBitTo (s.reg
    .TWN_FLAGS) 0 false % 2 ^ dictBits .TWN_FLAGS ∧ Posted t 0xD00C 5 1 ∧ t.out = [] ∧ OnlyChanges [.twin, .drum, .log] (andDrum (among [.TWN_FLAGS]))
    s0 t) ∧
  (∀ (dt : Nat) (s : State), Takes s 3 → s.reg .TWN_STATE ≠ 0 ∧ s.reg .TWN_STATE ≠ 3 → s.reg .TWN_MIR_STATE ≠ 2 → Completes (.mirrorLinkUp dt) s fun
    s0 t => t.reg .TWN_MIR_STATE = 2 ∧ t.twin =
    { s.twin with txSeq := 2, rxSeq := 1, sent := [⟨0x10, 1, s.admitOctets, s.ticks + dt, 0⟩], held := [], bulk := [] } ∧ t.out = [.mirror 0x10 1
    s.admitOctets] ∧ Posted t 0xD00B 3 0 ∧ OnlyChanges [.twin, .drum, .log] (andDrum (among [.TWN_MIR_STATE])) s0 t) ∧
  (∀ (dt : Nat) (s : State), Takes s 5 → s.reg .TWN_MIR_STATE = 2 → s.twin.join = none → Completes (.mirrorLinkDown dt) s fun s0 t => t.reg
    .TWN_MIR_STATE = 0 ∧ t.twin = { s.twin with sent := [], held := [], yieldSince := none, zonePushes := [] } ∧ bitOf (t.reg .TWN_FLAGS) 1 = false ∧
    (3 ≤ s.reg .TWN_STATE → bitOf (t.reg .TWN_FLAGS) 3 = true) ∧ t.reg .TWNCNT_MIR_DOWN = (s.reg .TWNCNT_MIR_DOWN + 1) % 2 ^ 32 ∧ Posted t 0xD00A 5 1
    ∧ t.out = [] ∧ OnlyChanges [.twin, .drum, .log] (andDrum (among [.TWN_MIR_STATE, .TWN_FLAGS, .TWNCNT_MIR_DOWN])) s0 t) ∧
  (∀ (dt : Nat) (x : MirSent) (s : State), s.reg .TWN_MIR_STATE = 2 → s.twin.sent = [x] → x.sentAt + 15625 ≤ s.ticks + dt → x.resends < 3 → Completes
    (.mirrorResend dt) s fun s0 t => t.twin = { s.twin with sent := [{ x with sentAt := s.ticks + dt, resends := x.resends + 1 }] } ∧ t.out = [.mirror
    x.kind x.mseq x.payload] ∧ t.reg .TWNCNT_MIR_RESENDS = (s.reg .TWNCNT_MIR_RESENDS + 1) % 2 ^ 32 ∧ OnlyChanges [.twin, .drum, .log] (andDrum (among
    [.TWNCNT_MIR_RESENDS])) s0 t) ∧
  (∀ (dt : Nat) (m : MirMessage) (s : State), Quiet s → s.reg .TWN_MIR_STATE = 2 → m.checkOk = true → Completes (.mirrorAck dt m) s fun s0 t => t.twin
    = { s.twin with sent := s.twin.sent.filter fun x => x.mseq != ofLe (m.payload.take 4) } ∧ t.out = [] ∧ OnlyChanges [.twin] noRegs s0 t)

/-- Units are admitted, join, become alone and yield -/
def Obligations.PairsFormJoinAndYield : Prop :=
  (∀ (dt x : Nat) (s : State), s.reg .TWN_STATE = 1 → s.twin.wordsFrom = some x ∧ s.twin.wordAt = none → x + usTicks (1000 * s.reg .TWN_PAIR_WAIT_MS)
    ≤ s.ticks + dt → s.canDrive = true → Completes (.pairWaitExpiry dt) s fun s0 t => t.reg .TWN_STATE = 2 ∧ t.reg .TWN_CLAIM = claimOf 2 (s.reg
    .TWN_CLAIM_ACTIVE) (s.reg .TWN_CLAIM_STANDBY) (t.reg .TWN_DEDUCTION) % 2 ^ dictBits .TWN_CLAIM ∧ t.out = [] ∧ OnlyChanges [.twin, .lantern, .smap,
    .drum, .log] (andDrum (blocks [8, 9, 12, 13])) s0 t) ∧
  (∀ (dt : Nat) (m : MirMessage) (s : State), Takes s 5 → s.reg .TWN_MIR_STATE = 2 → m.checkOk = true → m.mseq = s.twin.rxSeq → s.twin.held = [] →
    s.reg .TWN_STATE ≠ 0 → bitOf (s.reg .TWN_FLAGS) 2 = false → ofLe (slice m.payload 8 1) ≠ s.reg .DIC_ROLE → Completes (.mirrorAdmit dt m) s fun s0
    t => t.reg .TWN_STATE = 2 ∧ bitOf (t.reg .TWN_FLAGS) 2 = true ∧ t.twin.partnerEui = ofLe (m.payload.take 8) ∧ t.twin.rxSeq = nextMseq m.mseq ∧
    Posted t 0xD002 5 1 ∧ t.out = [.mirror 0x01 0 (leOctets 4 m.mseq)] ∧ OnlyChanges [.twin, .lantern, .smap, .drum, .log] (andDrum (blocks [8, 9, 12,
    13])) s0 t) ∧
  (∀ (dt : Nat) (m : MirMessage) (s : State), Takes s 3 → s.reg .TWN_MIR_STATE = 2 → m.checkOk = true → m.mseq = s.twin.rxSeq → s.twin.held = [] →
    s.reg .TWN_STATE = 1 → s.canDrive = true → bitOf (s.reg .TWN_FLAGS) 2 = false → ofLe (slice m.payload 8 1) = s.reg .DIC_ROLE ∧ ofLe (slice
    m.payload 9 2) = s.reg .DIC_BEHAVIOUR_LEVEL ∧ ofLe (slice m.payload 11 8) = s.reg .UPD_RUNNING_ID → ofLe (slice m.payload 20 1) = 5 → Completes
    (.mirrorAdmit dt m) s fun s0 t => t.reg .TWN_STATE = 3 ∧ t.reg .TWN_REJOIN = 1 ∧ t.twin.join = some ⟨true, none, 0, 1⟩ ∧ Posted t 0xD001 3 (3 +
    ofLe (m.payload.take 8) % 2 ^ 39 * 8) ∧ t.out = [.mirror 0x01 0 (leOctets 4 m.mseq), .mirror 0x60 s.twin.txSeq (leOctets 1 1 ++ leOctets 2 0)] ∧
    OnlyChanges [.twin, .lantern, .smap, .drum, .log] (andDrum (blocks [8, 9, 12, 13])) s0 t) ∧
  (∀ (dt : Nat) (m : MirMessage) (j : JoinState) (s : State), Takes s 2 → s.reg .TWN_MIR_STATE = 2 → m.checkOk = true → m.mseq = s.twin.rxSeq →
    s.twin.held = [] → s.twin.join = some j → j.joining = true → Completes (.mirrorAnchor dt m) s fun s0 t => t.twin =
    { s.twin with rxSeq := nextMseq m.mseq, join := some { j with es := some (ofLe (m.payload.take 2)), tp := ofLe (slice m.payload 2 8) }, compareFrom := some ((ofLe (m.payload.take 2) + 3) % 65536) }
    ∧ Posted t 0xD008 2 (ofLe (m.payload.take 2)) ∧ t.out = [.mirror 0x01 0 (leOctets 4 m.mseq)] ∧ OnlyChanges [.twin, .drum, .log] drumRegs s0 t) ∧
  (∀ (dt : Nat) (m : MirMessage) (j : JoinState) (s : State), Quiet s → s.reg .TWN_MIR_STATE = 2 → m.checkOk = true → m.mseq = s.twin.rxSeq →
    s.twin.held = [] → s.twin.join = some j → j.joining = true → ofLe (m.payload.take 1) = 2 → Completes (.mirrorSync dt m) s fun s0 t => t.twin =
    { s.twin with rxSeq := nextMseq m.mseq, join := some { j with es := some (ofLe (slice m.payload 1 2)), step := 2 } } ∧ t.out = [.mirror 0x01 0
    (leOctets 4 m.mseq)] ∧ OnlyChanges [.twin] noRegs s0 t) ∧
  (∀ (dt x : Nat) (s : State), Takes s 4 → s.reg .TWN_MIR_STATE = 2 → s.reg .TWN_STATE = 5 → s.twin.partnerState = 4 → s.twin.partnerD + s.reg
    .TWN_YIELD_MARGIN ≤ s.reg .TWN_DEDUCTION → s.twin.yieldSince = some x → x + usTicks 100000 ≤ s.ticks + dt → Completes (.twinYield dt) s fun s0 t
    => t.reg .TWN_STATE = 4 ∧ t.twin.yieldSince = none ∧ t.reg .TWNCNT_YIELDS = (s.reg .TWNCNT_YIELDS + 1) % 2 ^ 32 ∧ t.out = [] ∧ OnlyChanges [.twin,
    .lantern, .smap, .drum, .log] (andDrum (blocks [8, 9, 12, 13])) s0 t) ∧
  (∀ (dt who : Nat) (s : State), Quiet s → 1 ≤ (s.elapse dt).levelOf who → s.reg .TWN_STATE = 6 → s.reg .TWN_MIR_STATE = 2 → Completes (.twnRejoin dt
    who 1) s fun s0 t => t.reg .TWN_STATE = 3 ∧ t.reg .TWN_REJOIN = 1 ∧ t.twin.join = some ⟨true, none, 0, 1⟩ ∧ t.twin.failedSyncs = 0 ∧ t.out =
    [.mirror 0x60 s.twin.txSeq (leOctets 1 1 ++ leOctets 2 0), .reply 0] ∧ OnlyChanges [.twin, .lantern, .smap, .drum, .log] (andDrum (blocks [8, 9,
    12, 13])) s0 t) ∧
  (∀ (dt who value : Nat) (s : State), Quiet s → 1 ≤ (s.elapse dt).levelOf who → value ≠ 1 → Completes (.twnRejoin dt who value) s fun s0 t => t.out =
    [.reply 8] ∧ OnlyChanges [] noRegs s0 t)

/-- Records of links and epochs, mirrored writes, pushes and objects are taken in order -/
def Obligations.MirroredWritesAndRecords : Prop :=
  (∀ (dt e k sig : Nat) (m : MirMessage) (s : State), s.reg .TWN_MIR_STATE = 2 → m.checkOk = true → m.mseq = s.twin.rxSeq → s.twin.held = [] → e <
    65536 ∧ k < 64 ∧ sig < 2 ^ 32 → m.payload = leOctets 2 e ++ leOctets 1 k ++ leOctets 4 sig → Completes (.linkSig dt m) s fun s0 t =>
    (t.twin.linkRecords.find? fun r => r.epoch == e && r.link == k).bind LinkRecord.partner = some sig ∧ (t.twin.linkRecords.find? fun r => r.epoch ==
    e && r.link == k).bind LinkRecord.own = (s.twin.linkRecords.find? fun r => r.epoch == e && r.link == k).bind LinkRecord.own ∧ t.twin.rxSeq =
    nextMseq m.mseq ∧ t.out = [.mirror 0x01 0 (leOctets 4 m.mseq)] ∧ OnlyChanges [.twin, .drum, .log] (andDrum (among [.TWNCNT_INSTEP_EPOCHS,
    .TWN_INSTEP_EPOCH])) s0 t) ∧
  (∀ (dt e sig mask : Nat) (m : MirMessage) (s : State), Quiet s → s.reg .TWN_MIR_STATE = 2 → m.checkOk = true → m.mseq = s.twin.rxSeq → s.twin.held =
    [] → e < 65536 ∧ sig < 2 ^ 32 ∧ mask < 2 ^ 64 → m.payload = leOctets 2 e ++ leOctets 4 sig ++ leOctets 8 mask → (s.twin.frameRecords.any fun r =>
    r.epoch == e) = false → Completes (.frameSig dt m) s fun s0 t => t.twin =
    { s.twin with rxSeq := nextMseq m.mseq, frameRecords := (⟨e, none, some (sig, mask), false⟩ :: s.twin.frameRecords).take 8 } ∧ t.out = [.mirror
    0x01 0 (leOctets 4 m.mseq)] ∧ OnlyChanges [.twin] noRegs s0 t) ∧
  (∀ (dt dseq ta index sub session : Nat) (value : List Octet) (m : MirMessage) (s : State), Quiet s → s.reg .TWN_MIR_STATE = 2 → m.checkOk = true →
    m.mseq = s.twin.rxSeq → s.twin.held = [] → dseq < 2 ^ 32 ∧ ta < 2 ^ 64 ∧ index < 65536 ∧ sub < 256 ∧ session < 65536 → value ≠ [] → m.payload =
    leOctets 4 dseq ++ leOctets 8 ta ++ leOctets 2 index ++ leOctets 1 sub ++ leOctets 2 session ++ leOctets 1 0 ++ value → s.twin.forwards = [] →
    Completes (.dictWrite dt m) s fun s0 t => t.twin =
    { s.twin with rxSeq := nextMseq m.mseq, lastDseq := dseq, writes := s.twin.writes ++ [⟨dseq, ta, index, sub, session, 0, value, false⟩], bulk := s.twin.bulk.filter fun q => q.1 != 128 + 256 }
    ∧ t.out = [.mirror 0x01 0 (leOctets 4 m.mseq)] ∧ OnlyChanges [.twin] noRegs s0 t) ∧
  (∀ (dt v session : Nat) (m : MirMessage) (s : State), Quiet s → s.reg .TWN_MIR_STATE = 2 → m.checkOk = true → m.mseq = s.twin.rxSeq → s.twin.held =
    [] → s.reg .TWN_STATE = 5 → 1000 ≤ v ∧ v ≤ 16000 ∧ session < 65536 → m.payload = leOctets 2 0x9002 ++ leOctets 1 0 ++ leOctets 2 session ++
    (leOctets 2 v) → Completes (.dictForward dt m) s fun s0 t => t.twin.lastDseq = (s.twin.lastDseq + 1) % 2 ^ 32 ∧ t.twin.writes = s.twin.writes ++
    [⟨(s.twin.lastDseq + 1) % 2 ^ 32, s0.applyTime, 0x9002, 0, session, 0, (leOctets 2 v), false⟩] ∧ t.out = [.mirror 0x01 0 (leOctets 4 m.mseq),
    .mirror 0x30 s.twin.txSeq (leOctets 4 ((s.twin.lastDseq + 1) % 2 ^ 32) ++ leOctets 8 s0.applyTime ++ leOctets 2 0x9002 ++ leOctets 1 0 ++ leOctets
    2 session ++ leOctets 1 0 ++ (leOctets 2 v))] ∧ OnlyChanges [.twin] noRegs s0 t) ∧
  (∀ (dt status : Nat) (f : MirForward) (rest : List MirForward) (m : MirMessage) (s : State), Quiet s → s.reg .TWN_MIR_STATE = 2 → m.checkOk = true →
    m.mseq = s.twin.rxSeq → s.twin.held = [] → s.twin.forwards = f :: rest → s.session f.session = none → status < 256 → m.payload = leOctets 4 0 ++
    leOctets 1 status → Completes (.dictStatus dt m) s fun s0 t => t.twin = { s.twin with rxSeq := nextMseq m.mseq, forwards := rest } ∧ t.out =
    [.mirror 0x01 0 (leOctets 4 m.mseq)] ∧ OnlyChanges [.twin] noRegs s0 t) ∧
  (∀ (dt v : Nat) (w : MirWrite) (rest : List MirWrite) (s : State), s.reg .TWN_STATE = 5 → s.twin.writes = w :: rest → w.ta ≤ (s.elapse dt).now →
    w.index = 0x9002 ∧ w.sub = 0 ∧ w.mine = false → w.value = (leOctets 2 v) → 1000 ≤ v ∧ v ≤ 16000 → Completes (.mirrorWriteApply dt) s fun s0 t =>
    t.reg .LAN_TOTAL_LIMIT = v ∧ t.reg .TWN_DSEQ = w.dseq % 2 ^ dictBits .TWN_DSEQ ∧ t.reg .TWNCNT_DICT_MIRRORED = (s.reg .TWNCNT_DICT_MIRRORED + 1) %
    2 ^ 32 ∧ t.twin = { s.twin with writes := rest } ∧ t.out = [] ∧ OnlyChanges [.twin, .drum, .log] (andDrum (among [.LAN_TOTAL_LIMIT, .TWN_DSEQ,
    .TWNCNT_DICT_MIRRORED])) s0 t) ∧
  (∀ (dt g code : Nat) (m : MirMessage) (s : State), Quiet s → s.reg .TWN_MIR_STATE = 2 → m.checkOk = true → m.mseq = s.twin.rxSeq → s.twin.held = []
    → g < 16 ∧ code < 256 → m.payload = [3, BitVec.ofNat 8 g, BitVec.ofNat 8 code] → s.twin.pushed.contains (3, g, m.sent) = false → s.lantern.tiedOn
    = false → s.flag (.LAN_RAIL_TIED g) = true → Completes (.statePush dt m) s fun s0 t => t.reg (.LAN_RAIL_CODE g) = code ∧ t.twin =
    { s.twin with rxSeq := nextMseq m.mseq } ∧ t.out = [.mirror 0x01 0 (leOctets 4 m.mseq)] ∧ OnlyChanges [.twin] (among [.LAN_RAIL_CODE g]) s0 t) ∧
  (∀ (dt object : Nat) (data : List Octet) (m : MirMessage) (s : State), Quiet s → s.reg .TWN_MIR_STATE = 2 → m.checkOk = true → m.mseq = s.twin.rxSeq
    → s.twin.held = [] → object < 256 ∧ data ≠ [] → m.payload = leOctets 1 object ++ leOctets 4 0 ++ data → s.twin.bulk = [] → Completes (.mirrorBulk
    dt m) s fun s0 t => t.twin = { s.twin with rxSeq := nextMseq m.mseq, bulk := [(object, data)] } ∧ t.out = [.mirror 0x01 0 (leOctets 4 m.mseq)] ∧
    OnlyChanges [.twin] noRegs s0 t)

/-- Sessions of the dictionary protocol open, answer and end -/
def Obligations.SessionsOpenAnswerAndEnd : Prop :=
  (∀ (dt : Nat) (h : IdpHead) (nonce : List Octet) (s : State), s.reg .SYS_STATE = 3 → h.checkOk = true → h.source.transport = 0 → nonce.length = 16 →
    s.sessionFree 0 = true → Completes (.idpOpen dt h nonce) s fun s0 t => t.out = [.idp h.source (idpOctets 0x81 (freeNumber (s.idp.sessions.map
    Session.number) 17 s.idp.nextNumber) h.seq 0 (leOctets 2 (freeNumber (s.idp.sessions.map Session.number) 17 s.idp.nextNumber) ++ leOctets 16
    (Config.freeValue s.fresh) ++ leOctets 8 s.unit.eui64 ++ leOctets 2 (s.reg .DIC_BEHAVIOUR_LEVEL) ++ leOctets 2 1400) none)] ∧
    t.idp.sessions.length = s.idp.sessions.length + 1 ∧ t.idp.sessions.take s.idp.sessions.length = s.idp.sessions ∧ t.idp.sessions.getLast?.map (fun
    x => (x.number, x.source, x.level)) = some ((freeNumber (s.idp.sessions.map Session.number) 17 s.idp.nextNumber), h.source, 0) ∧
    t.idp.sessions.getLast?.map (fun x => (x.unitNonce, x.clientNonce, x.key)) = some (leOctets 16 (Config.freeValue s.fresh), nonce, none) ∧ t.reg
    .DIC_SESSIONS_OPEN = (s.idp.sessions.length + 1) % 2 ^ dictBits .DIC_SESSIONS_OPEN ∧ t.fresh = s.fresh + 1 ∧ OnlyChanges [.idp, .fresh, .drum,
    .log] (andDrum (blocks [1])) s0 t) ∧
  (∀ (dt : Nat) (h : IdpHead) (x : Session) (s : State), s.reg .SYS_STATE = 3 → h.checkOk = true → s.session h.session = some x → x.source = h.source
    ∧ x.source.transport = 0 → x.key = none ∧ h.tag = none → h.seq = (x.lastSeq + 1) % 2 ^ 32 → x.running = none → ∀ k ∈ List.range 64, (s.link
    k).lock = none → (s.brg h.session).transfer = none → Completes (.idpClose dt h) s fun s0 t => t.session h.session = none ∧ (∀ y ∈ t.idp.sessions,
    y.number ≠ h.session → y ∈ s.idp.sessions) ∧ t.out = [.idp h.source (idpOctets (0x02 + 128) h.session h.seq 0 [] none)] ∧ OnlyChanges [.idp,
    .bridge, .ocu, .drum, .log] (andDrum (blocks [1])) s0 t) ∧
  (∀ (dt : Nat) (h : IdpHead) (x : Session) (s : State), Quiet s → s.reg .SYS_STATE = 3 → h.checkOk = true → s.session h.session = some x → x.source =
    h.source ∧ x.source.transport = 0 → x.key = none ∧ h.tag = none → h.seq = (x.lastSeq + 1) % 2 ^ 32 → x.running = none → Completes (.idpKeepalive
    dt h) s fun s0 t => t.session h.session = some
    { x with lastMessage := s.ticks + dt, lastSeq := h.seq, stored := some ⟨0x03, h.seq, 0, (leOctets 1 (s0.levelOf h.session) ++ leOctets 2 (s0.secondsTo x.windowEnd))⟩, running := none, waits := [] }
    ∧ (∀ y ∈ t.idp.sessions, y.number ≠ h.session → y ∈ s.idp.sessions) ∧ t.out = [.idp h.source (idpOctets (0x03 + 128) h.session h.seq 0 (leOctets 1
    (s0.levelOf h.session) ++ leOctets 2 (s0.secondsTo x.windowEnd)) none)] ∧ OnlyChanges [.idp] noRegs s0 t) ∧
  (∀ (dt : Nat) (h : IdpHead) (s : State), Quiet s → s.reg .SYS_STATE = 3 → h.checkOk = true → h.source.transport = 0 → s.session h.session = none →
    Completes (.idpKeepalive dt h) s fun s0 t => t.out = [.idp h.source (idpOctets 0x83 h.session h.seq 12 [] none)] ∧ OnlyChanges [] noRegs s0 t) ∧
  (∀ (dt : Nat) (x : Session) (s : State), Takes s 2 → s.idp.sessions = [x] → x.running = none → x.lastMessage + usTicks (s.reg .DIC_SESSION_TIMEOUT_S
    * 1000000) ≤ s.ticks + dt → ∀ k ∈ List.range 64, (s.link k).lock = none → (s.brg x.number).transfer = none → Completes (.sessionTimeout dt) s fun
    s0 t => t.idp.sessions = [] ∧ t.reg .DIC_SESSIONS_OPEN = 0 ∧ t.reg .DICCNT_SESSIONS_TIMED_OUT = (s.reg .DICCNT_SESSIONS_TIMED_OUT + 1) % 2 ^ 32 ∧
    Posted t 0x1002 2 (x.number + 1 * 2 ^ 16) ∧ t.out = [] ∧ OnlyChanges [.idp, .bridge, .ocu, .drum, .log] (andDrum (blocks [1])) s0 t) ∧
  (∀ (dt e : Nat) (x : Session) (s : State), Takes s 3 → s.idp.sessions = [x] → x.windowEnd = some e → e ≤ s.ticks + dt → Completes (.serviceWindowEnd
    dt) s fun s0 t => t.idp = { s.idp with sessions := [{ x with level := b2n x.provedKey, windowEnd := none }] } ∧ Posted t 0x1005 3 x.number ∧ t.out
    = [] ∧ OnlyChanges [.idp, .drum, .log] drumRegs s0 t) ∧
  (∀ (dt : Nat) (s : State), Quiet s → ∀ a ∈ s.idp.auth, ∀ e ∈ a.lockedUntil.toList, e ≤ s.ticks + dt → Completes (.lockoutEnd dt) s fun s0 t => t.idp
    = { s.idp with auth := s.idp.auth.filter fun a => a.lockedUntil.isNone } ∧ t.out = [] ∧ OnlyChanges [.idp] noRegs s0 t) ∧
  (∀ (dt : Nat) (message : List Octet) (h : IdpHead) (x : Session) (s : State), Quiet s → s.reg .SYS_STATE = 3 → parseIdp spiSource message = (h,
    0x03, []) → h.checkOk = true → s.session h.session = some x → x.source = spiSource ∧ h.source = spiSource → x.key = none ∧ h.tag = none → h.seq =
    (x.lastSeq + 1) % 2 ^ 32 → x.running = none → Completes (.spiRequest dt message) s fun s0 t => t.idp.spiWaiting = some (idpOctets 0x83 h.session
    h.seq 0 (leOctets 1 (s0.levelOf h.session) ++ leOctets 2 (s0.secondsTo x.windowEnd)) none) ∧ t.session h.session = some
    { x with lastMessage := s.ticks + dt, lastSeq := h.seq, stored := some ⟨0x03, h.seq, 0, (leOctets 1 (s0.levelOf h.session) ++ leOctets 2 (s0.secondsTo x.windowEnd))⟩, running := none, waits := [] }
    ∧ t.out = [] ∧ OnlyChanges [.idp] noRegs s0 t) ∧
  (∀ (dt : Nat) (s : State), Quiet s → Completes (.spiReadResponse dt) s fun s0 t => t.idp = { s.idp with spiWaiting := none } ∧ t.out = [.spi
    (leOctets 2 (s.idp.spiWaiting.getD []).length ++ s.idp.spiWaiting.getD [])] ∧ OnlyChanges [.idp] noRegs s0 t) ∧
  (∀ (dt : Nat) (s : State), Quiet s → s.reg .SYS_STATE = 3 → Completes (.spiStatus dt) s fun s0 t => t.out = [.spi (leOctets 1 (b2n
    s.idp.spiWaiting.isSome + 2))] ∧ OnlyChanges [] noRegs s0 t) ∧
  (∀ (dt port source transaction : Nat) (message : List Octet) (h : IdpHead) (x : Session) (s : State), port < 8 → s.smap.ports.length = 8 →
    s.rdmForUs port ⟨true, s.unit.rdmUid, source, transaction, 1, 0x30, 0x8A00, message⟩ = true → rdmBroadcast s.unit.rdmUid = false → s.flag
    .DIC_RDM_IDP = true → s.reg .SYS_STATE = 3 → parseIdp ⟨1, source, 0, port⟩ message = (h, 0x03, []) → h.checkOk = true → s.session h.session = some
    x → x.source = ⟨1, source, 0, port⟩ ∧ h.source = ⟨1, source, 0, port⟩ → x.key = none ∧ h.tag = none → h.seq = (x.lastSeq + 1) % 2 ^ 32 → x.running
    = none → Completes (.rdmIdpSet dt port s.unit.rdmUid source transaction message true) s fun s0 t => t.out = [.rdm port (rdmFrame source
    s.unit.rdmUid transaction 0 (min 255 (s.dmx port).queue.length) 0x31 0x8A00 (idpOctets 0x83 h.session h.seq 0 (leOctets 1 (s0.levelOf h.session)
    ++ leOctets 2 (s0.secondsTo x.windowEnd)) none))] ∧ t.session h.session = some
    { x with lastMessage := s.ticks + dt, lastSeq := h.seq, stored := some ⟨0x03, h.seq, 0, (leOctets 1 (s0.levelOf h.session) ++ leOctets 2 (s0.secondsTo x.windowEnd))⟩, running := none, waits := [] }
    ∧ (t.dmx port).queue = (s.dmx port).queue ∧ OnlyChanges [.idp, .smap, .drum, .log] (andDrum (among [.DMXCNT_RDM_REQUESTS port])) s0 t)

/-- Operator and service authentication raise the level of a session, and failures are counted -/
def Obligations.AuthenticationRaisesLevels : Prop :=
  (∀ (dt : Nat) (h : IdpHead) (proof : List Octet) (x : Session) (s : State), Takes s 3 → s.reg .SYS_STATE = 3 → h.checkOk = true → s.session
    h.session = some x → x.source = h.source ∧ x.source.transport = 0 → x.key = none ∧ h.tag = none → h.seq = (x.lastSeq + 1) % 2 ^ 32 → x.running =
    none → s.reg .SYS_STATE = 3 → s.idp.installKey ≠ [] → proof.length = 32 → proof = operatorProof s.idp.installKey s.unit.eui64 x → (s.elapse
    dt).lockedOut h.source = false → Completes (.authOperator dt h proof) s fun s0 t => (t.session h.session).map (fun y => (y.level, y.provedKey,
    y.key)) = some (max 1 x.level, true, some (operatorKey s.idp.installKey x)) ∧ (t.session h.session).map (fun y => (y.lastSeq, y.windowEnd)) = some
    (h.seq, x.windowEnd) ∧ (∀ y ∈ t.idp.sessions, y.number ≠ h.session → y ∈ s.idp.sessions) ∧ Posted t 0x1003 3 h.session ∧ t.out = [.idp h.source
    (idpOctets (0x04 + 128) h.session h.seq 0 (leOctets 1 (max 1 (s0.levelOf h.session))) (some (operatorKey s.idp.installKey x)))] ∧ OnlyChanges
    [.idp, .drum, .log] drumRegs s0 t) ∧
  (∀ (dt : Nat) (h : IdpHead) (proof : List Octet) (x : Session) (s : State), Takes s 4 → s.reg .SYS_STATE = 3 → h.checkOk = true → s.session
    h.session = some x → x.source = h.source ∧ x.source.transport = 0 → x.key = none ∧ h.tag = none → h.seq = (x.lastSeq + 1) % 2 ^ 32 → x.running =
    none → s.idp.installKey ≠ [] → proof.length = 32 → proof ≠ operatorProof s.idp.installKey s.unit.eui64 x → (s.elapse dt).lockedOut h.source =
    false → Completes (.authOperator dt h proof) s fun s0 t => (t.session h.session).map (fun y => (y.level, y.provedKey, y.key)) = some (x.level,
    x.provedKey, none) ∧ t.reg .DICCNT_AUTH_OPERATOR_FAIL = (s.reg .DICCNT_AUTH_OPERATOR_FAIL + 1) % 2 ^ 32 ∧ Posted t 0x1006 4 h.session ∧ t.out =
    [.idp h.source (idpOctets (0x04 + 128) h.session h.seq 13 [] none)] ∧ OnlyChanges [.idp, .drum, .log] (andDrum (blocks [1])) s0 t) ∧
  (∀ (dt : Nat) (h : IdpHead) (proof : List Octet) (x : Session) (s : State), Quiet s → s.reg .SYS_STATE = 3 → h.checkOk = true → s.session h.session
    = some x → x.source = h.source ∧ x.source.transport = 0 → x.key = none ∧ h.tag = none → h.seq = (x.lastSeq + 1) % 2 ^ 32 → x.running = none →
    proof.length = 32 → (s.elapse dt).lockedOut h.source = true → Completes (.authOperator dt h proof) s fun s0 t => t.session h.session = some
    { x with lastMessage := s.ticks + dt, lastSeq := h.seq, stored := some ⟨0x04, h.seq, 14, []⟩, running := none, waits := [] } ∧ t.out = [.idp
    h.source (idpOctets (0x04 + 128) h.session h.seq 14 [] none)] ∧ OnlyChanges [.idp] noRegs s0 t) ∧
  (∀ (dt slot : Nat) (h : IdpHead) (key : List Octet) (x : Session) (s : State), Quiet s → s.reg .SYS_STATE = 3 → h.checkOk = true → s.session
    h.session = some x → x.source = h.source ∧ x.source.transport = 0 → x.key = none ∧ h.tag = none → h.seq = (x.lastSeq + 1) % 2 ^ 32 → x.running =
    none → slot < 256 → s.slotKey slot ≠ [] → key.length = 65 ∧ key.head? = some 0x04 → (s.elapse dt).levelOf h.session ≠ 2 → Completes (.challenge dt
    h slot key) s fun s0 t => ((Config.ephemeralKey (s.fresh + 1)).length = 65 → t.session h.session = some
    { x with lastMessage := s.ticks + dt, lastSeq := h.seq, stored := some ⟨0x05, h.seq, 0, (asciiOctets ['I', 'Z', 'S', 'V'] ++ leOctets 8 s.unit.eui64 ++ leOctets 2 h.session ++ leOctets 1 slot ++ [0] ++ leOctets 32 (Config.freeValue s.fresh) ++ leOctets 8 (s0.now + 60000000000) ++ Config.ephemeralKey (s.fresh + 1))⟩, running := none, waits := [], challenge := some ⟨slot, (asciiOctets ['I', 'Z', 'S', 'V'] ++ leOctets 8 s.unit.eui64 ++ leOctets 2 h.session ++ leOctets 1 slot ++ [0] ++ leOctets 32 (Config.freeValue s.fresh) ++ leOctets 8 (s0.now + 60000000000) ++ Config.ephemeralKey (s.fresh + 1)), key, s.fresh + 1, s0.now + 60000000000⟩ }
    ∧ t.out = [.idp h.source (idpOctets (0x05 + 128) h.session h.seq 0 (asciiOctets ['I', 'Z', 'S', 'V'] ++ leOctets 8 s.unit.eui64 ++ leOctets 2
    h.session ++ leOctets 1 slot ++ [0] ++ leOctets 32 (Config.freeValue s.fresh) ++ leOctets 8 (s0.now + 60000000000) ++ Config.ephemeralKey (s.fresh
    + 1)) none)]) ∧ t.fresh = s.fresh + 2 ∧ OnlyChanges [.idp, .fresh] noRegs s0 t) ∧
  (∀ (dt : Nat) (h : IdpHead) (signature : List Octet) (x : Session) (c : Challenge) (s : State), Takes s 4 → s.reg .SYS_STATE = 3 → h.checkOk = true
    → s.session h.session = some x → x.source = h.source ∧ x.source.transport = 0 → x.key = none ∧ h.tag = none → h.seq = (x.lastSeq + 1) % 2 ^ 32 →
    x.running = none → x.challenge = some c → signature.length = 64 → (s.elapse dt).lockedOut h.source = false → (s.elapse dt).now ≤ c.expiry →
    Completes (.authService dt h signature) s fun s0 t => ((Config.ecdsaVerify (s.slotKey c.slot) (c.text ++ c.clientKey) signature = true → t.session
    h.session = some
    { x with lastMessage := s.ticks + dt, lastSeq := h.seq, stored := some ⟨0x06, h.seq, 0, leOctets 1 2 ++ leOctets 2 (s.reg .DIC_SERVICE_WINDOW_S)⟩, running := none, waits := [], challenge := none, level := 2, key := some (sha256 (Config.ecdhSharedX c.unitKey c.clientKey ++ slice c.text 16 32)), windowEnd := some (s.ticks + dt + usTicks (s.reg .DIC_SERVICE_WINDOW_S * 1000000)) }
    ∧ Posted t 0x1004 4 (h.session + c.slot * 2 ^ 16)) ∧ (Config.ecdsaVerify (s.slotKey c.slot) (c.text ++ c.clientKey) signature = false → t.session
    h.session = some
    { x with lastMessage := s.ticks + dt, lastSeq := h.seq, stored := some ⟨0x06, h.seq, 13, []⟩, running := none, waits := [], challenge := none } ∧
    Posted t 0x1006 4 (h.session + 2 ^ 16) ∧ t.reg .DICCNT_AUTH_SERVICE_FAIL = (s.reg .DICCNT_AUTH_SERVICE_FAIL + 1) % 2 ^ 32 ∧ t.out = [.idp h.source
    (idpOctets (0x06 + 128) h.session h.seq 13 [] none)])) ∧ OnlyChanges [.idp, .drum, .log] (andDrum (blocks [1])) s0 t)

/-- Elements are read and written, and DOMAIN entries travel in transfers -/
def Obligations.ReadsWritesAndTransfers : Prop :=
  (∀ (dt index sub : Nat) (h : IdpHead) (row : DictRow) (x : Session) (s : State), Quiet s → s.reg .SYS_STATE = 3 → h.checkOk = true → s.session
    h.session = some x → x.source = h.source ∧ x.source.transport = 0 → x.key = none ∧ h.tag = none → h.seq = (x.lastSeq + 1) % 2 ^ 32 → x.running =
    none → 0x4000 ≤ index ∧ index ≤ 0x9FFF ∧ sub < 255 → dictRow ⟨index, sub⟩ = some row → row.access ≠ .wo ∧ row.type.octetLen ≠ 0 → sub = 0 →
    composite index = false → Completes (.idpRead dt h [(index, sub)]) s fun s0 t => t.session h.session = some
    { x with lastMessage := s.ticks + dt, lastSeq := h.seq, stored := some ⟨0x10, h.seq, 0, (leOctets 2 index ++ leOctets 1 sub ++ leOctets 1 0 ++ leOctets 1 row.type.code ++ leOctets 2 row.type.octetLen ++ leOctets row.type.octetLen (s.reg ⟨index, sub⟩))⟩, running := none, waits := [] }
    ∧ (∀ y ∈ t.idp.sessions, y.number ≠ h.session → y ∈ s.idp.sessions) ∧ t.out = [.idp h.source (idpOctets (0x10 + 128) h.session h.seq 0 (leOctets 2
    index ++ leOctets 1 sub ++ leOctets 1 0 ++ leOctets 1 row.type.code ++ leOctets 2 row.type.octetLen ++ leOctets row.type.octetLen (s.reg ⟨index,
    sub⟩)) none)] ∧ OnlyChanges [.idp] noRegs s0 t) ∧
  (∀ (dt v : Nat) (h : IdpHead) (x : Session) (s : State), Quiet s → s.reg .SYS_STATE = 3 → h.checkOk = true → s.session h.session = some x → x.source
    = h.source ∧ x.source.transport = 0 → x.key = none ∧ h.tag = none → h.seq = (x.lastSeq + 1) % 2 ^ 32 → x.running = none → 1 ≤ (s.elapse
    dt).levelOf h.session → s.reg .TWN_STATE = 2 → 1000 ≤ v ∧ v ≤ 16000 → Completes (.idpWrite dt h [⟨0x9002, 0, 0x03, (leOctets 2 v)⟩]) s fun s0 t =>
    t.reg .LAN_TOTAL_LIMIT = v ∧ t.session h.session = some
    { x with lastMessage := s.ticks + dt, lastSeq := h.seq, stored := some ⟨0x11, h.seq, 0, (leOctets 2 0x9002 ++ leOctets 1 0 ++ leOctets 1 0)⟩, running := none, waits := [] }
    ∧ (∀ y ∈ t.idp.sessions, y.number ≠ h.session → y ∈ s.idp.sessions) ∧ t.out = [.idp h.source (idpOctets (0x11 + 128) h.session h.seq 0 (leOctets 2
    0x9002 ++ leOctets 1 0 ++ leOctets 1 0) none)] ∧ OnlyChanges [.idp] (among [.LAN_TOTAL_LIMIT]) s0 t) ∧
  (∀ (dt who index sub v l : Nat) (row : DictRow) (s : State), Quiet s → s.reg .TWN_STATE = 2 → 0x4000 ≤ index ∧ index ≤ 0x9FFF ∧ sub < 255 → dictRow
    ⟨index, sub⟩ = some row → sub = 0 → composite index = false → row.type.octetLen ≠ 0 → pairEntries.flatten.contains index = false → writeLevel
    ⟨index, sub⟩ = some l ∧ l ≤ (s.elapse dt).levelOf who → inRange ⟨index, sub⟩ v = true → isRwf ⟨index, sub⟩ = false ∧ s.changePending ⟨index, sub⟩
    = false ∧ s.valueRefused ⟨index, sub⟩ v = false → behaviour who ⟨index, sub⟩ v = none → (⟨index, sub⟩ : Reg) ≠ .BEL_TRACE_FILTER → Completes
    (.registerWrite dt who ⟨index, sub, row.type.code, leOctets row.type.octetLen v⟩) s fun s0 t => t.reg ⟨index, sub⟩ = v ∧ t.out = [.reply 0] ∧
    OnlyChanges [] (among [⟨index, sub⟩]) s0 t) ∧
  (∀ (dt who v : Nat) (s : State), Quiet s → s.reg .TWN_STATE = 2 → 1 ≤ (s.elapse dt).levelOf who → v < 1000 ∨ 16000 < v → v < 65536 → Completes
    (.registerWrite dt who ⟨0x9002, 0, 0x03, (leOctets 2 v)⟩) s fun s0 t => t.out = [.reply 8] ∧ OnlyChanges [] noRegs s0 t) ∧
  (∀ (dt : Nat) (h : IdpHead) (x : Session) (s : State), Quiet s → s.reg .SYS_STATE = 3 → h.checkOk = true → s.session h.session = some x → x.source =
    h.source ∧ x.source.transport = 0 → x.key = none ∧ h.tag = none → h.seq = (x.lastSeq + 1) % 2 ^ 32 → x.running = none → x.transfer = none →
    Completes (.domainRead dt h 0xC000 0) s fun s0 t => t.session h.session = some
    { x with lastMessage := s.ticks + dt, lastSeq := h.seq, stored := some ⟨0x20, h.seq, 0, (domainHead (wordOctets 16 s.smap.admin))⟩, running := none, waits := [], transfer := some ⟨0xC000, 0, false, (wordOctets 16 s.smap.admin).length, wordOctets 16 s.smap.admin⟩ }
    ∧ (∀ y ∈ t.idp.sessions, y.number ≠ h.session → y ∈ s.idp.sessions) ∧ t.out = [.idp h.source (idpOctets (0x20 + 128) h.session h.seq 0 (domainHead
    (wordOctets 16 s.smap.admin)) none)] ∧ OnlyChanges [.idp] noRegs s0 t) ∧
  (∀ (dt total : Nat) (h : IdpHead) (x : Session) (s : State), Quiet s → s.reg .SYS_STATE = 3 → h.checkOk = true → s.session h.session = some x →
    x.source = h.source ∧ x.source.transport = 0 → x.key = none ∧ h.tag = none → h.seq = (x.lastSeq + 1) % 2 ^ 32 → x.running = none → 1 ≤ (s.elapse
    dt).levelOf h.session → x.transfer = none → s.stagingUsed + total ≤ 8388608 → Completes (.domainWrite dt h 0xC000 0 total) s fun s0 t => t.session
    h.session = some
    { x with lastMessage := s.ticks + dt, lastSeq := h.seq, stored := some ⟨0x21, h.seq, 0, []⟩, running := none, waits := [], transfer := some ⟨0xC000, 0, true, total, []⟩ }
    ∧ (∀ y ∈ t.idp.sessions, y.number ≠ h.session → y ∈ s.idp.sessions) ∧ t.out = [.idp h.source (idpOctets (0x21 + 128) h.session h.seq 0 [] none)] ∧
    OnlyChanges [.idp] noRegs s0 t) ∧
  (∀ (dt : Nat) (h : IdpHead) (data : List Octet) (x : Session) (d : DomainTransfer) (s : State), Quiet s → s.reg .SYS_STATE = 3 → h.checkOk = true →
    s.session h.session = some x → x.source = h.source ∧ x.source.transport = 0 → x.key = none ∧ h.tag = none → h.seq = (x.lastSeq + 1) % 2 ^ 32 →
    x.running = none → x.transfer = some d → d.writing = true → d.data.length + data.length ≤ d.total → d.data.length < 2 ^ 32 → Completes
    (.domainSegment dt h d.data.length data) s fun s0 t => t.session h.session = some
    { x with lastMessage := s.ticks + dt, lastSeq := h.seq, stored := some ⟨0x22, h.seq, 0, (leOctets 4 d.data.length)⟩, running := none, waits := [], transfer := some { d with data := d.data ++ data } }
    ∧ (∀ y ∈ t.idp.sessions, y.number ≠ h.session → y ∈ s.idp.sessions) ∧ t.out = [.idp h.source (idpOctets (0x22 + 128) h.session h.seq 0 (leOctets 4
    d.data.length) none)] ∧ OnlyChanges [.idp] noRegs s0 t) ∧
  (∀ (dt : Nat) (h : IdpHead) (x : Session) (d : DomainTransfer) (s : State), Quiet s → s.reg .SYS_STATE = 3 → h.checkOk = true → s.session h.session
    = some x → x.source = h.source ∧ x.source.transport = 0 → x.key = none ∧ h.tag = none → h.seq = (x.lastSeq + 1) % 2 ^ 32 → x.running = none → 1 ≤
    (s.elapse dt).levelOf h.session → s.reg .TWN_STATE = 2 → s.reg .MAP_CHANGE = 0 → x.transfer = some d → d.writing = true ∧ d.index = 0xC000 ∧ d.sub
    = 0 → d.data.length = d.total ∧ d.total % 16 = 0 → Completes (.domainEnd dt h (some (crcOf crc32c d.data))) s fun s0 t => t.smap =
    { s.smap with admin := octetWords 16 d.data } ∧ t.session h.session = some
    { x with lastMessage := s.ticks + dt, lastSeq := h.seq, stored := some ⟨0x23, h.seq, 0, []⟩, running := none, waits := [], transfer := none } ∧ (∀
    y ∈ t.idp.sessions, y.number ≠ h.session → y ∈ s.idp.sessions) ∧ t.out = [.idp h.source (idpOctets (0x23 + 128) h.session h.seq 0 [] none)] ∧
    OnlyChanges [.idp, .smap] noRegs s0 t) ∧
  (∀ (dt : Nat) (h : IdpHead) (x : Session) (s : State), Quiet s → s.reg .SYS_STATE = 3 → h.checkOk = true → s.session h.session = some x → x.source =
    h.source ∧ x.source.transport = 0 → x.key = none ∧ h.tag = none → h.seq = (x.lastSeq + 1) % 2 ^ 32 → x.running = none → x.transfer.isSome = true →
    Completes (.domainAbort dt h) s fun s0 t => t.session h.session = some
    { x with lastMessage := s.ticks + dt, lastSeq := h.seq, stored := some ⟨0x24, h.seq, 16, []⟩, running := none, waits := [], transfer := none } ∧
    (∀ y ∈ t.idp.sessions, y.number ≠ h.session → y ∈ s.idp.sessions) ∧ t.out = [.idp h.source (idpOctets (0x24 + 128) h.session h.seq 16 [] none)] ∧
    OnlyChanges [.idp] noRegs s0 t)

/-- Profiles are captured and saved, the keys of the access record are set, and the unit restarts -/
def Obligations.ProfilesAndKeysAreStored : Prop :=
  (∀ (dt who value : Nat) (s : State), Quiet s → 1 ≤ (s.elapse dt).levelOf who → value < 4 → s.idp.save = none → Completes (.dicProfileSave dt who
    value) s fun s0 t => t.idp.save.map (fun y => (y.slot, y.image.profile, y.image.role, y.image.generation, y.image.records)) = some (s.freeSlotOf,
    value, s.reg .DIC_ROLE, (((s.storedProfile value).map fun p => p.generation + 1).getD 1) % 2 ^ 32, s.persistents) ∧ t.reg .DIC_PROFILE_STATUS = 1
    ∧ t.out = [.reply 0] ∧ OnlyChanges [.idp] (among [.DIC_PROFILE_STATUS]) s0 t) ∧
  (∀ (dt who value : Nat) (s : State), Quiet s → 1 ≤ (s.elapse dt).levelOf who → value < 4 → s.idp.save.isSome = true → Completes (.dicProfileSave dt
    who value) s fun s0 t => t.out = [.reply 10] ∧ OnlyChanges [] noRegs s0 t) ∧
  (∀ (dt : Nat) (x : SaveInProgress) (s : State), Takes s 2 → s.idp.save = some x → Completes (.profileSaveDone dt true) s fun s0 t => t.idp =
    { s.idp with save := none, slots := setNth s.idp.slots x.slot (some x.image) } ∧ t.reg .DIC_PROFILE_STATUS = 2 ∧ t.reg .DICCNT_PROFILE_SAVES =
    (s.reg .DICCNT_PROFILE_SAVES + 1) % 2 ^ 32 ∧ Posted t 0x1020 2 (x.image.profile + x.image.generation * 4) ∧ t.out = [] ∧ OnlyChanges [.idp, .drum,
    .log] (andDrum (blocks [1])) s0 t) ∧
  (∀ (dt : Nat) (x : SaveInProgress) (s : State), Takes s 5 → s.idp.save = some x → Completes (.profileSaveDone dt false) s fun s0 t => t.idp =
    { s.idp with save := none } ∧ t.reg .DIC_PROFILE_STATUS = 3 ∧ t.reg .DICCNT_PROFILE_SAVE_FAIL = (s.reg .DICCNT_PROFILE_SAVE_FAIL + 1) % 2 ^ 32 ∧
    Posted t 0x1021 5 x.image.profile ∧ t.out = [] ∧ OnlyChanges [.idp, .drum, .log] (andDrum (among [.DIC_PROFILE_STATUS,
    .DICCNT_PROFILE_SAVE_FAIL])) s0 t) ∧
  (∀ (dt who : Nat) (s : State), Quiet s → 1 ≤ (s.elapse dt).levelOf who → s.idp.save = none → Completes (.dicProfileCreate dt who 1) s fun s0 t =>
    t.idp.save.map (fun y => (y.slot, y.image.profile, y.image.role, y.image.records)) = some (s.freeSlotOf, s.reg (.DIC_PROFILE_CREATE 1), s.reg
    (.DIC_PROFILE_CREATE 2), factoryRecords (s.reg (.DIC_PROFILE_CREATE 2))) ∧ t.reg .DIC_PROFILE_STATUS = 1 ∧ t.out = [.reply 0] ∧ OnlyChanges [.idp]
    (among [.DIC_PROFILE_STATUS]) s0 t) ∧
  (∀ (dt who : Nat) (s : State), 1 ≤ (s.elapse dt).levelOf who → s.sys.releasedAt.isSome = true → Completes (.dicRestart dt who 1) s fun s0 t =>
    Restarted true s0 t ∧ t.sys.cause = setBitTo s.sys.cause 5 true ∧ t.out = [.reply 0]) ∧
  (∀ (dt who : Nat) (key : List Octet) (s : State), Takes s 5 → (s.elapse dt).mayInstall who = true → key.length = 32 → key.all (· == 0) = false →
    Completes (.dicInstallKey dt who key) s fun s0 t => t.idp = { s.idp with installKey := key } ∧ t.reg .DIC_INSTALL_KEY_STATE = 1 ∧ t.reg
    .DIC_INSTALL_KEY_ID = keyId key % 2 ^ dictBits .DIC_INSTALL_KEY_ID ∧ Posted t 0x1008 5 (keyId key) ∧ t.out = [.reply 0] ∧ OnlyChanges [.idp,
    .drum, .log] (andDrum (among [.DIC_INSTALL_KEY_STATE, .DIC_INSTALL_KEY_ID, .DIC_SERVICE_KEY_ID])) s0 t) ∧
  (∀ (dt who : Nat) (key : List Octet) (s : State), Takes s 5 → 2 ≤ (s.elapse dt).levelOf who → key.length = 65 → Completes (.dicServiceKeyIntegrator
    dt who key) s fun s0 t => t.idp = { s.idp with integratorKey := key } ∧ t.reg .DIC_SERVICE_KEY_ID = keyId key % 2 ^ dictBits .DIC_SERVICE_KEY_ID ∧
    Posted t 0x1009 5 (keyId key) ∧ t.out = [.reply 0] ∧ OnlyChanges [.idp, .drum, .log] (andDrum (among [.DIC_INSTALL_KEY_STATE, .DIC_INSTALL_KEY_ID,
    .DIC_SERVICE_KEY_ID])) s0 t)

/-- Chain words and DISCOVER give neighbours and addresses -/
def Obligations.ChainAddressesAreFoundAndTaken : Prop :=
  (∀ (dt word : Nat) (s : State), Quiet s → field word 63 60 = 11 ∧ field word 7 0 = crcOf crc8 (beOctets 7 (word / 256)) → bitOf word 59 = false ∧
    bitOf word 58 = false → Completes (.chainInWord dt word) s fun s0 t => t.chain =
    { s.chain with word := some ⟨false, false, bitOf word 57, field word 55 48, field word 47 40, field word 39 8⟩, wordAt := s.ticks + dt, idle := false, keepSeen := (false, s.chain.keepSeen.2) }
    ∧ t.out = [] ∧ OnlyChanges [.chain] noRegs s0 t) ∧
  (∀ (dt word : Nat) (b : BootRecord) (s : State), Takes s 2 → field word 63 60 = 11 ∧ field word 7 0 = crcOf crc8 (beOctets 7 (word / 256)) → bitOf
    word 59 = true ∧ bitOf word 58 = false → s.update.boot = some b → s.chain.adopting = false → s.idp.sessions = [] → s.reg .CHN_ADDRESS = 0 → field
    word 47 40 < 255 → (s.chain.heard.any fun h => !h.netb && h.address == field word 55 48 * 256 + field word 47 40 && h.sender % 2 ^ 32 == field
    word 39 8 && Nat.ble (s.ticks + dt) (h.heardAt + msTicks 2000)) = true → Completes (.chainInWord dt word) s fun s0 t => t.reg .CHN_ADDRESS =
    (field word 55 48 * 256 + field word 47 40 + 1) ∧ t.reg .CHN_STATE = 2 ∧ t.reg .CHNCNT_ADDRESS_CHANGES = (s.reg .CHNCNT_ADDRESS_CHANGES + 1) % 2 ^
    32 ∧ t.update.boot = some { b with address := (field word 55 48 * 256 + field word 47 40 + 1), generation := (b.generation + 1) % 2 ^ 32 } ∧
    t.chain.confirmed = true ∧ Posted t 0xE001 2 ((field word 55 48 * 256 + field word 47 40 + 1) + 1 * 65536) ∧ t.out.length = 2 ∧ OnlyChanges
    [.chain, .update, .drum, .log] (andDrum (blocks [2, 14])) s0 t) ∧
  (∀ (dt word : Nat) (s : State), Quiet s → field word 63 60 ≠ 11 ∨ field word 7 0 ≠ crcOf crc8 (beOctets 7 (word / 256)) → Completes (.chainInWord dt
    word) s fun s0 t => t.out = [] ∧ OnlyChanges [] noRegs s0 t) ∧
  (∀ (dt : Nat) (s : State), Quiet s → s.chain.idle = false → s.chain.wordAt + 262144 ≤ s.ticks + dt → Completes (.chainInIdle dt) s fun s0 t =>
    t.chain = { s.chain with idle := true, wordAt := s.ticks + dt } ∧ t.out = [] ∧ OnlyChanges [.chain] noRegs s0 t) ∧
  (∀ (dt : Nat) (s : State), Quiet s → s.address ≠ 0 → s.chain.discoverAt + msTicks (s.reg .CHN_DISCOVER_MS) ≤ s.ticks + dt → Completes (.discoverSend
    dt) s fun s0 t => t.out = [.chain 0 0xFFFFFFFFFFFF (s0.chainOctets 0x01 0 (leOctets 1 (s.address / 256) ++ leOctets 1 ((if s.firmwareRuns then 0
    else 2) + (if s.reg .UPD_STATE = 0 then 0 else 4)) ++ s.profileWord ++ leOctets 4 (s.reg .UPD_RUNNING_SEQ))).1, .chain 1 0xFFFFFFFFFFFF
    (s0.chainOctets 0x01 0 (leOctets 1 (s.address / 256) ++ leOctets 1 ((if s.firmwareRuns then 0 else 2) + (if s.reg .UPD_STATE = 0 then 0 else 4))
    ++ s.profileWord ++ leOctets 4 (s.reg .UPD_RUNNING_SEQ))).1] ∧ t.chain.discoverAt = s.ticks + dt ∧ OnlyChanges [.chain] noRegs s0 t) ∧
  (∀ (dt chain flags profile generation : Nat) (h : ChainHead) (s : State), Quiet s → h.checkOk = true ∧ h.netb = false → s.chain.word = none → bitOf
    flags 0 = false → h.address = 0 ∨ h.address ≠ s.address → Completes (.chainDiscover dt h chain flags profile generation) s fun s0 t => t.chain =
    { s.chain with heard := ((⟨h.netb, h.address, h.sender, bitOf flags 0, chain, profile, generation, h.mac, s.ticks + dt⟩ : Heard) :: s.chain.heard.filter fun y => !(y.netb == h.netb && y.sender == h.sender)).take 16 }
    ∧ t.out = [] ∧ OnlyChanges [.chain] noRegs s0 t) ∧
  (∀ (dt chain flags profile generation : Nat) (h : ChainHead) (s : State), Takes s 5 → h.checkOk = true ∧ h.netb = false → s.chain.word = none →
    bitOf flags 0 = false → h.address ≠ 0 ∧ h.address = s.address ∧ h.sender ≠ s.unit.eui64 → s.reg .CHN_STATE ≠ 3 → Completes (.chainDiscover dt h
    chain flags profile generation) s fun s0 t => t.reg .CHN_STATE = 3 ∧ t.chain.conflictAt = some (s.ticks + dt) ∧ t.reg .CHNCNT_CONFLICTS = (s.reg
    .CHNCNT_CONFLICTS + 1) % 2 ^ 32 ∧ Posted t 0xE003 5 (h.address + h.sender % 2 ^ 26 * 65536) ∧ t.out = [] ∧ OnlyChanges [.chain, .drum, .log]
    (andDrum (among [.CHN_STATE, .CHNCNT_CONFLICTS])) s0 t) ∧
  (∀ (dt chain flags profile generation : Nat) (h : ChainHead) (b : BootRecord) (s : State), Takes s 2 → h.checkOk = true ∧ h.netb = false → bitOf
    flags 0 = true → chain < 256 → s.update.boot = some b → s.chain.adopting = false → s.idp.sessions = [] → s.reg .CHN_ADDRESS = 0 → s.chain.idle =
    true ∧ s.chain.wordAt + msTicks 1000 ≤ s.ticks + dt → Completes (.chainDiscover dt h chain flags profile generation) s fun s0 t => t.reg
    .CHN_ADDRESS = (chain * 256 + 1) ∧ t.reg .CHN_STATE = 2 ∧ t.reg .CHNCNT_ADDRESS_CHANGES = (s.reg .CHNCNT_ADDRESS_CHANGES + 1) % 2 ^ 32 ∧
    t.update.boot = some { b with address := (chain * 256 + 1), generation := (b.generation + 1) % 2 ^ 32 } ∧ t.chain.confirmed = true ∧ Posted t
    0xE001 2 ((chain * 256 + 1) + 0 * 65536) ∧ t.out.length = 2 ∧ OnlyChanges [.chain, .update, .drum, .log] (andDrum (blocks [2, 14])) s0 t) ∧
  (∀ (dt euiLow address : Nat) (h : ChainHead) (b : BootRecord) (s : State), Takes s 2 → h.checkOk = true ∧ h.netb = true → euiLow = s.unit.eui64 % 2
    ^ 32 → s.update.boot = some b → s.chain.adopting = false → s.idp.sessions = [] → s.reg .CHN_ADDRESS = 0 ∧ 0 < address ∧ address < 65536 →
    s.chain.idle = true ∧ s.chain.wordAt + msTicks 2000 ≤ s.ticks + dt → Completes (.discoverBack dt h euiLow address) s fun s0 t => t.reg
    .CHN_ADDRESS = address ∧ t.reg .CHN_STATE = 2 ∧ t.reg .CHNCNT_ADDRESS_CHANGES = (s.reg .CHNCNT_ADDRESS_CHANGES + 1) % 2 ^ 32 ∧ t.update.boot =
    some { b with address := address, generation := (b.generation + 1) % 2 ^ 32 } ∧ t.chain.confirmed = true ∧ Posted t 0xE001 2 (address + 2 * 65536)
    ∧ t.out.length = 2 ∧ OnlyChanges [.chain, .update, .drum, .log] (andDrum (blocks [2, 14])) s0 t) ∧
  (∀ (dt : Nat) (w : ChainWord) (s : State), Quiet s → s.chain.word = some w → 2 ≤ s.address % 256 → s.chain.idle = false ∧ w.addressed = false →
    s.chain.heard = [] → s.chain.backAt + msTicks 1000 ≤ s.ticks + dt → Completes (.discoverBackSend dt) s fun s0 t => t.out = [.chain 0
    0xFFFFFFFFFFFF (s0.chainOctets 0x02 0 (leOctets 4 w.euiLow ++ leOctets 2 (s.address - 1))).1] ∧ t.chain.backAt = s.ticks + dt ∧ OnlyChanges
    [.chain] noRegs s0 t) ∧
  (∀ (dt who : Nat) (b : BootRecord) (s : State), Takes s 2 → 1 ≤ (s.elapse dt).levelOf who → s.update.boot = some b → s.chain.adopting = false →
    s.idp.sessions = [] → 0 < s.reg .CHN_ADDR_PROPOSED ∧ s.reg .CHN_ADDR_PROPOSED < 65536 → s.reg .CHN_ADDRESS = 0 → Completes (.chnAddrAccept dt who
    1) s fun s0 t => t.reg .CHN_ADDRESS = (s.reg .CHN_ADDR_PROPOSED) ∧ t.reg .CHN_STATE = 2 ∧ t.reg .CHNCNT_ADDRESS_CHANGES = (s.reg
    .CHNCNT_ADDRESS_CHANGES + 1) % 2 ^ 32 ∧ t.update.boot = some
    { b with address := (s.reg .CHN_ADDR_PROPOSED), generation := (b.generation + 1) % 2 ^ 32 } ∧ t.chain.confirmed = true ∧ Posted t 0xE001 2 ((s.reg
    .CHN_ADDR_PROPOSED) + s.chain.proposedCase * 65536) ∧ t.reg .CHN_ADDR_PROPOSED = 0 ∧ t.out.getLast? = some (.reply 0) ∧ OnlyChanges [.chain,
    .update, .drum, .log] (andDrum (blocks [2, 14])) s0 t) ∧
  (∀ (dt who : Nat) (s : State), Quiet s → 1 ≤ (s.elapse dt).levelOf who → s.reg .CHN_ADDR_PROPOSED = 0 → Completes (.chnAddrAccept dt who 1) s fun s0
    t => t.out = [.reply 15] ∧ OnlyChanges [] noRegs s0 t) ∧
  (∀ (dt e : Nat) (s : State), Quiet s → s.chain.conflictAt = some e → e + msTicks 5000 ≤ s.ticks + dt → Completes (.conflictClear dt) s fun s0 t =>
    t.chain = { s.chain with conflictAt := none } ∧ t.reg .CHN_STATE = (if s.chain.confirmed then 2 else 1) ∧ t.out = [] ∧ OnlyChanges [.chain] (among
    [.CHN_STATE]) s0 t)

/-- Backups are asked for, sent in segments and adopted -/
def Obligations.BackupsTravelBetweenNeighbours : Prop :=
  (∀ (dt address side : Nat) (h : ChainHead) (wrapKey access : List Octet) (image : ProfileImage) (s : State), Takes s 5 → h.checkOk = true → side ≤ 1
    → s.reg .SYS_STATE = 3 → s.backupFor address = some (image, access) → address < 65536 → Completes (.backupRequest dt h address side wrapKey) s fun
    s0 t => ((Config.certificateOk wrapKey = true ∧ Config.wrapKeyOk wrapKey = true → (t.chain.tx.head?).map (fun x => (x.netb, x.dest, x.sentAt,
    x.resends)) = some (h.netb, h.mac, s.ticks + dt, 0) ∧ t.fresh = s.fresh + 1 ∧ t.out.length = 1) ∧ (Config.certificateOk wrapKey = false → t.reg
    .CHNCNT_BACKUP_FAILS = (s.reg .CHNCNT_BACKUP_FAILS + 1) % 2 ^ 32 ∧ Posted t 0xE012 5 address ∧ t.out = [] ∧ t.fresh = s.fresh)) ∧ OnlyChanges
    [.chain, .fresh, .drum, .log] (andDrum (among [.CHNCNT_BACKUP_FAILS])) s0 t) ∧
  (∀ (dt total : Nat) (h : ChainHead) (data : List Octet) (r : BackupRx) (s : State), Quiet s → h.checkOk = true → s.chain.rx = [r] → r.side = b2n
    h.netb ∧ r.sender = h.sender → r.data.length + data.length < total → Completes (.backupData dt h r.data.length total data) s fun s0 t =>
    t.chain.rx = [{ r with data := r.data ++ data }] ∧ t.out = [.chain (b2n h.netb) h.mac (s0.chainOctets 0x12 0 (leOctets 4 r.data.length ++ leOctets
    1 0)).1] ∧ OnlyChanges [.chain] noRegs s0 t) ∧
  (∀ (dt : Nat) (h : ChainHead) (x : BackupTx) (o : Nat) (data : List Octet) (s : State), Quiet s → h.checkOk = true → s.chain.tx = [x] → x.netb =
    h.netb ∧ x.dest = h.mac → x.segments = [(o, data)] → Completes (.backupAck dt h o 0) s fun s0 t => t.chain = { s.chain with tx := [] } ∧ t.out =
    [] ∧ OnlyChanges [.chain] noRegs s0 t) ∧
  (∀ (dt : Nat) (h : ChainHead) (x : BackupTx) (a o : Nat) (d data : List Octet) (rest : List (Nat × List Octet)) (s : State), Quiet s → h.checkOk =
    true → s.chain.tx = [x] → x.netb = h.netb ∧ x.dest = h.mac → x.segments = (a, d) :: (o, data) :: rest → Completes (.backupAck dt h a 0) s fun s0 t
    => t.chain.tx = [{ x with segments := (o, data) :: rest, sentAt := s.ticks + dt, resends := 0 }] ∧ t.out = [.chain (b2n x.netb) x.dest
    (s0.chainOctets 0x11 0 (leOctets 4 o ++ leOctets 4 x.total ++ data)).1] ∧ OnlyChanges [.chain] noRegs s0 t) ∧
  (∀ (dt : Nat) (x : BackupTx) (o : Nat) (data : List Octet) (rest : List (Nat × List Octet)) (s : State), Quiet s → s.chain.tx = [x] → x.segments =
    (o, data) :: rest → x.sentAt + msTicks 20 ≤ s.ticks + dt → x.resends < 3 → Completes (.backupResend dt) s fun s0 t => t.chain.tx =
    [{ x with sentAt := s.ticks + dt, resends := x.resends + 1 }] ∧ t.out = [.chain (b2n x.netb) x.dest (s0.chainOctets 0x11 0 (leOctets 4 o ++
    leOctets 4 x.total ++ data)).1] ∧ OnlyChanges [.chain] noRegs s0 t) ∧
  (∀ (dt e : Nat) (s : State), Quiet s → s.chain.adopting = true → s.chain.asked = some (0, e) → (s.chain.rx.all fun r => !(r.adopt && r.side == 0) ||
    r.data.isEmpty) = true → e + msTicks 3000 ≤ s.ticks + dt → Completes (.backupRequestTimeout dt) s fun s0 t => t.chain.asked = some (1, s.ticks +
    dt) ∧ t.chain.rx = ⟨1, s.reg (.CHN_DOWNSTREAM 1), s.address, [], true, s.fresh⟩ :: s.chain.rx.filter (fun r => r.side != 1) ∧ t.out = [.chain 1
    s.chain.downMac (s0.chainOctets 0x10 0 (leOctets 2 s.address ++ leOctets 1 1 ++ Config.wrapKey s.fresh)).1] ∧ t.fresh = s.fresh + 1 ∧ OnlyChanges
    [.chain, .fresh] noRegs s0 t) ∧
  (∀ (dt : Nat) (s : State), s.chain.adopting = true → s.chain.adoptEnd ≤ s.ticks + dt → Completes (.adoptWaitExpiry dt) s fun _ t => t.chain.adopting
    = false ∧ t.reg .DIC_PROFILE_ACTIVE = 4 ∧ t.lantern.gridOn = true ∧ t.scan.gridOn = true)

/-- Images are offered, sent in blocks, relayed and fetched -/
def Obligations.ImagesAreOfferedAndRelayed : Prop :=
  (∀ (dt who : Nat) (b : BootRecord) (s : State), Quiet s → 1 ≤ (s.elapse dt).levelOf who → s.update.boot = some b → b.state = 0 → (s.elapse dt).now +
    60000000000 ≤ s.reg .UPD_START_TACT ∧ s.reg .UPD_START_TACT ≤ (s.elapse dt).now + 604800000000000 → 0 < s.reg .UPD_START_BLOCKS ∧ s.reg
    .UPD_START_BLOCKS ≤ 6144 → Completes (.updStartCommit dt who 1) s fun s0 t => t.update.run.map (fun r => (r.source, r.offer, r.judged, r.next)) =
    some (0, (⟨s.reg .UPD_START_ID, 0, 0, s.reg .UPD_START_BLOCKS, s.reg .UPD_START_TACT, s.reg .UPD_START_HEALTH_S, s.reg .UPD_START_FORWARD⟩ :
    Offer), false, 0) ∧ t.update.boot = some
    { b with state := 1, pendingId := s.reg .UPD_START_ID, tAct := s.reg .UPD_START_TACT, healthS := s.reg .UPD_START_HEALTH_S, generation := (b.generation + 1) % 2 ^ 32 }
    ∧ t.reg .UPD_STATE = 1 ∧ t.reg .UPD_BLOCKS_DONE = 0 ∧ t.out.length = 2 ∧ t.out.getLast? = some (.reply 0) ∧ OnlyChanges [.chain, .update] (blocks
    [2, 14]) s0 t) ∧
  (∀ (dt who : Nat) (s : State), Quiet s → 1 ≤ (s.elapse dt).levelOf who → s.reg .UPD_START_TACT < (s.elapse dt).now + 60000000000 → Completes
    (.updStartCommit dt who 1) s fun s0 t => t.out = [.reply 8] ∧ OnlyChanges [] noRegs s0 t) ∧
  (∀ (dt level seq size tAct healthS forward : Nat) (h : ChainHead) (b : BootRecord) (s : State), Takes s 2 → h.checkOk = true → s.update.boot = some
    b → b.state = 0 → tAct ≠ 0 → (s.elapse dt).offerReply (⟨h.imageId, level, seq, size, tAct, healthS, forward⟩ : Offer) = 0 → s.reg (.CHN_UPSTREAM
    1) = 0 ∧ s.reg (.CHN_DOWNSTREAM 1) = 0 → Completes (.imageOffer dt h level seq size tAct healthS forward) s fun s0 t => t.update.run = some ⟨if
    h.netb then 2 else 1, 0, (⟨h.imageId, level, seq, size, tAct, healthS, forward⟩ : Offer), false, 0, []⟩ ∧ t.update.boot = some
    { b with state := 1, pendingId := h.imageId, tAct := tAct, healthS := healthS, generation := (b.generation + 1) % 2 ^ 32 } ∧ t.reg .UPD_STATE = 1
    ∧ Posted t 0xE021 2 (idBits h.imageId) ∧ t.out = [.chain (b2n h.netb) h.mac (s0.chainOctets 0x21 h.imageId (leOctets 1 0)).1] ∧ OnlyChanges
    [.chain, .update, .drum, .log] (andDrum (blocks [2, 14])) s0 t) ∧
  (∀ (dt level seq size tAct healthS forward : Nat) (h : ChainHead) (s : State), Quiet s → h.checkOk = true → s.bootState ≠ 7 → tAct ≠ 0 → 2 ≤
    (s.elapse dt).offerReply (⟨h.imageId, level, seq, size, tAct, healthS, forward⟩ : Offer) → Completes (.imageOffer dt h level seq size tAct healthS
    forward) s fun s0 t => t.out = [.chain (b2n h.netb) h.mac (s0.chainOctets 0x21 h.imageId (leOctets 1 (s0.offerReply (⟨h.imageId, level, seq, size,
    tAct, healthS, forward⟩ : Offer)))).1] ∧ OnlyChanges [.chain] noRegs s0 t) ∧
  (∀ (dt : Nat) (h : ChainHead) (r : UpdateRun) (x : Relay) (s : State), Quiet s → h.checkOk = true → s.update.rescue = none → s.update.run = some r →
    r.relays = [x] → x.up = !h.netb → x.queued = [] → Completes (.offerReply dt h 0) s fun s0 t => t.update =
    { s.update with run := some { r with relays := [{ x with accepted := true, ackAt := s.ticks + dt }] } } ∧ t.out = [] ∧ OnlyChanges [.update]
    noRegs s0 t) ∧
  (∀ (dt reply : Nat) (h : ChainHead) (r : UpdateRun) (s : State), Quiet s → h.checkOk = true → s.update.rescue = none → s.update.run = some r → reply
    ≠ 0 → Completes (.offerReply dt h reply) s fun s0 t => t.update =
    { s.update with run := some { r with relays := r.relays.filter fun x => x.up != !h.netb } } ∧ t.out = [] ∧ OnlyChanges [.update] noRegs s0 t) ∧
  (∀ (dt k : Nat) (h : ChainHead) (data : List Octet) (r : UpdateRun) (s : State), h.checkOk = true → s.update.fetch = none → s.update.run = some r →
    r.source = 1 ∧ h.netb = false → r.relays = [] → k = r.next ∧ k < r.offer.blocks → k ≠ 0 ∨ r.judged = true → Completes (.imageBlock dt h k (crcOf
    crc32c data) data true) s fun s0 t => t.update.run = some { r with next := k + 1 } ∧ t.update.area = (k, data) :: s.update.area.filter (fun p =>
    p.1 != k) ∧ t.reg .UPD_BLOCKS_DONE = (k + 1) % 2 ^ dictBits .UPD_BLOCKS_DONE ∧ t.reg .CHNCNT_BLOCKS_RECEIVED = (s.reg .CHNCNT_BLOCKS_RECEIVED + 1)
    % 2 ^ 32 ∧ t.out = [.chain (b2n h.netb) h.mac (s0.chainOctets 0x23 h.imageId (leOctets 2 k ++ leOctets 1 0)).1] ∧ OnlyChanges [.chain, .update,
    .drum, .log] (andDrum (among [.UPD_BLOCKS_DONE, .CHNCNT_BLOCKS_RECEIVED])) s0 t) ∧
  (∀ (dt k crc : Nat) (h : ChainHead) (data : List Octet) (ok : Bool) (r : UpdateRun) (s : State), h.checkOk = true → s.update.fetch = none →
    s.update.run = some r → r.source = 1 ∧ h.netb = false → crc ≠ crcOf crc32c data → Completes (.imageBlock dt h k crc data ok) s fun s0 t => t.reg
    .CHNCNT_BLOCK_CHECK_FAIL = (s.reg .CHNCNT_BLOCK_CHECK_FAIL + 1) % 2 ^ 32 ∧ t.out = [.chain (b2n h.netb) h.mac (s0.chainOctets 0x23 h.imageId
    (leOctets 2 k ++ leOctets 1 1)).1] ∧ OnlyChanges [.chain, .drum, .log] (andDrum (among [.CHNCNT_BLOCK_CHECK_FAIL])) s0 t) ∧
  (∀ (dt k : Nat) (h : ChainHead) (r : UpdateRun) (x : Relay) (s : State), Quiet s → h.checkOk = true → s.update.rescue = none → s.update.run = some r
    → r.relays = [x] → x.up = !h.netb → x.queued = [] → Completes (.blockAck dt h k 0) s fun s0 t => t.update =
    { s.update with run := some { r with relays := [{ x with unacked := x.unacked.filter fun p => p.1 != k, lastAck := k, ackAt := s.ticks + dt }] } }
    ∧ t.out = [] ∧ OnlyChanges [.update] noRegs s0 t) ∧
  (∀ (dt k e : Nat) (d : List Octet) (r : UpdateRun) (x : Relay) (s : State), s.update.rescue = none → s.update.run = some r → r.relays = [x] →
    x.unacked = [(k, e, d)] → e + msTicks 200 ≤ s.ticks + dt → Completes (.blockResend dt) s fun s0 t => t.update.run = some
    { r with relays := [{ x with unacked := [(k, s.ticks + dt, d)] }] } ∧ t.out = [.chain (b2n (!x.up)) (s.neighbourMac x.up) (s0.chainOctets 0x22
    r.offer.imageId (leOctets 2 k ++ d ++ leOctets 4 (crcOf crc32c d))).1] ∧ t.reg .CHNCNT_BLOCKS_FORWARDED = (s.reg .CHNCNT_BLOCKS_FORWARDED + 1) % 2
    ^ 32 ∧ OnlyChanges [.chain, .update, .drum, .log] (andDrum (among [.CHNCNT_BLOCKS_FORWARDED])) s0 t) ∧
  (∀ (dt : Nat) (r : UpdateRun) (x : Relay) (s : State), Takes s 4 → s.update.rescue = none → s.update.run = some r → r.relays = [x] → x.unacked ≠ []
    → x.ackAt + msTicks 10000 ≤ s.ticks + dt → Completes (.relayStall dt) s fun s0 t => t.update =
    { s.update with run := some { r with relays := [] } } ∧ Posted t 0xE024 4 (b2n x.up + x.lastAck % 2 ^ 13 * 2) ∧ t.out = [] ∧ OnlyChanges [.update,
    .drum, .log] drumRegs s0 t) ∧
  (∀ (dt : Nat) (h : ChainHead) (x : List (List Octet)) (s : State), Quiet s → h.checkOk = true → s.bootState ≠ 0 → s.update.retained = some x →
    s.address ≠ 0 → s.reg .SYS_STATE = 3 → Completes (.imageFetch dt h s.address) s fun s0 t => t.update =
    { s.update with rescue := some ⟨h.netb, h.mac, x, 0, s.ticks + dt, s.ticks + dt⟩ } ∧ t.out = [.chain (b2n h.netb) h.mac (s0.chainOctets 0x20
    (imageId x) ((⟨imageId x, imageField x 6 2, imageField x 8 4, imageBlocks x, 0, 0, 0⟩ : Offer).payload)).1] ∧ OnlyChanges [.chain, .update] noRegs
    s0 t) ∧
  (∀ (dt : Nat) (f : Fetch) (s : State), Quiet s → s.update.fetch = some f → f.offer = none → s.bootState = 6 → s.address ≠ 0 → f.target ≠ 0 →
    f.sentAt + msTicks 1000 ≤ s.ticks + dt → s.ticks + dt < f.since + msTicks 5000 → Completes (.fetchRetry dt) s fun s0 t => t.update =
    { s.update with fetch := some { f with target := s.fetchTarget false, sentAt := s.ticks + dt } } ∧ t.out = [.chain 0 0xFFFFFFFFFFFF
    (s0.chainOctets 0x30 0 (leOctets 2 (s.fetchTarget false))).1, .chain 1 0xFFFFFFFFFFFF (s0.chainOctets 0x30 0 (leOctets 2 (s.fetchTarget
    false))).1] ∧ OnlyChanges [.chain, .update] noRegs s0 t)

/-- An update is verified, activated at its time, confirmed or undone -/
def Obligations.UpdatesAreVerifiedActivatedAndConfirmed : Prop :=
  (∀ (dt : Nat) (r : UpdateRun) (b : BootRecord) (s : State), Takes s 3 → s.update.fetch = none → s.update.run = some r → s.update.boot = some b →
    b.state = 1 → r.offer.blocks ≤ r.next → s.update.retained = none → Completes (.imageVerified dt) s fun s0 t => ((s.imageOk s.areaImage = true ∧
    imageId s.areaImage = r.offer.imageId → t.update.boot = some { b with state := 2, generation := (b.generation + 1) % 2 ^ 32 } ∧ t.reg .UPD_STATE =
    2 ∧ t.update.run = some r ∧ Posted t 0xE022 3 (idBits r.offer.imageId)) ∧ (¬(s.imageOk s.areaImage = true ∧ imageId s.areaImage = r.offer.imageId)
    → t.update.boot = some { b with state := 0, generation := (b.generation + 1) % 2 ^ 32 } ∧ t.reg .UPD_STATE = 0 ∧ t.update.run = none ∧ Posted t
    0xE023 5 (idBits r.offer.imageId))) ∧ t.out = [] ∧ OnlyChanges [.update, .drum, .log] (andDrum (blocks [2, 14])) s0 t) ∧
  (∀ (dt : Nat) (h : ChainHead) (r : UpdateRun) (b : BootRecord) (s : State), Takes s 3 → h.checkOk = true → s.update.run = some r → s.update.boot =
    some b → b.state = 1 ∨ b.state = 2 → s.reg (.CHN_UPSTREAM 1) = 0 ∧ s.reg (.CHN_DOWNSTREAM 1) = 0 → s.update.retained = none → Completes
    (.chainAbort dt h) s fun s0 t => t.update.boot = some { b with state := 0, generation := (b.generation + 1) % 2 ^ 32 } ∧ t.update.run = none ∧
    t.reg .UPD_STATE = 0 ∧ t.reg .UPD_LAST_RESULT = 3 ∧ Posted t 0xE028 3 (idBits r.offer.imageId) ∧ t.out = [] ∧ OnlyChanges [.update, .drum, .log]
    (andDrum (blocks [2, 14])) s0 t) ∧
  (∀ (dt who : Nat) (r : UpdateRun) (b : BootRecord) (s : State), Takes s 3 → 1 ≤ (s.elapse dt).levelOf who → s.update.run = some r → s.update.boot =
    some b → b.state = 1 ∨ b.state = 2 → s.reg (.CHN_UPSTREAM 1) = 0 ∧ s.reg (.CHN_DOWNSTREAM 1) = 0 → s.update.retained = none → Completes (.updAbort
    dt who 1) s fun s0 t => t.update.boot = some { b with state := 0, generation := (b.generation + 1) % 2 ^ 32 } ∧ t.update.run = none ∧ t.reg
    .UPD_STATE = 0 ∧ t.reg .UPD_LAST_RESULT = 3 ∧ Posted t 0xE028 3 (idBits r.offer.imageId) ∧ t.out = [.reply 0] ∧ OnlyChanges [.update, .drum, .log]
    (andDrum (blocks [2, 14])) s0 t) ∧
  (∀ (dt who : Nat) (s : State), Quiet s → 1 ≤ (s.elapse dt).levelOf who → s.bootState ≠ 1 ∧ s.bootState ≠ 2 → Completes (.updAbort dt who 1) s fun s0
    t => t.out = [.reply 15] ∧ OnlyChanges [] noRegs s0 t) ∧
  (∀ (dt : Nat) (b : BootRecord) (s : State), s.update.boot = some b → b.state = 2 → b.tAct ≤ (s.elapse dt).now → s.timeValid = true →
    s.update.lateUntil.all (Nat.ble (s.ticks + dt)) = true → s.sys.releasedAt.isSome = true → Completes (.activation dt) s fun s0 t => Restarted true
    { s0 with update := { s0.update with boot := some { b with state := 3, generation := (b.generation + 1) % 2 ^ 32 } } } t ∧ t.sys.cause = setBitTo
    s.sys.cause 6 true) ∧
  (∀ (dt : Nat) (b : BootRecord) (s : State), Takes s 5 → s.update.boot = some b → b.state = 1 → b.tAct ≤ (s.elapse dt).now → s.update.retained = none
    → Completes (.activation dt) s fun s0 t => t.update.boot = some { b with state := 0, generation := (b.generation + 1) % 2 ^ 32 } ∧ t.update.run =
    none ∧ t.update.lateUntil = none ∧ t.reg .UPD_STATE = 0 ∧ t.reg .UPD_LAST_RESULT = 2 ∧ Posted t 0xE025 5 0 ∧ t.out = [] ∧ OnlyChanges [.update,
    .drum, .log] (andDrum (blocks [2, 14])) s0 t) ∧
  (∀ (dt : Nat) (b : BootRecord) (s : State), Quiet s → s.update.boot = some b → b.state = 2 → b.tAct ≤ (s.elapse dt).now → s.timeValid = false →
    s.update.lateUntil = none → Completes (.activation dt) s fun s0 t => t.update = { s.update with lateUntil := some (s.ticks + dt + msTicks 60000) }
    ∧ t.out = [] ∧ OnlyChanges [.update] noRegs s0 t) ∧
  (∀ (dt e : Nat) (b : BootRecord) (s : State), Takes s 5 → s.update.boot = some b → b.state = 2 → s.update.lateUntil = some e → e ≤ s.ticks + dt →
    s.update.retained = none → Completes (.activationWindowExpiry dt) s fun s0 t => t.update.boot = some
    { b with state := 0, generation := (b.generation + 1) % 2 ^ 32 } ∧ t.update.run = none ∧ t.update.lateUntil = none ∧ t.reg .UPD_STATE = 0 ∧ t.reg
    .UPD_LAST_RESULT = 6 ∧ Posted t 0xE025 5 1 ∧ t.out = [] ∧ OnlyChanges [.update, .drum, .log] (andDrum (blocks [2, 14])) s0 t) ∧
  (∀ (dt e : Nat) (b : BootRecord) (s : State), Takes s 3 → s.update.boot = some b → b.state = 4 → s.update.healthEnd = some e → s.ticks + dt ≤ e →
    s.healthy = true → Completes (.healthConfirmed dt) s fun s0 t => t.update.retained = some s.update.running ∧ t.update.boot = some
    { b with retainedHash := sha512 s.update.running.flatten, confirmedId := imageId s.update.running, fetches := 0, state := 0, generation := (b.generation + 1) % 2 ^ 32 }
    ∧ t.update.healthEnd = none ∧ t.reg .UPD_STATE = 0 ∧ t.reg .UPD_LAST_RESULT = 1 ∧ Posted t 0xE026 3 (idBits (imageId s.update.running)) ∧ t.out =
    [] ∧ OnlyChanges [.update, .drum, .log] (andDrum (blocks [2, 14])) s0 t) ∧
  (∀ (dt who : Nat) (b : BootRecord) (s : State), Takes s 3 → 1 ≤ (s.elapse dt).levelOf who → s.update.boot = some b → b.state = 4 → Completes
    (.updConfirm dt who 1) s fun s0 t => t.update.retained = some s.update.running ∧ t.update.boot = some
    { b with retainedHash := sha512 s.update.running.flatten, confirmedId := imageId s.update.running, fetches := 0, state := 0, generation := (b.generation + 1) % 2 ^ 32 }
    ∧ t.update.healthEnd = none ∧ t.reg .UPD_STATE = 0 ∧ t.reg .UPD_LAST_RESULT = 1 ∧ Posted t 0xE026 3 (idBits (imageId s.update.running)) ∧ t.out =
    [.reply 0] ∧ OnlyChanges [.update, .drum, .log] (andDrum (blocks [2, 14])) s0 t) ∧
  (∀ (dt who : Nat) (b : BootRecord) (s : State), 1 ≤ (s.elapse dt).levelOf who → s.update.boot = some b → b.state = 4 → s.sys.releasedAt.isSome =
    true → Completes (.updReject dt who 1) s fun s0 t => Restarted true
    { s0 with update := { s0.update with boot := some { b with state := 5, generation := (b.generation + 1) % 2 ^ 32 } } } t ∧ t.update.fellBack =
    some 1 ∧ t.sys.cause = setBitTo s.sys.cause 6 true ∧ t.out = [.reply 0]) ∧
  (∀ (dt who : Nat) (s : State), Quiet s → 1 ≤ (s.elapse dt).levelOf who → s.bootState ≠ 4 → Completes (.updReject dt who 1) s fun s0 t => t.out =
    [.reply 15] ∧ OnlyChanges [] noRegs s0 t) ∧
  (∀ (dt e : Nat) (b : BootRecord) (s : State), s.update.boot = some b → b.state = 4 → s.update.healthEnd = some e → e ≤ s.ticks + dt →
    s.sys.releasedAt.isSome = true → Completes (.healthWindowEnd dt) s fun s0 t => Restarted true
    { s0 with update := { s0.update with boot := some { b with state := 5, generation := (b.generation + 1) % 2 ^ 32 } } } t ∧ t.update.fellBack =
    some 0 ∧ t.sys.cause = setBitTo s.sys.cause 6 true)

/-- The sources of a reset act, hold and release the unit -/
def Obligations.ResetSourcesActAndRelease : Prop :=
  (∀ (dt : Nat) (s : State), Completes (.powerOn dt) s fun s0 t => Restarted false s0 t ∧ t.sys.cause = setBitTo s.sys.cause 0 true ∧ t.sys.holds =
    { s.sys.holds with vin := false }) ∧
  (∀ (dt : Nat) (s : State), Completes (.vinUndervoltage dt) s fun s0 t => Restarted false s0 t ∧ t.sys.cause = setBitTo s.sys.cause 2 true ∧
    t.sys.holds = { s.sys.holds with vin := true, rails := false } ∧ t.sys.railFaults = [] ∧ t.sys.railsLocked = false ∧ t.sys.retryAt = none ∧
    t.sys.lastFault = 0) ∧
  (∀ (dt rail cause : Nat) (s : State), s.sys.holds.rails = false ∧ s.sys.holds.vin = false → s.sys.railFaults = [] → Completes (.railFault dt rail
    cause) s fun s0 t => Restarted false s0 t ∧ t.sys.cause = setBitTo s.sys.cause 2 true ∧ t.sys.holds = { s.sys.holds with rails := true } ∧
    t.sys.railFaults = [s.ticks + dt] ∧ t.sys.railsLocked = false ∧ t.sys.retryAt = some (s.ticks + dt + msTicks 100) ∧ t.sys.lastFault = rail % 8 +
    cause % 4 * 8 + 32) ∧
  (∀ (dt rail cause a b : Nat) (s : State), s.sys.holds.rails = false ∧ s.sys.holds.vin = false → s.sys.railFaults = [a, b] → s.ticks + dt < a +
    msTicks 10000 → Completes (.railFault dt rail cause) s fun s0 t => Restarted false s0 t ∧ t.sys.cause = setBitTo s.sys.cause 2 true ∧ t.sys.holds
    = { s.sys.holds with rails := true } ∧ t.sys.railsLocked = true ∧ t.sys.retryAt = none ∧ t.sys.lastFault = rail % 8 + cause % 4 * 8 + 96) ∧
  (∀ (dt e : Nat) (s : State), Quiet s → s.sys.retryAt = some e → e ≤ s.ticks + dt → Completes (.railRetryWait dt) s fun s0 t => t.sys =
    { s.sys with holds := { s.sys.holds with rails := false }, retryAt := none, startedAt := s.ticks + dt } ∧ t.out = [] ∧ OnlyChanges [.sys] noRegs
    s0 t) ∧
  (∀ (dt : Nat) (s : State), Completes (.clockFault dt) s fun s0 t => Restarted false s0 t ∧ t.sys.cause = setBitTo s.sys.cause 3 true ∧ t.sys.holds =
    { s.sys.holds with clock := true }) ∧
  (∀ (dt : Nat) (s : State), Completes (.resetNLow dt) s fun s0 t => Restarted false s0 t ∧ t.sys.cause = setBitTo s.sys.cause 1 true ∧ t.sys.holds =
    { s.sys.holds with pin := true }) ∧
  (∀ (dt : Nat) (s : State), Quiet s → s.sys.holds.pin = true → Completes (.resetNRelease dt) s fun s0 t => t.sys =
    { s.sys with holds := { s.sys.holds with pin := false }, startedAt := s.ticks + dt } ∧ t.out = [] ∧ OnlyChanges [.sys] noRegs s0 t) ∧
  (∀ (dt : Nat) (s : State), Completes (.thermalTrip dt) s fun s0 t => Restarted false s0 t ∧ t.sys.cause = setBitTo s.sys.cause 9 true ∧ t.sys.holds
    = { s.sys.holds with thermal := true }) ∧
  (∀ (dt : Nat) (s : State), Quiet s → s.sys.holds.thermal = true → Completes (.thermalTripClear dt) s fun s0 t => t.sys =
    { s.sys with holds := { s.sys.holds with thermal := false }, startedAt := s.ticks + dt } ∧ t.out = [] ∧ OnlyChanges [.sys] noRegs s0 t) ∧
  (∀ (dt : Nat) (s : State), s.debugOpen = true → Completes (.jtagReset dt) s fun s0 t => Restarted false s0 t ∧ t.sys.cause = setBitTo s.sys.cause 10
    true ∧ t.sys.holds = s.sys.holds) ∧
  (∀ (dt : Nat) (s : State), Quiet s → s.debugOpen = false → Completes (.jtagReset dt) s fun s0 t => t.out = [] ∧ OnlyChanges [] noRegs s0 t) ∧
  (∀ (dt : Nat) (s : State), s.sys.releasedAt.isSome = true → Completes (.cpu0Watchdog dt) s fun s0 t => Restarted true s0 t ∧ t.sys.cause = setBitTo
    s.sys.cause 4 true) ∧
  (∀ (dt : Nat) (s : State), Quiet s → Completes (.driveHeartbeatLoss dt) s fun s0 t => t.sys = { s.sys with driveAlive := false } ∧ t.out = [] ∧
    OnlyChanges [.sys] noRegs s0 t) ∧
  (∀ (dt port : Nat) (s : State), Takes s 5 → port < 2 → bitOf (s.reg .SYS_PLL_STATE) (port + 1) = true → s.reg (.NET_LINK_STATE (port + 1)) = 0 →
    Completes (.serdesPllLoss dt port) s fun s0 t => bitOf (t.reg .SYS_PLL_STATE) (port + 1) = false ∧ Posted t 0xF021 5 port ∧ t.out = [] ∧
    OnlyChanges [.drum, .log] (andDrum (among [.SYS_PLL_STATE])) s0 t) ∧
  (∀ (dt port : Nat) (s : State), Quiet s → port < 2 → Completes (.serdesPllLock dt port) s fun s0 t => t.reg .SYS_PLL_STATE = setBitTo (s.reg
    .SYS_PLL_STATE) (port + 1) true % 2 ^ dictBits .SYS_PLL_STATE ∧ t.out = [] ∧ OnlyChanges [] (among [.SYS_PLL_STATE]) s0 t)

/-- The start sequence runs from the release of internal reset to the firmware -/
def Obligations.TheStartSequenceRuns : Prop :=
  (∀ (dt pins : Nat) (refreshed : Bool) (s : State), Quiet s → s.sys.holds.free = true ∧ s.sys.holds.clock = false → s.sys.releasedAt = none →
    s.sys.warm = false → Completes (.internalResetRelease dt pins refreshed) s fun s0 t => t.reg .SYS_STATE = 1 ∧ t.reg .MEM_STATE = 1 ∧ t.reg
    .SYS_RESET_CAUSE = s.sys.cause % 2 ^ dictBits .SYS_RESET_CAUSE ∧ t.reg .SYS_RESET_KIND = 0 ∧ t.reg .DIC_PROFILE_PINS = pins % 4 ∧ bitOf (t.reg
    .SYS_PLL_STATE) 0 = true ∧ t.sys.releasedAt = some (s.ticks + dt) ∧ t.sys.pins = pins % 4 ∧ t.out = [] ∧ OnlyChanges [.sys, .cal, .drum, .log]
    (andDrum (blocks [1, 7, 11, 15])) s0 t) ∧
  (∀ (dt channel : Nat) (s : State), Quiet s → s.reg .SYS_STATE = 1 ∧ s.reg .MEM_STATE = 1 → Completes (.memTrainingDone dt true channel) s fun s0 t
    => t.reg .MEM_STATE = 2 ∧ t.reg .SYS_MEM_ATTEMPTS = (s.sys.memFailed + 1) % 2 ^ dictBits .SYS_MEM_ATTEMPTS ∧ t.out = [] ∧ OnlyChanges [] (among
    [.MEM_STATE, .SYS_MEM_ATTEMPTS, .SYS_START_MS 2]) s0 t) ∧
  (∀ (dt channel : Nat) (s : State), Quiet s → s.reg .SYS_STATE = 1 ∧ s.reg .MEM_STATE = 1 → s.sys.memFailed < 2 → Completes (.memTrainingDone dt
    false channel) s fun s0 t => t.reg .MEM_STATE = 1 ∧ t.sys =
    { s.sys with memFailed := s.sys.memFailed + 1, early := s.sys.early ++ [⟨.single, 7, 0xB001, channel % 2⟩] } ∧ t.out = [] ∧ OnlyChanges [.sys]
    (among [.SYS_MEM_ATTEMPTS]) s0 t) ∧
  (∀ (dt : Nat) (b : BootRecord) (s : State), s.reg .SYS_STATE = 1 ∧ s.reg .MEM_STATE = 2 → s.net.forwarding = false → s.update.keep = (true, true) →
    s.update.boot = some b → b.state = 0 → Completes (.keepLoaderStart dt) s fun s0 t => t.net.forwarding = true ∧ t.update.boots = 1 ∧ t.update.boot
    = some { b with generation := (b.generation + 1) % 2 ^ 32 } ∧ t.reg .CHN_ADDRESS = b.address % 2 ^ dictBits .CHN_ADDRESS ∧ OnlyChanges [.chain,
    .net, .scan, .smap, .sys, .update, .drum, .log] (andDrum (blocks [2, 3, 14, 15])) s0 t) ∧
  (∀ (dt : Nat) (b : BootRecord) (s : State), Quiet s → s.reg .SYS_STATE = 1 → s.update.boots = 1 → s.update.boot = some b → b.state = 0 → Completes
    (.imageLoadDone dt) s fun s0 t => (s.imageOk s.areaImage = true → t.reg .SYS_STATE = 2 ∧ t.update.running = s.areaImage ∧ t.update.retained = some
    s.areaImage ∧ t.update.boot = some { b with retainedHash := sha512 s.areaImage.flatten, generation := (b.generation + 1) % 2 ^ 32 } ∧ t.out = [])
    ∧ (s.imageOk s.areaImage = false → t.reg .SYS_STATE = 1 ∧ t.update.running = s.update.running) ∧ OnlyChanges [.chain, .update] (blocks [2, 14,
    15]) s0 t) ∧
  (∀ (dt : Nat) (image : List (List Octet)) (s : State), Quiet s → s.reg .SYS_STATE = 1 → s.update.boots = 2 → s.update.retained = some image →
    s.retainedOk = true → Completes (.imageLoadDone dt) s fun s0 t => t.reg .SYS_STATE = 2 ∧ t.update = { s.update with running := image, boots := 0 }
    ∧ t.out = [] ∧ OnlyChanges [.update] (among [.SYS_STATE]) s0 t) ∧
  (∀ (dt engineFails ctrlFails : Nat) (seqOk : Bool) (s : State), s.reg .SYS_STATE = 2 → Completes (.firmwareStart dt seqOk engineFails ctrlFails) s
    fun _ t => t.reg .SYS_STATE = 3 ∧ t.sys.loads = (seqOk, engineFails, ctrlFails) ∧ t.sys.early = [] ∧ t.sys.cause = 0) ∧
  (∀ (dt : Nat) (s : State), Takes s 4 → s.reg .SYS_STATE = 3 → s.sys.doneSeen = false ∧ s.sys.lateLamp = false → s.chain.adopting = false → s.reg
    .LAN_STATE < 2 → s.reg .SYS_DRIVE_SEQ ≠ 2 → s.sys.role = 1 → s.sys.limitsFrom + msTicks 2000 ≤ s.ticks + dt → Completes (.startupLimit dt) s fun
    s0 t => t.sys = { s.sys with lateLamp := true } ∧ Posted t 0xF030 4 s.missed ∧ t.out = [] ∧ OnlyChanges [.sys, .drum, .log] drumRegs s0 t) ∧
  (∀ (dt tj : Nat) (rails : List Nat) (s : State), Takes s 5 → s.sys.hot = false → s.regInt .SYS_TJ_WARN ≤ toSigned 16 (tj % 65536) → Completes
    (.logicTjRead dt tj rails) s fun s0 t => t.reg .SYS_LOGIC_TJ = tj % 65536 ∧ (∀ p ∈ rails.zipIdx, p.2 < 6 → t.reg (.SYS_RAIL_MV (p.2 + 1)) = p.1 %
    2 ^ dictBits (.SYS_RAIL_MV 1)) ∧ t.sys = { s.sys with hot := true } ∧ Posted t 0xF020 5 (tj % 65536) ∧ t.out = [] ∧ OnlyChanges [.sys, .drum,
    .log] (andDrum (entries [0xF005, 0xF100])) s0 t) ∧
  (∀ (dt tj : Nat) (s : State), Quiet s → toSigned 16 (tj % 65536) < s.regInt .SYS_TJ_WARN → Completes (.logicTjRead dt tj []) s fun s0 t => t.reg
    .SYS_LOGIC_TJ = tj % 65536 ∧ t.sys = { s.sys with hot := false } ∧ t.out = [] ∧ OnlyChanges [.sys] (among [.SYS_LOGIC_TJ]) s0 t)

/-- What State.reset holds: venue time 0 and not valid (R80), counters 0 (R69 and the rules like it), LAN_STATE 1 (R343), the Drum and every queue empty; that an element without a stated default holds 0 is the model's choice (log entry 9). -/
def Obligations.ResetLeavesTheStartState : Prop :=
  (∀ u ∈ State.reset.clock.turrets, u.time = 0 ∧ u.f = nominalF) ∧
  (State.reset.clock.turrets.length = 3 ∧ bitOf (State.reset.reg .TCK_FLAGS) 0 = false ∧ State.reset.reg .LAN_STATE = 1 ∧ State.reset.drum = ⟨[], []⟩
    ∧ State.reset.idp.sessions = [] ∧ State.reset.epochs = [] ∧ State.reset.ingest.frames = [] ∧ State.reset.lantern.cues = [] ∧ State.reset.pending =
    [] ∧ DrumForm State.reset ∧ DictForm State.reset) ∧
  (∀ r : Reg, r.sub < 1024 → r ≠ .LAN_STATE → State.reset.reg r = dictDefault r) ∧
  (∀ r : Reg, r.sub < 1024 → (counterEvent r).isSome = true → State.reset.reg r = 0)

/-- An invariant of every step: the Drum holds at most 64 words (R372), whatever command runs and however many events it posts. -/
def Obligations.DrumStaysWithinItsWords : Prop :=
  ∀ s : State, DrumForm s → ∃ t, step s = .next t ∧ DrumForm t

/-- An invariant of every step: the store of the dictionary stays canonical, so that two states with equal elements hold equal stores. -/
def Obligations.DictionaryKeepsItsForm : Prop :=
  ∀ s : State, DictForm s → ∃ t, step s = .next t ∧ DictForm t

/-- Over 16 periods the on-ticks sum to the level -/
def Obligations.TheLevelSumsOverSixteenPeriods : Prop :=
  (∀ D k : Nat, D ≤ 2 ^ 20 → lampOnTicks D k = (D + revBits 4 (k % 16)) >>> 4 ∧ lampOnTicks D k ≤ 65536 ∧ revBits 4 (k % 16) < 16 ∧ (∀ b : Nat, b < 4
    → (revBits 4 (k % 16)).testBit b = (k % 16).testBit (3 - b))) ∧
  (∀ D k : Nat, (((List.range 16).map fun i => revBits 4 ((k + i) % 16)).Perm (List.range 16)) ∧ ((List.range 16).map fun i => lampOnTicks D (k +
    i)).sum = D) ∧
  (∀ (s u : State) (D time : Nat), s.lantern.anchor = u.lantern.anchor → s.lampFirst time = u.lampFirst time ∧ lampOnTicks D (s.lampFirst time) =
    lampOnTicks D (u.lampFirst time))

/-- The placement of the on-ticks in a period, for every level and phase. -/
def Obligations.TheOnTicksFillTheirSegments : Prop :=
  (∀ n : Nat, ((List.range 64).map fun g => segmentTicks n g).sum = n) ∧
  (∀ n g : Nat, n ≤ 65536 → g < 64 → segmentTicks n g ≤ 1024) ∧
  (∀ phase t : Nat, phase < 1024 → t < 65536 → lampOnAt 65536 phase t = true) ∧
  (∀ n phase g j : Nat, n ≤ 65536 → phase < 1024 → g < 64 → j < 1024 → lampOnAt n phase (1024 * g + (phase + j) % 1024) = decide (j < segmentTicks n
    g))

/-- Below level 1 no register write and no read that removes data has an effect, whatever the state and the operands (R468). -/
def Obligations.NobodyBelowOperatorChangesTheUnit : Prop :=
  ∀ (c : Instr) (who : Nat) (s : State), c.writer = some who → (s.elapse c.dt).levelOf who = 0 → Quiet s →
  Completes c s fun s0 t => (∃ k, k ≠ 0 ∧ t.out = [.reply k]) ∧ OnlyChanges [] noRegs s0 t
end

