-- ==== Sys2Proof/Laws/State.lean ====
section
/-! SUPPORT. What each update of the state leaves: one lemma for each field. -/

namespace Sys2Proof.Machine

/-! Updates of one block -/

@[simp] theorem State.modClock_dict (s : State) (f : Clock → Clock) : (s.modClock f).dict = s.dict := rfl
@[simp] theorem State.modClock_unit (s : State) (f : Clock → Clock) : (s.modClock f).unit = s.unit := rfl
@[simp] theorem State.modClock_drum (s : State) (f : Clock → Clock) : (s.modClock f).drum = s.drum := rfl
@[simp] theorem State.modClock_log (s : State) (f : Clock → Clock) : (s.modClock f).log = s.log := rfl
@[simp] theorem State.modClock_clock (s : State) (f : Clock → Clock) : (s.modClock f).clock = f s.clock := rfl
@[simp] theorem State.modClock_net (s : State) (f : Clock → Clock) : (s.modClock f).net = s.net := rfl
@[simp] theorem State.modClock_idp (s : State) (f : Clock → Clock) : (s.modClock f).idp = s.idp := rfl
@[simp] theorem State.modClock_ingest (s : State) (f : Clock → Clock) : (s.modClock f).ingest = s.ingest := rfl
@[simp] theorem State.modClock_epochs (s : State) (f : Clock → Clock) : (s.modClock f).epochs = s.epochs := rfl
@[simp] theorem State.modClock_belfry (s : State) (f : Clock → Clock) : (s.modClock f).belfry = s.belfry := rfl
@[simp] theorem State.modClock_cupola (s : State) (f : Clock → Clock) : (s.modClock f).cupola = s.cupola := rfl
@[simp] theorem State.modClock_scan (s : State) (f : Clock → Clock) : (s.modClock f).scan = s.scan := rfl
@[simp] theorem State.modClock_spire (s : State) (f : Clock → Clock) : (s.modClock f).spire = s.spire := rfl
@[simp] theorem State.modClock_cal (s : State) (f : Clock → Clock) : (s.modClock f).cal = s.cal := rfl
@[simp] theorem State.modClock_bridge (s : State) (f : Clock → Clock) : (s.modClock f).bridge = s.bridge := rfl
@[simp] theorem State.modClock_ocu (s : State) (f : Clock → Clock) : (s.modClock f).ocu = s.ocu := rfl
@[simp] theorem State.modClock_lantern (s : State) (f : Clock → Clock) : (s.modClock f).lantern = s.lantern := rfl
@[simp] theorem State.modClock_mem (s : State) (f : Clock → Clock) : (s.modClock f).mem = s.mem := rfl
@[simp] theorem State.modClock_smap (s : State) (f : Clock → Clock) : (s.modClock f).smap = s.smap := rfl
@[simp] theorem State.modClock_twin (s : State) (f : Clock → Clock) : (s.modClock f).twin = s.twin := rfl
@[simp] theorem State.modClock_chain (s : State) (f : Clock → Clock) : (s.modClock f).chain = s.chain := rfl
@[simp] theorem State.modClock_update (s : State) (f : Clock → Clock) : (s.modClock f).update = s.update := rfl
@[simp] theorem State.modClock_sys (s : State) (f : Clock → Clock) : (s.modClock f).sys = s.sys := rfl
@[simp] theorem State.modClock_ticks (s : State) (f : Clock → Clock) : (s.modClock f).ticks = s.ticks := rfl
@[simp] theorem State.modClock_fresh (s : State) (f : Clock → Clock) : (s.modClock f).fresh = s.fresh := rfl
@[simp] theorem State.modClock_out (s : State) (f : Clock → Clock) : (s.modClock f).out = s.out := rfl
@[simp] theorem State.modClock_pending (s : State) (f : Clock → Clock) : (s.modClock f).pending = s.pending := rfl
@[simp] theorem State.modClock_reg (s : State) (f : Clock → Clock) (r : Reg) : (s.modClock f).reg r = s.reg r := rfl
@[simp] theorem State.modNet_dict (s : State) (f : Net → Net) : (s.modNet f).dict = s.dict := rfl
@[simp] theorem State.modNet_unit (s : State) (f : Net → Net) : (s.modNet f).unit = s.unit := rfl
@[simp] theorem State.modNet_drum (s : State) (f : Net → Net) : (s.modNet f).drum = s.drum := rfl
@[simp] theorem State.modNet_log (s : State) (f : Net → Net) : (s.modNet f).log = s.log := rfl
@[simp] theorem State.modNet_clock (s : State) (f : Net → Net) : (s.modNet f).clock = s.clock := rfl
@[simp] theorem State.modNet_net (s : State) (f : Net → Net) : (s.modNet f).net = f s.net := rfl
@[simp] theorem State.modNet_idp (s : State) (f : Net → Net) : (s.modNet f).idp = s.idp := rfl
@[simp] theorem State.modNet_ingest (s : State) (f : Net → Net) : (s.modNet f).ingest = s.ingest := rfl
@[simp] theorem State.modNet_epochs (s : State) (f : Net → Net) : (s.modNet f).epochs = s.epochs := rfl
@[simp] theorem State.modNet_belfry (s : State) (f : Net → Net) : (s.modNet f).belfry = s.belfry := rfl
@[simp] theorem State.modNet_cupola (s : State) (f : Net → Net) : (s.modNet f).cupola = s.cupola := rfl
@[simp] theorem State.modNet_scan (s : State) (f : Net → Net) : (s.modNet f).scan = s.scan := rfl
@[simp] theorem State.modNet_spire (s : State) (f : Net → Net) : (s.modNet f).spire = s.spire := rfl
@[simp] theorem State.modNet_cal (s : State) (f : Net → Net) : (s.modNet f).cal = s.cal := rfl
@[simp] theorem State.modNet_bridge (s : State) (f : Net → Net) : (s.modNet f).bridge = s.bridge := rfl
@[simp] theorem State.modNet_ocu (s : State) (f : Net → Net) : (s.modNet f).ocu = s.ocu := rfl
@[simp] theorem State.modNet_lantern (s : State) (f : Net → Net) : (s.modNet f).lantern = s.lantern := rfl
@[simp] theorem State.modNet_mem (s : State) (f : Net → Net) : (s.modNet f).mem = s.mem := rfl
@[simp] theorem State.modNet_smap (s : State) (f : Net → Net) : (s.modNet f).smap = s.smap := rfl
@[simp] theorem State.modNet_twin (s : State) (f : Net → Net) : (s.modNet f).twin = s.twin := rfl
@[simp] theorem State.modNet_chain (s : State) (f : Net → Net) : (s.modNet f).chain = s.chain := rfl
@[simp] theorem State.modNet_update (s : State) (f : Net → Net) : (s.modNet f).update = s.update := rfl
@[simp] theorem State.modNet_sys (s : State) (f : Net → Net) : (s.modNet f).sys = s.sys := rfl
@[simp] theorem State.modNet_ticks (s : State) (f : Net → Net) : (s.modNet f).ticks = s.ticks := rfl
@[simp] theorem State.modNet_fresh (s : State) (f : Net → Net) : (s.modNet f).fresh = s.fresh := rfl
@[simp] theorem State.modNet_out (s : State) (f : Net → Net) : (s.modNet f).out = s.out := rfl
@[simp] theorem State.modNet_pending (s : State) (f : Net → Net) : (s.modNet f).pending = s.pending := rfl
@[simp] theorem State.modNet_reg (s : State) (f : Net → Net) (r : Reg) : (s.modNet f).reg r = s.reg r := rfl
@[simp] theorem State.modIdp_dict (s : State) (f : Idp → Idp) : (s.modIdp f).dict = s.dict := rfl
@[simp] theorem State.modIdp_unit (s : State) (f : Idp → Idp) : (s.modIdp f).unit = s.unit := rfl
@[simp] theorem State.modIdp_drum (s : State) (f : Idp → Idp) : (s.modIdp f).drum = s.drum := rfl
@[simp] theorem State.modIdp_log (s : State) (f : Idp → Idp) : (s.modIdp f).log = s.log := rfl
@[simp] theorem State.modIdp_clock (s : State) (f : Idp → Idp) : (s.modIdp f).clock = s.clock := rfl
@[simp] theorem State.modIdp_net (s : State) (f : Idp → Idp) : (s.modIdp f).net = s.net := rfl
@[simp] theorem State.modIdp_idp (s : State) (f : Idp → Idp) : (s.modIdp f).idp = f s.idp := rfl
@[simp] theorem State.modIdp_ingest (s : State) (f : Idp → Idp) : (s.modIdp f).ingest = s.ingest := rfl
@[simp] theorem State.modIdp_epochs (s : State) (f : Idp → Idp) : (s.modIdp f).epochs = s.epochs := rfl
@[simp] theorem State.modIdp_belfry (s : State) (f : Idp → Idp) : (s.modIdp f).belfry = s.belfry := rfl
@[simp] theorem State.modIdp_cupola (s : State) (f : Idp → Idp) : (s.modIdp f).cupola = s.cupola := rfl
@[simp] theorem State.modIdp_scan (s : State) (f : Idp → Idp) : (s.modIdp f).scan = s.scan := rfl
@[simp] theorem State.modIdp_spire (s : State) (f : Idp → Idp) : (s.modIdp f).spire = s.spire := rfl
@[simp] theorem State.modIdp_cal (s : State) (f : Idp → Idp) : (s.modIdp f).cal = s.cal := rfl
@[simp] theorem State.modIdp_bridge (s : State) (f : Idp → Idp) : (s.modIdp f).bridge = s.bridge := rfl
@[simp] theorem State.modIdp_ocu (s : State) (f : Idp → Idp) : (s.modIdp f).ocu = s.ocu := rfl
@[simp] theorem State.modIdp_lantern (s : State) (f : Idp → Idp) : (s.modIdp f).lantern = s.lantern := rfl
@[simp] theorem State.modIdp_mem (s : State) (f : Idp → Idp) : (s.modIdp f).mem = s.mem := rfl
@[simp] theorem State.modIdp_smap (s : State) (f : Idp → Idp) : (s.modIdp f).smap = s.smap := rfl
@[simp] theorem State.modIdp_twin (s : State) (f : Idp → Idp) : (s.modIdp f).twin = s.twin := rfl
@[simp] theorem State.modIdp_chain (s : State) (f : Idp → Idp) : (s.modIdp f).chain = s.chain := rfl
@[simp] theorem State.modIdp_update (s : State) (f : Idp → Idp) : (s.modIdp f).update = s.update := rfl
@[simp] theorem State.modIdp_sys (s : State) (f : Idp → Idp) : (s.modIdp f).sys = s.sys := rfl
@[simp] theorem State.modIdp_ticks (s : State) (f : Idp → Idp) : (s.modIdp f).ticks = s.ticks := rfl
@[simp] theorem State.modIdp_fresh (s : State) (f : Idp → Idp) : (s.modIdp f).fresh = s.fresh := rfl
@[simp] theorem State.modIdp_out (s : State) (f : Idp → Idp) : (s.modIdp f).out = s.out := rfl
@[simp] theorem State.modIdp_pending (s : State) (f : Idp → Idp) : (s.modIdp f).pending = s.pending := rfl
@[simp] theorem State.modIdp_reg (s : State) (f : Idp → Idp) (r : Reg) : (s.modIdp f).reg r = s.reg r := rfl
@[simp] theorem State.modIngest_dict (s : State) (f : Ingest → Ingest) : (s.modIngest f).dict = s.dict := rfl
@[simp] theorem State.modIngest_unit (s : State) (f : Ingest → Ingest) : (s.modIngest f).unit = s.unit := rfl
@[simp] theorem State.modIngest_drum (s : State) (f : Ingest → Ingest) : (s.modIngest f).drum = s.drum := rfl
@[simp] theorem State.modIngest_log (s : State) (f : Ingest → Ingest) : (s.modIngest f).log = s.log := rfl
@[simp] theorem State.modIngest_clock (s : State) (f : Ingest → Ingest) : (s.modIngest f).clock = s.clock := rfl
@[simp] theorem State.modIngest_net (s : State) (f : Ingest → Ingest) : (s.modIngest f).net = s.net := rfl
@[simp] theorem State.modIngest_idp (s : State) (f : Ingest → Ingest) : (s.modIngest f).idp = s.idp := rfl
@[simp] theorem State.modIngest_ingest (s : State) (f : Ingest → Ingest) : (s.modIngest f).ingest = f s.ingest := rfl
@[simp] theorem State.modIngest_epochs (s : State) (f : Ingest → Ingest) : (s.modIngest f).epochs = s.epochs := rfl
@[simp] theorem State.modIngest_belfry (s : State) (f : Ingest → Ingest) : (s.modIngest f).belfry = s.belfry := rfl
@[simp] theorem State.modIngest_cupola (s : State) (f : Ingest → Ingest) : (s.modIngest f).cupola = s.cupola := rfl
@[simp] theorem State.modIngest_scan (s : State) (f : Ingest → Ingest) : (s.modIngest f).scan = s.scan := rfl
@[simp] theorem State.modIngest_spire (s : State) (f : Ingest → Ingest) : (s.modIngest f).spire = s.spire := rfl
@[simp] theorem State.modIngest_cal (s : State) (f : Ingest → Ingest) : (s.modIngest f).cal = s.cal := rfl
@[simp] theorem State.modIngest_bridge (s : State) (f : Ingest → Ingest) : (s.modIngest f).bridge = s.bridge := rfl
@[simp] theorem State.modIngest_ocu (s : State) (f : Ingest → Ingest) : (s.modIngest f).ocu = s.ocu := rfl
@[simp] theorem State.modIngest_lantern (s : State) (f : Ingest → Ingest) : (s.modIngest f).lantern = s.lantern := rfl
@[simp] theorem State.modIngest_mem (s : State) (f : Ingest → Ingest) : (s.modIngest f).mem = s.mem := rfl
@[simp] theorem State.modIngest_smap (s : State) (f : Ingest → Ingest) : (s.modIngest f).smap = s.smap := rfl
@[simp] theorem State.modIngest_twin (s : State) (f : Ingest → Ingest) : (s.modIngest f).twin = s.twin := rfl
@[simp] theorem State.modIngest_chain (s : State) (f : Ingest → Ingest) : (s.modIngest f).chain = s.chain := rfl
@[simp] theorem State.modIngest_update (s : State) (f : Ingest → Ingest) : (s.modIngest f).update = s.update := rfl
@[simp] theorem State.modIngest_sys (s : State) (f : Ingest → Ingest) : (s.modIngest f).sys = s.sys := rfl
@[simp] theorem State.modIngest_ticks (s : State) (f : Ingest → Ingest) : (s.modIngest f).ticks = s.ticks := rfl
@[simp] theorem State.modIngest_fresh (s : State) (f : Ingest → Ingest) : (s.modIngest f).fresh = s.fresh := rfl
@[simp] theorem State.modIngest_out (s : State) (f : Ingest → Ingest) : (s.modIngest f).out = s.out := rfl
@[simp] theorem State.modIngest_pending (s : State) (f : Ingest → Ingest) : (s.modIngest f).pending = s.pending := rfl
@[simp] theorem State.modIngest_reg (s : State) (f : Ingest → Ingest) (r : Reg) : (s.modIngest f).reg r = s.reg r := rfl
@[simp] theorem State.modBelfry_dict (s : State) (f : Belfry → Belfry) : (s.modBelfry f).dict = s.dict := rfl
@[simp] theorem State.modBelfry_unit (s : State) (f : Belfry → Belfry) : (s.modBelfry f).unit = s.unit := rfl
@[simp] theorem State.modBelfry_drum (s : State) (f : Belfry → Belfry) : (s.modBelfry f).drum = s.drum := rfl
@[simp] theorem State.modBelfry_log (s : State) (f : Belfry → Belfry) : (s.modBelfry f).log = s.log := rfl
@[simp] theorem State.modBelfry_clock (s : State) (f : Belfry → Belfry) : (s.modBelfry f).clock = s.clock := rfl
@[simp] theorem State.modBelfry_net (s : State) (f : Belfry → Belfry) : (s.modBelfry f).net = s.net := rfl
@[simp] theorem State.modBelfry_idp (s : State) (f : Belfry → Belfry) : (s.modBelfry f).idp = s.idp := rfl
@[simp] theorem State.modBelfry_ingest (s : State) (f : Belfry → Belfry) : (s.modBelfry f).ingest = s.ingest := rfl
@[simp] theorem State.modBelfry_epochs (s : State) (f : Belfry → Belfry) : (s.modBelfry f).epochs = s.epochs := rfl
@[simp] theorem State.modBelfry_belfry (s : State) (f : Belfry → Belfry) : (s.modBelfry f).belfry = f s.belfry := rfl
@[simp] theorem State.modBelfry_cupola (s : State) (f : Belfry → Belfry) : (s.modBelfry f).cupola = s.cupola := rfl
@[simp] theorem State.modBelfry_scan (s : State) (f : Belfry → Belfry) : (s.modBelfry f).scan = s.scan := rfl
@[simp] theorem State.modBelfry_spire (s : State) (f : Belfry → Belfry) : (s.modBelfry f).spire = s.spire := rfl
@[simp] theorem State.modBelfry_cal (s : State) (f : Belfry → Belfry) : (s.modBelfry f).cal = s.cal := rfl
@[simp] theorem State.modBelfry_bridge (s : State) (f : Belfry → Belfry) : (s.modBelfry f).bridge = s.bridge := rfl
@[simp] theorem State.modBelfry_ocu (s : State) (f : Belfry → Belfry) : (s.modBelfry f).ocu = s.ocu := rfl
@[simp] theorem State.modBelfry_lantern (s : State) (f : Belfry → Belfry) : (s.modBelfry f).lantern = s.lantern := rfl
@[simp] theorem State.modBelfry_mem (s : State) (f : Belfry → Belfry) : (s.modBelfry f).mem = s.mem := rfl
@[simp] theorem State.modBelfry_smap (s : State) (f : Belfry → Belfry) : (s.modBelfry f).smap = s.smap := rfl
@[simp] theorem State.modBelfry_twin (s : State) (f : Belfry → Belfry) : (s.modBelfry f).twin = s.twin := rfl
@[simp] theorem State.modBelfry_chain (s : State) (f : Belfry → Belfry) : (s.modBelfry f).chain = s.chain := rfl
@[simp] theorem State.modBelfry_update (s : State) (f : Belfry → Belfry) : (s.modBelfry f).update = s.update := rfl
@[simp] theorem State.modBelfry_sys (s : State) (f : Belfry → Belfry) : (s.modBelfry f).sys = s.sys := rfl
@[simp] theorem State.modBelfry_ticks (s : State) (f : Belfry → Belfry) : (s.modBelfry f).ticks = s.ticks := rfl
@[simp] theorem State.modBelfry_fresh (s : State) (f : Belfry → Belfry) : (s.modBelfry f).fresh = s.fresh := rfl
@[simp] theorem State.modBelfry_out (s : State) (f : Belfry → Belfry) : (s.modBelfry f).out = s.out := rfl
@[simp] theorem State.modBelfry_pending (s : State) (f : Belfry → Belfry) : (s.modBelfry f).pending = s.pending := rfl
@[simp] theorem State.modBelfry_reg (s : State) (f : Belfry → Belfry) (r : Reg) : (s.modBelfry f).reg r = s.reg r := rfl
@[simp] theorem State.modCupola_dict (s : State) (f : Cupola → Cupola) : (s.modCupola f).dict = s.dict := rfl
@[simp] theorem State.modCupola_unit (s : State) (f : Cupola → Cupola) : (s.modCupola f).unit = s.unit := rfl
@[simp] theorem State.modCupola_drum (s : State) (f : Cupola → Cupola) : (s.modCupola f).drum = s.drum := rfl
@[simp] theorem State.modCupola_log (s : State) (f : Cupola → Cupola) : (s.modCupola f).log = s.log := rfl
@[simp] theorem State.modCupola_clock (s : State) (f : Cupola → Cupola) : (s.modCupola f).clock = s.clock := rfl
@[simp] theorem State.modCupola_net (s : State) (f : Cupola → Cupola) : (s.modCupola f).net = s.net := rfl
@[simp] theorem State.modCupola_idp (s : State) (f : Cupola → Cupola) : (s.modCupola f).idp = s.idp := rfl
@[simp] theorem State.modCupola_ingest (s : State) (f : Cupola → Cupola) : (s.modCupola f).ingest = s.ingest := rfl
@[simp] theorem State.modCupola_epochs (s : State) (f : Cupola → Cupola) : (s.modCupola f).epochs = s.epochs := rfl
@[simp] theorem State.modCupola_belfry (s : State) (f : Cupola → Cupola) : (s.modCupola f).belfry = s.belfry := rfl
@[simp] theorem State.modCupola_cupola (s : State) (f : Cupola → Cupola) : (s.modCupola f).cupola = f s.cupola := rfl
@[simp] theorem State.modCupola_scan (s : State) (f : Cupola → Cupola) : (s.modCupola f).scan = s.scan := rfl
@[simp] theorem State.modCupola_spire (s : State) (f : Cupola → Cupola) : (s.modCupola f).spire = s.spire := rfl
@[simp] theorem State.modCupola_cal (s : State) (f : Cupola → Cupola) : (s.modCupola f).cal = s.cal := rfl
@[simp] theorem State.modCupola_bridge (s : State) (f : Cupola → Cupola) : (s.modCupola f).bridge = s.bridge := rfl
@[simp] theorem State.modCupola_ocu (s : State) (f : Cupola → Cupola) : (s.modCupola f).ocu = s.ocu := rfl
@[simp] theorem State.modCupola_lantern (s : State) (f : Cupola → Cupola) : (s.modCupola f).lantern = s.lantern := rfl
@[simp] theorem State.modCupola_mem (s : State) (f : Cupola → Cupola) : (s.modCupola f).mem = s.mem := rfl
@[simp] theorem State.modCupola_smap (s : State) (f : Cupola → Cupola) : (s.modCupola f).smap = s.smap := rfl
@[simp] theorem State.modCupola_twin (s : State) (f : Cupola → Cupola) : (s.modCupola f).twin = s.twin := rfl
@[simp] theorem State.modCupola_chain (s : State) (f : Cupola → Cupola) : (s.modCupola f).chain = s.chain := rfl
@[simp] theorem State.modCupola_update (s : State) (f : Cupola → Cupola) : (s.modCupola f).update = s.update := rfl
@[simp] theorem State.modCupola_sys (s : State) (f : Cupola → Cupola) : (s.modCupola f).sys = s.sys := rfl
@[simp] theorem State.modCupola_ticks (s : State) (f : Cupola → Cupola) : (s.modCupola f).ticks = s.ticks := rfl
@[simp] theorem State.modCupola_fresh (s : State) (f : Cupola → Cupola) : (s.modCupola f).fresh = s.fresh := rfl
@[simp] theorem State.modCupola_out (s : State) (f : Cupola → Cupola) : (s.modCupola f).out = s.out := rfl
@[simp] theorem State.modCupola_pending (s : State) (f : Cupola → Cupola) : (s.modCupola f).pending = s.pending := rfl
@[simp] theorem State.modCupola_reg (s : State) (f : Cupola → Cupola) (r : Reg) : (s.modCupola f).reg r = s.reg r := rfl
@[simp] theorem State.modScan_dict (s : State) (f : Scan → Scan) : (s.modScan f).dict = s.dict := rfl
@[simp] theorem State.modScan_unit (s : State) (f : Scan → Scan) : (s.modScan f).unit = s.unit := rfl
@[simp] theorem State.modScan_drum (s : State) (f : Scan → Scan) : (s.modScan f).drum = s.drum := rfl
@[simp] theorem State.modScan_log (s : State) (f : Scan → Scan) : (s.modScan f).log = s.log := rfl
@[simp] theorem State.modScan_clock (s : State) (f : Scan → Scan) : (s.modScan f).clock = s.clock := rfl
@[simp] theorem State.modScan_net (s : State) (f : Scan → Scan) : (s.modScan f).net = s.net := rfl
@[simp] theorem State.modScan_idp (s : State) (f : Scan → Scan) : (s.modScan f).idp = s.idp := rfl
@[simp] theorem State.modScan_ingest (s : State) (f : Scan → Scan) : (s.modScan f).ingest = s.ingest := rfl
@[simp] theorem State.modScan_epochs (s : State) (f : Scan → Scan) : (s.modScan f).epochs = s.epochs := rfl
@[simp] theorem State.modScan_belfry (s : State) (f : Scan → Scan) : (s.modScan f).belfry = s.belfry := rfl
@[simp] theorem State.modScan_cupola (s : State) (f : Scan → Scan) : (s.modScan f).cupola = s.cupola := rfl
@[simp] theorem State.modScan_scan (s : State) (f : Scan → Scan) : (s.modScan f).scan = f s.scan := rfl
@[simp] theorem State.modScan_spire (s : State) (f : Scan → Scan) : (s.modScan f).spire = s.spire := rfl
@[simp] theorem State.modScan_cal (s : State) (f : Scan → Scan) : (s.modScan f).cal = s.cal := rfl
@[simp] theorem State.modScan_bridge (s : State) (f : Scan → Scan) : (s.modScan f).bridge = s.bridge := rfl
@[simp] theorem State.modScan_ocu (s : State) (f : Scan → Scan) : (s.modScan f).ocu = s.ocu := rfl
@[simp] theorem State.modScan_lantern (s : State) (f : Scan → Scan) : (s.modScan f).lantern = s.lantern := rfl
@[simp] theorem State.modScan_mem (s : State) (f : Scan → Scan) : (s.modScan f).mem = s.mem := rfl
@[simp] theorem State.modScan_smap (s : State) (f : Scan → Scan) : (s.modScan f).smap = s.smap := rfl
@[simp] theorem State.modScan_twin (s : State) (f : Scan → Scan) : (s.modScan f).twin = s.twin := rfl
@[simp] theorem State.modScan_chain (s : State) (f : Scan → Scan) : (s.modScan f).chain = s.chain := rfl
@[simp] theorem State.modScan_update (s : State) (f : Scan → Scan) : (s.modScan f).update = s.update := rfl
@[simp] theorem State.modScan_sys (s : State) (f : Scan → Scan) : (s.modScan f).sys = s.sys := rfl
@[simp] theorem State.modScan_ticks (s : State) (f : Scan → Scan) : (s.modScan f).ticks = s.ticks := rfl
@[simp] theorem State.modScan_fresh (s : State) (f : Scan → Scan) : (s.modScan f).fresh = s.fresh := rfl
@[simp] theorem State.modScan_out (s : State) (f : Scan → Scan) : (s.modScan f).out = s.out := rfl
@[simp] theorem State.modScan_pending (s : State) (f : Scan → Scan) : (s.modScan f).pending = s.pending := rfl
@[simp] theorem State.modScan_reg (s : State) (f : Scan → Scan) (r : Reg) : (s.modScan f).reg r = s.reg r := rfl
@[simp] theorem State.modCal_dict (s : State) (f : Cal → Cal) : (s.modCal f).dict = s.dict := rfl
@[simp] theorem State.modCal_unit (s : State) (f : Cal → Cal) : (s.modCal f).unit = s.unit := rfl
@[simp] theorem State.modCal_drum (s : State) (f : Cal → Cal) : (s.modCal f).drum = s.drum := rfl
@[simp] theorem State.modCal_log (s : State) (f : Cal → Cal) : (s.modCal f).log = s.log := rfl
@[simp] theorem State.modCal_clock (s : State) (f : Cal → Cal) : (s.modCal f).clock = s.clock := rfl
@[simp] theorem State.modCal_net (s : State) (f : Cal → Cal) : (s.modCal f).net = s.net := rfl
@[simp] theorem State.modCal_idp (s : State) (f : Cal → Cal) : (s.modCal f).idp = s.idp := rfl
@[simp] theorem State.modCal_ingest (s : State) (f : Cal → Cal) : (s.modCal f).ingest = s.ingest := rfl
@[simp] theorem State.modCal_epochs (s : State) (f : Cal → Cal) : (s.modCal f).epochs = s.epochs := rfl
@[simp] theorem State.modCal_belfry (s : State) (f : Cal → Cal) : (s.modCal f).belfry = s.belfry := rfl
@[simp] theorem State.modCal_cupola (s : State) (f : Cal → Cal) : (s.modCal f).cupola = s.cupola := rfl
@[simp] theorem State.modCal_scan (s : State) (f : Cal → Cal) : (s.modCal f).scan = s.scan := rfl
@[simp] theorem State.modCal_spire (s : State) (f : Cal → Cal) : (s.modCal f).spire = s.spire := rfl
@[simp] theorem State.modCal_cal (s : State) (f : Cal → Cal) : (s.modCal f).cal = f s.cal := rfl
@[simp] theorem State.modCal_bridge (s : State) (f : Cal → Cal) : (s.modCal f).bridge = s.bridge := rfl
@[simp] theorem State.modCal_ocu (s : State) (f : Cal → Cal) : (s.modCal f).ocu = s.ocu := rfl
@[simp] theorem State.modCal_lantern (s : State) (f : Cal → Cal) : (s.modCal f).lantern = s.lantern := rfl
@[simp] theorem State.modCal_mem (s : State) (f : Cal → Cal) : (s.modCal f).mem = s.mem := rfl
@[simp] theorem State.modCal_smap (s : State) (f : Cal → Cal) : (s.modCal f).smap = s.smap := rfl
@[simp] theorem State.modCal_twin (s : State) (f : Cal → Cal) : (s.modCal f).twin = s.twin := rfl
@[simp] theorem State.modCal_chain (s : State) (f : Cal → Cal) : (s.modCal f).chain = s.chain := rfl
@[simp] theorem State.modCal_update (s : State) (f : Cal → Cal) : (s.modCal f).update = s.update := rfl
@[simp] theorem State.modCal_sys (s : State) (f : Cal → Cal) : (s.modCal f).sys = s.sys := rfl
@[simp] theorem State.modCal_ticks (s : State) (f : Cal → Cal) : (s.modCal f).ticks = s.ticks := rfl
@[simp] theorem State.modCal_fresh (s : State) (f : Cal → Cal) : (s.modCal f).fresh = s.fresh := rfl
@[simp] theorem State.modCal_out (s : State) (f : Cal → Cal) : (s.modCal f).out = s.out := rfl
@[simp] theorem State.modCal_pending (s : State) (f : Cal → Cal) : (s.modCal f).pending = s.pending := rfl
@[simp] theorem State.modCal_reg (s : State) (f : Cal → Cal) (r : Reg) : (s.modCal f).reg r = s.reg r := rfl
@[simp] theorem State.modBrg_dict (s : State) (f : Bridge → Bridge) : (s.modBrg f).dict = s.dict := rfl
@[simp] theorem State.modBrg_unit (s : State) (f : Bridge → Bridge) : (s.modBrg f).unit = s.unit := rfl
@[simp] theorem State.modBrg_drum (s : State) (f : Bridge → Bridge) : (s.modBrg f).drum = s.drum := rfl
@[simp] theorem State.modBrg_log (s : State) (f : Bridge → Bridge) : (s.modBrg f).log = s.log := rfl
@[simp] theorem State.modBrg_clock (s : State) (f : Bridge → Bridge) : (s.modBrg f).clock = s.clock := rfl
@[simp] theorem State.modBrg_net (s : State) (f : Bridge → Bridge) : (s.modBrg f).net = s.net := rfl
@[simp] theorem State.modBrg_idp (s : State) (f : Bridge → Bridge) : (s.modBrg f).idp = s.idp := rfl
@[simp] theorem State.modBrg_ingest (s : State) (f : Bridge → Bridge) : (s.modBrg f).ingest = s.ingest := rfl
@[simp] theorem State.modBrg_epochs (s : State) (f : Bridge → Bridge) : (s.modBrg f).epochs = s.epochs := rfl
@[simp] theorem State.modBrg_belfry (s : State) (f : Bridge → Bridge) : (s.modBrg f).belfry = s.belfry := rfl
@[simp] theorem State.modBrg_cupola (s : State) (f : Bridge → Bridge) : (s.modBrg f).cupola = s.cupola := rfl
@[simp] theorem State.modBrg_scan (s : State) (f : Bridge → Bridge) : (s.modBrg f).scan = s.scan := rfl
@[simp] theorem State.modBrg_spire (s : State) (f : Bridge → Bridge) : (s.modBrg f).spire = s.spire := rfl
@[simp] theorem State.modBrg_cal (s : State) (f : Bridge → Bridge) : (s.modBrg f).cal = s.cal := rfl
@[simp] theorem State.modBrg_bridge (s : State) (f : Bridge → Bridge) : (s.modBrg f).bridge = f s.bridge := rfl
@[simp] theorem State.modBrg_ocu (s : State) (f : Bridge → Bridge) : (s.modBrg f).ocu = s.ocu := rfl
@[simp] theorem State.modBrg_lantern (s : State) (f : Bridge → Bridge) : (s.modBrg f).lantern = s.lantern := rfl
@[simp] theorem State.modBrg_mem (s : State) (f : Bridge → Bridge) : (s.modBrg f).mem = s.mem := rfl
@[simp] theorem State.modBrg_smap (s : State) (f : Bridge → Bridge) : (s.modBrg f).smap = s.smap := rfl
@[simp] theorem State.modBrg_twin (s : State) (f : Bridge → Bridge) : (s.modBrg f).twin = s.twin := rfl
@[simp] theorem State.modBrg_chain (s : State) (f : Bridge → Bridge) : (s.modBrg f).chain = s.chain := rfl
@[simp] theorem State.modBrg_update (s : State) (f : Bridge → Bridge) : (s.modBrg f).update = s.update := rfl
@[simp] theorem State.modBrg_sys (s : State) (f : Bridge → Bridge) : (s.modBrg f).sys = s.sys := rfl
@[simp] theorem State.modBrg_ticks (s : State) (f : Bridge → Bridge) : (s.modBrg f).ticks = s.ticks := rfl
@[simp] theorem State.modBrg_fresh (s : State) (f : Bridge → Bridge) : (s.modBrg f).fresh = s.fresh := rfl
@[simp] theorem State.modBrg_out (s : State) (f : Bridge → Bridge) : (s.modBrg f).out = s.out := rfl
@[simp] theorem State.modBrg_pending (s : State) (f : Bridge → Bridge) : (s.modBrg f).pending = s.pending := rfl
@[simp] theorem State.modBrg_reg (s : State) (f : Bridge → Bridge) (r : Reg) : (s.modBrg f).reg r = s.reg r := rfl
@[simp] theorem State.modOcu_dict (s : State) (f : Ocu → Ocu) : (s.modOcu f).dict = s.dict := rfl
@[simp] theorem State.modOcu_unit (s : State) (f : Ocu → Ocu) : (s.modOcu f).unit = s.unit := rfl
@[simp] theorem State.modOcu_drum (s : State) (f : Ocu → Ocu) : (s.modOcu f).drum = s.drum := rfl
@[simp] theorem State.modOcu_log (s : State) (f : Ocu → Ocu) : (s.modOcu f).log = s.log := rfl
@[simp] theorem State.modOcu_clock (s : State) (f : Ocu → Ocu) : (s.modOcu f).clock = s.clock := rfl
@[simp] theorem State.modOcu_net (s : State) (f : Ocu → Ocu) : (s.modOcu f).net = s.net := rfl
@[simp] theorem State.modOcu_idp (s : State) (f : Ocu → Ocu) : (s.modOcu f).idp = s.idp := rfl
@[simp] theorem State.modOcu_ingest (s : State) (f : Ocu → Ocu) : (s.modOcu f).ingest = s.ingest := rfl
@[simp] theorem State.modOcu_epochs (s : State) (f : Ocu → Ocu) : (s.modOcu f).epochs = s.epochs := rfl
@[simp] theorem State.modOcu_belfry (s : State) (f : Ocu → Ocu) : (s.modOcu f).belfry = s.belfry := rfl
@[simp] theorem State.modOcu_cupola (s : State) (f : Ocu → Ocu) : (s.modOcu f).cupola = s.cupola := rfl
@[simp] theorem State.modOcu_scan (s : State) (f : Ocu → Ocu) : (s.modOcu f).scan = s.scan := rfl
@[simp] theorem State.modOcu_spire (s : State) (f : Ocu → Ocu) : (s.modOcu f).spire = s.spire := rfl
@[simp] theorem State.modOcu_cal (s : State) (f : Ocu → Ocu) : (s.modOcu f).cal = s.cal := rfl
@[simp] theorem State.modOcu_bridge (s : State) (f : Ocu → Ocu) : (s.modOcu f).bridge = s.bridge := rfl
@[simp] theorem State.modOcu_ocu (s : State) (f : Ocu → Ocu) : (s.modOcu f).ocu = f s.ocu := rfl
@[simp] theorem State.modOcu_lantern (s : State) (f : Ocu → Ocu) : (s.modOcu f).lantern = s.lantern := rfl
@[simp] theorem State.modOcu_mem (s : State) (f : Ocu → Ocu) : (s.modOcu f).mem = s.mem := rfl
@[simp] theorem State.modOcu_smap (s : State) (f : Ocu → Ocu) : (s.modOcu f).smap = s.smap := rfl
@[simp] theorem State.modOcu_twin (s : State) (f : Ocu → Ocu) : (s.modOcu f).twin = s.twin := rfl
@[simp] theorem State.modOcu_chain (s : State) (f : Ocu → Ocu) : (s.modOcu f).chain = s.chain := rfl
@[simp] theorem State.modOcu_update (s : State) (f : Ocu → Ocu) : (s.modOcu f).update = s.update := rfl
@[simp] theorem State.modOcu_sys (s : State) (f : Ocu → Ocu) : (s.modOcu f).sys = s.sys := rfl
@[simp] theorem State.modOcu_ticks (s : State) (f : Ocu → Ocu) : (s.modOcu f).ticks = s.ticks := rfl
@[simp] theorem State.modOcu_fresh (s : State) (f : Ocu → Ocu) : (s.modOcu f).fresh = s.fresh := rfl
@[simp] theorem State.modOcu_out (s : State) (f : Ocu → Ocu) : (s.modOcu f).out = s.out := rfl
@[simp] theorem State.modOcu_pending (s : State) (f : Ocu → Ocu) : (s.modOcu f).pending = s.pending := rfl
@[simp] theorem State.modOcu_reg (s : State) (f : Ocu → Ocu) (r : Reg) : (s.modOcu f).reg r = s.reg r := rfl
@[simp] theorem State.modLantern_dict (s : State) (f : Lantern → Lantern) : (s.modLantern f).dict = s.dict := rfl
@[simp] theorem State.modLantern_unit (s : State) (f : Lantern → Lantern) : (s.modLantern f).unit = s.unit := rfl
@[simp] theorem State.modLantern_drum (s : State) (f : Lantern → Lantern) : (s.modLantern f).drum = s.drum := rfl
@[simp] theorem State.modLantern_log (s : State) (f : Lantern → Lantern) : (s.modLantern f).log = s.log := rfl
@[simp] theorem State.modLantern_clock (s : State) (f : Lantern → Lantern) : (s.modLantern f).clock = s.clock := rfl
@[simp] theorem State.modLantern_net (s : State) (f : Lantern → Lantern) : (s.modLantern f).net = s.net := rfl
@[simp] theorem State.modLantern_idp (s : State) (f : Lantern → Lantern) : (s.modLantern f).idp = s.idp := rfl
@[simp] theorem State.modLantern_ingest (s : State) (f : Lantern → Lantern) : (s.modLantern f).ingest = s.ingest := rfl
@[simp] theorem State.modLantern_epochs (s : State) (f : Lantern → Lantern) : (s.modLantern f).epochs = s.epochs := rfl
@[simp] theorem State.modLantern_belfry (s : State) (f : Lantern → Lantern) : (s.modLantern f).belfry = s.belfry := rfl
@[simp] theorem State.modLantern_cupola (s : State) (f : Lantern → Lantern) : (s.modLantern f).cupola = s.cupola := rfl
@[simp] theorem State.modLantern_scan (s : State) (f : Lantern → Lantern) : (s.modLantern f).scan = s.scan := rfl
@[simp] theorem State.modLantern_spire (s : State) (f : Lantern → Lantern) : (s.modLantern f).spire = s.spire := rfl
@[simp] theorem State.modLantern_cal (s : State) (f : Lantern → Lantern) : (s.modLantern f).cal = s.cal := rfl
@[simp] theorem State.modLantern_bridge (s : State) (f : Lantern → Lantern) : (s.modLantern f).bridge = s.bridge := rfl
@[simp] theorem State.modLantern_ocu (s : State) (f : Lantern → Lantern) : (s.modLantern f).ocu = s.ocu := rfl
@[simp] theorem State.modLantern_lantern (s : State) (f : Lantern → Lantern) : (s.modLantern f).lantern = f s.lantern := rfl
@[simp] theorem State.modLantern_mem (s : State) (f : Lantern → Lantern) : (s.modLantern f).mem = s.mem := rfl
@[simp] theorem State.modLantern_smap (s : State) (f : Lantern → Lantern) : (s.modLantern f).smap = s.smap := rfl
@[simp] theorem State.modLantern_twin (s : State) (f : Lantern → Lantern) : (s.modLantern f).twin = s.twin := rfl
@[simp] theorem State.modLantern_chain (s : State) (f : Lantern → Lantern) : (s.modLantern f).chain = s.chain := rfl
@[simp] theorem State.modLantern_update (s : State) (f : Lantern → Lantern) : (s.modLantern f).update = s.update := rfl
@[simp] theorem State.modLantern_sys (s : State) (f : Lantern → Lantern) : (s.modLantern f).sys = s.sys := rfl
@[simp] theorem State.modLantern_ticks (s : State) (f : Lantern → Lantern) : (s.modLantern f).ticks = s.ticks := rfl
@[simp] theorem State.modLantern_fresh (s : State) (f : Lantern → Lantern) : (s.modLantern f).fresh = s.fresh := rfl
@[simp] theorem State.modLantern_out (s : State) (f : Lantern → Lantern) : (s.modLantern f).out = s.out := rfl
@[simp] theorem State.modLantern_pending (s : State) (f : Lantern → Lantern) : (s.modLantern f).pending = s.pending := rfl
@[simp] theorem State.modLantern_reg (s : State) (f : Lantern → Lantern) (r : Reg) : (s.modLantern f).reg r = s.reg r := rfl
@[simp] theorem State.modMem_dict (s : State) (f : Mem → Mem) : (s.modMem f).dict = s.dict := rfl
@[simp] theorem State.modMem_unit (s : State) (f : Mem → Mem) : (s.modMem f).unit = s.unit := rfl
@[simp] theorem State.modMem_drum (s : State) (f : Mem → Mem) : (s.modMem f).drum = s.drum := rfl
@[simp] theorem State.modMem_log (s : State) (f : Mem → Mem) : (s.modMem f).log = s.log := rfl
@[simp] theorem State.modMem_clock (s : State) (f : Mem → Mem) : (s.modMem f).clock = s.clock := rfl
@[simp] theorem State.modMem_net (s : State) (f : Mem → Mem) : (s.modMem f).net = s.net := rfl
@[simp] theorem State.modMem_idp (s : State) (f : Mem → Mem) : (s.modMem f).idp = s.idp := rfl
@[simp] theorem State.modMem_ingest (s : State) (f : Mem → Mem) : (s.modMem f).ingest = s.ingest := rfl
@[simp] theorem State.modMem_epochs (s : State) (f : Mem → Mem) : (s.modMem f).epochs = s.epochs := rfl
@[simp] theorem State.modMem_belfry (s : State) (f : Mem → Mem) : (s.modMem f).belfry = s.belfry := rfl
@[simp] theorem State.modMem_cupola (s : State) (f : Mem → Mem) : (s.modMem f).cupola = s.cupola := rfl
@[simp] theorem State.modMem_scan (s : State) (f : Mem → Mem) : (s.modMem f).scan = s.scan := rfl
@[simp] theorem State.modMem_spire (s : State) (f : Mem → Mem) : (s.modMem f).spire = s.spire := rfl
@[simp] theorem State.modMem_cal (s : State) (f : Mem → Mem) : (s.modMem f).cal = s.cal := rfl
@[simp] theorem State.modMem_bridge (s : State) (f : Mem → Mem) : (s.modMem f).bridge = s.bridge := rfl
@[simp] theorem State.modMem_ocu (s : State) (f : Mem → Mem) : (s.modMem f).ocu = s.ocu := rfl
@[simp] theorem State.modMem_lantern (s : State) (f : Mem → Mem) : (s.modMem f).lantern = s.lantern := rfl
@[simp] theorem State.modMem_mem (s : State) (f : Mem → Mem) : (s.modMem f).mem = f s.mem := rfl
@[simp] theorem State.modMem_smap (s : State) (f : Mem → Mem) : (s.modMem f).smap = s.smap := rfl
@[simp] theorem State.modMem_twin (s : State) (f : Mem → Mem) : (s.modMem f).twin = s.twin := rfl
@[simp] theorem State.modMem_chain (s : State) (f : Mem → Mem) : (s.modMem f).chain = s.chain := rfl
@[simp] theorem State.modMem_update (s : State) (f : Mem → Mem) : (s.modMem f).update = s.update := rfl
@[simp] theorem State.modMem_sys (s : State) (f : Mem → Mem) : (s.modMem f).sys = s.sys := rfl
@[simp] theorem State.modMem_ticks (s : State) (f : Mem → Mem) : (s.modMem f).ticks = s.ticks := rfl
@[simp] theorem State.modMem_fresh (s : State) (f : Mem → Mem) : (s.modMem f).fresh = s.fresh := rfl
@[simp] theorem State.modMem_out (s : State) (f : Mem → Mem) : (s.modMem f).out = s.out := rfl
@[simp] theorem State.modMem_pending (s : State) (f : Mem → Mem) : (s.modMem f).pending = s.pending := rfl
@[simp] theorem State.modMem_reg (s : State) (f : Mem → Mem) (r : Reg) : (s.modMem f).reg r = s.reg r := rfl
@[simp] theorem State.modMap_dict (s : State) (f : SignalMap → SignalMap) : (s.modMap f).dict = s.dict := rfl
@[simp] theorem State.modMap_unit (s : State) (f : SignalMap → SignalMap) : (s.modMap f).unit = s.unit := rfl
@[simp] theorem State.modMap_drum (s : State) (f : SignalMap → SignalMap) : (s.modMap f).drum = s.drum := rfl
@[simp] theorem State.modMap_log (s : State) (f : SignalMap → SignalMap) : (s.modMap f).log = s.log := rfl
@[simp] theorem State.modMap_clock (s : State) (f : SignalMap → SignalMap) : (s.modMap f).clock = s.clock := rfl
@[simp] theorem State.modMap_net (s : State) (f : SignalMap → SignalMap) : (s.modMap f).net = s.net := rfl
@[simp] theorem State.modMap_idp (s : State) (f : SignalMap → SignalMap) : (s.modMap f).idp = s.idp := rfl
@[simp] theorem State.modMap_ingest (s : State) (f : SignalMap → SignalMap) : (s.modMap f).ingest = s.ingest := rfl
@[simp] theorem State.modMap_epochs (s : State) (f : SignalMap → SignalMap) : (s.modMap f).epochs = s.epochs := rfl
@[simp] theorem State.modMap_belfry (s : State) (f : SignalMap → SignalMap) : (s.modMap f).belfry = s.belfry := rfl
@[simp] theorem State.modMap_cupola (s : State) (f : SignalMap → SignalMap) : (s.modMap f).cupola = s.cupola := rfl
@[simp] theorem State.modMap_scan (s : State) (f : SignalMap → SignalMap) : (s.modMap f).scan = s.scan := rfl
@[simp] theorem State.modMap_spire (s : State) (f : SignalMap → SignalMap) : (s.modMap f).spire = s.spire := rfl
@[simp] theorem State.modMap_cal (s : State) (f : SignalMap → SignalMap) : (s.modMap f).cal = s.cal := rfl
@[simp] theorem State.modMap_bridge (s : State) (f : SignalMap → SignalMap) : (s.modMap f).bridge = s.bridge := rfl
@[simp] theorem State.modMap_ocu (s : State) (f : SignalMap → SignalMap) : (s.modMap f).ocu = s.ocu := rfl
@[simp] theorem State.modMap_lantern (s : State) (f : SignalMap → SignalMap) : (s.modMap f).lantern = s.lantern := rfl
@[simp] theorem State.modMap_mem (s : State) (f : SignalMap → SignalMap) : (s.modMap f).mem = s.mem := rfl
@[simp] theorem State.modMap_smap (s : State) (f : SignalMap → SignalMap) : (s.modMap f).smap = f s.smap := rfl
@[simp] theorem State.modMap_twin (s : State) (f : SignalMap → SignalMap) : (s.modMap f).twin = s.twin := rfl
@[simp] theorem State.modMap_chain (s : State) (f : SignalMap → SignalMap) : (s.modMap f).chain = s.chain := rfl
@[simp] theorem State.modMap_update (s : State) (f : SignalMap → SignalMap) : (s.modMap f).update = s.update := rfl
@[simp] theorem State.modMap_sys (s : State) (f : SignalMap → SignalMap) : (s.modMap f).sys = s.sys := rfl
@[simp] theorem State.modMap_ticks (s : State) (f : SignalMap → SignalMap) : (s.modMap f).ticks = s.ticks := rfl
@[simp] theorem State.modMap_fresh (s : State) (f : SignalMap → SignalMap) : (s.modMap f).fresh = s.fresh := rfl
@[simp] theorem State.modMap_out (s : State) (f : SignalMap → SignalMap) : (s.modMap f).out = s.out := rfl
@[simp] theorem State.modMap_pending (s : State) (f : SignalMap → SignalMap) : (s.modMap f).pending = s.pending := rfl
@[simp] theorem State.modMap_reg (s : State) (f : SignalMap → SignalMap) (r : Reg) : (s.modMap f).reg r = s.reg r := rfl
@[simp] theorem State.modTwin_dict (s : State) (f : Twin → Twin) : (s.modTwin f).dict = s.dict := rfl
@[simp] theorem State.modTwin_unit (s : State) (f : Twin → Twin) : (s.modTwin f).unit = s.unit := rfl
@[simp] theorem State.modTwin_drum (s : State) (f : Twin → Twin) : (s.modTwin f).drum = s.drum := rfl
@[simp] theorem State.modTwin_log (s : State) (f : Twin → Twin) : (s.modTwin f).log = s.log := rfl
@[simp] theorem State.modTwin_clock (s : State) (f : Twin → Twin) : (s.modTwin f).clock = s.clock := rfl
@[simp] theorem State.modTwin_net (s : State) (f : Twin → Twin) : (s.modTwin f).net = s.net := rfl
@[simp] theorem State.modTwin_idp (s : State) (f : Twin → Twin) : (s.modTwin f).idp = s.idp := rfl
@[simp] theorem State.modTwin_ingest (s : State) (f : Twin → Twin) : (s.modTwin f).ingest = s.ingest := rfl
@[simp] theorem State.modTwin_epochs (s : State) (f : Twin → Twin) : (s.modTwin f).epochs = s.epochs := rfl
@[simp] theorem State.modTwin_belfry (s : State) (f : Twin → Twin) : (s.modTwin f).belfry = s.belfry := rfl
@[simp] theorem State.modTwin_cupola (s : State) (f : Twin → Twin) : (s.modTwin f).cupola = s.cupola := rfl
@[simp] theorem State.modTwin_scan (s : State) (f : Twin → Twin) : (s.modTwin f).scan = s.scan := rfl
@[simp] theorem State.modTwin_spire (s : State) (f : Twin → Twin) : (s.modTwin f).spire = s.spire := rfl
@[simp] theorem State.modTwin_cal (s : State) (f : Twin → Twin) : (s.modTwin f).cal = s.cal := rfl
@[simp] theorem State.modTwin_bridge (s : State) (f : Twin → Twin) : (s.modTwin f).bridge = s.bridge := rfl
@[simp] theorem State.modTwin_ocu (s : State) (f : Twin → Twin) : (s.modTwin f).ocu = s.ocu := rfl
@[simp] theorem State.modTwin_lantern (s : State) (f : Twin → Twin) : (s.modTwin f).lantern = s.lantern := rfl
@[simp] theorem State.modTwin_mem (s : State) (f : Twin → Twin) : (s.modTwin f).mem = s.mem := rfl
@[simp] theorem State.modTwin_smap (s : State) (f : Twin → Twin) : (s.modTwin f).smap = s.smap := rfl
@[simp] theorem State.modTwin_twin (s : State) (f : Twin → Twin) : (s.modTwin f).twin = f s.twin := rfl
@[simp] theorem State.modTwin_chain (s : State) (f : Twin → Twin) : (s.modTwin f).chain = s.chain := rfl
@[simp] theorem State.modTwin_update (s : State) (f : Twin → Twin) : (s.modTwin f).update = s.update := rfl
@[simp] theorem State.modTwin_sys (s : State) (f : Twin → Twin) : (s.modTwin f).sys = s.sys := rfl
@[simp] theorem State.modTwin_ticks (s : State) (f : Twin → Twin) : (s.modTwin f).ticks = s.ticks := rfl
@[simp] theorem State.modTwin_fresh (s : State) (f : Twin → Twin) : (s.modTwin f).fresh = s.fresh := rfl
@[simp] theorem State.modTwin_out (s : State) (f : Twin → Twin) : (s.modTwin f).out = s.out := rfl
@[simp] theorem State.modTwin_pending (s : State) (f : Twin → Twin) : (s.modTwin f).pending = s.pending := rfl
@[simp] theorem State.modTwin_reg (s : State) (f : Twin → Twin) (r : Reg) : (s.modTwin f).reg r = s.reg r := rfl
@[simp] theorem State.modChain_dict (s : State) (f : Chain → Chain) : (s.modChain f).dict = s.dict := rfl
@[simp] theorem State.modChain_unit (s : State) (f : Chain → Chain) : (s.modChain f).unit = s.unit := rfl
@[simp] theorem State.modChain_drum (s : State) (f : Chain → Chain) : (s.modChain f).drum = s.drum := rfl
@[simp] theorem State.modChain_log (s : State) (f : Chain → Chain) : (s.modChain f).log = s.log := rfl
@[simp] theorem State.modChain_clock (s : State) (f : Chain → Chain) : (s.modChain f).clock = s.clock := rfl
@[simp] theorem State.modChain_net (s : State) (f : Chain → Chain) : (s.modChain f).net = s.net := rfl
@[simp] theorem State.modChain_idp (s : State) (f : Chain → Chain) : (s.modChain f).idp = s.idp := rfl
@[simp] theorem State.modChain_ingest (s : State) (f : Chain → Chain) : (s.modChain f).ingest = s.ingest := rfl
@[simp] theorem State.modChain_epochs (s : State) (f : Chain → Chain) : (s.modChain f).epochs = s.epochs := rfl
@[simp] theorem State.modChain_belfry (s : State) (f : Chain → Chain) : (s.modChain f).belfry = s.belfry := rfl
@[simp] theorem State.modChain_cupola (s : State) (f : Chain → Chain) : (s.modChain f).cupola = s.cupola := rfl
@[simp] theorem State.modChain_scan (s : State) (f : Chain → Chain) : (s.modChain f).scan = s.scan := rfl
@[simp] theorem State.modChain_spire (s : State) (f : Chain → Chain) : (s.modChain f).spire = s.spire := rfl
@[simp] theorem State.modChain_cal (s : State) (f : Chain → Chain) : (s.modChain f).cal = s.cal := rfl
@[simp] theorem State.modChain_bridge (s : State) (f : Chain → Chain) : (s.modChain f).bridge = s.bridge := rfl
@[simp] theorem State.modChain_ocu (s : State) (f : Chain → Chain) : (s.modChain f).ocu = s.ocu := rfl
@[simp] theorem State.modChain_lantern (s : State) (f : Chain → Chain) : (s.modChain f).lantern = s.lantern := rfl
@[simp] theorem State.modChain_mem (s : State) (f : Chain → Chain) : (s.modChain f).mem = s.mem := rfl
@[simp] theorem State.modChain_smap (s : State) (f : Chain → Chain) : (s.modChain f).smap = s.smap := rfl
@[simp] theorem State.modChain_twin (s : State) (f : Chain → Chain) : (s.modChain f).twin = s.twin := rfl
@[simp] theorem State.modChain_chain (s : State) (f : Chain → Chain) : (s.modChain f).chain = f s.chain := rfl
@[simp] theorem State.modChain_update (s : State) (f : Chain → Chain) : (s.modChain f).update = s.update := rfl
@[simp] theorem State.modChain_sys (s : State) (f : Chain → Chain) : (s.modChain f).sys = s.sys := rfl
@[simp] theorem State.modChain_ticks (s : State) (f : Chain → Chain) : (s.modChain f).ticks = s.ticks := rfl
@[simp] theorem State.modChain_fresh (s : State) (f : Chain → Chain) : (s.modChain f).fresh = s.fresh := rfl
@[simp] theorem State.modChain_out (s : State) (f : Chain → Chain) : (s.modChain f).out = s.out := rfl
@[simp] theorem State.modChain_pending (s : State) (f : Chain → Chain) : (s.modChain f).pending = s.pending := rfl
@[simp] theorem State.modChain_reg (s : State) (f : Chain → Chain) (r : Reg) : (s.modChain f).reg r = s.reg r := rfl
@[simp] theorem State.modUpdate_dict (s : State) (f : Update → Update) : (s.modUpdate f).dict = s.dict := rfl
@[simp] theorem State.modUpdate_unit (s : State) (f : Update → Update) : (s.modUpdate f).unit = s.unit := rfl
@[simp] theorem State.modUpdate_drum (s : State) (f : Update → Update) : (s.modUpdate f).drum = s.drum := rfl
@[simp] theorem State.modUpdate_log (s : State) (f : Update → Update) : (s.modUpdate f).log = s.log := rfl
@[simp] theorem State.modUpdate_clock (s : State) (f : Update → Update) : (s.modUpdate f).clock = s.clock := rfl
@[simp] theorem State.modUpdate_net (s : State) (f : Update → Update) : (s.modUpdate f).net = s.net := rfl
@[simp] theorem State.modUpdate_idp (s : State) (f : Update → Update) : (s.modUpdate f).idp = s.idp := rfl
@[simp] theorem State.modUpdate_ingest (s : State) (f : Update → Update) : (s.modUpdate f).ingest = s.ingest := rfl
@[simp] theorem State.modUpdate_epochs (s : State) (f : Update → Update) : (s.modUpdate f).epochs = s.epochs := rfl
@[simp] theorem State.modUpdate_belfry (s : State) (f : Update → Update) : (s.modUpdate f).belfry = s.belfry := rfl
@[simp] theorem State.modUpdate_cupola (s : State) (f : Update → Update) : (s.modUpdate f).cupola = s.cupola := rfl
@[simp] theorem State.modUpdate_scan (s : State) (f : Update → Update) : (s.modUpdate f).scan = s.scan := rfl
@[simp] theorem State.modUpdate_spire (s : State) (f : Update → Update) : (s.modUpdate f).spire = s.spire := rfl
@[simp] theorem State.modUpdate_cal (s : State) (f : Update → Update) : (s.modUpdate f).cal = s.cal := rfl
@[simp] theorem State.modUpdate_bridge (s : State) (f : Update → Update) : (s.modUpdate f).bridge = s.bridge := rfl
@[simp] theorem State.modUpdate_ocu (s : State) (f : Update → Update) : (s.modUpdate f).ocu = s.ocu := rfl
@[simp] theorem State.modUpdate_lantern (s : State) (f : Update → Update) : (s.modUpdate f).lantern = s.lantern := rfl
@[simp] theorem State.modUpdate_mem (s : State) (f : Update → Update) : (s.modUpdate f).mem = s.mem := rfl
@[simp] theorem State.modUpdate_smap (s : State) (f : Update → Update) : (s.modUpdate f).smap = s.smap := rfl
@[simp] theorem State.modUpdate_twin (s : State) (f : Update → Update) : (s.modUpdate f).twin = s.twin := rfl
@[simp] theorem State.modUpdate_chain (s : State) (f : Update → Update) : (s.modUpdate f).chain = s.chain := rfl
@[simp] theorem State.modUpdate_update (s : State) (f : Update → Update) : (s.modUpdate f).update = f s.update := rfl
@[simp] theorem State.modUpdate_sys (s : State) (f : Update → Update) : (s.modUpdate f).sys = s.sys := rfl
@[simp] theorem State.modUpdate_ticks (s : State) (f : Update → Update) : (s.modUpdate f).ticks = s.ticks := rfl
@[simp] theorem State.modUpdate_fresh (s : State) (f : Update → Update) : (s.modUpdate f).fresh = s.fresh := rfl
@[simp] theorem State.modUpdate_out (s : State) (f : Update → Update) : (s.modUpdate f).out = s.out := rfl
@[simp] theorem State.modUpdate_pending (s : State) (f : Update → Update) : (s.modUpdate f).pending = s.pending := rfl
@[simp] theorem State.modUpdate_reg (s : State) (f : Update → Update) (r : Reg) : (s.modUpdate f).reg r = s.reg r := rfl
@[simp] theorem State.modSys_dict (s : State) (f : Sys → Sys) : (s.modSys f).dict = s.dict := rfl
@[simp] theorem State.modSys_unit (s : State) (f : Sys → Sys) : (s.modSys f).unit = s.unit := rfl
@[simp] theorem State.modSys_drum (s : State) (f : Sys → Sys) : (s.modSys f).drum = s.drum := rfl
@[simp] theorem State.modSys_log (s : State) (f : Sys → Sys) : (s.modSys f).log = s.log := rfl
@[simp] theorem State.modSys_clock (s : State) (f : Sys → Sys) : (s.modSys f).clock = s.clock := rfl
@[simp] theorem State.modSys_net (s : State) (f : Sys → Sys) : (s.modSys f).net = s.net := rfl
@[simp] theorem State.modSys_idp (s : State) (f : Sys → Sys) : (s.modSys f).idp = s.idp := rfl
@[simp] theorem State.modSys_ingest (s : State) (f : Sys → Sys) : (s.modSys f).ingest = s.ingest := rfl
@[simp] theorem State.modSys_epochs (s : State) (f : Sys → Sys) : (s.modSys f).epochs = s.epochs := rfl
@[simp] theorem State.modSys_belfry (s : State) (f : Sys → Sys) : (s.modSys f).belfry = s.belfry := rfl
@[simp] theorem State.modSys_cupola (s : State) (f : Sys → Sys) : (s.modSys f).cupola = s.cupola := rfl
@[simp] theorem State.modSys_scan (s : State) (f : Sys → Sys) : (s.modSys f).scan = s.scan := rfl
@[simp] theorem State.modSys_spire (s : State) (f : Sys → Sys) : (s.modSys f).spire = s.spire := rfl
@[simp] theorem State.modSys_cal (s : State) (f : Sys → Sys) : (s.modSys f).cal = s.cal := rfl
@[simp] theorem State.modSys_bridge (s : State) (f : Sys → Sys) : (s.modSys f).bridge = s.bridge := rfl
@[simp] theorem State.modSys_ocu (s : State) (f : Sys → Sys) : (s.modSys f).ocu = s.ocu := rfl
@[simp] theorem State.modSys_lantern (s : State) (f : Sys → Sys) : (s.modSys f).lantern = s.lantern := rfl
@[simp] theorem State.modSys_mem (s : State) (f : Sys → Sys) : (s.modSys f).mem = s.mem := rfl
@[simp] theorem State.modSys_smap (s : State) (f : Sys → Sys) : (s.modSys f).smap = s.smap := rfl
@[simp] theorem State.modSys_twin (s : State) (f : Sys → Sys) : (s.modSys f).twin = s.twin := rfl
@[simp] theorem State.modSys_chain (s : State) (f : Sys → Sys) : (s.modSys f).chain = s.chain := rfl
@[simp] theorem State.modSys_update (s : State) (f : Sys → Sys) : (s.modSys f).update = s.update := rfl
@[simp] theorem State.modSys_sys (s : State) (f : Sys → Sys) : (s.modSys f).sys = f s.sys := rfl
@[simp] theorem State.modSys_ticks (s : State) (f : Sys → Sys) : (s.modSys f).ticks = s.ticks := rfl
@[simp] theorem State.modSys_fresh (s : State) (f : Sys → Sys) : (s.modSys f).fresh = s.fresh := rfl
@[simp] theorem State.modSys_out (s : State) (f : Sys → Sys) : (s.modSys f).out = s.out := rfl
@[simp] theorem State.modSys_pending (s : State) (f : Sys → Sys) : (s.modSys f).pending = s.pending := rfl
@[simp] theorem State.modSys_reg (s : State) (f : Sys → Sys) (r : Reg) : (s.modSys f).reg r = s.reg r := rfl

/-! The updates every block uses -/

@[simp] theorem State.emit_dict (s : State) (x : Output) : (s.emit x).dict = s.dict := rfl
@[simp] theorem State.reply_dict (s : State) (n : Nat) : (s.reply n).dict = s.dict := rfl
@[simp] theorem State.takeFree_dict (s : State) : s.takeFree.2.dict = s.dict := rfl
@[simp] theorem State.elapse_dict (s : State) (n : Nat) : (s.elapse n).dict = s.dict := rfl
@[simp] theorem State.setReg_unit (s : State) (r : Reg) (v : Nat) : (s.setReg r v).unit = s.unit := by unfold State.setReg; split <;> rfl
@[simp] theorem State.setInt_unit (s : State) (r : Reg) (v : Int) : (s.setInt r v).unit = s.unit := s.setReg_unit r _
@[simp] theorem State.setBit_unit (s : State) (r : Reg) (n : Nat) (b : Bool) : (s.setBit r n b).unit = s.unit := s.setReg_unit r _
@[simp] theorem State.bump_unit (s : State) (r : Reg) (n : Nat) : (s.bump r n).unit = s.unit := s.setReg_unit r _
@[simp] theorem State.drumCount_unit (s : State) (r : Reg) (n : Nat) : (s.drumCount r n).1.unit = s.unit := s.setReg_unit r _
@[simp] theorem State.emit_unit (s : State) (x : Output) : (s.emit x).unit = s.unit := rfl
@[simp] theorem State.reply_unit (s : State) (n : Nat) : (s.reply n).unit = s.unit := rfl
@[simp] theorem State.takeFree_unit (s : State) : s.takeFree.2.unit = s.unit := rfl
@[simp] theorem State.elapse_unit (s : State) (n : Nat) : (s.elapse n).unit = s.unit := rfl
@[simp] theorem State.postItem_unit (s : State) (ws : List DrumWord) : (s.postItem ws).unit = s.unit := by unfold State.postItem; cases ws <;> simp; split <;> simp
@[simp] theorem State.post_unit (s : State) (c p a : Nat) : (s.post c p a).unit = s.unit := s.postItem_unit _
@[simp] theorem State.count_unit (s : State) (r : Reg) (n : Nat) : (s.count r n).unit = s.unit := by simp only [State.count]; split <;> simp
@[simp] theorem State.setReg_drum (s : State) (r : Reg) (v : Nat) : (s.setReg r v).drum = s.drum := by unfold State.setReg; split <;> rfl
@[simp] theorem State.setInt_drum (s : State) (r : Reg) (v : Int) : (s.setInt r v).drum = s.drum := s.setReg_drum r _
@[simp] theorem State.setBit_drum (s : State) (r : Reg) (n : Nat) (b : Bool) : (s.setBit r n b).drum = s.drum := s.setReg_drum r _
@[simp] theorem State.bump_drum (s : State) (r : Reg) (n : Nat) : (s.bump r n).drum = s.drum := s.setReg_drum r _
@[simp] theorem State.drumCount_drum (s : State) (r : Reg) (n : Nat) : (s.drumCount r n).1.drum = s.drum := s.setReg_drum r _
@[simp] theorem State.emit_drum (s : State) (x : Output) : (s.emit x).drum = s.drum := rfl
@[simp] theorem State.reply_drum (s : State) (n : Nat) : (s.reply n).drum = s.drum := rfl
@[simp] theorem State.takeFree_drum (s : State) : s.takeFree.2.drum = s.drum := rfl
@[simp] theorem State.elapse_drum (s : State) (n : Nat) : (s.elapse n).drum = s.drum := rfl
@[simp] theorem State.setReg_log (s : State) (r : Reg) (v : Nat) : (s.setReg r v).log = s.log := by unfold State.setReg; split <;> rfl
@[simp] theorem State.setInt_log (s : State) (r : Reg) (v : Int) : (s.setInt r v).log = s.log := s.setReg_log r _
@[simp] theorem State.setBit_log (s : State) (r : Reg) (n : Nat) (b : Bool) : (s.setBit r n b).log = s.log := s.setReg_log r _
@[simp] theorem State.bump_log (s : State) (r : Reg) (n : Nat) : (s.bump r n).log = s.log := s.setReg_log r _
@[simp] theorem State.drumCount_log (s : State) (r : Reg) (n : Nat) : (s.drumCount r n).1.log = s.log := s.setReg_log r _
@[simp] theorem State.emit_log (s : State) (x : Output) : (s.emit x).log = s.log := rfl
@[simp] theorem State.reply_log (s : State) (n : Nat) : (s.reply n).log = s.log := rfl
@[simp] theorem State.takeFree_log (s : State) : s.takeFree.2.log = s.log := rfl
@[simp] theorem State.elapse_log (s : State) (n : Nat) : (s.elapse n).log = s.log := rfl
@[simp] theorem State.postItem_log (s : State) (ws : List DrumWord) : (s.postItem ws).log = s.log := by unfold State.postItem; cases ws <;> simp; split <;> simp
@[simp] theorem State.post_log (s : State) (c p a : Nat) : (s.post c p a).log = s.log := s.postItem_log _
@[simp] theorem State.count_log (s : State) (r : Reg) (n : Nat) : (s.count r n).log = s.log := by simp only [State.count]; split <;> simp
@[simp] theorem State.setReg_clock (s : State) (r : Reg) (v : Nat) : (s.setReg r v).clock = s.clock := by unfold State.setReg; split <;> rfl
@[simp] theorem State.setInt_clock (s : State) (r : Reg) (v : Int) : (s.setInt r v).clock = s.clock := s.setReg_clock r _
@[simp] theorem State.setBit_clock (s : State) (r : Reg) (n : Nat) (b : Bool) : (s.setBit r n b).clock = s.clock := s.setReg_clock r _
@[simp] theorem State.bump_clock (s : State) (r : Reg) (n : Nat) : (s.bump r n).clock = s.clock := s.setReg_clock r _
@[simp] theorem State.drumCount_clock (s : State) (r : Reg) (n : Nat) : (s.drumCount r n).1.clock = s.clock := s.setReg_clock r _
@[simp] theorem State.emit_clock (s : State) (x : Output) : (s.emit x).clock = s.clock := rfl
@[simp] theorem State.reply_clock (s : State) (n : Nat) : (s.reply n).clock = s.clock := rfl
@[simp] theorem State.takeFree_clock (s : State) : s.takeFree.2.clock = s.clock := rfl
@[simp] theorem State.postItem_clock (s : State) (ws : List DrumWord) : (s.postItem ws).clock = s.clock := by unfold State.postItem; cases ws <;> simp; split <;> simp
@[simp] theorem State.post_clock (s : State) (c p a : Nat) : (s.post c p a).clock = s.clock := s.postItem_clock _
@[simp] theorem State.count_clock (s : State) (r : Reg) (n : Nat) : (s.count r n).clock = s.clock := by simp only [State.count]; split <;> simp
@[simp] theorem State.setReg_net (s : State) (r : Reg) (v : Nat) : (s.setReg r v).net = s.net := by unfold State.setReg; split <;> rfl
@[simp] theorem State.setInt_net (s : State) (r : Reg) (v : Int) : (s.setInt r v).net = s.net := s.setReg_net r _
@[simp] theorem State.setBit_net (s : State) (r : Reg) (n : Nat) (b : Bool) : (s.setBit r n b).net = s.net := s.setReg_net r _
@[simp] theorem State.bump_net (s : State) (r : Reg) (n : Nat) : (s.bump r n).net = s.net := s.setReg_net r _
@[simp] theorem State.drumCount_net (s : State) (r : Reg) (n : Nat) : (s.drumCount r n).1.net = s.net := s.setReg_net r _
@[simp] theorem State.emit_net (s : State) (x : Output) : (s.emit x).net = s.net := rfl
@[simp] theorem State.reply_net (s : State) (n : Nat) : (s.reply n).net = s.net := rfl
@[simp] theorem State.takeFree_net (s : State) : s.takeFree.2.net = s.net := rfl
@[simp] theorem State.elapse_net (s : State) (n : Nat) : (s.elapse n).net = s.net := rfl
@[simp] theorem State.postItem_net (s : State) (ws : List DrumWord) : (s.postItem ws).net = s.net := by unfold State.postItem; cases ws <;> simp; split <;> simp
@[simp] theorem State.post_net (s : State) (c p a : Nat) : (s.post c p a).net = s.net := s.postItem_net _
@[simp] theorem State.count_net (s : State) (r : Reg) (n : Nat) : (s.count r n).net = s.net := by simp only [State.count]; split <;> simp
@[simp] theorem State.setReg_idp (s : State) (r : Reg) (v : Nat) : (s.setReg r v).idp = s.idp := by unfold State.setReg; split <;> rfl
@[simp] theorem State.setInt_idp (s : State) (r : Reg) (v : Int) : (s.setInt r v).idp = s.idp := s.setReg_idp r _
@[simp] theorem State.setBit_idp (s : State) (r : Reg) (n : Nat) (b : Bool) : (s.setBit r n b).idp = s.idp := s.setReg_idp r _
@[simp] theorem State.bump_idp (s : State) (r : Reg) (n : Nat) : (s.bump r n).idp = s.idp := s.setReg_idp r _
@[simp] theorem State.drumCount_idp (s : State) (r : Reg) (n : Nat) : (s.drumCount r n).1.idp = s.idp := s.setReg_idp r _
@[simp] theorem State.emit_idp (s : State) (x : Output) : (s.emit x).idp = s.idp := rfl
@[simp] theorem State.reply_idp (s : State) (n : Nat) : (s.reply n).idp = s.idp := rfl
@[simp] theorem State.takeFree_idp (s : State) : s.takeFree.2.idp = s.idp := rfl
@[simp] theorem State.elapse_idp (s : State) (n : Nat) : (s.elapse n).idp = s.idp := rfl
@[simp] theorem State.postItem_idp (s : State) (ws : List DrumWord) : (s.postItem ws).idp = s.idp := by unfold State.postItem; cases ws <;> simp; split <;> simp
@[simp] theorem State.post_idp (s : State) (c p a : Nat) : (s.post c p a).idp = s.idp := s.postItem_idp _
@[simp] theorem State.count_idp (s : State) (r : Reg) (n : Nat) : (s.count r n).idp = s.idp := by simp only [State.count]; split <;> simp
@[simp] theorem State.setReg_ingest (s : State) (r : Reg) (v : Nat) : (s.setReg r v).ingest = s.ingest := by unfold State.setReg; split <;> rfl
@[simp] theorem State.setInt_ingest (s : State) (r : Reg) (v : Int) : (s.setInt r v).ingest = s.ingest := s.setReg_ingest r _
@[simp] theorem State.setBit_ingest (s : State) (r : Reg) (n : Nat) (b : Bool) : (s.setBit r n b).ingest = s.ingest := s.setReg_ingest r _
@[simp] theorem State.bump_ingest (s : State) (r : Reg) (n : Nat) : (s.bump r n).ingest = s.ingest := s.setReg_ingest r _
@[simp] theorem State.drumCount_ingest (s : State) (r : Reg) (n : Nat) : (s.drumCount r n).1.ingest = s.ingest := s.setReg_ingest r _
@[simp] theorem State.emit_ingest (s : State) (x : Output) : (s.emit x).ingest = s.ingest := rfl
@[simp] theorem State.reply_ingest (s : State) (n : Nat) : (s.reply n).ingest = s.ingest := rfl
@[simp] theorem State.takeFree_ingest (s : State) : s.takeFree.2.ingest = s.ingest := rfl
@[simp] theorem State.elapse_ingest (s : State) (n : Nat) : (s.elapse n).ingest = s.ingest := rfl
@[simp] theorem State.postItem_ingest (s : State) (ws : List DrumWord) : (s.postItem ws).ingest = s.ingest := by unfold State.postItem; cases ws <;> simp; split <;> simp
@[simp] theorem State.post_ingest (s : State) (c p a : Nat) : (s.post c p a).ingest = s.ingest := s.postItem_ingest _
@[simp] theorem State.count_ingest (s : State) (r : Reg) (n : Nat) : (s.count r n).ingest = s.ingest := by simp only [State.count]; split <;> simp
@[simp] theorem State.setReg_epochs (s : State) (r : Reg) (v : Nat) : (s.setReg r v).epochs = s.epochs := by unfold State.setReg; split <;> rfl
@[simp] theorem State.setInt_epochs (s : State) (r : Reg) (v : Int) : (s.setInt r v).epochs = s.epochs := s.setReg_epochs r _
@[simp] theorem State.setBit_epochs (s : State) (r : Reg) (n : Nat) (b : Bool) : (s.setBit r n b).epochs = s.epochs := s.setReg_epochs r _
@[simp] theorem State.bump_epochs (s : State) (r : Reg) (n : Nat) : (s.bump r n).epochs = s.epochs := s.setReg_epochs r _
@[simp] theorem State.drumCount_epochs (s : State) (r : Reg) (n : Nat) : (s.drumCount r n).1.epochs = s.epochs := s.setReg_epochs r _
@[simp] theorem State.emit_epochs (s : State) (x : Output) : (s.emit x).epochs = s.epochs := rfl
@[simp] theorem State.reply_epochs (s : State) (n : Nat) : (s.reply n).epochs = s.epochs := rfl
@[simp] theorem State.takeFree_epochs (s : State) : s.takeFree.2.epochs = s.epochs := rfl
@[simp] theorem State.elapse_epochs (s : State) (n : Nat) : (s.elapse n).epochs = s.epochs := rfl
@[simp] theorem State.postItem_epochs (s : State) (ws : List DrumWord) : (s.postItem ws).epochs = s.epochs := by unfold State.postItem; cases ws <;> simp; split <;> simp
@[simp] theorem State.post_epochs (s : State) (c p a : Nat) : (s.post c p a).epochs = s.epochs := s.postItem_epochs _
@[simp] theorem State.count_epochs (s : State) (r : Reg) (n : Nat) : (s.count r n).epochs = s.epochs := by simp only [State.count]; split <;> simp
@[simp] theorem State.setReg_belfry (s : State) (r : Reg) (v : Nat) : (s.setReg r v).belfry = s.belfry := by unfold State.setReg; split <;> rfl
@[simp] theorem State.setInt_belfry (s : State) (r : Reg) (v : Int) : (s.setInt r v).belfry = s.belfry := s.setReg_belfry r _
@[simp] theorem State.setBit_belfry (s : State) (r : Reg) (n : Nat) (b : Bool) : (s.setBit r n b).belfry = s.belfry := s.setReg_belfry r _
@[simp] theorem State.bump_belfry (s : State) (r : Reg) (n : Nat) : (s.bump r n).belfry = s.belfry := s.setReg_belfry r _
@[simp] theorem State.drumCount_belfry (s : State) (r : Reg) (n : Nat) : (s.drumCount r n).1.belfry = s.belfry := s.setReg_belfry r _
@[simp] theorem State.emit_belfry (s : State) (x : Output) : (s.emit x).belfry = s.belfry := rfl
@[simp] theorem State.reply_belfry (s : State) (n : Nat) : (s.reply n).belfry = s.belfry := rfl
@[simp] theorem State.takeFree_belfry (s : State) : s.takeFree.2.belfry = s.belfry := rfl
@[simp] theorem State.postItem_belfry (s : State) (ws : List DrumWord) : (s.postItem ws).belfry = s.belfry := by unfold State.postItem; cases ws <;> simp; split <;> simp
@[simp] theorem State.post_belfry (s : State) (c p a : Nat) : (s.post c p a).belfry = s.belfry := s.postItem_belfry _
@[simp] theorem State.count_belfry (s : State) (r : Reg) (n : Nat) : (s.count r n).belfry = s.belfry := by simp only [State.count]; split <;> simp
@[simp] theorem State.setReg_cupola (s : State) (r : Reg) (v : Nat) : (s.setReg r v).cupola = s.cupola := by unfold State.setReg; split <;> rfl
@[simp] theorem State.setInt_cupola (s : State) (r : Reg) (v : Int) : (s.setInt r v).cupola = s.cupola := s.setReg_cupola r _
@[simp] theorem State.setBit_cupola (s : State) (r : Reg) (n : Nat) (b : Bool) : (s.setBit r n b).cupola = s.cupola := s.setReg_cupola r _
@[simp] theorem State.bump_cupola (s : State) (r : Reg) (n : Nat) : (s.bump r n).cupola = s.cupola := s.setReg_cupola r _
@[simp] theorem State.drumCount_cupola (s : State) (r : Reg) (n : Nat) : (s.drumCount r n).1.cupola = s.cupola := s.setReg_cupola r _
@[simp] theorem State.emit_cupola (s : State) (x : Output) : (s.emit x).cupola = s.cupola := rfl
@[simp] theorem State.reply_cupola (s : State) (n : Nat) : (s.reply n).cupola = s.cupola := rfl
@[simp] theorem State.takeFree_cupola (s : State) : s.takeFree.2.cupola = s.cupola := rfl
@[simp] theorem State.elapse_cupola (s : State) (n : Nat) : (s.elapse n).cupola = s.cupola := rfl
@[simp] theorem State.postItem_cupola (s : State) (ws : List DrumWord) : (s.postItem ws).cupola = s.cupola := by unfold State.postItem; cases ws <;> simp; split <;> simp
@[simp] theorem State.post_cupola (s : State) (c p a : Nat) : (s.post c p a).cupola = s.cupola := s.postItem_cupola _
@[simp] theorem State.count_cupola (s : State) (r : Reg) (n : Nat) : (s.count r n).cupola = s.cupola := by simp only [State.count]; split <;> simp
@[simp] theorem State.setReg_scan (s : State) (r : Reg) (v : Nat) : (s.setReg r v).scan = s.scan := by unfold State.setReg; split <;> rfl
@[simp] theorem State.setInt_scan (s : State) (r : Reg) (v : Int) : (s.setInt r v).scan = s.scan := s.setReg_scan r _
@[simp] theorem State.setBit_scan (s : State) (r : Reg) (n : Nat) (b : Bool) : (s.setBit r n b).scan = s.scan := s.setReg_scan r _
@[simp] theorem State.bump_scan (s : State) (r : Reg) (n : Nat) : (s.bump r n).scan = s.scan := s.setReg_scan r _
@[simp] theorem State.drumCount_scan (s : State) (r : Reg) (n : Nat) : (s.drumCount r n).1.scan = s.scan := s.setReg_scan r _
@[simp] theorem State.emit_scan (s : State) (x : Output) : (s.emit x).scan = s.scan := rfl
@[simp] theorem State.reply_scan (s : State) (n : Nat) : (s.reply n).scan = s.scan := rfl
@[simp] theorem State.takeFree_scan (s : State) : s.takeFree.2.scan = s.scan := rfl
@[simp] theorem State.elapse_scan (s : State) (n : Nat) : (s.elapse n).scan = s.scan := rfl
@[simp] theorem State.postItem_scan (s : State) (ws : List DrumWord) : (s.postItem ws).scan = s.scan := by unfold State.postItem; cases ws <;> simp; split <;> simp
@[simp] theorem State.post_scan (s : State) (c p a : Nat) : (s.post c p a).scan = s.scan := s.postItem_scan _
@[simp] theorem State.count_scan (s : State) (r : Reg) (n : Nat) : (s.count r n).scan = s.scan := by simp only [State.count]; split <;> simp
@[simp] theorem State.setReg_spire (s : State) (r : Reg) (v : Nat) : (s.setReg r v).spire = s.spire := by unfold State.setReg; split <;> rfl
@[simp] theorem State.setInt_spire (s : State) (r : Reg) (v : Int) : (s.setInt r v).spire = s.spire := s.setReg_spire r _
@[simp] theorem State.setBit_spire (s : State) (r : Reg) (n : Nat) (b : Bool) : (s.setBit r n b).spire = s.spire := s.setReg_spire r _
@[simp] theorem State.bump_spire (s : State) (r : Reg) (n : Nat) : (s.bump r n).spire = s.spire := s.setReg_spire r _
@[simp] theorem State.drumCount_spire (s : State) (r : Reg) (n : Nat) : (s.drumCount r n).1.spire = s.spire := s.setReg_spire r _
@[simp] theorem State.emit_spire (s : State) (x : Output) : (s.emit x).spire = s.spire := rfl
@[simp] theorem State.reply_spire (s : State) (n : Nat) : (s.reply n).spire = s.spire := rfl
@[simp] theorem State.takeFree_spire (s : State) : s.takeFree.2.spire = s.spire := rfl
@[simp] theorem State.elapse_spire (s : State) (n : Nat) : (s.elapse n).spire = s.spire := rfl
@[simp] theorem State.postItem_spire (s : State) (ws : List DrumWord) : (s.postItem ws).spire = s.spire := by unfold State.postItem; cases ws <;> simp; split <;> simp
@[simp] theorem State.post_spire (s : State) (c p a : Nat) : (s.post c p a).spire = s.spire := s.postItem_spire _
@[simp] theorem State.count_spire (s : State) (r : Reg) (n : Nat) : (s.count r n).spire = s.spire := by simp only [State.count]; split <;> simp
@[simp] theorem State.setReg_cal (s : State) (r : Reg) (v : Nat) : (s.setReg r v).cal = s.cal := by unfold State.setReg; split <;> rfl
@[simp] theorem State.setInt_cal (s : State) (r : Reg) (v : Int) : (s.setInt r v).cal = s.cal := s.setReg_cal r _
@[simp] theorem State.setBit_cal (s : State) (r : Reg) (n : Nat) (b : Bool) : (s.setBit r n b).cal = s.cal := s.setReg_cal r _
@[simp] theorem State.bump_cal (s : State) (r : Reg) (n : Nat) : (s.bump r n).cal = s.cal := s.setReg_cal r _
@[simp] theorem State.drumCount_cal (s : State) (r : Reg) (n : Nat) : (s.drumCount r n).1.cal = s.cal := s.setReg_cal r _
@[simp] theorem State.emit_cal (s : State) (x : Output) : (s.emit x).cal = s.cal := rfl
@[simp] theorem State.reply_cal (s : State) (n : Nat) : (s.reply n).cal = s.cal := rfl
@[simp] theorem State.takeFree_cal (s : State) : s.takeFree.2.cal = s.cal := rfl
@[simp] theorem State.elapse_cal (s : State) (n : Nat) : (s.elapse n).cal = s.cal := rfl
@[simp] theorem State.postItem_cal (s : State) (ws : List DrumWord) : (s.postItem ws).cal = s.cal := by unfold State.postItem; cases ws <;> simp; split <;> simp
@[simp] theorem State.post_cal (s : State) (c p a : Nat) : (s.post c p a).cal = s.cal := s.postItem_cal _
@[simp] theorem State.count_cal (s : State) (r : Reg) (n : Nat) : (s.count r n).cal = s.cal := by simp only [State.count]; split <;> simp
@[simp] theorem State.setReg_bridge (s : State) (r : Reg) (v : Nat) : (s.setReg r v).bridge = s.bridge := by unfold State.setReg; split <;> rfl
@[simp] theorem State.setInt_bridge (s : State) (r : Reg) (v : Int) : (s.setInt r v).bridge = s.bridge := s.setReg_bridge r _
@[simp] theorem State.setBit_bridge (s : State) (r : Reg) (n : Nat) (b : Bool) : (s.setBit r n b).bridge = s.bridge := s.setReg_bridge r _
@[simp] theorem State.bump_bridge (s : State) (r : Reg) (n : Nat) : (s.bump r n).bridge = s.bridge := s.setReg_bridge r _
@[simp] theorem State.drumCount_bridge (s : State) (r : Reg) (n : Nat) : (s.drumCount r n).1.bridge = s.bridge := s.setReg_bridge r _
@[simp] theorem State.emit_bridge (s : State) (x : Output) : (s.emit x).bridge = s.bridge := rfl
@[simp] theorem State.reply_bridge (s : State) (n : Nat) : (s.reply n).bridge = s.bridge := rfl
@[simp] theorem State.takeFree_bridge (s : State) : s.takeFree.2.bridge = s.bridge := rfl
@[simp] theorem State.elapse_bridge (s : State) (n : Nat) : (s.elapse n).bridge = s.bridge := rfl
@[simp] theorem State.postItem_bridge (s : State) (ws : List DrumWord) : (s.postItem ws).bridge = s.bridge := by unfold State.postItem; cases ws <;> simp; split <;> simp
@[simp] theorem State.post_bridge (s : State) (c p a : Nat) : (s.post c p a).bridge = s.bridge := s.postItem_bridge _
@[simp] theorem State.count_bridge (s : State) (r : Reg) (n : Nat) : (s.count r n).bridge = s.bridge := by simp only [State.count]; split <;> simp
@[simp] theorem State.setReg_ocu (s : State) (r : Reg) (v : Nat) : (s.setReg r v).ocu = s.ocu := by unfold State.setReg; split <;> rfl
@[simp] theorem State.setInt_ocu (s : State) (r : Reg) (v : Int) : (s.setInt r v).ocu = s.ocu := s.setReg_ocu r _
@[simp] theorem State.setBit_ocu (s : State) (r : Reg) (n : Nat) (b : Bool) : (s.setBit r n b).ocu = s.ocu := s.setReg_ocu r _
@[simp] theorem State.bump_ocu (s : State) (r : Reg) (n : Nat) : (s.bump r n).ocu = s.ocu := s.setReg_ocu r _
@[simp] theorem State.drumCount_ocu (s : State) (r : Reg) (n : Nat) : (s.drumCount r n).1.ocu = s.ocu := s.setReg_ocu r _
@[simp] theorem State.emit_ocu (s : State) (x : Output) : (s.emit x).ocu = s.ocu := rfl
@[simp] theorem State.reply_ocu (s : State) (n : Nat) : (s.reply n).ocu = s.ocu := rfl
@[simp] theorem State.takeFree_ocu (s : State) : s.takeFree.2.ocu = s.ocu := rfl
@[simp] theorem State.elapse_ocu (s : State) (n : Nat) : (s.elapse n).ocu = s.ocu := rfl
@[simp] theorem State.postItem_ocu (s : State) (ws : List DrumWord) : (s.postItem ws).ocu = s.ocu := by unfold State.postItem; cases ws <;> simp; split <;> simp
@[simp] theorem State.post_ocu (s : State) (c p a : Nat) : (s.post c p a).ocu = s.ocu := s.postItem_ocu _
@[simp] theorem State.count_ocu (s : State) (r : Reg) (n : Nat) : (s.count r n).ocu = s.ocu := by simp only [State.count]; split <;> simp
@[simp] theorem State.setReg_lantern (s : State) (r : Reg) (v : Nat) : (s.setReg r v).lantern = s.lantern := by unfold State.setReg; split <;> rfl
@[simp] theorem State.setInt_lantern (s : State) (r : Reg) (v : Int) : (s.setInt r v).lantern = s.lantern := s.setReg_lantern r _
@[simp] theorem State.setBit_lantern (s : State) (r : Reg) (n : Nat) (b : Bool) : (s.setBit r n b).lantern = s.lantern := s.setReg_lantern r _
@[simp] theorem State.bump_lantern (s : State) (r : Reg) (n : Nat) : (s.bump r n).lantern = s.lantern := s.setReg_lantern r _
@[simp] theorem State.drumCount_lantern (s : State) (r : Reg) (n : Nat) : (s.drumCount r n).1.lantern = s.lantern := s.setReg_lantern r _
@[simp] theorem State.emit_lantern (s : State) (x : Output) : (s.emit x).lantern = s.lantern := rfl
@[simp] theorem State.reply_lantern (s : State) (n : Nat) : (s.reply n).lantern = s.lantern := rfl
@[simp] theorem State.takeFree_lantern (s : State) : s.takeFree.2.lantern = s.lantern := rfl
@[simp] theorem State.elapse_lantern (s : State) (n : Nat) : (s.elapse n).lantern = s.lantern := rfl
@[simp] theorem State.postItem_lantern (s : State) (ws : List DrumWord) : (s.postItem ws).lantern = s.lantern := by unfold State.postItem; cases ws <;> simp; split <;> simp
@[simp] theorem State.post_lantern (s : State) (c p a : Nat) : (s.post c p a).lantern = s.lantern := s.postItem_lantern _
@[simp] theorem State.count_lantern (s : State) (r : Reg) (n : Nat) : (s.count r n).lantern = s.lantern := by simp only [State.count]; split <;> simp
@[simp] theorem State.setReg_mem (s : State) (r : Reg) (v : Nat) : (s.setReg r v).mem = s.mem := by unfold State.setReg; split <;> rfl
@[simp] theorem State.setInt_mem (s : State) (r : Reg) (v : Int) : (s.setInt r v).mem = s.mem := s.setReg_mem r _
@[simp] theorem State.setBit_mem (s : State) (r : Reg) (n : Nat) (b : Bool) : (s.setBit r n b).mem = s.mem := s.setReg_mem r _
@[simp] theorem State.bump_mem (s : State) (r : Reg) (n : Nat) : (s.bump r n).mem = s.mem := s.setReg_mem r _
@[simp] theorem State.drumCount_mem (s : State) (r : Reg) (n : Nat) : (s.drumCount r n).1.mem = s.mem := s.setReg_mem r _
@[simp] theorem State.emit_mem (s : State) (x : Output) : (s.emit x).mem = s.mem := rfl
@[simp] theorem State.reply_mem (s : State) (n : Nat) : (s.reply n).mem = s.mem := rfl
@[simp] theorem State.takeFree_mem (s : State) : s.takeFree.2.mem = s.mem := rfl
@[simp] theorem State.elapse_mem (s : State) (n : Nat) : (s.elapse n).mem = s.mem := rfl
@[simp] theorem State.postItem_mem (s : State) (ws : List DrumWord) : (s.postItem ws).mem = s.mem := by unfold State.postItem; cases ws <;> simp; split <;> simp
@[simp] theorem State.post_mem (s : State) (c p a : Nat) : (s.post c p a).mem = s.mem := s.postItem_mem _
@[simp] theorem State.count_mem (s : State) (r : Reg) (n : Nat) : (s.count r n).mem = s.mem := by simp only [State.count]; split <;> simp
@[simp] theorem State.setReg_smap (s : State) (r : Reg) (v : Nat) : (s.setReg r v).smap = s.smap := by unfold State.setReg; split <;> rfl
@[simp] theorem State.setInt_smap (s : State) (r : Reg) (v : Int) : (s.setInt r v).smap = s.smap := s.setReg_smap r _
@[simp] theorem State.setBit_smap (s : State) (r : Reg) (n : Nat) (b : Bool) : (s.setBit r n b).smap = s.smap := s.setReg_smap r _
@[simp] theorem State.bump_smap (s : State) (r : Reg) (n : Nat) : (s.bump r n).smap = s.smap := s.setReg_smap r _
@[simp] theorem State.drumCount_smap (s : State) (r : Reg) (n : Nat) : (s.drumCount r n).1.smap = s.smap := s.setReg_smap r _
@[simp] theorem State.emit_smap (s : State) (x : Output) : (s.emit x).smap = s.smap := rfl
@[simp] theorem State.reply_smap (s : State) (n : Nat) : (s.reply n).smap = s.smap := rfl
@[simp] theorem State.takeFree_smap (s : State) : s.takeFree.2.smap = s.smap := rfl
@[simp] theorem State.elapse_smap (s : State) (n : Nat) : (s.elapse n).smap = s.smap := rfl
@[simp] theorem State.postItem_smap (s : State) (ws : List DrumWord) : (s.postItem ws).smap = s.smap := by unfold State.postItem; cases ws <;> simp; split <;> simp
@[simp] theorem State.post_smap (s : State) (c p a : Nat) : (s.post c p a).smap = s.smap := s.postItem_smap _
@[simp] theorem State.count_smap (s : State) (r : Reg) (n : Nat) : (s.count r n).smap = s.smap := by simp only [State.count]; split <;> simp
@[simp] theorem State.setReg_twin (s : State) (r : Reg) (v : Nat) : (s.setReg r v).twin = s.twin := by unfold State.setReg; split <;> rfl
@[simp] theorem State.setInt_twin (s : State) (r : Reg) (v : Int) : (s.setInt r v).twin = s.twin := s.setReg_twin r _
@[simp] theorem State.setBit_twin (s : State) (r : Reg) (n : Nat) (b : Bool) : (s.setBit r n b).twin = s.twin := s.setReg_twin r _
@[simp] theorem State.bump_twin (s : State) (r : Reg) (n : Nat) : (s.bump r n).twin = s.twin := s.setReg_twin r _
@[simp] theorem State.drumCount_twin (s : State) (r : Reg) (n : Nat) : (s.drumCount r n).1.twin = s.twin := s.setReg_twin r _
@[simp] theorem State.emit_twin (s : State) (x : Output) : (s.emit x).twin = s.twin := rfl
@[simp] theorem State.reply_twin (s : State) (n : Nat) : (s.reply n).twin = s.twin := rfl
@[simp] theorem State.takeFree_twin (s : State) : s.takeFree.2.twin = s.twin := rfl
@[simp] theorem State.elapse_twin (s : State) (n : Nat) : (s.elapse n).twin = s.twin := rfl
@[simp] theorem State.postItem_twin (s : State) (ws : List DrumWord) : (s.postItem ws).twin = s.twin := by unfold State.postItem; cases ws <;> simp; split <;> simp
@[simp] theorem State.post_twin (s : State) (c p a : Nat) : (s.post c p a).twin = s.twin := s.postItem_twin _
@[simp] theorem State.count_twin (s : State) (r : Reg) (n : Nat) : (s.count r n).twin = s.twin := by simp only [State.count]; split <;> simp
@[simp] theorem State.setReg_chain (s : State) (r : Reg) (v : Nat) : (s.setReg r v).chain = s.chain := by unfold State.setReg; split <;> rfl
@[simp] theorem State.setInt_chain (s : State) (r : Reg) (v : Int) : (s.setInt r v).chain = s.chain := s.setReg_chain r _
@[simp] theorem State.setBit_chain (s : State) (r : Reg) (n : Nat) (b : Bool) : (s.setBit r n b).chain = s.chain := s.setReg_chain r _
@[simp] theorem State.bump_chain (s : State) (r : Reg) (n : Nat) : (s.bump r n).chain = s.chain := s.setReg_chain r _
@[simp] theorem State.drumCount_chain (s : State) (r : Reg) (n : Nat) : (s.drumCount r n).1.chain = s.chain := s.setReg_chain r _
@[simp] theorem State.emit_chain (s : State) (x : Output) : (s.emit x).chain = s.chain := rfl
@[simp] theorem State.reply_chain (s : State) (n : Nat) : (s.reply n).chain = s.chain := rfl
@[simp] theorem State.takeFree_chain (s : State) : s.takeFree.2.chain = s.chain := rfl
@[simp] theorem State.elapse_chain (s : State) (n : Nat) : (s.elapse n).chain = s.chain := rfl
@[simp] theorem State.postItem_chain (s : State) (ws : List DrumWord) : (s.postItem ws).chain = s.chain := by unfold State.postItem; cases ws <;> simp; split <;> simp
@[simp] theorem State.post_chain (s : State) (c p a : Nat) : (s.post c p a).chain = s.chain := s.postItem_chain _
@[simp] theorem State.count_chain (s : State) (r : Reg) (n : Nat) : (s.count r n).chain = s.chain := by simp only [State.count]; split <;> simp
@[simp] theorem State.setReg_update (s : State) (r : Reg) (v : Nat) : (s.setReg r v).update = s.update := by unfold State.setReg; split <;> rfl
@[simp] theorem State.setInt_update (s : State) (r : Reg) (v : Int) : (s.setInt r v).update = s.update := s.setReg_update r _
@[simp] theorem State.setBit_update (s : State) (r : Reg) (n : Nat) (b : Bool) : (s.setBit r n b).update = s.update := s.setReg_update r _
@[simp] theorem State.bump_update (s : State) (r : Reg) (n : Nat) : (s.bump r n).update = s.update := s.setReg_update r _
@[simp] theorem State.drumCount_update (s : State) (r : Reg) (n : Nat) : (s.drumCount r n).1.update = s.update := s.setReg_update r _
@[simp] theorem State.emit_update (s : State) (x : Output) : (s.emit x).update = s.update := rfl
@[simp] theorem State.reply_update (s : State) (n : Nat) : (s.reply n).update = s.update := rfl
@[simp] theorem State.takeFree_update (s : State) : s.takeFree.2.update = s.update := rfl
@[simp] theorem State.elapse_update (s : State) (n : Nat) : (s.elapse n).update = s.update := rfl
@[simp] theorem State.postItem_update (s : State) (ws : List DrumWord) : (s.postItem ws).update = s.update := by unfold State.postItem; cases ws <;> simp; split <;> simp
@[simp] theorem State.post_update (s : State) (c p a : Nat) : (s.post c p a).update = s.update := s.postItem_update _
@[simp] theorem State.count_update (s : State) (r : Reg) (n : Nat) : (s.count r n).update = s.update := by simp only [State.count]; split <;> simp
@[simp] theorem State.setReg_sys (s : State) (r : Reg) (v : Nat) : (s.setReg r v).sys = s.sys := by unfold State.setReg; split <;> rfl
@[simp] theorem State.setInt_sys (s : State) (r : Reg) (v : Int) : (s.setInt r v).sys = s.sys := s.setReg_sys r _
@[simp] theorem State.setBit_sys (s : State) (r : Reg) (n : Nat) (b : Bool) : (s.setBit r n b).sys = s.sys := s.setReg_sys r _
@[simp] theorem State.bump_sys (s : State) (r : Reg) (n : Nat) : (s.bump r n).sys = s.sys := s.setReg_sys r _
@[simp] theorem State.drumCount_sys (s : State) (r : Reg) (n : Nat) : (s.drumCount r n).1.sys = s.sys := s.setReg_sys r _
@[simp] theorem State.emit_sys (s : State) (x : Output) : (s.emit x).sys = s.sys := rfl
@[simp] theorem State.reply_sys (s : State) (n : Nat) : (s.reply n).sys = s.sys := rfl
@[simp] theorem State.takeFree_sys (s : State) : s.takeFree.2.sys = s.sys := rfl
@[simp] theorem State.elapse_sys (s : State) (n : Nat) : (s.elapse n).sys = s.sys := rfl
@[simp] theorem State.postItem_sys (s : State) (ws : List DrumWord) : (s.postItem ws).sys = s.sys := by unfold State.postItem; cases ws <;> simp; split <;> simp
@[simp] theorem State.post_sys (s : State) (c p a : Nat) : (s.post c p a).sys = s.sys := s.postItem_sys _
@[simp] theorem State.count_sys (s : State) (r : Reg) (n : Nat) : (s.count r n).sys = s.sys := by simp only [State.count]; split <;> simp
@[simp] theorem State.setReg_ticks (s : State) (r : Reg) (v : Nat) : (s.setReg r v).ticks = s.ticks := by unfold State.setReg; split <;> rfl
@[simp] theorem State.setInt_ticks (s : State) (r : Reg) (v : Int) : (s.setInt r v).ticks = s.ticks := s.setReg_ticks r _
@[simp] theorem State.setBit_ticks (s : State) (r : Reg) (n : Nat) (b : Bool) : (s.setBit r n b).ticks = s.ticks := s.setReg_ticks r _
@[simp] theorem State.bump_ticks (s : State) (r : Reg) (n : Nat) : (s.bump r n).ticks = s.ticks := s.setReg_ticks r _
@[simp] theorem State.drumCount_ticks (s : State) (r : Reg) (n : Nat) : (s.drumCount r n).1.ticks = s.ticks := s.setReg_ticks r _
@[simp] theorem State.emit_ticks (s : State) (x : Output) : (s.emit x).ticks = s.ticks := rfl
@[simp] theorem State.reply_ticks (s : State) (n : Nat) : (s.reply n).ticks = s.ticks := rfl
@[simp] theorem State.takeFree_ticks (s : State) : s.takeFree.2.ticks = s.ticks := rfl
@[simp] theorem State.postItem_ticks (s : State) (ws : List DrumWord) : (s.postItem ws).ticks = s.ticks := by unfold State.postItem; cases ws <;> simp; split <;> simp
@[simp] theorem State.post_ticks (s : State) (c p a : Nat) : (s.post c p a).ticks = s.ticks := s.postItem_ticks _
@[simp] theorem State.count_ticks (s : State) (r : Reg) (n : Nat) : (s.count r n).ticks = s.ticks := by simp only [State.count]; split <;> simp
@[simp] theorem State.setReg_fresh (s : State) (r : Reg) (v : Nat) : (s.setReg r v).fresh = s.fresh := by unfold State.setReg; split <;> rfl
@[simp] theorem State.setInt_fresh (s : State) (r : Reg) (v : Int) : (s.setInt r v).fresh = s.fresh := s.setReg_fresh r _
@[simp] theorem State.setBit_fresh (s : State) (r : Reg) (n : Nat) (b : Bool) : (s.setBit r n b).fresh = s.fresh := s.setReg_fresh r _
@[simp] theorem State.bump_fresh (s : State) (r : Reg) (n : Nat) : (s.bump r n).fresh = s.fresh := s.setReg_fresh r _
@[simp] theorem State.drumCount_fresh (s : State) (r : Reg) (n : Nat) : (s.drumCount r n).1.fresh = s.fresh := s.setReg_fresh r _
@[simp] theorem State.emit_fresh (s : State) (x : Output) : (s.emit x).fresh = s.fresh := rfl
@[simp] theorem State.reply_fresh (s : State) (n : Nat) : (s.reply n).fresh = s.fresh := rfl
@[simp] theorem State.elapse_fresh (s : State) (n : Nat) : (s.elapse n).fresh = s.fresh := rfl
@[simp] theorem State.postItem_fresh (s : State) (ws : List DrumWord) : (s.postItem ws).fresh = s.fresh := by unfold State.postItem; cases ws <;> simp; split <;> simp
@[simp] theorem State.post_fresh (s : State) (c p a : Nat) : (s.post c p a).fresh = s.fresh := s.postItem_fresh _
@[simp] theorem State.count_fresh (s : State) (r : Reg) (n : Nat) : (s.count r n).fresh = s.fresh := by simp only [State.count]; split <;> simp
@[simp] theorem State.setReg_out (s : State) (r : Reg) (v : Nat) : (s.setReg r v).out = s.out := by unfold State.setReg; split <;> rfl
@[simp] theorem State.setInt_out (s : State) (r : Reg) (v : Int) : (s.setInt r v).out = s.out := s.setReg_out r _
@[simp] theorem State.setBit_out (s : State) (r : Reg) (n : Nat) (b : Bool) : (s.setBit r n b).out = s.out := s.setReg_out r _
@[simp] theorem State.bump_out (s : State) (r : Reg) (n : Nat) : (s.bump r n).out = s.out := s.setReg_out r _
@[simp] theorem State.drumCount_out (s : State) (r : Reg) (n : Nat) : (s.drumCount r n).1.out = s.out := s.setReg_out r _
@[simp] theorem State.takeFree_out (s : State) : s.takeFree.2.out = s.out := rfl
@[simp] theorem State.elapse_out (s : State) (n : Nat) : (s.elapse n).out = s.out := rfl
@[simp] theorem State.postItem_out (s : State) (ws : List DrumWord) : (s.postItem ws).out = s.out := by unfold State.postItem; cases ws <;> simp; split <;> simp
@[simp] theorem State.post_out (s : State) (c p a : Nat) : (s.post c p a).out = s.out := s.postItem_out _
@[simp] theorem State.count_out (s : State) (r : Reg) (n : Nat) : (s.count r n).out = s.out := by simp only [State.count]; split <;> simp
@[simp] theorem State.setReg_pending (s : State) (r : Reg) (v : Nat) : (s.setReg r v).pending = s.pending := by unfold State.setReg; split <;> rfl
@[simp] theorem State.setInt_pending (s : State) (r : Reg) (v : Int) : (s.setInt r v).pending = s.pending := s.setReg_pending r _
@[simp] theorem State.setBit_pending (s : State) (r : Reg) (n : Nat) (b : Bool) : (s.setBit r n b).pending = s.pending := s.setReg_pending r _
@[simp] theorem State.bump_pending (s : State) (r : Reg) (n : Nat) : (s.bump r n).pending = s.pending := s.setReg_pending r _
@[simp] theorem State.drumCount_pending (s : State) (r : Reg) (n : Nat) : (s.drumCount r n).1.pending = s.pending := s.setReg_pending r _
@[simp] theorem State.emit_pending (s : State) (x : Output) : (s.emit x).pending = s.pending := rfl
@[simp] theorem State.reply_pending (s : State) (n : Nat) : (s.reply n).pending = s.pending := rfl
@[simp] theorem State.takeFree_pending (s : State) : s.takeFree.2.pending = s.pending := rfl
@[simp] theorem State.elapse_pending (s : State) (n : Nat) : (s.elapse n).pending = s.pending := rfl
@[simp] theorem State.postItem_pending (s : State) (ws : List DrumWord) : (s.postItem ws).pending = s.pending := by unfold State.postItem; cases ws <;> simp; split <;> simp
@[simp] theorem State.post_pending (s : State) (c p a : Nat) : (s.post c p a).pending = s.pending := s.postItem_pending _
@[simp] theorem State.count_pending (s : State) (r : Reg) (n : Nat) : (s.count r n).pending = s.pending := by simp only [State.count]; split <;> simp
@[simp] theorem State.emit_out (s : State) (x : Output) : (s.emit x).out = s.out ++ [x] := rfl
@[simp] theorem State.reply_out (s : State) (n : Nat) : (s.reply n).out = s.out ++ [.reply n] := rfl
@[simp] theorem State.takeFree_value (s : State) : s.takeFree.1 = s.fresh := rfl
@[simp] theorem State.takeFree_fresh (s : State) : s.takeFree.2.fresh = s.fresh + 1 := rfl
@[simp] theorem State.elapse_ticks (s : State) (n : Nat) : (s.elapse n).ticks = s.ticks + n := rfl
@[simp] theorem State.emit_reg (s : State) (x : Output) (r : Reg) : (s.emit x).reg r = s.reg r := rfl
@[simp] theorem State.reply_reg (s : State) (n : Nat) (r : Reg) : (s.reply n).reg r = s.reg r := rfl
@[simp] theorem State.takeFree_reg (s : State) (r : Reg) : s.takeFree.2.reg r = s.reg r := rfl
@[simp] theorem State.elapse_reg (s : State) (n : Nat) (r : Reg) : (s.elapse n).reg r = s.reg r := rfl

end Sys2Proof.Machine
end

