-- ==== Sys2Proof/Laws/Dict.lean ====
section
/-! SUPPORT. The dictionary as a store: reading an element back after it is set, and every other element unchanged. -/

namespace Sys2Proof.Machine

/-! The store -/

theorem storeGet_insert_same (d key v : Nat) (l : Store) (h : ∀ p ∈ l, p.1 ≠ key) : storeGet d (storeInsert key v l) key = v := by
  induction l with
  | nil => simp [storeInsert, storeGet]
  | cons p l ih =>
    obtain ⟨k, w⟩ := p
    have hk : k ≠ key := h (k, w) (by simp)
    have ih := ih fun q hq => h q (by simp [hq])
    by_cases hlt : key < k <;> simp [storeInsert, storeGet, hlt, hk, ih]

theorem storeGet_insert_other (d key other v : Nat) (l : Store) (h : other ≠ key) : storeGet d (storeInsert key v l) other = storeGet d l other := by
  induction l with
  | nil => simp [storeInsert, storeGet, Ne.symm h]
  | cons p l ih =>
    obtain ⟨k, w⟩ := p
    by_cases hlt : key < k
    · simp [storeInsert, storeGet, hlt, Ne.symm h]
    · simp [storeInsert, storeGet, hlt, ih]

theorem storeGet_filter_same (d key : Nat) (l : Store) : storeGet d (l.filter fun p => p.1 != key) key = d := by
  induction l with
  | nil => rfl
  | cons p l ih =>
    obtain ⟨k, w⟩ := p
    by_cases hk : k = key
    · simp [hk, ih]
    · simp [hk, storeGet, ih]

theorem storeGet_filter_other (d key other : Nat) (l : Store) (h : other ≠ key) :
    storeGet d (l.filter fun p => p.1 != key) other = storeGet d l other := by
  induction l with
  | nil => rfl
  | cons p l ih =>
    obtain ⟨k, w⟩ := p
    by_cases hk : k = key
    · subst hk; simp [storeGet, ih, Ne.symm h]
    · simp [hk, storeGet, ih]

/-- A key reads as the value it was put at. -/
theorem storeGet_put_same (d key v : Nat) (l : Store) : storeGet d (storePut d l key v) key = v := by
  unfold storePut
  by_cases h : v = d
  · simp [h, storeGet_filter_same]
  · simp only [h, if_false]
    exact storeGet_insert_same d key v _ (by simp)

/-- Every other key reads as before. -/
theorem storeGet_put_other (d e key other v : Nat) (l : Store) (h : other ≠ key) : storeGet d (storePut e l key v) other = storeGet d l other := by
  unfold storePut
  by_cases hv : v = e
  · simp only [hv, if_true]; exact storeGet_filter_other d key other l h
  · simp only [hv, if_false]
    rw [storeGet_insert_other d key other v _ h, storeGet_filter_other d key other l h]

/-! Elements -/

/-- Elements with subindices the tables can give have keys of their own. -/
theorem Reg.key_inj {a b : Reg} (ha : a.sub < 1024) (hb : b.sub < 1024) (h : a.key = b.key) : a = b := by
  obtain ⟨i, j⟩ := a
  obtain ⟨k, l⟩ := b
  simp only [Reg.key] at *
  have : i = k ∧ j = l := by omega
  simp [this]

/-- An element of fixed length reads as the value it was set to, cut to its width. -/
theorem State.reg_setReg_same (s : State) (r : Reg) (v : Nat) (h : dictBits r ≠ 0) : (s.setReg r v).reg r = v % 2 ^ dictBits r := by
  simp [State.reg, State.setReg, h, storeGet_put_same]

/-- Every element of another key reads as before. -/
theorem State.reg_setReg_key (s : State) (r q : Reg) (v : Nat) (h : q.key ≠ r.key) : (s.setReg r v).reg q = s.reg q := by
  unfold State.setReg
  split
  · rfl
  · simp [State.reg, storeGet_put_other _ _ _ _ _ _ h]

/-- Every other element reads as before. -/
theorem State.reg_setReg_other (s : State) (r q : Reg) (v : Nat) (hr : r.sub < 1024) (hq : q.sub < 1024) (h : q ≠ r) :
    (s.setReg r v).reg q = s.reg q :=
  s.reg_setReg_key r q v fun hk => h (Reg.key_inj hq hr hk)

/-- An element the dictionary does not have, or of no fixed length, is not set. -/
theorem State.setReg_absent (s : State) (r : Reg) (v : Nat) (h : dictBits r = 0) : s.setReg r v = s := by simp [State.setReg, h]

/-- Posting sets no element but DRM_FAULT_SUMMARY. -/
theorem State.reg_postItem (s : State) (ws : List DrumWord) (q : Reg) (h : q.key ≠ Reg.DRM_FAULT_SUMMARY.key) : (s.postItem ws).reg q = s.reg q := by
  unfold State.postItem
  cases ws with
  | nil => rfl
  | cons w ws =>
    by_cases hw : w.priority = 7
    · simp only [hw, if_true]; exact (State.reg_setReg_key _ _ _ _ h).trans rfl
    · simp only [hw, if_false]; rfl

theorem State.reg_post (s : State) (c p a : Nat) (q : Reg) (h : q.key ≠ Reg.DRM_FAULT_SUMMARY.key) : (s.post c p a).reg q = s.reg q :=
  s.reg_postItem _ q h

/-- Below priority 7, posting sets no element at all. -/
theorem State.reg_post_low (s : State) (c p a : Nat) (q : Reg) (h : p ≠ 7) : (s.post c p a).reg q = s.reg q := by
  simp only [State.post, State.postItem, h, if_false]; rfl

/-- A counter moves on by n and wraps at its width. -/
theorem State.reg_count_same (s : State) (r : Reg) (n : Nat) (h : dictBits r ≠ 0) (hr : r.key ≠ Reg.DRM_FAULT_SUMMARY.key) :
    (s.count r n).reg r = (s.reg r + n) % 2 ^ dictBits r := by
  simp only [State.count]
  split
  · rw [State.reg_postItem _ _ _ hr, State.reg_setReg_same _ _ _ h]
  · exact State.reg_setReg_same _ _ _ h

/-- Every element of another key keeps its value while a counter moves. -/
theorem State.reg_count_other (s : State) (r q : Reg) (n : Nat) (h : q.key ≠ r.key) (hq : q.key ≠ Reg.DRM_FAULT_SUMMARY.key) :
    (s.count r n).reg q = s.reg q := by
  simp only [State.count]
  split
  · rw [State.reg_postItem _ _ _ hq, State.reg_setReg_key _ _ _ _ h]
  · exact State.reg_setReg_key _ _ _ _ h

/-- A counter whose bit 31 stays as it was posts nothing. -/
theorem State.count_small (s : State) (r : Reg) (n : Nat) (h : counterWord r (s.reg r) ((s.setReg r (s.reg r + n)).reg r) = none) :
    s.count r n = s.setReg r (s.reg r + n) := by
  simp only [State.count, h]

end Sys2Proof.Machine
end

