-- ==== Sys2Proof/Laws/Ops.lean ====
section
/-! SUPPORT. What the shared operations do: words entering the Drum, and the frame every command runs in. -/

namespace Sys2Proof.Machine

/-! Words entering the Drum -/

/-- What one word entering keeps, any number of them keep. -/
theorem State.enterWords_keeps (P : State → Prop) (h : ∀ s w, P s → P (s.enterWord w).1) (n : Nat) (s : State) (ws : List DrumWord) (hs : P s) :
    P (State.enterWords n s ws) := by
  induction n generalizing s ws with
  | zero => exact hs
  | succ n ih =>
    unfold State.enterWords
    induction ws generalizing s with
    | nil => exact hs
    | cons w ws ihw => exact ihw _ (ih _ _ (h s w hs))

/-- What one word entering keeps, the items posted in a clock keep. -/
theorem State.settle_keeps (P : State → Prop) (h : ∀ s w, P s → P (s.enterWord w).1) (s : State)
    (hs : P { s with drum := { s.drum with incoming := [] } }) : P s.settle :=
  State.enterWords_keeps P h _ _ _ hs

/-! A word entering changes nothing but the dictionary, the Drum and the log -/

@[simp] theorem State.logWord_unit (s : State) (w : DrumWord) : (s.logWord w).unit = s.unit := by unfold State.logWord; split <;> rfl
@[simp] theorem State.setWords_unit (s : State) (ws : List DrumWord) : (s.setWords ws).unit = s.unit := by simp only [State.setWords]; split <;> simp
@[simp] theorem State.enterWord_unit (s : State) (w : DrumWord) : (s.enterWord w).1.unit = s.unit := by
  simp only [State.enterWord]; repeat' split
  all_goals simp
@[simp] theorem State.logWord_clock (s : State) (w : DrumWord) : (s.logWord w).clock = s.clock := by unfold State.logWord; split <;> rfl
@[simp] theorem State.setWords_clock (s : State) (ws : List DrumWord) : (s.setWords ws).clock = s.clock := by simp only [State.setWords]; split <;> simp
@[simp] theorem State.enterWord_clock (s : State) (w : DrumWord) : (s.enterWord w).1.clock = s.clock := by
  simp only [State.enterWord]; repeat' split
  all_goals simp
@[simp] theorem State.logWord_net (s : State) (w : DrumWord) : (s.logWord w).net = s.net := by unfold State.logWord; split <;> rfl
@[simp] theorem State.setWords_net (s : State) (ws : List DrumWord) : (s.setWords ws).net = s.net := by simp only [State.setWords]; split <;> simp
@[simp] theorem State.enterWord_net (s : State) (w : DrumWord) : (s.enterWord w).1.net = s.net := by
  simp only [State.enterWord]; repeat' split
  all_goals simp
@[simp] theorem State.logWord_idp (s : State) (w : DrumWord) : (s.logWord w).idp = s.idp := by unfold State.logWord; split <;> rfl
@[simp] theorem State.setWords_idp (s : State) (ws : List DrumWord) : (s.setWords ws).idp = s.idp := by simp only [State.setWords]; split <;> simp
@[simp] theorem State.enterWord_idp (s : State) (w : DrumWord) : (s.enterWord w).1.idp = s.idp := by
  simp only [State.enterWord]; repeat' split
  all_goals simp
@[simp] theorem State.logWord_ingest (s : State) (w : DrumWord) : (s.logWord w).ingest = s.ingest := by unfold State.logWord; split <;> rfl
@[simp] theorem State.setWords_ingest (s : State) (ws : List DrumWord) : (s.setWords ws).ingest = s.ingest := by simp only [State.setWords]; split <;> simp
@[simp] theorem State.enterWord_ingest (s : State) (w : DrumWord) : (s.enterWord w).1.ingest = s.ingest := by
  simp only [State.enterWord]; repeat' split
  all_goals simp
@[simp] theorem State.logWord_epochs (s : State) (w : DrumWord) : (s.logWord w).epochs = s.epochs := by unfold State.logWord; split <;> rfl
@[simp] theorem State.setWords_epochs (s : State) (ws : List DrumWord) : (s.setWords ws).epochs = s.epochs := by simp only [State.setWords]; split <;> simp
@[simp] theorem State.enterWord_epochs (s : State) (w : DrumWord) : (s.enterWord w).1.epochs = s.epochs := by
  simp only [State.enterWord]; repeat' split
  all_goals simp
@[simp] theorem State.logWord_belfry (s : State) (w : DrumWord) : (s.logWord w).belfry = s.belfry := by unfold State.logWord; split <;> rfl
@[simp] theorem State.setWords_belfry (s : State) (ws : List DrumWord) : (s.setWords ws).belfry = s.belfry := by simp only [State.setWords]; split <;> simp
@[simp] theorem State.enterWord_belfry (s : State) (w : DrumWord) : (s.enterWord w).1.belfry = s.belfry := by
  simp only [State.enterWord]; repeat' split
  all_goals simp
@[simp] theorem State.logWord_cupola (s : State) (w : DrumWord) : (s.logWord w).cupola = s.cupola := by unfold State.logWord; split <;> rfl
@[simp] theorem State.setWords_cupola (s : State) (ws : List DrumWord) : (s.setWords ws).cupola = s.cupola := by simp only [State.setWords]; split <;> simp
@[simp] theorem State.enterWord_cupola (s : State) (w : DrumWord) : (s.enterWord w).1.cupola = s.cupola := by
  simp only [State.enterWord]; repeat' split
  all_goals simp
@[simp] theorem State.logWord_scan (s : State) (w : DrumWord) : (s.logWord w).scan = s.scan := by unfold State.logWord; split <;> rfl
@[simp] theorem State.setWords_scan (s : State) (ws : List DrumWord) : (s.setWords ws).scan = s.scan := by simp only [State.setWords]; split <;> simp
@[simp] theorem State.enterWord_scan (s : State) (w : DrumWord) : (s.enterWord w).1.scan = s.scan := by
  simp only [State.enterWord]; repeat' split
  all_goals simp
@[simp] theorem State.logWord_spire (s : State) (w : DrumWord) : (s.logWord w).spire = s.spire := by unfold State.logWord; split <;> rfl
@[simp] theorem State.setWords_spire (s : State) (ws : List DrumWord) : (s.setWords ws).spire = s.spire := by simp only [State.setWords]; split <;> simp
@[simp] theorem State.enterWord_spire (s : State) (w : DrumWord) : (s.enterWord w).1.spire = s.spire := by
  simp only [State.enterWord]; repeat' split
  all_goals simp
@[simp] theorem State.logWord_cal (s : State) (w : DrumWord) : (s.logWord w).cal = s.cal := by unfold State.logWord; split <;> rfl
@[simp] theorem State.setWords_cal (s : State) (ws : List DrumWord) : (s.setWords ws).cal = s.cal := by simp only [State.setWords]; split <;> simp
@[simp] theorem State.enterWord_cal (s : State) (w : DrumWord) : (s.enterWord w).1.cal = s.cal := by
  simp only [State.enterWord]; repeat' split
  all_goals simp
@[simp] theorem State.logWord_bridge (s : State) (w : DrumWord) : (s.logWord w).bridge = s.bridge := by unfold State.logWord; split <;> rfl
@[simp] theorem State.setWords_bridge (s : State) (ws : List DrumWord) : (s.setWords ws).bridge = s.bridge := by simp only [State.setWords]; split <;> simp
@[simp] theorem State.enterWord_bridge (s : State) (w : DrumWord) : (s.enterWord w).1.bridge = s.bridge := by
  simp only [State.enterWord]; repeat' split
  all_goals simp
@[simp] theorem State.logWord_ocu (s : State) (w : DrumWord) : (s.logWord w).ocu = s.ocu := by unfold State.logWord; split <;> rfl
@[simp] theorem State.setWords_ocu (s : State) (ws : List DrumWord) : (s.setWords ws).ocu = s.ocu := by simp only [State.setWords]; split <;> simp
@[simp] theorem State.enterWord_ocu (s : State) (w : DrumWord) : (s.enterWord w).1.ocu = s.ocu := by
  simp only [State.enterWord]; repeat' split
  all_goals simp
@[simp] theorem State.logWord_lantern (s : State) (w : DrumWord) : (s.logWord w).lantern = s.lantern := by unfold State.logWord; split <;> rfl
@[simp] theorem State.setWords_lantern (s : State) (ws : List DrumWord) : (s.setWords ws).lantern = s.lantern := by simp only [State.setWords]; split <;> simp
@[simp] theorem State.enterWord_lantern (s : State) (w : DrumWord) : (s.enterWord w).1.lantern = s.lantern := by
  simp only [State.enterWord]; repeat' split
  all_goals simp
@[simp] theorem State.logWord_mem (s : State) (w : DrumWord) : (s.logWord w).mem = s.mem := by unfold State.logWord; split <;> rfl
@[simp] theorem State.setWords_mem (s : State) (ws : List DrumWord) : (s.setWords ws).mem = s.mem := by simp only [State.setWords]; split <;> simp
@[simp] theorem State.enterWord_mem (s : State) (w : DrumWord) : (s.enterWord w).1.mem = s.mem := by
  simp only [State.enterWord]; repeat' split
  all_goals simp
@[simp] theorem State.logWord_smap (s : State) (w : DrumWord) : (s.logWord w).smap = s.smap := by unfold State.logWord; split <;> rfl
@[simp] theorem State.setWords_smap (s : State) (ws : List DrumWord) : (s.setWords ws).smap = s.smap := by simp only [State.setWords]; split <;> simp
@[simp] theorem State.enterWord_smap (s : State) (w : DrumWord) : (s.enterWord w).1.smap = s.smap := by
  simp only [State.enterWord]; repeat' split
  all_goals simp
@[simp] theorem State.logWord_twin (s : State) (w : DrumWord) : (s.logWord w).twin = s.twin := by unfold State.logWord; split <;> rfl
@[simp] theorem State.setWords_twin (s : State) (ws : List DrumWord) : (s.setWords ws).twin = s.twin := by simp only [State.setWords]; split <;> simp
@[simp] theorem State.enterWord_twin (s : State) (w : DrumWord) : (s.enterWord w).1.twin = s.twin := by
  simp only [State.enterWord]; repeat' split
  all_goals simp
@[simp] theorem State.logWord_chain (s : State) (w : DrumWord) : (s.logWord w).chain = s.chain := by unfold State.logWord; split <;> rfl
@[simp] theorem State.setWords_chain (s : State) (ws : List DrumWord) : (s.setWords ws).chain = s.chain := by simp only [State.setWords]; split <;> simp
@[simp] theorem State.enterWord_chain (s : State) (w : DrumWord) : (s.enterWord w).1.chain = s.chain := by
  simp only [State.enterWord]; repeat' split
  all_goals simp
@[simp] theorem State.logWord_update (s : State) (w : DrumWord) : (s.logWord w).update = s.update := by unfold State.logWord; split <;> rfl
@[simp] theorem State.setWords_update (s : State) (ws : List DrumWord) : (s.setWords ws).update = s.update := by simp only [State.setWords]; split <;> simp
@[simp] theorem State.enterWord_update (s : State) (w : DrumWord) : (s.enterWord w).1.update = s.update := by
  simp only [State.enterWord]; repeat' split
  all_goals simp
@[simp] theorem State.logWord_sys (s : State) (w : DrumWord) : (s.logWord w).sys = s.sys := by unfold State.logWord; split <;> rfl
@[simp] theorem State.setWords_sys (s : State) (ws : List DrumWord) : (s.setWords ws).sys = s.sys := by simp only [State.setWords]; split <;> simp
@[simp] theorem State.enterWord_sys (s : State) (w : DrumWord) : (s.enterWord w).1.sys = s.sys := by
  simp only [State.enterWord]; repeat' split
  all_goals simp
@[simp] theorem State.logWord_ticks (s : State) (w : DrumWord) : (s.logWord w).ticks = s.ticks := by unfold State.logWord; split <;> rfl
@[simp] theorem State.setWords_ticks (s : State) (ws : List DrumWord) : (s.setWords ws).ticks = s.ticks := by simp only [State.setWords]; split <;> simp
@[simp] theorem State.enterWord_ticks (s : State) (w : DrumWord) : (s.enterWord w).1.ticks = s.ticks := by
  simp only [State.enterWord]; repeat' split
  all_goals simp
@[simp] theorem State.logWord_fresh (s : State) (w : DrumWord) : (s.logWord w).fresh = s.fresh := by unfold State.logWord; split <;> rfl
@[simp] theorem State.setWords_fresh (s : State) (ws : List DrumWord) : (s.setWords ws).fresh = s.fresh := by simp only [State.setWords]; split <;> simp
@[simp] theorem State.enterWord_fresh (s : State) (w : DrumWord) : (s.enterWord w).1.fresh = s.fresh := by
  simp only [State.enterWord]; repeat' split
  all_goals simp
@[simp] theorem State.logWord_out (s : State) (w : DrumWord) : (s.logWord w).out = s.out := by unfold State.logWord; split <;> rfl
@[simp] theorem State.setWords_out (s : State) (ws : List DrumWord) : (s.setWords ws).out = s.out := by simp only [State.setWords]; split <;> simp
@[simp] theorem State.enterWord_out (s : State) (w : DrumWord) : (s.enterWord w).1.out = s.out := by
  simp only [State.enterWord]; repeat' split
  all_goals simp
@[simp] theorem State.logWord_pending (s : State) (w : DrumWord) : (s.logWord w).pending = s.pending := by unfold State.logWord; split <;> rfl
@[simp] theorem State.setWords_pending (s : State) (ws : List DrumWord) : (s.setWords ws).pending = s.pending := by simp only [State.setWords]; split <;> simp
@[simp] theorem State.enterWord_pending (s : State) (w : DrumWord) : (s.enterWord w).1.pending = s.pending := by
  simp only [State.enterWord]; repeat' split
  all_goals simp

@[simp] theorem State.settle_unit (s : State) : s.settle.unit = s.unit :=
  State.settle_keeps (fun t => t.unit = s.unit) (fun t w h => (t.enterWord_unit w).trans h) s rfl
@[simp] theorem State.settle_clock (s : State) : s.settle.clock = s.clock :=
  State.settle_keeps (fun t => t.clock = s.clock) (fun t w h => (t.enterWord_clock w).trans h) s rfl
@[simp] theorem State.settle_net (s : State) : s.settle.net = s.net :=
  State.settle_keeps (fun t => t.net = s.net) (fun t w h => (t.enterWord_net w).trans h) s rfl
@[simp] theorem State.settle_idp (s : State) : s.settle.idp = s.idp :=
  State.settle_keeps (fun t => t.idp = s.idp) (fun t w h => (t.enterWord_idp w).trans h) s rfl
@[simp] theorem State.settle_ingest (s : State) : s.settle.ingest = s.ingest :=
  State.settle_keeps (fun t => t.ingest = s.ingest) (fun t w h => (t.enterWord_ingest w).trans h) s rfl
@[simp] theorem State.settle_epochs (s : State) : s.settle.epochs = s.epochs :=
  State.settle_keeps (fun t => t.epochs = s.epochs) (fun t w h => (t.enterWord_epochs w).trans h) s rfl
@[simp] theorem State.settle_belfry (s : State) : s.settle.belfry = s.belfry :=
  State.settle_keeps (fun t => t.belfry = s.belfry) (fun t w h => (t.enterWord_belfry w).trans h) s rfl
@[simp] theorem State.settle_cupola (s : State) : s.settle.cupola = s.cupola :=
  State.settle_keeps (fun t => t.cupola = s.cupola) (fun t w h => (t.enterWord_cupola w).trans h) s rfl
@[simp] theorem State.settle_scan (s : State) : s.settle.scan = s.scan :=
  State.settle_keeps (fun t => t.scan = s.scan) (fun t w h => (t.enterWord_scan w).trans h) s rfl
@[simp] theorem State.settle_spire (s : State) : s.settle.spire = s.spire :=
  State.settle_keeps (fun t => t.spire = s.spire) (fun t w h => (t.enterWord_spire w).trans h) s rfl
@[simp] theorem State.settle_cal (s : State) : s.settle.cal = s.cal :=
  State.settle_keeps (fun t => t.cal = s.cal) (fun t w h => (t.enterWord_cal w).trans h) s rfl
@[simp] theorem State.settle_bridge (s : State) : s.settle.bridge = s.bridge :=
  State.settle_keeps (fun t => t.bridge = s.bridge) (fun t w h => (t.enterWord_bridge w).trans h) s rfl
@[simp] theorem State.settle_ocu (s : State) : s.settle.ocu = s.ocu :=
  State.settle_keeps (fun t => t.ocu = s.ocu) (fun t w h => (t.enterWord_ocu w).trans h) s rfl
@[simp] theorem State.settle_lantern (s : State) : s.settle.lantern = s.lantern :=
  State.settle_keeps (fun t => t.lantern = s.lantern) (fun t w h => (t.enterWord_lantern w).trans h) s rfl
@[simp] theorem State.settle_mem (s : State) : s.settle.mem = s.mem :=
  State.settle_keeps (fun t => t.mem = s.mem) (fun t w h => (t.enterWord_mem w).trans h) s rfl
@[simp] theorem State.settle_smap (s : State) : s.settle.smap = s.smap :=
  State.settle_keeps (fun t => t.smap = s.smap) (fun t w h => (t.enterWord_smap w).trans h) s rfl
@[simp] theorem State.settle_twin (s : State) : s.settle.twin = s.twin :=
  State.settle_keeps (fun t => t.twin = s.twin) (fun t w h => (t.enterWord_twin w).trans h) s rfl
@[simp] theorem State.settle_chain (s : State) : s.settle.chain = s.chain :=
  State.settle_keeps (fun t => t.chain = s.chain) (fun t w h => (t.enterWord_chain w).trans h) s rfl
@[simp] theorem State.settle_update (s : State) : s.settle.update = s.update :=
  State.settle_keeps (fun t => t.update = s.update) (fun t w h => (t.enterWord_update w).trans h) s rfl
@[simp] theorem State.settle_sys (s : State) : s.settle.sys = s.sys :=
  State.settle_keeps (fun t => t.sys = s.sys) (fun t w h => (t.enterWord_sys w).trans h) s rfl
@[simp] theorem State.settle_ticks (s : State) : s.settle.ticks = s.ticks :=
  State.settle_keeps (fun t => t.ticks = s.ticks) (fun t w h => (t.enterWord_ticks w).trans h) s rfl
@[simp] theorem State.settle_fresh (s : State) : s.settle.fresh = s.fresh :=
  State.settle_keeps (fun t => t.fresh = s.fresh) (fun t w h => (t.enterWord_fresh w).trans h) s rfl
@[simp] theorem State.settle_out (s : State) : s.settle.out = s.out :=
  State.settle_keeps (fun t => t.out = s.out) (fun t w h => (t.enterWord_out w).trans h) s rfl
@[simp] theorem State.settle_pending (s : State) : s.settle.pending = s.pending :=
  State.settle_keeps (fun t => t.pending = s.pending) (fun t w h => (t.enterWord_pending w).trans h) s rfl

/-! What the Drum holds -/

@[simp] theorem State.setWords_drum (s : State) (ws : List DrumWord) : (s.setWords ws).drum = { s.drum with words := ws } := by
  simp only [State.setWords]; split <;> simp

@[simp] theorem State.logWord_drum (s : State) (w : DrumWord) : (s.logWord w).drum = s.drum := by unfold State.logWord; split <;> rfl

/-- A word entering leaves the items that wait as they are. -/
@[simp] theorem State.enterWord_incoming (s : State) (w : DrumWord) : (s.enterWord w).1.drum.incoming = s.drum.incoming := by
  simp only [State.enterWord]
  split
  · simp
  · split
    · split <;> simp
    · simp

/-- The Drum never holds more than 64 words for a word that enters (R374). -/
theorem State.enterWord_words_le (s : State) (w : DrumWord) (h : s.drum.words.length ≤ 64) : (s.enterWord w).1.drum.words.length ≤ 64 := by
  simp only [State.enterWord]
  split
  · simpa using h
  · split
    next old rest he =>
      have he' : s.drum.words = old :: rest := by simpa using he
      rw [he'] at h
      split
      · simpa using h
      next hlt => simp only [State.logWord_drum, he'] at hlt; simp [he'] at *; omega
    next => simp

theorem State.settle_incoming (s : State) : s.settle.drum.incoming = [] :=
  State.settle_keeps (fun t => t.drum.incoming = []) (fun t w h => (t.enterWord_incoming w).trans h) s rfl

theorem State.settle_words_le (s : State) (h : s.drum.words.length ≤ 64) : s.settle.drum.words.length ≤ 64 :=
  State.settle_keeps (fun t => t.drum.words.length ≤ 64) State.enterWord_words_le s h

/-! Elements the Drum does not move -/

theorem State.logWord_reg (s : State) (w : DrumWord) (r : Reg) : (s.logWord w).reg r = s.reg r := by unfold State.logWord; split <;> rfl

theorem State.setWords_reg (s : State) (ws : List DrumWord) (r : Reg) (h : r.sub < 1024) (hd : drumRegs r = false) :
    (s.setWords ws).reg r = s.reg r := by
  have h1 : r ≠ .DRM_DEPTH := by rintro rfl; revert hd; decide
  have h2 : r ≠ .DRM_DEPTH_MAX := by rintro rfl; revert hd; decide
  simp only [State.setWords]
  split
  · rw [State.reg_setReg_other _ _ _ _ (by decide) h h2, State.reg_setReg_other _ _ _ _ (by decide) h h1]; rfl
  · rw [State.reg_setReg_other _ _ _ _ (by decide) h h1]; rfl

theorem State.drumCount_reg (s : State) (q r : Reg) (n : Nat) (h : r.sub < 1024) (hq : q.sub < 1024 ∨ dictBits q = 0) (hne : r ≠ q) :
    (s.drumCount q n).1.reg r = s.reg r := by
  simp only [State.drumCount]
  rcases hq with hq | hq
  · exact State.reg_setReg_other _ _ _ _ hq h hne
  · rw [State.setReg_absent _ _ _ hq]

/-- DRM_LOST_PRIO has eight elements. -/
theorem lostPrio_absent (k : Nat) (h : 1024 ≤ k) : dictBits (.DRM_LOST_PRIO k) = 0 := by
  have : dictRow (.DRM_LOST_PRIO k) = none := by
    unfold dictRow Reg.DRM_LOST_PRIO
    refine List.find?_eq_none.2 ?_
    intro row hr
    have hall : ((dictRowsOf 0xA208).all fun row => Nat.blt row.subHi 1024) = true := by decide +kernel
    have := List.all_eq_true.1 hall row hr
    simp only [DictRow.covers, Bool.and_eq_true, not_and, Nat.ble_eq]
    intro _ hs
    have : row.subHi < 1024 := by simpa using this
    omega
  simp [dictBits, this]

/-- Words entering move only the Drum's own elements. -/
theorem State.enterWord_reg (s : State) (w : DrumWord) (r : Reg) (h : r.sub < 1024) (hd : drumRegs r = false) : (s.enterWord w).1.reg r = s.reg r := by
  have hf : r ≠ .DRM_FILTERED := by rintro rfl; revert hd; decide
  have hl : r ≠ .DRM_LOST := by rintro rfl; revert hd; decide
  have hp : ∀ k, r ≠ .DRM_LOST_PRIO k := by rintro k rfl; simp [drumRegs, Reg.DRM_LOST_PRIO] at hd
  have hk : ∀ k, (Reg.DRM_LOST_PRIO k).sub < 1024 ∨ dictBits (.DRM_LOST_PRIO k) = 0 := by
    intro k
    rcases Nat.lt_or_ge k 1024 with h | h
    · exact .inl h
    · exact .inr (lostPrio_absent k h)
  simp only [State.enterWord]
  split
  · rw [State.drumCount_reg _ _ _ _ h (.inl (by decide)) hf, State.logWord_reg]
  · split
    · split
      · rw [State.drumCount_reg _ _ _ _ h (hk _) (hp _), State.drumCount_reg _ _ _ _ h (.inl (by decide)) hl, State.setWords_reg _ _ _ h hd,
          State.logWord_reg]
      · rw [State.setWords_reg _ _ _ h hd, State.logWord_reg]
    · rw [State.setWords_reg _ _ _ h hd, State.logWord_reg]

theorem State.settle_reg (s : State) (r : Reg) (h : r.sub < 1024) (hd : drumRegs r = false) : s.settle.reg r = s.reg r :=
  State.settle_keeps (fun t => t.reg r = s.reg r) (fun t w ht => (t.enterWord_reg w r h hd).trans ht) s rfl

/-! The frame of a command -/

/-- Nothing posted: nothing enters. -/
theorem State.settle_quiet (s : State) (h : s.drum.incoming = []) : s.settle = s := by
  have hd : ({ s.drum with incoming := [] } : Drum) = s.drum := by rw [← h]
  have : ({ s with drum := { s.drum with incoming := [] } } : State) = s := by rw [hd]
  simp only [State.settle, h, sortItems, List.foldl_nil, List.flatten_nil, State.enterWords, this]

/-- A command ends with its effect settled, the queue as it was and its clocks passed. -/
theorem run_eq (s : State) (dt : Nat) (f : State → State) :
    run s dt f = .next { (f { s.elapse dt with out := [] }).settle with pending := s.pending, ticks := s.ticks + dt } := rfl

/-- What a command's effect is, and nothing entering, says what the command answers. -/
theorem run_quiet (s : State) (dt : Nat) (f : State → State) (h : (f { s.elapse dt with out := [] }).drum.incoming = []) :
    run s dt f = .next { f { s.elapse dt with out := [] } with pending := s.pending, ticks := s.ticks + dt } := by
  rw [run_eq, State.settle_quiet _ h]

/-! Events stay in the Drum -/

/-- A word stands in the Drum with at most m words behind it. -/
def Behind (w : DrumWord) (m : Nat) (s : State) : Prop := ∃ p q, s.drum.words = p ++ w :: q ∧ q.length ≤ m

theorem Behind.mono {w : DrumWord} {m n : Nat} {s : State} (h : Behind w m s) (hn : m ≤ n) : Behind w n s := by
  obtain ⟨p, q, hw, hq⟩ := h
  exact ⟨p, q, hw, by omega⟩

theorem Behind.mem {w : DrumWord} {m : Nat} {s : State} (h : Behind w m s) : w ∈ s.drum.words := by
  obtain ⟨p, q, hw, -⟩ := h
  simp [hw]

/-- The words after one word enters: as before, with the new word last, or that without the oldest. -/
theorem State.enterWord_words (s : State) (w : DrumWord) :
    (s.enterWord w).1.drum.words =
      if w.priority < s.reg .DRM_MIN_PRIORITY ∧ w.priority ≠ 7 then s.drum.words
      else if 64 ≤ s.drum.words.length then s.drum.words.tail ++ [w] else s.drum.words ++ [w] := by
  simp only [State.enterWord, State.logWord_reg, State.logWord_drum]
  split
  · simp
  · split
    next old rest he => split <;> simp [he]
    next he => simp [he]

theorem State.enterWord_more (s : State) (w : DrumWord) : (s.enterWord w).2.length ≤ 2 := by
  have hc : ∀ (s : State) (r : Reg) (n : Nat), (s.drumCount r n).2.length ≤ 1 := by
    intro s r n
    simp only [State.drumCount]
    cases counterWord r (s.reg r) ((s.setReg r (s.reg r + n)).reg r) <;> simp
  simp only [State.enterWord]
  split
  · exact Nat.le_trans (hc _ _ _) (by omega)
  · split
    · split
      · simp only [List.length_append]
        have h1 := hc ((s.logWord w).setWords (‹List DrumWord› ++ [w])) .DRM_LOST 1
        exact Nat.add_le_add h1 (hc _ _ _)
      · simp
    · simp

theorem State.enterWord_behind (s : State) (x w : DrumWord) (m : Nat) (h : Behind w m s) (hm : m < 63) : Behind w (m + 1) (s.enterWord x).1 := by
  obtain ⟨p, q, hw, hq⟩ := h
  unfold Behind
  rw [State.enterWord_words]
  split
  · exact ⟨p, q, hw, by omega⟩
  · split
    next hl =>
      cases p with
      | nil => rw [hw] at hl; simp at hl; omega
      | cons y p => exact ⟨p, q ++ [x], by simp [hw], by simp; omega⟩
    next => exact ⟨p, q ++ [x], by simp [hw], by simp; omega⟩

theorem State.enterWord_enters (s : State) (w : DrumWord) (h : s.reg .DRM_MIN_PRIORITY ≤ w.priority ∨ w.priority = 7) :
    Behind w 0 (s.enterWord w).1 := by
  unfold Behind
  rw [State.enterWord_words]
  have : ¬(w.priority < s.reg .DRM_MIN_PRIORITY ∧ w.priority ≠ 7) := by omega
  rw [if_neg this]
  split
  · exact ⟨_, [], rfl, by simp⟩
  · exact ⟨_, [], rfl, by simp⟩

/-- The most words that enter for a list of words, with those their counters post. -/
def enterCost : Nat → Nat → Nat
  | 0, _ => 0
  | n + 1, k => k * (1 + enterCost n 2)

theorem enterCost_mono (n : Nat) {k l : Nat} (h : k ≤ l) : enterCost n k ≤ enterCost n l := by
  cases n with
  | zero => simp [enterCost]
  | succ n => exact Nat.mul_le_mul_right _ h

theorem State.enterWords_behind (w : DrumWord) (n : Nat) (s : State) (ws : List DrumWord) (m : Nat) (h : Behind w m s)
    (hm : m + enterCost n ws.length ≤ 62) : Behind w (m + enterCost n ws.length) (State.enterWords n s ws) := by
  induction n generalizing s ws m with
  | zero => simpa [enterCost, State.enterWords] using h
  | succ n ih =>
    unfold State.enterWords
    induction ws generalizing s m with
    | nil => simpa [enterCost] using h
    | cons x ws ihw =>
      have hc : enterCost (n + 1) (x :: ws).length = enterCost (n + 1) ws.length + (1 + enterCost n 2) := by
        simp [enterCost, Nat.add_mul]
      rw [hc] at hm ⊢
      have hle : enterCost n (s.enterWord x).2.length ≤ enterCost n 2 := enterCost_mono n (s.enterWord_more x)
      have h1 := ih (s.enterWord x).1 (s.enterWord x).2 (m + 1) (s.enterWord_behind x w m h (by omega)) (by omega)
      have h2 := ihw (State.enterWords n (s.enterWord x).1 (s.enterWord x).2) (m + (1 + enterCost n 2)) (h1.mono (by omega)) (by omega)
      exact h2.mono (by omega)

/-- The filter of the Drum stays as it is while words enter. -/
theorem State.enterWords_minPriority (n : Nat) (s : State) (ws : List DrumWord) :
    (State.enterWords n s ws).reg .DRM_MIN_PRIORITY = s.reg .DRM_MIN_PRIORITY :=
  State.enterWords_keeps (fun t => t.reg .DRM_MIN_PRIORITY = s.reg .DRM_MIN_PRIORITY)
    (fun t w ht => (t.enterWord_reg w _ (by decide) (by decide)).trans ht) n s ws rfl

theorem State.enterWords_enters (w : DrumWord) (n : Nat) (s : State) (ws : List DrumWord) (hw : w ∈ ws)
    (hp : s.reg .DRM_MIN_PRIORITY ≤ w.priority ∨ w.priority = 7) (hm : enterCost (n + 1) ws.length ≤ 62) :
    w ∈ (State.enterWords (n + 1) s ws).drum.words := by
  unfold State.enterWords
  induction ws generalizing s with
  | nil => simp at hw
  | cons x ws ihw =>
    have hc : enterCost (n + 1) (x :: ws).length = enterCost (n + 1) ws.length + (1 + enterCost n 2) := by
      simp [enterCost, Nat.add_mul]
    rw [hc] at hm
    have hle : enterCost n (s.enterWord x).2.length ≤ enterCost n 2 := enterCost_mono n (s.enterWord_more x)
    have hf : (State.enterWords n (s.enterWord x).1 (s.enterWord x).2).reg .DRM_MIN_PRIORITY = s.reg .DRM_MIN_PRIORITY :=
      (State.enterWords_minPriority _ _ _).trans (s.enterWord_reg x _ (by decide) (by decide))
    by_cases hx : w ∈ ws
    · exact ihw _ hx (by rw [hf]; exact hp) (by omega)
    · obtain rfl : w = x := by simpa [hx] using hw
      have h1 := State.enterWords_behind w n (s.enterWord w).1 (s.enterWord w).2 0 (s.enterWord_enters w hp) (by omega)
      exact ((State.enterWords_behind w (n + 1) _ ws _ h1 (by omega)).mem)

theorem insertItem_perm (i : List DrumWord) (l : List (List DrumWord)) : (insertItem i l).Perm (i :: l) := by
  induction l with
  | nil => exact .refl _
  | cons j js ih =>
    unfold insertItem
    split
    · exact .refl _
    · exact (List.Perm.cons j ih).trans (List.Perm.swap i j js)

theorem sortItems_perm (l : List (List DrumWord)) : (sortItems l).Perm l := by
  have : ∀ acc, (l.foldl (fun acc i => insertItem i acc) acc).Perm (l ++ acc) := by
    induction l with
    | nil => exact fun _ => .refl _
    | cons i l ih =>
      intro acc
      exact (ih _).trans ((List.Perm.append_left l (insertItem_perm i acc)).trans List.perm_middle)
  simpa [sortItems] using this []

/-- Up to four words posted by a command are in the Drum when it ends, unless the Drum filters them (R372, R374). -/
theorem State.settle_holds (s : State) (w : DrumWord) (hw : w ∈ s.drum.incoming.flatten) (hl : s.drum.incoming.flatten.length ≤ 4)
    (hp : s.reg .DRM_MIN_PRIORITY ≤ w.priority ∨ w.priority = 7) : w ∈ s.settle.drum.words := by
  have hperm : (sortItems s.drum.incoming).flatten.Perm s.drum.incoming.flatten := (sortItems_perm _).flatten
  refine State.enterWords_enters w 3 _ _ (hperm.mem_iff.2 hw) hp ?_
  rw [hperm.length_eq]
  calc enterCost 4 s.drum.incoming.flatten.length ≤ enterCost 4 4 := enterCost_mono 4 hl
    _ ≤ 62 := by decide

end Sys2Proof.Machine
end

