-- ==== Sys2Proof/WellFormed.lean ====
section
/-! DEFINITION. What the wires and registers that bring a command can carry: every operand within the width the spec gives its field. The meanings
do not rest on it; a command beyond a width cannot arrive. -/

namespace Sys2Proof

/-- A frame: octets up to the largest any port takes, and a 32-bit FCS (R46, R49). -/
def Frame.wf (f : Frame) : Bool := Nat.ble f.octets.length 16384 && Nat.blt f.fcs (2 ^ 32)

/-- Sync: a port, an 8-bit domain and a 64-bit clockIdentity (R82, R85). -/
def PtpSync.wf (m : PtpSync) : Bool := Nat.blt m.port 2 && Nat.blt m.domain 256 && Nat.blt m.clockId (2 ^ 64)

/-- Announce: the widths of the data set (R84). -/
def PtpAnnounce.wf (m : PtpAnnounce) : Bool :=
  Nat.blt m.port 2 && Nat.blt m.domain 256 && Nat.blt m.gmId (2 ^ 64) && Nat.blt m.priority1 256 && Nat.blt m.clockClass 256 &&
    Nat.blt m.accuracy 256 && Nat.blt m.variance 65536 && Nat.blt m.priority2 256 && Nat.blt m.stepsRemoved 65536

/-- A delay response: a port and an 8-bit domain (R85). -/
def PtpDelay.wf (m : PtpDelay) : Bool := Nat.blt m.port 2 && Nat.blt m.domain 256

/-- A WSF packet: a stream table entry and the 48 octets of the header (R122). -/
def WsfPacket.wf (p : WsfPacket) : Bool := Nat.blt p.entry 128 && p.header.length == 48

/-- A video packet: a stream table entry and a 32-bit extended sequence number (R143). -/
def VideoPacket.wf (p : VideoPacket) : Bool := Nat.blt p.entry 128 && Nat.blt p.seq (2 ^ 32) && Nat.blt p.timestamp (2 ^ 32)

/-- A safety message: the 56 octets of the header (R202). -/
def SafetyMessage.wf (m : SafetyMessage) : Bool := m.header.length == 56

/-- A dictionary request: 16-bit SESSION, 32-bit SEQ and 16 octets of TAG (R470). -/
def IdpHead.wf (h : IdpHead) : Bool :=
  Nat.blt h.source.transport 3 && Nat.blt h.session 65536 && Nat.blt h.seq (2 ^ 32) && (match h.tag with
    | some t => t.length == 16
    | none => true)

/-- An item of a WRITE: 16-bit index, 8-bit subindex and type (R471). -/
def WriteItem.wf (w : WriteItem) : Bool := Nat.blt w.index 65536 && Nat.blt w.sub 256 && Nat.blt w.type 256

/-- An E1.31 packet: 16-bit universe, 8-bit sequence number, slots of 8 bits (R415). -/
def SacnPacket.wf (p : SacnPacket) : Bool :=
  Nat.blt p.number 65536 && Nat.blt p.seq 256 && Nat.blt p.priority 256 && Nat.ble p.slots.length 512 && p.slots.all fun v => Nat.blt v 256

/-- An RDM packet: 48-bit UIDs, 16-bit PID and up to 231 octets (R421). -/
def RdmPacket.wf (p : RdmPacket) : Bool :=
  Nat.blt p.dest (2 ^ 48) && Nat.blt p.source (2 ^ 48) && Nat.blt p.transaction 256 && Nat.blt p.kind 256 && Nat.blt p.cls 256 &&
    Nat.blt p.pid 65536 && Nat.ble p.data.length 231

/-- A chain message: 48-bit MAC, chain address, EUI-64 and image identity (R494). -/
def ChainHead.wf (h : ChainHead) : Bool := Nat.blt h.mac (2 ^ 48) && Nat.blt h.sender (2 ^ 64) && Nat.blt h.imageId (2 ^ 64)

/-- A mirror message: 8-bit claim and 32-bit MSEQ (R445). -/
def MirMessage.wf (m : MirMessage) : Bool := Nat.blt m.claim 256 && Nat.blt m.mseq (2 ^ 32)

/-- Whether every operand of a command lies within the width of its field. -/
def Instr.wellFormed : Instr → Bool
  | .rxFrame _ port f _ => Nat.blt port 2 && f.wf
  | .netmRxFrame _ f _ => f.wf
  | .egressTransmit _ port => Nat.blt port 3
  | .gateEntryExpiry _ port => Nat.blt port 3
  | .gclChangeRequest _ who port => Nat.blt who 65536 && Nat.blt port 3
  | .gclChangeCancel _ who port => Nat.blt who 65536 && Nat.blt port 3
  | .gclSwap _ port => Nat.blt port 3
  | .portRestart _ who port _ value => Nat.blt who 65536 && Nat.blt port 3 && Nat.blt value (2 ^ 64)
  | .linkUp _ port => Nat.blt port 3
  | .linkDown _ port _ => Nat.blt port 3
  | .moduleDetect _ port => Nat.blt port 2
  | .fecWindowEnd _ port _ _ _ => Nat.blt port 3
  | .streamTableChange _ who entry sub value => Nat.blt who 65536 && Nat.blt entry 128 && Nat.blt sub 256 && Nat.blt value (2 ^ 64)
  | .igmpQuery _ port => Nat.blt port 3
  | .syncReceive _ m => m.wf
  | .announceReceive _ m => m.wf
  | .delayRespReceive _ m => m.wf
  | .pdelayReqReceive _ port seq => Nat.blt port 2 && Nat.blt seq (2 ^ 32)
  | .firstStep _ => true
  | .syncTimeout _ => true
  | .announceTimeout _ => true
  | .holdoverLimit _ => true
  | .reacquireSchedule _ who time => Nat.blt who 65536 && Nat.blt time (2 ^ 96)
  | .reacquireCancel _ who => Nat.blt who 65536
  | .reacquireStep _ => true
  | .ptpClientRestart _ who index value => Nat.blt who 65536 && Nat.blt index 65536 && Nat.blt value (2 ^ 64)
  | .turretMismatch _ turret time _ => Nat.blt turret 3 && Nat.blt time (2 ^ 96)
  | .voteFailure _ _ _ _ => true
  | .comparatorFire _ n => Nat.blt n 16
  | .cmpCommit _ who n => Nat.blt who 65536 && Nat.blt n 16
  | .bellPulseEnd _ n => Nat.blt n 16
  | .bellEdge _ pin _ heldNs => Nat.blt pin 8 && Nat.blt heldNs (2 ^ 64)
  | .capPop _ who channel => Nat.blt who 65536 && Nat.blt channel 8
  | .wsfPacket _ p => p.wf
  | .controlFrameHandover _ => true
  | .controlFrameAbandon _ => true
  | .fenceRelease _ p => p.wf
  | .fenceAbandon _ p => p.wf
  | .fenceEntryExpiry _ => true
  | .layerTimeout _ layer => Nat.blt layer 8
  | .incompleteAbandon _ => true
  | .st2110Packet _ p => p.wf
  | .layerEnable _ who layer value => Nat.blt who 65536 && Nat.blt layer 8 && Nat.blt value (2 ^ 64)
  | .frameCreditWaitEnd _ layer => Nat.blt layer 8
  | .instantiate _ => true
  | .dispatch _ engine => Nat.blt engine 16
  | .operationComplete _ engine _ => Nat.blt engine 16
  | .urgentPriority _ => true
  | .lampTick _ => true
  | .cueDeadline _ => true
  | .squashBarrier _ epoch => Nat.blt epoch (2 ^ 64)
  | .watchdogTrip _ engine => Nat.blt engine 16
  | .traceGapRecord _ => true
  | .belTraceRead _ who => Nat.blt who 65536
  | .belTraceRewind _ who value => Nat.blt who 65536 && Nat.blt value (2 ^ 64)
  | .belTraceMark _ who value => Nat.blt who 65536 && Nat.blt value (2 ^ 64)
  | .statsWindowEnd _ => true
  | .belStatsWindow _ who value => Nat.blt who 65536 && Nat.blt value (2 ^ 64)
  | .orderChangeRequest _ who => Nat.blt who 65536
  | .orderChangeCancel _ who => Nat.blt who 65536
  | .finialHeartbeat _ m => m.wf
  | .finialContent _ m => m.wf
  | .finialAssert _ m => m.wf
  | .finialRelease _ m => m.wf
  | .finialStale _ => true
  | .finialDisable _ who => Nat.blt who 65536
  | .finialKeyWrite _ who key => Nat.blt who 65536 && Nat.ble key.length 4060
  | .decisionMismatch _ _ _ _ => true
  | .previewTake _ who value => Nat.blt who 65536 && Nat.blt value (2 ^ 64)
  | .cupPreviewRead _ who => Nat.blt who 65536
  | .tempPoll _ _ => true
  | .calRefreshDue _ zone => Nat.blt zone 64
  | .reblendPassStart _ zone => Nat.blt zone 64
  | .reblendPassComplete _ zone => Nat.blt zone 64
  | .calFetch _ link module _ => Nat.blt link 64 && Nat.blt module 33
  | .headerRecheck _ _ => true
  | .scrubPeriod _ => true
  | .calSpareCommit _ who value => Nat.blt who 65536 && Nat.blt value (2 ^ 64)
  | .moduleZoneWrite _ who link module zone => Nat.blt who 65536 && Nat.blt link 64 && Nat.blt module 33 && Nat.blt zone 64
  | .recalPass2Complete _ who image => Nat.blt who 65536 && Nat.ble image.length 4194304
  | .recalAbort _ who => Nat.blt who 65536
  | .trimMeasure _ who value => Nat.blt who 65536 && Nat.blt value (2 ^ 64)
  | .trimMeasureDone _ _ _ => true
  | .mapChangeRequest _ who => Nat.blt who 65536
  | .mapChangeCancel _ who => Nat.blt who 65536
  | .commitInstant _ _ => true
  | .strikeReference _ => true
  | .strikeLeave _ link offset2 => Nat.blt link 64 && Nat.blt offset2 (2 ^ 64)
  | .modeChangeRequest _ who => Nat.blt who 65536
  | .modeChangeCancel _ who => Nat.blt who 65536
  | .modeChangeEffect _ => true
  | .genlockEdge _ => true
  | .genlockLoss _ => true
  | .linkFrameStart _ link kind _ _ _ _ => Nat.blt link 64 && Nat.blt kind 4
  | .blockLockGained _ link => Nat.blt link 64
  | .blockLockLost _ link _ => Nat.blt link 64
  | .linkLockHeld _ link => Nat.blt link 64
  | .enumEndReceive _ link block => Nat.blt link 64 && Nat.ble block.length 8
  | .enumTimeout _ link => Nat.blt link 64
  | .echoReplyReceive _ link block _ => Nat.blt link 64 && Nat.ble block.length 8
  | .retrainWaitEnd _ link => Nat.blt link 64
  | .remeasureDue _ link => Nat.blt link 64
  | .dackReceive _ link block => Nat.blt link 64 && Nat.ble block.length 8
  | .ackTimeout _ link => Nat.blt link 64
  | .reqReceive _ link block => Nat.blt link 64 && Nat.ble block.length 8
  | .upFrameEof _ link sof data eof => Nat.blt link 64 && Nat.ble sof.length 8 && Nat.ble data.length 8388608 && Nat.ble eof.length 8
  | .readDataResponse _ link module tag status data => Nat.blt link 64 && Nat.blt module 33 && Nat.blt tag 256 && Nat.blt status 256 && Nat.ble data.length 8388608
  | .writeErrorResponse _ link module tag address len status => Nat.blt link 64 && Nat.blt module 33 && Nat.blt tag 256 && Nat.blt address (2 ^ 48) && Nat.blt len 4096 && Nat.blt status 256
  | .lockResponse _ link module tag status => Nat.blt link 64 && Nat.blt module 33 && Nat.blt tag 256 && Nat.blt status 256
  | .unlockResponse _ link module tag status => Nat.blt link 64 && Nat.blt module 33 && Nat.blt tag 256 && Nat.blt status 256
  | .faultRecords _ link module data => Nat.blt link 64 && Nat.blt module 33 && Nat.ble data.length 8388608
  | .lockTimeLimit _ link => Nat.blt link 64
  | .mergeInstant _ => true
  | .periodStart _ _ => true
  | .channelUntested _ channel => Nat.blt channel 512
  | .adcConversion _ _ _ _ _ => true
  | .cueGo _ who value => Nat.blt who 65536 && Nat.blt value (2 ^ 64)
  | .cueStop _ who cue => Nat.blt who 65536 && Nat.blt cue 65536
  | .channelEnable _ who channel value => Nat.blt who 65536 && Nat.blt channel 512 && Nat.blt value (2 ^ 64)
  | .groupClear _ who group value => Nat.blt who 65536 && Nat.blt group 64 && Nat.blt value (2 ^ 64)
  | .groupRetry _ group => Nat.blt group 64
  | .safetyTableCheck _ _ _ _ => true
  | .tiedGroupEnable _ => true
  | .ocuEnableWrite _ who value => Nat.blt who 65536 && Nat.blt value (2 ^ 64)
  | .controlSramError _ _ address copy _ _ _ => Nat.blt address (2 ^ 48) && Nat.blt copy 2
  | .crcClaim _ who context value => Nat.blt who 65536 && Nat.blt context 8 && Nat.blt value (2 ^ 64)
  | .crcPreset _ who context value => Nat.blt who 65536 && Nat.blt context 8 && Nat.blt value (2 ^ 64)
  | .crcParameterWrite _ who context sub value => Nat.blt who 65536 && Nat.blt context 8 && Nat.blt sub 256 && Nat.blt value (2 ^ 64)
  | .crcRunningWrite _ who context value => Nat.blt who 65536 && Nat.blt context 8 && Nat.blt value (2 ^ 64)
  | .crcFeed _ who context octets => Nat.blt who 65536 && Nat.blt context 8 && Nat.ble octets.length 8388608
  | .crcAliveIn _ who context value => Nat.blt who 65536 && Nat.blt context 8 && Nat.blt value (2 ^ 64)
  | .eventPost _ code priority _ => Nat.blt code 65536 && Nat.blt priority 8
  | .drmPop _ who => Nat.blt who 65536
  | .drmPopBlock _ who => Nat.blt who 65536
  | .drmFlush _ who value => Nat.blt who 65536 && Nat.blt value (2 ^ 64)
  | .faultSummaryClear _ who value => Nat.blt who 65536 && Nat.blt value (2 ^ 64)
  | .memRequestRaise _ port => Nat.blt port 9
  | .arbitrationRound _ _ _ _ => true
  | .refreshDue _ => true
  | .debugAccess _ => true
  | .dramReadError _ port address _ _ => Nat.blt port 9 && Nat.blt address (2 ^ 48)
  | .odeccPoll _ _ _ => true
  | .dramTempRead _ _ _ => true
  | .grantOverrun _ => true
  | .grantHoldRestart _ => true
  | .conflictWindowEnd _ => true
  | .mapPass _ => true
  | .signalMapChangeRequest _ who => Nat.blt who 65536
  | .signalMapChangeCancel _ who => Nat.blt who 65536
  | .regIntervalEnd _ => true
  | .sacnPacket _ p => p.wf
  | .sacnSourceLoss _ entry => Nat.blt entry 64
  | .dmxTxPacket _ port => Nat.blt port 8
  | .dmxRxPacket _ port startCode _ _ => Nat.blt port 8 && Nat.blt startCode 256
  | .dmxRxLoss _ port => Nat.blt port 8
  | .dmxModeWrite _ who port value => Nat.blt who 65536 && Nat.blt port 8 && Nat.blt value (2 ^ 64)
  | .rdmRequest _ who port dest cls pid data => Nat.blt who 65536 && Nat.blt port 8 && Nat.blt dest (2 ^ 48) && Nat.blt cls 256 && Nat.blt pid 65536 && Nat.ble data.length 8388608
  | .rdmResponseReceive _ port p => Nat.blt port 8 && p.wf
  | .rdmResponseTimeout _ port => Nat.blt port 8
  | .dmxRdmDiscover _ who port value => Nat.blt who 65536 && Nat.blt port 8 && Nat.blt value (2 ^ 64)
  | .rdmAbort _ who port value => Nat.blt who 65536 && Nat.blt port 8 && Nat.blt value (2 ^ 64)
  | .rdmResponderRequest _ port p _ => Nat.blt port 8 && p.wf
  | .brgRead _ who => Nat.blt who 65536
  | .brgWrite _ who data => Nat.blt who 65536 && Nat.ble data.length 8388608
  | .brgLockSet _ who => Nat.blt who 65536
  | .brgUnlock _ who => Nat.blt who 65536
  | .brgAbort _ who value => Nat.blt who 65536 && Nat.blt value (2 ^ 64)
  | .brgPweClear _ who value => Nat.blt who 65536 && Nat.blt value (2 ^ 64)
  | .claimWordReceive _ word => Nat.blt word (2 ^ 128)
  | .partnerLost _ => true
  | .mirrorLinkUp _ => true
  | .mirrorLinkDown _ => true
  | .mirrorResend _ => true
  | .mirrorAck _ m => m.wf
  | .mirrorHeartbeat _ m => m.wf
  | .mirrorAdmit _ m => m.wf
  | .pairWaitExpiry _ => true
  | .mirrorAnchor _ m => m.wf
  | .linkSig _ m => m.wf
  | .frameSig _ m => m.wf
  | .dictWrite _ m => m.wf
  | .dictForward _ m => m.wf
  | .dictStatus _ m => m.wf
  | .mirrorWriteApply _ => true
  | .statePush _ m => m.wf
  | .mirrorBulk _ m => m.wf
  | .mirrorSync _ m => m.wf
  | .twinYield _ => true
  | .twnRejoin _ who value => Nat.blt who 65536 && Nat.blt value (2 ^ 64)
  | .idpOpen _ h nonce => h.wf && Nat.ble nonce.length 4060
  | .idpClose _ h => h.wf
  | .idpKeepalive _ h => h.wf
  | .authOperator _ h proof => h.wf && Nat.ble proof.length 4060
  | .challenge _ h slot key => h.wf && Nat.blt slot 256 && Nat.ble key.length 4060
  | .authService _ h signature => h.wf && Nat.ble signature.length 4060
  | .idpRead _ h items => h.wf && Nat.ble items.length 32
  | .idpWrite _ h items => h.wf && Nat.ble items.length 32 && items.all WriteItem.wf
  | .registerWrite _ who item => Nat.blt who 65536 && item.wf
  | .domainRead _ h index sub => h.wf && Nat.blt index 65536 && Nat.blt sub 256
  | .domainWrite _ h index sub total => h.wf && Nat.blt index 65536 && Nat.blt sub 256 && Nat.blt total (2 ^ 32)
  | .domainSegment _ h offset data => h.wf && Nat.blt offset (2 ^ 32) && Nat.ble data.length 8388608
  | .domainEnd _ h _ => h.wf
  | .domainAbort _ h => h.wf
  | .sessionTimeout _ => true
  | .serviceWindowEnd _ => true
  | .lockoutEnd _ => true
  | .rdmIdpSet _ port dest source transaction message _ => Nat.blt port 8 && Nat.blt dest (2 ^ 48) && Nat.blt source (2 ^ 48) && Nat.blt transaction 256 && Nat.ble message.length 4096
  | .rdmGetEui _ port dest source transaction => Nat.blt port 8 && Nat.blt dest (2 ^ 48) && Nat.blt source (2 ^ 48) && Nat.blt transaction 256
  | .rdmGetIdentity _ port dest source transaction => Nat.blt port 8 && Nat.blt dest (2 ^ 48) && Nat.blt source (2 ^ 48) && Nat.blt transaction 256
  | .spiRequest _ message => Nat.ble message.length 4096
  | .spiReadResponse _ => true
  | .spiStatus _ => true
  | .dicProfileSave _ who value => Nat.blt who 65536 && Nat.blt value (2 ^ 64)
  | .profileSaveDone _ _ => true
  | .dicProfileCreate _ who value => Nat.blt who 65536 && Nat.blt value (2 ^ 64)
  | .dicRestart _ who value => Nat.blt who 65536 && Nat.blt value (2 ^ 64)
  | .dicInstallKey _ who key => Nat.blt who 65536 && Nat.ble key.length 4060
  | .dicServiceKeyIntegrator _ who key => Nat.blt who 65536 && Nat.ble key.length 4060
  | .chainInWord _ word => Nat.blt word (2 ^ 128)
  | .chainInIdle _ => true
  | .discoverSend _ => true
  | .chainDiscover _ h chain flags profile generation => h.wf && Nat.blt chain 256 && Nat.blt flags 256 && Nat.blt profile 256 && Nat.blt generation (2 ^ 32)
  | .discoverBack _ h euiLow address => h.wf && Nat.blt euiLow (2 ^ 32) && Nat.blt address (2 ^ 48)
  | .chnAddrAccept _ who value => Nat.blt who 65536 && Nat.blt value (2 ^ 64)
  | .conflictClear _ => true
  | .backupRequest _ h address _ wrapKey => h.wf && Nat.blt address (2 ^ 48) && Nat.ble wrapKey.length 65
  | .backupData _ h offset total data => h.wf && Nat.blt offset (2 ^ 32) && Nat.blt total (2 ^ 32) && Nat.ble data.length 8388608
  | .backupAck _ h offset status => h.wf && Nat.blt offset (2 ^ 32) && Nat.blt status 256
  | .backupResend _ => true
  | .adoptWaitExpiry _ => true
  | .updStartCommit _ who value => Nat.blt who 65536 && Nat.blt value (2 ^ 64)
  | .imageOffer _ h level seq blocks tAct healthS forward => h.wf && Nat.blt level 65536 && Nat.blt seq (2 ^ 32) && Nat.blt blocks 65536 && Nat.blt tAct (2 ^ 64) && Nat.blt healthS 65536 && Nat.blt forward 256
  | .offerReply _ h reply => h.wf && Nat.blt reply 256
  | .imageBlock _ h block crc data _ => h.wf && Nat.blt block (2 ^ 32) && Nat.blt crc (2 ^ 32) && Nat.ble data.length 8388608
  | .blockAck _ h block status => h.wf && Nat.blt block (2 ^ 32) && Nat.blt status 256
  | .blockResend _ => true
  | .relayStall _ => true
  | .imageVerified _ => true
  | .chainAbort _ h => h.wf
  | .updAbort _ who value => Nat.blt who 65536 && Nat.blt value (2 ^ 64)
  | .activation _ => true
  | .healthConfirmed _ => true
  | .updConfirm _ who value => Nat.blt who 65536 && Nat.blt value (2 ^ 64)
  | .updReject _ who value => Nat.blt who 65536 && Nat.blt value (2 ^ 64)
  | .healthWindowEnd _ => true
  | .imageFetch _ h address => h.wf && Nat.blt address (2 ^ 48)
  | .fetchRetry _ => true
  | .keepLoaderStart _ => true
  | .powerOn _ => true
  | .vinUndervoltage _ => true
  | .railFault _ rail cause => Nat.blt rail 16 && Nat.blt cause 256
  | .railRetryWait _ => true
  | .clockFault _ => true
  | .serdesPllLoss _ port => Nat.blt port 3
  | .resetNLow _ => true
  | .resetNRelease _ => true
  | .thermalTrip _ => true
  | .thermalTripClear _ => true
  | .jtagReset _ => true
  | .cpu0Watchdog _ => true
  | .driveHeartbeatLoss _ => true
  | .internalResetRelease _ pins _ => Nat.blt pins 256
  | .memTrainingDone _ _ channel => Nat.blt channel 2
  | .imageLoadDone _ => true
  | .firmwareStart _ _ _ _ => true
  | .startupLimit _ => true
  | .logicTjRead _ _ _ => true
  | .presentationInstant _ => true
  | .claimLineLoss _ => true
  | .dmxTxPacketEnd _ port => Nat.blt port 8
  | .rdmAckTimerExpiry _ port => Nat.blt port 8
  | .discoverBackSend _ => true
  | .activationWindowExpiry _ => true
  | .serdesPllLock _ port => Nat.blt port 3
  | .backupRequestTimeout _ => true

end Sys2Proof
end

