-- ==== Sys2Proof/Tests/States.lean ====
section
/-! SUPPORT. Small states and operands the tests are written with. -/

namespace Sys2Proof.Tests

open Machine

/-- The reset state with some elements set. -/
def withRegs (rs : List (Reg × Nat)) : State := rs.foldl (fun s p => s.setReg p.1 p.2) State.reset

/-- A frame with a good FCS: destination, source, type, and 60 octets in all at least. -/
def ethFrame (dst type : Nat) (body : List Octet) : Frame :=
  let o := beOctets 6 dst ++ beOctets 6 0x020000000001 ++ beOctets 2 type ++ body
  let p := o ++ List.replicate (60 - o.length) 0
  ⟨p, crcOf crc32 p, false⟩

/-- A unit with MAC addresses and forwarding ports, links of NETA and NETM up. -/
def netState : State :=
  let s := withRegs [(.NET_LINK_STATE 1, 1), (.NET_LINK_STATE 3, 1)]
  { s with unit := { s.unit with macChain := 0x02AA00000001, macM := 0x02AA00000002 }, net := { s.net with forwarding := true } }

/-- The same with NETB up and both ports at one speed. -/
def netBoth : State := netState.setReg (.NET_LINK_STATE 2) 1

/-- A frame queued on NETB in class 3. -/
def netQueued : State :=
  netBoth.modNet fun n => { n with ports := modNth n.ports 1 fun p => { p with
    queues := modNth p.queues 3 fun _ => [⟨(ethFrame 0x02AA00000009 0x88B5 []).octets, 3, false, false, none⟩] } }

/-- A gate list of two entries on NETA, 1,000 ns each, its cycle started at 0. -/
def gateState : State :=
  withRegs [(.NET_GCL_OPER_CYCLE 1, 2000), (.NET_GCL_OPER_LEN 1, 2), (.NET_GCL_OPER_NETA 1, 0xFF000003E8), (.NET_GCL_OPER_NETA 2, 0x81000003E8),
    (.NET_GCL_ADMIN_CYCLE 1, 2000), (.NET_GCL_ADMIN_LEN 1, 1), (.NET_GCL_ADMIN_NETA 1, 0x0F000007D0)]

/-- The same with a change requested. -/
def gatePending : State :=
  ((gateState.modNet fun n => { n with ports := modNth n.ports 0 fun p => { p with gate := { p.gate with pending := true } } }).setReg
    (.NET_GCL_CHANGE 1) 1).setReg (.NET_GCL_CHANGE_TIME 1) 12000

/-- A Sync of grandmaster 9 on NETA. -/
def sync9 : PtpSync := ⟨0, 127, 9, 1000, 0, 2000 * 2 ^ 32, 0⟩

/-- An Announce of grandmaster 9 on NETA. -/
def announce9 : PtpAnnounce := ⟨0, 127, 9, 128, 6, 0x21, 0x4E5D, 128, 0, 37⟩

/-- A unit in ACQUIRE behind grandmaster 9 on NETA. -/
def acquiring : State := withRegs [(.TCK_GM_ID, 9), (.TCK_SLAVE_PORT, 1), (.TCK_STATE, 1)]

/-- The same with 16 samples collected. -/
def sampled : State :=
  acquiring.modClock fun c => { c with acquire := (List.range 16).map fun (i : Nat) => ⟨(i : Rat) * 1000, 500⟩ }

/-- A unit locked to grandmaster 9, its first step made. -/
def locked : State :=
  (withRegs [(.TCK_GM_ID, 9), (.TCK_SLAVE_PORT, 1), (.TCK_STATE, 3)]).modClock fun c => { c with
    stepped := true, applied := [10], masters := [⟨announce9, 3⟩], history := [⟨0, 100⟩, ⟨1000, 100⟩] }

/-- The same in holdover for 20 s. -/
def holding : State :=
  (((locked.setReg .TCK_STATE 4).setReg .TCK_HOLDOVER_LIMIT 10).modClock fun c => { c with holdoverSince := 0 }).elapse 15625000000

/-- Comparator 5 armed for a pulse at 1,000 ns on BELL0, an output. -/
def armed5 : State :=
  (withRegs [(.CMP_ENABLE 5, 1), (.CMP_ACTION 5, 1), (.CMP_WIDTH 5, 100), (.CMP_TARGET 5, 1000), (.TCK_BELL_DIR 1, 1)]).modClock fun c => { c with
    comparators := modNth c.comparators 5 fun x => { x with armed := true, action := 1, target := 1000 * 2 ^ 32, width := 100 } }

/-- The same with the pulse running. -/
def pulsing5 : State := armed5.modClock fun c => { c with comparators := modNth c.comparators 5 fun x => { x with pulse := true } }

/-- Channel 2 armed for both edges of BELL3, with one record held. -/
def capturing : State :=
  (withRegs [(.CAP_ENABLE 2, 1), (.CAP_SOURCE 2, 3), (.CAP_EDGE 2, 2)]).modClock fun c => { c with
    captures := modNth c.captures 2 fun _ => ⟨[⟨77, false, true, false, 0⟩], 1⟩ }

/-- A WSF header (R122). -/
def wsfHeader (kind flags format index stream total time : Nat) (r : Rect) (offset count fence crc : Nat) : List Octet :=
  beOctets 2 0x5753 ++ beOctets 1 1 ++ beOctets 1 kind ++ beOctets 1 flags ++ beOctets 1 format ++ beOctets 2 index ++ beOctets 4 stream ++
    beOctets 2 1 ++ beOctets 2 total ++ beOctets 8 time ++ beOctets 2 r.x ++ beOctets 2 r.y ++ beOctets 2 r.w ++ beOctets 2 r.h ++
    beOctets 4 offset ++ beOctets 2 count ++ beOctets 2 fence ++ beOctets 4 crc ++ beOctets 4 0

/-- The first of two packets of a frame of 4 by 2 pixels due at 20 ms. -/
def firstPacket : WsfPacket := ⟨5, wsfHeader 0 0 0 0 77 2 20000000 ⟨0, 0, 4, 2⟩ 0 4 0 0, List.replicate 16 9⟩

/-- A fence message of a kind for fence 3 of stream 77. -/
def fenceMessage (kind : Nat) : WsfPacket :=
  let h := wsfHeader kind 0x80 0 0 77 1 0 ⟨0, 0, 0, 0⟩ 0 0 3 0
  ⟨5, h.take 40 ++ beOctets 4 (crcOf crc32c (h.take 40)) ++ beOctets 4 0, []⟩

/-- Layer 0 enabled on stream entry 5, venue time valid. -/
def ingesting : State :=
  withRegs [(.TCK_FLAGS, 1), (.ING_LAYER_ENABLE 0, 1), (.ING_SRC_ENTRY 0, 5), (.ING_LAYER_W 0, 64), (.ING_LAYER_H 0, 32), (.NET_STREAM_ENABLE 5, 1)]

/-- A frame that waits for its second packet. -/
def waitingFrame : IngestFrame := { newFrame firstPacket 0 none with id := 0, buffer := some 0, fenced := true, fenceId := 3 }

/-- The same as the one frame held. -/
def oneFrame (f : IngestFrame) : State := ingesting.modIngest fun g => { g with frames := [f], nextId := 1 }

/-- The configuration an epoch of the ingesting unit is built with, written out: layer 0 enabled, an empty map. -/
def plainConfig : EpochConfig :=
  let l : LayerConfig := ⟨false, ⟨0, 0, 0, 0⟩, 0, false, ⟨0, 0, 0, 0⟩, 0, 0, 0, 1, 255, 0, 0, false, ⟨0, 0, 0, 0⟩, 0, 2000000⟩
  { layers := { l with enabled := true, area := ⟨0, 0, 64, 32⟩ } :: List.replicate 7 l, order := List.range 8, background := 0, finial := []
    failColour := 0, map := List.replicate 64 [], lampMap := List.replicate 512 0, canvasW := 0, canvasH := 0, compact := false, feeds := 1
    dither := 2, live := [], depths := List.replicate 64 (List.replicate 32 0) }

/-- An epoch in flight due at 20 ms with layer 0 enabled. -/
def epoch5 : Epoch :=
  { Epoch.fresh 5 1 0 (nsUnits 20000000) (nsUnits 16666666) 0 plainConfig with stage := .live }

/-- That epoch in flight. -/
def oneEpoch : State := { ingesting with epochs := [epoch5] }

/-- Layer 1 ready to be enabled: a canvas of 8 by 1 from one run, an area and a source of its own. -/
def enablable : State :=
  (withRegs [(.ING_SRC_ENTRY 1, 6), (.NET_STREAM_ENABLE 6, 1), (.ING_LAYER_W 1, 8), (.ING_LAYER_H 1, 1)]).modScan fun n => { n with
    mapOper := setNth n.mapOper 0 [7 * 2 ^ 28] }

/-- A video packet with one row of four pixels. -/
def videoPacket : VideoPacket := ⟨5, 100, 0, [⟨0, 0, false, List.replicate 15 3⟩]⟩

/-- An operation ready at priority 3: a COMPOSE of epoch 5. -/
def readyOp : BelOp := ⟨4, 2, 5, 0, 0, none, 0, 0, 64, .ready 3 0 0⟩

/-- A background operation that engine 0 runs. -/
def runningOp : BelOp := ⟨6, 10, 0, 0, 0, some 0, 0, 0, 64, .running 0 0⟩

/-- Operations in slots, every engine in use. -/
def belfryWith (ops : List BelOp) : State :=
  ingesting.modBelfry fun b => { b with slots := ops, engines := List.replicate 16 { Engine.reset with active := true } }

/-- No read fails. -/
def noFaults : ReadFaults := {}

/-- A unit whose grid runs, with nothing in flight. -/
def onGrid : State := (ingesting.setReg .BEL_STATE 2).modScan fun n => { n with gridOn := true }

/-- Two records in the trace. -/
def traced : State :=
  let r := plainRecord 1 0 5 0 0 3
  (ingesting.setReg .BEL_TRACE_WRITE_SEQ 2).modBelfry fun b => { b with trace := [r, { r with seq := 1 }] }

/-- Cue 2 set up for channels 0 to 3. -/
def cueState : State :=
  withRegs [(.LAN_CUE_GO_CUE, 2), (.LAN_CUE_COUNT 2, 4), (.LAN_CUE_CYCLE 2, 100), (.LAN_CUE_LEVEL_A 2, 65536)]

/-- The same with a run of it. -/
def cueRunning : State := cueState.modLantern fun l => { l with nextCue := 1, cues := [⟨2, 2, 2, none, false, [], []⟩] }

/-- The Finial layer enabled with a key, on a canvas of 8 by 2. -/
def finialState : State :=
  let s := (withRegs [(.CUP_FIN_ENABLE, 1), (.CUP_FIN_STATE, 1), (.CHN_ADDRESS, 0x0001)]).modScan fun n => { n with mapOper := setNth n.mapOper 0 [7 * 2 ^ 28, 2 ^ 40 + 7 * 2 ^ 28] }
  { s with idp := { s.idp with finKey := List.replicate 32 5 } }

/-- A safety message to every unit with its tag (R202, R204): rectangle 2 by 2 at 0, content 9. -/
def finialMessage (kind region count : Nat) (payload : List Octet) : SafetyMessage :=
  let h := beOctets 2 0x4649 ++ beOctets 1 1 ++ beOctets 1 kind ++ beOctets 1 7 ++ beOctets 1 region ++ beOctets 2 0xFFFF ++ beOctets 8 1000 ++
    beOctets 2 0 ++ beOctets 2 0 ++ beOctets 2 2 ++ beOctets 2 2 ++ beOctets 4 0 ++ beOctets 2 count ++ beOctets 2 9 ++ beOctets 8 0
  ⟨h ++ (hmac (List.replicate 32 5) (h ++ payload)).take 16, payload⟩

/-- The same with content 9 of region 3 valid in slot 0. -/
def finialLoaded : State := finialState.setSlot 3 0 (some ⟨9, ⟨0, 0, 2, 2⟩, 0, List.replicate 4 (some 1), true, 0⟩)

/-- The same with the region asserted. -/
def finialAsserted : State :=
  (finialLoaded.modDecision fun d => { d with asserted := 8 }).setReg (.CUP_FIN_STALE_ACTION 4) 1

/-- A module of link 0 at address 1 in zone 2, with a cached image of one pixel whose selector stands at set 1. -/
def calState : State :=
  let header : List Octet := leOctets 4 0x4C435A49 ++ leOctets 2 1 ++ leOctets 2 1 ++ leOctets 8 77 ++ leOctets 1 0 ++ leOctets 1 0 ++ leOctets 2 3 ++
    List.replicate 12 0 ++ leOctets 2 0 ++ leOctets 2 0 ++ leOctets 2 1 ++ List.replicate 14 0
  let c : CalModule := ⟨0, 1, [header, [1]], [header, [1]], [], 0, true⟩
  let s := withRegs [(.CAL_MODULE_ZONE 0 1, 2), (.CAL_SPARE_CMD 1, 0), (.CAL_SPARE_CMD 2, 1), (.CAL_ZONE_SOURCE 2, 0)]
  { s with cal := { s.cal with modules := [c] }
           spire := modNth s.spire 0 fun l => { l with modules := [{ SpireModule.reset with hasCal := true, pixels := 1 }] } }

/-- The same with zone 2 changed. -/
def calZone (f : CalZone → CalZone) : State := calState.modZone 2 f

/-- A mode change pending with an epoch in flight. -/
def modeDue : State := (oneEpoch.setReg .SCN_MODE_CHANGE 1).modScan fun n => { n with gridOn := true, modeAt := some 7 }

/-- The grid under genlock on BELL0, anchored or not. -/
def genlocked (anchored : Bool) : State :=
  ((ingesting.setReg .SCN_GENLOCK_OPER 1).modScan fun n => { n with gridOn := true, anchored := anchored }).modClock fun c => { c with stepped := true }

/-- Epoch 5 committed, the wait of link 3 running. -/
def struckState : State :=
  { oneEpoch with epochs := [{ epoch5 with stage := .committed [3] }] }.modLink 3 fun l => { l with strikeWait := some (5, 100) }

/-- Link 3 in a state of R284, with nothing on it. -/
def linkState (n : Nat) : State := ingesting.setReg (.SPL_STATE 3) n

/-- Link 3 trained with one module, and what else it holds. -/
def linkModule (f : SpireLink → SpireLink) : State :=
  (linkState 5).modLink 3 fun l => f { l with modules := [SpireModule.reset] }

/-- A READ of four octets at 64. -/
def readTxn : RegTxn := ⟨2, 64, 9, 4, [], .bridge 7⟩

/-- The frame that carried it. -/
def txnFrame : SpireFrame := ⟨1, 1, 9, 0, 0, false, 0, 0, 1, [readTxn]⟩

/-- Epoch 5 with one pixel of module 1 of link 3, packed. -/
def loadEpoch : Epoch :=
  { epoch5 with config := { epoch5.config with map := setNth epoch5.config.map 3 [0], canvasW := 1, canvasH := 1
                                               depths := setNth epoch5.config.depths 3 (List.replicate 32 8) }
                bricksDone := [0] }

/-- Link 3 about to load it. -/
def loadingState : State :=
  { (linkModule fun l => { l with modules := [{ SpireModule.reset with shadowDepth := 2, pixels := 1 }] }) with epochs := [loadEpoch] }

/-- Session 4 waiting on a transaction with TAG 9 that module 1 of link 3 is to answer. -/
def brgPending (op : Nat) (purpose : Nat → TxPurpose) : State :=
  let s := linkModule fun l => { l with reads := [(1, { readTxn with op := op, purpose := purpose 4 })] }
  s.modBrg fun b => { b with sessions := [{ BrgSession.fresh 4 with status := 1, transfer := some ⟨op, 3, 1, 9, false⟩ }] }

/-- Channel 3 enabled at a direct level, the period grid running. -/
def lampState (f : Lantern → Lantern) : State :=
  (withRegs [(.LAN_CH_ENABLE 3, 1), (.LAN_CH_GANG 3, 1), (.LAN_CH_SOURCES 3, 16), (.LAN_CH_DIRECT 3, 524288)]).modLantern fun l =>
    f { l with gridOn := true }

/-- A period with nothing in it. -/
def lampPeriod : LampPeriod := ⟨0, [], 65536, 0, false, 7, 9, false⟩

/-- Group 2 of channel 3 dark by a fault, with a retry every 10 s. -/
def groupDark : State :=
  let s := ((lampState id).setReg (.LAN_CH_FUNC_GROUP 3) 2).setReg (.LAN_GRP_RETRY_S 1) 10
  (s.modSink 3 fun x => { x with fault := 1 }).modGroup 2 fun g => { g with darkSince := some 0 }

/-- Firmware holds check context 5. -/
def crcHeld : State := ingesting.modCrcContext 5 fun c => { c with holder := some 0xFFFF }

/-- The same with a last alive counter of 250. -/
def crcAlive250 : State := crcHeld.modCrcContext 5 fun c => { c with lastAlive := some 250 }

/-- Words in the Drum. -/
def drumHolding (ws : List DrumWord) : State := { ingesting with drum := { ingesting.drum with words := ws } }

/-- Port 2 owns the memory in normal mode. -/
def memOwned (raised : List MemRequest) : State := (ingesting.setReg .MEM_ARB_MODE 1).modMem fun m => { m with owner := some 2, raised := raised }

/-- A unit whose internal reset was released. -/
def releasedState : State := ingesting.modSys fun y => { y with releasedAt := some 0 }

/-- A session of level 2 over Ethernet. -/
def serviceSession : Session :=
  ⟨7, ⟨0, 0xC0A80102, 4000, 0⟩, 2, true, List.replicate 16 1, List.replicate 16 2, none, 5, none, none, [], none, none, some 600000000000, 0⟩

/-- A record of the signal map: DMX port 1, slot 1, 8 bits, gain 1, to signal level 7 of the lamps. -/
def mapToLamp : Nat := 2 ^ 127 + 2 ^ 124 + 2 ^ 108 + 2 ^ 96 + 16384 * 2 ^ 75 + 7 * 2 ^ 14 + 2 ^ 13

/-- The same to register 64 of module 1 of link 3. -/
def mapToModule : Nat := 2 ^ 127 + 2 ^ 124 + 2 ^ 108 + 2 ^ 96 + 16384 * 2 ^ 75 + 2 * 2 ^ 54 + 3 * 1024 * 2 ^ 38 + 64 * 2 ^ 14

/-- The lamp grid and a signal map, port 1 live. -/
def mapState (records : List Nat) : State :=
  (ingesting.modLantern fun l => { l with gridOn := true }).modMap fun m => { m with
    oper := records, outputs := records.map fun _ => MapOutput.reset
    ports := modNth m.ports 1 fun d => { d with mode := 1, live := true, slots := [200] } }

/-- A module register write that waits for its interval. -/
def mapWaiting : State :=
  ((linkModule id).setReg .TWN_CLAIM 200).modMap fun m => { m with
    oper := [mapToModule], outputs := [{ MapOutput.reset with z := 5000, live := true, claiming := true, waits := true }] }

/-- An E1.31 packet of universe 5. -/
def sacn1 : SacnPacket := ⟨5, true, false, false, 0, 77, 9, 100, [1, 2]⟩

/-- Universe entry 3 enabled for universe 5 with its sources. -/
def universeState (sources : List SacnSource) : State :=
  (withRegs [(.DMX_UNIV_ENABLE 3, 1), (.DMX_UNIV_NUMBER 3, 5)]).modMap fun m => { m with universes := modNth m.universes 3 fun _ => ⟨sources, false⟩ }

/-- DMX port 4 in a mode with RDM and its dictionary transport on, one pass done. -/
def dmxState (mode : Nat) (f : DmxPort → DmxPort) : State :=
  (withRegs [(.DMX_RDM_ENABLE 4, 1), (.DMX_MODE 4, mode), (.DIC_RDM_IDP, 1)]).modMap fun m => { m with
    lastPass := some 3, ports := modNth m.ports 4 fun d => f { d with mode := mode } }

/-- A host request that waits for the line. -/
def rdmWaiting : RdmExchange := RdmExchange.make .request 0x112200000001 0x20 0x60 []

/-- Firmware's bridge entries set for module 1 of link 3. -/
def brgReady (f : BrgSession → BrgSession) : State :=
  (linkModule id).modBrg fun b => { b with sessions := [f { BrgSession.fresh 0xFFFF with link := 3, module := 1, addr := 64 }] }

/-- A claim word (R438). -/
def claimWord (claim state seq : Nat) : Nat :=
  let w := 13 * 2 ^ 28 + claim * 2 ^ 20 + state * 2 ^ 17 + seq * 2 ^ 8
  w + crcOf crc8 (beOctets 3 (w / 256))

/-- A unit in a Twin state with its claim. -/
def twinState (n : Nat) : State := (ingesting.setReg .TWN_STATE n).setReg .TWN_CLAIM 200

/-- The same with the mirror link up. -/
def mirroring (n : Nat) : State := (twinState n).setReg .TWN_MIR_STATE 2

/-- A Standby unit that has heard its partner. -/
def standbyState : State := (mirroring 4).modTwin fun t => { t with wordAt := some 0, beatAt := some 0, partnerState := 5 }

/-- A session of level 0 over Ethernet that has sent nothing since OPEN. -/
def openSession : Session :=
  ⟨7, ⟨0, 0xC0A80102, 4000, 0⟩, 0, false, List.replicate 16 1, List.replicate 16 2, none, 0, none, none, [], none, none, none, 0⟩

/-- The head of the next request of a session. -/
def headOf (x : Session) : IdpHead := ⟨x.source, x.number, x.lastSeq + 1, none, true⟩

/-- A unit that runs with one session. -/
def sessionState (x : Session) : State := (((ingesting.setReg .SYS_STATE 3).setReg .TWN_STATE 2).setReg .DIC_SESSIONS_OPEN 1).modIdp fun i => { i with sessions := [x] }

/-- The same with an installation key. -/
def keyedState : State := (sessionState openSession).modIdp fun i => { i with installKey := List.replicate 32 7 }

/-- KEEPALIVE of session 7 in octets. -/
def keepaliveMessage (seq : Nat) : List Octet := idpOctets 0x03 7 seq 0 [] none

/-- A session of a controller on DMX port 4. -/
def rdmSession : State :=
  { sessionState { openSession with source := ⟨1, 5, 0, 4⟩ } with
    dict := ((dmxState 1 id).setReg .SYS_STATE 3).dict, smap := (dmxState 1 id).smap }

/-- The row of LAN_TOTAL_LIMIT. -/
def totalRow : DictRow := ⟨0x9002, 0x9002, 0, 0, .u16, .rwo, .val 16000, [(1000, 16000)]⟩

/-- A session that writes the signal map, so far with some octets of 16. -/
def transferring (data : List Octet) : Session := { openSession with level := 1, transfer := some ⟨0xC000, 0, true, 16, data⟩ }

/-- An image of profile 2. -/
def savedImage : ProfileImage := ⟨2, 0, 1, 3, 0, 0, [], 0⟩

/-- A word of CHAIN_IN (R493). -/
def chainWord (addressed : Bool) (chain position low : Nat) : Nat :=
  let w := 11 * 2 ^ 60 + b2n addressed * 2 ^ 59 + chain * 2 ^ 48 + position * 2 ^ 40 + low * 2 ^ 8
  w + crcOf crc8 (beOctets 7 (w / 256))

/-- A unit without an address that has heard position 4 of chain 1. -/
def hearing : State := ingesting.modChain fun c => { c with heard := [⟨false, 0x0104, 77, false, 1, 0, 0, 5, 0⟩] }

/-- A unit at position 4 of chain 1. -/
def addressed : State := (ingesting.setReg .CHN_ADDRESS 0x0104).modUpdate fun u => { u with boot := some ⟨1, 0, 0, 0, 0x0104, 0, 0, 0, 0, []⟩ }

/-- The firmware runs and holds the backup of its downstream neighbour. -/
def backupHeld : State := (addressed.setReg .SYS_STATE 3).modChain fun c => { c with
  slots := [some ⟨1, 1, ⟨0x0105, 99, savedImage, []⟩⟩, none, none] }

/-- An update from upstream of five blocks, block 1 next, with its relays. -/
def runOf (relays : List Relay) : UpdateRun := ⟨1, 0, ⟨1234, 1, 9, 5, 0, 300, 3⟩, true, 1, relays⟩

/-- A unit in an update state. -/
def updating (state : Nat) (r : UpdateRun) : State := (releasedState.setReg .UPD_STATE state).modUpdate fun u => { u with
  boot := some ⟨1, state, 0, 0, 0, 0, 0, 0, 0, []⟩, run := some r }

/-- The same in RELAYING with its relays. -/
def relaying (relays : List Relay) : State := updating 1 (runOf relays)

/-- A healthy unit on a trial image. -/
def onTrial : State :=
  let s := [(Reg.CHN_STATE, 2), (.NET_LINK_STATE 1, 1), (.BEL_STATE, 2), (.MEM_STATE, 2), (.UPD_STATE, 4)].foldl
    (fun s p => s.setReg p.1 p.2) releasedState
  (s.modSys fun y => { y with lampSeen := true, role := 1 }).modUpdate fun u => { u with
    boot := some ⟨1, 4, 0, 0, 0, 0, 0, 0, 0, []⟩, running := [[1, 2]], healthEnd := some 70 }

end Sys2Proof.Tests
end

