-- ==== Sys2Proof/Tests/Slice0.lean ====
section
/-! SUPPORT. Tests: ill-formed commands are refused, worked examples of spec/, and for each statement a state and operands that meet its premises. -/

namespace Sys2Proof.Tests

open Machine

-- one theorem at a time: each takes a thread of its own otherwise
set_option Elab.async false

/-! The standard checks of R368 over the nine ASCII octets 1 to 9 -/

/-- The nine octets the check values of R124, R203, R238, R277 and R368 are given over. -/
def nineDigits : List Octet := [0x31, 0x32, 0x33, 0x34, 0x35, 0x36, 0x37, 0x38, 0x39]

theorem test_check_values : crcOf crc8 nineDigits = 0xDF ∧ crcOf crc16 nineDigits = 0x29B1 ∧ crcOf crc32c nineDigits = 0xE3069283 ∧
    crcOf crc64 nineDigits = 0x995DC9BBDF1939FA ∧ crcOf crc32 nineDigits = 0xCBF43926 := by decide +kernel

/-! Worked examples of spec/ -/

/-- 06_cupola_composition.md, one pixel at Halvard Arena: layer 1 over layer 0. -/
theorem test_compose_example : mul12 3084 4095 = 3084 ∧ mul12 3212 3084 + mul12 1750 1011 = 2851 ∧ mul12 642 3084 + mul12 1200 1011 = 779 ∧
    mul12 800 1011 = 198 ∧ expand8 200 = 3212 ∧ expand8 192 = 3084 := by decide

theorem test_blend_example : (blendComponent 1 3212 3084 4095 1750).1 = 2851 ∧ (blendComponent 1 642 3084 4095 1200).1 = 779 ∧
    (blendComponent 1 0 3084 4095 800).1 = 198 := by decide

/-- 10_lantern_drive.md, the exit route: transfer, dither and spread of channel 68. -/
theorem test_lamp_example : lampTransfer 0 65535 3000 = 768188 ∧ lampOnTicks 768188 5 = 48012 ∧ segmentTicks 48012 0 = 751 ∧
    segmentTicks 48012 1 = 750 ∧ ((List.range 64).filter fun g => segmentTicks 48012 g == 751) = [0, 4, 8, 16, 20, 24, 32, 36, 40, 48, 52, 56] := by
  decide +kernel

/-- 10_lantern_drive.md: derating at 120 and 131 degrees. -/
theorem test_derating_example : deratingOf 1760 2160 1920 = 39321 ∧ 768188 * 39321 / 65536 = 460905 ∧ deratingOf 1760 2160 (16 * 131) = 10485 := by decide

/-- 12_memory_arbiter.md, the 4:3 crop: a pitch of 17 bricks folds onto the bank of row 0, one of 18 does not. -/
theorem test_pitch_example : pitchFold 17 = 0 ∧ pitchFold (2 * 18) = 6 ∧ pitchFold (15 * 18) = 15 ∧ pitchSearch 16 17 = 18 ∧ pitchSearch 16 12 = 12 := by
  decide +kernel

/-- 13_bridge.md, a canopy dimmer: square, gain, offset, slot. -/
theorem test_map_example : curveValue 1 51455 (fun _ => 0) = 40400 ∧ (40400 * 12288 + 8192) / 16384 + 1000 = 31300 ∧ (31300 * 255 + 32767) / 65535 = 122 := by
  decide

/-- 05_belfry_scheduler.md, a chase: a step with d = 5 goes in third, and the entry behind it is shortened. -/
theorem test_delay_example :
    insertDelay 9 5 [⟨3, 1⟩, ⟨0, 2⟩, ⟨4, 3⟩, ⟨13, 4⟩] = [⟨3, 1⟩, ⟨0, 2⟩, ⟨2, 9⟩, ⟨2, 3⟩, ⟨13, 4⟩] ∧
    tickList 3 [⟨3, 1⟩, ⟨0, 2⟩, ⟨2, 9⟩, ⟨2, 3⟩, ⟨13, 4⟩] = ([1, 2], [⟨2, 9⟩, ⟨2, 3⟩, ⟨13, 4⟩]) ∧
    tickList 2 [⟨2, 9⟩, ⟨2, 3⟩, ⟨13, 4⟩] = ([9], [⟨2, 3⟩, ⟨13, 4⟩]) := by decide

/-- 06_cupola_composition.md: the copy word of the composed pixel in epoch 0x1A2B. -/
theorem test_copy_word_example : copyWord false 0x1A2B ⟨[2851, 779, 198], 1, false, false⟩ = 0xB2330B0C61001A2B := by decide

/-! One step each -/

/-- A step takes the front command and leaves the rest of the queue (log entry 3). -/
theorem test_step_takes_front : (match step { State.reset with pending := [.spiStatus 0, .refreshDue 0] } with
    | .next t => t.pending == [.refreshDue 0]
    | _ => false) = true := by decide +kernel

/-- With nothing waiting a clock passes, and each turret gains one increment (R79). -/
theorem test_idle_tick : (match step State.reset with
    | .next t => t.ticks == 1 && (t.clock.turrets.map Turret.time) == List.replicate 3 (2 ^ 32 + 0x47AE147B)
    | _ => false) = true := by decide +kernel

/-- A closed session cannot change an element (R468). -/
theorem test_closed_session : (match exec (.registerWrite 0 7 ⟨0xA002, 0, 3, [60, 0]⟩) State.reset with
    | .next t => t.out == [.reply 6] && t.dict == State.reset.dict
    | _ => false) = true := by decide +kernel

/-! Commands beyond the widths of their fields -/

theorem test_wf_refuses_1 : ([
  .rxFrame 0 2 ⟨[], 0, false⟩ .clean,
  .rxFrame 0 0 ⟨List.replicate 16385 0, 0, false⟩ .clean,
  .rxFrame 0 0 ⟨[], 2 ^ 32, false⟩ .clean,
  .netmRxFrame 0 ⟨List.replicate 16385 0, 0, false⟩ .clean,
  .egressTransmit 0 3,
  .gateEntryExpiry 0 3,
  .gclChangeRequest 0 65536 0,
  .gclChangeRequest 0 0 3,
  .gclChangeCancel 0 65536 0,
  .gclChangeCancel 0 0 3,
  .gclSwap 0 3,
  .portRestart 0 65536 0 false 0,
  .portRestart 0 0 3 false 0,
  .portRestart 0 0 0 false (2 ^ 64),
  .linkUp 0 3,
  .linkDown 0 3 false,
  .moduleDetect 0 2,
  .fecWindowEnd 0 3 0 0 0,
  .streamTableChange 0 65536 0 0 0,
  .streamTableChange 0 0 128 0 0,
  .streamTableChange 0 0 0 256 0,
  .streamTableChange 0 0 0 0 (2 ^ 64),
  .igmpQuery 0 3,
  .syncReceive 0 ⟨2, 0, 0, 0, 0, 0, 0⟩,
  .syncReceive 0 ⟨0, 256, 0, 0, 0, 0, 0⟩,
  .syncReceive 0 ⟨0, 0, 2 ^ 64, 0, 0, 0, 0⟩,
  .announceReceive 0 ⟨2, 0, 0, 0, 0, 0, 0, 0, 0, 0⟩,
  .announceReceive 0 ⟨0, 256, 0, 0, 0, 0, 0, 0, 0, 0⟩,
  .announceReceive 0 ⟨0, 0, 2 ^ 64, 0, 0, 0, 0, 0, 0, 0⟩,
  .announceReceive 0 ⟨0, 0, 0, 256, 0, 0, 0, 0, 0, 0⟩,
  .announceReceive 0 ⟨0, 0, 0, 0, 256, 0, 0, 0, 0, 0⟩,
  .announceReceive 0 ⟨0, 0, 0, 0, 0, 256, 0, 0, 0, 0⟩,
  .announceReceive 0 ⟨0, 0, 0, 0, 0, 0, 65536, 0, 0, 0⟩,
  .announceReceive 0 ⟨0, 0, 0, 0, 0, 0, 0, 256, 0, 0⟩,
  .announceReceive 0 ⟨0, 0, 0, 0, 0, 0, 0, 0, 65536, 0⟩,
  .delayRespReceive 0 ⟨2, 0, false, 0, 0, 0, 0, 0, 0⟩,
  .delayRespReceive 0 ⟨0, 256, false, 0, 0, 0, 0, 0, 0⟩,
  .pdelayReqReceive 0 2 0,
  .pdelayReqReceive 0 0 (2 ^ 32),
  .reacquireSchedule 0 65536 0] : List Instr).all (fun c => c.wellFormed == false) = true := by decide +kernel

theorem test_wf_refuses_2 : ([
  .reacquireSchedule 0 0 (2 ^ 96),
  .reacquireCancel 0 65536,
  .ptpClientRestart 0 65536 0 0,
  .ptpClientRestart 0 0 65536 0,
  .ptpClientRestart 0 0 0 (2 ^ 64),
  .turretMismatch 0 3 0 0,
  .turretMismatch 0 0 (2 ^ 96) 0,
  .comparatorFire 0 16,
  .cmpCommit 0 65536 0,
  .cmpCommit 0 0 16,
  .bellPulseEnd 0 16,
  .bellEdge 0 8 false 0,
  .bellEdge 0 0 false (2 ^ 64),
  .capPop 0 65536 0,
  .capPop 0 0 8,
  .wsfPacket 0 ⟨128, List.replicate 48 0, []⟩,
  .wsfPacket 0 ⟨0, List.replicate 47 0, []⟩,
  .fenceRelease 0 ⟨128, List.replicate 48 0, []⟩,
  .fenceAbandon 0 ⟨128, List.replicate 48 0, []⟩,
  .layerTimeout 0 8,
  .st2110Packet 0 ⟨128, 0, 0, []⟩,
  .st2110Packet 0 ⟨0, 2 ^ 32, 0, []⟩,
  .st2110Packet 0 ⟨0, 0, 2 ^ 32, []⟩,
  .layerEnable 0 65536 0 0,
  .layerEnable 0 0 8 0,
  .layerEnable 0 0 0 (2 ^ 64),
  .frameCreditWaitEnd 0 8,
  .dispatch 0 16,
  .operationComplete 0 16 ⟨[], [], [], []⟩,
  .squashBarrier 0 (2 ^ 64),
  .watchdogTrip 0 16,
  .belTraceRead 0 65536,
  .belTraceRewind 0 65536 0,
  .belTraceRewind 0 0 (2 ^ 64),
  .belTraceMark 0 65536 0,
  .belTraceMark 0 0 (2 ^ 64),
  .belStatsWindow 0 65536 0,
  .belStatsWindow 0 0 (2 ^ 64),
  .orderChangeRequest 0 65536,
  .orderChangeCancel 0 65536] : List Instr).all (fun c => c.wellFormed == false) = true := by decide +kernel

theorem test_wf_refuses_3 : ([
  .finialHeartbeat 0 ⟨List.replicate 55 0, []⟩,
  .finialContent 0 ⟨List.replicate 55 0, []⟩,
  .finialAssert 0 ⟨List.replicate 55 0, []⟩,
  .finialRelease 0 ⟨List.replicate 55 0, []⟩,
  .finialDisable 0 65536,
  .finialKeyWrite 0 65536 [],
  .finialKeyWrite 0 0 (List.replicate 4061 0),
  .previewTake 0 65536 0,
  .previewTake 0 0 (2 ^ 64),
  .cupPreviewRead 0 65536,
  .calRefreshDue 0 64,
  .reblendPassStart 0 64,
  .reblendPassComplete 0 64,
  .calFetch 0 64 0 [],
  .calFetch 0 0 33 [],
  .calSpareCommit 0 65536 0,
  .calSpareCommit 0 0 (2 ^ 64),
  .moduleZoneWrite 0 65536 0 0 0,
  .moduleZoneWrite 0 0 64 0 0,
  .moduleZoneWrite 0 0 0 33 0,
  .moduleZoneWrite 0 0 0 0 64,
  .recalPass2Complete 0 65536 [],
  .recalAbort 0 65536,
  .trimMeasure 0 65536 0,
  .trimMeasure 0 0 (2 ^ 64),
  .mapChangeRequest 0 65536,
  .mapChangeCancel 0 65536,
  .strikeLeave 0 64 0,
  .strikeLeave 0 0 (2 ^ 64),
  .modeChangeRequest 0 65536,
  .modeChangeCancel 0 65536,
  .linkFrameStart 0 64 0 [] 0 0 false,
  .linkFrameStart 0 0 4 [] 0 0 false,
  .blockLockGained 0 64,
  .blockLockLost 0 64 0,
  .linkLockHeld 0 64,
  .enumEndReceive 0 64 [],
  .enumEndReceive 0 0 (List.replicate 9 0),
  .enumTimeout 0 64,
  .echoReplyReceive 0 64 [] 0] : List Instr).all (fun c => c.wellFormed == false) = true := by decide +kernel

theorem test_wf_refuses_4 : ([
  .echoReplyReceive 0 0 (List.replicate 9 0) 0,
  .retrainWaitEnd 0 64,
  .remeasureDue 0 64,
  .dackReceive 0 64 [],
  .dackReceive 0 0 (List.replicate 9 0),
  .ackTimeout 0 64,
  .reqReceive 0 64 [],
  .reqReceive 0 0 (List.replicate 9 0),
  .upFrameEof 0 64 [] [] [],
  .upFrameEof 0 0 (List.replicate 9 0) [] [],
  .upFrameEof 0 0 [] [] (List.replicate 9 0),
  .readDataResponse 0 64 0 0 0 [],
  .readDataResponse 0 0 33 0 0 [],
  .readDataResponse 0 0 0 256 0 [],
  .readDataResponse 0 0 0 0 256 [],
  .writeErrorResponse 0 64 0 0 0 0 0,
  .writeErrorResponse 0 0 33 0 0 0 0,
  .writeErrorResponse 0 0 0 256 0 0 0,
  .writeErrorResponse 0 0 0 0 (2 ^ 48) 0 0,
  .writeErrorResponse 0 0 0 0 0 4096 0,
  .writeErrorResponse 0 0 0 0 0 0 256,
  .lockResponse 0 64 0 0 0,
  .lockResponse 0 0 33 0 0,
  .lockResponse 0 0 0 256 0,
  .lockResponse 0 0 0 0 256,
  .unlockResponse 0 64 0 0 0,
  .unlockResponse 0 0 33 0 0,
  .unlockResponse 0 0 0 256 0,
  .unlockResponse 0 0 0 0 256,
  .faultRecords 0 64 0 [],
  .faultRecords 0 0 33 [],
  .lockTimeLimit 0 64,
  .channelUntested 0 512,
  .cueGo 0 65536 0,
  .cueGo 0 0 (2 ^ 64),
  .cueStop 0 65536 0,
  .cueStop 0 0 65536,
  .channelEnable 0 65536 0 0,
  .channelEnable 0 0 512 0,
  .channelEnable 0 0 0 (2 ^ 64)] : List Instr).all (fun c => c.wellFormed == false) = true := by decide +kernel

theorem test_wf_refuses_5 : ([
  .groupClear 0 65536 0 0,
  .groupClear 0 0 64 0,
  .groupClear 0 0 0 (2 ^ 64),
  .groupRetry 0 64,
  .ocuEnableWrite 0 65536 0,
  .ocuEnableWrite 0 0 (2 ^ 64),
  .controlSramError 0 0 (2 ^ 48) 0 false false false,
  .controlSramError 0 0 0 2 false false false,
  .crcClaim 0 65536 0 0,
  .crcClaim 0 0 8 0,
  .crcClaim 0 0 0 (2 ^ 64),
  .crcPreset 0 65536 0 0,
  .crcPreset 0 0 8 0,
  .crcPreset 0 0 0 (2 ^ 64),
  .crcParameterWrite 0 65536 0 0 0,
  .crcParameterWrite 0 0 8 0 0,
  .crcParameterWrite 0 0 0 256 0,
  .crcParameterWrite 0 0 0 0 (2 ^ 64),
  .crcRunningWrite 0 65536 0 0,
  .crcRunningWrite 0 0 8 0,
  .crcRunningWrite 0 0 0 (2 ^ 64),
  .crcFeed 0 65536 0 [],
  .crcFeed 0 0 8 [],
  .crcAliveIn 0 65536 0 0,
  .crcAliveIn 0 0 8 0,
  .crcAliveIn 0 0 0 (2 ^ 64),
  .eventPost 0 65536 0 [],
  .eventPost 0 0 8 [],
  .drmPop 0 65536,
  .drmPopBlock 0 65536,
  .drmFlush 0 65536 0,
  .drmFlush 0 0 (2 ^ 64),
  .faultSummaryClear 0 65536 0,
  .faultSummaryClear 0 0 (2 ^ 64),
  .memRequestRaise 0 9,
  .dramReadError 0 9 0 false none,
  .dramReadError 0 0 (2 ^ 48) false none,
  .signalMapChangeRequest 0 65536,
  .signalMapChangeCancel 0 65536,
  .sacnPacket 0 ⟨65536, true, false, false, 0, 0, 0, 0, []⟩] : List Instr).all (fun c => c.wellFormed == false) = true := by decide +kernel

theorem test_wf_refuses_6 : ([
  .sacnPacket 0 ⟨0, true, false, false, 0, 0, 256, 0, []⟩,
  .sacnPacket 0 ⟨0, true, false, false, 0, 0, 0, 256, []⟩,
  .sacnPacket 0 ⟨0, true, false, false, 0, 0, 0, 0, List.replicate 513 0⟩,
  .sacnPacket 0 ⟨0, true, false, false, 0, 0, 0, 0, [256]⟩,
  .sacnSourceLoss 0 64,
  .dmxTxPacket 0 8,
  .dmxRxPacket 0 8 0 [] false,
  .dmxRxPacket 0 0 256 [] false,
  .dmxRxLoss 0 8,
  .dmxModeWrite 0 65536 0 0,
  .dmxModeWrite 0 0 8 0,
  .dmxModeWrite 0 0 0 (2 ^ 64),
  .rdmRequest 0 65536 0 0 0 0 [],
  .rdmRequest 0 0 8 0 0 0 [],
  .rdmRequest 0 0 0 (2 ^ 48) 0 0 [],
  .rdmRequest 0 0 0 0 256 0 [],
  .rdmRequest 0 0 0 0 0 65536 [],
  .rdmResponseReceive 0 8 ⟨true, 0, 0, 0, 0, 0, 0, []⟩,
  .rdmResponseReceive 0 0 ⟨true, 2 ^ 48, 0, 0, 0, 0, 0, []⟩,
  .rdmResponseReceive 0 0 ⟨true, 0, 2 ^ 48, 0, 0, 0, 0, []⟩,
  .rdmResponseReceive 0 0 ⟨true, 0, 0, 256, 0, 0, 0, []⟩,
  .rdmResponseReceive 0 0 ⟨true, 0, 0, 0, 256, 0, 0, []⟩,
  .rdmResponseReceive 0 0 ⟨true, 0, 0, 0, 0, 256, 0, []⟩,
  .rdmResponseReceive 0 0 ⟨true, 0, 0, 0, 0, 0, 65536, []⟩,
  .rdmResponseReceive 0 0 ⟨true, 0, 0, 0, 0, 0, 0, List.replicate 232 0⟩,
  .rdmResponseTimeout 0 8,
  .dmxRdmDiscover 0 65536 0 0,
  .dmxRdmDiscover 0 0 8 0,
  .dmxRdmDiscover 0 0 0 (2 ^ 64),
  .rdmAbort 0 65536 0 0,
  .rdmAbort 0 0 8 0,
  .rdmAbort 0 0 0 (2 ^ 64),
  .rdmResponderRequest 0 8 ⟨true, 0, 0, 0, 0, 0, 0, []⟩ false,
  .rdmResponderRequest 0 0 ⟨true, 2 ^ 48, 0, 0, 0, 0, 0, []⟩ false,
  .brgRead 0 65536,
  .brgWrite 0 65536 [],
  .brgLockSet 0 65536,
  .brgUnlock 0 65536,
  .brgAbort 0 65536 0,
  .brgAbort 0 0 (2 ^ 64)] : List Instr).all (fun c => c.wellFormed == false) = true := by decide +kernel

theorem test_wf_refuses_7 : ([
  .brgPweClear 0 65536 0,
  .brgPweClear 0 0 (2 ^ 64),
  .claimWordReceive 0 (2 ^ 128),
  .mirrorAck 0 ⟨false, 256, 0, 0, []⟩,
  .mirrorAck 0 ⟨false, 0, 2 ^ 32, 0, []⟩,
  .mirrorHeartbeat 0 ⟨false, 256, 0, 0, []⟩,
  .mirrorAdmit 0 ⟨false, 256, 0, 0, []⟩,
  .mirrorAnchor 0 ⟨false, 256, 0, 0, []⟩,
  .linkSig 0 ⟨false, 256, 0, 0, []⟩,
  .frameSig 0 ⟨false, 256, 0, 0, []⟩,
  .dictWrite 0 ⟨false, 256, 0, 0, []⟩,
  .dictForward 0 ⟨false, 256, 0, 0, []⟩,
  .dictStatus 0 ⟨false, 256, 0, 0, []⟩,
  .statePush 0 ⟨false, 256, 0, 0, []⟩,
  .mirrorBulk 0 ⟨false, 256, 0, 0, []⟩,
  .mirrorSync 0 ⟨false, 256, 0, 0, []⟩,
  .twnRejoin 0 65536 0,
  .twnRejoin 0 0 (2 ^ 64),
  .idpOpen 0 ⟨⟨3, 0, 0, 0⟩, 0, 0, none, true⟩ [],
  .idpOpen 0 ⟨⟨0, 0, 0, 0⟩, 65536, 0, none, true⟩ [],
  .idpOpen 0 ⟨⟨0, 0, 0, 0⟩, 0, 2 ^ 32, none, true⟩ [],
  .idpOpen 0 ⟨⟨0, 0, 0, 0⟩, 0, 0, some [], true⟩ [],
  .idpOpen 0 ⟨⟨0, 0, 0, 0⟩, 0, 0, none, true⟩ (List.replicate 4061 0),
  .idpClose 0 ⟨⟨3, 0, 0, 0⟩, 0, 0, none, true⟩,
  .idpKeepalive 0 ⟨⟨3, 0, 0, 0⟩, 0, 0, none, true⟩,
  .authOperator 0 ⟨⟨3, 0, 0, 0⟩, 0, 0, none, true⟩ [],
  .authOperator 0 ⟨⟨0, 0, 0, 0⟩, 0, 0, none, true⟩ (List.replicate 4061 0),
  .challenge 0 ⟨⟨3, 0, 0, 0⟩, 0, 0, none, true⟩ 0 [],
  .challenge 0 ⟨⟨0, 0, 0, 0⟩, 0, 0, none, true⟩ 256 [],
  .challenge 0 ⟨⟨0, 0, 0, 0⟩, 0, 0, none, true⟩ 0 (List.replicate 4061 0),
  .authService 0 ⟨⟨3, 0, 0, 0⟩, 0, 0, none, true⟩ [],
  .authService 0 ⟨⟨0, 0, 0, 0⟩, 0, 0, none, true⟩ (List.replicate 4061 0),
  .idpRead 0 ⟨⟨3, 0, 0, 0⟩, 0, 0, none, true⟩ [],
  .idpRead 0 ⟨⟨0, 0, 0, 0⟩, 0, 0, none, true⟩ (List.replicate 33 (0, 0)),
  .idpWrite 0 ⟨⟨3, 0, 0, 0⟩, 0, 0, none, true⟩ [],
  .idpWrite 0 ⟨⟨0, 0, 0, 0⟩, 0, 0, none, true⟩ (List.replicate 33 ⟨0, 0, 0, []⟩),
  .idpWrite 0 ⟨⟨0, 0, 0, 0⟩, 0, 0, none, true⟩ [⟨65536, 0, 0, []⟩],
  .registerWrite 0 65536 ⟨0, 0, 0, []⟩,
  .registerWrite 0 0 ⟨65536, 0, 0, []⟩,
  .registerWrite 0 0 ⟨0, 256, 0, []⟩] : List Instr).all (fun c => c.wellFormed == false) = true := by decide +kernel

theorem test_wf_refuses_8 : ([
  .registerWrite 0 0 ⟨0, 0, 256, []⟩,
  .domainRead 0 ⟨⟨3, 0, 0, 0⟩, 0, 0, none, true⟩ 0 0,
  .domainRead 0 ⟨⟨0, 0, 0, 0⟩, 0, 0, none, true⟩ 65536 0,
  .domainRead 0 ⟨⟨0, 0, 0, 0⟩, 0, 0, none, true⟩ 0 256,
  .domainWrite 0 ⟨⟨3, 0, 0, 0⟩, 0, 0, none, true⟩ 0 0 0,
  .domainWrite 0 ⟨⟨0, 0, 0, 0⟩, 0, 0, none, true⟩ 65536 0 0,
  .domainWrite 0 ⟨⟨0, 0, 0, 0⟩, 0, 0, none, true⟩ 0 256 0,
  .domainWrite 0 ⟨⟨0, 0, 0, 0⟩, 0, 0, none, true⟩ 0 0 (2 ^ 32),
  .domainSegment 0 ⟨⟨3, 0, 0, 0⟩, 0, 0, none, true⟩ 0 [],
  .domainSegment 0 ⟨⟨0, 0, 0, 0⟩, 0, 0, none, true⟩ (2 ^ 32) [],
  .domainEnd 0 ⟨⟨3, 0, 0, 0⟩, 0, 0, none, true⟩ none,
  .domainAbort 0 ⟨⟨3, 0, 0, 0⟩, 0, 0, none, true⟩,
  .rdmIdpSet 0 8 0 0 0 [] false,
  .rdmIdpSet 0 0 (2 ^ 48) 0 0 [] false,
  .rdmIdpSet 0 0 0 (2 ^ 48) 0 [] false,
  .rdmIdpSet 0 0 0 0 256 [] false,
  .rdmIdpSet 0 0 0 0 0 (List.replicate 4097 0) false,
  .rdmGetEui 0 8 0 0 0,
  .rdmGetEui 0 0 (2 ^ 48) 0 0,
  .rdmGetEui 0 0 0 (2 ^ 48) 0,
  .rdmGetEui 0 0 0 0 256,
  .rdmGetIdentity 0 8 0 0 0,
  .rdmGetIdentity 0 0 (2 ^ 48) 0 0,
  .rdmGetIdentity 0 0 0 (2 ^ 48) 0,
  .rdmGetIdentity 0 0 0 0 256,
  .spiRequest 0 (List.replicate 4097 0),
  .dicProfileSave 0 65536 0,
  .dicProfileSave 0 0 (2 ^ 64),
  .dicProfileCreate 0 65536 0,
  .dicProfileCreate 0 0 (2 ^ 64),
  .dicRestart 0 65536 0,
  .dicRestart 0 0 (2 ^ 64),
  .dicInstallKey 0 65536 [],
  .dicInstallKey 0 0 (List.replicate 4061 0),
  .dicServiceKeyIntegrator 0 65536 [],
  .dicServiceKeyIntegrator 0 0 (List.replicate 4061 0),
  .chainInWord 0 (2 ^ 128),
  .chainDiscover 0 ⟨true, false, 2 ^ 48, 0, 0, 0⟩ 0 0 0 0,
  .chainDiscover 0 ⟨true, false, 0, 0, 2 ^ 64, 0⟩ 0 0 0 0,
  .chainDiscover 0 ⟨true, false, 0, 0, 0, 2 ^ 64⟩ 0 0 0 0] : List Instr).all (fun c => c.wellFormed == false) = true := by decide +kernel

theorem test_wf_refuses_9 : ([
  .chainDiscover 0 ⟨true, false, 0, 0, 0, 0⟩ 256 0 0 0,
  .chainDiscover 0 ⟨true, false, 0, 0, 0, 0⟩ 0 256 0 0,
  .chainDiscover 0 ⟨true, false, 0, 0, 0, 0⟩ 0 0 256 0,
  .chainDiscover 0 ⟨true, false, 0, 0, 0, 0⟩ 0 0 0 (2 ^ 32),
  .discoverBack 0 ⟨true, false, 2 ^ 48, 0, 0, 0⟩ 0 0,
  .discoverBack 0 ⟨true, false, 0, 0, 0, 0⟩ (2 ^ 32) 0,
  .discoverBack 0 ⟨true, false, 0, 0, 0, 0⟩ 0 (2 ^ 48),
  .chnAddrAccept 0 65536 0,
  .chnAddrAccept 0 0 (2 ^ 64),
  .backupRequest 0 ⟨true, false, 2 ^ 48, 0, 0, 0⟩ 0 0 [],
  .backupRequest 0 ⟨true, false, 0, 0, 0, 0⟩ (2 ^ 48) 0 [],
  .backupRequest 0 ⟨true, false, 0, 0, 0, 0⟩ 0 0 (List.replicate 66 0),
  .backupData 0 ⟨true, false, 2 ^ 48, 0, 0, 0⟩ 0 0 [],
  .backupData 0 ⟨true, false, 0, 0, 0, 0⟩ (2 ^ 32) 0 [],
  .backupData 0 ⟨true, false, 0, 0, 0, 0⟩ 0 (2 ^ 32) [],
  .backupAck 0 ⟨true, false, 2 ^ 48, 0, 0, 0⟩ 0 0,
  .backupAck 0 ⟨true, false, 0, 0, 0, 0⟩ (2 ^ 32) 0,
  .backupAck 0 ⟨true, false, 0, 0, 0, 0⟩ 0 256,
  .updStartCommit 0 65536 0,
  .updStartCommit 0 0 (2 ^ 64),
  .imageOffer 0 ⟨true, false, 2 ^ 48, 0, 0, 0⟩ 0 0 0 0 0 0,
  .imageOffer 0 ⟨true, false, 0, 0, 0, 0⟩ 65536 0 0 0 0 0,
  .imageOffer 0 ⟨true, false, 0, 0, 0, 0⟩ 0 (2 ^ 32) 0 0 0 0,
  .imageOffer 0 ⟨true, false, 0, 0, 0, 0⟩ 0 0 65536 0 0 0,
  .imageOffer 0 ⟨true, false, 0, 0, 0, 0⟩ 0 0 0 (2 ^ 64) 0 0,
  .imageOffer 0 ⟨true, false, 0, 0, 0, 0⟩ 0 0 0 0 65536 0,
  .imageOffer 0 ⟨true, false, 0, 0, 0, 0⟩ 0 0 0 0 0 256,
  .offerReply 0 ⟨true, false, 2 ^ 48, 0, 0, 0⟩ 0,
  .offerReply 0 ⟨true, false, 0, 0, 0, 0⟩ 256,
  .imageBlock 0 ⟨true, false, 2 ^ 48, 0, 0, 0⟩ 0 0 [] false,
  .imageBlock 0 ⟨true, false, 0, 0, 0, 0⟩ (2 ^ 32) 0 [] false,
  .imageBlock 0 ⟨true, false, 0, 0, 0, 0⟩ 0 (2 ^ 32) [] false,
  .blockAck 0 ⟨true, false, 2 ^ 48, 0, 0, 0⟩ 0 0,
  .blockAck 0 ⟨true, false, 0, 0, 0, 0⟩ (2 ^ 32) 0,
  .blockAck 0 ⟨true, false, 0, 0, 0, 0⟩ 0 256,
  .chainAbort 0 ⟨true, false, 2 ^ 48, 0, 0, 0⟩,
  .updAbort 0 65536 0,
  .updAbort 0 0 (2 ^ 64),
  .updConfirm 0 65536 0,
  .updConfirm 0 0 (2 ^ 64)] : List Instr).all (fun c => c.wellFormed == false) = true := by decide +kernel

theorem test_wf_refuses_10 : ([
  .updReject 0 65536 0,
  .updReject 0 0 (2 ^ 64),
  .imageFetch 0 ⟨true, false, 2 ^ 48, 0, 0, 0⟩ 0,
  .imageFetch 0 ⟨true, false, 0, 0, 0, 0⟩ (2 ^ 48),
  .railFault 0 16 0,
  .railFault 0 0 256,
  .serdesPllLoss 0 3,
  .internalResetRelease 0 256 false,
  .memTrainingDone 0 false 2,
  .dmxTxPacketEnd 0 8,
  .rdmAckTimerExpiry 0 8,
  .serdesPllLock 0 3] : List Instr).all (fun c => c.wellFormed == false) = true := by decide +kernel

theorem test_wf_refuses_long : Instr.wellFormed (.recalPass2Complete 0 0 (List.replicate 4194305 0)) = false ∧
    Instr.wellFormed (.upFrameEof 0 0 [] (List.replicate 8388609 0) []) = false ∧
    Instr.wellFormed (.readDataResponse 0 0 0 0 0 (List.replicate 8388609 0)) = false ∧
    Instr.wellFormed (.faultRecords 0 0 0 (List.replicate 8388609 0)) = false ∧
    Instr.wellFormed (.crcFeed 0 0 0 (List.replicate 8388609 0)) = false ∧
    Instr.wellFormed (.rdmRequest 0 0 0 0 0 0 (List.replicate 8388609 0)) = false ∧
    Instr.wellFormed (.brgWrite 0 0 (List.replicate 8388609 0)) = false ∧
    Instr.wellFormed (.domainSegment 0 ⟨⟨0, 0, 0, 0⟩, 0, 0, none, true⟩ 0 (List.replicate 8388609 0)) = false ∧
    Instr.wellFormed (.backupData 0 ⟨true, false, 0, 0, 0, 0⟩ 0 0 (List.replicate 8388609 0)) = false ∧
    Instr.wellFormed (.imageBlock 0 ⟨true, false, 0, 0, 0, 0⟩ 0 0 (List.replicate 8388609 0) false) = false := by
  simp only [Instr.wellFormed, List.length_replicate]; decide

theorem test_wf_takes_1 : ([
  .rxFrame 0 0 ⟨[], 0, false⟩ .clean,
  .netmRxFrame 0 ⟨[], 0, false⟩ .clean,
  .egressTransmit 0 0,
  .gateEntryExpiry 0 0,
  .gclChangeRequest 0 0 0,
  .gclChangeCancel 0 0 0,
  .gclSwap 0 0,
  .portRestart 0 0 0 false 0,
  .linkUp 0 0,
  .linkDown 0 0 false,
  .moduleDetect 0 0,
  .fecWindowEnd 0 0 0 0 0,
  .streamTableChange 0 0 0 0 0,
  .igmpQuery 0 0,
  .syncReceive 0 ⟨0, 0, 0, 0, 0, 0, 0⟩,
  .announceReceive 0 ⟨0, 0, 0, 0, 0, 0, 0, 0, 0, 0⟩,
  .delayRespReceive 0 ⟨0, 0, false, 0, 0, 0, 0, 0, 0⟩,
  .pdelayReqReceive 0 0 0,
  .reacquireSchedule 0 0 0,
  .reacquireCancel 0 0,
  .ptpClientRestart 0 0 0 0,
  .turretMismatch 0 0 0 0,
  .comparatorFire 0 0,
  .cmpCommit 0 0 0,
  .bellPulseEnd 0 0,
  .bellEdge 0 0 false 0,
  .capPop 0 0 0,
  .wsfPacket 0 ⟨0, List.replicate 48 0, []⟩,
  .fenceRelease 0 ⟨0, List.replicate 48 0, []⟩,
  .fenceAbandon 0 ⟨0, List.replicate 48 0, []⟩,
  .layerTimeout 0 0,
  .st2110Packet 0 ⟨0, 0, 0, []⟩,
  .layerEnable 0 0 0 0,
  .frameCreditWaitEnd 0 0,
  .dispatch 0 0,
  .operationComplete 0 0 ⟨[], [], [], []⟩,
  .squashBarrier 0 0,
  .watchdogTrip 0 0,
  .belTraceRead 0 0,
  .belTraceRewind 0 0 0,
  .belTraceMark 0 0 0,
  .belStatsWindow 0 0 0,
  .orderChangeRequest 0 0,
  .orderChangeCancel 0 0,
  .finialHeartbeat 0 ⟨List.replicate 56 0, []⟩,
  .finialContent 0 ⟨List.replicate 56 0, []⟩,
  .finialAssert 0 ⟨List.replicate 56 0, []⟩,
  .finialRelease 0 ⟨List.replicate 56 0, []⟩,
  .finialDisable 0 0,
  .finialKeyWrite 0 0 [],
  .previewTake 0 0 0,
  .cupPreviewRead 0 0,
  .calRefreshDue 0 0,
  .reblendPassStart 0 0,
  .reblendPassComplete 0 0,
  .calFetch 0 0 0 [],
  .calSpareCommit 0 0 0,
  .moduleZoneWrite 0 0 0 0 0,
  .recalPass2Complete 0 0 [],
  .recalAbort 0 0] : List Instr).all (fun c => c.wellFormed == true) = true := by decide +kernel

theorem test_wf_takes_2 : ([
  .trimMeasure 0 0 0,
  .mapChangeRequest 0 0,
  .mapChangeCancel 0 0,
  .strikeLeave 0 0 0,
  .modeChangeRequest 0 0,
  .modeChangeCancel 0 0,
  .linkFrameStart 0 0 0 [] 0 0 false,
  .blockLockGained 0 0,
  .blockLockLost 0 0 0,
  .linkLockHeld 0 0,
  .enumEndReceive 0 0 [],
  .enumTimeout 0 0,
  .echoReplyReceive 0 0 [] 0,
  .retrainWaitEnd 0 0,
  .remeasureDue 0 0,
  .dackReceive 0 0 [],
  .ackTimeout 0 0,
  .reqReceive 0 0 [],
  .upFrameEof 0 0 [] [] [],
  .readDataResponse 0 0 0 0 0 [],
  .writeErrorResponse 0 0 0 0 0 0 0,
  .lockResponse 0 0 0 0 0,
  .unlockResponse 0 0 0 0 0,
  .faultRecords 0 0 0 [],
  .lockTimeLimit 0 0,
  .channelUntested 0 0,
  .cueGo 0 0 0,
  .cueStop 0 0 0,
  .channelEnable 0 0 0 0,
  .groupClear 0 0 0 0,
  .groupRetry 0 0,
  .ocuEnableWrite 0 0 0,
  .controlSramError 0 0 0 0 false false false,
  .crcClaim 0 0 0 0,
  .crcPreset 0 0 0 0,
  .crcParameterWrite 0 0 0 0 0,
  .crcRunningWrite 0 0 0 0,
  .crcFeed 0 0 0 [],
  .crcAliveIn 0 0 0 0,
  .eventPost 0 0 0 [],
  .drmPop 0 0,
  .drmPopBlock 0 0,
  .drmFlush 0 0 0,
  .faultSummaryClear 0 0 0,
  .memRequestRaise 0 0,
  .dramReadError 0 0 0 false none,
  .signalMapChangeRequest 0 0,
  .signalMapChangeCancel 0 0,
  .sacnPacket 0 ⟨0, true, false, false, 0, 0, 0, 0, []⟩,
  .sacnSourceLoss 0 0,
  .dmxTxPacket 0 0,
  .dmxRxPacket 0 0 0 [] false,
  .dmxRxLoss 0 0,
  .dmxModeWrite 0 0 0 0,
  .rdmRequest 0 0 0 0 0 0 [],
  .rdmResponseReceive 0 0 ⟨true, 0, 0, 0, 0, 0, 0, []⟩,
  .rdmResponseTimeout 0 0,
  .dmxRdmDiscover 0 0 0 0,
  .rdmAbort 0 0 0 0,
  .rdmResponderRequest 0 0 ⟨true, 0, 0, 0, 0, 0, 0, []⟩ false] : List Instr).all (fun c => c.wellFormed == true) = true := by decide +kernel

theorem test_wf_takes_3 : ([
  .brgRead 0 0,
  .brgWrite 0 0 [],
  .brgLockSet 0 0,
  .brgUnlock 0 0,
  .brgAbort 0 0 0,
  .brgPweClear 0 0 0,
  .claimWordReceive 0 0,
  .mirrorAck 0 ⟨false, 0, 0, 0, []⟩,
  .mirrorHeartbeat 0 ⟨false, 0, 0, 0, []⟩,
  .mirrorAdmit 0 ⟨false, 0, 0, 0, []⟩,
  .mirrorAnchor 0 ⟨false, 0, 0, 0, []⟩,
  .linkSig 0 ⟨false, 0, 0, 0, []⟩,
  .frameSig 0 ⟨false, 0, 0, 0, []⟩,
  .dictWrite 0 ⟨false, 0, 0, 0, []⟩,
  .dictForward 0 ⟨false, 0, 0, 0, []⟩,
  .dictStatus 0 ⟨false, 0, 0, 0, []⟩,
  .statePush 0 ⟨false, 0, 0, 0, []⟩,
  .mirrorBulk 0 ⟨false, 0, 0, 0, []⟩,
  .mirrorSync 0 ⟨false, 0, 0, 0, []⟩,
  .twnRejoin 0 0 0,
  .idpOpen 0 ⟨⟨0, 0, 0, 0⟩, 0, 0, none, true⟩ [],
  .idpClose 0 ⟨⟨0, 0, 0, 0⟩, 0, 0, none, true⟩,
  .idpKeepalive 0 ⟨⟨0, 0, 0, 0⟩, 0, 0, none, true⟩,
  .authOperator 0 ⟨⟨0, 0, 0, 0⟩, 0, 0, none, true⟩ [],
  .challenge 0 ⟨⟨0, 0, 0, 0⟩, 0, 0, none, true⟩ 0 [],
  .authService 0 ⟨⟨0, 0, 0, 0⟩, 0, 0, none, true⟩ [],
  .idpRead 0 ⟨⟨0, 0, 0, 0⟩, 0, 0, none, true⟩ [],
  .idpWrite 0 ⟨⟨0, 0, 0, 0⟩, 0, 0, none, true⟩ [],
  .registerWrite 0 0 ⟨0, 0, 0, []⟩,
  .domainRead 0 ⟨⟨0, 0, 0, 0⟩, 0, 0, none, true⟩ 0 0,
  .domainWrite 0 ⟨⟨0, 0, 0, 0⟩, 0, 0, none, true⟩ 0 0 0,
  .domainSegment 0 ⟨⟨0, 0, 0, 0⟩, 0, 0, none, true⟩ 0 [],
  .domainEnd 0 ⟨⟨0, 0, 0, 0⟩, 0, 0, none, true⟩ none,
  .domainAbort 0 ⟨⟨0, 0, 0, 0⟩, 0, 0, none, true⟩,
  .rdmIdpSet 0 0 0 0 0 [] false,
  .rdmGetEui 0 0 0 0 0,
  .rdmGetIdentity 0 0 0 0 0,
  .spiRequest 0 [],
  .dicProfileSave 0 0 0,
  .dicProfileCreate 0 0 0,
  .dicRestart 0 0 0,
  .dicInstallKey 0 0 [],
  .dicServiceKeyIntegrator 0 0 [],
  .chainInWord 0 0,
  .chainDiscover 0 ⟨true, false, 0, 0, 0, 0⟩ 0 0 0 0,
  .discoverBack 0 ⟨true, false, 0, 0, 0, 0⟩ 0 0,
  .chnAddrAccept 0 0 0,
  .backupRequest 0 ⟨true, false, 0, 0, 0, 0⟩ 0 0 [],
  .backupData 0 ⟨true, false, 0, 0, 0, 0⟩ 0 0 [],
  .backupAck 0 ⟨true, false, 0, 0, 0, 0⟩ 0 0,
  .updStartCommit 0 0 0,
  .imageOffer 0 ⟨true, false, 0, 0, 0, 0⟩ 0 0 0 0 0 0,
  .offerReply 0 ⟨true, false, 0, 0, 0, 0⟩ 0,
  .imageBlock 0 ⟨true, false, 0, 0, 0, 0⟩ 0 0 [] false,
  .blockAck 0 ⟨true, false, 0, 0, 0, 0⟩ 0 0,
  .chainAbort 0 ⟨true, false, 0, 0, 0, 0⟩,
  .updAbort 0 0 0,
  .updConfirm 0 0 0,
  .updReject 0 0 0,
  .imageFetch 0 ⟨true, false, 0, 0, 0, 0⟩ 0] : List Instr).all (fun c => c.wellFormed == true) = true := by decide +kernel

theorem test_wf_takes_4 : ([
  .railFault 0 0 0,
  .serdesPllLoss 0 0,
  .internalResetRelease 0 0 false,
  .memTrainingDone 0 false 0,
  .dmxTxPacketEnd 0 0,
  .rdmAckTimerExpiry 0 0,
  .serdesPllLock 0 0] : List Instr).all (fun c => c.wellFormed == true) = true := by decide +kernel

/-! A state and operands for the premises of each statement -/

theorem witness_IdleStepIsATick_1_1 : State.reset.pending = [] := rfl

theorem witness_QueueRunsInOrder_1_1 : (1 : Nat) ≤ ({ State.reset with pending := [.spiStatus 7] } : State).pending.length ∧ Quiet { State.reset with pending := [.spiStatus 7] } := by decide

theorem witness_NetPortsTakeFrames_1 : ∃ (dt port : Nat) (f : Frame) (s : State), (port < 2) ∧ (s.net.forwarding = true) ∧ (s.linkIsUp port = true) ∧ (fcsKind f = .good) ∧ (f.codeError = false) ∧ (64 ≤ f.octets.length + 4) ∧ (f.octets.length + 4 ≤ s.reg .NET_MAX_FRAME) ∧ (ethDst f.octets = s.unit.macChain) ∧ (s.unit.macChain ≠ 0xFFFFFFFFFFFF) ∧ (ethType f.octets ≠ 0x8808) ∧ (isIpv4 f.octets = false) ∧ (cellsOf (f.octets.length + 4) ≤ s.freeCells) :=
  ⟨0, 0, ethFrame 0x02AA00000001 0x88B5 [], netState, by decide +kernel⟩

theorem witness_NetPortsTakeFrames_2 : ∃ (dt port : Nat) (f : Frame) (s : State), (port < 2) ∧ (s.net.forwarding = true) ∧ (s.linkIsUp port = true) ∧ (fcsKind f = .good) ∧ (f.codeError = false) ∧ (64 ≤ f.octets.length + 4) ∧ (f.octets.length + 4 ≤ s.reg .NET_MAX_FRAME) ∧ (f.octets.length + 4 ≤ s.reg (.NET_TC_MAX_FRAME (s.classOf f.octets + 1))) ∧ (ethDst f.octets ≠ s.unit.macChain) ∧ (ethDst f.octets / 2 ^ 40 % 2 = 0) ∧ (ethType f.octets ≠ 0x8808) ∧ (s.correctsPtp f.octets = false) ∧ ((s.elapse dt).cutThrough port (otherPort port) (s.classOf f.octets) = true) :=
  ⟨0, 0, ethFrame 0x02AA00000009 0x88B5 [], netBoth, by decide +kernel⟩

theorem witness_NetPortsTakeFrames_3 : ∃ (dt : Nat) (f : Frame) (s : State), (s.linkIsUp 2 = true) ∧ (fcsKind f = .good) ∧ (f.codeError = false) ∧ (64 ≤ f.octets.length + 4) ∧ (f.octets.length + 4 ≤ s.reg .NET_MAX_FRAME) ∧ (ethDst f.octets = s.unit.macM) ∧ (ethType f.octets ≠ 0x8808) ∧ (isIpv4 f.octets = false) ∧ (cellsOf (f.octets.length + 4) ≤ s.freeCells) :=
  ⟨0, ethFrame 0x02AA00000002 0x88B5 [], netState, by decide +kernel⟩

theorem witness_EgressSendsAndGatesRun_1 : ∃ (dt port c : Nat) (f : QueuedFrame) (rest : List QueuedFrame) (s : State), ((s.elapse dt).nextClass port = some c) ∧ (nth (s.port port).queues c [] = f :: rest) ∧ (s.linkIsUp port = true) ∧ (f.ptpRx = none) ∧ (f.stomp = false) :=
  ⟨0, 1, 3, ⟨(ethFrame 0x02AA00000009 0x88B5 []).octets, 3, false, false, none⟩, [], netQueued, by decide +kernel⟩

theorem witness_EgressSendsAndGatesRun_2 : ∃ (dt port : Nat) (s : State), (port < 2) ∧ (port < s.net.ports.length) ∧ (Quiet s) ∧ ((s.port port).gate.restartAt = none) ∧ ((s.port port).gate.pending = false) ∧ (s.gclEntryEnd port (s.port port).gate.entry ≤ (s.elapse dt).now) :=
  ⟨1000, 0, gateState, by decide +kernel⟩

theorem witness_EgressSendsAndGatesRun_3 : ∃ (dt who port : Nat) (s : State), (port < 2) ∧ (port < s.net.ports.length) ∧ (Quiet s) ∧ (1 ≤ (s.elapse dt).levelOf who) ∧ ((s.port port).gate.pending = false) ∧ (s.gclFault port = none) :=
  ⟨5, 0, 0, gateState, by decide +kernel⟩

theorem witness_EgressSendsAndGatesRun_4 : ∃ (dt who port : Nat) (s : State), (port < 2) ∧ (port < s.net.ports.length) ∧ (Quiet s) ∧ (1 ≤ (s.elapse dt).levelOf who) ∧ ((s.port port).gate.pending = true) :=
  ⟨5, 0, 0, gatePending, by decide +kernel⟩

theorem witness_EgressSendsAndGatesRun_5 : ∃ (dt port : Nat) (s : State), (port < 2) ∧ (port < s.net.ports.length) ∧ (Takes s 2) ∧ ((s.port port).gate.pending = true) ∧ ((s.port port).gate.restartAt = none) ∧ (s.reg (.NET_GCL_CHANGE_TIME (port + 1)) ≤ (s.elapse dt).now) :=
  ⟨20000, 0, gatePending, by decide +kernel⟩

theorem witness_LinksAndFilters_1 : ∃ (dt port : Nat) (s : State), (port < 3) ∧ (s.linkIsUp port = false) ∧ (Takes s 3) :=
  ⟨0, 2, State.reset, by decide +kernel⟩

theorem witness_LinksAndFilters_2 : ∃ (dt port : Nat) (lockLost : Bool) (s : State), (port < 3) ∧ (port < s.net.ports.length) ∧ (s.linkIsUp port = true) ∧ (Takes s 5) ∧ (s.idp.sessions = []) ∧ (s.reg .TCK_SLAVE_PORT ≠ port + 1) :=
  ⟨0, 1, true, netQueued, by decide +kernel⟩

theorem witness_LinksAndFilters_3 : ∃ (dt who port : Nat) (fec : Bool) (value : Nat) (s : State), (port < 2) ∧ (Quiet s) ∧ (1 ≤ (s.elapse dt).levelOf who) ∧ (s.linkIsUp port = false) ∧ (inRange (if fec then .NET_FEC (port + 1) else .NET_SPEED (port + 1)) value = true) ∧ (s.reg (if fec then .NET_FEC (port + 1) else .NET_SPEED (port + 1)) ≠ value) ∧ (fec = true → value = 2 → s.reg (.NET_SPEED (port + 1)) ≠ 1) ∧ (fec = false → value = 1 → s.reg (.NET_FEC (port + 1)) ≠ 2) :=
  ⟨0, 0, 1, true, 1, State.reset, by decide +kernel⟩

theorem witness_LinksAndFilters_4 : ∃ (dt port : Nat) (s : State), (port < 2) ∧ (port < s.net.sfp.length) ∧ (Quiet s) ∧ (s.net.forwarding = true) :=
  ⟨0, 1, netState, by decide +kernel⟩

theorem witness_LinksAndFilters_5 : ∃ (dt port corrected uncorrected codewords : Nat) (s : State), (port < 2) ∧ (Takes s 5) ∧ (s.reg (.NET_LINK_STATE (port + 1)) = 1) ∧ (codewords < uncorrected * 1000000) :=
  ⟨0, 0, 5, 7, 1000000, netState, by decide +kernel⟩

theorem witness_LinksAndFilters_6 : ∃ (dt who entry sub value : Nat) (s : State), (entry < 128) ∧ (dictBits ⟨0x2400 + entry, sub⟩ ≠ 0) ∧ (inRange ⟨0x2400 + entry, sub⟩ value = true) ∧ (1 ≤ (s.elapse dt).levelOf who) ∧ (Takes s 3) :=
  ⟨0, 0, 3, 1, 1, State.reset, by decide +kernel⟩

theorem witness_LinksAndFilters_7 : ∃ (dt : Nat) (s : State), (Quiet s) ∧ (s.linkIsUp 0 = true) ∧ (s.linkIsUp 1 = false) ∧ (s.flag .NET_IGMP_ENABLE = true) ∧ (s.net.joined = s.streamGroups) :=
  ⟨0, netState, by decide +kernel⟩

theorem witness_PtpFeedsTheServo_1 : ∃ (dt : Nat) (m : PtpSync) (s : State), (Quiet s) ∧ (m.domain = s.reg .TCK_DOMAIN) ∧ (s.reg .TCK_GM_ID ≠ 0) ∧ (m.clockId = s.reg .TCK_GM_ID) ∧ (m.port + 1 = s.reg .TCK_SLAVE_PORT) ∧ (s.reg .TCK_STATE = 1) ∧ (Captures s 32 = false) :=
  ⟨0, sync9, acquiring, by decide +kernel⟩

theorem witness_PtpFeedsTheServo_2 : ∃ (dt h : Nat) (a m : PtpAnnounce) (s : State), (Takes s 3 ∧ s.reg .DRM_MIN_PRIORITY ≤ 2) ∧ (m.domain = s.reg .TCK_DOMAIN) ∧ (s.clock.masters = [⟨a, h⟩]) ∧ (1 ≤ h) ∧ (a.gmId = m.gmId) ∧ (a.port = m.port) ∧ (s.portAllowed m.port = true) ∧ (s.reg .TCK_STATE = 0) ∧ (s.clock.lastGm ≠ some m.gmId) :=
  ⟨0, 1, announce9, announce9, { State.reset with clock := { Clock.reset with masters := [⟨announce9, 1⟩] } }, by decide +kernel⟩

theorem witness_PtpFeedsTheServo_3 : ∃ (dt : Nat) (m : PtpDelay) (fwd : Rat) (s : State), (Quiet s) ∧ (m.domain = s.reg .TCK_DOMAIN) ∧ (m.peer = false) ∧ (s.reg .TCK_PROFILE ≠ 2) ∧ (m.port + 1 = s.reg .TCK_SLAVE_PORT) ∧ (s.clock.syncDelta = some fwd) :=
  ⟨0, ⟨0, 127, false, 0, 0, 0, 5000 * 2 ^ 32, 0, 0⟩, 100, acquiring.modClock fun c => { c with syncDelta := some 100 }, by decide +kernel⟩

theorem witness_PtpFeedsTheServo_4 : ∃ (dt port seq : Nat) (s : State), (Quiet s) ∧ (port < 2) ∧ (s.reg .TCK_PROFILE = 2) :=
  ⟨0, 0, 5, netState.setReg .TCK_PROFILE 2, by decide +kernel⟩

theorem witness_TimeIsStepped_1 : ∃ (dt : Nat) (s : State), (s.reg .TCK_STATE = 1) ∧ (16 ≤ s.clock.acquire.length) :=
  ⟨0, sampled, by decide +kernel⟩

theorem witness_TimeIsStepped_2 : ∃ (dt : Nat) (s : State), (s.reg .TCK_REACQUIRE_AT ≠ 0) ∧ (s.reg .TCK_REACQUIRE_AT ≤ (s.elapse dt).now) ∧ ((s.elapse dt).recentSamples ≠ []) :=
  ⟨1000, locked.setReg .TCK_REACQUIRE_AT 1000, by decide +kernel⟩

theorem witness_GrandmasterLossAndControl_1 : ∃ (dt : Nat) (s : State), (Takes s 2) ∧ (s.reg .TCK_STATE = 3) :=
  ⟨0, locked, by decide +kernel⟩

theorem witness_GrandmasterLossAndControl_2 : ∃ (dt : Nat) (s : State), (s.reg .TCK_GM_ID ≠ 0) ∧ (s.clock.masters.all (fun m => m.announce.gmId == s.reg .TCK_GM_ID) = true) :=
  ⟨0, locked, by decide +kernel⟩

theorem witness_GrandmasterLossAndControl_3 : ∃ (dt : Nat) (s : State), (Takes s 5) ∧ (s.reg .TCK_STATE = 4) ∧ (bitOf (s.reg .TCK_FLAGS) 2 = false) ∧ (s.reg .TCK_HOLDOVER_LIMIT ≤ ((s.elapse dt).now - s.clock.holdoverSince) / 1000000000) :=
  ⟨0, holding, by decide +kernel⟩

theorem witness_GrandmasterLossAndControl_4 : ∃ (dt who time : Nat) (s : State), (Quiet s) ∧ (1 ≤ (s.elapse dt).levelOf who) ∧ (s.reg .TCK_STATE ≠ 0) ∧ (s.reg .TCK_STATE ≠ 1) ∧ (time ≠ 0) ∧ ((s.elapse dt).now + 100000000 ≤ time) :=
  ⟨0, 0, 200000000, locked, by decide +kernel⟩

theorem witness_GrandmasterLossAndControl_5 : ∃ (dt who : Nat) (s : State), (Quiet s) ∧ (1 ≤ (s.elapse dt).levelOf who) ∧ (s.reg .TCK_REACQUIRE_AT ≠ 0) :=
  ⟨0, 0, locked.setReg .TCK_REACQUIRE_AT 1000, by decide +kernel⟩

theorem witness_GrandmasterLossAndControl_6 : ∃ (dt who value : Nat) (s : State), (1 ≤ (s.elapse dt).levelOf who) ∧ (inRange .TCK_PTP_PORT value = true) ∧ (s.reg .TCK_PTP_PORT ≠ value) :=
  ⟨0, 0, 1, locked, by decide +kernel⟩

theorem witness_TurretsAndTheVote_1 : ∃ (dt turret time f : Nat) (s : State), (Takes s 5) ∧ (turret < 3) ∧ (s.clock.excluded = none) ∧ (nth (s.elapse dt).clock.turrets turret Turret.reset ≠ ⟨time, f⟩) ∧ ((s.clock.corrections.filter fun p => p.2 == turret) = []) ∧ (Captures s 33 = false) :=
  ⟨0, 1, 5, 6, State.reset, by decide +kernel⟩

theorem witness_TurretsAndTheVote_2 : ∃ (dt turret time f a b : Nat) (s : State), (Takes s 6) ∧ (turret < 3) ∧ (s.clock.excluded = none) ∧ (nth (s.elapse dt).clock.turrets turret Turret.reset ≠ ⟨time, f⟩) ∧ (s.clock.corrections = [(a, turret), (b, turret)]) ∧ (s.ticks + dt ≤ b + 781250000 ∧ s.ticks + dt ≤ a + 781250000) ∧ (Captures s 33 = false) :=
  ⟨0, 1, 5, 6, 0, 0, State.reset.modClock fun c => { c with corrections := [(0, 1), (0, 1)] }, by decide +kernel⟩

theorem witness_TurretsAndTheVote_3 : ∃ (dt a b c : Nat) (s : State), (Quiet s) ∧ (s.clock.excluded = none) ∧ (a ≠ b) ∧ (b ≠ c) ∧ (a ≠ c) ∧ (s.scan.gridOn = false) ∧ (Captures s 33 = false) :=
  ⟨0, 1, 2, 3, State.reset, by decide +kernel⟩

theorem witness_ComparatorsAndCaptures_1 : ∃ (dt n : Nat) (s : State), (Quiet s) ∧ (5 ≤ n ∧ n ≤ 15) ∧ (n < s.clock.comparators.length) ∧ ((s.cmp n).armed = true) ∧ (s.scanOwns n = false) ∧ ((s.cmp n).action = 1) ∧ ((s.cmp n).lateDue = false) ∧ ((s.cmp n).instant (s.cmp n).next ≤ (s.elapse dt).time96) :=
  ⟨1000, 5, armed5, by decide +kernel⟩

theorem witness_ComparatorsAndCaptures_2 : ∃ (dt who n : Nat) (s : State), (Quiet s) ∧ (5 ≤ n ∧ n ≤ 15) ∧ (n < s.clock.comparators.length) ∧ (1 ≤ (s.elapse dt).levelOf who) ∧ (s.scanOwns n = false) ∧ (s.cmpRefusal n = none) ∧ (s.flag (.CMP_ENABLE n) = true) ∧ ((s.elapse dt).time96 ≤ s.reg (.CMP_TARGET n) * 2 ^ 32 + s.reg (.CMP_TARGET_FRAC n)) :=
  ⟨0, 0, 5, armed5, by decide +kernel⟩

theorem witness_ComparatorsAndCaptures_3 : ∃ (dt n : Nat) (s : State), (Quiet s) ∧ (n < s.clock.comparators.length) ∧ ((s.cmp n).pulse = true) :=
  ⟨0, 5, pulsing5, by decide +kernel⟩

theorem witness_ComparatorsAndCaptures_4 : ∃ (dt pin heldNs : Nat) (falling : Bool) (s : State), (pin < 8) ∧ (s.clock.captures.length = 8) ∧ (nth s.clock.lastEdge pin none = none) :=
  ⟨100000, 3, 1000, true, capturing, by decide +kernel⟩

theorem witness_ComparatorsAndCaptures_5 : ∃ (dt who channel : Nat) (s : State), (Quiet s) ∧ (1 ≤ (s.elapse dt).levelOf who) ∧ (channel < 8) ∧ (channel < s.clock.captures.length) :=
  ⟨0, 0, 2, capturing, by decide +kernel⟩

theorem witness_PacketsBecomeFrames_1 : ∃ (dt l k : Nat) (p : WsfPacket) (s : State), (p.header.length = 48) ∧ (p.at_ 0 2 = 0x5753) ∧ (p.at_ 2 1 = 1) ∧ (p.kind = 0) ∧ (p.format ≤ 1) ∧ (p.payload.length = 4 * p.count) ∧ (p.fence = false) ∧ (s.recordOf p.entry = l) ∧ (l < 8) ∧ (s.ingest.frames.all (fun f => f.stream != p.stream && Nat.blt f.id s.ingest.nextId) = true) ∧ (s.ingest.refused.contains (p.stream, p.time, p.srcEpoch) = false) ∧ (s.ingest.ended.all (fun x => x.1 != p.stream) = true) ∧ (s.timeValid = true) ∧ ((s.elapse dt).window (s.reg (.ING_LEAD_MIN l)) p.time = .inside) ∧ (s.freeBuffer l = some k) ∧ (2 ≤ p.total) ∧ (s.packetReason (newFrame p l none) p = none) :=
  ⟨0, 0, 0, firstPacket, ingesting, by decide +kernel⟩

theorem witness_PacketsBecomeFrames_2 : ∃ (dt l : Nat) (p : VideoPacket) (s : State), (s.layersOf p.entry = [l]) ∧ (s.ingest.streams.all (fun v => v.entry != p.entry) = true) ∧ (p.rows.all (fun r => !r.fieldBit && s.rowFits l r) = true) ∧ (s.ingest.frames.all (fun f => f.stream != 2 ^ 32 + p.entry * 8 + l) = true) ∧ (s.ingest.refused.all (fun r => r.1 != 2 ^ 32 + p.entry * 8 + l) = true) ∧ (s.timeValid = true) ∧ ((s.elapse dt).window (s.reg (.ING_LEAD_MIN l)) (samplingInstant (s.elapse dt).now p.timestamp + s.reg (.ING_2110_DELAY l)) = .inside) :=
  ⟨0, 0, videoPacket, ingesting, by decide +kernel⟩

theorem witness_FramesAndFencesEnd_1 : ∃ (dt : Nat) (s : State), ((s.ingest.frames.filter fun f => f.layer == 8 && f.isComplete && Nat.ble (nsUnits f.time) (s.elapse dt).time96) ≠ []) :=
  ⟨20000000, oneFrame { waitingFrame with layer := 8, stage := .complete 0, time := 1 }, by decide +kernel⟩

theorem witness_FramesAndFencesEnd_2 : ∃ (dt : Nat) (s : State), ((s.ingest.frames.filter fun f => f.layer == 8 && !f.isComplete && Nat.ble (nsUnits f.time + s.period) (s.elapse dt).time96) ≠ []) :=
  ⟨20000000, oneFrame { waitingFrame with layer := 8, time := 1 }, by decide +kernel⟩

theorem witness_FramesAndFencesEnd_3 : ∃ (dt : Nat) (s : State), ((s.ingest.frames.any fun f => !f.isComplete && f.late.any (fun x => Nat.ble x (s.elapse dt).time96)) = true) ∧ (s.ingest.frames.all (fun f => Nat.ble f.layer 8) = true) :=
  ⟨20, oneFrame { waitingFrame with late := some 5 }, by decide +kernel⟩

theorem witness_FramesAndFencesEnd_4 : ∃ (dt : Nat) (p : WsfPacket) (f : IngestFrame) (s : State), (p.header.length = 48) ∧ (p.at_ 0 2 = 0x5753) ∧ (p.at_ 2 1 = 1) ∧ (p.kind = 2) ∧ (p.fenceOk = true) ∧ (s.ingest.frames = [f]) ∧ (f.fenced = true ∧ f.released = false) ∧ (f.stream = p.stream) ∧ (f.fenceId = p.fenceId) ∧ (s.epochs = []) ∧ (Quiet s) :=
  ⟨0, fenceMessage 2, waitingFrame, oneFrame waitingFrame, by decide +kernel⟩

theorem witness_FramesAndFencesEnd_5 : ∃ (dt : Nat) (p : WsfPacket) (f : IngestFrame) (s : State), (p.header.length = 48) ∧ (p.at_ 0 2 = 0x5753) ∧ (p.at_ 2 1 = 1) ∧ (p.kind = 3) ∧ (p.fenceOk = true) ∧ (Takes s 3) ∧ (s.ingest.frames = [f]) ∧ (f.fenced = true ∧ f.shown = false) ∧ (f.layer < 8) ∧ (f.stream = p.stream) ∧ (f.fenceId = p.fenceId) :=
  ⟨0, fenceMessage 3, waitingFrame, oneFrame waitingFrame, by decide +kernel⟩

theorem witness_FramesAndFencesEnd_6 : ∃ (dt : Nat) (s : State), ((s.cupola.fences.filter fun e => Nat.ble (e.accepted + 3 * s.period) (s.elapse dt).time96) ≠ []) :=
  ⟨200000000, ingesting.modCupola fun c => { c with fences := [⟨0, 77, false, 3, 0⟩] }, by decide +kernel⟩

theorem witness_LayersAndTheirTimeouts_1 : ∃ (dt layer : Nat) (e : Epoch) (s : State), (s.epochs = [e]) ∧ (layer < 8) ∧ (e.layers.length = 8) ∧ (e.timedLayers.contains layer = false) ∧ (e.timeout layer ≤ (s.elapse dt).time96) ∧ (e.waits layer = true) ∧ ((e.config.layer layer).flipGroup = 0) ∧ (s.candidate e layer = none) ∧ (e.ready.contains layer = false) :=
  ⟨25000000, 0, epoch5, oneEpoch, by decide +kernel⟩

theorem witness_LayersAndTheirTimeouts_2 : ∃ (dt layer k : Nat) (f : IngestFrame) (s : State), (Quiet s) ∧ (s.ingest.frames = [f]) ∧ (f.layer = layer) ∧ (layer < 8) ∧ (f.buffer = none ∧ f.replaces = none) ∧ (s.freeBuffer layer = some k) ∧ (s.epochs = []) :=
  ⟨0, 0, 0, { waitingFrame with buffer := none }, oneFrame { waitingFrame with buffer := none }, by decide +kernel⟩

theorem witness_LayersAndTheirTimeouts_3 : ∃ (dt who layer : Nat) (s : State), (Quiet s) ∧ (1 ≤ (s.elapse dt).levelOf who) ∧ (layer < 8) ∧ (s.flag (.ING_LAYER_ENABLE layer) = false) ∧ (s.enableRefusal layer = none) :=
  ⟨0, 0, 1, enablable, by decide +kernel⟩

theorem witness_EnginesTakeAndFinishOperations_1 : ∃ (dt engine p since order : Nat) (o : BelOp) (s : State), ((s.elapse dt).idle engine = true) ∧ ((s.elapse dt).firstReady engine = some o) ∧ (o.stage = .ready p since order) :=
  ⟨0, 0, 3, 0, 0, readyOp, belfryWith [readyOp], by decide +kernel⟩

theorem witness_EnginesTakeAndFinishOperations_2 : ∃ (dt engine : Nat) (faults : ReadFaults) (o : BelOp) (s : State), (s.runningOn engine = [o]) ∧ (s.epochs.all (fun e => e.restart.isEmpty && Nat.ble (brickCount e.config.canvasW e.config.canvasH) e.nextBrick) = true) :=
  ⟨0, 0, noFaults, runningOp, belfryWith [runningOp], by decide +kernel⟩

theorem witness_EnginesTakeAndFinishOperations_3 : ∃ (dt engine since : Nat) (o : BelOp) (s : State), (Quiet s) ∧ (s.runningOn engine = [o]) ∧ (o.stage = .running engine since) ∧ (s.epochs = []) ∧ (engine < 16) ∧ (4 * o.clocks + 1024 < (s.ticks + dt - since) / 2) :=
  ⟨100000, 0, 0, runningOp, belfryWith [runningOp], by decide +kernel⟩

theorem witness_EpochsAreBuiltRaisedAndRetired_1 : ∃ (dt : Nat) (s : State), (s.epochs = []) ∧ (s.belfry.reload = false) ∧ (s.reg .BEL_STATE = 2) ∧ (s.reg .TWN_STATE ≠ 3) ∧ (s.scan.gridOn = true) :=
  ⟨0, onGrid, by decide +kernel⟩

theorem witness_EpochsAreBuiltRaisedAndRetired_2 : ∃ (dt : Nat) (e : Epoch) (s : State), (s.oldest = some e) ∧ ((s.epochs.map Epoch.epoch).Nodup) ∧ ((s.belfry.slots.map BelOp.slot).Nodup) ∧ (e.urgent = false) ∧ (e.replacement = false) ∧ (e.tc ≤ (s.elapse dt).time96 + nsUnits (s.reg .BEL_URGENT_NS)) :=
  ⟨20000000, epoch5, { belfryWith [readyOp] with epochs := [epoch5] }, by decide +kernel⟩

theorem witness_EpochsAreBuiltRaisedAndRetired_3 : ∃ (dt epoch : Nat) (e : Epoch) (s : State), ((s.belfry.engines.any fun g => g.stopping.any fun x => x.1 == epoch && Nat.blt (s.ticks + dt) x.2) = false) ∧ (s.epochOf epoch = some e) ∧ (e.stage = .squashing true) :=
  ⟨0, 5, { epoch5 with stage := .squashing true }, { oneEpoch with epochs := [{ epoch5 with stage := .squashing true }] }, by decide +kernel⟩

theorem witness_EpochsAreBuiltRaisedAndRetired_4 : ∃ (dt epoch : Nat) (e : Epoch) (s : State), ((s.belfry.engines.any fun g => g.stopping.any fun x => x.1 == epoch && Nat.blt (s.ticks + dt) x.2) = false) ∧ (s.epochOf epoch = some e) ∧ (e.stage = .squashing false) ∧ ((s.epochs.all fun x => x.epoch == epoch || x.stage != .live || (x.restart.isEmpty && Nat.ble (brickCount x.config.canvasW x.config.canvasH) x.nextBrick)) = true) :=
  ⟨0, 5, { epoch5 with stage := .squashing false }, { oneEpoch with epochs := [{ epoch5 with stage := .squashing false }] }, by decide +kernel⟩

theorem witness_TraceAndStatistics_1 : ∃ (dt : Nat) (s : State), (s.belfry.traceLost ≠ 0) ∧ ((s.elapse dt).belfry.traceQueue < 128) ∧ (16 ≤ s.reg .BEL_TRACE_SIZE) :=
  ⟨1, ingesting.modBelfry fun b => { b with traceLost := 9, traceQueue := 128 }, by decide +kernel⟩

theorem witness_TraceAndStatistics_2 : ∃ (dt who : Nat) (s : State), (Quiet s) ∧ (1 ≤ (s.elapse dt).levelOf who) ∧ (bitOf (s.reg .BEL_TRACE_FLAGS) 1 = false) ∧ (s.traceValid (s.reg .BEL_TRACE_READ_POS) = true) :=
  ⟨0, 0xFFFF, traced, by decide +kernel⟩

theorem witness_TraceAndStatistics_3 : ∃ (dt who : Nat) (s : State), (Quiet s) ∧ (1 ≤ (s.elapse dt).levelOf who) :=
  ⟨0, 0xFFFF, traced, by decide +kernel⟩

theorem witness_TraceAndStatistics_4 : ∃ (dt who value : Nat) (s : State), (Quiet s) ∧ (1 ≤ (s.elapse dt).levelOf who) :=
  ⟨0, 0xFFFF, 1, traced, by decide +kernel⟩

theorem witness_TraceAndStatistics_5 : ∃ (dt : Nat) (s : State), (Quiet s) ∧ (s.reg .BEL_STATS_WINDOW ≤ clocksNs (s.ticks + dt - s.belfry.stats.start)) :=
  ⟨1000000000, traced, by decide +kernel⟩

theorem witness_TraceAndStatistics_6 : ∃ (dt who value : Nat) (s : State), (Quiet s) ∧ (1 ≤ (s.elapse dt).levelOf who) ∧ (inRange .BEL_STATS_WINDOW value = true) :=
  ⟨0, 0xFFFF, 1000000000, traced, by decide +kernel⟩

theorem witness_CuesRunOnTheTick_1 : ∃ (dt who c : Nat) (s : State), (1 ≤ (s.elapse dt).levelOf who) ∧ (s.reg .LAN_CUE_GO_CUE = c) ∧ (s.cueRefusal c = none) ∧ (s.lantern.stopped.contains (c, s.ticks + dt) = false) :=
  ⟨0, 0xFFFF, 2, cueState, by decide +kernel⟩

theorem witness_CuesRunOnTheTick_2 : ∃ (dt who c r : Nat) (s : State), (Takes s 4) ∧ (1 ≤ (s.elapse dt).levelOf who) ∧ (s.reg .LAN_CUE_GO_CUE = c) ∧ (s.cueRefusal c = some r) :=
  ⟨0, 0xFFFF, 2, 2, cueState.setReg (.LAN_CUE_COUNT 2) 0, by decide +kernel⟩

theorem witness_CuesRunOnTheTick_3 : ∃ (dt who c : Nat) (s : State), (1 ≤ (s.elapse dt).levelOf who) ∧ (c ≤ 255) :=
  ⟨0, 0xFFFF, 2, cueRunning, by decide +kernel⟩

theorem witness_CuesRunOnTheTick_4 : ∃ (dt : Nat) (s : State), (s.lantern.gridOn = true) ∧ (s.lampStart s.lantern.nextTick ≤ (s.elapse dt).time96) :=
  ⟨20000000, cueRunning.modLantern fun l => { l with gridOn := true }, by decide +kernel⟩

theorem witness_OrdersPreviewsAndKeys_1 : ∃ (dt who : Nat) (s : State), (Quiet s) ∧ (1 ≤ (s.elapse dt).levelOf who) ∧ (s.reg .CUP_ORDER_CHANGE ≠ 1) ∧ (s.orderRefusal = none) :=
  ⟨0, 0xFFFF, ingesting, by decide +kernel⟩

theorem witness_OrdersPreviewsAndKeys_2 : ∃ (dt who r : Nat) (s : State), (Takes s 4) ∧ (1 ≤ (s.elapse dt).levelOf who) ∧ (s.reg .CUP_ORDER_CHANGE ≠ 1) ∧ (s.orderRefusal = some r) :=
  ⟨0, 0xFFFF, 2, withRegs [(.CUP_ORDER_ADMIN_MODE, 1), (.CUP_ORDER_ADMIN 1, 5)], by decide +kernel⟩

theorem witness_OrdersPreviewsAndKeys_3 : ∃ (dt who : Nat) (s : State), (Quiet s) ∧ (1 ≤ (s.elapse dt).levelOf who) ∧ (s.reg .CUP_ORDER_CHANGE = 1) :=
  ⟨0, 0xFFFF, withRegs [(.CUP_ORDER_CHANGE, 1)], by decide +kernel⟩

theorem witness_OrdersPreviewsAndKeys_4 : ∃ (dt who : Nat) (s : State), (Quiet s) ∧ (1 ≤ (s.elapse dt).levelOf who) ∧ (s.previewRect.area ≤ 524288) :=
  ⟨0, 0xFFFF, ingesting, by decide +kernel⟩

theorem witness_OrdersPreviewsAndKeys_5 : ∃ (dt who e f : Nat) (ws : List Nat) (s : State), (Quiet s) ∧ (1 ≤ (s.elapse dt).levelOf who) ∧ (s.cupola.preview = some (e, f, ws)) :=
  ⟨0, 0xFFFF, 5, 1, [7, 8], ingesting.modCupola fun c => { c with preview := some (5, 1, [7, 8]) }, by decide +kernel⟩

theorem witness_OrdersPreviewsAndKeys_6 : ∃ (dt who : Nat) (key : List Octet) (s : State), (Quiet s) ∧ (2 ≤ (s.elapse dt).levelOf who) ∧ (key.length = 32) :=
  ⟨0, 0xFFFF, List.replicate 32 7, ingesting, by decide +kernel⟩

theorem witness_OrdersPreviewsAndKeys_7 : ∃ (dt : Nat) (a b : Decision) (s : State), (Takes s 5) ∧ (a ≠ b) :=
  ⟨0, Decision.reset, { Decision.reset with asserted := 3 }, ingesting, by decide +kernel⟩

theorem witness_OrdersPreviewsAndKeys_8 : ∃ (dt : Nat) (a b c : Decision) (s : State), (Quiet s) ∧ (a ≠ b ∧ a ≠ c ∧ b ≠ c) :=
  ⟨0, Decision.reset, { Decision.reset with asserted := 3 }, { Decision.reset with asserted := 4 }, ingesting, by decide +kernel⟩

theorem witness_SafetyMessagesAct_1 : ∃ (dt : Nat) (m : SafetyMessage) (s : State), (s.isTarget m = true) ∧ (s.messageFormat m = true) ∧ (s.messageTag m = true) ∧ ((s.elapse dt).messageFresh m = true) ∧ (s.reg .CUP_FIN_STATE ≠ 3) ∧ (smKind m = 0) :=
  ⟨0, finialMessage 0 255 0 [], finialState, by decide +kernel⟩

theorem witness_SafetyMessagesAct_2 : ∃ (dt : Nat) (m : SafetyMessage) (s : State), (s.isTarget m = true) ∧ (s.messageFormat m = true) ∧ (s.messageTag m = true) ∧ ((s.elapse dt).messageFresh m = true) ∧ (s.reg .CUP_FIN_STATE ≠ 3) ∧ (smKind m = 1) ∧ (smCount m < (smRect m).area) ∧ (s.cupola.content.length = 16) ∧ ((nth s.cupola.content (smRegion m) []).length = 2) ∧ (s.finialSlot (smRegion m) (s.uploadSlot (smRegion m) (smContentId m)) = none) ∧ (([0, 1].any fun k => (s.finialSlot (smRegion m) k).any fun c => c.contentId == smContentId m) = false) :=
  ⟨0, finialMessage 1 3 1 [1, 2, 3, 4], finialState, by decide +kernel⟩

theorem witness_SafetyMessagesAct_3 : ∃ (dt k : Nat) (m : SafetyMessage) (s : State), (Takes s 6) ∧ (s.isTarget m = true) ∧ (s.messageFormat m = true) ∧ (s.messageTag m = true) ∧ ((s.elapse dt).messageFresh m = true) ∧ (s.reg .CUP_FIN_STATE ≠ 3) ∧ (smKind m = 2) ∧ (s.epochs = []) ∧ (([0, 1].find? fun k => (s.finialSlot (smRegion m) k).any fun c => c.valid && c.contentId == smContentId m) = some k) ∧ (bitOf s.decision.asserted (smRegion m) = false) ∧ ((smRegion m, s.ticks + dt) ∉ s.cupola.released) :=
  ⟨0, 0, finialMessage 2 3 0 [], finialLoaded, by decide +kernel⟩

theorem witness_SafetyMessagesAct_4 : ∃ (dt : Nat) (m : SafetyMessage) (s : State), (Takes s 4) ∧ (s.isTarget m = true) ∧ (s.messageFormat m = true) ∧ (s.messageTag m = true) ∧ ((s.elapse dt).messageFresh m = true) ∧ (s.reg .CUP_FIN_STATE ≠ 3) ∧ (smKind m = 3) ∧ (bitOf s.decision.asserted (smRegion m) = true) :=
  ⟨0, finialMessage 3 3 0 [], finialAsserted, by decide +kernel⟩

theorem witness_SafetyMessagesAct_5 : ∃ (dt : Nat) (s : State), (Quiet s) ∧ (s.reg .CUP_FIN_STATE = 2) ∧ (s.cupola.lastAccepted + nsClocks (s.reg .CUP_FIN_STALE_MS * 1000000) ≤ s.ticks + dt) :=
  ⟨1000000000, finialAsserted.setReg .CUP_FIN_STATE 2, by decide +kernel⟩

theorem witness_SafetyMessagesAct_6 : ∃ (dt who : Nat) (s : State), (1 ≤ (s.elapse dt).levelOf who) :=
  ⟨0, 0xFFFF, finialAsserted, by decide +kernel⟩

theorem witness_ZonesAreBlendedAndChecked_1 : ∃ (dt z : Nat) (reading : Int) (temps : List (Nat × Nat × Nat)) (s : State), (z < 64) ∧ (s.cal.zones.length = 64) ∧ ((s.zoneModules z).isEmpty = false) ∧ (s.zoneReading z temps = some reading) :=
  ⟨0, 2, 400, [(0, 1, 400)], calState, by decide +kernel⟩

theorem witness_ZonesAreBlendedAndChecked_2 : ∃ (dt z : Nat) (s : State), (Quiet s) ∧ (z < 64) ∧ (s.cal.zones.length = 64) ∧ ((s.zoneModules z).isEmpty = false) ∧ ((s.zone z).lastPass + nsClocks (s.reg .CAL_REFRESH_S * 1000000000) ≤ s.ticks + dt) :=
  ⟨1000000000000, 2, calState, by decide +kernel⟩

theorem witness_ZonesAreBlendedAndChecked_3 : ∃ (dt z : Nat) (s : State), (z < 64) ∧ (s.cal.zones.length = 64) ∧ ((s.zone z).requested = true ∧ (s.zone z).pass = none ∧ (s.zone z).ready = false) ∧ ((s.zoneModules z).isEmpty = false) ∧ (s.slotsForBackground = true) ∧ (s.inPair = false) :=
  ⟨0, 2, calZone fun z => { z with requested := true, theta := 300 }, by decide +kernel⟩

theorem witness_ZonesAreBlendedAndChecked_4 : ∃ (dt z : Nat) (theta : Int) (s : State), (z < 64) ∧ (s.cal.zones.length = 64) ∧ ((s.zone z).pass = some theta) ∧ ((s.zone z).opsLeft = 0) :=
  ⟨0, 2, 300, calZone fun z => { z with pass := some 300 }, by decide +kernel⟩

theorem witness_ZonesAreBlendedAndChecked_6 : ∃ (dt link module : Nat) (page : List Octet) (c : CalModule) (s : State), (Takes s 3) ∧ (link < 64 ∧ 1 ≤ module ∧ module ≤ 32) ∧ (s.calModule link module = some c) :=
  ⟨0, 0, 1, sealPage (List.replicate 4092 0), nth calState.cal.modules 0 ⟨9, 9, [], [], [], 9, false⟩, calState, by decide +kernel⟩

theorem witness_ZonesAreBlendedAndChecked_7 : ∃ (dt who link module zone : Nat) (s : State), (Quiet s) ∧ (1 ≤ (s.elapse dt).levelOf who) ∧ (link < 64 ∧ 1 ≤ module ∧ module ≤ 32 ∧ zone < 64) :=
  ⟨0, 0xFFFF, 0, 1, 7, calState, by decide +kernel⟩

theorem witness_ImagesSparesAndTrims_1 : ∃ (dt link module : Nat) (d : SpireModule) (reads : List (List Octet × Nat)) (s : State), (link < 64 ∧ 1 ≤ module ∧ module ≤ 32) ∧ ((s.link link).modules[module - 1]? = some d) ∧ (d.hasCal = true) ∧ (s.calModule link module = none) :=
  ⟨0, 0, 1, { SpireModule.reset with hasCal := true, pixels := 1 }, [], calState.modCal fun c => { c with modules := [] }, by decide +kernel⟩

theorem witness_ImagesSparesAndTrims_2 : ∃ (dt who link module pixel v : Nat) (c : CalModule) (s : State), (Takes s 4) ∧ (1 ≤ (s.elapse dt).levelOf who) ∧ (s.reg (.CAL_SPARE_CMD 1) = link ∧ s.reg (.CAL_SPARE_CMD 2) = module ∧ s.reg (.CAL_SPARE_CMD 3) = pixel ∧ s.reg (.CAL_SPARE_CMD 4) = v) ∧ (s.calModule link module = some c) ∧ (pixel < (calHeader (imagePage c.copyA 0)).pixels) ∧ (v < 3) ∧ (hasSet c.copyA pixel v = true) ∧ (selectorOctet c.copyA pixel % 4 ≠ v) :=
  ⟨0, 0xFFFF, 0, 1, 0, 0, nth calState.cal.modules 0 ⟨9, 9, [], [], [], 9, false⟩, calState, by decide +kernel⟩

theorem witness_ImagesSparesAndTrims_3 : ∃ (dt who : Nat) (image : List Octet) (s : State), (2 ≤ (s.elapse dt).levelOf who) ∧ (s.cal.recal = none) :=
  ⟨0, 0xFFFF, [], calState, by decide +kernel⟩

theorem witness_ImagesSparesAndTrims_4 : ∃ (dt who : Nat) (r : Recal) (s : State), (Takes s 4) ∧ (2 ≤ (s.elapse dt).levelOf who) ∧ (s.cal.recal = some r) :=
  ⟨0, 0xFFFF, ⟨0, 1, [], 4, true⟩, calState.modCal fun c => { c with recal := some ⟨0, 1, [], 4, true⟩ }, by decide +kernel⟩

theorem witness_ImagesSparesAndTrims_5 : ∃ (dt who : Nat) (s : State), (Quiet s) ∧ (2 ≤ (s.elapse dt).levelOf who) ∧ (((List.range 512).any fun n => s.flag (.LAN_CH_ENABLE n)) = false) ∧ (s.reg .CAL_TRIM_WRITES < 990) :=
  ⟨0, 0xFFFF, calState, by decide +kernel⟩

theorem witness_ImagesSparesAndTrims_6 : ∃ (dt who : Nat) (s : State), (Quiet s) ∧ (2 ≤ (s.elapse dt).levelOf who) ∧ (((List.range 512).any fun n => s.flag (.LAN_CH_ENABLE n)) = true ∨ 990 ≤ s.reg .CAL_TRIM_WRITES) :=
  ⟨0, 0xFFFF, calState.setReg (.LAN_CH_ENABLE 3) 1, by decide +kernel⟩

theorem witness_ImagesSparesAndTrims_7 : ∃ (dt : Nat) (first second : List (List Nat)) (s : State), (s.reg .CAL_TRIM_MEASURE = 1) ∧ (s.acceptsTrims first second = true) :=
  ⟨0, [], [], calState.setReg .CAL_TRIM_MEASURE 1, by decide +kernel⟩

theorem witness_MapsModesAndGenlock_1 : ∃ (dt who : Nat) (s : State), (Quiet s) ∧ (1 ≤ (s.elapse dt).levelOf who) ∧ (s.reg .SCN_MAP_CHANGE ≠ 1) ∧ (s.mapRefusal s.scan.mapAdmin ((List.range 512).map fun k => s.reg (.SCN_LAMP_MAP_ADMIN (k + 1))) = none) :=
  ⟨0, 0xFFFF, ingesting.setReg (.ING_LAYER_ENABLE 0) 0, by decide +kernel⟩

theorem witness_MapsModesAndGenlock_2 : ∃ (dt who r k : Nat) (s : State), (Takes s 4) ∧ (1 ≤ (s.elapse dt).levelOf who) ∧ (s.reg .SCN_MAP_CHANGE ≠ 1) ∧ (s.mapRefusal s.scan.mapAdmin ((List.range 512).map fun k => s.reg (.SCN_LAMP_MAP_ADMIN (k + 1))) = some (r, k)) :=
  ⟨0, 0xFFFF, 9, 127, ingesting, by decide +kernel⟩

theorem witness_MapsModesAndGenlock_3 : ∃ (dt who : Nat) (s : State), (Quiet s) ∧ (1 ≤ (s.elapse dt).levelOf who) ∧ (s.reg .SCN_MAP_CHANGE = 1) :=
  ⟨0, 0xFFFF, withRegs [(.SCN_MAP_CHANGE, 1)], by decide +kernel⟩

theorem witness_MapsModesAndGenlock_4 : ∃ (dt who : Nat) (s : State), (Quiet s) ∧ (1 ≤ (s.elapse dt).levelOf who) ∧ (s.reg .SCN_MODE_CHANGE ≠ 1) ∧ (s.modeRefusal = none) :=
  ⟨0, 0xFFFF, oneEpoch, by decide +kernel⟩

theorem witness_MapsModesAndGenlock_5 : ∃ (dt who r : Nat) (s : State), (Takes s 4) ∧ (1 ≤ (s.elapse dt).levelOf who) ∧ (s.reg .SCN_MODE_CHANGE ≠ 1) ∧ (s.modeRefusal = some r) :=
  ⟨0, 0xFFFF, 1, withRegs [(.SCN_RATE_ADMIN, 24)], by decide +kernel⟩

theorem witness_MapsModesAndGenlock_6 : ∃ (dt who : Nat) (s : State), (Quiet s) ∧ (1 ≤ (s.elapse dt).levelOf who) ∧ (s.reg .SCN_MODE_CHANGE = 1) :=
  ⟨0, 0xFFFF, modeDue, by decide +kernel⟩

theorem witness_MapsModesAndGenlock_7 : ∃ (dt a : Nat) (s : State), (s.reg .SCN_MODE_CHANGE = 1) ∧ (s.scan.modeAt = some a) ∧ (a ≤ (s.elapse dt).time96) ∧ ((s.epochs.map Epoch.epoch).Nodup) :=
  ⟨20, 7, modeDue, by decide +kernel⟩

theorem witness_MapsModesAndGenlock_8 : ∃ (dt : Nat) (s : State), (s.scan.gridOn = true) ∧ (s.reg .SCN_GENLOCK_OPER = 1) ∧ (s.clock.stepped = true) ∧ (s.reg (.TCK_BELL_DIR (s.reg .SCN_GENLOCK_PIN_OPER + 1)) = 0) ∧ (s.scan.anchored = false) :=
  ⟨0, genlocked false, by decide +kernel⟩

theorem witness_MapsModesAndGenlock_9 : ∃ (dt : Nat) (err : Int) (s : State), (s.scan.gridOn = true) ∧ (s.reg .SCN_GENLOCK_OPER = 1) ∧ (s.clock.stepped = true) ∧ (s.reg (.TCK_BELL_DIR (s.reg .SCN_GENLOCK_PIN_OPER + 1)) = 0) ∧ (s.scan.anchored = true) ∧ (err = ((s.elapse dt).time96 : Int) + s.regInt .SCN_GENLOCK_DELAY_OPER * 2 ^ 32 - s.gridAt (s.nearestFrame (((s.elapse dt).time96 : Int) + s.regInt .SCN_GENLOCK_DELAY_OPER * 2 ^ 32).toNat)) ∧ (1000 * err.natAbs ≤ s.framePeriod) ∧ (err.natAbs ≤ nsUnits 50000) :=
  ⟨0, 0, genlocked true, by decide +kernel⟩

theorem witness_MapsModesAndGenlock_10 : ∃ (dt : Nat) (err : Int) (s : State), (s.scan.gridOn = true) ∧ (s.reg .SCN_GENLOCK_OPER = 1) ∧ (s.clock.stepped = true) ∧ (s.reg (.TCK_BELL_DIR (s.reg .SCN_GENLOCK_PIN_OPER + 1)) = 0) ∧ (s.scan.anchored = true) ∧ (err = ((s.elapse dt).time96 : Int) + s.regInt .SCN_GENLOCK_DELAY_OPER * 2 ^ 32 - s.gridAt (s.nearestFrame (((s.elapse dt).time96 : Int) + s.regInt .SCN_GENLOCK_DELAY_OPER * 2 ^ 32).toNat)) ∧ (s.framePeriod < 1000 * err.natAbs) :=
  ⟨1000000, (((genlocked true).elapse 1000000).time96 : Nat), genlocked true, by decide +kernel⟩

theorem witness_MapsModesAndGenlock_11 : ∃ (dt : Nat) (s : State), (Takes s 5) ∧ (s.scan.gridOn = true) ∧ (s.reg .SCN_GENLOCK_OPER = 1) ∧ (s.clock.stepped = true) ∧ (s.scan.edgesLost = false) ∧ (s.scan.lastEdge.getD s.scan.gridRef + 3 * s.framePeriod ≤ (s.elapse dt).time96) :=
  ⟨60000000, genlocked true, by decide +kernel⟩

theorem witness_EpochsAreDecidedStruckAndShown_1 : ∃ (dt : Nat) (poisoned : List Nat) (e : Epoch) (s : State), (s.oldest = some e) ∧ (e.tc ≤ (s.elapse dt).time96) ∧ ((s.epochs.map Epoch.epoch).Nodup) :=
  ⟨20000000, [], epoch5, oneEpoch, by decide +kernel⟩

theorem witness_EpochsAreDecidedStruckAndShown_2 : ∃ (dt : Nat) (e : Epoch) (links : List Nat) (s : State), (s.toStrike = some (e, links)) ∧ (e.struck = []) ∧ (e.tp - strikeLead ≤ (s.elapse dt).time96) ∧ ((links.any fun k => (s.link k).strikeWait.isSome) = false) ∧ (s.spire.length = 64) ∧ (links.all (fun k => Nat.blt k 64) = true) :=
  ⟨20000000, { epoch5 with stage := .committed [0, 3] }, [0, 3], { oneEpoch with epochs := [{ epoch5 with stage := .committed [0, 3] }] }, by decide +kernel⟩

theorem witness_EpochsAreDecidedStruckAndShown_3 : ∃ (dt k off n due : Nat) (s : State), (k < 64) ∧ (s.spire.length = 64) ∧ ((s.link k).strikeWait = some (n, due)) ∧ (due ≤ 2 * (s.ticks + dt) + 1) ∧ (off ≤ 65) :=
  ⟨4000, 3, 0, 5, 100, struckState, by decide +kernel⟩

theorem witness_EpochsAreDecidedStruckAndShown_4 : ∃ (dt : Nat) (e : Epoch) (s : State), (s.toPresent = some e) ∧ (e.tp ≤ (s.elapse dt).time96) ∧ (e.struck = []) :=
  ⟨20000000, { epoch5 with stage := .withheld }, { oneEpoch with epochs := [{ epoch5 with stage := .withheld }] }, by decide +kernel⟩

theorem witness_EpochsAreDecidedStruckAndShown_5 : ∃ (dt : Nat) (e : Epoch) (s : State), (s.toPresent = some e) ∧ (e.tp ≤ (s.elapse dt).time96) ∧ (e.struck ≠ []) :=
  ⟨20000000, { epoch5 with stage := .committed [3], struck := [3] }, { oneEpoch with epochs := [{ epoch5 with stage := .committed [3], struck := [3] }] }, by decide +kernel⟩

theorem witness_LinksTrain_1 : ∃ (dt k : Nat) (s : State), (Quiet s) ∧ (k < 64) ∧ (s.spire.length = 64) :=
  ⟨0, 3, linkState 1, by decide +kernel⟩

theorem witness_LinksTrain_2 : ∃ (dt k errors : Nat) (s : State), (k < 64) ∧ (s.spire.length = 64) ∧ (2 ≤ s.reg (.SPL_STATE k)) :=
  ⟨0, 3, 16, linkState 5, by decide +kernel⟩

theorem witness_LinksTrain_3 : ∃ (dt k : Nat) (s : State), (Quiet s) ∧ (k < 64) ∧ (s.spire.length = 64) ∧ (s.reg (.SPL_STATE k) = 2) ∧ ((s.link k).lockSince + nsTicks 1000000 ≤ s.ticks + dt) :=
  ⟨1000000, 3, linkState 2, by decide +kernel⟩

theorem witness_LinksTrain_4 : ∃ (dt k n : Nat) (v : List Nat) (block : List Octet) (s : State), (Quiet s) ∧ (k < 64) ∧ (s.spire.length = 64) ∧ (parseBlock block = some v) ∧ (nth v 0 0 = 0x52 ∧ nth v 1 0 = n) ∧ (n ≤ 32) ∧ (s.reg (.SPL_STATE k) = 3) ∧ ((s.link k).modules = []) :=
  ⟨0, 3, 2, [0x52, 2, 0, 0, 0, 0, 0], controlBlock 0x52 [2], linkState 3, by decide +kernel⟩

theorem witness_LinksTrain_5 : ∃ (dt k : Nat) (s : State), (Takes s 5) ∧ (k < 64) ∧ (s.spire.length = 64) ∧ (s.reg (.SPL_STATE k) = 3) ∧ ((s.link k).modules = []) ∧ ((s.link k).enumSince + nsTicks 5000000 ≤ s.ticks + dt) ∧ ((s.link k).lock = none ∧ (s.link k).waiting = [] ∧ (s.link k).reads = [] ∧ (s.link k).txns = []) :=
  ⟨5000000, 3, linkState 3, by decide +kernel⟩

theorem witness_LinksTrain_6 : ∃ (dt k rtt : Nat) (v : List Nat) (block : List Octet) (m : SpireModule) (s : State), (Quiet s) ∧ (k < 64) ∧ (s.spire.length = 64) ∧ (parseBlock block = some v) ∧ (nth v 0 0 = 0x51) ∧ ((s.link k).measuring = true) ∧ ((s.link k).echoWait = some (nth v 1 0 % 32 + 1, nth v 2 0 + 256 * nth v 3 0)) ∧ (s.module k (nth v 1 0 % 32 + 1) = some m) ∧ (m.samples.length < 15) :=
  ⟨0, 3, 500, [0x51, 0, 9, 0, 4, 0, 0], controlBlock 0x51 [0, 9, 0, 4, 0, 0], SpireModule.reset, linkModule fun l => { l with measuring := true, echoWait := some (1, 9), echoSeq := 10 }, by decide +kernel⟩

theorem witness_LinksTrain_7 : ∃ (dt k : Nat) (s : State), (Quiet s) ∧ (k < 64) ∧ (s.spire.length = 64) ∧ ((s.link k).resting = true) ∧ ((s.link k).downSince + nsTicks (1000000 * s.reg .SPL_RETRAIN_MS) ≤ s.ticks + dt) :=
  ⟨10000000000, 3, (linkState 1).modLink 3 fun l => { l with resting := true, locked := true }, by decide +kernel⟩

theorem witness_LinksTrain_8 : ∃ (dt k : Nat) (s : State), (Quiet s) ∧ (k < 64) ∧ (s.spire.length = 64) ∧ (s.reg (.SPL_STATE k) = 5) ∧ ((s.link k).measuring = false) ∧ ((s.link k).modules ≠ []) ∧ ((s.link k).measuredAt + s.reg .SPL_MEASURE_S * 781250000 ≤ s.ticks + dt) :=
  ⟨10000000000000, 3, linkModule id, by decide +kernel⟩

theorem witness_LinkFramesAreSentAndAnswered_1 : ∃ (dt k starved corrected module seg : Nat) (last : Bool) (fills : List Nat) (e : Epoch) (x : LinkEpoch) (rest : List (Nat × Nat × Bool)) (s : State), (k < 64) ∧ (s.spire.length = 64) ∧ ((s.elapse dt).linkBusy k = false) ∧ (s.reg (.SPL_STATE k) = 5) ∧ (s.nextLoad k = some (e, x)) ∧ (x.toSend = (module, seg, last) :: rest) ∧ (s.segmentReady e k module seg = true) :=
  ⟨0, 3, 0, 0, 1, 0, true, [], loadEpoch, loadingState.loadOf loadEpoch 3, [], loadingState, by decide +kernel⟩

theorem witness_LinkFramesAreSentAndAnswered_2 : ∃ (dt k starved corrected : Nat) (double : Bool) (fills : List Nat) (p : Nat × RegTxn) (rest : List (Nat × RegTxn)) (s : State), (k < 64) ∧ (s.spire.length = 64) ∧ ((s.elapse dt).linkBusy k = false) ∧ (3 ≤ s.reg (.SPL_STATE k)) ∧ (((s.link k).waiting.filter fun f => f.kind == 1).length < 8) ∧ ((s.link k).sendable = p :: rest) :=
  ⟨0, 3, 0, 0, false, [], (1, readTxn), [], linkModule fun l => { l with txns := [(1, readTxn)] }, by decide +kernel⟩

theorem witness_LinkFramesAreSentAndAnswered_3 : ∃ (dt k : Nat) (v : List Nat) (block : List Octet) (f : SpireFrame) (s : State), (k < 64) ∧ (s.spire.length = 64) ∧ (parseBlock block = some v) ∧ (nth v 0 0 = 0x50 ∧ nth v 5 0 / 16 = 0) ∧ ((s.link k).waiting = [f]) ∧ (f.kind = 1 ∧ nth v 1 0 = 32 + (f.module - 1) ∧ 1 ≤ f.module ∧ f.module ≤ 32) ∧ (f.number = nth v 2 0 + 256 * nth v 3 0) :=
  ⟨0, 3, [0x50, 32, 9, 0, 0, 0, 0], controlBlock 0x50 [32, 9], txnFrame, linkModule fun l => { l with waiting := [txnFrame] }, by decide +kernel⟩

theorem witness_LinkFramesAreSentAndAnswered_4 : ∃ (dt k : Nat) (v : List Nat) (block : List Octet) (f : SpireFrame) (s : State), (k < 64) ∧ (s.spire.length = 64) ∧ (parseBlock block = some v) ∧ (nth v 0 0 = 0x50 ∧ nth v 5 0 / 16 = 1) ∧ ((s.link k).waiting = [f]) ∧ (f.kind = 1 ∧ nth v 1 0 = 32 + (f.module - 1) ∧ 1 ≤ f.module ∧ f.module ≤ 32) ∧ (f.number = nth v 2 0 + 256 * nth v 3 0) ∧ (f.resends < s.reg .SPL_RETRIES) :=
  ⟨0, 3, [0x50, 32, 9, 0, 0, 16, 0], controlBlock 0x50 [32, 9, 0, 0, 16], txnFrame, linkModule fun l => { l with waiting := [txnFrame] }, by decide +kernel⟩

theorem witness_LinkFramesAreSentAndAnswered_5 : ∃ (dt k : Nat) (v : List Nat) (block : List Octet) (f : SpireFrame) (x : LinkEpoch) (s : State), (k < 64) ∧ (s.spire.length = 64) ∧ (parseBlock block = some v) ∧ (nth v 0 0 = 0x50 ∧ nth v 5 0 / 16 = 0 ∧ bitOf (nth v 6 0) 0 = true) ∧ ((s.link k).waiting = [f]) ∧ (f.kind = 0 ∧ nth v 1 0 = f.module - 1 ∧ 1 ≤ f.module ∧ f.module ≤ 32 ∧ f.segment = nth v 4 0 ∧ f.gen = nth v 5 0 % 16) ∧ (f.number = nth v 2 0 + 256 * nth v 3 0) ∧ ((s.link k).epochs = [x]) ∧ (x.epoch = f.number) :=
  ⟨0, 3, [0x50, 0, 5, 0, 0, 0, 1], controlBlock 0x50 [0, 5, 0, 0, 0, 1], { txnFrame with kind := 0, number := 5, txns := [] }, loadingState.freshLoad loadEpoch 3, loadingState.modLink 3 fun l => { l with waiting := [{ txnFrame with kind := 0, number := 5, txns := [] }], epochs := [loadingState.freshLoad loadEpoch 3] }, by decide +kernel⟩

theorem witness_LinkFramesAreSentAndAnswered_6 : ∃ (dt k : Nat) (f : SpireFrame) (s : State), (k < 64) ∧ (s.spire.length = 64) ∧ ((s.link k).waiting = [f]) ∧ ((s.link k).reqs = []) ∧ (f.kind = 1) ∧ (f.resends < s.reg .SPL_RETRIES) ∧ (f.sentAt + frameClocks f.blocks + nsTicks (s.reg .SPL_ACK_TIMEOUT) ≤ s.ticks + dt) :=
  ⟨100000000, 3, txnFrame, linkModule fun l => { l with waiting := [txnFrame] }, by decide +kernel⟩

theorem witness_LinkFramesAreSentAndAnswered_7 : ∃ (dt k : Nat) (f : SpireFrame) (s : State), (Takes s 4) ∧ (k < 64) ∧ (s.spire.length = 64) ∧ ((s.link k).waiting = [f]) ∧ ((s.link k).reqs = []) ∧ (f.kind = 0) ∧ (s.reg .SPL_RETRIES ≤ f.resends) ∧ (f.sentAt + frameClocks f.blocks + nsTicks (s.reg .SPL_ACK_TIMEOUT) ≤ s.ticks + dt) :=
  ⟨100000000, 3, { txnFrame with kind := 0, number := 5, resends := 200, txns := [] }, loadingState.modLink 3 fun l => { l with waiting := [{ txnFrame with kind := 0, number := 5, resends := 200, txns := [] }] }, by decide +kernel⟩

theorem witness_LinkFramesAreSentAndAnswered_8 : ∃ (dt k : Nat) (v : List Nat) (block : List Octet) (s : State), (Quiet s) ∧ (k < 64) ∧ (s.spire.length = 64) ∧ (parseBlock block = some v) ∧ (nth v 0 0 = 0x53) ∧ (nth v 1 0 / 32 = 2 ∨ nth v 1 0 / 32 = 3 ∧ (s.link k).lock = none) ∧ ((s.link k).reqs = []) :=
  ⟨0, 3, [0x53, 64, 9, 0, 4, 0, 0], controlBlock 0x53 [64, 9, 0, 4], linkModule id, by decide +kernel⟩

theorem witness_LinkFramesAreSentAndAnswered_9 : ∃ (dt k a m q n : Nat) (rest : List (Nat × Nat × Nat × Nat)) (sof data eof : List Octet) (s : State), (k < 64) ∧ (s.spire.length = 64) ∧ ((s.link k).reqs = (a, m, q, n) :: rest) :=
  ⟨0, 3, 2, 1, 9, 4, [], [], [], [], linkModule fun l => { l with reqs := [(2, 1, 9, 4)] }, by decide +kernel⟩

theorem witness_RegisterResponsesArrive_1 : ∃ (dt k module tag n : Nat) (data : List Octet) (x : RegTxn) (s : State), (k < 64) ∧ (s.spire.length = 64) ∧ ((s.link k).reads = [(module, x)]) ∧ (x.tag = tag ∧ x.op = 2 ∧ x.purpose = .bridge n) ∧ (s.brgWaits n tag = true) :=
  ⟨0, 3, 1, 9, 4, [1, 2, 3, 4], { readTxn with purpose := .bridge 4 }, brgPending 2 .bridge, by decide +kernel⟩

theorem witness_RegisterResponsesArrive_2 : ∃ (dt k module tag address len status : Nat) (s : State), (Takes s 4) ∧ (k < 64) ∧ (1 ≤ module) :=
  ⟨0, 3, 1, 9, 64, 4, 2, linkModule id, by decide +kernel⟩

theorem witness_RegisterResponsesArrive_3 : ∃ (dt k module tag n : Nat) (x : RegTxn) (s : State), (k < 64) ∧ (s.spire.length = 64) ∧ ((s.link k).reads = [(module, x)]) ∧ (x.tag = tag ∧ x.op = 3 ∧ x.purpose = .lock n) ∧ (s.brgWaits n tag = true) :=
  ⟨0, 3, 1, 9, 4, { readTxn with op := 3, purpose := .lock 4 }, brgPending 3 .lock, by decide +kernel⟩

theorem witness_RegisterResponsesArrive_4 : ∃ (dt k module tag n since : Nat) (x : RegTxn) (s : State), (k < 64) ∧ (s.spire.length = 64) ∧ ((s.link k).reads = [(module, x)]) ∧ (x.tag = tag ∧ x.op = 4 ∧ x.purpose = .unlock n) ∧ ((s.link k).lock = some ⟨module, n, since, true⟩) :=
  ⟨0, 3, 1, 9, 4, 0, { readTxn with op := 4, purpose := .unlock 4 }, (brgPending 4 .unlock).modLink 3 fun l => { l with lock := some ⟨1, 4, 0, true⟩ }, by decide +kernel⟩

theorem witness_RegisterResponsesArrive_5 : ∃ (dt k module : Nat) (data : List Octet) (r : FaultRecord) (s : State), (Takes s 4) ∧ (k < 64) ∧ (1 ≤ module) ∧ (parseRecords 32 data = [r]) ∧ (s.emitterRecord k module r = false) :=
  ⟨0, 3, 1, [2, 0, 0, 0, 9, 0, 0, 0], ⟨2, 0, 0, 9⟩, linkModule id, by decide +kernel⟩

theorem witness_RegisterResponsesArrive_6 : ∃ (dt k module : Nat) (data : List Octet) (r : FaultRecord) (c : CalModule) (s : State), (k < 64) ∧ (1 ≤ module) ∧ (parseRecords 32 data = [r]) ∧ (s.emitterRecord k module r = true) ∧ (s.calModule k module = some c) ∧ (s.reg .CAL_SPARE_POLICY ≠ 1) ∧ ((s.zone (s.zoneOf k module)).requested = true) :=
  ⟨0, 0, 1, [1, 0, 0, 0, 0, 0, 0, 0], ⟨1, 0, 0, 0⟩, nth calState.cal.modules 0 ⟨9, 9, [], [], [], 9, false⟩, (calZone fun z => { z with requested := true }).setReg .CAL_SPARE_POLICY 0, by decide +kernel⟩

theorem witness_RegisterResponsesArrive_7 : ∃ (dt k module : Nat) (data : List Octet) (r : FaultRecord) (c : CalModule) (s : State), (k < 64) ∧ (1 ≤ module) ∧ (parseRecords 32 data = [r]) ∧ (s.emitterRecord k module r = true) ∧ (s.calModule k module = some c) ∧ (s.reg .CAL_SPARE_POLICY ≠ 1) ∧ (((s.zone (s.zoneOf k module)).requested || (s.zone (s.zoneOf k module)).pass.isSome) = false) ∧ (s.mayWriteModules = true ∧ s.cal.recal = none ∧ k < s.spire.length) :=
  ⟨0, 0, 1, [1, 0, 0, 0, 0, 0, 0, 0], ⟨1, 0, 0, 0⟩, nth calState.cal.modules 0 ⟨9, 9, [], [], [], 9, false⟩, calState.setReg .CAL_SPARE_POLICY 0, by decide +kernel⟩

theorem witness_RegisterResponsesArrive_8 : ∃ (dt k : Nat) (x : LinkLock) (s : State), (Takes s 4) ∧ (k < 64) ∧ (s.spire.length = 64) ∧ ((s.link k).lock = some x) ∧ (x.since + nsTicks (1000 * s.reg .SPL_LOCK_MAX_US) ≤ s.ticks + dt) :=
  ⟨1000000000, 3, ⟨1, 4, 0, false⟩, linkModule fun l => { l with lock := some ⟨1, 4, 0, false⟩ }, by decide +kernel⟩

theorem witness_LampPeriodsRun_1 : ∃ (dt : Nat) (s : State), (s.lantern.gridOn = true) ∧ (s.lantern.merged = none) ∧ (s.lampStart s.lantern.nextMerge ≤ (s.elapse dt).time96 + nsUnits 8000) :=
  ⟨0, lampState fun l => l, by decide +kernel⟩

theorem witness_LampPeriodsRun_2 : ∃ (dt : Nat) (tests : List (Nat × Bool × Nat × Nat)) (p : LampPeriod) (s : State), (s.lantern.merged = some p) ∧ (s.lampStart p.period ≤ (s.elapse dt).time96) ∧ (s.lantern.heldUntil ≤ s.ticks + dt) :=
  ⟨0, [], lampPeriod, lampState fun l => { l with merged := some lampPeriod }, by decide +kernel⟩

theorem witness_LampPeriodsRun_3 : ∃ (dt junction vin : Nat) (rails : List (Option (Nat × Nat))) (ntc : List Nat) (p : LampPeriod) (s : State), (s.lantern.running = some p) ∧ (s.lantern.converted = false) ∧ (s.lampStart p.period + nsUnits (s.reg .LAN_ADC_OFFSET) ≤ (s.elapse dt).time96) :=
  ⟨1000000, 400, 24000, [some (900, 950)], [], lampPeriod, lampState fun l => { l with running := some lampPeriod, converted := false }, by decide +kernel⟩

theorem witness_LampPeriodsRun_4 : ∃ (dt c since : Nat) (s : State), (Quiet s) ∧ (c < 512) ∧ (s.lantern.sinks.length = 512) ∧ ((s.sink c).belowSince = some since) ∧ (since + 60 * 781250000 ≤ s.ticks + dt) ∧ (s.lampMaster c = true) :=
  ⟨60000000000, 3, 0, (lampState id).modSink 3 fun x => { x with belowSince := some 0 }, by decide +kernel⟩

theorem witness_LampPeriodsRun_5 : ∃ (dt due : Nat) (s : State), (s.lantern.tiedAt = some due) ∧ (due ≤ s.ticks + dt) :=
  ⟨10, 5, lampState fun l => { l with tiedAt := some 5 }, by decide +kernel⟩

theorem witness_ChannelsAndGroupsAreCleared_1 : ∃ (dt who c : Nat) (s : State), (Quiet s) ∧ (1 ≤ (s.elapse dt).levelOf who) ∧ (c < 512) ∧ (s.gangRefused c = false) ∧ (s.lantern.sinks.length = 512) :=
  ⟨0, 0xFFFF, 3, ingesting, by decide +kernel⟩

theorem witness_ChannelsAndGroupsAreCleared_2 : ∃ (dt who c : Nat) (s : State), (Quiet s) ∧ (1 ≤ (s.elapse dt).levelOf who) ∧ (c < 512) :=
  ⟨0, 0xFFFF, 3, lampState id, by decide +kernel⟩

theorem witness_ChannelsAndGroupsAreCleared_3 : ∃ (dt who c : Nat) (s : State), (Takes s 4) ∧ (1 ≤ (s.elapse dt).levelOf who) ∧ (c < 512) ∧ (s.gangRefused c = true) :=
  ⟨0, 0xFFFF, 31, withRegs [(.LAN_CH_GANG 31, 2), (.LAN_CH_GANG 32, 0)], by decide +kernel⟩

theorem witness_ChannelsAndGroupsAreCleared_4 : ∃ (dt who g : Nat) (s : State), (1 ≤ (s.elapse dt).levelOf who) ∧ (1 ≤ g ∧ g ≤ 64) ∧ (s.lantern.sinks.length = 512) :=
  ⟨0, 0xFFFF, 2, groupDark, by decide +kernel⟩

theorem witness_ChannelsAndGroupsAreCleared_5 : ∃ (dt g : Nat) (s : State), (1 ≤ g ∧ g ≤ 64) ∧ (s.lantern.sinks.length = 512) ∧ (s.lantern.groups.length = 64) ∧ (s.reg (.LAN_GRP_RETRY_S (g - 1)) ≠ 0) ∧ ((s.group g).darkSince.isSome = true) ∧ ((s.group g).retryFrom + s.reg (.LAN_GRP_RETRY_S (g - 1)) * 781250000 ≤ s.ticks + dt) :=
  ⟨100000000000, 2, groupDark, by decide +kernel⟩

theorem witness_ChannelsAndGroupsAreCleared_6 : ∃ (dt : Nat) (s : State), (Quiet s) :=
  ⟨0, ingesting, by decide +kernel⟩

theorem witness_CheckContextsWork_1 : ∃ (dt who value : Nat) (s : State), (1 ≤ (s.elapse dt).levelOf who) ∧ (value ≤ 1) ∧ (value ≠ s.reg .OCU_ENABLE) :=
  ⟨0, 0xFFFF, 0, ingesting, by decide +kernel⟩

theorem witness_CheckContextsWork_2 : ∃ (dt who n : Nat) (s : State), (Quiet s) ∧ (4 ≤ n ∧ n < 8) ∧ (1 ≤ (s.elapse dt).levelOf who) ∧ (s.ocu.contexts.length = 8) ∧ ((s.crcContext n).holder = none) :=
  ⟨0, 0xFFFF, 5, ingesting, by decide +kernel⟩

theorem witness_CheckContextsWork_3 : ∃ (dt who n : Nat) (s : State), (Quiet s) ∧ (4 ≤ n ∧ n < 8) ∧ (1 ≤ (s.elapse dt).levelOf who) ∧ ((s.crcContext n).holder = some who) ∧ (s.ocu.contexts.length = 8) :=
  ⟨0, 0xFFFF, 5, crcHeld, by decide +kernel⟩

theorem witness_CheckContextsWork_4 : ∃ (dt who n h value : Nat) (s : State), (Quiet s) ∧ (4 ≤ n ∧ n < 8) ∧ (1 ≤ (s.elapse dt).levelOf who) ∧ ((s.crcContext n).holder = some h) ∧ (h ≠ who) ∧ (value ≤ 1) :=
  ⟨0, 0, 5, 0xFFFF, 1, crcHeld, by decide +kernel⟩

theorem witness_CheckContextsWork_5 : ∃ (dt who n value : Nat) (s : State), (Quiet s) ∧ (4 ≤ n ∧ n < 8) ∧ (1 ≤ (s.elapse dt).levelOf who) ∧ ((s.crcContext n).holder = some who) ∧ (8 ≤ value ∧ value ≤ 64) ∧ (s.ocu.contexts.length = 8) :=
  ⟨0, 0xFFFF, 5, 16, crcHeld, by decide +kernel⟩

theorem witness_CheckContextsWork_6 : ∃ (dt who n value : Nat) (s : State), (Quiet s) ∧ (4 ≤ n ∧ n < 8) ∧ (1 ≤ (s.elapse dt).levelOf who) ∧ ((s.crcContext n).holder = some who) ∧ (value < 2 ^ s.reg (.CRC_WIDTH n)) ∧ (value < 2 ^ 64) ∧ (s.reg (.CRC_INIT n) < 2 ^ 64) ∧ (s.ocu.contexts.length = 8) :=
  ⟨0, 0xFFFF, 5, 7, crcHeld, by decide +kernel⟩

theorem witness_CheckContextsWork_7 : ∃ (dt who n value : Nat) (s : State), (Quiet s) ∧ (4 ≤ n ∧ n < 8) ∧ (1 ≤ (s.elapse dt).levelOf who) ∧ ((s.crcContext n).holder = some who) ∧ (value < 2 ^ s.reg (.CRC_WIDTH n)) ∧ (value < 2 ^ 64) :=
  ⟨0, 0xFFFF, 5, 7, crcHeld, by decide +kernel⟩

theorem witness_CheckContextsWork_8 : ∃ (dt who n : Nat) (octets : List Octet) (s : State), (Quiet s) ∧ (4 ≤ n ∧ n < 8) ∧ (1 ≤ (s.elapse dt).levelOf who) ∧ ((s.crcContext n).holder = some who) ∧ (octets ≠ [] ∧ octets.length ≤ 4096) :=
  ⟨0, 0xFFFF, 5, [1, 2, 3], crcHeld, by decide +kernel⟩

theorem witness_AliveMonitorJudges_1 : ∃ (dt who n v : Nat) (s : State), (Quiet s) ∧ (4 ≤ n ∧ n < 8) ∧ (1 ≤ (s.elapse dt).levelOf who) ∧ ((s.crcContext n).holder = some who) ∧ (v ≤ 255) ∧ (s.ocu.contexts.length = 8) ∧ ((s.crcContext n).lastAlive = none) :=
  ⟨0, 0xFFFF, 5, 9, crcHeld, by decide +kernel⟩

theorem witness_AliveMonitorJudges_2 : ∃ (dt who n v last : Nat) (s : State), (Quiet s) ∧ (4 ≤ n ∧ n < 8) ∧ (1 ≤ (s.elapse dt).levelOf who) ∧ ((s.crcContext n).holder = some who) ∧ (v ≤ 255 ∧ last ≤ 255) ∧ (s.ocu.contexts.length = 8) ∧ ((s.crcContext n).lastAlive = some last) :=
  ⟨0, 0xFFFF, 5, 3, 250, crcAlive250, by decide +kernel⟩

theorem witness_AliveMonitorJudges_4 : ∃ (dt who n value : Nat) (s : State), (4 ≤ n ∧ n < 8) ∧ (1 ≤ (s.elapse dt).levelOf who) ∧ ((s.crcContext n).holder = none) ∧ (s.ocu.contexts.length = 8) :=
  ⟨0, 0xFFFF, 5, 0, ingesting, by decide +kernel⟩

theorem witness_AliveMonitorJudges_5 : ∃ (dt who n sub value : Nat) (s : State), (4 ≤ n ∧ n < 8) ∧ (1 ≤ (s.elapse dt).levelOf who) ∧ ((s.crcContext n).holder = some who) ∧ (s.ocu.contexts.length = 8) :=
  ⟨0, 0xFFFF, 5, 5, 1, crcAlive250, by decide +kernel⟩

theorem witness_AliveMonitorJudges_6 : ∃ (dt who n value : Nat) (s : State), (4 ≤ n ∧ n < 8) ∧ (1 ≤ (s.elapse dt).levelOf who) ∧ ((s.crcContext n).holder = some who) ∧ (s.ocu.contexts.length = 8) :=
  ⟨0, 0xFFFF, 5, 1, crcAlive250, by decide +kernel⟩

theorem witness_PresetsLoadTheStandardChecks_1 : ∃ (dt who n : Nat) (s : State), (Quiet s) ∧ (4 ≤ n ∧ n < 8) ∧ (1 ≤ (s.elapse dt).levelOf who) ∧ ((s.crcContext n).holder = some who) ∧ (s.ocu.contexts.length = 8) :=
  ⟨0, 0xFFFF, 5, crcHeld, by decide +kernel⟩

theorem witness_PresetsLoadTheStandardChecks_2 : ∃ (dt who n : Nat) (s : State), (Quiet s) ∧ (4 ≤ n ∧ n < 8) ∧ (1 ≤ (s.elapse dt).levelOf who) ∧ ((s.crcContext n).holder = some who) ∧ (s.ocu.contexts.length = 8) :=
  ⟨0, 0xFFFF, 5, crcHeld, by decide +kernel⟩

theorem witness_PresetsLoadTheStandardChecks_3 : ∃ (dt who n : Nat) (s : State), (Quiet s) ∧ (4 ≤ n ∧ n < 8) ∧ (1 ≤ (s.elapse dt).levelOf who) ∧ ((s.crcContext n).holder = some who) ∧ (s.ocu.contexts.length = 8) :=
  ⟨0, 0xFFFF, 5, crcHeld, by decide +kernel⟩

theorem witness_PresetsLoadTheStandardChecks_4 : ∃ (dt who n : Nat) (s : State), (Quiet s) ∧ (4 ≤ n ∧ n < 8) ∧ (1 ≤ (s.elapse dt).levelOf who) ∧ ((s.crcContext n).holder = some who) ∧ (s.ocu.contexts.length = 8) :=
  ⟨0, 0xFFFF, 5, crcHeld, by decide +kernel⟩

theorem witness_PresetsLoadTheStandardChecks_5 : ∃ (dt who n : Nat) (s : State), (Quiet s) ∧ (4 ≤ n ∧ n < 8) ∧ (1 ≤ (s.elapse dt).levelOf who) ∧ ((s.crcContext n).holder = some who) ∧ (s.ocu.contexts.length = 8) :=
  ⟨0, 0xFFFF, 5, crcHeld, by decide +kernel⟩

theorem witness_PresetsLoadTheStandardChecks_6 : ∃ (dt who n value : Nat) (s : State), (Quiet s) ∧ (4 ≤ n ∧ n < 8) ∧ (1 ≤ (s.elapse dt).levelOf who) ∧ ((s.crcContext n).holder = some who) ∧ (5 ≤ value ∧ value ≤ 255) :=
  ⟨0, 0xFFFF, 5, 5, crcHeld, by decide +kernel⟩

theorem witness_DrumTakesAndGivesWords_1 : ∃ (dt code prio a : Nat) (s : State), (Takes s prio) ∧ (0x1000 ≤ code ∧ code ≤ 0xFFFF ∧ prio ≤ 7) :=
  ⟨0, 0x9001, 7, 5, ingesting, by decide +kernel⟩

theorem witness_DrumTakesAndGivesWords_2 : ∃ (dt code prio a b : Nat) (s : State), (Takes s prio) ∧ (0x1000 ≤ code ∧ code ≤ 0xFFFF ∧ prio ≤ 7) :=
  ⟨0, 0x9001, 4, 5, 6, ingesting, by decide +kernel⟩

theorem witness_DrumTakesAndGivesWords_3 : ∃ (dt code prio a : Nat) (s : State), (Quiet s) ∧ (0x1000 ≤ code ∧ code ≤ 0xFFFF) ∧ (prio < 7 ∧ prio < s.reg .DRM_MIN_PRIORITY) ∧ (s.reg .DRM_FILTERED < 2 ^ 31 - 1) :=
  ⟨0, 0x9001, 4, 5, ingesting.setReg .DRM_MIN_PRIORITY 5, by decide +kernel⟩

theorem witness_DrumTakesAndGivesWords_4 : ∃ (dt code prio a : Nat) (old : DrumWord) (rest : List DrumWord) (s : State), (Takes s prio) ∧ (0x1000 ≤ code ∧ code ≤ 0xFFFF ∧ prio ≤ 7) ∧ (s.drum.words = old :: rest) ∧ (rest.length = 63) ∧ (old.priority ≤ 7) ∧ (s.reg .DRM_LOST < 2 ^ 31 - 1) ∧ (s.reg (.DRM_LOST_PRIO (old.priority + 1)) < 2 ^ 31 - 1) :=
  ⟨0, 0x9001, 4, 5, ⟨.single, 2, 0x1234, 0⟩, List.replicate 63 ⟨.single, 2, 0x1234, 0⟩, drumHolding (List.replicate 64 ⟨.single, 2, 0x1234, 0⟩), by decide +kernel⟩

theorem witness_DrumTakesAndGivesWords_5 : ∃ (dt who : Nat) (s : State), (Quiet s) ∧ (1 ≤ (s.elapse dt).levelOf who) ∧ (s.drum.words ≠ []) :=
  ⟨0, 0xFFFF, drumHolding [⟨.single, 2, 0x1234, 0⟩, ⟨.single, 4, 0x1235, 1⟩, ⟨.single, 4, 0x1236, 2⟩], by decide +kernel⟩

theorem witness_DrumTakesAndGivesWords_6 : ∃ (dt who : Nat) (s : State), (Quiet s) ∧ (1 ≤ (s.elapse dt).levelOf who) ∧ (s.drum.words = []) :=
  ⟨0, 0xFFFF, ingesting, by decide +kernel⟩

theorem witness_DrumTakesAndGivesWords_7 : ∃ (dt who : Nat) (s : State), (Quiet s) ∧ (1 ≤ (s.elapse dt).levelOf who) ∧ (s.drum.words.length ≤ 64) :=
  ⟨0, 0xFFFF, drumHolding [⟨.single, 2, 0x1234, 0⟩, ⟨.single, 4, 0x1235, 1⟩], by decide +kernel⟩

theorem witness_DrumTakesAndGivesWords_8 : ∃ (dt who : Nat) (s : State), (Quiet s) ∧ (1 ≤ (s.elapse dt).levelOf who) ∧ (s.reg .DRM_FLUSHED + s.drum.words.length < 2 ^ 31) :=
  ⟨0, 0xFFFF, drumHolding [⟨.single, 2, 0x1234, 0⟩], by decide +kernel⟩

theorem witness_DrumTakesAndGivesWords_9 : ∃ (dt who value : Nat) (s : State), (Quiet s) ∧ (1 ≤ (s.elapse dt).levelOf who) :=
  ⟨0, 0xFFFF, 8, ingesting.setReg .DRM_FAULT_SUMMARY 0x208, by decide +kernel⟩

theorem witness_MemoryRoundsAndWindows_1 : ∃ (dt port : Nat) (s : State), (1 ≤ port ∧ port ≤ 9) ∧ (s.mem.owner = none ∧ s.mem.raised = [] ∧ s.mem.queue = [] ∧ s.mem.newMode = none) ∧ (s.reg .MEM_ARB_MODE = 1) :=
  ⟨0, 4, ingesting.setReg .MEM_ARB_MODE 1, by decide +kernel⟩

theorem witness_MemoryRoundsAndWindows_2 : ∃ (dt port owner : Nat) (s : State), (Quiet s) ∧ (1 ≤ port ∧ port ≤ 9) ∧ (s.mem.owner = some owner) ∧ ((s.mem.raised.any fun r => r.port == port) = false) ∧ (s.reg .MEM_ARB_MODE = 1) :=
  ⟨0, 4, 2, memOwned [], by decide +kernel⟩

theorem witness_MemoryRoundsAndWindows_3 : ∃ (dt octets conflicts corrected owner : Nat) (r : MemRequest) (s : State), (s.mem.owner = some owner) ∧ (1 ≤ owner ∧ owner ≤ 9) ∧ (1 ≤ r.port ∧ r.port ≤ 9) ∧ (s.mem.raised = [r] ∧ s.mem.queue = [] ∧ s.mem.newMode = none) ∧ (s.reg .MEM_ARB_MODE = 1) ∧ (octets ≤ s.reg (.MEM_REQ_MAX_BURST (owner - 1))) :=
  ⟨0, 256, 1, 0, 2, ⟨4, 0⟩, memOwned [⟨4, 0⟩], by decide +kernel⟩

theorem witness_MemoryRoundsAndWindows_4 : ∃ (dt : Nat) (s : State), (s.mem.owner.isSome = true) :=
  ⟨0, memOwned [], by decide +kernel⟩

theorem witness_MemoryRoundsAndWindows_5 : ∃ (dt : Nat) (s : State), (s.mem.owner.isSome = true) ∧ (s.debugOpen = true) :=
  ⟨0, { memOwned [] with idp := { (memOwned []).idp with sessions := [serviceSession] } }, by decide +kernel⟩

theorem witness_MemoryRoundsAndWindows_6 : ∃ (dt : Nat) (s : State), (s.debugOpen = false) ∧ (Quiet s) :=
  ⟨0, memOwned [], by decide +kernel⟩

theorem witness_MemoryRoundsAndWindows_7 : ∃ (dt owner : Nat) (s : State), (Quiet s) ∧ (s.mem.owner = some owner) ∧ (s.mem.overrun = false) ∧ (400 * s.reg (.MEM_REQ_MAX_BURST (owner - 1)) < (s.ticks + dt - s.mem.grantAt) * 128 * 31) :=
  ⟨100000, 2, memOwned [], by decide +kernel⟩

theorem witness_MemoryRoundsAndWindows_8 : ∃ (dt : Nat) (s : State), (s.mem.windowStart + nsTicks (s.reg .MEM_CONFLICT_WINDOW_MS * 1000000) ≤ s.ticks + dt) :=
  ⟨10000000000, memOwned [], by decide +kernel⟩

theorem witness_MemoryErrorsActAndRestart_2 : ∃ (dt port address : Nat) (s : State), (Takes s 6) ∧ (port ≠ 6 ∧ port ≠ 7) :=
  ⟨0, 3, 64, ingesting, by decide +kernel⟩

theorem witness_MemoryErrorsActAndRestart_3 : ∃ (dt port address : Nat) (zone : Option Nat) (s : State), (port = 6 ∨ port = 7) ∧ (s.sys.releasedAt.isSome = true) :=
  ⟨0, 6, 64, none, releasedState, by decide +kernel⟩

theorem witness_MemoryErrorsActAndRestart_4 : ∃ (dt c0 c1 a b : Nat) (s : State), (s.mem.odecc = [a, b]) :=
  ⟨0, 4, 0, 0, 0, ingesting, by decide +kernel⟩

theorem witness_MemoryErrorsActAndRestart_6 : ∃ (dt : Nat) (s : State), (s.mem.owner.isSome = true) ∧ (s.sys.releasedAt.isSome = true) ∧ (s.mem.grantAt + nsTicks 100000 ≤ s.ticks + dt) :=
  ⟨1000000, { releasedState with mem := (memOwned []).mem }, by decide +kernel⟩

theorem witness_MemoryErrorsActAndRestart_8 : ∃ (dt address copy : Nat) (other reload : Bool) (s : State), (Quiet s) ∧ (s.epochs ≠ []) :=
  ⟨0, 5, 0, false, false, oneEpoch, by decide +kernel⟩

theorem witness_MemoryErrorsActAndRestart_9 : ∃ (dt address copy : Nat) (other reload : Bool) (s : State), (s.sys.releasedAt.isSome = true) :=
  ⟨0, 5, 0, false, false, releasedState, by decide +kernel⟩

theorem witness_SignalMapPassesAndUniverses_1 : ∃ (dt who : Nat) (s : State), (Quiet s) ∧ (1 ≤ (s.elapse dt).levelOf who) ∧ (s.reg .MAP_CHANGE = 0) ∧ (signalMapRefusal s.smap.admin = none) :=
  ⟨0, 0xFFFF, State.reset, by decide +kernel⟩

theorem witness_SignalMapPassesAndUniverses_2 : ∃ (dt who reason entry : Nat) (s : State), (Takes s 4) ∧ (1 ≤ (s.elapse dt).levelOf who) ∧ (s.reg .MAP_CHANGE = 0) ∧ (signalMapRefusal s.smap.admin = some (reason, entry)) :=
  ⟨0, 0xFFFF, 1, 0, State.reset.modMap fun m => { m with admin := [1] }, by decide +kernel⟩

theorem witness_SignalMapPassesAndUniverses_3 : ∃ (dt who : Nat) (s : State), (Quiet s) ∧ (1 ≤ (s.elapse dt).levelOf who) ∧ (s.reg .MAP_CHANGE = 1) :=
  ⟨0, 0xFFFF, (State.reset.setReg .MAP_CHANGE 1).modMap fun m => { m with requestedAt := some 0 }, by decide +kernel⟩

theorem witness_SignalMapPassesAndUniverses_4 : ∃ (dt who : Nat) (s : State), (Quiet s) ∧ (1 ≤ (s.elapse dt).levelOf who) ∧ (s.reg .MAP_CHANGE ≠ 1) :=
  ⟨0, 0xFFFF, State.reset, by decide +kernel⟩

theorem witness_SignalMapPassesAndUniverses_5 : ∃ (dt : Nat) (s : State), (s.lantern.gridOn = true) ∧ (s.smap.lastPass.getD 0 ≠ (s.elapse dt).passPeriod) ∧ (s.reg .MAP_CHANGE = 0) ∧ (∀ w ∈ s.smap.oper, mapOn w = false ∨ dstKind w < 2) :=
  ⟨100000000, mapState [mapToLamp], by decide +kernel⟩

theorem witness_SignalMapPassesAndUniverses_6 : ∃ (dt w : Nat) (o : MapOutput) (s : State), (s.smap.oper = [w]) ∧ (s.smap.outputs = [o]) ∧ (mapOn w = true ∧ dstKind w = 2) ∧ (o.waits = true ∧ o.claiming = true) ∧ (o.written ≠ some (targetValue w o.z)) ∧ (o.writtenAt = none) ∧ (128 ≤ s.reg .TWN_CLAIM) ∧ ((s.link (dstLink w)).lock = none) ∧ (s.brgStop (dstLink w) (dstModule w) = none) ∧ (s.spire.length = 64 ∧ dstLink w < 64) :=
  ⟨0, mapToModule, { MapOutput.reset with z := 5000, live := true, claiming := true, waits := true }, mapWaiting, by decide +kernel⟩

theorem witness_SignalMapPassesAndUniverses_7 : ∃ (dt n : Nat) (p : SacnPacket) (s : State), (s.universeEntry p.number = some n) ∧ (p.wellFormed = true ∧ p.preview = false ∧ p.terminated = false ∧ p.startCode = 0) ∧ (p.priority ≤ 200 ∧ p.slots.length ≤ 512) ∧ ((s.universeOf n).sources = []) ∧ (s.smap.universes.length = 64) :=
  ⟨0, 3, sacn1, universeState [], by decide +kernel⟩

theorem witness_SignalMapPassesAndUniverses_8 : ∃ (dt n : Nat) (p : SacnPacket) (x : SacnSource) (s : State), (s.universeEntry p.number = some n) ∧ (p.wellFormed = true ∧ p.preview = false ∧ p.startCode = 0) ∧ (p.priority ≤ 200 ∧ p.slots.length ≤ 512) ∧ ((s.universeOf n).sources.find? (fun y => y.cid == p.cid) = some x) ∧ ((p.seq + 256 - x.seq) % 256 = 0 ∨ 237 ≤ (p.seq + 256 - x.seq) % 256) :=
  ⟨0, 3, sacn1, ⟨77, 9, 100, [1, 2], 0, 0⟩, universeState [⟨77, 9, 100, [1, 2], 0, 0⟩], by decide +kernel⟩

theorem witness_SignalMapPassesAndUniverses_9 : ∃ (dt n : Nat) (s : State), (n < 64 ∧ s.smap.universes.length = 64) ∧ ((s.universeOf n).sources ≠ []) ∧ (∀ x ∈ (s.universeOf n).sources, x.lastAt + nsTicks (s.reg .DMX_SACN_LOSS_MS * 1000000) ≤ s.ticks + dt) :=
  ⟨10000000000, 3, universeState [⟨77, 9, 100, [1, 2], 0, 0⟩], by decide +kernel⟩

theorem witness_DmxPortsSendAndReceive_1 : ∃ (dt port : Nat) (s : State), (Quiet s) ∧ (port < 8) ∧ (s.smap.ports.length = 8) ∧ ((s.dmx port).mode = 2) ∧ (s.smap.lastPass ≠ none) ∧ ((s.elapse dt).dmxBusy port = false) ∧ ((s.dmx port).txStart = none) ∧ (s.dmxHeld port = false) :=
  ⟨0, 4, dmxState 2 id, by decide +kernel⟩

theorem witness_DmxPortsSendAndReceive_2 : ∃ (dt port e : Nat) (s : State), (port < 8) ∧ (s.smap.ports.length = 8) ∧ ((s.dmx port).txEnd = some e) ∧ (e ≤ s.ticks + dt) ∧ ((s.dmx port).newMode = none) ∧ ((s.dmx port).exchange = none) :=
  ⟨9, 4, 5, dmxState 2 fun d => { d with txEnd := some 5 }, by decide +kernel⟩

theorem witness_DmxPortsSendAndReceive_3 : ∃ (dt port e : Nat) (x : RdmExchange) (s : State), (port < 8) ∧ (s.smap.ports.length = 8) ∧ ((s.dmx port).txEnd = some e) ∧ (e ≤ s.ticks + dt) ∧ ((s.dmx port).newMode = none) ∧ ((s.dmx port).exchange = some x) ∧ (x.timer = none ∧ x.answered = true) ∧ (s.flag (.DMX_RDM_ENABLE port) = true) :=
  ⟨9, 4, 5, rdmWaiting, (dmxState 2 fun d => { d with txEnd := some 5, exchange := some rdmWaiting }), by decide +kernel⟩

theorem witness_DmxPortsSendAndReceive_4 : ∃ (dt port : Nat) (slots : List Nat) (s : State), (port < 8) ∧ (s.smap.ports.length = 8) ∧ ((s.dmx port).mode = 1) ∧ (slots.length ≤ 512) :=
  ⟨0, 4, [1, 2], dmxState 1 id, by decide +kernel⟩

theorem witness_DmxPortsSendAndReceive_5 : ∃ (dt port code : Nat) (slots : List Nat) (s : State), (port < 8) ∧ (s.smap.ports.length = 8) ∧ ((s.dmx port).mode = 1) ∧ (code ≠ 0) :=
  ⟨0, 4, 204, [1, 2], dmxState 1 id, by decide +kernel⟩

theorem witness_DmxPortsSendAndReceive_6 : ∃ (dt port : Nat) (s : State), (Takes s 4) ∧ (port < 8) ∧ (s.smap.ports.length = 8) ∧ ((s.dmx port).mode = 1 ∧ (s.dmx port).live = true) ∧ (s.idp.sessions = []) ∧ ((s.dmx port).lastValid + usTicks (1000 * s.reg (.DMX_RX_LOSS_MS port)) ≤ s.ticks + dt) :=
  ⟨10000000000, 4, dmxState 1 fun d => { d with live := true }, by decide +kernel⟩

theorem witness_DmxPortsSendAndReceive_7 : ∃ (dt who port value : Nat) (s : State), (Quiet s) ∧ (port < 8) ∧ (s.smap.ports.length = 8) ∧ (1 ≤ (s.elapse dt).levelOf who) ∧ (value ≤ 1) ∧ ((s.elapse dt).dmxBusy port = false) ∧ ((s.dmx port).live = false) :=
  ⟨0, 0xFFFF, 4, 1, dmxState 2 id, by decide +kernel⟩

theorem witness_RdmRequestsAndDiscovery_1 : ∃ (dt who port dest cls pid : Nat) (data : List Octet) (s : State), (Quiet s) ∧ (port < 8) ∧ (s.smap.ports.length = 8) ∧ (1 ≤ (s.elapse dt).levelOf who) ∧ (data.length ≤ 231) ∧ ((s.dmx port).exchange = none) ∧ (s.reg (.DMX_RDM_DISCOVER port) ≠ 1) ∧ (s.flag (.DMX_RDM_ENABLE port) = true) ∧ ((s.dmx port).mode = 2) :=
  ⟨0, 0xFFFF, 4, 0x112200000001, 0x20, 0x60, [], dmxState 2 id, by decide +kernel⟩

theorem witness_RdmRequestsAndDiscovery_2 : ∃ (dt port e : Nat) (p : RdmPacket) (x : RdmExchange) (s : State), (Quiet s) ∧ (port < 8) ∧ (s.smap.ports.length = 8) ∧ ((s.dmx port).exchange = some x) ∧ ((s.dmx port).newMode = none) ∧ (x.purpose = .request) ∧ (x.sentAt = some e) ∧ (p.checksumOk = true ∧ p.transaction = x.transaction ∧ p.kind = 0) :=
  ⟨0, 4, 0, ⟨true, 0, 0x112200000001, 0, 0, 0x21, 0x60, [1, 2]⟩, { rdmWaiting with sentAt := some 0 }, dmxState 2 fun d => { d with exchange := some { rdmWaiting with sentAt := some 0 } }, by decide +kernel⟩

theorem witness_RdmRequestsAndDiscovery_3 : ∃ (dt port e : Nat) (x : RdmExchange) (s : State), (Quiet s) ∧ (port < 8) ∧ (s.smap.ports.length = 8) ∧ ((s.dmx port).exchange = some x) ∧ ((s.dmx port).newMode = none) ∧ (x.purpose = .request) ∧ (x.sentAt = some e) ∧ (e + usTicks 2800 ≤ s.ticks + dt) ∧ (x.resends < s.reg (.DMX_RDM_RETRIES port)) :=
  ⟨10000000, 4, 0, { rdmWaiting with sentAt := some 0 }, dmxState 2 fun d => { d with exchange := some { rdmWaiting with sentAt := some 0 } }, by decide +kernel⟩

theorem witness_RdmRequestsAndDiscovery_4 : ∃ (dt port e : Nat) (x : RdmExchange) (s : State), (port < 8) ∧ (s.smap.ports.length = 8) ∧ ((s.dmx port).exchange = some x) ∧ ((s.dmx port).newMode = none) ∧ (x.purpose = .request) ∧ (x.sentAt = some e) ∧ (e + usTicks 2800 ≤ s.ticks + dt) ∧ (s.reg (.DMX_RDM_RETRIES port) ≤ x.resends) :=
  ⟨10000000, 4, 0, { rdmWaiting with sentAt := some 0, resends := 20 }, dmxState 2 fun d => { d with exchange := some { rdmWaiting with sentAt := some 0, resends := 20 } }, by decide +kernel⟩

theorem witness_RdmRequestsAndDiscovery_5 : ∃ (dt port e : Nat) (x : RdmExchange) (s : State), (Quiet s) ∧ (port < 8) ∧ (s.smap.ports.length = 8) ∧ ((s.dmx port).exchange = some x) ∧ (x.timer = some e) ∧ (e ≤ s.ticks + dt) :=
  ⟨9, 4, 5, { rdmWaiting with timer := some 5 }, dmxState 2 fun d => { d with exchange := some { rdmWaiting with timer := some 5 } }, by decide +kernel⟩

theorem witness_RdmRequestsAndDiscovery_6 : ∃ (dt who port : Nat) (s : State), (Quiet s) ∧ (port < 8) ∧ (s.smap.ports.length = 8) ∧ (1 ≤ (s.elapse dt).levelOf who) ∧ ((s.dmx port).exchange = none) ∧ (s.reg (.DMX_RDM_DISCOVER port) ≠ 1) ∧ (s.flag (.DMX_RDM_ENABLE port) = true) ∧ ((s.dmx port).mode = 2) :=
  ⟨0, 0xFFFF, 4, dmxState 2 id, by decide +kernel⟩

theorem witness_RdmRequestsAndDiscovery_7 : ∃ (dt who port : Nat) (s : State), (Quiet s) ∧ (port < 8) ∧ (s.smap.ports.length = 8) ∧ (1 ≤ (s.elapse dt).levelOf who) ∧ (s.reg (.DMX_RDM_STATUS port) = 1) ∧ ((s.dmx port).newMode = none) :=
  ⟨0, 0xFFFF, 4, (dmxState 2 fun d => { d with exchange := some rdmWaiting }).setReg (.DMX_RDM_STATUS 4) 1, by decide +kernel⟩

theorem witness_RdmRequestsAndDiscovery_8 : ∃ (dt port : Nat) (p : RdmPacket) (ready : Bool) (s : State), (port < 8) ∧ (s.smap.ports.length = 8) ∧ (s.rdmForUs port p = true) ∧ (p.checksumOk = true) ∧ (p.cls = 0x10 ∧ p.pid = 0x0002) ∧ (rdmBroadcast p.dest = false) :=
  ⟨0, 4, ⟨true, State.reset.unit.rdmUid, 0x112200000001, 3, 1, 0x10, 2, []⟩, true, dmxState 1 id, by decide +kernel⟩

theorem witness_RdmRequestsAndDiscovery_9 : ∃ (dt port dest source transaction : Nat) (s : State), (port < 8) ∧ (s.smap.ports.length = 8) ∧ (s.rdmForUs port ⟨true, dest, source, transaction, 1, 0x20, 0x8A01, []⟩ = true) ∧ (rdmBroadcast dest = false) ∧ (s.flag .DIC_RDM_IDP = true) :=
  ⟨0, 4, State.reset.unit.rdmUid, 0x112200000001, 3, dmxState 1 id, by decide +kernel⟩

theorem witness_RdmRequestsAndDiscovery_10 : ∃ (dt port dest source transaction : Nat) (s : State), (port < 8) ∧ (s.smap.ports.length = 8) ∧ (s.rdmForUs port ⟨true, dest, source, transaction, 1, 0x20, 0x8A02, []⟩ = true) ∧ (rdmBroadcast dest = false) ∧ (s.flag .DIC_RDM_IDP = true) :=
  ⟨0, 4, State.reset.unit.rdmUid, 0x112200000001, 3, dmxState 1 id, by decide +kernel⟩

theorem witness_BridgeTransfersStartAndEnd_1 : ∃ (dt who : Nat) (s : State), (Quiet s) ∧ ((s.brg who).transfer = none) ∧ (s.spire.length = 64 ∧ (s.brg who).link < 64) ∧ ((s.link (s.brg who).link).lock = none) ∧ (s.brgStop (s.brg who).link (s.brg who).module = none) ∧ ((s.brg who).addr + (s.brg who).len ≤ 2 ^ 24) :=
  ⟨0, 0xFFFF, brgReady id, by decide +kernel⟩

theorem witness_BridgeTransfersStartAndEnd_2 : ∃ (dt who : Nat) (s : State), (Quiet s) ∧ ((s.brg who).transfer ≠ none) :=
  ⟨0, 4, brgPending 2 .bridge, by decide +kernel⟩

theorem witness_BridgeTransfersStartAndEnd_3 : ∃ (dt who : Nat) (data : List Octet) (s : State), (Quiet s) ∧ (1 ≤ (s.elapse dt).levelOf who) ∧ ((s.brg who).transfer = none) ∧ (s.spire.length = 64 ∧ (s.brg who).link < 64) ∧ ((s.link (s.brg who).link).lock = none) ∧ (s.brgStop (s.brg who).link (s.brg who).module = none) ∧ (data.length = (s.brg who).len) ∧ ((s.brg who).addr + (s.brg who).len ≤ 0x7FF000) :=
  ⟨0, 0xFFFF, [1, 2, 3, 4], brgReady id, by decide +kernel⟩

theorem witness_BridgeTransfersStartAndEnd_4 : ∃ (dt who : Nat) (data : List Octet) (s : State), (Quiet s) ∧ (1 ≤ (s.elapse dt).levelOf who) ∧ ((s.brg who).transfer = none) ∧ (data.length = (s.brg who).len) ∧ (0x7FF000 < (s.brg who).addr + (s.brg who).len) ∧ ((s.brg who).addr + (s.brg who).len ≤ 2 ^ 24) :=
  ⟨0, 0xFFFF, [1, 2, 3, 4], brgReady fun b => { b with addr := 0x7FF000 }, by decide +kernel⟩

theorem witness_BridgeTransfersStartAndEnd_5 : ∃ (dt who : Nat) (s : State), (Quiet s) ∧ (1 ≤ (s.elapse dt).levelOf who) ∧ ((s.brg who).transfer = none) ∧ (s.spire.length = 64 ∧ (s.brg who).link < 64) ∧ ((s.link (s.brg who).link).lock = none) ∧ (s.brgStop (s.brg who).link (s.brg who).module = none) ∧ ((s.brg who).lock = 0) :=
  ⟨0, 0xFFFF, brgReady id, by decide +kernel⟩

theorem witness_BridgeTransfersStartAndEnd_6 : ∃ (dt who : Nat) (s : State), (Quiet s) ∧ (1 ≤ (s.elapse dt).levelOf who) ∧ ((s.brg who).transfer = none) ∧ (s.spire.length = 64 ∧ (s.brg who).lockedLink < 64) ∧ (∀ x ∈ (s.link (s.brg who).lockedLink).lock.toList, x.session = who) ∧ (s.brgStop (s.brg who).lockedLink (s.brg who).lockedModule = none) ∧ ((s.brg who).lock = 2) :=
  ⟨0, 0xFFFF, brgReady fun b => { b with lock := 2, lockedLink := 3, lockedModule := 1 }, by decide +kernel⟩

theorem witness_BridgeTransfersStartAndEnd_7 : ∃ (dt who : Nat) (x : BrgTransfer) (s : State), (Quiet s) ∧ (1 ≤ (s.elapse dt).levelOf who) ∧ ((s.brg who).transfer = some x) ∧ (x.op = 2) ∧ (s.spire.length = 64 ∧ x.link < 64) :=
  ⟨0, 0xFFFF, ⟨2, 3, 1, 9, false⟩, brgReady fun b => { b with transfer := some ⟨2, 3, 1, 9, false⟩, status := 1 }, by decide +kernel⟩

theorem witness_BridgeTransfersStartAndEnd_8 : ∃ (dt who : Nat) (s : State), (Quiet s) ∧ (1 ≤ (s.elapse dt).levelOf who) ∧ ((s.brg who).transfer = none) :=
  ⟨0, 0xFFFF, brgReady id, by decide +kernel⟩

theorem witness_BridgeTransfersStartAndEnd_9 : ∃ (dt who : Nat) (s : State), (Quiet s) ∧ (1 ≤ (s.elapse dt).levelOf who) :=
  ⟨0, 0xFFFF, brgReady id, by decide +kernel⟩

theorem witness_PartnerClaimsAndPaths_1 : ∃ (dt word : Nat) (s : State), (s.reg .TWN_STATE = 2) ∧ (s.twin.lastWseq = none) ∧ (field word 31 28 = 13 ∧ field word 7 0 = crcOf crc8 (beOctets 3 (field word 31 8))) :=
  ⟨0, claimWord 200 5 7, twinState 2, by decide +kernel⟩

theorem witness_PartnerClaimsAndPaths_2 : ∃ (dt word : Nat) (s : State), (field word 31 28 ≠ 13 ∨ field word 7 0 ≠ crcOf crc8 (beOctets 3 (field word 31 8))) :=
  ⟨0, 0, twinState 2, by decide +kernel⟩

theorem witness_PartnerClaimsAndPaths_3 : ∃ (dt : Nat) (m : MirMessage) (s : State), (s.reg .TWN_STATE = 2) ∧ (s.reg .TWN_MIR_STATE = 2) ∧ (m.checkOk = true) :=
  ⟨0, ⟨true, 150, 0, 0, [4, 3, 2, 1, 0, 0, 0, 0]⟩, mirroring 2, by decide +kernel⟩

theorem witness_PartnerClaimsAndPaths_4 : ∃ (dt x y : Nat) (s : State), (Takes s 6) ∧ (s.reg .TWN_STATE = 4) ∧ (0 < s.reg .TWN_CLAIM) ∧ (s.twin.wordAt = some x ∧ s.twin.beatAt = some y) ∧ (x + 8192 ≤ s.ticks + dt ∧ y + 8192 ≤ s.ticks + dt) ∧ (s.epochs = [] ∧ s.belfry.slots = []) :=
  ⟨9000, 0, 0, standbyState, by decide +kernel⟩

theorem witness_PartnerClaimsAndPaths_5 : ∃ (dt x : Nat) (s : State), (Takes s 6) ∧ (s.reg .TWN_STATE = 2) ∧ (s.twin.wordAt = some x ∧ s.twin.beatAt = none) ∧ (x + 8192 ≤ s.ticks + dt) :=
  ⟨9000, 0, (twinState 2).modTwin fun t => { t with wordAt := some 0 }, by decide +kernel⟩

theorem witness_PartnerClaimsAndPaths_6 : ∃ (dt x y : Nat) (s : State), (Takes s 5) ∧ (s.twin.wordAt = some x ∧ s.twin.beatAt = some y) ∧ (x + 8192 ≤ s.ticks + dt ∧ s.ticks + dt < y + 8192) :=
  ⟨9000, 0, 5000, (twinState 2).modTwin fun t => { t with wordAt := some 0, beatAt := some 5000 }, by decide +kernel⟩

theorem witness_PartnerClaimsAndPaths_7 : ∃ (dt : Nat) (s : State), (Takes s 3) ∧ (s.reg .TWN_STATE ≠ 0 ∧ s.reg .TWN_STATE ≠ 3) ∧ (s.reg .TWN_MIR_STATE ≠ 2) :=
  ⟨0, twinState 2, by decide +kernel⟩

theorem witness_PartnerClaimsAndPaths_8 : ∃ (dt : Nat) (s : State), (Takes s 5) ∧ (s.reg .TWN_MIR_STATE = 2) ∧ (s.twin.join = none) :=
  ⟨0, mirroring 5, by decide +kernel⟩

theorem witness_PartnerClaimsAndPaths_9 : ∃ (dt : Nat) (x : MirSent) (s : State), (s.reg .TWN_MIR_STATE = 2) ∧ (s.twin.sent = [x]) ∧ (x.sentAt + 15625 ≤ s.ticks + dt) ∧ (x.resends < 3) :=
  ⟨20000, ⟨0x20, 1, [5], 0, 0⟩, (mirroring 5).modTwin fun t => { t with sent := [⟨0x20, 1, [5], 0, 0⟩] }, by decide +kernel⟩

theorem witness_PartnerClaimsAndPaths_10 : ∃ (dt : Nat) (m : MirMessage) (s : State), (Quiet s) ∧ (s.reg .TWN_MIR_STATE = 2) ∧ (m.checkOk = true) :=
  ⟨0, ⟨true, 150, 0, 0, [1, 0, 0, 0]⟩, (mirroring 5).modTwin fun t => { t with sent := [⟨0x20, 1, [5], 0, 0⟩] }, by decide +kernel⟩

theorem witness_PairsFormJoinAndYield_1 : ∃ (dt x : Nat) (s : State), (s.reg .TWN_STATE = 1) ∧ (s.twin.wordsFrom = some x ∧ s.twin.wordAt = none) ∧ (x + usTicks (1000 * s.reg .TWN_PAIR_WAIT_MS) ≤ s.ticks + dt) ∧ (s.canDrive = true) :=
  ⟨10000000000, 0, ((twinState 1).setReg .LAN_STATE 2).modTwin fun t => { t with wordsFrom := some 0 }, by decide +kernel⟩

theorem witness_PairsFormJoinAndYield_2 : ∃ (dt : Nat) (m : MirMessage) (s : State), (Takes s 5) ∧ (s.reg .TWN_MIR_STATE = 2) ∧ (m.checkOk = true) ∧ (m.mseq = s.twin.rxSeq) ∧ (s.twin.held = []) ∧ (s.reg .TWN_STATE ≠ 0) ∧ (bitOf (s.reg .TWN_FLAGS) 2 = false) ∧ (ofLe (slice m.payload 8 1) ≠ s.reg .DIC_ROLE) :=
  ⟨0, ⟨true, 150, 1, 0, leOctets 8 9 ++ [7] ++ List.replicate 12 0⟩, mirroring 1, by decide +kernel⟩

theorem witness_PairsFormJoinAndYield_3 : ∃ (dt : Nat) (m : MirMessage) (s : State), (Takes s 3) ∧ (s.reg .TWN_MIR_STATE = 2) ∧ (m.checkOk = true) ∧ (m.mseq = s.twin.rxSeq) ∧ (s.twin.held = []) ∧ (s.reg .TWN_STATE = 1) ∧ (s.canDrive = true) ∧ (bitOf (s.reg .TWN_FLAGS) 2 = false) ∧ (ofLe (slice m.payload 8 1) = s.reg .DIC_ROLE ∧ ofLe (slice m.payload 9 2) = s.reg .DIC_BEHAVIOUR_LEVEL ∧ ofLe (slice m.payload 11 8) = s.reg .UPD_RUNNING_ID) ∧ (ofLe (slice m.payload 20 1) = 5) :=
  ⟨0, ⟨true, 150, 1, 0, leOctets 8 9 ++ leOctets 1 ((mirroring 1).reg .DIC_ROLE) ++ leOctets 2 ((mirroring 1).reg .DIC_BEHAVIOUR_LEVEL) ++ leOctets 8 ((mirroring 1).reg .UPD_RUNNING_ID) ++ [0, 5]⟩, (mirroring 1).setReg .LAN_STATE 2, by decide +kernel⟩

theorem witness_PairsFormJoinAndYield_4 : ∃ (dt : Nat) (m : MirMessage) (j : JoinState) (s : State), (Takes s 2) ∧ (s.reg .TWN_MIR_STATE = 2) ∧ (m.checkOk = true) ∧ (m.mseq = s.twin.rxSeq) ∧ (s.twin.held = []) ∧ (s.twin.join = some j) ∧ (j.joining = true) :=
  ⟨0, ⟨true, 150, 1, 0, [9, 0, 1, 2, 3, 4, 5, 6, 7, 8]⟩, ⟨true, none, 0, 1⟩, (mirroring 3).modTwin fun t => { t with join := some ⟨true, none, 0, 1⟩ }, by decide +kernel⟩

theorem witness_PairsFormJoinAndYield_5 : ∃ (dt : Nat) (m : MirMessage) (j : JoinState) (s : State), (Quiet s) ∧ (s.reg .TWN_MIR_STATE = 2) ∧ (m.checkOk = true) ∧ (m.mseq = s.twin.rxSeq) ∧ (s.twin.held = []) ∧ (s.twin.join = some j) ∧ (j.joining = true) ∧ (ofLe (m.payload.take 1) = 2) :=
  ⟨0, ⟨true, 150, 1, 0, [2, 9, 0]⟩, ⟨true, none, 0, 1⟩, (mirroring 3).modTwin fun t => { t with join := some ⟨true, none, 0, 1⟩ }, by decide +kernel⟩

theorem witness_PairsFormJoinAndYield_6 : ∃ (dt x : Nat) (s : State), (Takes s 4) ∧ (s.reg .TWN_MIR_STATE = 2) ∧ (s.reg .TWN_STATE = 5) ∧ (s.twin.partnerState = 4) ∧ (s.twin.partnerD + s.reg .TWN_YIELD_MARGIN ≤ s.reg .TWN_DEDUCTION) ∧ (s.twin.yieldSince = some x) ∧ (x + usTicks 100000 ≤ s.ticks + dt) :=
  ⟨100000000, 0, ((mirroring 5).setReg .TWN_DEDUCTION 100).modTwin fun t => { t with partnerState := 4, yieldSince := some 0 }, by decide +kernel⟩

theorem witness_PairsFormJoinAndYield_7 : ∃ (dt who : Nat) (s : State), (Quiet s) ∧ (1 ≤ (s.elapse dt).levelOf who) ∧ (s.reg .TWN_STATE = 6) ∧ (s.reg .TWN_MIR_STATE = 2) :=
  ⟨0, 0xFFFF, mirroring 6, by decide +kernel⟩

theorem witness_PairsFormJoinAndYield_8 : ∃ (dt who value : Nat) (s : State), (Quiet s) ∧ (1 ≤ (s.elapse dt).levelOf who) ∧ (value ≠ 1) :=
  ⟨0, 0xFFFF, 0, mirroring 6, by decide +kernel⟩

theorem witness_MirroredWritesAndRecords_1 : ∃ (dt e k sig : Nat) (m : MirMessage) (s : State), (s.reg .TWN_MIR_STATE = 2) ∧ (m.checkOk = true) ∧ (m.mseq = s.twin.rxSeq) ∧ (s.twin.held = []) ∧ (e < 65536 ∧ k < 64 ∧ sig < 2 ^ 32) ∧ (m.payload = leOctets 2 e ++ leOctets 1 k ++ leOctets 4 sig) :=
  ⟨0, 5, 3, 99, ⟨true, 150, 1, 0, leOctets 2 5 ++ leOctets 1 3 ++ leOctets 4 99⟩, mirroring 5, by decide +kernel⟩

theorem witness_MirroredWritesAndRecords_2 : ∃ (dt e sig mask : Nat) (m : MirMessage) (s : State), (Quiet s) ∧ (s.reg .TWN_MIR_STATE = 2) ∧ (m.checkOk = true) ∧ (m.mseq = s.twin.rxSeq) ∧ (s.twin.held = []) ∧ (e < 65536 ∧ sig < 2 ^ 32 ∧ mask < 2 ^ 64) ∧ (m.payload = leOctets 2 e ++ leOctets 4 sig ++ leOctets 8 mask) ∧ ((s.twin.frameRecords.any fun r => r.epoch == e) = false) :=
  ⟨0, 5, 3, 99, ⟨true, 150, 1, 0, leOctets 2 5 ++ leOctets 4 3 ++ leOctets 8 99⟩, mirroring 5, by decide +kernel⟩

theorem witness_MirroredWritesAndRecords_3 : ∃ (dt dseq ta index sub session : Nat) (value : List Octet) (m : MirMessage) (s : State), (Quiet s) ∧ (s.reg .TWN_MIR_STATE = 2) ∧ (m.checkOk = true) ∧ (m.mseq = s.twin.rxSeq) ∧ (s.twin.held = []) ∧ (dseq < 2 ^ 32 ∧ ta < 2 ^ 64 ∧ index < 65536 ∧ sub < 256 ∧ session < 65536) ∧ (value ≠ []) ∧ (m.payload = leOctets 4 dseq ++ leOctets 8 ta ++ leOctets 2 index ++ leOctets 1 sub ++ leOctets 2 session ++ leOctets 1 0 ++ value) ∧ (s.twin.forwards = []) :=
  ⟨0, 5, 1000, 0x9002, 0, 7, [1, 2], ⟨true, 150, 1, 0, leOctets 4 5 ++ leOctets 8 1000 ++ leOctets 2 0x9002 ++ leOctets 1 0 ++ leOctets 2 7 ++ leOctets 1 0 ++ [1, 2]⟩, mirroring 4, by decide +kernel⟩

theorem witness_MirroredWritesAndRecords_4 : ∃ (dt v session : Nat) (m : MirMessage) (s : State), (Quiet s) ∧ (s.reg .TWN_MIR_STATE = 2) ∧ (m.checkOk = true) ∧ (m.mseq = s.twin.rxSeq) ∧ (s.twin.held = []) ∧ (s.reg .TWN_STATE = 5) ∧ (1000 ≤ v ∧ v ≤ 16000 ∧ session < 65536) ∧ (m.payload = leOctets 2 0x9002 ++ leOctets 1 0 ++ leOctets 2 session ++ (leOctets 2 v)) :=
  ⟨0, 5000, 7, ⟨true, 150, 1, 0, leOctets 2 0x9002 ++ leOctets 1 0 ++ leOctets 2 7 ++ leOctets 2 5000⟩, mirroring 5, by decide +kernel⟩

theorem witness_MirroredWritesAndRecords_5 : ∃ (dt status : Nat) (f : MirForward) (rest : List MirForward) (m : MirMessage) (s : State), (Quiet s) ∧ (s.reg .TWN_MIR_STATE = 2) ∧ (m.checkOk = true) ∧ (m.mseq = s.twin.rxSeq) ∧ (s.twin.held = []) ∧ (s.twin.forwards = f :: rest) ∧ (s.session f.session = none) ∧ (status < 256) ∧ (m.payload = leOctets 4 0 ++ leOctets 1 status) :=
  ⟨0, 8, ⟨0x9002, 0, 7⟩, [], ⟨true, 150, 1, 0, leOctets 4 0 ++ leOctets 1 8⟩, (mirroring 4).modTwin fun t => { t with forwards := [⟨0x9002, 0, 7⟩] }, by decide +kernel⟩

theorem witness_MirroredWritesAndRecords_6 : ∃ (dt v : Nat) (w : MirWrite) (rest : List MirWrite) (s : State), (s.reg .TWN_STATE = 5) ∧ (s.twin.writes = w :: rest) ∧ (w.ta ≤ (s.elapse dt).now) ∧ (w.index = 0x9002 ∧ w.sub = 0 ∧ w.mine = false) ∧ (w.value = (leOctets 2 v)) ∧ (1000 ≤ v ∧ v ≤ 16000) :=
  ⟨1000, 5000, ⟨5, 0, 0x9002, 0, 7, 0, leOctets 2 5000, false⟩, [], (mirroring 5).modTwin fun t => { t with writes := [⟨5, 0, 0x9002, 0, 7, 0, leOctets 2 5000, false⟩] }, by decide +kernel⟩

theorem witness_MirroredWritesAndRecords_7 : ∃ (dt g code : Nat) (m : MirMessage) (s : State), (Quiet s) ∧ (s.reg .TWN_MIR_STATE = 2) ∧ (m.checkOk = true) ∧ (m.mseq = s.twin.rxSeq) ∧ (s.twin.held = []) ∧ (g < 16 ∧ code < 256) ∧ (m.payload = [3, BitVec.ofNat 8 g, BitVec.ofNat 8 code]) ∧ (s.twin.pushed.contains (3, g, m.sent) = false) ∧ (s.lantern.tiedOn = false) ∧ (s.flag (.LAN_RAIL_TIED g) = true) :=
  ⟨0, 3, 77, ⟨true, 150, 1, 0, [3, 3, 77]⟩, (mirroring 4).setReg (.LAN_RAIL_TIED 3) 1, by decide +kernel⟩

theorem witness_MirroredWritesAndRecords_8 : ∃ (dt object : Nat) (data : List Octet) (m : MirMessage) (s : State), (Quiet s) ∧ (s.reg .TWN_MIR_STATE = 2) ∧ (m.checkOk = true) ∧ (m.mseq = s.twin.rxSeq) ∧ (s.twin.held = []) ∧ (object < 256 ∧ data ≠ []) ∧ (m.payload = leOctets 1 object ++ leOctets 4 0 ++ data) ∧ (s.twin.bulk = []) :=
  ⟨0, 2, [1, 2, 3], ⟨true, 150, 1, 0, [2, 0, 0, 0, 0, 1, 2, 3]⟩, mirroring 3, by decide +kernel⟩

theorem witness_SessionsOpenAnswerAndEnd_1 : ∃ (dt : Nat) (h : IdpHead) (nonce : List Octet) (s : State), (s.reg .SYS_STATE = 3) ∧ (h.checkOk = true) ∧ (h.source.transport = 0) ∧ (nonce.length = 16) ∧ (s.sessionFree 0 = true) :=
  ⟨0, headOf serviceSession, List.replicate 16 3, ingesting.setReg .SYS_STATE 3, by decide +kernel⟩

theorem witness_SessionsOpenAnswerAndEnd_2 : ∃ (dt : Nat) (h : IdpHead) (x : Session) (s : State), (s.reg .SYS_STATE = 3) ∧ (h.checkOk = true) ∧ (s.session h.session = some x) ∧ (x.source = h.source ∧ x.source.transport = 0) ∧ (x.key = none ∧ h.tag = none) ∧ (h.seq = (x.lastSeq + 1) % 2 ^ 32) ∧ (x.running = none) ∧ (∀ k ∈ List.range 64, (s.link k).lock = none) ∧ ((s.brg h.session).transfer = none) :=
  ⟨0, headOf openSession, openSession, sessionState openSession, by decide +kernel⟩

theorem witness_SessionsOpenAnswerAndEnd_3 : ∃ (dt : Nat) (h : IdpHead) (x : Session) (s : State), (Quiet s) ∧ (s.reg .SYS_STATE = 3) ∧ (h.checkOk = true) ∧ (s.session h.session = some x) ∧ (x.source = h.source ∧ x.source.transport = 0) ∧ (x.key = none ∧ h.tag = none) ∧ (h.seq = (x.lastSeq + 1) % 2 ^ 32) ∧ (x.running = none) :=
  ⟨0, headOf openSession, openSession, sessionState openSession, by decide +kernel⟩

theorem witness_SessionsOpenAnswerAndEnd_4 : ∃ (dt : Nat) (h : IdpHead) (s : State), (Quiet s) ∧ (s.reg .SYS_STATE = 3) ∧ (h.checkOk = true) ∧ (h.source.transport = 0) ∧ (s.session h.session = none) :=
  ⟨0, headOf openSession, ingesting.setReg .SYS_STATE 3, by decide +kernel⟩

theorem witness_SessionsOpenAnswerAndEnd_5 : ∃ (dt : Nat) (x : Session) (s : State), (Takes s 2) ∧ (s.idp.sessions = [x]) ∧ (x.running = none) ∧ (x.lastMessage + usTicks (s.reg .DIC_SESSION_TIMEOUT_S * 1000000) ≤ s.ticks + dt) ∧ (∀ k ∈ List.range 64, (s.link k).lock = none) ∧ ((s.brg x.number).transfer = none) :=
  ⟨1000000000000, openSession, sessionState openSession, by decide +kernel⟩

theorem witness_SessionsOpenAnswerAndEnd_6 : ∃ (dt e : Nat) (x : Session) (s : State), (Takes s 3) ∧ (s.idp.sessions = [x]) ∧ (x.windowEnd = some e) ∧ (e ≤ s.ticks + dt) :=
  ⟨700000000000, 600000000000, serviceSession, sessionState serviceSession, by decide +kernel⟩

theorem witness_SessionsOpenAnswerAndEnd_7 : ∃ (dt : Nat) (s : State), (Quiet s) ∧ (∀ a ∈ s.idp.auth, ∀ e ∈ a.lockedUntil.toList, e ≤ s.ticks + dt) :=
  ⟨9, ingesting.modIdp fun i => { i with auth := [⟨5, [], some 7⟩, ⟨6, [1], none⟩] }, by decide +kernel⟩

theorem witness_SessionsOpenAnswerAndEnd_8 : ∃ (dt : Nat) (message : List Octet) (h : IdpHead) (x : Session) (s : State), (Quiet s) ∧ (s.reg .SYS_STATE = 3) ∧ (parseIdp spiSource message = (h, 0x03, [])) ∧ (h.checkOk = true) ∧ (s.session h.session = some x) ∧ (x.source = spiSource ∧ h.source = spiSource) ∧ (x.key = none ∧ h.tag = none) ∧ (h.seq = (x.lastSeq + 1) % 2 ^ 32) ∧ (x.running = none) :=
  ⟨0, keepaliveMessage 1, ⟨spiSource, 7, 1, none, true⟩, { openSession with source := spiSource }, sessionState { openSession with source := spiSource }, by decide +kernel⟩

theorem witness_SessionsOpenAnswerAndEnd_9 : ∃ (dt : Nat) (s : State), (Quiet s) :=
  ⟨0, ingesting.modIdp fun i => { i with spiWaiting := some [1, 2] }, by decide +kernel⟩

theorem witness_SessionsOpenAnswerAndEnd_10 : ∃ (dt : Nat) (s : State), (Quiet s) ∧ (s.reg .SYS_STATE = 3) :=
  ⟨0, ingesting.setReg .SYS_STATE 3, by decide +kernel⟩

theorem witness_SessionsOpenAnswerAndEnd_11 : ∃ (dt port source transaction : Nat) (message : List Octet) (h : IdpHead) (x : Session) (s : State), (port < 8) ∧ (s.smap.ports.length = 8) ∧ (s.rdmForUs port ⟨true, s.unit.rdmUid, source, transaction, 1, 0x30, 0x8A00, message⟩ = true) ∧ (rdmBroadcast s.unit.rdmUid = false) ∧ (s.flag .DIC_RDM_IDP = true) ∧ (s.reg .SYS_STATE = 3) ∧ (parseIdp ⟨1, source, 0, port⟩ message = (h, 0x03, [])) ∧ (h.checkOk = true) ∧ (s.session h.session = some x) ∧ (x.source = ⟨1, source, 0, port⟩ ∧ h.source = ⟨1, source, 0, port⟩) ∧ (x.key = none ∧ h.tag = none) ∧ (h.seq = (x.lastSeq + 1) % 2 ^ 32) ∧ (x.running = none) :=
  ⟨0, 4, 5, 3, keepaliveMessage 1, ⟨⟨1, 5, 0, 4⟩, 7, 1, none, true⟩, { openSession with source := ⟨1, 5, 0, 4⟩ }, rdmSession, by decide +kernel⟩

theorem witness_AuthenticationRaisesLevels_1 : ∃ (dt : Nat) (h : IdpHead) (proof : List Octet) (x : Session) (s : State), (Takes s 3) ∧ (s.reg .SYS_STATE = 3) ∧ (h.checkOk = true) ∧ (s.session h.session = some x) ∧ (x.source = h.source ∧ x.source.transport = 0) ∧ (x.key = none ∧ h.tag = none) ∧ (h.seq = (x.lastSeq + 1) % 2 ^ 32) ∧ (x.running = none) ∧ (s.reg .SYS_STATE = 3) ∧ (s.idp.installKey ≠ []) ∧ (proof.length = 32) ∧ (proof = operatorProof s.idp.installKey s.unit.eui64 x) ∧ ((s.elapse dt).lockedOut h.source = false) :=
  ⟨0, headOf openSession, operatorProof keyedState.idp.installKey keyedState.unit.eui64 openSession, openSession, keyedState, by decide +kernel⟩

theorem witness_AuthenticationRaisesLevels_2 : ∃ (dt : Nat) (h : IdpHead) (proof : List Octet) (x : Session) (s : State), (Takes s 4) ∧ (s.reg .SYS_STATE = 3) ∧ (h.checkOk = true) ∧ (s.session h.session = some x) ∧ (x.source = h.source ∧ x.source.transport = 0) ∧ (x.key = none ∧ h.tag = none) ∧ (h.seq = (x.lastSeq + 1) % 2 ^ 32) ∧ (x.running = none) ∧ (s.idp.installKey ≠ []) ∧ (proof.length = 32) ∧ (proof ≠ operatorProof s.idp.installKey s.unit.eui64 x) ∧ ((s.elapse dt).lockedOut h.source = false) :=
  ⟨0, headOf openSession, List.replicate 32 0, openSession, keyedState, by decide +kernel⟩

theorem witness_AuthenticationRaisesLevels_3 : ∃ (dt : Nat) (h : IdpHead) (proof : List Octet) (x : Session) (s : State), (Quiet s) ∧ (s.reg .SYS_STATE = 3) ∧ (h.checkOk = true) ∧ (s.session h.session = some x) ∧ (x.source = h.source ∧ x.source.transport = 0) ∧ (x.key = none ∧ h.tag = none) ∧ (h.seq = (x.lastSeq + 1) % 2 ^ 32) ∧ (x.running = none) ∧ (proof.length = 32) ∧ ((s.elapse dt).lockedOut h.source = true) :=
  ⟨0, headOf openSession, List.replicate 32 0, openSession, keyedState.modIdp fun i => { i with auth := [⟨0xC0A80102, [], some 900⟩] }, by decide +kernel⟩

theorem witness_AuthenticationRaisesLevels_4 : ∃ (dt slot : Nat) (h : IdpHead) (key : List Octet) (x : Session) (s : State), (Quiet s) ∧ (s.reg .SYS_STATE = 3) ∧ (h.checkOk = true) ∧ (s.session h.session = some x) ∧ (x.source = h.source ∧ x.source.transport = 0) ∧ (x.key = none ∧ h.tag = none) ∧ (h.seq = (x.lastSeq + 1) % 2 ^ 32) ∧ (x.running = none) ∧ (slot < 256) ∧ (s.slotKey slot ≠ []) ∧ (key.length = 65 ∧ key.head? = some 0x04) ∧ ((s.elapse dt).levelOf h.session ≠ 2) :=
  ⟨0, 1, headOf openSession, 4 :: List.replicate 64 9, openSession, (sessionState openSession).modIdp fun i => { i with integratorKey := List.replicate 65 7 }, by decide +kernel⟩

theorem witness_AuthenticationRaisesLevels_5 : ∃ (dt : Nat) (h : IdpHead) (signature : List Octet) (x : Session) (c : Challenge) (s : State), (Takes s 4) ∧ (s.reg .SYS_STATE = 3) ∧ (h.checkOk = true) ∧ (s.session h.session = some x) ∧ (x.source = h.source ∧ x.source.transport = 0) ∧ (x.key = none ∧ h.tag = none) ∧ (h.seq = (x.lastSeq + 1) % 2 ^ 32) ∧ (x.running = none) ∧ (x.challenge = some c) ∧ (signature.length = 64) ∧ ((s.elapse dt).lockedOut h.source = false) ∧ ((s.elapse dt).now ≤ c.expiry) :=
  ⟨0, headOf openSession, List.replicate 64 0, { openSession with challenge := some ⟨0, [1, 2], [4], 3, 900⟩ }, ⟨0, [1, 2], [4], 3, 900⟩, sessionState { openSession with challenge := some ⟨0, [1, 2], [4], 3, 900⟩ }, by decide +kernel⟩

theorem witness_ReadsWritesAndTransfers_1 : ∃ (dt index sub : Nat) (h : IdpHead) (row : DictRow) (x : Session) (s : State), (Quiet s) ∧ (s.reg .SYS_STATE = 3) ∧ (h.checkOk = true) ∧ (s.session h.session = some x) ∧ (x.source = h.source ∧ x.source.transport = 0) ∧ (x.key = none ∧ h.tag = none) ∧ (h.seq = (x.lastSeq + 1) % 2 ^ 32) ∧ (x.running = none) ∧ (0x4000 ≤ index ∧ index ≤ 0x9FFF ∧ sub < 255) ∧ (dictRow ⟨index, sub⟩ = some row) ∧ (row.access ≠ .wo ∧ row.type.octetLen ≠ 0) ∧ (sub = 0 → composite index = false) :=
  ⟨0, 0x9002, 0, headOf openSession, totalRow, openSession, sessionState openSession, by decide +kernel⟩

theorem witness_ReadsWritesAndTransfers_2 : ∃ (dt v : Nat) (h : IdpHead) (x : Session) (s : State), (Quiet s) ∧ (s.reg .SYS_STATE = 3) ∧ (h.checkOk = true) ∧ (s.session h.session = some x) ∧ (x.source = h.source ∧ x.source.transport = 0) ∧ (x.key = none ∧ h.tag = none) ∧ (h.seq = (x.lastSeq + 1) % 2 ^ 32) ∧ (x.running = none) ∧ (1 ≤ (s.elapse dt).levelOf h.session) ∧ (s.reg .TWN_STATE = 2) ∧ (1000 ≤ v ∧ v ≤ 16000) :=
  ⟨0, 5000, headOf openSession, { openSession with level := 1 }, sessionState { openSession with level := 1 }, by decide +kernel⟩

theorem witness_ReadsWritesAndTransfers_3 : ∃ (dt who index sub v l : Nat) (row : DictRow) (s : State), (Quiet s) ∧ (s.reg .TWN_STATE = 2) ∧ (0x4000 ≤ index ∧ index ≤ 0x9FFF ∧ sub < 255) ∧ (dictRow ⟨index, sub⟩ = some row) ∧ (sub = 0 → composite index = false) ∧ (row.type.octetLen ≠ 0) ∧ (pairEntries.flatten.contains index = false) ∧ (writeLevel ⟨index, sub⟩ = some l ∧ l ≤ (s.elapse dt).levelOf who) ∧ (inRange ⟨index, sub⟩ v = true) ∧ (isRwf ⟨index, sub⟩ = false ∧ s.changePending ⟨index, sub⟩ = false ∧ s.valueRefused ⟨index, sub⟩ v = false) ∧ (behaviour who ⟨index, sub⟩ v = none) ∧ ((⟨index, sub⟩ : Reg) ≠ .BEL_TRACE_FILTER) :=
  ⟨0, 0xFFFF, 0x9002, 0, 5000, 1, totalRow, twinState 2, by decide +kernel⟩

theorem witness_ReadsWritesAndTransfers_4 : ∃ (dt who v : Nat) (s : State), (Quiet s) ∧ (s.reg .TWN_STATE = 2) ∧ (1 ≤ (s.elapse dt).levelOf who) ∧ (v < 1000 ∨ 16000 < v) ∧ (v < 65536) :=
  ⟨0, 0xFFFF, 5, twinState 2, by decide +kernel⟩

theorem witness_ReadsWritesAndTransfers_5 : ∃ (dt : Nat) (h : IdpHead) (x : Session) (s : State), (Quiet s) ∧ (s.reg .SYS_STATE = 3) ∧ (h.checkOk = true) ∧ (s.session h.session = some x) ∧ (x.source = h.source ∧ x.source.transport = 0) ∧ (x.key = none ∧ h.tag = none) ∧ (h.seq = (x.lastSeq + 1) % 2 ^ 32) ∧ (x.running = none) ∧ (x.transfer = none) :=
  ⟨0, headOf openSession, openSession, sessionState openSession, by decide +kernel⟩

theorem witness_ReadsWritesAndTransfers_6 : ∃ (dt total : Nat) (h : IdpHead) (x : Session) (s : State), (Quiet s) ∧ (s.reg .SYS_STATE = 3) ∧ (h.checkOk = true) ∧ (s.session h.session = some x) ∧ (x.source = h.source ∧ x.source.transport = 0) ∧ (x.key = none ∧ h.tag = none) ∧ (h.seq = (x.lastSeq + 1) % 2 ^ 32) ∧ (x.running = none) ∧ (1 ≤ (s.elapse dt).levelOf h.session) ∧ (x.transfer = none) ∧ (s.stagingUsed + total ≤ 8388608) :=
  ⟨0, 16, headOf openSession, { openSession with level := 1 }, sessionState { openSession with level := 1 }, by decide +kernel⟩

theorem witness_ReadsWritesAndTransfers_7 : ∃ (dt : Nat) (h : IdpHead) (data : List Octet) (x : Session) (d : DomainTransfer) (s : State), (Quiet s) ∧ (s.reg .SYS_STATE = 3) ∧ (h.checkOk = true) ∧ (s.session h.session = some x) ∧ (x.source = h.source ∧ x.source.transport = 0) ∧ (x.key = none ∧ h.tag = none) ∧ (h.seq = (x.lastSeq + 1) % 2 ^ 32) ∧ (x.running = none) ∧ (x.transfer = some d) ∧ (d.writing = true) ∧ (d.data.length + data.length ≤ d.total) ∧ (d.data.length < 2 ^ 32) :=
  ⟨0, headOf openSession, [1, 2], transferring [], ⟨0xC000, 0, true, 16, []⟩, sessionState (transferring []), by decide +kernel⟩

theorem witness_ReadsWritesAndTransfers_8 : ∃ (dt : Nat) (h : IdpHead) (x : Session) (d : DomainTransfer) (s : State), (Quiet s) ∧ (s.reg .SYS_STATE = 3) ∧ (h.checkOk = true) ∧ (s.session h.session = some x) ∧ (x.source = h.source ∧ x.source.transport = 0) ∧ (x.key = none ∧ h.tag = none) ∧ (h.seq = (x.lastSeq + 1) % 2 ^ 32) ∧ (x.running = none) ∧ (1 ≤ (s.elapse dt).levelOf h.session) ∧ (s.reg .TWN_STATE = 2) ∧ (s.reg .MAP_CHANGE = 0) ∧ (x.transfer = some d) ∧ (d.writing = true ∧ d.index = 0xC000 ∧ d.sub = 0) ∧ (d.data.length = d.total ∧ d.total % 16 = 0) :=
  ⟨0, headOf openSession, transferring (List.replicate 16 1), ⟨0xC000, 0, true, 16, List.replicate 16 1⟩, sessionState (transferring (List.replicate 16 1)), by decide +kernel⟩

theorem witness_ReadsWritesAndTransfers_9 : ∃ (dt : Nat) (h : IdpHead) (x : Session) (s : State), (Quiet s) ∧ (s.reg .SYS_STATE = 3) ∧ (h.checkOk = true) ∧ (s.session h.session = some x) ∧ (x.source = h.source ∧ x.source.transport = 0) ∧ (x.key = none ∧ h.tag = none) ∧ (h.seq = (x.lastSeq + 1) % 2 ^ 32) ∧ (x.running = none) ∧ (x.transfer.isSome = true) :=
  ⟨0, headOf openSession, transferring [], sessionState (transferring []), by decide +kernel⟩

theorem witness_ProfilesAndKeysAreStored_1 : ∃ (dt who value : Nat) (s : State), (Quiet s) ∧ (1 ≤ (s.elapse dt).levelOf who) ∧ (value < 4) ∧ (s.idp.save = none) :=
  ⟨0, 0xFFFF, 2, ingesting, by decide +kernel⟩

theorem witness_ProfilesAndKeysAreStored_2 : ∃ (dt who value : Nat) (s : State), (Quiet s) ∧ (1 ≤ (s.elapse dt).levelOf who) ∧ (value < 4) ∧ (s.idp.save.isSome = true) :=
  ⟨0, 0xFFFF, 2, ingesting.modIdp fun i => { i with save := some ⟨1, savedImage⟩ }, by decide +kernel⟩

theorem witness_ProfilesAndKeysAreStored_3 : ∃ (dt : Nat) (x : SaveInProgress) (s : State), (Takes s 2) ∧ (s.idp.save = some x) :=
  ⟨0, ⟨1, savedImage⟩, ingesting.modIdp fun i => { i with save := some ⟨1, savedImage⟩ }, by decide +kernel⟩

theorem witness_ProfilesAndKeysAreStored_4 : ∃ (dt : Nat) (x : SaveInProgress) (s : State), (Takes s 5) ∧ (s.idp.save = some x) :=
  ⟨0, ⟨1, savedImage⟩, ingesting.modIdp fun i => { i with save := some ⟨1, savedImage⟩ }, by decide +kernel⟩

theorem witness_ProfilesAndKeysAreStored_5 : ∃ (dt who : Nat) (s : State), (Quiet s) ∧ (1 ≤ (s.elapse dt).levelOf who) ∧ (s.idp.save = none) :=
  ⟨0, 0xFFFF, ingesting, by decide +kernel⟩

theorem witness_ProfilesAndKeysAreStored_6 : ∃ (dt who : Nat) (s : State), (1 ≤ (s.elapse dt).levelOf who) ∧ (s.sys.releasedAt.isSome = true) :=
  ⟨0, 0xFFFF, releasedState, by decide +kernel⟩

theorem witness_ProfilesAndKeysAreStored_7 : ∃ (dt who : Nat) (key : List Octet) (s : State), (Takes s 5) ∧ ((s.elapse dt).mayInstall who = true) ∧ (key.length = 32) ∧ (key.all (· == 0) = false) :=
  ⟨0, 0xFFFF, List.replicate 32 7, ingesting, by decide +kernel⟩

theorem witness_ProfilesAndKeysAreStored_8 : ∃ (dt who : Nat) (key : List Octet) (s : State), (Takes s 5) ∧ (2 ≤ (s.elapse dt).levelOf who) ∧ (key.length = 65) :=
  ⟨0, 0xFFFF, List.replicate 65 7, ingesting, by decide +kernel⟩

theorem witness_ChainAddressesAreFoundAndTaken_1 : ∃ (dt word : Nat) (s : State), (Quiet s) ∧ (field word 63 60 = 11 ∧ field word 7 0 = crcOf crc8 (beOctets 7 (word / 256))) ∧ (bitOf word 59 = false ∧ bitOf word 58 = false) :=
  ⟨0, chainWord false 1 4 77, ingesting, by decide +kernel⟩

theorem witness_ChainAddressesAreFoundAndTaken_2 : ∃ (dt word : Nat) (b : BootRecord) (s : State), (Takes s 2) ∧ (field word 63 60 = 11 ∧ field word 7 0 = crcOf crc8 (beOctets 7 (word / 256))) ∧ (bitOf word 59 = true ∧ bitOf word 58 = false) ∧ (s.update.boot = some b) ∧ (s.chain.adopting = false) ∧ (s.idp.sessions = []) ∧ (s.reg .CHN_ADDRESS = 0) ∧ (field word 47 40 < 255) ∧ ((s.chain.heard.any fun h => !h.netb && h.address == field word 55 48 * 256 + field word 47 40 && h.sender % 2 ^ 32 == field word 39 8 && Nat.ble (s.ticks + dt) (h.heardAt + msTicks 2000)) = true) :=
  ⟨0, chainWord true 1 4 77, ⟨1, 0, 0, 0, 0, 0, 0, 0, 0, []⟩, hearing, by decide +kernel⟩

theorem witness_ChainAddressesAreFoundAndTaken_3 : ∃ (dt word : Nat) (s : State), (Quiet s) ∧ (field word 63 60 ≠ 11 ∨ field word 7 0 ≠ crcOf crc8 (beOctets 7 (word / 256))) :=
  ⟨0, 0, ingesting, by decide +kernel⟩

theorem witness_ChainAddressesAreFoundAndTaken_4 : ∃ (dt : Nat) (s : State), (Quiet s) ∧ (s.chain.idle = false) ∧ (s.chain.wordAt + 262144 ≤ s.ticks + dt) :=
  ⟨300000, hearing.modChain fun c => { c with idle := false }, by decide +kernel⟩

theorem witness_ChainAddressesAreFoundAndTaken_5 : ∃ (dt : Nat) (s : State), (Quiet s) ∧ (s.address ≠ 0) ∧ (s.chain.discoverAt + msTicks (s.reg .CHN_DISCOVER_MS) ≤ s.ticks + dt) :=
  ⟨10000000000, addressed, by decide +kernel⟩

theorem witness_ChainAddressesAreFoundAndTaken_6 : ∃ (dt chain flags profile generation : Nat) (h : ChainHead) (s : State), (Quiet s) ∧ (h.checkOk = true ∧ h.netb = false) ∧ (s.chain.word = none) ∧ (bitOf flags 0 = false) ∧ (h.address = 0 ∨ h.address ≠ s.address) :=
  ⟨0, 1, 0, 0, 1, ⟨true, false, 5, 0x0103, 99, 0⟩, addressed, by decide +kernel⟩

theorem witness_ChainAddressesAreFoundAndTaken_7 : ∃ (dt chain flags profile generation : Nat) (h : ChainHead) (s : State), (Takes s 5) ∧ (h.checkOk = true ∧ h.netb = false) ∧ (s.chain.word = none) ∧ (bitOf flags 0 = false) ∧ (h.address ≠ 0 ∧ h.address = s.address ∧ h.sender ≠ s.unit.eui64) ∧ (s.reg .CHN_STATE ≠ 3) :=
  ⟨0, 1, 0, 0, 1, ⟨true, false, 5, 0x0104, 99, 0⟩, addressed, by decide +kernel⟩

theorem witness_ChainAddressesAreFoundAndTaken_8 : ∃ (dt chain flags profile generation : Nat) (h : ChainHead) (b : BootRecord) (s : State), (Takes s 2) ∧ (h.checkOk = true ∧ h.netb = false) ∧ (bitOf flags 0 = true) ∧ (chain < 256) ∧ (s.update.boot = some b) ∧ (s.chain.adopting = false) ∧ (s.idp.sessions = []) ∧ (s.reg .CHN_ADDRESS = 0) ∧ (s.chain.idle = true ∧ s.chain.wordAt + msTicks 1000 ≤ s.ticks + dt) :=
  ⟨1000000000, 1, 1, 0, 1, ⟨true, false, 5, 0x0100, 99, 0⟩, ⟨1, 0, 0, 0, 0, 0, 0, 0, 0, []⟩, ingesting, by decide +kernel⟩

theorem witness_ChainAddressesAreFoundAndTaken_9 : ∃ (dt euiLow address : Nat) (h : ChainHead) (b : BootRecord) (s : State), (Takes s 2) ∧ (h.checkOk = true ∧ h.netb = true) ∧ (euiLow = s.unit.eui64 % 2 ^ 32) ∧ (s.update.boot = some b) ∧ (s.chain.adopting = false) ∧ (s.idp.sessions = []) ∧ (s.reg .CHN_ADDRESS = 0 ∧ 0 < address ∧ address < 65536) ∧ (s.chain.idle = true ∧ s.chain.wordAt + msTicks 2000 ≤ s.ticks + dt) :=
  ⟨2000000000, State.reset.unit.eui64 % 2 ^ 32, 0x0102, ⟨true, true, 5, 0x0103, 99, 0⟩, ⟨1, 0, 0, 0, 0, 0, 0, 0, 0, []⟩, ingesting, by decide +kernel⟩

theorem witness_ChainAddressesAreFoundAndTaken_10 : ∃ (dt : Nat) (w : ChainWord) (s : State), (Quiet s) ∧ (s.chain.word = some w) ∧ (2 ≤ s.address % 256) ∧ (s.chain.idle = false ∧ w.addressed = false) ∧ (s.chain.heard = []) ∧ (s.chain.backAt + msTicks 1000 ≤ s.ticks + dt) :=
  ⟨1000000000, ⟨false, false, false, 0, 0, 77⟩, addressed.modChain fun c => { c with word := some ⟨false, false, false, 0, 0, 77⟩, idle := false }, by decide +kernel⟩

theorem witness_ChainAddressesAreFoundAndTaken_11 : ∃ (dt who : Nat) (b : BootRecord) (s : State), (Takes s 2) ∧ (1 ≤ (s.elapse dt).levelOf who) ∧ (s.update.boot = some b) ∧ (s.chain.adopting = false) ∧ (s.idp.sessions = []) ∧ (0 < s.reg .CHN_ADDR_PROPOSED ∧ s.reg .CHN_ADDR_PROPOSED < 65536) ∧ (s.reg .CHN_ADDRESS = 0) :=
  ⟨0, 0xFFFF, ⟨1, 0, 0, 0, 0, 0, 0, 0, 0, []⟩, ingesting.setReg .CHN_ADDR_PROPOSED 0x0102, by decide +kernel⟩

theorem witness_ChainAddressesAreFoundAndTaken_12 : ∃ (dt who : Nat) (s : State), (Quiet s) ∧ (1 ≤ (s.elapse dt).levelOf who) ∧ (s.reg .CHN_ADDR_PROPOSED = 0) :=
  ⟨0, 0xFFFF, ingesting, by decide +kernel⟩

theorem witness_ChainAddressesAreFoundAndTaken_13 : ∃ (dt e : Nat) (s : State), (Quiet s) ∧ (s.chain.conflictAt = some e) ∧ (e + msTicks 5000 ≤ s.ticks + dt) :=
  ⟨10000000000, 0, (addressed.setReg .CHN_STATE 3).modChain fun c => { c with conflictAt := some 0 }, by decide +kernel⟩

theorem witness_BackupsTravelBetweenNeighbours_1 : ∃ (dt address side : Nat) (h : ChainHead) (wrapKey access : List Octet) (image : ProfileImage) (s : State), (Takes s 5) ∧ (h.checkOk = true) ∧ (side ≤ 1) ∧ (s.reg .SYS_STATE = 3) ∧ (s.backupFor address = some (image, access)) ∧ (address < 65536) :=
  ⟨0, 0x0105, 0, ⟨true, true, 5, 0x0105, 99, 0⟩, [], [], savedImage, backupHeld, by decide +kernel⟩

theorem witness_BackupsTravelBetweenNeighbours_2 : ∃ (dt total : Nat) (h : ChainHead) (data : List Octet) (r : BackupRx) (s : State), (Quiet s) ∧ (h.checkOk = true) ∧ (s.chain.rx = [r]) ∧ (r.side = b2n h.netb ∧ r.sender = h.sender) ∧ (r.data.length + data.length < total) :=
  ⟨0, 100, ⟨true, false, 5, 0x0103, 99, 0⟩, [1, 2], ⟨0, 99, 0x0103, [7], false, 0⟩, addressed.modChain fun c => { c with rx := [⟨0, 99, 0x0103, [7], false, 0⟩] }, by decide +kernel⟩

theorem witness_BackupsTravelBetweenNeighbours_3 : ∃ (dt : Nat) (h : ChainHead) (x : BackupTx) (o : Nat) (data : List Octet) (s : State), (Quiet s) ∧ (h.checkOk = true) ∧ (s.chain.tx = [x]) ∧ (x.netb = h.netb ∧ x.dest = h.mac) ∧ (x.segments = [(o, data)]) :=
  ⟨0, ⟨true, false, 5, 0x0103, 99, 0⟩, ⟨false, 5, [(0, [1])], 1, 0, 0⟩, 0, [1], addressed.modChain fun c => { c with tx := [⟨false, 5, [(0, [1])], 1, 0, 0⟩] }, by decide +kernel⟩

theorem witness_BackupsTravelBetweenNeighbours_4 : ∃ (dt : Nat) (h : ChainHead) (x : BackupTx) (a o : Nat) (d data : List Octet) (rest : List (Nat × List Octet)) (s : State), (Quiet s) ∧ (h.checkOk = true) ∧ (s.chain.tx = [x]) ∧ (x.netb = h.netb ∧ x.dest = h.mac) ∧ (x.segments = (a, d) :: (o, data) :: rest) :=
  ⟨0, ⟨true, false, 5, 0x0103, 99, 0⟩, ⟨false, 5, [(0, [1]), (1, [2])], 2, 0, 0⟩, 0, 1, [1], [2], [], addressed.modChain fun c => { c with tx := [⟨false, 5, [(0, [1]), (1, [2])], 2, 0, 0⟩] }, by decide +kernel⟩

theorem witness_BackupsTravelBetweenNeighbours_5 : ∃ (dt : Nat) (x : BackupTx) (o : Nat) (data : List Octet) (rest : List (Nat × List Octet)) (s : State), (Quiet s) ∧ (s.chain.tx = [x]) ∧ (x.segments = (o, data) :: rest) ∧ (x.sentAt + msTicks 20 ≤ s.ticks + dt) ∧ (x.resends < 3) :=
  ⟨1000000000, ⟨false, 5, [(0, [1]), (1, [2])], 2, 0, 0⟩, 0, [1], [(1, [2])], addressed.modChain fun c => { c with tx := [⟨false, 5, [(0, [1]), (1, [2])], 2, 0, 0⟩] }, by decide +kernel⟩

theorem witness_BackupsTravelBetweenNeighbours_6 : ∃ (dt e : Nat) (s : State), (Quiet s) ∧ (s.chain.adopting = true) ∧ (s.chain.asked = some (0, e)) ∧ ((s.chain.rx.all fun r => !(r.adopt && r.side == 0) || r.data.isEmpty) = true) ∧ (e + msTicks 3000 ≤ s.ticks + dt) :=
  ⟨10000000000, 0, addressed.modChain fun c => { c with adopting := true, asked := some (0, 0) }, by decide +kernel⟩

theorem witness_BackupsTravelBetweenNeighbours_7 : ∃ (dt : Nat) (s : State), (s.chain.adopting = true) ∧ (s.chain.adoptEnd ≤ s.ticks + dt) :=
  ⟨9, addressed.modChain fun c => { c with adopting := true, adoptEnd := 7 }, by decide +kernel⟩

theorem witness_ImagesAreOfferedAndRelayed_1 : ∃ (dt who : Nat) (b : BootRecord) (s : State), (Quiet s) ∧ (1 ≤ (s.elapse dt).levelOf who) ∧ (s.update.boot = some b) ∧ (b.state = 0) ∧ ((s.elapse dt).now + 60000000000 ≤ s.reg .UPD_START_TACT ∧ s.reg .UPD_START_TACT ≤ (s.elapse dt).now + 604800000000000) ∧ (0 < s.reg .UPD_START_BLOCKS ∧ s.reg .UPD_START_BLOCKS ≤ 6144) :=
  ⟨0, 0xFFFF, ⟨1, 0, 0, 0, 0, 0, 0, 0, 0, []⟩, (ingesting.setReg .UPD_START_TACT 70000000000).setReg .UPD_START_BLOCKS 5, by decide +kernel⟩

theorem witness_ImagesAreOfferedAndRelayed_2 : ∃ (dt who : Nat) (s : State), (Quiet s) ∧ (1 ≤ (s.elapse dt).levelOf who) ∧ (s.reg .UPD_START_TACT < (s.elapse dt).now + 60000000000) :=
  ⟨0, 0xFFFF, ingesting, by decide +kernel⟩

theorem witness_ImagesAreOfferedAndRelayed_3 : ∃ (dt level seq size tAct healthS forward : Nat) (h : ChainHead) (b : BootRecord) (s : State), (Takes s 2) ∧ (h.checkOk = true) ∧ (s.update.boot = some b) ∧ (b.state = 0) ∧ (tAct ≠ 0) ∧ ((s.elapse dt).offerReply (⟨h.imageId, level, seq, size, tAct, healthS, forward⟩ : Offer) = 0) ∧ (s.reg (.CHN_UPSTREAM 1) = 0 ∧ s.reg (.CHN_DOWNSTREAM 1) = 0) :=
  ⟨0, 1, 9, 5, 70000000000, 300, 0, ⟨true, false, 5, 0x0103, 99, 1234⟩, ⟨1, 0, 0, 0, 0, 0, 0, 0, 0, []⟩, (ingesting.setReg .DIC_BEHAVIOUR_LEVEL 1).setReg .UPD_AUTO_ACCEPT 1, by decide +kernel⟩

theorem witness_ImagesAreOfferedAndRelayed_4 : ∃ (dt level seq size tAct healthS forward : Nat) (h : ChainHead) (s : State), (Quiet s) ∧ (h.checkOk = true) ∧ (s.bootState ≠ 7) ∧ (tAct ≠ 0) ∧ (2 ≤ (s.elapse dt).offerReply (⟨h.imageId, level, seq, size, tAct, healthS, forward⟩ : Offer)) :=
  ⟨0, 1, 9, 5, 7000, 300, 0, ⟨true, false, 5, 0x0103, 99, 1234⟩, ingesting.setReg .DIC_BEHAVIOUR_LEVEL 1, by decide +kernel⟩

theorem witness_ImagesAreOfferedAndRelayed_5 : ∃ (dt : Nat) (h : ChainHead) (r : UpdateRun) (x : Relay) (s : State), (Quiet s) ∧ (h.checkOk = true) ∧ (s.update.rescue = none) ∧ (s.update.run = some r) ∧ (r.relays = [x]) ∧ (x.up = !h.netb) ∧ (x.queued = []) :=
  ⟨0, ⟨true, false, 5, 0x0103, 99, 1234⟩, runOf [⟨true, false, [], [], 0, 0⟩], ⟨true, false, [], [], 0, 0⟩, relaying [⟨true, false, [], [], 0, 0⟩], by decide +kernel⟩

theorem witness_ImagesAreOfferedAndRelayed_6 : ∃ (dt reply : Nat) (h : ChainHead) (r : UpdateRun) (s : State), (Quiet s) ∧ (h.checkOk = true) ∧ (s.update.rescue = none) ∧ (s.update.run = some r) ∧ (reply ≠ 0) :=
  ⟨0, 3, ⟨true, false, 5, 0x0103, 99, 1234⟩, runOf [⟨true, false, [], [], 0, 0⟩], relaying [⟨true, false, [], [], 0, 0⟩], by decide +kernel⟩

theorem witness_ImagesAreOfferedAndRelayed_7 : ∃ (dt k : Nat) (h : ChainHead) (data : List Octet) (r : UpdateRun) (s : State), (h.checkOk = true) ∧ (s.update.fetch = none) ∧ (s.update.run = some r) ∧ (r.source = 1 ∧ h.netb = false) ∧ (r.relays = []) ∧ (k = r.next ∧ k < r.offer.blocks) ∧ (k ≠ 0 ∨ r.judged = true) :=
  ⟨0, 1, ⟨true, false, 5, 0x0103, 99, 1234⟩, [1, 2], runOf [], relaying [], by decide +kernel⟩

theorem witness_ImagesAreOfferedAndRelayed_8 : ∃ (dt k crc : Nat) (h : ChainHead) (data : List Octet) (ok : Bool) (r : UpdateRun) (s : State), (h.checkOk = true) ∧ (s.update.fetch = none) ∧ (s.update.run = some r) ∧ (r.source = 1 ∧ h.netb = false) ∧ (crc ≠ crcOf crc32c data) :=
  ⟨0, 1, 0, ⟨true, false, 5, 0x0103, 99, 1234⟩, [1, 2], true, runOf [], relaying [], by decide +kernel⟩

theorem witness_ImagesAreOfferedAndRelayed_9 : ∃ (dt k : Nat) (h : ChainHead) (r : UpdateRun) (x : Relay) (s : State), (Quiet s) ∧ (h.checkOk = true) ∧ (s.update.rescue = none) ∧ (s.update.run = some r) ∧ (r.relays = [x]) ∧ (x.up = !h.netb) ∧ (x.queued = []) :=
  ⟨0, 1, ⟨true, false, 5, 0x0103, 99, 1234⟩, runOf [⟨true, true, [], [(1, 0, [3])], 0, 0⟩], ⟨true, true, [], [(1, 0, [3])], 0, 0⟩, relaying [⟨true, true, [], [(1, 0, [3])], 0, 0⟩], by decide +kernel⟩

theorem witness_ImagesAreOfferedAndRelayed_10 : ∃ (dt k e : Nat) (d : List Octet) (r : UpdateRun) (x : Relay) (s : State), (s.update.rescue = none) ∧ (s.update.run = some r) ∧ (r.relays = [x]) ∧ (x.unacked = [(k, e, d)]) ∧ (e + msTicks 200 ≤ s.ticks + dt) :=
  ⟨1000000000, 1, 0, [3], runOf [⟨true, true, [], [(1, 0, [3])], 0, 0⟩], ⟨true, true, [], [(1, 0, [3])], 0, 0⟩, relaying [⟨true, true, [], [(1, 0, [3])], 0, 0⟩], by decide +kernel⟩

theorem witness_ImagesAreOfferedAndRelayed_11 : ∃ (dt : Nat) (r : UpdateRun) (x : Relay) (s : State), (Takes s 4) ∧ (s.update.rescue = none) ∧ (s.update.run = some r) ∧ (r.relays = [x]) ∧ (x.unacked ≠ []) ∧ (x.ackAt + msTicks 10000 ≤ s.ticks + dt) :=
  ⟨100000000000, runOf [⟨true, true, [], [(1, 0, [3])], 0, 0⟩], ⟨true, true, [], [(1, 0, [3])], 0, 0⟩, relaying [⟨true, true, [], [(1, 0, [3])], 0, 0⟩], by decide +kernel⟩

theorem witness_ImagesAreOfferedAndRelayed_12 : ∃ (dt : Nat) (h : ChainHead) (x : List (List Octet)) (s : State), (Quiet s) ∧ (h.checkOk = true) ∧ (s.bootState ≠ 0) ∧ (s.update.retained = some x) ∧ (s.address ≠ 0) ∧ (s.reg .SYS_STATE = 3) :=
  ⟨0, ⟨true, false, 5, 0x0103, 99, 0⟩, [[1, 2]], ((addressed.setReg .SYS_STATE 3).modUpdate fun u => { u with boot := some ⟨1, 2, 0, 0, 0, 0, 0, 0, 0, []⟩, retained := some [[1, 2]] }), by decide +kernel⟩

theorem witness_ImagesAreOfferedAndRelayed_13 : ∃ (dt : Nat) (f : Fetch) (s : State), (Quiet s) ∧ (s.update.fetch = some f) ∧ (f.offer = none) ∧ (s.bootState = 6) ∧ (s.address ≠ 0) ∧ (f.target ≠ 0) ∧ (f.sentAt + msTicks 1000 ≤ s.ticks + dt) ∧ (s.ticks + dt < f.since + msTicks 5000) :=
  ⟨1000000000, ⟨0x0103, 0, 0, none, 0⟩, addressed.modUpdate fun u => { u with boot := some ⟨1, 6, 0, 1, 0x0104, 0, 0, 0, 0, []⟩, fetch := some ⟨0x0103, 0, 0, none, 0⟩ }, by decide +kernel⟩

theorem witness_UpdatesAreVerifiedActivatedAndConfirmed_1 : ∃ (dt : Nat) (r : UpdateRun) (b : BootRecord) (s : State), (Takes s 3) ∧ (s.update.fetch = none) ∧ (s.update.run = some r) ∧ (s.update.boot = some b) ∧ (b.state = 1) ∧ (r.offer.blocks ≤ r.next) ∧ (s.update.retained = none) :=
  ⟨0, { runOf [] with next := 5 }, ⟨1, 1, 0, 0, 0, 0, 0, 0, 0, []⟩, updating 1 { runOf [] with next := 5 }, by decide +kernel⟩

theorem witness_UpdatesAreVerifiedActivatedAndConfirmed_2 : ∃ (dt : Nat) (h : ChainHead) (r : UpdateRun) (b : BootRecord) (s : State), (Takes s 3) ∧ (h.checkOk = true) ∧ (s.update.run = some r) ∧ (s.update.boot = some b) ∧ (b.state = 1 ∨ b.state = 2) ∧ (s.reg (.CHN_UPSTREAM 1) = 0 ∧ s.reg (.CHN_DOWNSTREAM 1) = 0) ∧ (s.update.retained = none) :=
  ⟨0, ⟨true, false, 5, 0x0103, 99, 1234⟩, runOf [], ⟨1, 1, 0, 0, 0, 0, 0, 0, 0, []⟩, updating 1 (runOf []), by decide +kernel⟩

theorem witness_UpdatesAreVerifiedActivatedAndConfirmed_3 : ∃ (dt who : Nat) (r : UpdateRun) (b : BootRecord) (s : State), (Takes s 3) ∧ (1 ≤ (s.elapse dt).levelOf who) ∧ (s.update.run = some r) ∧ (s.update.boot = some b) ∧ (b.state = 1 ∨ b.state = 2) ∧ (s.reg (.CHN_UPSTREAM 1) = 0 ∧ s.reg (.CHN_DOWNSTREAM 1) = 0) ∧ (s.update.retained = none) :=
  ⟨0, 0xFFFF, runOf [], ⟨1, 1, 0, 0, 0, 0, 0, 0, 0, []⟩, updating 1 (runOf []), by decide +kernel⟩

theorem witness_UpdatesAreVerifiedActivatedAndConfirmed_4 : ∃ (dt who : Nat) (s : State), (Quiet s) ∧ (1 ≤ (s.elapse dt).levelOf who) ∧ (s.bootState ≠ 1 ∧ s.bootState ≠ 2) :=
  ⟨0, 0xFFFF, ingesting, by decide +kernel⟩

theorem witness_UpdatesAreVerifiedActivatedAndConfirmed_5 : ∃ (dt : Nat) (b : BootRecord) (s : State), (s.update.boot = some b) ∧ (b.state = 2) ∧ (b.tAct ≤ (s.elapse dt).now) ∧ (s.timeValid = true) ∧ (s.update.lateUntil.all (Nat.ble (s.ticks + dt)) = true) ∧ (s.sys.releasedAt.isSome = true) :=
  ⟨10, ⟨1, 2, 0, 0, 0, 0, 0, 0, 0, []⟩, updating 2 (runOf []), by decide +kernel⟩

theorem witness_UpdatesAreVerifiedActivatedAndConfirmed_6 : ∃ (dt : Nat) (b : BootRecord) (s : State), (Takes s 5) ∧ (s.update.boot = some b) ∧ (b.state = 1) ∧ (b.tAct ≤ (s.elapse dt).now) ∧ (s.update.retained = none) :=
  ⟨10, ⟨1, 1, 0, 0, 0, 0, 0, 0, 0, []⟩, updating 1 (runOf []), by decide +kernel⟩

theorem witness_UpdatesAreVerifiedActivatedAndConfirmed_7 : ∃ (dt : Nat) (b : BootRecord) (s : State), (Quiet s) ∧ (s.update.boot = some b) ∧ (b.state = 2) ∧ (b.tAct ≤ (s.elapse dt).now) ∧ (s.timeValid = false) ∧ (s.update.lateUntil = none) :=
  ⟨10, ⟨1, 2, 0, 0, 0, 0, 0, 0, 0, []⟩, (updating 2 (runOf [])).setReg .TCK_FLAGS 0, by decide +kernel⟩

theorem witness_UpdatesAreVerifiedActivatedAndConfirmed_8 : ∃ (dt e : Nat) (b : BootRecord) (s : State), (Takes s 5) ∧ (s.update.boot = some b) ∧ (b.state = 2) ∧ (s.update.lateUntil = some e) ∧ (e ≤ s.ticks + dt) ∧ (s.update.retained = none) :=
  ⟨10, 7, ⟨1, 2, 0, 0, 0, 0, 0, 0, 0, []⟩, (updating 2 (runOf [])).modUpdate fun u => { u with lateUntil := some 7 }, by decide +kernel⟩

theorem witness_UpdatesAreVerifiedActivatedAndConfirmed_9 : ∃ (dt e : Nat) (b : BootRecord) (s : State), (Takes s 3) ∧ (s.update.boot = some b) ∧ (b.state = 4) ∧ (s.update.healthEnd = some e) ∧ (s.ticks + dt ≤ e) ∧ (s.healthy = true) :=
  ⟨10, 70, ⟨1, 4, 0, 0, 0, 0, 0, 0, 0, []⟩, onTrial, by decide +kernel⟩

theorem witness_UpdatesAreVerifiedActivatedAndConfirmed_10 : ∃ (dt who : Nat) (b : BootRecord) (s : State), (Takes s 3) ∧ (1 ≤ (s.elapse dt).levelOf who) ∧ (s.update.boot = some b) ∧ (b.state = 4) :=
  ⟨0, 0xFFFF, ⟨1, 4, 0, 0, 0, 0, 0, 0, 0, []⟩, onTrial, by decide +kernel⟩

theorem witness_UpdatesAreVerifiedActivatedAndConfirmed_11 : ∃ (dt who : Nat) (b : BootRecord) (s : State), (1 ≤ (s.elapse dt).levelOf who) ∧ (s.update.boot = some b) ∧ (b.state = 4) ∧ (s.sys.releasedAt.isSome = true) :=
  ⟨0, 0xFFFF, ⟨1, 4, 0, 0, 0, 0, 0, 0, 0, []⟩, onTrial, by decide +kernel⟩

theorem witness_UpdatesAreVerifiedActivatedAndConfirmed_12 : ∃ (dt who : Nat) (s : State), (Quiet s) ∧ (1 ≤ (s.elapse dt).levelOf who) ∧ (s.bootState ≠ 4) :=
  ⟨0, 0xFFFF, ingesting, by decide +kernel⟩

theorem witness_UpdatesAreVerifiedActivatedAndConfirmed_13 : ∃ (dt e : Nat) (b : BootRecord) (s : State), (s.update.boot = some b) ∧ (b.state = 4) ∧ (s.update.healthEnd = some e) ∧ (e ≤ s.ticks + dt) ∧ (s.sys.releasedAt.isSome = true) :=
  ⟨100, 70, ⟨1, 4, 0, 0, 0, 0, 0, 0, 0, []⟩, onTrial, by decide +kernel⟩

theorem witness_ResetSourcesActAndRelease_3 : ∃ (dt rail cause : Nat) (s : State), (s.sys.holds.rails = false ∧ s.sys.holds.vin = false) ∧ (s.sys.railFaults = []) :=
  ⟨0, 3, 1, releasedState, by decide +kernel⟩

theorem witness_ResetSourcesActAndRelease_4 : ∃ (dt rail cause a b : Nat) (s : State), (s.sys.holds.rails = false ∧ s.sys.holds.vin = false) ∧ (s.sys.railFaults = [a, b]) ∧ (s.ticks + dt < a + msTicks 10000) :=
  ⟨0, 3, 1, 5, 6, releasedState.modSys fun y => { y with railFaults := [5, 6] }, by decide +kernel⟩

theorem witness_ResetSourcesActAndRelease_5 : ∃ (dt e : Nat) (s : State), (Quiet s) ∧ (s.sys.retryAt = some e) ∧ (e ≤ s.ticks + dt) :=
  ⟨9, 7, State.reset.modSys fun y => { y with retryAt := some 7, holds := { y.holds with rails := true } }, by decide +kernel⟩

theorem witness_ResetSourcesActAndRelease_8 : ∃ (dt : Nat) (s : State), (Quiet s) ∧ (s.sys.holds.pin = true) :=
  ⟨9, State.reset.modSys fun y => { y with holds := { y.holds with pin := true } }, by decide +kernel⟩

theorem witness_ResetSourcesActAndRelease_10 : ∃ (dt : Nat) (s : State), (Quiet s) ∧ (s.sys.holds.thermal = true) :=
  ⟨9, State.reset.modSys fun y => { y with holds := { y.holds with thermal := true } }, by decide +kernel⟩

theorem witness_ResetSourcesActAndRelease_11 : ∃ (dt : Nat) (s : State), (s.debugOpen = true) :=
  ⟨0, sessionState serviceSession, by decide +kernel⟩

theorem witness_ResetSourcesActAndRelease_12 : ∃ (dt : Nat) (s : State), (Quiet s) ∧ (s.debugOpen = false) :=
  ⟨0, ingesting, by decide +kernel⟩

theorem witness_ResetSourcesActAndRelease_13 : ∃ (dt : Nat) (s : State), (s.sys.releasedAt.isSome = true) :=
  ⟨0, releasedState, by decide +kernel⟩

theorem witness_ResetSourcesActAndRelease_14 : ∃ (dt : Nat) (s : State), (Quiet s) :=
  ⟨0, ingesting, by decide +kernel⟩

theorem witness_ResetSourcesActAndRelease_15 : ∃ (dt port : Nat) (s : State), (Takes s 5) ∧ (port < 2) ∧ (bitOf (s.reg .SYS_PLL_STATE) (port + 1) = true) ∧ (s.reg (.NET_LINK_STATE (port + 1)) = 0) :=
  ⟨0, 1, ingesting.setReg .SYS_PLL_STATE 7, by decide +kernel⟩

theorem witness_ResetSourcesActAndRelease_16 : ∃ (dt port : Nat) (s : State), (Quiet s) ∧ (port < 2) :=
  ⟨0, 1, ingesting, by decide +kernel⟩

theorem witness_TheStartSequenceRuns_1 : ∃ (dt pins : Nat) (refreshed : Bool) (s : State), (Quiet s) ∧ (s.sys.holds.free = true ∧ s.sys.holds.clock = false) ∧ (s.sys.releasedAt = none) ∧ (s.sys.warm = false) :=
  ⟨0, 2, false, State.reset, by decide +kernel⟩

theorem witness_TheStartSequenceRuns_2 : ∃ (dt channel : Nat) (s : State), (Quiet s) ∧ (s.reg .SYS_STATE = 1 ∧ s.reg .MEM_STATE = 1) :=
  ⟨0, 0, (State.reset.setReg .SYS_STATE 1).setReg .MEM_STATE 1, by decide +kernel⟩

theorem witness_TheStartSequenceRuns_3 : ∃ (dt channel : Nat) (s : State), (Quiet s) ∧ (s.reg .SYS_STATE = 1 ∧ s.reg .MEM_STATE = 1) ∧ (s.sys.memFailed < 2) :=
  ⟨0, 1, (State.reset.setReg .SYS_STATE 1).setReg .MEM_STATE 1, by decide +kernel⟩

theorem witness_TheStartSequenceRuns_4 : ∃ (dt : Nat) (b : BootRecord) (s : State), (s.reg .SYS_STATE = 1 ∧ s.reg .MEM_STATE = 2) ∧ (s.net.forwarding = false) ∧ (s.update.keep = (true, true)) ∧ (s.update.boot = some b) ∧ (b.state = 0) :=
  ⟨0, ⟨1, 0, 0, 0, 0, 0, 0, 0, 0, []⟩, (State.reset.setReg .SYS_STATE 1).setReg .MEM_STATE 2, by decide +kernel⟩

theorem witness_TheStartSequenceRuns_5 : ∃ (dt : Nat) (b : BootRecord) (s : State), (Quiet s) ∧ (s.reg .SYS_STATE = 1) ∧ (s.update.boots = 1) ∧ (s.update.boot = some b) ∧ (b.state = 0) :=
  ⟨0, ⟨1, 0, 0, 0, 0, 0, 0, 0, 0, []⟩, (State.reset.setReg .SYS_STATE 1).modUpdate fun u => { u with boots := 1 }, by decide +kernel⟩

theorem witness_TheStartSequenceRuns_6 : ∃ (dt : Nat) (image : List (List Octet)) (s : State), (Quiet s) ∧ (s.reg .SYS_STATE = 1) ∧ (s.update.boots = 2) ∧ (s.update.retained = some image) ∧ (s.retainedOk = true) :=
  ⟨0, [[1, 2]], (State.reset.setReg .SYS_STATE 1).modUpdate fun u => { u with boots := 2, retained := some [[1, 2]], boot := some ⟨1, 2, 0, 0, 0, 0, 0, 0, 0, sha512 [1, 2]⟩ }, by decide +kernel⟩

theorem witness_TheStartSequenceRuns_7 : ∃ (dt engineFails ctrlFails : Nat) (seqOk : Bool) (s : State), (s.reg .SYS_STATE = 2) :=
  ⟨0, 0, 0, true, State.reset.setReg .SYS_STATE 2, by decide +kernel⟩

theorem witness_TheStartSequenceRuns_8 : ∃ (dt : Nat) (s : State), (Takes s 4) ∧ (s.reg .SYS_STATE = 3) ∧ (s.sys.doneSeen = false ∧ s.sys.lateLamp = false) ∧ (s.chain.adopting = false) ∧ (s.reg .LAN_STATE < 2) ∧ (s.reg .SYS_DRIVE_SEQ ≠ 2) ∧ (s.sys.role = 1) ∧ (s.sys.limitsFrom + msTicks 2000 ≤ s.ticks + dt) :=
  ⟨10000000000, (State.reset.setReg .SYS_STATE 3).modSys fun y => { y with role := 1 }, by decide +kernel⟩

theorem witness_TheStartSequenceRuns_9 : ∃ (dt tj : Nat) (rails : List Nat) (s : State), (Takes s 5) ∧ (s.sys.hot = false) ∧ (s.regInt .SYS_TJ_WARN ≤ toSigned 16 (tj % 65536)) :=
  ⟨0, 2000, [900, 1000], ingesting, by decide +kernel⟩

theorem witness_TheStartSequenceRuns_10 : ∃ (dt tj : Nat) (s : State), (Quiet s) ∧ (toSigned 16 (tj % 65536) < s.regInt .SYS_TJ_WARN) :=
  ⟨0, 300, ingesting, by decide +kernel⟩

theorem witness_ResetLeavesTheStartState_3_1 : (Reg.TCK_FLAGS).sub < 1024 ∧ Reg.TCK_FLAGS ≠ .LAN_STATE := by decide

theorem witness_ResetLeavesTheStartState_4_1 : (Reg.NETCNT_RX_FRAMES 0).sub < 1024 ∧ (counterEvent (.NETCNT_RX_FRAMES 0)).isSome = true := by decide

theorem witness_DrumStaysWithinItsWords_1_1 : DrumForm State.reset := by unfold DrumForm; decide

theorem witness_DictionaryKeepsItsForm_1_1 : DictForm State.reset := by unfold DictForm; decide

theorem witness_TheLevelSumsOverSixteenPeriods_1_1 : (2 ^ 20 : Nat) ≤ 2 ^ 20 := by decide

theorem witness_TheLevelSumsOverSixteenPeriods_3_1 : State.reset.lantern.anchor = State.reset.lantern.anchor := rfl

theorem witness_TheOnTicksFillTheirSegments_2_1 : (65536 : Nat) ≤ 65536 ∧ (63 : Nat) < 64 := by decide

theorem witness_TheOnTicksFillTheirSegments_3_1 : (1023 : Nat) < 1024 ∧ (65535 : Nat) < 65536 := by decide

theorem witness_TheOnTicksFillTheirSegments_4_1 : (65536 : Nat) ≤ 65536 ∧ (1023 : Nat) < 1024 ∧ (63 : Nat) < 64 ∧ (0 : Nat) < 1024 := by decide

theorem witness_NobodyBelowOperatorChangesTheUnit_1_1 : (Instr.cueStop 0 7 1).writer = some 7 ∧ (State.reset.elapse (Instr.cueStop 0 7 1).dt).levelOf 7 = 0 ∧ Quiet State.reset := by decide

end Sys2Proof.Tests
end

namespace Sys2Proof.Proofs

open Machine

/-- What an element reads after a command, where the command answers a next state. -/
def regAfter (c : Instr) (s : State) (r : Reg) : Option Nat :=
  match exec c s with
  | .next t => some (t.reg r)
  | _ => none

theorem regAfter_of_next {c : Instr} {s t : State} (r : Reg) (h : exec c s = .next t) : regAfter c s r = some (t.reg r) := by
  simp [regAfter, h]

/-! INSTANTIATE arms the comparator of a camera feed (R264) -/

/-- Belfry running on the grid with nothing in flight, and the camera of feed 0 driven from BELL0. -/
def cameraOnBell0 : State :=
  ((State.reset.setReg .BEL_STATE 2).setReg (.SCN_FEED_BELL_OPER 13) 0).modScan fun n => { n with gridOn := true }

/-- The epoch built is presented one period after venue time 0, and comparator 5 shows the camera pulse of that instant. -/
theorem instantiate_shows_cameraPulse : regAfter (.instantiate 0) cameraOnBell0 (.CMP_NEXT 5) = some 16666666 := by decide +kernel

/-- Refutes O18, by the frame of its first clause, which names no element of block 3: the epoch INSTANTIATE builds arms the comparator of a
pin that its feed names (R264), and CMP_NEXT of that comparator follows (R109). In `cameraOnBell0`, an ordinary camera feed, CMP_NEXT 5 moves
from 0 to 16,666,666 ns. The clause lets the clock change but would have to admit CMP_NEXT of comparators 5 to 12 as well. -/
theorem not_epochsAreBuiltRaisedAndRetired : ¬ Obligations.EpochsAreBuiltRaisedAndRetired := by
  unfold Obligations.EpochsAreBuiltRaisedAndRetired
  rintro ⟨hbuilt, -, -, -⟩
  obtain ⟨t, hnext, -, -, -, -, -, hregs⟩ := hbuilt 0 cameraOnBell0 rfl rfl (by decide +kernel) (by decide +kernel) rfl
  have hkept : t.reg (.CMP_NEXT 5) = (cameraOnBell0.elapse 0).reg (.CMP_NEXT 5) := hregs _ (by decide) (by decide)
  have hbefore : cameraOnBell0.reg (.CMP_NEXT 5) = 0 := by decide +kernel
  have hafter := instantiate_shows_cameraPulse
  rw [regAfter_of_next _ hnext, hkept, State.elapse_reg, hbefore] at hafter
  exact absurd hafter (by decide)

/-! COMMIT_INSTANT resumes instantiation, which counts by the AUX of the operations it finds (R155, R159) -/

/-- A canvas of one pixel that nothing covers, so of one brick. -/
def onePixelConfig : EpochConfig := {
  layers := [], order := [], background := 0, finial := [], failColour := 0, map := [], lampMap := [], canvasW := 1, canvasH := 1
  compact := false, feeds := 1, dither := 0, live := [], depths := [] }

/-- An epoch due at once, all its bricks instantiated and its graph complete. -/
def dueEpoch : Epoch :=
  { Epoch.fresh 0 0 0 0 0 0 onePixelConfig with stage := .live, nextBrick := 1, bricksDone := [0], completedAt := some 0 }

/-- The epoch behind it, with its brick still to instantiate and a resolution recorded for each layer number up to 3,328. -/
def overlongEpoch : Epoch :=
  { Epoch.fresh 1 1 0 0 0 1 onePixelConfig with stage := .live, layers := List.replicate 3329 .transparent }

/-- A FETCH of that brick that waits for layer 3,328. -/
def strayFetch : BelOp :=
  { slot := 0, code := 0, epoch := 1, brick := 0, aux := 3328, engine := none, unmet := 1, deadline := 0, clocks := 1, stage := .waiting }

/-- Both epochs in flight, the FETCH in its slot, one engine in use. -/
def strayFetchState : State :=
  { State.reset with epochs := [dueEpoch, overlongEpoch] }.modBelfry fun b => { b with
    slots := [strayFetch], engines := [{ Engine.reset with active := true }] }

/-- The counter of transparent bricks of "layer 3,328" is no element of Cupola but ZONE_PASSES of calibration zone 0. -/
theorem bricksTransparent_of_strayFetch : Reg.CUPCNT_BRICKS_TRANSPARENT strayFetch.aux = .ZONE_PASSES 0 := rfl

theorem commitInstant_counts_strayFetch :
    regAfter (.commitInstant 0 []) strayFetchState (.CUPCNT_BRICKS_TRANSPARENT strayFetch.aux) = some 1 := by decide +kernel

/-- Refutes O26, by the frame of its first clause, which names no element of block 7. Once the oldest epoch is decided COMMIT_INSTANT resumes
instantiation (R159), and a FETCH found in the slots of the brick it adds may be cancelled, which counts in the record CUPCNT of its AUX (R155).
The statement ranges over every state and bounds neither that AUX nor the layers an epoch holds: in `strayFetchState` AUX is 3,328, where R177
gives a FETCH 0 to 8, so the record counted lies in block 7 and ZONE_PASSES of zone 0 moves from 0 to 1. What the clause lacks is the premise
that the FETCH operations in the slots name layers 0 to 8. -/
theorem not_epochsAreDecidedStruckAndShown : ¬ Obligations.EpochsAreDecidedStruckAndShown := by
  unfold Obligations.EpochsAreDecidedStruckAndShown
  rintro ⟨hdecided, -, -, -, -⟩
  obtain ⟨t, hnext, -, -, -, -, -, -, -, hregs⟩ := hdecided 0 [] dueEpoch strayFetchState rfl (by decide +kernel) (by decide +kernel)
  have hkept : t.reg (.ZONE_PASSES 0) = (strayFetchState.elapse 0).reg (.ZONE_PASSES 0) := hregs _ (by decide) (by decide)
  have hbefore : strayFetchState.reg (.ZONE_PASSES 0) = 0 := by decide +kernel
  have hafter := commitInstant_counts_strayFetch
  rw [bricksTransparent_of_strayFetch, regAfter_of_next _ hnext, hkept, State.elapse_reg, hbefore] at hafter
  exact absurd hafter (by decide)

end Sys2Proof.Proofs

namespace Sys2Proof.Machine

/-! The frame a command runs in: the state its effect finds, and the state the command leaves -/

/-- The state in which the effect of a command begins: its clocks passed, nothing sent. -/
def begun (s : State) (dt : Nat) : State := { s.elapse dt with out := [] }

/-- The state a command leaves once its effect has made u of the state: events in the Drum, the queue as it was, its clocks passed. -/
def ended (s : State) (dt : Nat) (u : State) : State := { u.settle with pending := s.pending, ticks := s.ticks + dt }

/-- A command completes with a claim if its effect makes u and the claim holds of u ended. -/
theorem completes_of_effect {c : Instr} {s u : State} {dt : Nat} {f : State → State} {claim : State → State → Prop} (hdt : c.dt = dt)
    (hexec : exec c s = run s dt f) (heffect : f (begun s dt) = u) (hclaim : claim (s.elapse dt) (ended s dt u)) : Completes c s claim := by
  subst hdt heffect
  exact ⟨_, hexec, hclaim⟩

@[simp] theorem begun_reg (s : State) (dt : Nat) (r : Reg) : (begun s dt).reg r = s.reg r := rfl
@[simp] theorem begun_port (s : State) (dt port : Nat) : (begun s dt).port port = s.port port := rfl
@[simp] theorem begun_now (s : State) (dt : Nat) : (begun s dt).now = (s.elapse dt).now := rfl
@[simp] theorem ended_net (s u : State) (dt : Nat) : (ended s dt u).net = u.net := u.settle_net
@[simp] theorem ended_port (s u : State) (dt port : Nat) : (ended s dt u).port port = u.port port := by simp [State.port]
@[simp] theorem ended_out (s u : State) (dt : Nat) : (ended s dt u).out = u.out := u.settle_out

/-- Entering events move the Drum's own elements only. -/
theorem ended_reg (s u : State) (dt : Nat) (r : Reg) (hsub : r.sub < 1024) (hdrum : drumRegs r = false) : (ended s dt u).reg r = u.reg r :=
  u.settle_reg r hsub hdrum

/-- An event posted alone that the Drum does not filter is in it when the command ends. -/
theorem posted_ended {s u : State} {dt code priority arg : Nat} (hincoming : u.drum.incoming = [[⟨.single, priority, code, arg % 2 ^ 42⟩]])
    (hmin : u.reg .DRM_MIN_PRIORITY ≤ priority) : Posted (ended s dt u) code priority arg :=
  u.settle_holds _ (by simp [hincoming]) (by simp [hincoming]) (.inl hmin)

/-! What OnlyChanges allows, operation by operation -/

/-- The word a counter posts has priority 1 (R70). -/
theorem counterWord_priority {r : Reg} {a b : Nat} {w : DrumWord} (h : counterWord r a b = some w) : w.priority = 1 := by
  unfold counterWord at h
  split at h
  · split at h
    · rw [← Option.some.inj h]
    · cases h
  · cases h

section OnlyChanges

variable {parts : List Part} {regs : Reg → Bool} {s t : State}

theorem onlyChanges_refl (s : State) : OnlyChanges parts regs s s :=
  ⟨fun p _ => by cases p <;> rfl, fun _ _ _ => rfl⟩

theorem onlyChanges_begun (s : State) (dt : Nat) : OnlyChanges parts regs (s.elapse dt) (begun s dt) :=
  ⟨fun p _ => by cases p <;> rfl, fun _ _ _ => rfl⟩

theorem OnlyChanges.setReg (h : OnlyChanges parts regs s t) (r : Reg) (v : Nat) (hsub : r.sub < 1024) (hr : regs r = true) :
    OnlyChanges parts regs s (t.setReg r v) := by
  obtain ⟨hparts, hregs⟩ := h
  refine ⟨fun p hp => ?_, fun q hq hqr => ?_⟩
  · have := hparts p hp
    cases p <;> simpa [Part.same] using this
  · have hne : q ≠ r := by rintro rfl; simp [hr] at hqr
    rw [State.reg_setReg_other _ _ _ _ hsub hq hne, hregs q hq hqr]

/-- An event below priority 7 moves no element. -/
theorem OnlyChanges.postItem (h : OnlyChanges parts regs s t) (w : DrumWord) (hw : w.priority ≠ 7) (hdrum : .drum ∈ parts) :
    OnlyChanges parts regs s (t.postItem [w]) := by
  obtain ⟨hparts, hregs⟩ := h
  refine ⟨fun p hp => ?_, fun q hq hqr => ?_⟩
  · have := hparts p hp
    cases p with
    | drum => exact absurd hdrum hp
    | _ => simpa [Part.same] using this
  · rw [← hregs q hq hqr]; simp only [State.postItem, hw, if_false]; rfl

theorem OnlyChanges.count (h : OnlyChanges parts regs s t) (r : Reg) (n : Nat) (hsub : r.sub < 1024) (hr : regs r = true) (hdrum : .drum ∈ parts) :
    OnlyChanges parts regs s (t.count r n) := by
  have hset := h.setReg r (t.reg r + n) hsub hr
  simp only [State.count]
  split
  next w hw => exact hset.postItem w (by simp [counterWord_priority hw]) hdrum
  next => exact hset

theorem OnlyChanges.emit (h : OnlyChanges parts regs s t) (x : Output) : OnlyChanges parts regs s (t.emit x) := by
  obtain ⟨hparts, hregs⟩ := h
  exact ⟨fun p hp => by have := hparts p hp; cases p <;> exact this, hregs⟩

theorem OnlyChanges.modNet (h : OnlyChanges parts regs s t) (f : Net → Net) (hnet : .net ∈ parts) : OnlyChanges parts regs s (t.modNet f) := by
  obtain ⟨hparts, hregs⟩ := h
  refine ⟨fun p hp => ?_, hregs⟩
  have := hparts p hp
  cases p with
  | net => exact absurd hnet hp
  | _ => exact this

/-- What an effect may change, a command may, and the Drum's own elements with it: events enter. -/
theorem OnlyChanges.ended {dt : Nat} {u : State} (h : OnlyChanges parts regs (s.elapse dt) u) (hdrum : .drum ∈ parts) (hlog : .log ∈ parts) :
    OnlyChanges parts (andDrum regs) (s.elapse dt) (ended s dt u) := by
  obtain ⟨hparts, hregs⟩ := h
  refine ⟨fun p hp => ?_, fun r hr hregsr => ?_⟩
  · have := hparts p hp
    cases p with
    | drum => exact absurd hdrum hp
    | log => exact absurd hlog hp
    | ticks => rfl
    | pending => rfl
    | _ => simpa [Part.same, Machine.ended] using this
  · obtain ⟨hnotDrum, hnotRegs⟩ := Bool.or_eq_false_iff.1 hregsr
    rw [ended_reg _ _ _ _ hr hnotDrum, hregs r hr hnotRegs]

/-- What an effect that posts nothing may change, a command may. -/
theorem OnlyChanges.ended_quiet {dt : Nat} {u : State} (h : OnlyChanges parts regs (s.elapse dt) u) (hquiet : Quiet u) :
    OnlyChanges parts regs (s.elapse dt) (Machine.ended s dt u) := by
  obtain ⟨hparts, hregs⟩ := h
  rw [Machine.ended, u.settle_quiet hquiet]
  refine ⟨fun p hp => ?_, hregs⟩
  have := hparts p hp
  cases p with
  | ticks => rfl
  | pending => rfl
  | _ => exact this

end OnlyChanges

/-! Ports of the network block -/

theorem nth_modNth_same {α : Type} (l : List α) (i : Nat) (f : α → α) (d : α) (h : i < l.length) : nth (modNth l i f) i d = f (nth l i d) := by
  simp [nth, modNth, List.getElem?_eq_getElem h]

theorem nth_replicate_same {α : Type} (n i : Nat) (d : α) : nth (List.replicate n d) i d = d := by
  by_cases h : i < n <;> simp [nth, h]

theorem port_modPort_same (s : State) (port : Nat) (f : NetPort → NetPort) (h : port < s.net.ports.length) :
    (s.modPort port f).port port = f (s.port port) :=
  nth_modNth_same _ _ _ _ h

theorem port_modGate_same (s : State) (port : Nat) (f : GateState → GateState) (h : port < s.net.ports.length) :
    ((s.modGate port f).port port).gate = f (s.port port).gate := by
  simp [State.modGate, port_modPort_same _ _ _ h]

@[simp] theorem State.modGate_ports_length (s : State) (port : Nat) (f : GateState → GateState) :
    (s.modGate port f).net.ports.length = s.net.ports.length := by simp [State.modGate, State.modPort, modNth]

theorem State.setReg_port (s : State) (r : Reg) (v q : Nat) : (s.setReg r v).port q = s.port q := by simp [State.port]
theorem State.post_port (s : State) (c p a q : Nat) : (s.post c p a).port q = s.port q := by simp [State.port]

/-! Frames sent -/

@[simp] theorem State.countSent_net (s : State) (port cls : Nat) (o : List Octet) : (s.countSent port cls o).net = s.net := by
  simp only [State.countSent]; repeat' split
  all_goals simp

@[simp] theorem State.countSent_out (s : State) (port cls : Nat) (o : List Octet) : (s.countSent port cls o).out = s.out := by
  simp only [State.countSent]; repeat' split
  all_goals simp

/-- The counters of a port are its own record (R68). -/
theorem OnlyChanges.countPort {parts : List Part} {s t : State} {port : Nat} (h : OnlyChanges parts (entries [0x2100 + port]) s t) (sub n : Nat)
    (hsub : sub < 1024) (hdrum : .drum ∈ parts) : OnlyChanges parts (entries [0x2100 + port]) s (t.count ⟨0x2100 + port, sub⟩ n) :=
  h.count _ n hsub (by simp [entries]) hdrum

theorem OnlyChanges.countSent {parts : List Part} {s t : State} {port : Nat} (h : OnlyChanges parts (entries [0x2100 + port]) s t) (cls : Nat)
    (o : List Octet) (hcls : cls < 8) (hdrum : .drum ∈ parts) : OnlyChanges parts (entries [0x2100 + port]) s (t.countSent port cls o) := by
  have hsent := (h.countPort 2 (o.length + 4) (by decide) hdrum).countPort 37 1 (by decide) hdrum
  have hcast : OnlyChanges parts (entries [0x2100 + port]) s
      (let u := (t.count (.NETCNT_TX_OCTETS port) (o.length + 4)).count (.NETCNT_TX_FRAMES port)
       if ethDst o = 0xFFFFFFFFFFFF then u.count (.NETCNT_TX_BROADCAST port)
       else if (nth o 0 0).toNat % 2 = 1 then u.count (.NETCNT_TX_MULTICAST port) else u.count (.NETCNT_TX_UNICAST port)) := by
    split
    · exact hsent.countPort 40 1 (by decide) hdrum
    · split
      · exact hsent.countPort 39 1 (by decide) hdrum
      · exact hsent.countPort 38 1 (by decide) hdrum
  rw [State.countSent]
  by_cases hport : port = 2
  · rw [if_pos hport]; exact hcast
  · rw [if_neg hport]; exact hcast.countPort (43 + cls) 1 (by omega) hdrum

@[simp] theorem begun_linkIsUp (s : State) (dt port : Nat) : (begun s dt).linkIsUp port = s.linkIsUp port := rfl
@[simp] theorem begun_gclEntryEnd (s : State) (dt port k : Nat) : (begun s dt).gclEntryEnd port k = s.gclEntryEnd port k := rfl
@[simp] theorem begun_gclNext (s : State) (dt port k : Nat) : (begun s dt).gclNext port k = s.gclNext port k := rfl
@[simp] theorem begun_gclAdmin (s : State) (dt port k : Nat) : (begun s dt).gclAdmin port k = s.gclAdmin port k := rfl

@[simp] theorem begun_gclFault (s : State) (dt port : Nat) : (begun s dt).gclFault port = s.gclFault port := by
  simp only [State.gclFault, begun_reg, begun_gclAdmin]; rfl

/-- How long gates stay open is read from the list in force, not from what has been sent. -/
theorem openAfter_begun (s : State) (dt port cls n k : Nat) : (begun s dt).openAfter port cls n k = (s.elapse dt).openAfter port cls n k := by
  induction n generalizing k with
  | zero => rfl
  | succ n ih => simp only [State.openAfter, ih]; rfl

theorem gateOpenFor_begun (s : State) (dt port cls : Nat) : (begun s dt).gateOpenFor port cls = (s.elapse dt).gateOpenFor port cls := by
  simp only [State.gateOpenFor, openAfter_begun]; rfl

theorem nextClass_begun (s : State) (dt port : Nat) : (begun s dt).nextClass port = (s.elapse dt).nextClass port := by
  simp only [State.nextClass, State.passesGuard, gateOpenFor_begun]; rfl

/-- The classes a port may send from are 0 to 7 (R60). -/
theorem State.nextClass_lt {s : State} {port c : Nat} (h : s.nextClass port = some c) : c < 8 := by
  have := List.mem_of_find?_eq_some h
  simp at this
  omega

/-- A port with a frame queued is one of the block's, and the class of the frame one of the port's. -/
theorem State.port_lt_of_queued {s : State} {port c : Nat} {f : QueuedFrame} {rest : List QueuedFrame}
    (h : nth (s.port port).queues c [] = f :: rest) : port < s.net.ports.length ∧ c < (s.port port).queues.length := by
  have hc : c < (s.port port).queues.length := by
    by_contra hc
    simp [nth, List.getElem?_eq_none (Nat.le_of_not_lt hc)] at h
  refine ⟨?_, hc⟩
  by_contra hp
  have hreset : s.port port = NetPort.reset := by simp [State.port, nth, List.getElem?_eq_none (Nat.le_of_not_lt hp)]
  have hnothing : nth NetPort.reset.queues c [] = [] := nth_replicate_same 8 c []
  rw [hreset, hnothing] at h
  cases h

/-- The state once the head frame f of class c has left port as it stands, the frames behind it still queued. -/
def State.sendHead (s : State) (port c : Nat) (f : QueuedFrame) (rest : List QueuedFrame) : State :=
  let s1 := (s.modPort port fun p => { p with queues := modNth p.queues c fun _ => rest }).countSent port c f.octets
  let s2 := if f.forwarded ∧ port ≠ 2 then s1.count (.NETCNT_FWD_STORE_FORWARD port) else s1
  s2.emit (.frame port f.octets (crcOf crc32 f.octets) false)

theorem State.sendHead_net (s : State) (port c : Nat) (f : QueuedFrame) (rest : List QueuedFrame) :
    (s.sendHead port c f rest).net = (s.modPort port fun p => { p with queues := modNth p.queues c fun _ => rest }).net := by
  simp only [State.sendHead]; split <;> simp

theorem State.sendHead_out (s : State) (port c : Nat) (f : QueuedFrame) (rest : List QueuedFrame) :
    (s.sendHead port c f rest).out = s.out ++ [.frame port f.octets (crcOf crc32 f.octets) false] := by
  simp only [State.sendHead]; split <;> simp [State.modPort]

theorem State.sendHead_port (s : State) (port c q : Nat) (f : QueuedFrame) (rest : List QueuedFrame) :
    (s.sendHead port c f rest).port q = (s.modPort port fun p => { p with queues := modNth p.queues c fun _ => rest }).port q := by
  simp only [State.port, State.sendHead_net]

theorem OnlyChanges.sendHead {parts : List Part} {s t : State} {port c : Nat} {f : QueuedFrame} {rest : List QueuedFrame}
    (h : OnlyChanges parts (entries [0x2100 + port]) s t) (hc : c < 8) (hnet : .net ∈ parts) (hdrum : .drum ∈ parts) :
    OnlyChanges parts (entries [0x2100 + port]) s (t.sendHead port c f rest) := by
  have hsent := (h.modNet _ hnet : OnlyChanges _ _ s (t.modPort port fun p => { p with queues := modNth p.queues c fun _ => rest })).countSent c
    f.octets hc hdrum
  rw [State.sendHead]
  by_cases hforward : f.forwarded ∧ port ≠ 2
  · rw [if_pos hforward]; exact (hsent.countPort 34 1 (by decide) hdrum).emit _
  · rw [if_neg hforward]; exact hsent.emit _

/-! Gate lists -/

theorem OnlyChanges.modGate {parts : List Part} {regs : Reg → Bool} {s t : State} (h : OnlyChanges parts regs s t) (port : Nat)
    (f : GateState → GateState) (hnet : .net ∈ parts) : OnlyChanges parts regs s (t.modGate port f) :=
  h.modNet _ hnet

theorem OnlyChanges.gclEnter {parts : List Part} {regs : Reg → Bool} {s t : State} (h : OnlyChanges parts regs s t) (port k start : Nat)
    (hnet : .net ∈ parts) : OnlyChanges parts regs s (t.gclEnter port k start) :=
  h.modGate _ _ hnet

/-- A writer of the level an element asks has the effect of the write (R468). -/
theorem State.asWriter_allowed {s : State} {who l : Nat} {r : Reg} (f : State → State) (hr : writeLevel r = some l) (hwho : l ≤ s.levelOf who) :
    s.asWriter who r f = f s := by
  simp [State.asWriter, hr, hwho]

/-- NET_GCL_CHANGE and NET_GCL_CHANGE_TIME of a chain port are elements of 8 and 64 bits; level 1 writes the first (R64). -/
theorem gclChange_row {port : Nat} (h : port < 2) : dictBits (.NET_GCL_CHANGE (port + 1)) = 8 ∧ dictBits (.NET_GCL_CHANGE_TIME (port + 1)) = 64 ∧
    writeLevel (.NET_GCL_CHANGE (port + 1)) = some 1 := by
  interval_cases port <;> decide

theorem gclChange_ne_time (port : Nat) : Reg.NET_GCL_CHANGE (port + 1) ≠ .NET_GCL_CHANGE_TIME (port + 1) := by
  simp [Reg.NET_GCL_CHANGE, Reg.NET_GCL_CHANGE_TIME]

/-- The state once a pending change of a port's list is noted or withdrawn: both elements at the values given, the write answered (R65). -/
def State.gclMark (s : State) (port : Nat) (pending : Bool) (change time : Nat) : State :=
  (((s.modGate port fun g => { g with pending := pending }).setReg (.NET_GCL_CHANGE (port + 1)) change).setReg
    (.NET_GCL_CHANGE_TIME (port + 1)) time).reply 0

@[simp] theorem State.gclMark_drum (s : State) (port change time : Nat) (pending : Bool) : (s.gclMark port pending change time).drum = s.drum := by
  simp [State.gclMark, State.modGate, State.modPort]

theorem State.gclRequest_of_valid {s : State} {port : Nat} (hport : port < 2) (hidle : (s.port port).gate.pending = false)
    (hvalid : s.gclFault port = none) : s.gclRequest port = s.gclMark port true 1
      (gclChangeTime (s.reg (.NET_GCL_ADMIN_BASE (port + 1))) (s.reg (.NET_GCL_ADMIN_CYCLE (port + 1))) s.now) := by
  simp [State.gclRequest, State.gclMark, hport, hidle, hvalid]

theorem State.gclCancel_of_pending {s : State} {port : Nat} (hport : port < 2) (hpending : (s.port port).gate.pending = true) :
    s.gclCancel port = s.gclMark port false 0 0 := by
  simp [State.gclCancel, State.gclMark, hport, hpending]

theorem OnlyChanges.gclMark {parts : List Part} {s t : State} {port change time : Nat} {pending : Bool}
    (h : OnlyChanges parts (among [.NET_GCL_CHANGE (port + 1), .NET_GCL_CHANGE_TIME (port + 1)]) s t) (hport : port < 2) (hnet : .net ∈ parts) :
    OnlyChanges parts (among [.NET_GCL_CHANGE (port + 1), .NET_GCL_CHANGE_TIME (port + 1)]) s (t.gclMark port pending change time) := by
  have hsub : port + 1 < 1024 := by omega
  exact (((h.modGate port _ hnet).setReg (.NET_GCL_CHANGE (port + 1)) change hsub (by simp [among])).setReg
    (.NET_GCL_CHANGE_TIME (port + 1)) time hsub (by simp [among])).emit (.reply 0)

/-- A write of NET_GCL_CHANGE by level 1 whose meaning is to mark the change. -/
theorem completes_of_gclMark {c : Instr} {s : State} {dt who port change time : Nat} {pending : Bool} {f : State → State} (hdt : c.dt = dt)
    (hexec : exec c s = run s dt fun s => s.asWriter who (.NET_GCL_CHANGE (port + 1)) f) (hport : port < 2) (hports : port < s.net.ports.length)
    (hquiet : Quiet s) (hwho : 1 ≤ (s.elapse dt).levelOf who) (hf : f (begun s dt) = (begun s dt).gclMark port pending change time) :
    Completes c s fun s0 t => (t.port port).gate.pending = pending ∧ t.reg (.NET_GCL_CHANGE (port + 1)) = change % 2 ^ 8 ∧
      t.reg (.NET_GCL_CHANGE_TIME (port + 1)) = time % 2 ^ 64 ∧ t.out = [.reply 0] ∧
      OnlyChanges [.net] (among [.NET_GCL_CHANGE (port + 1), .NET_GCL_CHANGE_TIME (port + 1)]) s0 t := by
  obtain ⟨hchange, htime, hlevel⟩ := gclChange_row hport
  have hsub : port + 1 < 1024 := by omega
  refine completes_of_effect hdt hexec ((State.asWriter_allowed (s := begun s dt) f hlevel hwho).trans hf) ⟨?_, ?_, ?_, ?_, ?_⟩
  · rw [ended_port]
    simp only [State.gclMark, State.port, State.reply_net, State.setReg_net]
    exact congrArg _ (port_modGate_same (begun s dt) port _ hports)
  · rw [ended_reg _ _ _ _ hsub rfl]
    simp only [State.gclMark, State.reply_reg]
    rw [State.reg_setReg_other _ _ _ _ hsub hsub (gclChange_ne_time port), State.reg_setReg_same _ _ _ (by simp [hchange]), hchange]
  · rw [ended_reg _ _ _ _ hsub rfl]
    simp only [State.gclMark, State.reply_reg]
    rw [State.reg_setReg_same _ _ _ (by simp [htime]), htime]
  · simp [State.gclMark, State.modGate, State.modPort, begun]
  · exact ((onlyChanges_begun s dt).gclMark hport (List.mem_singleton_self _)).ended_quiet
      ((congrArg Drum.incoming (State.gclMark_drum ..)).trans hquiet)

/-! The operational list takes the administrative values -/

/-- The element of entry k of the operational list (R64). -/
def gclOperReg (port k : Nat) : Reg := if port = 0 then .NET_GCL_OPER_NETA (k + 1) else .NET_GCL_OPER_NETB (k + 1)

/-- The element of entry k of the administrative list (R64). -/
def gclAdminReg (port k : Nat) : Reg := if port = 0 then .NET_GCL_ADMIN_NETA (k + 1) else .NET_GCL_ADMIN_NETB (k + 1)

theorem State.gclEntry_eq (s : State) (port k : Nat) : s.gclEntry port k = s.reg (gclOperReg port k) := by
  simp only [State.gclEntry, gclOperReg]; split <;> rfl

theorem State.gclAdmin_eq (s : State) (port k : Nat) : s.gclAdmin port k = s.reg (gclAdminReg port k) := by
  simp only [State.gclAdmin, gclAdminReg]; split <;> rfl

/-- Elements copied one after another. -/
def State.copyRegs (s : State) (dst src : Nat → Reg) (ks : List Nat) : State := ks.foldl (fun s k => s.setReg (dst k) (s.reg (src k))) s

/-- An element that is no target keeps its value. -/
theorem State.copyRegs_reg_other (s : State) (dst src : Nat → Reg) (ks : List Nat) (q : Reg) (hq : ∀ j ∈ ks, q.key ≠ (dst j).key) :
    (s.copyRegs dst src ks).reg q = s.reg q :=
  List.foldlRecOn ks _ (motive := fun t => State.reg t q = s.reg q) rfl fun t ht j hj => (t.reg_setReg_key _ _ _ (hq j hj)).trans ht

/-- Each element copied reads as its source did, where no source is a target. -/
theorem State.copyRegs_reg (s : State) (dst src : Nat → Reg) (ks : List Nat) (k : Nat) (hk : k ∈ ks) (hbits : dictBits (dst k) ≠ 0)
    (hdst : ∀ j ∈ ks, (dst k).key = (dst j).key → j = k) (hsrc : ∀ j ∈ ks, (src k).key ≠ (dst j).key) :
    (s.copyRegs dst src ks).reg (dst k) = s.reg (src k) % 2 ^ dictBits (dst k) := by
  induction ks generalizing s with
  | nil => simp at hk
  | cons j js ih =>
    have hstay : (s.setReg (dst j) (s.reg (src j))).reg (src k) = s.reg (src k) := s.reg_setReg_key _ _ _ (hsrc j (by simp))
    by_cases hjs : k ∈ js
    · rw [State.copyRegs, List.foldl_cons, ← State.copyRegs, ih _ hjs (fun i hi => hdst i (by simp [hi])) (fun i hi => hsrc i (by simp [hi])),
        hstay]
    · obtain rfl : k = j := by simpa [hjs] using hk
      rw [State.copyRegs, List.foldl_cons, ← State.copyRegs, State.copyRegs_reg_other,
        State.reg_setReg_same _ _ _ hbits]
      intro i hi heq
      exact hjs (hdst i (by simp [hi]) heq ▸ hi)

@[simp] theorem State.copyRegs_net (s : State) (dst src : Nat → Reg) (ks : List Nat) : (s.copyRegs dst src ks).net = s.net :=
  List.foldlRecOn ks _ (motive := fun t => State.net t = s.net) rfl fun t ht _ _ => (t.setReg_net _ _).trans ht

@[simp] theorem State.copyRegs_drum (s : State) (dst src : Nat → Reg) (ks : List Nat) : (s.copyRegs dst src ks).drum = s.drum :=
  List.foldlRecOn ks _ (motive := fun t => State.drum t = s.drum) rfl fun t ht _ _ => (t.setReg_drum _ _).trans ht

theorem OnlyChanges.copyRegs {parts : List Part} {regs : Reg → Bool} {s t : State} (h : OnlyChanges parts regs s t) (dst src : Nat → Reg)
    (ks : List Nat) (hdst : ∀ k ∈ ks, (dst k).sub < 1024 ∧ regs (dst k) = true) : OnlyChanges parts regs s (t.copyRegs dst src ks) :=
  List.foldlRecOn ks _ (motive := OnlyChanges parts regs s) h fun _ hu k hk => hu.setReg _ _ (hdst k hk).1 (hdst k hk).2

/-- The parameters of the operational list take the administrative values. -/
def State.gclCopyParams (s : State) (port : Nat) : State :=
  (((s.setReg (.NET_GCL_OPER_BASE (port + 1)) (s.reg (.NET_GCL_ADMIN_BASE (port + 1)))).setReg
    (.NET_GCL_OPER_CYCLE (port + 1)) (s.reg (.NET_GCL_ADMIN_CYCLE (port + 1)))).setReg
    (.NET_GCL_OPER_EXT (port + 1)) (s.reg (.NET_GCL_ADMIN_EXT (port + 1)))).setReg
    (.NET_GCL_OPER_LEN (port + 1)) (s.reg (.NET_GCL_ADMIN_LEN (port + 1)))

theorem State.gclCopy_eq (s : State) (port : Nat) :
    s.gclCopy port = (s.gclCopyParams port).copyRegs (gclOperReg port) (gclAdminReg port) (List.range 64) := by
  by_cases h : port = 0 <;> simp only [State.gclCopy, State.gclCopyParams, State.copyRegs, gclOperReg, gclAdminReg, h, if_true, if_false]

@[simp] theorem State.gclCopy_net (s : State) (port : Nat) : (s.gclCopy port).net = s.net := by simp [State.gclCopy_eq, State.gclCopyParams]
@[simp] theorem State.gclCopy_drum (s : State) (port : Nat) : (s.gclCopy port).drum = s.drum := by simp [State.gclCopy_eq, State.gclCopyParams]

/-- The entries of the dictionary that a swap sets (R65, rule 3). -/
abbrev gclSwapEntries : List Nat := [0x2047, 0x2048, 0x2050, 0x2051, 0x2052, 0x2053, 0x2054, 0x2055, 0x2056]

theorem gclOperReg_sub (port k : Nat) : (gclOperReg port k).sub = k + 1 := by unfold gclOperReg; split <;> rfl
theorem gclAdminReg_sub (port k : Nat) : (gclAdminReg port k).sub = k + 1 := by unfold gclAdminReg; split <;> rfl

theorem gclOperReg_index (port k : Nat) : (gclOperReg port k).index = if port = 0 then 0x2055 else 0x2056 := by unfold gclOperReg; split <;> rfl
theorem gclAdminReg_index (port k : Nat) : (gclAdminReg port k).index = if port = 0 then 0x2045 else 0x2046 := by
  unfold gclAdminReg; split <;> rfl

/-- The entries of the operational lists lie behind every element of a lower index. -/
theorem gclOperReg_key_ne (port : Nat) {q : Reg} {j : Nat} (hsub : q.sub < 1024) (hindex : q.index < 0x2055) (hj : j < 64) :
    q.key ≠ (gclOperReg port j).key := by
  have hoper : 0x2055 ≤ (gclOperReg port j).index := by rw [gclOperReg_index]; split <;> decide
  have hoperSub := gclOperReg_sub port j
  simp only [Reg.key]
  omega

theorem dictBits_gclOperReg (port : Nat) {k : Nat} (hk : k < 64) : dictBits (gclOperReg port k) = 64 := by
  have hrows : ∀ k < 64, dictBits (.NET_GCL_OPER_NETA (k + 1)) = 64 ∧ dictBits (.NET_GCL_OPER_NETB (k + 1)) = 64 := by decide +kernel
  unfold gclOperReg
  split
  · exact (hrows k hk).1
  · exact (hrows k hk).2

theorem OnlyChanges.gclCopyParams {parts : List Part} {s t : State} {port : Nat} (h : OnlyChanges parts (entries gclSwapEntries) s t)
    (hport : port < 2) : OnlyChanges parts (entries gclSwapEntries) s (t.gclCopyParams port) := by
  have hsub : port + 1 < 1024 := by omega
  exact (((h.setReg _ _ hsub rfl).setReg _ _ hsub rfl).setReg _ _ hsub rfl).setReg _ _ hsub rfl

theorem OnlyChanges.gclCopy {parts : List Part} {s t : State} {port : Nat} (h : OnlyChanges parts (entries gclSwapEntries) s t)
    (hport : port < 2) : OnlyChanges parts (entries gclSwapEntries) s (t.gclCopy port) := by
  rw [State.gclCopy_eq]
  refine (h.gclCopyParams hport).copyRegs _ _ _ fun k hk => ⟨?_, ?_⟩
  · rw [gclOperReg_sub]; have := List.mem_range.1 hk; omega
  · rw [entries, gclOperReg_index]; split <;> rfl

theorem OnlyChanges.gclDoSwap {parts : List Part} {s t : State} {port : Nat} (h : OnlyChanges parts (entries gclSwapEntries) s t)
    (hport : port < 2) (hnet : .net ∈ parts) (hdrum : .drum ∈ parts) : OnlyChanges parts (entries gclSwapEntries) s (t.gclDoSwap port) := by
  have hsub : port + 1 < 1024 := by omega
  exact ((((((h.gclCopy hport).setReg (.NET_GCL_OPER_CHANGES (port + 1)) _ hsub rfl).gclEnter port 0 _ hnet).modGate port _ hnet).setReg
    (.NET_GCL_CHANGE (port + 1)) 0 hsub rfl).setReg (.NET_GCL_CHANGE_TIME (port + 1)) 0 hsub rfl).postItem _ (by simp) hdrum

/-- Beside the change elements and the count of changes, a swap leaves every element as the copy of the list does. -/
theorem State.gclDoSwap_reg (s : State) {port : Nat} (hport : port < 2) (q : Reg) (hsub : q.sub < 1024)
    (hq : entries [0x2047, 0x2048, 0x2054] q = false) : (s.gclDoSwap port).reg q = (s.gclCopy port).reg q := by
  have hp : port + 1 < 1024 := by omega
  have hchange : q ≠ .NET_GCL_CHANGE (port + 1) := by rintro rfl; cases hq
  have htime : q ≠ .NET_GCL_CHANGE_TIME (port + 1) := by rintro rfl; cases hq
  have hcount : q ≠ .NET_GCL_OPER_CHANGES (port + 1) := by rintro rfl; cases hq
  rw [State.gclDoSwap, State.reg_post_low _ _ _ _ _ (by decide), State.reg_setReg_other _ _ _ _ hp hsub htime,
    State.reg_setReg_other _ _ _ _ hp hsub hchange]
  exact State.reg_setReg_other _ _ _ _ hp hsub hcount

/-- The operational list is the administrative one after a swap (R65, rule 3). -/
theorem State.gclDoSwap_gclEntry (s : State) {port k : Nat} (hport : port < 2) (hk : k < 64) :
    (s.gclDoSwap port).gclEntry port k = s.gclAdmin port k % 2 ^ 64 := by
  have hoperSub : (gclOperReg port k).sub < 1024 := by rw [gclOperReg_sub]; omega
  have hadminSub : (gclAdminReg port k).sub < 1024 := by rw [gclAdminReg_sub]; omega
  have hparams : (s.gclCopyParams port).reg (gclAdminReg port k) = s.reg (gclAdminReg port k) :=
    ((onlyChanges_refl (parts := []) s).gclCopyParams hport).2 _ hadminSub (by rw [entries, gclAdminReg_index]; split <;> rfl)
  rw [State.gclEntry_eq, State.gclDoSwap_reg s hport _ hoperSub (by rw [entries, gclOperReg_index]; split <;> rfl), State.gclCopy_eq,
    State.copyRegs_reg _ _ _ _ _ (List.mem_range.2 hk) (by rw [dictBits_gclOperReg port hk]; decide), dictBits_gclOperReg port hk, hparams,
    ← State.gclAdmin_eq]
  · intro j hj heq
    have hj' := List.mem_range.1 hj
    have hreg := Reg.key_inj hoperSub (by rw [gclOperReg_sub]; omega) heq
    have hsub := congrArg Reg.sub hreg
    simpa [gclOperReg_sub] using hsub.symm
  · have hindex : (gclAdminReg port k).index < 0x2055 := by rw [gclAdminReg_index]; split <;> decide
    exact fun j hj => gclOperReg_key_ne port hadminSub hindex (List.mem_range.1 hj)

theorem State.gclDoSwap_operLen (s : State) {port : Nat} (hport : port < 2) :
    (s.gclDoSwap port).reg (.NET_GCL_OPER_LEN (port + 1)) =
      s.reg (.NET_GCL_ADMIN_LEN (port + 1)) % 2 ^ dictBits (.NET_GCL_OPER_LEN (port + 1)) := by
  have hsub : port + 1 < 1024 := by omega
  have hbits : dictBits (.NET_GCL_OPER_LEN (port + 1)) ≠ 0 := by interval_cases port <;> decide
  rw [State.gclDoSwap_reg s hport _ hsub rfl, State.gclCopy_eq, State.copyRegs_reg_other, State.gclCopyParams, State.reg_setReg_same _ _ _ hbits]
  exact fun j hj => gclOperReg_key_ne port (q := .NET_GCL_OPER_LEN (port + 1)) hsub (by decide : 0x2053 < 0x2055) (List.mem_range.1 hj)

theorem State.gclDoSwap_change (s : State) {port : Nat} (hport : port < 2) : (s.gclDoSwap port).reg (.NET_GCL_CHANGE (port + 1)) = 0 := by
  have hsub : port + 1 < 1024 := by omega
  obtain ⟨hbits, -, -⟩ := gclChange_row hport
  rw [State.gclDoSwap, State.reg_post_low _ _ _ _ _ (by decide), State.reg_setReg_other _ _ _ _ hsub hsub (gclChange_ne_time port),
    State.reg_setReg_same _ _ _ (by simp [hbits])]
  simp

/-- Entering events leave the operational list as it is. -/
theorem ended_gclEntry (s u : State) (dt port : Nat) {k : Nat} (hk : k < 64) : (ended s dt u).gclEntry port k = u.gclEntry port k := by
  have hsub : k + 1 < 1024 := by omega
  simp only [State.gclEntry]
  split <;> exact ended_reg _ _ _ _ hsub rfl

/-- After a swap the list runs from its first entry with no change pending. -/
theorem State.gclDoSwap_gate (s : State) {port : Nat} (hports : port < s.net.ports.length) :
    (((s.gclDoSwap port).port port).gate).entry = 0 ∧ (((s.gclDoSwap port).port port).gate).pending = false := by
  have hentered : port < (((s.gclCopy port).bump (.NET_GCL_OPER_CHANGES (port + 1))).gclEnter port 0
      (s.reg (.NET_GCL_CHANGE_TIME (port + 1)))).net.ports.length := by simpa [State.gclEnter] using hports
  rw [State.gclDoSwap, State.post_port, State.setReg_port, State.setReg_port, port_modGate_same _ _ _ hentered, State.gclEnter,
    port_modGate_same _ _ _ (by simpa using hports)]
  exact ⟨rfl, rfl⟩

/-- A swap posts event 0x2030 with the port and the change time (R65, R76). -/
theorem State.gclDoSwap_incoming (s : State) (port : Nat) : (s.gclDoSwap port).drum.incoming = s.drum.incoming ++
    [[⟨.single, 2, 0x2030, (port + (s.reg (.NET_GCL_CHANGE_TIME (port + 1)) % 2 ^ 41) * 2) % 2 ^ 42⟩]] := by
  simp [State.gclDoSwap, State.post, State.postItem, State.gclEnter, State.modGate, State.modPort]

end Sys2Proof.Machine

namespace Sys2Proof.Proofs

open Machine

/-! EGRESS_TRANSMIT, GATE_ENTRY_EXPIRY, GCL_CHANGE_REQUEST, GCL_CHANGE_CANCEL and GCL_SWAP (R62, R65, R66) -/

theorem exec_egressTransmit (dt port : Nat) (s : State) : exec (.egressTransmit dt port) s = execEgressTransmit dt port s := rfl
theorem exec_gateEntryExpiry (dt port : Nat) (s : State) : exec (.gateEntryExpiry dt port) s = execGateEntryExpiry dt port s := rfl
theorem exec_gclChangeRequest (dt who port : Nat) (s : State) : exec (.gclChangeRequest dt who port) s = execGclChangeRequest dt who port s := rfl
theorem exec_gclChangeCancel (dt who port : Nat) (s : State) : exec (.gclChangeCancel dt who port) s = execGclChangeCancel dt who port s := rfl
theorem exec_gclSwap (dt port : Nat) (s : State) : exec (.gclSwap dt port) s = execGclSwap dt port s := rfl

theorem egressTransmit_sendsHead (dt port c : Nat) (f : QueuedFrame) (rest : List QueuedFrame) (s : State)
    (hclass : (s.elapse dt).nextClass port = some c) (hhead : nth (s.port port).queues c [] = f :: rest) (hup : s.linkIsUp port = true)
    (hptp : f.ptpRx = none) (hstomp : f.stomp = false) :
    Completes (.egressTransmit dt port) s fun s0 t => nth (t.port port).queues c [] = rest ∧
      t.out = [.frame port f.octets (crcOf crc32 f.octets) false] ∧
      OnlyChanges [.net, .drum, .log] (andDrum (entries [0x2100 + port])) s0 t := by
  obtain ⟨hport, hc⟩ := State.port_lt_of_queued hhead
  have hsent : OnlyChanges [.net, .drum, .log] (entries [0x2100 + port]) (s.elapse dt) ((begun s dt).sendHead port c f rest) :=
    (onlyChanges_begun s dt).sendHead (State.nextClass_lt hclass) (by simp) (by simp)
  refine completes_of_effect (dt := dt) (u := (begun s dt).sendHead port c f rest) rfl (exec_egressTransmit ..) ?_ ⟨?_, ?_, ?_⟩
  · simp [nextClass_begun, hclass, hhead, hup, hptp, hstomp, State.sendHead]
  · rw [ended_port, State.sendHead_port, port_modPort_same (begun s dt) _ _ hport]
    exact nth_modNth_same _ _ _ _ hc
  · rw [ended_out, State.sendHead_out]; rfl
  · exact hsent.ended (by simp) (by simp)

theorem gateEntryExpiry_entersNext (dt port : Nat) (s : State) (hport : port < 2) (hports : port < s.net.ports.length) (hquiet : Quiet s)
    (hrestart : (s.port port).gate.restartAt = none) (hpending : (s.port port).gate.pending = false)
    (hover : s.gclEntryEnd port (s.port port).gate.entry ≤ (s.elapse dt).now) :
    Completes (.gateEntryExpiry dt port) s fun s0 t => (t.port port).gate.entry = s.gclNext port (s.port port).gate.entry ∧
      (t.port port).gate.gates = gclGates (s.gclEntry port (s.gclNext port (s.port port).gate.entry)) ∧ OnlyChanges [.net] noRegs s0 t := by
  refine completes_of_effect (dt := dt) (u := (begun s dt).gclEnter port (s.gclNext port (s.port port).gate.entry)
    (if s.gclNext port (s.port port).gate.entry = 0 then s.gclEntryEnd port (s.port port).gate.entry else (s.port port).gate.cycleStart))
    rfl (exec_gateEntryExpiry ..) ?_ ⟨?_, ?_, ?_⟩
  · have hchain : ¬ 2 ≤ port := Nat.not_le.2 hport
    have hover' : ¬ (s.elapse dt).now < s.gclEntryEnd port (s.port port).gate.entry := Nat.not_lt.2 hover
    simp only [begun_port, begun_now, begun_gclEntryEnd, begun_gclNext, hchain, hrestart, hover', if_false]
    by_cases hlast : s.gclNext port (s.port port).gate.entry = 0
    · simp [hlast, hpending]
    · simp [hlast]
  · rw [ended_port, State.gclEnter, port_modGate_same (begun s dt) _ _ hports]
  · rw [ended_port, State.gclEnter, port_modGate_same (begun s dt) _ _ hports]; rfl
  · exact ((onlyChanges_begun s dt).gclEnter _ _ _ (List.mem_singleton_self _)).ended_quiet hquiet

theorem gclChangeRequest_marksPending (dt who port : Nat) (s : State) (hport : port < 2) (hports : port < s.net.ports.length) (hquiet : Quiet s)
    (hwho : 1 ≤ (s.elapse dt).levelOf who) (hidle : (s.port port).gate.pending = false) (hvalid : s.gclFault port = none) :
    Completes (.gclChangeRequest dt who port) s fun s0 t => (t.port port).gate.pending = true ∧ t.reg (.NET_GCL_CHANGE (port + 1)) = 1 ∧
      t.reg (.NET_GCL_CHANGE_TIME (port + 1)) =
        gclChangeTime (s.reg (.NET_GCL_ADMIN_BASE (port + 1))) (s.reg (.NET_GCL_ADMIN_CYCLE (port + 1))) s0.now % 2 ^ 64 ∧
      t.out = [.reply 0] ∧ OnlyChanges [.net] (among [.NET_GCL_CHANGE (port + 1), .NET_GCL_CHANGE_TIME (port + 1)]) s0 t := by
  have hrequest := State.gclRequest_of_valid (s := begun s dt) hport hidle ((begun_gclFault s dt port).trans hvalid)
  simp only [begun_reg, begun_now] at hrequest
  obtain ⟨t, hnext, hmarked⟩ := completes_of_gclMark (dt := dt) rfl (exec_gclChangeRequest ..) hport hports hquiet hwho hrequest
  exact ⟨t, hnext, hmarked⟩

theorem gclChangeCancel_withdraws (dt who port : Nat) (s : State) (hport : port < 2) (hports : port < s.net.ports.length) (hquiet : Quiet s)
    (hwho : 1 ≤ (s.elapse dt).levelOf who) (hpending : (s.port port).gate.pending = true) :
    Completes (.gclChangeCancel dt who port) s fun s0 t => (t.port port).gate.pending = false ∧ t.reg (.NET_GCL_CHANGE (port + 1)) = 0 ∧
      t.reg (.NET_GCL_CHANGE_TIME (port + 1)) = 0 ∧ t.out = [.reply 0] ∧
      OnlyChanges [.net] (among [.NET_GCL_CHANGE (port + 1), .NET_GCL_CHANGE_TIME (port + 1)]) s0 t :=
  completes_of_gclMark (dt := dt) rfl (exec_gclChangeCancel ..) hport hports hquiet hwho (State.gclCancel_of_pending hport hpending)

theorem gclSwap_takesAdminList (dt port : Nat) (s : State) (hport : port < 2) (hports : port < s.net.ports.length) (htakes : Takes s 2)
    (hpending : (s.port port).gate.pending = true) (hrestart : (s.port port).gate.restartAt = none)
    (hdue : s.reg (.NET_GCL_CHANGE_TIME (port + 1)) ≤ (s.elapse dt).now) :
    Completes (.gclSwap dt port) s fun s0 t => (∀ k < 64, t.gclEntry port k = s.gclAdmin port k % 2 ^ 64) ∧
      t.reg (.NET_GCL_OPER_LEN (port + 1)) = s.reg (.NET_GCL_ADMIN_LEN (port + 1)) % 2 ^ dictBits (.NET_GCL_OPER_LEN (port + 1)) ∧
      (t.port port).gate.entry = 0 ∧ (t.port port).gate.pending = false ∧ t.reg (.NET_GCL_CHANGE (port + 1)) = 0 ∧
      Posted t 0x2030 2 (port + (s.reg (.NET_GCL_CHANGE_TIME (port + 1)) % 2 ^ 41) * 2) ∧
      OnlyChanges [.net, .drum, .log] (andDrum (entries gclSwapEntries)) s0 t := by
  obtain ⟨hquiet, hmin⟩ := htakes
  have hsub : port + 1 < 1024 := by omega
  have hswap : OnlyChanges [.net, .drum, .log] (entries gclSwapEntries) (s.elapse dt) ((begun s dt).gclDoSwap port) :=
    (onlyChanges_begun s dt).gclDoSwap hport (by simp) (by simp)
  obtain ⟨hentry, hidle⟩ := State.gclDoSwap_gate (begun s dt) hports
  refine completes_of_effect (dt := dt) (u := (begun s dt).gclDoSwap port) rfl (exec_gclSwap ..) ?_ ⟨fun k hk => ?_, ?_, ?_, ?_, ?_, ?_, ?_⟩
  · simp [hpending, hrestart, hdue]
  · rw [ended_gclEntry _ _ _ _ hk, State.gclDoSwap_gclEntry _ hport hk, begun_gclAdmin]
  · rw [ended_reg _ _ _ _ hsub rfl, State.gclDoSwap_operLen _ hport, begun_reg]
  · rw [ended_port, hentry]
  · rw [ended_port, hidle]
  · rw [ended_reg _ _ _ _ hsub rfl, State.gclDoSwap_change _ hport]
  · refine posted_ended ?_ ?_
    · rw [State.gclDoSwap_incoming]; exact congrArg (· ++ _) hquiet
    · rw [hswap.2 .DRM_MIN_PRIORITY (by decide) rfl]; exact hmin
  · exact hswap.ended (by simp) (by simp)

/-- Settles O7, command by command: each effect is written as one named change of the port (`State.sendHead`, `State.gclEnter`,
`State.gclMark`, `State.gclDoSwap`), whose frame follows operation by operation. -/
theorem egressSendsAndGatesRun : Obligations.EgressSendsAndGatesRun :=
  ⟨egressTransmit_sendsHead, gateEntryExpiry_entersNext, gclChangeRequest_marksPending, gclChangeCancel_withdraws, gclSwap_takesAdminList⟩

/-! RX_FRAME takes the class of a tagged frame from NET_PCP_TO_TC as it stands (R60) -/

/-- What a command sends, where it answers a next state. -/
def sentBy (c : Instr) (s : State) : Option (List Output) :=
  match exec c s with
  | .next t => some t.out
  | _ => none

theorem sentBy_of_next {c : Instr} {s t : State} (h : exec c s = .next t) : sentBy c s = some t.out := by simp [sentBy, h]

/-- A class no frame can have: 211,970, where the classes are 0 to 7. It is the one whose limit NET_TC_MAX_FRAME has the key of RX_FRAMES of NETA. -/
def strayClass : Nat := (Reg.NETCNT_RX_FRAMES 0).key - (Reg.NET_TC_MAX_FRAME 1).key

/-- Both chain ports up and forwarding, PCP 0 mapped to that class, and RX_FRAMES at its last value before it wraps. -/
def strayClassState : State :=
  { State.reset with
    net := { Net.reset with forwarding := true }
    dict := [((Reg.NET_LINK_STATE 1).key, 1), ((Reg.NET_LINK_STATE 2).key, 1), ((Reg.NET_PCP_TO_TC 1).key, strayClass),
      ((Reg.NETCNT_RX_FRAMES 0).key, 2 ^ 32 - 1)] }

/-- The 60 octets before the FCS of a tagged unicast frame for another station, with PCP 0. -/
def taggedOctets : List Octet := beOctets 6 0x020000000009 ++ beOctets 6 0x020000000001 ++ beOctets 2 0x8100 ++ List.replicate 46 0

/-- That frame with a good FCS. -/
def taggedFrame : Frame := ⟨taggedOctets, crcOf crc32 taggedOctets, false⟩

/-- Counting the frame in moves the limit from 2^32 - 1 to 0: the frame is cut to nothing and ends stomped (R47). -/
theorem rxFrame_cuts_taggedFrame :
    sentBy (.rxFrame 0 0 taggedFrame .clean) strayClassState = some [.frame 1 [] (stompedFcs []) true] := by decide +kernel

/-- Refutes O6, by its second clause. The class of a tagged frame is what NET_PCP_TO_TC holds, and the statement ranges over every state, so
over one whose NET_PCP_TO_TC holds more than its eight bits. In `strayClassState` it is 211,970, and the limit NET_TC_MAX_FRAME of that class
lies where RX_FRAMES of NETA does: the frame fits the limit when it arrives, but counting it moves that limit to 0 before it is forwarded, and
it leaves empty and stomped. State.setReg cuts every value to its width; what the clause lacks is the premise that the elements of the
dictionary lie within their widths. -/
theorem not_netPortsTakeFrames : ¬ Obligations.NetPortsTakeFrames := by
  unfold Obligations.NetPortsTakeFrames
  rintro ⟨-, hforwarded, -⟩
  obtain ⟨t, hnext, hout, -⟩ := hforwarded 0 0 taggedFrame strayClassState (by decide) rfl (by decide +kernel) (by decide +kernel) rfl
    (by decide +kernel) (by decide +kernel) (by decide +kernel) (by decide +kernel) (by decide +kernel) (by decide +kernel) (by decide +kernel)
    (by decide +kernel)
  have hcut := rxFrame_cuts_taggedFrame
  rw [sentBy_of_next hnext, hout] at hcut
  exact absurd hcut (by decide +kernel)

end Sys2Proof.Proofs

namespace Sys2Proof.Machine

/-! What OnlyChanges allows: the operations of the Tower Clock (R78 to R117) -/

/-- A command whose effect posts up to four words leaves each word in the Drum that the Drum does not filter (R372, R374). -/
theorem posted_ended_of_mem {s u : State} {dt code priority arg : Nat}
    (hmem : (⟨.single, priority, code, arg % 2 ^ 42⟩ : DrumWord) ∈ u.drum.incoming.flatten) (hlen : u.drum.incoming.flatten.length ≤ 4)
    (hmin : u.reg .DRM_MIN_PRIORITY ≤ priority ∨ priority = 7) : Posted (ended s dt u) code priority arg :=
  u.settle_holds _ hmem hlen hmin

/-- An event posted waits behind those posted before it. -/
@[simp] theorem State.post_incoming (s : State) (c p a : Nat) :
    (s.post c p a).drum.incoming = s.drum.incoming ++ [[⟨.single, p, c, a % 2 ^ 42⟩]] := by
  simp only [State.post, State.postItem]; split <;> simp

@[simp] theorem ended_clock (s u : State) (dt : Nat) : (ended s dt u).clock = u.clock := u.settle_clock

section OnlyChanges

variable {parts : List Part} {regs : Reg → Bool} {s t : State}

theorem OnlyChanges.trans {u : State} (h : OnlyChanges parts regs s t) (h' : OnlyChanges parts regs t u) : OnlyChanges parts regs s u := by
  obtain ⟨hparts, hregs⟩ := h
  obtain ⟨hparts', hregs'⟩ := h'
  refine ⟨fun p hp => ?_, fun r hr hrr => (hregs' r hr hrr).trans (hregs r hr hrr)⟩
  have h1 := hparts p hp
  have h2 := hparts' p hp
  cases p <;> exact h2.trans h1

theorem OnlyChanges.mono {parts' : List Part} {regs' : Reg → Bool} (h : OnlyChanges parts regs s t) (hparts : parts ⊆ parts')
    (hregs : ∀ r, regs r = true → regs' r = true) : OnlyChanges parts' regs' s t :=
  ⟨fun p hp => h.1 p fun hp' => hp (hparts hp'), fun r hr hrr => h.2 r hr (Bool.eq_false_iff.2 fun hx => by simp [hregs r hx] at hrr)⟩

theorem OnlyChanges.setBit (h : OnlyChanges parts regs s t) (r : Reg) (n : Nat) (b : Bool) (hsub : r.sub < 1024) (hr : regs r = true) :
    OnlyChanges parts regs s (t.setBit r n b) := h.setReg r _ hsub hr

theorem OnlyChanges.setInt (h : OnlyChanges parts regs s t) (r : Reg) (v : Int) (hsub : r.sub < 1024) (hr : regs r = true) :
    OnlyChanges parts regs s (t.setInt r v) := h.setReg r _ hsub hr

theorem OnlyChanges.bump (h : OnlyChanges parts regs s t) (r : Reg) (n : Nat) (hsub : r.sub < 1024) (hr : regs r = true) :
    OnlyChanges parts regs s (t.bump r n) := h.setReg r _ hsub hr

theorem OnlyChanges.post (h : OnlyChanges parts regs s t) (c p a : Nat) (hp : p ≠ 7) (hdrum : .drum ∈ parts) :
    OnlyChanges parts regs s (t.post c p a) := h.postItem _ hp hdrum

theorem OnlyChanges.modClock (h : OnlyChanges parts regs s t) (f : Clock → Clock) (hclock : .clock ∈ parts) :
    OnlyChanges parts regs s (t.modClock f) := by
  obtain ⟨hparts, hregs⟩ := h
  refine ⟨fun p hp => ?_, hregs⟩
  have := hparts p hp
  cases p with
  | clock => exact absurd hclock hp
  | _ => exact this

/-- A capture source that no channel is armed for stores nothing (R114). -/
theorem State.capture_of_unarmed {s : State} {source : Nat} (h : Captures s source = false) (stamp : Nat) : s.capture source stamp = s := by
  refine List.foldlRecOn (motive := fun t => t = s) _ _ rfl fun t ht ch hch => ?_
  subst ht
  have hch' := List.any_eq_false.1 h ch hch
  simp only [Bool.and_eq_true, beq_iff_eq, not_and] at hch'
  exact if_neg fun ⟨hen, hsrc⟩ => hch' hen hsrc

/-- What leaves the capture channels' settings alone leaves the sources they are armed for. -/
theorem OnlyChanges.captures (h : OnlyChanges parts regs s t) (hregs : ∀ ch, regs (.CAP_ENABLE ch) = false ∧ regs (.CAP_SOURCE ch) = false)
    (source : Nat) : Captures t source = Captures s source := by
  refine congrArg (List.any _) (funext fun ch => ?_)
  rw [State.flag, State.flag, h.2 (.CAP_ENABLE ch) (by simp [Reg.CAP_ENABLE]) (hregs ch).1,
    h.2 (.CAP_SOURCE ch) (by simp [Reg.CAP_SOURCE]) (hregs ch).2]

/-! The servo -/

/-- Outside the state asked for, the state of the servo is set with event 0x3001 (R92). -/
theorem State.setServo_of_ne {s : State} {st : Nat} (hne : s.reg .TCK_STATE ≠ st) (hleave : s.reg .TCK_STATE ≠ stHoldover) :
    s.setServo st = ((s.setReg .TCK_STATE st).modClock fun c => { c with withinRun := 0, beyondRun := 0, returnRun := 0 }).post
      0x3001 2 (st + s.reg .TCK_STATE * 8) := by
  simp only [State.setServo, hne, hleave, if_false]

theorem State.setServo_state (s : State) {st : Nat} (hst : st < 2 ^ 8) : (s.setServo st).reg .TCK_STATE = st := by
  have hset : (s.setReg .TCK_STATE st).reg .TCK_STATE = st :=
    (State.reg_setReg_same _ _ _ (by decide)).trans (Nat.mod_eq_of_lt hst)
  simp only [State.setServo]
  split
  · assumption
  · split <;> simp (disch := decide) only [State.setBit, State.reg_setReg_key, State.reg_post_low, State.modClock_reg, hset]

/-- Setting the servo's state touches TCK_FLAGS and TCK_HOLDOVER_S only when it leaves HOLDOVER (R97). -/
theorem OnlyChanges.setServo (h : OnlyChanges parts regs s t) (st : Nat) (hclock : .clock ∈ parts) (hdrum : .drum ∈ parts)
    (hstate : regs .TCK_STATE = true)
    (hleave : t.reg .TCK_STATE = stHoldover → regs .TCK_FLAGS = true ∧ regs .TCK_HOLDOVER_S = true) :
    OnlyChanges parts regs s (t.setServo st) := by
  have hset := ((h.setReg .TCK_STATE st (by decide) hstate).modClock
    (fun c => { c with withinRun := 0, beyondRun := 0, returnRun := 0 }) hclock).post 0x3001 2 (st + t.reg .TCK_STATE * 8) (by decide) hdrum
  simp only [State.setServo]
  split
  · exact h
  · split
    next hold =>
      obtain ⟨hflags, hseconds⟩ := hleave hold
      exact (hset.setBit .TCK_FLAGS 2 false (by decide) hflags).setReg .TCK_HOLDOVER_S 0 (by decide) hseconds
    next => exact hset

theorem OnlyChanges.setF (h : OnlyChanges parts regs s t) (a : Rat) (hclock : .clock ∈ parts) (hrate : regs .TCK_RATE_PPB = true) :
    OnlyChanges parts regs s (t.setF a) := (h.modClock _ hclock).setReg .TCK_RATE_PPB _ (by decide) hrate

/-- The elements entry into HOLDOVER may move. -/
def holdoverRegs : List Reg := [.TCK_STATE, .TCK_RATE_PPB]

theorem OnlyChanges.enterHoldover (h : OnlyChanges parts regs s t) (cause : Nat) (hclock : .clock ∈ parts) (hdrum : .drum ∈ parts)
    (hregs : ∀ r ∈ holdoverRegs, regs r = true) : OnlyChanges parts regs s (t.enterHoldover cause) := by
  have hstate := hregs .TCK_STATE (by decide)
  simp only [State.enterHoldover]
  split
  · exact h
  next hne =>
    have hsetF : ∀ a, (t.setF a).reg .TCK_STATE ≠ stHoldover := fun a => by
      rwa [State.setF, State.reg_setReg_other _ _ _ _ (by decide) (by decide) (by decide)]
    refine OnlyChanges.post (OnlyChanges.modClock ?_ _ hclock) _ _ _ (by decide) hdrum
    split
    · exact h.setServo _ hclock hdrum hstate fun hold => absurd hold hne
    · exact (h.setF _ hclock (hregs _ (by decide))).setServo _ hclock hdrum hstate fun hold => absurd hold (hsetF _)

theorem State.enterHoldover_state (s : State) (cause : Nat) : (s.enterHoldover cause).reg .TCK_STATE = stHoldover := by
  simp only [State.enterHoldover]
  split
  · assumption
  · rw [State.reg_post_low _ _ _ _ _ (by decide), State.modClock_reg, State.setServo_state _ (by decide)]

theorem OnlyChanges.dropGm (h : OnlyChanges parts regs s t) (hregs : ∀ r ∈ [Reg.TCK_GM_ID, .TCK_SLAVE_PORT, .TCK_FLAGS], regs r = true) :
    OnlyChanges parts regs s t.dropGm :=
  ((h.setReg .TCK_GM_ID 0 (by decide) (hregs _ (by decide))).setReg .TCK_SLAVE_PORT 0 (by decide) (hregs _ (by decide))).setBit .TCK_FLAGS 5 false
    (by decide) (hregs _ (by decide))

/-- Without a grandmaster TCK_GM_ID and TCK_SLAVE_PORT read 0. -/
theorem State.dropGm_gm (s : State) : s.dropGm.reg .TCK_GM_ID = 0 ∧ s.dropGm.reg .TCK_SLAVE_PORT = 0 := by
  simp (disch := decide) only [State.dropGm, State.setBit, State.reg_setReg_key, State.reg_setReg_same, Nat.zero_mod, and_self]

/-- The elements the loss of the grandmaster may move. -/
def lossRegs : List Reg := [.TCK_FLAGS, .TCK_STATE, .TCK_RATE_PPB, .TCK_HOLDOVER_S]

theorem OnlyChanges.loseGm (h : OnlyChanges parts regs s t) (cause : Nat) (hclock : .clock ∈ parts) (hdrum : .drum ∈ parts)
    (hregs : ∀ r ∈ lossRegs, regs r = true) : OnlyChanges parts regs s (t.loseGm cause) := by
  unfold State.loseGm
  split
  · exact h.enterHoldover cause hclock hdrum (List.forall_mem_cons.2 ⟨hregs _ (by decide), List.forall_mem_singleton.2 (hregs _ (by decide))⟩)
  · exact (h.modClock _ hclock).setServo _ hclock hdrum (hregs _ (by decide)) fun _ => ⟨hregs _ (by decide), hregs _ (by decide)⟩

/-- After the first step the loss of the grandmaster ends in HOLDOVER, before it in FREE (R92, R97). -/
theorem State.loseGm_state (s : State) (cause : Nat) : (s.loseGm cause).reg .TCK_STATE = if s.clock.stepped then 4 else 0 := by
  unfold State.loseGm
  split
  · exact State.enterHoldover_state ..
  · exact State.setServo_state _ (by decide)

end OnlyChanges

end Sys2Proof.Machine

namespace Sys2Proof.Machine

@[simp] theorem begun_clock (s : State) (dt : Nat) : (begun s dt).clock = (s.elapse dt).clock := rfl
@[simp] theorem begun_drum (s : State) (dt : Nat) : (begun s dt).drum = s.drum := rfl
@[simp] theorem begun_levelOf (s : State) (dt who : Nat) : (begun s dt).levelOf who = (s.elapse dt).levelOf who := rfl

@[simp] theorem State.setF_drum (s : State) (a : Rat) : (s.setF a).drum = s.drum := by simp [State.setF]

theorem State.setF_state (s : State) (a : Rat) : (s.setF a).reg .TCK_STATE = s.reg .TCK_STATE := by
  simp (disch := decide) only [State.setF, State.reg_setReg_key, State.modClock_reg]

/-- Entry into HOLDOVER posts events 0x3001 and 0x3003 (R97). -/
theorem State.enterHoldover_incoming {s : State} (hne : s.reg .TCK_STATE ≠ stHoldover) (cause : Nat) :
    (s.enterHoldover cause).drum.incoming = s.drum.incoming ++ [[⟨.single, 2, 0x3001, (4 + s.reg .TCK_STATE * 8) % 2 ^ 42⟩]] ++
      [[⟨.single, 4, 0x3003, cause % 2 ^ 42⟩]] := by
  simp only [State.enterHoldover, hne, if_false]
  split
  · rw [State.setServo_of_ne hne hne]; simp [stHoldover]
  · rw [State.setServo_of_ne (by rwa [State.setF_state]) (by rwa [State.setF_state]), State.setF_state]; simp [stHoldover]

theorem State.enterHoldover_since {s : State} (hne : s.reg .TCK_STATE ≠ stHoldover) (cause : Nat) :
    (s.enterHoldover cause).clock.holdoverSince = s.now := by
  simp [State.enterHoldover, hne]

/-- With no grandmaster heard none is selected (R84). -/
theorem State.bestMaster_of_nil {s : State} (h : s.clock.masters = []) : s.bestMaster = none := by simp [State.bestMaster, h]

/-- A writer at or above the level an element asks makes the write (R468). -/
theorem State.asWriter_of_level {s : State} {who l : Nat} {r : Reg} (f : State → State) (hr : writeLevel r = some l) (hl : l ≤ s.levelOf who) :
    s.asWriter who r f = f s := by
  simp [State.asWriter, hr, Nat.not_lt.2 hl]

@[simp] theorem State.dropGm_clock (s : State) : s.dropGm.clock = s.clock := by simp [State.dropGm]
@[simp] theorem State.dropGm_out (s : State) : s.dropGm.out = s.out := by simp [State.dropGm]

/-- A grandmaster dropped and lost reads 0, and the servo stands in HOLDOVER or FREE (R92, R97). -/
theorem State.dropGm_loseGm_reg (s : State) (cause : Nat) :
    (s.dropGm.loseGm cause).reg .TCK_GM_ID = 0 ∧ (s.dropGm.loseGm cause).reg .TCK_SLAVE_PORT = 0 ∧
      (s.dropGm.loseGm cause).reg .TCK_STATE = if s.clock.stepped then 4 else 0 := by
  have hloss : OnlyChanges [.clock, .drum] (among lossRegs) s.dropGm (s.dropGm.loseGm cause) :=
    (onlyChanges_refl _).loseGm cause (by simp) (by simp) (by decide)
  obtain ⟨hgm, hport⟩ := s.dropGm_gm
  refine ⟨?_, ?_, ?_⟩
  · rw [hloss.2 .TCK_GM_ID (by decide) (by decide), hgm]
  · rw [hloss.2 .TCK_SLAVE_PORT (by decide) (by decide), hport]
  · rw [State.loseGm_state, State.dropGm_clock]

/-- The elements the loss of a grandmaster that is dropped may move. -/
def dropRegs : List Reg := [.TCK_GM_ID, .TCK_SLAVE_PORT, .TCK_FLAGS, .TCK_STATE, .TCK_RATE_PPB, .TCK_HOLDOVER_S]

theorem OnlyChanges.dropGm_loseGm {parts : List Part} {regs : Reg → Bool} {s t : State} (h : OnlyChanges parts regs s t) (cause : Nat)
    (hclock : .clock ∈ parts) (hdrum : .drum ∈ parts) (hregs : ∀ r ∈ dropRegs, regs r = true) :
    OnlyChanges parts regs s (t.dropGm.loseGm cause) :=
  (h.dropGm fun r hr => hregs r (List.mem_of_mem_take (i := 3) hr)).loseGm cause hclock hdrum
    fun r hr => hregs r (List.mem_of_mem_drop (i := 2) hr)

/-- Nothing heard any more: how a restart of the PTP client begins (R601). -/
def State.forgetHeard (s : State) : State := s.modClock fun c => { c with masters := [], paths := [], syncDelta := none, acquire := [] }

theorem State.ptpRestart_eq (s : State) : s.ptpRestart = s.forgetHeard.dropGm.loseGm 1 := rfl

/-- One grandmaster no longer heard: how its Announce receipt timeout begins (R97). -/
def State.forgetMaster (s : State) (gm : Nat) : State := s.modClock fun c => { c with masters := c.masters.filter fun m => m.announce.gmId != gm }

/-- What the loss of a grandmaster leaves of two states: the grandmasters heard, the path delays measured, and what was sent. -/
def SameHeard (s t : State) : Prop := t.clock.masters = s.clock.masters ∧ t.clock.paths = s.clock.paths ∧ t.out = s.out

theorem State.setF_sameHeard (s : State) (a : Rat) : SameHeard s (s.setF a) := by simp [SameHeard, State.setF]

theorem State.setServo_sameHeard (s : State) (st : Nat) : SameHeard s (s.setServo st) := by
  simp only [State.setServo]
  split
  · exact ⟨rfl, rfl, rfl⟩
  · split <;> simp [SameHeard]

theorem State.enterHoldover_sameHeard (s : State) (cause : Nat) : SameHeard s (s.enterHoldover cause) := by
  simp only [State.enterHoldover]
  split
  · exact ⟨rfl, rfl, rfl⟩
  · split
    · obtain ⟨hmasters, hpaths, hout⟩ := s.setServo_sameHeard stHoldover
      simp [SameHeard, hmasters, hpaths, hout]
    · obtain ⟨hmasters, hpaths, hout⟩ := (s.setF (s.clock.applied.sum / s.clock.applied.length)).setServo_sameHeard stHoldover
      obtain ⟨hmasters', hpaths', hout'⟩ := s.setF_sameHeard (s.clock.applied.sum / s.clock.applied.length)
      simp [SameHeard, hmasters, hpaths, hout, hmasters', hpaths', hout']

theorem State.loseGm_sameHeard (s : State) (cause : Nat) : SameHeard s (s.loseGm cause) := by
  unfold State.loseGm
  split
  · exact s.enterHoldover_sameHeard cause
  · exact State.setServo_sameHeard _ stFree

/-- A value in the range of an element fits its width (R466). -/
theorem lt_of_inRange {r : Reg} {v : Nat} (h : inRange r v = true) : v < 2 ^ dictBits r := by
  unfold inRange at h
  split at h
  next row hrow =>
    simp only [DictRow.inRange, Bool.and_eq_true, Nat.blt_eq] at h
    simpa [dictBits, hrow] using h.1
  next => cases h

/-- A new port in range restarts the PTP client (R601). -/
theorem State.ptpConfigWrite_of_port {s : State} {value : Nat} (hrange : inRange .TCK_PTP_PORT value = true)
    (hnew : s.reg .TCK_PTP_PORT ≠ value) : s.ptpConfigWrite 0x3022 value = ((s.setReg .TCK_PTP_PORT value).ptpRestart).reply 0 := by
  have hset : (s.setReg .TCK_PTP_PORT value).reg .TCK_PTP_PORT = value :=
    (State.reg_setReg_same _ _ _ (by decide)).trans (Nat.mod_eq_of_lt (lt_of_inRange hrange))
  have hreg : (⟨0x3022, 0⟩ : Reg) = .TCK_PTP_PORT := rfl
  simp [State.ptpConfigWrite, hreg, hrange, hset, Ne.symm hnew]

/-! Bits of elements -/

theorem bitOf_eq_testBit (v n : Nat) : bitOf v n = v.testBit n := by
  rw [Nat.testBit_eq_decide_div_mod_eq, bitOf, Bool.beq_eq_decide_eq]

theorem two_pow_le_of_bitOf {v n : Nat} (h : bitOf v n = true) : 2 ^ n ≤ v := Nat.ge_two_pow_of_testBit (by rwa [← bitOf_eq_testBit])

theorem bitOf_setBitTo_same (v n : Nat) (b : Bool) : bitOf (setBitTo v n b) n = b := by
  unfold setBitTo
  cases hv : bitOf v n <;> cases b
  · exact hv
  · simp only [bitOf, beq_eq_false_iff_ne, Bool.false_eq_true, if_false, if_true, beq_iff_eq] at hv ⊢
    rw [Nat.add_div_right _ (Nat.two_pow_pos n)]
    omega
  · obtain ⟨w, rfl⟩ := Nat.exists_eq_add_of_le' (two_pow_le_of_bitOf hv)
    simp only [bitOf, beq_iff_eq, if_true, Bool.false_eq_true, if_false, Nat.add_sub_cancel, beq_eq_false_iff_ne] at hv ⊢
    rw [Nat.add_div_right _ (Nat.two_pow_pos n)] at hv
    omega
  · exact hv

/-- A bit set or cleared leaves the bits below it. -/
theorem bitOf_setBitTo_below (v : Nat) {m n : Nat} (b : Bool) (h : m < n) : bitOf (setBitTo v n b) m = bitOf v m := by
  have hlow : ∀ w, bitOf (w + 2 ^ n) m = bitOf w m := fun w => by
    rw [bitOf_eq_testBit, bitOf_eq_testBit, Nat.add_comm, Nat.testBit_two_pow_add_gt h]
  unfold setBitTo
  cases hv : bitOf v n <;> cases b
  · rfl
  · exact hlow v
  · obtain ⟨w, rfl⟩ := Nat.exists_eq_add_of_le' (two_pow_le_of_bitOf hv)
    simpa using (hlow w).symm
  · rfl

theorem State.bitOf_setBit_same (s : State) {r : Reg} {n : Nat} (b : Bool) (hn : n < dictBits r) : bitOf ((s.setBit r n b).reg r) n = b := by
  rw [State.setBit, State.reg_setReg_same _ _ _ (Nat.ne_zero_of_lt hn), bitOf_eq_testBit, Nat.testBit_mod_two_pow, decide_eq_true hn,
    Bool.true_and, ← bitOf_eq_testBit, bitOf_setBitTo_same]

theorem State.bitOf_setBit_below (s : State) {r : Reg} {m n : Nat} (b : Bool) (hm : m < n) (hn : n < dictBits r) :
    bitOf ((s.setBit r n b).reg r) m = bitOf (s.reg r) m := by
  rw [State.setBit, State.reg_setReg_same _ _ _ (Nat.ne_zero_of_lt hn), bitOf_eq_testBit, Nat.testBit_mod_two_pow,
    decide_eq_true (hm.trans hn), Bool.true_and, ← bitOf_eq_testBit, bitOf_setBitTo_below _ _ hm]

end Sys2Proof.Machine

namespace Sys2Proof.Proofs

open Machine

/-! SYNC_TIMEOUT, ANNOUNCE_TIMEOUT, HOLDOVER_LIMIT, REACQUIRE_SCHEDULE, REACQUIRE_CANCEL and PTP_CLIENT_RESTART (R92, R97 to R99, R601) -/

theorem exec_syncTimeout (dt : Nat) (s : State) : exec (.syncTimeout dt) s = execSyncTimeout dt s := rfl
theorem exec_announceTimeout (dt : Nat) (s : State) : exec (.announceTimeout dt) s = execAnnounceTimeout dt s := rfl
theorem exec_holdoverLimit (dt : Nat) (s : State) : exec (.holdoverLimit dt) s = execHoldoverLimit dt s := rfl
theorem exec_reacquireSchedule (dt who time : Nat) (s : State) : exec (.reacquireSchedule dt who time) s = execReacquireSchedule dt who time s := rfl
theorem exec_reacquireCancel (dt who : Nat) (s : State) : exec (.reacquireCancel dt who) s = execReacquireCancel dt who s := rfl
theorem exec_ptpClientRestart (dt who index value : Nat) (s : State) :
    exec (.ptpClientRestart dt who index value) s = execPtpClientRestart dt who index value s := rfl

theorem syncTimeout_entersHoldover (dt : Nat) (s : State) (htakes : Takes s 2) (hlocked : s.reg .TCK_STATE = 3) :
    Completes (.syncTimeout dt) s fun s0 t => t.reg .TCK_STATE = 4 ∧ Posted t 0x3003 4 0 ∧ Posted t 0x3001 2 28 ∧
      t.clock.holdoverSince = s0.now ∧ OnlyChanges [.clock, .drum, .log] (andDrum (among [.TCK_STATE, .TCK_RATE_PPB])) s0 t := by
  obtain ⟨hquiet, hmin⟩ := htakes
  have hne : (begun s dt).reg .TCK_STATE ≠ stHoldover := by rw [begun_reg, hlocked]; decide
  have hchanges : OnlyChanges [.clock, .drum, .log] (among [.TCK_STATE, .TCK_RATE_PPB]) (s.elapse dt) ((begun s dt).enterHoldover 0) :=
    (onlyChanges_begun s dt).enterHoldover 0 (by simp) (by simp) (by decide)
  have hincoming : ((begun s dt).enterHoldover 0).drum.incoming.flatten = [⟨.single, 2, 0x3001, 28⟩, ⟨.single, 4, 0x3003, 0⟩] := by
    rw [State.enterHoldover_incoming hne, begun_drum, hquiet, begun_reg, hlocked]; rfl
  have hfilter : ((begun s dt).enterHoldover 0).reg .DRM_MIN_PRIORITY ≤ 2 := by
    rwa [hchanges.2 .DRM_MIN_PRIORITY (by decide) (by decide)]
  refine completes_of_effect (dt := dt) (u := (begun s dt).enterHoldover 0) rfl (exec_syncTimeout ..) ?_ ⟨?_, ?_, ?_, ?_, ?_⟩
  · simp [hlocked, stAcquire, stLocked]
  · rw [ended_reg _ _ _ _ (by decide) (by decide), State.enterHoldover_state]; rfl
  · exact posted_ended_of_mem (by simp [hincoming]) (by simp [hincoming]) (.inl (by omega))
  · exact posted_ended_of_mem (by simp [hincoming]) (by simp [hincoming]) (.inl (by omega))
  · rw [ended_clock, State.enterHoldover_since hne, begun_now]
  · exact hchanges.ended (by simp) (by simp)

theorem announceTimeout_losesMaster (dt : Nat) (s : State) (hgm : s.reg .TCK_GM_ID ≠ 0)
    (hsole : s.clock.masters.all (fun m => m.announce.gmId == s.reg .TCK_GM_ID) = true) :
    Completes (.announceTimeout dt) s fun s0 t => t.reg .TCK_GM_ID = 0 ∧ t.reg .TCK_SLAVE_PORT = 0 ∧
      t.reg .TCK_STATE = (if s.clock.stepped then 4 else 0) ∧
      OnlyChanges [.clock, .drum, .log]
        (andDrum (among [.TCK_GM_ID, .TCK_SLAVE_PORT, .TCK_FLAGS, .TCK_STATE, .TCK_RATE_PPB, .TCK_HOLDOVER_S])) s0 t := by
  obtain ⟨hreadGm, hreadPort, hreadState⟩ := ((begun s dt).forgetMaster (s.reg .TCK_GM_ID)).dropGm_loseGm_reg 1
  refine completes_of_effect (dt := dt) (u := ((begun s dt).forgetMaster (s.reg .TCK_GM_ID)).dropGm.loseGm 1)
    rfl (exec_announceTimeout ..) ?_ ⟨?_, ?_, ?_, ?_⟩
  · have hnone : s.clock.masters.filter (fun m => m.announce.gmId != s.reg .TCK_GM_ID) = [] := by
      simpa [List.filter_eq_nil_iff, List.all_eq_true] using hsole
    simp only [begun_reg, hgm, if_false]
    rw [State.bestMaster_of_nil hnone]
    rfl
  · rw [ended_reg _ _ _ _ (by decide) (by decide), hreadGm]
  · rw [ended_reg _ _ _ _ (by decide) (by decide), hreadPort]
  · rw [ended_reg _ _ _ _ (by decide) (by decide), hreadState]; rfl
  · exact (((onlyChanges_begun s dt).modClock _ (by simp)).dropGm_loseGm 1 (by simp) (by simp) (by decide)).ended (by simp) (by simp)

theorem holdoverLimit_setsFlag (dt : Nat) (s : State) (htakes : Takes s 5) (hhold : s.reg .TCK_STATE = 4)
    (hunset : bitOf (s.reg .TCK_FLAGS) 2 = false)
    (hlimit : s.reg .TCK_HOLDOVER_LIMIT ≤ ((s.elapse dt).now - s.clock.holdoverSince) / 1000000000) :
    Completes (.holdoverLimit dt) s fun s0 t => bitOf (t.reg .TCK_FLAGS) 2 = true ∧
      Posted t 0x3005 5 ((s0.now - s.clock.holdoverSince) / 1000000000 % 2 ^ 32) ∧
      OnlyChanges [.drum, .log] (andDrum (among [.TCK_FLAGS])) s0 t := by
  obtain ⟨hquiet, hmin⟩ := htakes
  have hchanges : OnlyChanges [.drum, .log] (among [.TCK_FLAGS]) (s.elapse dt) (((begun s dt).setBit .TCK_FLAGS 2 true).post 0x3005 5
      (((s.elapse dt).now - s.clock.holdoverSince) / 1000000000 % 2 ^ 32)) :=
    ((onlyChanges_begun s dt).setBit .TCK_FLAGS 2 true (by decide) (by decide)).post _ _ _ (by decide) (by simp)
  refine completes_of_effect (dt := dt) (u := ((begun s dt).setBit .TCK_FLAGS 2 true).post 0x3005 5
    (((s.elapse dt).now - s.clock.holdoverSince) / 1000000000 % 2 ^ 32)) rfl (exec_holdoverLimit ..) ?_ ⟨?_, ?_, ?_⟩
  · exact if_pos ⟨hhold, hunset, hlimit⟩
  · rw [ended_reg _ _ _ _ (by decide) (by decide), State.reg_post_low _ _ _ _ _ (by decide), State.bitOf_setBit_same _ _ (by decide)]
  · refine posted_ended ?_ ?_
    · simp [hquiet]
    · rwa [hchanges.2 .DRM_MIN_PRIORITY (by decide) (by decide)]
  · exact hchanges.ended (by simp) (by simp)

/-- A write of TCK_REACQUIRE_AT taken: the element holds the value and the write is answered 0 (R98, R99). -/
theorem completes_of_reacquireAt {c : Instr} {dt who v : Nat} {s : State} {f : State → State} (hdt : c.dt = dt)
    (hexec : exec c s = run s dt fun s => s.asWriter who .TCK_REACQUIRE_AT f) (hquiet : Quiet s) (hwho : 1 ≤ (s.elapse dt).levelOf who)
    (heffect : f (begun s dt) = ((begun s dt).setReg .TCK_REACQUIRE_AT v).reply 0) :
    Completes c s fun s0 t => t.reg .TCK_REACQUIRE_AT = v % 2 ^ 64 ∧ t.out = [.reply 0] ∧ OnlyChanges [] (among [.TCK_REACQUIRE_AT]) s0 t := by
  refine completes_of_effect hdt hexec (u := ((begun s dt).setReg .TCK_REACQUIRE_AT v).reply 0) ?_ ⟨?_, ?_, ?_⟩
  · rw [State.asWriter_of_level (s := begun s dt) (r := .TCK_REACQUIRE_AT) f (l := 1) (by decide) hwho, heffect]
  · rw [ended_reg _ _ _ _ (by decide) (by decide)]
    exact State.reg_setReg_same _ _ _ (by decide)
  · rw [ended_out]; simp [State.reply, State.emit, begun]
  · exact (((onlyChanges_begun s dt).setReg .TCK_REACQUIRE_AT v (by decide) (by decide)).emit _).ended_quiet (by simpa [Quiet] using hquiet)

theorem reacquireSchedule_schedules (dt who time : Nat) (s : State) (hquiet : Quiet s) (hwho : 1 ≤ (s.elapse dt).levelOf who)
    (hfree : s.reg .TCK_STATE ≠ 0) (hacquire : s.reg .TCK_STATE ≠ 1) (htime : time ≠ 0) (hahead : (s.elapse dt).now + 100000000 ≤ time) :
    Completes (.reacquireSchedule dt who time) s fun s0 t => t.reg .TCK_REACQUIRE_AT = time % 2 ^ 64 ∧ t.out = [.reply 0] ∧
      OnlyChanges [] (among [.TCK_REACQUIRE_AT]) s0 t := by
  refine completes_of_reacquireAt (dt := dt) rfl (exec_reacquireSchedule ..) hquiet hwho ?_
  simp [htime, State.reacquireSchedule, stFree, stAcquire, hfree, hacquire, Nat.not_lt.2 hahead]

theorem reacquireCancel_withdraws (dt who : Nat) (s : State) (hquiet : Quiet s) (hwho : 1 ≤ (s.elapse dt).levelOf who)
    (hpending : s.reg .TCK_REACQUIRE_AT ≠ 0) :
    Completes (.reacquireCancel dt who) s fun s0 t => t.reg .TCK_REACQUIRE_AT = 0 ∧ t.out = [.reply 0] ∧
      OnlyChanges [] (among [.TCK_REACQUIRE_AT]) s0 t :=
  completes_of_reacquireAt (dt := dt) (v := 0) rfl (exec_reacquireCancel ..) hquiet hwho (by simp [State.reacquireCancel, hpending])

theorem ptpClientRestart_dropsMaster (dt who value : Nat) (s : State) (hwho : 1 ≤ (s.elapse dt).levelOf who)
    (hrange : inRange .TCK_PTP_PORT value = true) (hnew : s.reg .TCK_PTP_PORT ≠ value) :
    Completes (.ptpClientRestart dt who 0x3022 value) s fun s0 t => t.reg .TCK_PTP_PORT = value ∧ t.clock.masters = [] ∧ t.clock.paths = [] ∧
      t.reg .TCK_GM_ID = 0 ∧ t.reg .TCK_STATE = (if s.clock.stepped then 4 else 0) ∧ t.out = [.reply 0] ∧
      OnlyChanges [.clock, .drum, .log] (andDrum (among [.TCK_PTP_PORT, .TCK_GM_ID, .TCK_SLAVE_PORT, .TCK_FLAGS, .TCK_STATE, .TCK_RATE_PPB,
        .TCK_HOLDOVER_S])) s0 t := by
  obtain ⟨hreadGm, -, hreadState⟩ := ((begun s dt).setReg .TCK_PTP_PORT value).forgetHeard.dropGm_loseGm_reg 1
  obtain ⟨hmasters, hpaths, hout⟩ := ((begun s dt).setReg .TCK_PTP_PORT value).forgetHeard.dropGm.loseGm_sameHeard 1
  have hset : OnlyChanges [.clock, .drum, .log] (among (.TCK_PTP_PORT :: dropRegs)) (s.elapse dt)
      ((begun s dt).setReg .TCK_PTP_PORT value).forgetHeard :=
    ((onlyChanges_begun s dt).setReg .TCK_PTP_PORT value (by decide) (by decide)).modClock _ (by simp)
  have hloss : OnlyChanges [.clock, .drum] (among dropRegs) ((begun s dt).setReg .TCK_PTP_PORT value).forgetHeard
      (((begun s dt).setReg .TCK_PTP_PORT value).forgetHeard.dropGm.loseGm 1) :=
    (onlyChanges_refl _).dropGm_loseGm 1 (by simp) (by simp) (by decide)
  refine completes_of_effect (dt := dt) (u := (((begun s dt).setReg .TCK_PTP_PORT value).forgetHeard.dropGm.loseGm 1).reply 0) rfl
    (exec_ptpClientRestart ..) ?_ ⟨?_, ?_, ?_, ?_, ?_, ?_, ?_⟩
  · rw [State.asWriter_of_level (s := begun s dt) (r := .TCK_PROFILE) _ (l := 1) (by decide) hwho,
      State.ptpConfigWrite_of_port (s := begun s dt) hrange hnew, State.ptpRestart_eq]
  · rw [ended_reg _ _ _ _ (by decide) (by decide)]
    calc (((begun s dt).setReg .TCK_PTP_PORT value).forgetHeard.dropGm.loseGm 1).reg .TCK_PTP_PORT
      _ = ((begun s dt).setReg .TCK_PTP_PORT value).reg .TCK_PTP_PORT := hloss.2 .TCK_PTP_PORT (by decide) (by decide)
      _ = value := (State.reg_setReg_same _ _ _ (by decide)).trans (Nat.mod_eq_of_lt (lt_of_inRange hrange))
  · rw [ended_clock]; exact hmasters.trans (by simp [State.forgetHeard])
  · rw [ended_clock]; exact hpaths.trans (by simp [State.forgetHeard])
  · rw [ended_reg _ _ _ _ (by decide) (by decide)]; exact hreadGm
  · rw [ended_reg _ _ _ _ (by decide) (by decide)]
    simpa [State.forgetHeard, State.elapse] using hreadState
  · rw [ended_out, State.reply, State.emit, hout]; simp [State.forgetHeard, begun]
  · exact ((hset.dropGm_loseGm 1 (by simp) (by simp) (by decide)).emit _).ended (by simp) (by simp)

/-- Settles O11, command by command. What the loss of a grandmaster may move and what the servo reads afterwards are said once
(`OnlyChanges.dropGm_loseGm`, `State.dropGm_loseGm_reg`), and serve the time-out and the restart alike. -/
theorem grandmasterLossAndControl : Obligations.GrandmasterLossAndControl :=
  ⟨syncTimeout_entersHoldover, announceTimeout_losesMaster, holdoverLimit_setsFlag, reacquireSchedule_schedules, reacquireCancel_withdraws,
    ptpClientRestart_dropsMaster⟩

end Sys2Proof.Proofs

namespace Sys2Proof.Machine

/-! The passing of time moves nothing of the clock but the turrets (R79) -/

@[simp] theorem State.elapse_excluded (s : State) (n : Nat) : (s.elapse n).clock.excluded = s.clock.excluded := rfl
@[simp] theorem State.elapse_corrections (s : State) (n : Nat) : (s.elapse n).clock.corrections = s.clock.corrections := rfl
@[simp] theorem begun_ticks (s : State) (dt : Nat) : (begun s dt).ticks = s.ticks + dt := rfl

/-! Turrets and the vote (R102 to R105) -/

section OnlyChanges

variable {parts : List Part} {regs : Reg → Bool} {s t : State}

/-- A post at priority 7 sets a bit of the fault summary too (R378). -/
theorem OnlyChanges.post_fault (h : OnlyChanges parts regs s t) (c a : Nat) (hdrum : .drum ∈ parts) (hsummary : regs .DRM_FAULT_SUMMARY = true) :
    OnlyChanges parts regs s (t.post c 7 a) := by
  have hincoming : OnlyChanges parts regs s
      { t with drum := { t.drum with incoming := t.drum.incoming ++ [[⟨.single, 7, c, a % 2 ^ 42⟩]] } } := by
    obtain ⟨hparts, hregs⟩ := h
    refine ⟨fun p hp => ?_, hregs⟩
    have := hparts p hp
    cases p with
    | drum => exact absurd hdrum hp
    | _ => exact this
  exact hincoming.setBit .DRM_FAULT_SUMMARY (c / 4096) true (by decide) hsummary

/-- What an effect may change, the Drum's own elements among it, a command may. -/
theorem OnlyChanges.ended_drum {dt : Nat} {u : State} (h : OnlyChanges parts (andDrum regs) (s.elapse dt) u) (hdrum : .drum ∈ parts)
    (hlog : .log ∈ parts) : OnlyChanges parts (andDrum regs) (s.elapse dt) (Machine.ended s dt u) :=
  (h.ended hdrum hlog).mono (List.Subset.refl _) fun r hr => by simpa [andDrum] using hr

end OnlyChanges

/-- The fault summary keeps its bits while words enter: only posts and clears move it (R378). -/
theorem State.enterWord_faultSummary (s : State) (w : DrumWord) :
    (s.enterWord w).1.reg .DRM_FAULT_SUMMARY = s.reg .DRM_FAULT_SUMMARY := by
  have hwords : ∀ (t : State) ws, (t.setWords ws).reg .DRM_FAULT_SUMMARY = t.reg .DRM_FAULT_SUMMARY := fun t ws => by
    simp only [State.setWords]
    split <;> simp (disch := decide) only [State.reg_setReg_key] <;> rfl
  have hcount : ∀ (t : State) q n, q.key ≠ Reg.DRM_FAULT_SUMMARY.key → (t.drumCount q n).1.reg .DRM_FAULT_SUMMARY = t.reg .DRM_FAULT_SUMMARY :=
    fun t q n hq => State.reg_setReg_key _ _ _ _ hq.symm
  have hprio : ∀ k, (Reg.DRM_LOST_PRIO k).key ≠ Reg.DRM_FAULT_SUMMARY.key := fun k => by
    simp only [Reg.key, Reg.DRM_LOST_PRIO, Reg.DRM_FAULT_SUMMARY]; omega
  simp only [State.enterWord]
  split
  · rw [hcount _ _ _ (by decide), State.logWord_reg]
  · split
    · split
      · rw [hcount _ _ _ (hprio _), hcount _ _ _ (by decide), hwords, State.logWord_reg]
      · rw [hwords, State.logWord_reg]
    · rw [hwords, State.logWord_reg]

theorem ended_faultSummary (s u : State) (dt : Nat) : (ended s dt u).reg .DRM_FAULT_SUMMARY = u.reg .DRM_FAULT_SUMMARY :=
  State.settle_keeps (fun t => t.reg .DRM_FAULT_SUMMARY = u.reg .DRM_FAULT_SUMMARY) (fun t w ht => (t.enterWord_faultSummary w).trans ht) u rfl

/-- A correction counted, reported and remembered, before it is judged whether the turret stays in use (R103). -/
def State.noteCorrection (s : State) (k : Nat) : State :=
  ((s.bump (.TCK_TURRET_CORRECTED (k + 1))).post 0x3010 5 k).modClock fun c => { c with
    corrections := (s.ticks, k) :: s.clock.corrections.filter fun p => Nat.ble (s.ticks - p.1) 781250000 }

/-- The turret excluded until reset (R104). -/
def State.excludeTurret (s : State) (k : Nat) : State :=
  (((s.modClock fun c => { c with excluded := some k }).setReg .TCK_TURRET_EXCLUDED (k + 1)).setBit .TCK_FLAGS 3 true).post 0x3011 6 k

/-- The corrections of a turret in the second before now, this one among them. -/
def State.recentCorrections (s : State) (k : Nat) : Nat :=
  (((s.ticks, k) :: s.clock.corrections.filter fun p => Nat.ble (s.ticks - p.1) 781250000).filter fun p => p.2 == k).length

theorem onlyChanges_noteCorrection (s : State) {k : Nat} (hk : k < 3) :
    OnlyChanges [.clock, .drum] (among [.TCK_TURRET_CORRECTED (k + 1)]) s (s.noteCorrection k) := by
  have hsub : (Reg.TCK_TURRET_CORRECTED (k + 1)).sub < 1024 := by simp only [Reg.TCK_TURRET_CORRECTED]; omega
  exact ((((onlyChanges_refl s).bump _ 1 hsub (by simp [among])).post _ _ _ (by decide) (by simp)).modClock _ (by simp))

/-- A turret is excluded at its third correction within 1 s (R104). -/
theorem State.turretCorrect_of_unarmed {s : State} {k : Nat} (hk : k < 3) (h : Captures s 33 = false) :
    s.turretCorrect k = if 3 ≤ s.recentCorrections k then (s.noteCorrection k).excludeTurret k else s.noteCorrection k := by
  have hunarmed : Captures (s.noteCorrection k) 33 = false := by
    rwa [(onlyChanges_noteCorrection s hk).captures fun ch => by
      simp [among, Reg.CAP_ENABLE, Reg.CAP_SOURCE, Reg.TCK_TURRET_CORRECTED]; omega]
  have hcapture := State.capture_of_unarmed hunarmed s.time96
  simp only [State.noteCorrection] at hcapture
  simp only [State.turretCorrect, hcapture]
  rfl

/-- The vote failed: one time on every turret, TIME_VALID clear, TCK_FLAGS[4] set, and event 0x3012 for three turrets in use (R105). -/
def State.failVote (s : State) (v : Nat) : State :=
  (((s.modClock fun c => { c with turrets := c.turrets.map fun t => { t with time := v } }).setBit .TCK_FLAGS 0 false).setBit
    .TCK_FLAGS 4 true).post 0x3012 7 7

theorem OnlyChanges.failVote {parts : List Part} {regs : Reg → Bool} {s t : State} (h : OnlyChanges parts regs s t) (v : Nat)
    (hclock : .clock ∈ parts) (hdrum : .drum ∈ parts) (hflags : regs .TCK_FLAGS = true) (hsummary : regs .DRM_FAULT_SUMMARY = true) :
    OnlyChanges parts regs s (t.failVote v) :=
  (((h.modClock _ hclock).setBit .TCK_FLAGS 0 false (by decide) hflags).setBit .TCK_FLAGS 4 true (by decide) hflags).post_fault _ _ hdrum hsummary

/-- With three turrets in use, no capture armed and no scan grid, a failed vote does that and no more. -/
theorem State.voteFail_of_unarmed {s : State} (hexcluded : s.clock.excluded = none) (hgrid : s.scan.gridOn = false)
    (h : Captures s 33 = false) (values : List Nat) : ∃ v, s.voteFail values = s.failVote v := by
  have hunarmed : ∀ v, Captures (s.failVote v) 33 = false := fun v => by
    have hchanges : OnlyChanges [.clock, .drum] (among [.TCK_FLAGS, .DRM_FAULT_SUMMARY]) s (s.failVote v) :=
      (onlyChanges_refl s).failVote v (by simp) (by simp) (by decide) (by decide)
    rwa [hchanges.captures fun ch => by simp [among, Reg.CAP_ENABLE, Reg.CAP_SOURCE, Reg.TCK_FLAGS, Reg.DRM_FAULT_SUMMARY]]
  have hvote : ∃ v, s.voteFail values = (s.failVote v).capture 33 v := by
    simp only [State.voteFail, hexcluded, hgrid, Bool.false_eq_true, if_false]
    exact ⟨_, rfl⟩
  obtain ⟨v, hv⟩ := hvote
  exact ⟨v, hv.trans (State.capture_of_unarmed (hunarmed v) v)⟩

end Sys2Proof.Machine

namespace Sys2Proof.Proofs

open Machine

/-! TURRET_MISMATCH and VOTE_FAILURE (R103 to R105) -/

theorem exec_turretMismatch (dt turret time f : Nat) (s : State) :
    exec (.turretMismatch dt turret time f) s = execTurretMismatch dt turret time f s := rfl
theorem exec_voteFailure (dt a b c : Nat) (s : State) : exec (.voteFailure dt a b c) s = execVoteFailure dt a b c s := rfl

/-- A turret that differs, with three in use, is corrected (R103). -/
theorem completes_of_turretCorrect {dt turret time f : Nat} {s : State} {claim : State → State → Prop} (hturret : turret < 3)
    (hexcluded : s.clock.excluded = none) (hdiffers : nth (s.elapse dt).clock.turrets turret Turret.reset ≠ ⟨time, f⟩)
    (hclaim : claim (s.elapse dt) (ended s dt ((begun s dt).turretCorrect turret))) : Completes (.turretMismatch dt turret time f) s claim := by
  refine completes_of_effect (dt := dt) rfl (exec_turretMismatch ..) ?_ hclaim
  simp [Nat.not_le.2 hturret, hdiffers, hexcluded]

theorem turretMismatch_counts (dt turret time f : Nat) (s : State) (htakes : Takes s 5) (hturret : turret < 3)
    (hexcluded : s.clock.excluded = none) (hdiffers : nth (s.elapse dt).clock.turrets turret Turret.reset ≠ ⟨time, f⟩)
    (hfirst : (s.clock.corrections.filter fun p => p.2 == turret) = []) (hunarmed : Captures s 33 = false) :
    Completes (.turretMismatch dt turret time f) s fun s0 t =>
      t.reg (.TCK_TURRET_CORRECTED (turret + 1)) = (s.reg (.TCK_TURRET_CORRECTED (turret + 1)) + 1) % 2 ^ 32 ∧ Posted t 0x3010 5 turret ∧
      t.clock.turrets = s0.clock.turrets ∧ t.clock.excluded = none ∧
      OnlyChanges [.clock, .drum, .log] (andDrum (among [.TCK_TURRET_CORRECTED (turret + 1)])) s0 t := by
  obtain ⟨hquiet, hmin⟩ := htakes
  have hsub : (Reg.TCK_TURRET_CORRECTED (turret + 1)).sub < 1024 := by simp only [Reg.TCK_TURRET_CORRECTED]; omega
  have hbits : dictBits (.TCK_TURRET_CORRECTED (turret + 1)) = 32 := by
    have : ∀ k < 3, dictBits (.TCK_TURRET_CORRECTED (k + 1)) = 32 := by decide
    exact this _ hturret
  have hnote : (begun s dt).turretCorrect turret = (begun s dt).noteCorrection turret := by
    have hone : (begun s dt).recentCorrections turret = 1 := by
      rw [List.filter_eq_nil_iff] at hfirst
      simpa [State.recentCorrections] using fun i k hp hk => absurd hk (by simpa using hfirst (i, k) hp)
    rw [State.turretCorrect_of_unarmed (s := begun s dt) hturret hunarmed, hone]; rfl
  have hchanges := (onlyChanges_begun (parts := [.clock, .drum]) s dt).trans (onlyChanges_noteCorrection (begun s dt) hturret)
  refine completes_of_turretCorrect hturret hexcluded hdiffers ?_
  rw [hnote]
  refine ⟨?_, ?_, ?_, ?_, ?_⟩
  · rw [ended_reg _ _ _ _ hsub (by simp [drumRegs, Reg.TCK_TURRET_CORRECTED]), State.noteCorrection, State.modClock_reg,
      State.reg_post_low _ _ _ _ _ (by decide), State.bump, State.reg_setReg_same _ _ _ (by rw [hbits]; decide), hbits, begun_reg]
  · refine posted_ended ?_ ?_
    · simp [State.noteCorrection, State.bump, hquiet]
    · rwa [hchanges.2 .DRM_MIN_PRIORITY (by decide) (by simp [among, Reg.DRM_MIN_PRIORITY, Reg.TCK_TURRET_CORRECTED])]
  · simp [State.noteCorrection]
  · simpa [State.noteCorrection] using hexcluded
  · exact (hchanges.mono (parts' := [.clock, .drum, .log]) (by simp) fun _ => id).ended (by simp) (by simp)

theorem turretMismatch_excludes (dt turret time f a b : Nat) (s : State) (htakes : Takes s 6) (hturret : turret < 3)
    (hexcluded : s.clock.excluded = none) (hdiffers : nth (s.elapse dt).clock.turrets turret Turret.reset ≠ ⟨time, f⟩)
    (htwice : s.clock.corrections = [(a, turret), (b, turret)])
    (hrecent : s.ticks + dt ≤ b + 781250000 ∧ s.ticks + dt ≤ a + 781250000) (hunarmed : Captures s 33 = false) :
    Completes (.turretMismatch dt turret time f) s fun _ t => t.clock.excluded = some turret ∧ t.reg .TCK_TURRET_EXCLUDED = turret + 1 ∧
      bitOf (t.reg .TCK_FLAGS) 3 = true ∧ Posted t 0x3011 6 turret := by
  obtain ⟨hquiet, hmin⟩ := htakes
  obtain ⟨hb, ha⟩ := hrecent
  have hthird : (begun s dt).turretCorrect turret = ((begun s dt).noteCorrection turret).excludeTurret turret := by
    have hthree : (begun s dt).recentCorrections turret = 3 := by
      have hra : (s.ticks + dt - a).ble 781250000 = true := Nat.ble_eq_true_of_le (by omega)
      have hrb : (s.ticks + dt - b).ble 781250000 = true := Nat.ble_eq_true_of_le (by omega)
      simp [State.recentCorrections, htwice, hra, hrb]
    rw [State.turretCorrect_of_unarmed (s := begun s dt) hturret hunarmed, hthree]; rfl
  have hchanges := (onlyChanges_begun (parts := [.clock, .drum]) s dt).trans (onlyChanges_noteCorrection (begun s dt) hturret)
  refine completes_of_turretCorrect hturret hexcluded hdiffers ?_
  rw [hthird]
  refine ⟨?_, ?_, ?_, ?_⟩
  · simp [State.excludeTurret]
  · have hwidth : turret + 1 < 2 ^ dictBits .TCK_TURRET_EXCLUDED := lt_of_lt_of_le (by omega : turret + 1 < 4) (by decide)
    rw [ended_reg _ _ _ _ (by decide) (by decide), State.excludeTurret, State.reg_post_low _ _ _ _ _ (by decide), State.setBit,
      State.reg_setReg_key _ _ _ _ (by decide), State.reg_setReg_same _ _ _ (by decide), Nat.mod_eq_of_lt hwidth]
  · rw [ended_reg _ _ _ _ (by decide) (by decide), State.excludeTurret, State.reg_post_low _ _ _ _ _ (by decide),
      State.bitOf_setBit_same _ _ (by decide)]
  · have hincoming : (((begun s dt).noteCorrection turret).excludeTurret turret).drum.incoming =
        [[⟨.single, 5, 0x3010, turret % 2 ^ 42⟩], [⟨.single, 6, 0x3011, turret % 2 ^ 42⟩]] := by
      simp [State.excludeTurret, State.noteCorrection, State.bump, State.setBit, hquiet]
    refine posted_ended_of_mem (by simp [hincoming]) (by simp [hincoming]) (.inl ?_)
    have hkept : (((begun s dt).noteCorrection turret).excludeTurret turret).reg .DRM_MIN_PRIORITY =
        ((begun s dt).noteCorrection turret).reg .DRM_MIN_PRIORITY := by
      simp (disch := decide) only [State.excludeTurret, State.setBit, State.reg_post_low, State.reg_setReg_key, State.modClock_reg]
    rwa [hkept, hchanges.2 .DRM_MIN_PRIORITY (by decide) (by simp [among, Reg.DRM_MIN_PRIORITY, Reg.TCK_TURRET_CORRECTED])]

theorem voteFailure_clearsTimeValid (dt a b c : Nat) (s : State) (hquiet : Quiet s) (hexcluded : s.clock.excluded = none) (hab : a ≠ b)
    (hbc : b ≠ c) (hac : a ≠ c) (hgrid : s.scan.gridOn = false) (hunarmed : Captures s 33 = false) :
    Completes (.voteFailure dt a b c) s fun s0 t => t.timeValid = false ∧ bitOf (t.reg .TCK_FLAGS) 4 = true ∧ Posted t 0x3012 7 7 ∧
      bitOf (t.reg .DRM_FAULT_SUMMARY) 3 = true ∧ (∀ u ∈ t.clock.turrets, ∀ v ∈ t.clock.turrets, u.time = v.time) ∧
      OnlyChanges [.clock, .drum, .log] (andDrum (among [.TCK_FLAGS])) s0 t := by
  obtain ⟨v, hv⟩ := State.voteFail_of_unarmed (s := begun s dt) hexcluded hgrid hunarmed [a, b, c]
  have hflags : ((begun s dt).failVote v).reg .TCK_FLAGS = ((((begun s dt).modClock fun c => { c with
      turrets := c.turrets.map fun t => { t with time := v } }).setBit .TCK_FLAGS 0 false).setBit .TCK_FLAGS 4 true).reg .TCK_FLAGS :=
    State.reg_post _ _ _ _ _ (by decide)
  refine completes_of_effect (dt := dt) (u := (begun s dt).failVote v) rfl (exec_voteFailure ..) ?_ ⟨?_, ?_, ?_, ?_, ?_, ?_⟩
  · simp [hexcluded, hab, hbc, hac, hv]
  · rw [State.timeValid, ended_reg _ _ _ _ (by decide) (by decide), hflags, State.bitOf_setBit_below _ _ (by decide) (by decide),
      State.bitOf_setBit_same _ _ (by decide)]
  · rw [ended_reg _ _ _ _ (by decide) (by decide), hflags, State.bitOf_setBit_same _ _ (by decide)]
  · refine posted_ended_of_mem ?_ ?_ (.inr rfl) <;> simp [State.failVote, State.setBit, hquiet]
  · rw [ended_faultSummary]
    exact State.bitOf_setBit_same _ true (by decide)
  · simp [State.failVote]
  · exact ((onlyChanges_begun s dt).failVote v (by simp) (by simp) (by decide) (by decide)).ended_drum (by simp) (by simp)

/-- Settles O12, clause by clause: a correction is `State.noteCorrection`, an exclusion `State.excludeTurret` behind it, and a failed vote
`State.failVote`. -/
theorem turretsAndTheVote : Obligations.TurretsAndTheVote :=
  ⟨turretMismatch_counts, turretMismatch_excludes, voteFailure_clearsTimeValid⟩

end Sys2Proof.Proofs

namespace Sys2Proof.Machine

/-! Counters and their defaults (R69, R464) -/

/-- The elements `counterEvent` names: lowest and highest index, lowest and highest subindex. -/
def counterRanges : List (Nat × Nat × Nat × Nat) :=
  [(0x2100, 0x2102, 0, 1023), (0x1100, 0x1100, 0, 1023), (0x4300, 0x4308, 0, 1023), (0x5200, 0x5200, 0, 1023), (0x6400, 0x6408, 0, 1023),
   (0x7800, 0x7800, 0, 1023), (0x8400, 0x8400, 0, 1023), (0x8C00, 0x8C3F, 0, 1023), (0x9600, 0x9600, 0, 1023), (0xA080, 0xA080, 0, 1023),
   (0xA207, 0xA20A, 0, 1023), (0xB200, 0xB200, 0, 1023), (0xB101, 0xB109, 3, 3), (0xC600, 0xC600, 0, 1023), (0xC610, 0xC617, 0, 1023),
   (0xD100, 0xD100, 0, 1023), (0xE200, 0xE200, 0, 1023)]

/-- Whether a row shares an element with a range. -/
def DictRow.meets (row : DictRow) (p : Nat × Nat × Nat × Nat) : Bool :=
  decide (row.indexLo ≤ p.2.1 ∧ p.1 ≤ row.indexHi ∧ row.subLo ≤ p.2.2.2 ∧ p.2.2.1 ≤ row.subHi)

theorem counterRanges_of_counterEvent {r : Reg} (hsub : r.sub < 1024) (h : (counterEvent r).isSome = true) :
    ∃ p ∈ counterRanges, p.1 ≤ r.index ∧ r.index ≤ p.2.1 ∧ p.2.2.1 ≤ r.sub ∧ r.sub ≤ p.2.2.2 := by
  simp only [counterRanges, List.exists_mem_cons_iff, List.not_mem_nil, false_and, exists_false, or_false]
  by_contra hnot
  have hnone : counterEvent r = none := by
    simp only [counterEvent]
    repeat rw [if_neg (by omega)]
  simp [hnone] at h

/-- The rows of an index are those of its block. -/
theorem dictRowsOf_block (i : Nat) : dictRowsOf (i / 4096 * 4096) = dictRowsOf i := by
  simp only [dictRowsOf, Nat.mul_div_cancel _ (by decide : 0 < 4096)]

/-- No row that holds a counter gives it a default but 0. -/
theorem counterRows_default : ((List.range 16).all fun k => (dictRowsOf (k * 4096)).all fun row =>
    !(counterRanges.any row.meets) || row.dflt == .val 0) = true := by decide +kernel

/-- Every counter is 0 by default (R69). -/
theorem dictDefault_of_counterEvent {r : Reg} (hsub : r.sub < 1024) (h : (counterEvent r).isSome = true) : dictDefault r = 0 := by
  obtain ⟨p, hp, hlo, hhi, hslo, hshi⟩ := counterRanges_of_counterEvent hsub h
  have hblock : r.index / 4096 < 16 := by
    have : ∀ q ∈ counterRanges, q.2.1 < 65536 := by decide
    have := this p hp
    omega
  unfold dictDefault
  split
  next row hrow =>
    have hmem : row ∈ dictRowsOf (r.index / 4096 * 4096) := by
      rw [dictRowsOf_block]; exact List.mem_of_find?_eq_some hrow
    have hcovers : row.covers r.index r.sub = true :=
      List.find?_some (p := fun row : DictRow => row.covers r.index r.sub) hrow
    simp only [DictRow.covers, Bool.and_eq_true, Nat.ble_eq] at hcovers
    have hmeets : counterRanges.any row.meets = true := by
      refine List.any_eq_true.2 ⟨p, hp, decide_eq_true ?_⟩
      omega
    have hrows := List.all_eq_true.1 (List.all_eq_true.1 counterRows_default _ (List.mem_range.2 hblock)) row hmem
    have hdflt : row.dflt = .val 0 := by simpa [hmeets] using hrows
    rw [hdflt]; rfl
  next => rfl

/-- At reset the store holds LAN_STATE alone, so every other element reads its default (R343, R464). -/
theorem reset_reg {r : Reg} (hsub : r.sub < 1024) (hne : r ≠ .LAN_STATE) : State.reset.reg r = dictDefault r := by
  have hkey : Reg.LAN_STATE.key ≠ r.key := fun h => hne (Reg.key_inj hsub (by decide) h.symm)
  simp [State.reg, State.reset, storeGet, hkey]

theorem reset_dictForm : DictForm State.reset := ⟨by decide, by decide +kernel⟩

end Sys2Proof.Machine

namespace Sys2Proof.Proofs

open Machine

/-- Settles O55: the fields of `State.reset` as it lists them, and its one stored element against the defaults of the tables. -/
theorem resetLeavesTheStartState : Obligations.ResetLeavesTheStartState := by
  refine ⟨?_, ?_, fun r hsub hne => reset_reg hsub hne, fun r hsub hcounter => ?_⟩
  · intro u hu
    obtain rfl : u = Turret.reset := List.eq_of_mem_replicate hu
    exact ⟨rfl, rfl⟩
  · have hdrum : DrumForm State.reset := ⟨by decide, rfl⟩
    exact ⟨rfl, by decide +kernel, by decide +kernel, rfl, rfl, rfl, rfl, rfl, rfl, hdrum, reset_dictForm⟩
  · have hne : r ≠ .LAN_STATE := by rintro rfl; revert hcounter; decide
    rw [reset_reg hsub hne, dictDefault_of_counterEvent hsub hcounter]

end Sys2Proof.Proofs

namespace Sys2Proof.Machine

/-! Messages of PTP (R83 to R94) -/

@[simp] theorem State.elapse_acquire (s : State) (n : Nat) : (s.elapse n).clock.acquire = s.clock.acquire := rfl
@[simp] theorem State.elapse_masters (s : State) (n : Nat) : (s.elapse n).clock.masters = s.clock.masters := rfl
@[simp] theorem State.elapse_lastGm (s : State) (n : Nat) : (s.elapse n).clock.lastGm = s.clock.lastGm := rfl
@[simp] theorem State.elapse_paths (s : State) (n : Nat) : (s.elapse n).clock.paths = s.clock.paths := rfl
@[simp] theorem State.elapse_syncDelta (s : State) (n : Nat) : (s.elapse n).clock.syncDelta = s.clock.syncDelta := rfl

/-- t2 − t1 − correction − asymmetry of a Sync, in ns (R94). -/
def State.syncOffset (s : State) (m : PtpSync) : Rat :=
  s.correctRx m.port m.rxStamp - m.originNs - (m.correction : Rat) / 65536 - (s.regInt (.TCK_ASYMMETRY (m.port + 1)) : Rat) / 1000

/-- The sample a Sync gives the servo (R94). -/
def State.syncSample (s : State) (m : PtpSync) : ClockSample :=
  ⟨s.correctRx m.port m.rxStamp, s.syncOffset m - s.meanPath m.linkSum⟩

/-- A Sync noted before the servo takes its sample: the mean path in use, and the direction it measured (R94). -/
def State.noteSync (s : State) (m : PtpSync) : State :=
  (s.setReg .TCK_MEAN_PATH (roundRat (s.meanPath m.linkSum)).toNat).modClock fun c => { c with syncDelta := some (s.syncOffset m) }

/-- A sample in ACQUIRE joins those collected, and its offset is shown (R93). -/
def State.collectSample (s : State) (smp : ClockSample) : State :=
  (s.setInt .TCK_OFFSET (roundRat smp.offset)).modClock fun c => { c with
    history := (smp :: c.history).take 16, acquire := (c.acquire ++ [smp]).take 16 }

theorem State.sample_of_acquire {s : State} (h : s.reg .TCK_STATE = 1) (port : Nat) (smp : ClockSample) :
    s.sample port smp = s.collectSample smp := by
  have hstate : ((s.setInt .TCK_OFFSET (roundRat smp.offset)).modClock fun c => { c with history := (smp :: c.history).take 16 }).reg
      .TCK_STATE = 1 := by
    rw [State.modClock_reg, State.setInt, State.reg_setReg_key _ _ _ _ (by decide), h]
  simp only [State.sample, hstate]
  rfl

section OnlyChanges

variable {parts : List Part} {regs : Reg → Bool} {s t : State}

theorem OnlyChanges.noteSync (h : OnlyChanges parts regs s t) (m : PtpSync) (hclock : .clock ∈ parts) (hpath : regs .TCK_MEAN_PATH = true) :
    OnlyChanges parts regs s (t.noteSync m) := (h.setReg _ _ (by decide) hpath).modClock _ hclock

theorem OnlyChanges.collectSample (h : OnlyChanges parts regs s t) (smp : ClockSample) (hclock : .clock ∈ parts)
    (hoffset : regs .TCK_OFFSET = true) : OnlyChanges parts regs s (t.collectSample smp) :=
  (h.setInt _ _ (by decide) hoffset).modClock _ hclock

end OnlyChanges

/-- A Sync of the selected grandmaster in ACQUIRE, with no capture of its receive time, is noted and collected (R93, R94). -/
theorem syncReceive_effect {s : State} {m : PtpSync} (hacquire : s.reg .TCK_STATE = 1) (hunarmed : Captures s 32 = false) (stamp : Nat) :
    ((((s.noteSync m).capture 32 stamp).setBit .TCK_FLAGS 5 (s.softPort m.port)).sample m.port (s.syncSample m)) =
      ((s.noteSync m).setBit .TCK_FLAGS 5 (s.softPort m.port)).collectSample (s.syncSample m) := by
  have hnote : OnlyChanges [.clock] (among [.TCK_MEAN_PATH]) s (s.noteSync m) :=
    (onlyChanges_refl s).noteSync m (by simp) (by decide)
  have hunarmed' : Captures (s.noteSync m) 32 = false := by
    rwa [hnote.captures fun ch => by simp [among, Reg.CAP_ENABLE, Reg.CAP_SOURCE, Reg.TCK_MEAN_PATH]]
  have hstate : ((s.noteSync m).setBit .TCK_FLAGS 5 (s.softPort m.port)).reg .TCK_STATE = 1 := by
    rw [State.setBit, State.reg_setReg_key _ _ _ _ (by decide), hnote.2 .TCK_STATE (by decide) (by decide), hacquire]
  rw [State.capture_of_unarmed hunarmed', State.sample_of_acquire hstate]

/-- A path delay measured: the mean of the last 16 is in use (R94). -/
def State.measurePath (s : State) (d : Rat) : State :=
  let paths := (d :: s.clock.paths).take 16
  (s.modClock fun k => { k with paths := paths }).setReg .TCK_MEAN_PATH (roundRat (paths.sum / paths.length)).toNat

/-- One grandmaster heard, for the n-th time (R84). -/
def State.hearAlone (s : State) (m : PtpAnnounce) (n : Nat) : State := s.modClock fun c => { c with masters := [⟨m, n⟩] }

/-- The one grandmaster heard twice on an allowed port is the best (R84). -/
theorem State.bestMaster_of_single {s : State} {m : PtpAnnounce} {n : Nat} (hmasters : s.clock.masters = [⟨m, n⟩]) (hheard : 2 ≤ n)
    (hallowed : s.portAllowed m.port = true) : s.bestMaster = some m := by
  simp [State.bestMaster, hmasters, hheard, hallowed]

/-- A grandmaster that differs from the last selected, selected with event 0x3006 (R84, R96). -/
def State.adoptMaster (s : State) (m : PtpAnnounce) : State :=
  ((((s.setReg .TCK_GM_ID m.gmId).setReg .TCK_SLAVE_PORT (m.port + 1)).setInt .TCK_UTC_OFFSET m.utcOffset).modClock fun c => { c with
    acquire := [], history := [], lastGm := some m.gmId }).post 0x3006 3 m.gmId

theorem OnlyChanges.adoptMaster {parts : List Part} {regs : Reg → Bool} {s t : State} (h : OnlyChanges parts regs s t) (m : PtpAnnounce)
    (hclock : .clock ∈ parts) (hdrum : .drum ∈ parts) (hregs : ∀ r ∈ [Reg.TCK_GM_ID, .TCK_SLAVE_PORT, .TCK_UTC_OFFSET], regs r = true) :
    OnlyChanges parts regs s (t.adoptMaster m) :=
  ((((h.setReg _ _ (by decide) (hregs _ (by decide))).setReg _ _ (by decide) (hregs _ (by decide))).setInt _ _ (by decide)
    (hregs _ (by decide))).modClock _ hclock).post _ _ _ (by decide) hdrum

theorem State.adoptMaster_state (s : State) (m : PtpAnnounce) : (s.adoptMaster m).reg .TCK_STATE = s.reg .TCK_STATE :=
  ((onlyChanges_refl s).adoptMaster (parts := [.clock, .drum]) (regs := among [.TCK_GM_ID, .TCK_SLAVE_PORT, .TCK_UTC_OFFSET]) m (by simp)
    (by simp) (by decide)).2 .TCK_STATE (by decide) (by decide)

/-- From FREE a grandmaster selected anew takes the servo to ACQUIRE (R92). -/
theorem State.selectMaster_of_free {s : State} {m : PtpAnnounce} (hbest : s.bestMaster = some m) (hnew : s.clock.lastGm ≠ some m.gmId)
    (hfree : s.reg .TCK_STATE = 0) : s.selectMaster = (s.adoptMaster m).setServo stAcquire := by
  have hstate := s.adoptMaster_state m
  rw [hfree] at hstate
  have hselect : s.selectMaster = if (s.adoptMaster m).reg .TCK_STATE = stFree then (s.adoptMaster m).setServo stAcquire else s.adoptMaster m := by
    simp only [State.selectMaster, hbest, ne_eq, hnew, not_false_eq_true, decide_true, if_true]
    rfl
  rw [hselect, hstate]; rfl

end Sys2Proof.Machine

namespace Sys2Proof.Proofs

open Machine

/-! SYNC_RECEIVE, ANNOUNCE_RECEIVE, DELAY_RESP_RECEIVE and PDELAY_REQ_RECEIVE (R83, R84, R92 to R94) -/

theorem exec_syncReceive (dt : Nat) (m : PtpSync) (s : State) : exec (.syncReceive dt m) s = execSyncReceive dt m s := rfl
theorem exec_announceReceive (dt : Nat) (m : PtpAnnounce) (s : State) : exec (.announceReceive dt m) s = execAnnounceReceive dt m s := rfl
theorem exec_delayRespReceive (dt : Nat) (m : PtpDelay) (s : State) : exec (.delayRespReceive dt m) s = execDelayRespReceive dt m s := rfl
theorem exec_pdelayReqReceive (dt port seq : Nat) (s : State) : exec (.pdelayReqReceive dt port seq) s = execPdelayReqReceive dt port seq s := rfl

theorem syncReceive_addsSample (dt : Nat) (m : PtpSync) (s : State) (hquiet : Quiet s) (hdomain : m.domain = s.reg .TCK_DOMAIN)
    (hgm : s.reg .TCK_GM_ID ≠ 0) (hfrom : m.clockId = s.reg .TCK_GM_ID) (hport : m.port + 1 = s.reg .TCK_SLAVE_PORT)
    (hacquire : s.reg .TCK_STATE = 1) (hunarmed : Captures s 32 = false) :
    Completes (.syncReceive dt m) s fun s0 t => t.clock.acquire =
      (s.clock.acquire ++ [(⟨s.correctRx m.port m.rxStamp, s.correctRx m.port m.rxStamp - m.originNs - (m.correction : Rat) / 65536 -
        (s.regInt (.TCK_ASYMMETRY (m.port + 1)) : Rat) / 1000 - s.meanPath m.linkSum⟩ : ClockSample)]).take 16 ∧ t.out = [] ∧
      OnlyChanges [.clock] (among [.TCK_MEAN_PATH, .TCK_OFFSET, .TCK_FLAGS]) s0 t := by
  refine completes_of_effect (dt := dt) (u := (((begun s dt).noteSync m).setBit .TCK_FLAGS 5 ((begun s dt).softPort m.port)).collectSample
    ((begun s dt).syncSample m)) rfl (exec_syncReceive ..) ?_ ⟨?_, ?_, ?_⟩
  · have haccepted : ¬(m.domain ≠ s.reg .TCK_DOMAIN ∨ s.reg .TCK_GM_ID = 0 ∨ m.clockId ≠ s.reg .TCK_GM_ID ∨
        m.port + 1 ≠ s.reg .TCK_SLAVE_PORT) := by simp [hdomain, hgm, hfrom, hport]
    exact (if_neg haccepted).trans (syncReceive_effect (s := begun s dt) hacquire hunarmed _)
  · rw [ended_clock]
    simp [State.collectSample, State.noteSync]
    rfl
  · rw [ended_out]; simp [State.collectSample, State.noteSync, begun]
  · exact ((((onlyChanges_begun s dt).noteSync m (by simp) (by decide)).setBit .TCK_FLAGS 5 _ (by decide) (by decide)).collectSample _ (by simp)
      (by decide)).ended_quiet (by simpa [Quiet, State.collectSample, State.noteSync] using hquiet)

theorem announceReceive_selectsMaster (dt h : Nat) (a m : PtpAnnounce) (s : State) (htakes : Takes s 3 ∧ s.reg .DRM_MIN_PRIORITY ≤ 2)
    (hdomain : m.domain = s.reg .TCK_DOMAIN) (hmasters : s.clock.masters = [⟨a, h⟩]) (hheard : 1 ≤ h) (hgm : a.gmId = m.gmId)
    (hport : a.port = m.port) (hallowed : s.portAllowed m.port = true) (hfree : s.reg .TCK_STATE = 0) (hnew : s.clock.lastGm ≠ some m.gmId) :
    Completes (.announceReceive dt m) s fun s0 t => t.reg .TCK_GM_ID = m.gmId % 2 ^ 64 ∧ t.reg .TCK_SLAVE_PORT = (m.port + 1) % 2 ^ 8 ∧
      t.reg .TCK_STATE = 1 ∧ Posted t 0x3006 3 m.gmId ∧ Posted t 0x3001 2 1 ∧
      OnlyChanges [.clock, .drum, .log] (andDrum (among [.TCK_GM_ID, .TCK_SLAVE_PORT, .TCK_UTC_OFFSET, .TCK_STATE])) s0 t := by
  obtain ⟨⟨hquiet, -⟩, hmin⟩ := htakes
  have hbest : ((begun s dt).hearAlone m (h + 1)).bestMaster = some m :=
    State.bestMaster_of_single rfl (Nat.succ_le_succ hheard) hallowed
  have hselect := State.selectMaster_of_free (s := (begun s dt).hearAlone m (h + 1)) hbest hnew hfree
  have hadopt : OnlyChanges [.clock, .drum, .log] (among [.TCK_GM_ID, .TCK_SLAVE_PORT, .TCK_UTC_OFFSET, .TCK_STATE]) (s.elapse dt)
      (((begun s dt).hearAlone m (h + 1)).adoptMaster m) :=
    ((onlyChanges_begun s dt).modClock _ (by simp)).adoptMaster m (by simp) (by simp) (by decide)
  have hstate : (((begun s dt).hearAlone m (h + 1)).adoptMaster m).reg .TCK_STATE = 0 := (State.adoptMaster_state ..).trans hfree
  have hservo : OnlyChanges [.clock, .drum] (among [.TCK_STATE]) (((begun s dt).hearAlone m (h + 1)).adoptMaster m)
      ((((begun s dt).hearAlone m (h + 1)).adoptMaster m).setServo stAcquire) :=
    (onlyChanges_refl _).setServo _ (by simp) (by simp) (by decide) fun hold => by rw [hstate] at hold; cases hold
  have hchanges := hadopt.setServo stAcquire (by simp) (by simp) (by decide) fun hold => by rw [hstate] at hold; cases hold
  have hincoming : ((((begun s dt).hearAlone m (h + 1)).adoptMaster m).setServo stAcquire).drum.incoming =
      [[⟨.single, 3, 0x3006, m.gmId % 2 ^ 42⟩], [⟨.single, 2, 0x3001, 1⟩]] := by
    rw [State.setServo_of_ne (by rw [hstate]; decide) (by rw [hstate]; decide), hstate]
    simp [State.adoptMaster, State.hearAlone, hquiet, stAcquire]
  have hfilter : ((((begun s dt).hearAlone m (h + 1)).adoptMaster m).setServo stAcquire).reg .DRM_MIN_PRIORITY ≤ 2 := by
    rwa [hchanges.2 .DRM_MIN_PRIORITY (by decide) (by decide)]
  refine completes_of_effect (dt := dt) (u := (((begun s dt).hearAlone m (h + 1)).adoptMaster m).setServo stAcquire) rfl
    (exec_announceReceive ..) ?_ ⟨?_, ?_, ?_, ?_, ?_, ?_⟩
  · rw [← hselect]
    simp [State.modClock, State.hearAlone, hdomain, hmasters, hgm, hport]
  · rw [ended_reg _ _ _ _ (by decide) (by decide), hservo.2 .TCK_GM_ID (by decide) (by decide)]
    simp (disch := decide) only [State.adoptMaster, State.setInt, State.reg_post_low, State.modClock_reg, State.reg_setReg_key, State.reg_setReg_same]
    rfl
  · rw [ended_reg _ _ _ _ (by decide) (by decide), hservo.2 .TCK_SLAVE_PORT (by decide) (by decide)]
    simp (disch := decide) only [State.adoptMaster, State.setInt, State.reg_post_low, State.modClock_reg, State.reg_setReg_key, State.reg_setReg_same]
    rfl
  · rw [ended_reg _ _ _ _ (by decide) (by decide), State.setServo_state _ (by decide)]; rfl
  · exact posted_ended_of_mem (by simp [hincoming]) (by simp [hincoming]) (.inl (by omega))
  · exact posted_ended_of_mem (by simp [hincoming]) (by simp [hincoming]) (.inl hfilter)
  · exact hchanges.ended (by simp) (by simp)

theorem delayRespReceive_measuresPath (dt : Nat) (m : PtpDelay) (fwd : Rat) (s : State) (hquiet : Quiet s) (hdomain : m.domain = s.reg .TCK_DOMAIN)
    (hpeer : m.peer = false) (hprofile : s.reg .TCK_PROFILE ≠ 2) (hport : m.port + 1 = s.reg .TCK_SLAVE_PORT)
    (hfwd : s.clock.syncDelta = some fwd) :
    Completes (.delayRespReceive dt m) s fun s0 t => t.clock.paths = ((fwd + ((m.t4 : Rat) / 2 ^ 32 - s.correctTx m.port m.t3 -
      (m.correction : Rat) / 65536 + (s.regInt (.TCK_ASYMMETRY (m.port + 1)) : Rat) / 1000)) / 2 :: s.clock.paths).take 16 ∧
      OnlyChanges [.clock] (among [.TCK_MEAN_PATH]) s0 t := by
  refine completes_of_effect (dt := dt) (u := (begun s dt).measurePath ((fwd + ((m.t4 : Rat) / 2 ^ 32 - s.correctTx m.port m.t3 -
    (m.correction : Rat) / 65536 + (s.regInt (.TCK_ASYMMETRY (m.port + 1)) : Rat) / 1000)) / 2)) rfl (exec_delayRespReceive ..) ?_ ⟨?_, ?_⟩
  · simp only [begun_reg, begun_clock, State.elapse_syncDelta, hdomain, hpeer, hprofile, hport, hfwd, ne_eq, not_true_eq_false,
      Bool.false_eq_true, or_self, if_false]
    rfl
  · rw [ended_clock]; simp [State.measurePath]
  · exact (((onlyChanges_begun s dt).modClock _ (by simp)).setReg .TCK_MEAN_PATH _ (by decide) (by decide)).ended_quiet
      (by simpa [Quiet] using hquiet)

theorem pdelayReqReceive_answers (dt port seq : Nat) (s : State) (hquiet : Quiet s) (hport : port < 2) (hprofile : s.reg .TCK_PROFILE = 2) :
    Completes (.pdelayReqReceive dt port seq) s fun s0 t => t.out = [.pdelayResp port seq] ∧ OnlyChanges [] noRegs s0 t := by
  refine completes_of_effect (dt := dt) (u := (begun s dt).emit (.pdelayResp port seq)) rfl (exec_pdelayReqReceive ..) ?_ ⟨?_, ?_⟩
  · exact if_pos ⟨hprofile, hport⟩
  · rw [ended_out]; rfl
  · exact ((onlyChanges_begun s dt).emit _).ended_quiet hquiet

/-- Settles O9, command by command. -/
theorem ptpFeedsTheServo : Obligations.PtpFeedsTheServo :=
  ⟨syncReceive_addsSample, announceReceive_selectsMaster, delayRespReceive_measuresPath, pdelayReqReceive_answers⟩

end Sys2Proof.Proofs

namespace Sys2Proof.Machine

/-! What the blocks do at a step of venue time, once the turrets are set (R112, R267, R320) -/

/-- The parts of the state a step of venue time reaches. -/
def stepParts : List Part := [.belfry, .clock, .drum, .log, .epochs, .lantern, .net, .ocu, .scan, .spire, .twin]

/-- The elements the blocks move at a step: those of Belfry, scan-out, Oculus and the start sequence, and of the comparators and captures. -/
def stepRegs (r : Reg) : Bool := decide (r.sub < 1024) && (blocks [5, 8, 0xA, 0xF] r || decide (0x3100 ≤ r.index ∧ r.index < 0x3300))

theorem stepRegs_block {r : Reg} (hsub : r.sub < 1024) (hblock : r.index / 4096 ∈ [5, 8, 0xA, 0xF]) : stepRegs r = true := by
  have hblocks : blocks [5, 8, 0xA, 0xF] r = true := List.contains_iff_mem.2 hblock
  rw [stepRegs, hblocks, decide_eq_true hsub]; rfl

/-- The elements of the record of a comparator (R109). -/
theorem stepRegs_comparator {n k : Nat} (hn : n < 16) (hk : k < 1024) : stepRegs ⟨0x3100 + n, k⟩ = true := by
  simp [stepRegs, hk]; omega

/-- The elements of the record of a capture channel (R114). -/
theorem stepRegs_capture {ch k : Nat} (hch : ch < 8) (hk : k < 1024) : stepRegs ⟨0x3200 + ch, k⟩ = true := by
  simp [stepRegs, hk]; omega

/-- What the blocks do at a step leaves the turrets, and that a step has been made, as they are. -/
structure AfterStep (s t : State) : Prop where
  changes : OnlyChanges stepParts stepRegs s t
  turrets : t.clock.turrets = s.clock.turrets
  stepped : t.clock.stepped = s.clock.stepped

namespace AfterStep

variable {s t u : State}

theorem refl (s : State) : AfterStep s s := ⟨onlyChanges_refl s, rfl, rfl⟩

/-- Any change of the parts a step reaches, but for the turrets and the dictionary. -/
theorem change (h : AfterStep s t)
    (hu : u = { t with belfry := u.belfry, clock := u.clock, drum := u.drum, log := u.log, epochs := u.epochs, lantern := u.lantern, net := u.net,
                       ocu := u.ocu, scan := u.scan, spire := u.spire, twin := u.twin, out := u.out })
    (hturrets : u.clock.turrets = t.clock.turrets) (hstepped : u.clock.stepped = t.clock.stepped) : AfterStep s u := by
  obtain ⟨⟨hparts, hregs⟩, hturrets', hstepped'⟩ := h
  refine ⟨⟨fun p hp => ?_, fun r hr hrr => ?_⟩, hturrets.trans hturrets', hstepped.trans hstepped'⟩
  · have hthis := hparts p hp
    rw [hu]
    cases p with
    | belfry | clock | drum | log | epochs | lantern | net | ocu | scan | spire | twin => exact absurd (by decide) hp
    | _ => exact hthis
  · rw [← hregs r hr hrr, hu]; rfl

theorem modBelfry (h : AfterStep s t) (f : Belfry → Belfry) : AfterStep s (t.modBelfry f) := h.change rfl rfl rfl
theorem modEngine (h : AfterStep s t) (k : Nat) (f : Engine → Engine) : AfterStep s (t.modEngine k f) := h.change rfl rfl rfl
theorem modScan (h : AfterStep s t) (f : Scan → Scan) : AfterStep s (t.modScan f) := h.change rfl rfl rfl
theorem modLink (h : AfterStep s t) (k : Nat) (f : SpireLink → SpireLink) : AfterStep s (t.modLink k f) := h.change rfl rfl rfl
theorem modEpoch (h : AfterStep s t) (e : Nat) (f : Epoch → Epoch) : AfterStep s (t.modEpoch e f) := h.change rfl rfl rfl
theorem modOcu (h : AfterStep s t) (f : Ocu → Ocu) : AfterStep s (t.modOcu f) := h.change rfl rfl rfl
theorem modLantern (h : AfterStep s t) (f : Lantern → Lantern) : AfterStep s (t.modLantern f) := h.change rfl rfl rfl
theorem modTwin (h : AfterStep s t) (w : Twin) : AfterStep s { t with twin := w } := h.change rfl rfl rfl
theorem modCmp (h : AfterStep s t) (n : Nat) (f : Comparator → Comparator) : AfterStep s (t.modCmp n f) := h.change rfl rfl rfl
theorem modCaptures (h : AfterStep s t) (f : List CapChannel → List CapChannel) :
    AfterStep s (t.modClock fun c => { c with captures := f c.captures }) := h.change rfl rfl rfl
theorem emit (h : AfterStep s t) (x : Output) : AfterStep s (t.emit x) := h.change rfl rfl rfl
theorem sendBlock (h : AfterStep s t) (k type : Nat) (fields : List Nat) : AfterStep s (t.sendBlock k type fields) := h.emit _

theorem setReg (h : AfterStep s t) (r : Reg) (v : Nat) (hr : stepRegs r = true) : AfterStep s (t.setReg r v) := by
  have hsub : r.sub < 1024 := by simp only [stepRegs, Bool.and_eq_true, decide_eq_true_eq] at hr; exact hr.1
  exact ⟨h.changes.setReg r v hsub hr, by simpa using h.turrets, by simpa using h.stepped⟩

theorem setBit (h : AfterStep s t) (r : Reg) (n : Nat) (b : Bool) (hr : stepRegs r = true) : AfterStep s (t.setBit r n b) := h.setReg r _ hr

theorem bump (h : AfterStep s t) (r : Reg) (n : Nat) (hr : stepRegs r = true) : AfterStep s (t.bump r n) := h.setReg r _ hr

theorem post (h : AfterStep s t) (c p a : Nat) (hp : p ≠ 7) : AfterStep s (t.post c p a) :=
  ⟨h.changes.post c p a hp (by decide), by simpa using h.turrets, by simpa using h.stepped⟩

theorem count (h : AfterStep s t) (r : Reg) (n : Nat) (hr : stepRegs r = true) : AfterStep s (t.count r n) := by
  have hsub : r.sub < 1024 := by simp only [stepRegs, Bool.and_eq_true, decide_eq_true_eq] at hr; exact hr.1
  exact ⟨h.changes.count r n hsub hr (by decide), by simpa using h.turrets, by simpa using h.stepped⟩

theorem ite {c : Prop} [Decidable c] {a b : State} (ha : AfterStep s a) (hb : AfterStep s b) : AfterStep s (if c then a else b) := by
  split <;> assumption

/-- One operation after another over a list. -/
theorem foldl {α : Type} {l : List α} {f : State → α → State} (h : AfterStep s t)
    (hf : ∀ u, AfterStep s u → ∀ x ∈ l, AfterStep s (f u x)) :
    AfterStep s (l.foldl f t) := List.foldlRecOn l f h hf

/-! Belfry -/

theorem traceStore (h : AfterStep s t) (r : TraceRecord) : AfterStep s (t.traceStore r) := by
  unfold State.traceStore
  extract_lets seq s1 s2 mark behind s2'
  have hcounted : AfterStep s s2 :=
    ((h.modBelfry _).setReg .BEL_TRACE_WRITE_SEQ (seq + 1) (by decide)).count .BELCNT_TRACE_RECORDS 1 (by decide)
  have hflagged : AfterStep s s2' := (hcounted.setBit .BEL_TRACE_FLAGS 1 true (by decide)).ite hcounted
  exact (((hflagged.setBit .BEL_TRACE_FLAGS 2 false (by decide)).setBit .BEL_TRACE_FLAGS 0 true (by decide)).post 0x5007 2 mark
    (by decide)).ite hflagged

theorem trace (h : AfterStep s t) (r : TraceRecord) : AfterStep s (t.trace r) := by
  unfold State.trace
  exact h.ite (((h.modBelfry _).count .BELCNT_TRACE_LOST 1 (by decide)).ite (h.traceStore _))

theorem freeOp (h : AfterStep s t) (o : BelOp) : AfterStep s (t.freeOp o) := by
  simp only [State.freeOp]
  split
  · exact h.modBelfry _
  · exact (h.modBelfry _).modEngine _ _
  · exact h.modBelfry _

theorem sweep (h : AfterStep s t) (e reason : Nat) : AfterStep s (t.sweep e reason) := by
  unfold State.sweep
  refine (h.foldl fun u hu o _ => ?_).modBelfry _
  split
  · exact ((hu.freeOp o).modEngine _ _).trace _
  · exact hu.freeOp o

theorem showQueues (h : AfterStep s t) : AfterStep s t.showQueues := by
  unfold State.showQueues
  refine (h.setReg .BEL_SLOTS_FREE _ (by decide)).foldl fun u hu p hp => ?_
  have hp8 : p < 8 := List.mem_range.1 hp
  have hdepth := hu.setReg (.BEL_Q_DEPTH (p + 1)) (u.belfry.ready p).length (stepRegs_block (by simp [Reg.BEL_Q_DEPTH]; omega)
    (by simp [Reg.BEL_Q_DEPTH]))
  exact ite (hdepth.setReg (.BEL_Q_DEPTH_MAX (p + 1)) _ (stepRegs_block (by simp [Reg.BEL_Q_DEPTH_MAX]; omega)
    (by simp [Reg.BEL_Q_DEPTH_MAX]))) hdepth

/-! Links and epochs -/

theorem revokeLink (h : AfterStep s t) (e : Nat) {k : Nat} (hk : k < 64) : AfterStep s (t.revokeLink e k) := by
  have haborted : stepRegs (.SPLCNT_FRAMES_ABORTED k) = true :=
    stepRegs_block (by simp [Reg.SPLCNT_FRAMES_ABORTED]) (by simp [Reg.SPLCNT_FRAMES_ABORTED]; omega)
  have hrevokes : stepRegs (.SPLCNT_REVOKES k) = true :=
    stepRegs_block (by simp [Reg.SPLCNT_REVOKES]) (by simp [Reg.SPLCNT_REVOKES]; omega)
  unfold State.revokeLink
  extract_lets l
  split
  · exact h
  next g busy s1 s2 _ le _ =>
    have hsent : AfterStep s s1 := ((h.sendBlock k 0x22 []).count _ 1 haborted).ite h
    have hcleared : AfterStep s s2 := hsent.modLink k _
    exact (((hcleared.sendBlock k 0x31 _).count _ 1 hrevokes).modLink k _).ite hcleared

theorem revoke (h : AfterStep s t) (e : Nat) : AfterStep s (t.revoke e) :=
  h.foldl fun _ hu _ hk => hu.revokeLink e (List.mem_range.1 hk)

theorem squash (h : AfterStep s t) (e : Nat) (replace : Bool) : AfterStep s (t.squash e replace) := by
  unfold State.squash
  split
  · exact h
  · split
    · extract_lets n s1 s2 s3 s4
      have hswept : AfterStep s s1 := (h.modBelfry _).sweep e 1
      have htraced : AfterStep s s2 :=
        ((hswept.count .BELCNT_OPS_SQUASHED n (by decide)).count .BELCNT_SQUASHES 1 (by decide)).trace _
      have hrevoked : AfterStep s s4 := ((htraced.modEpoch e _).revoke e).showQueues
      exact hrevoked.modTwin _
    · exact h.modEpoch e _
    · split
      · exact h
      · exact h.modEpoch e _
    · exact h

theorem withhold (h : AfterStep s t) (e : Nat) (late : List Nat) : AfterStep s (t.withhold e late) := by
  unfold State.withhold
  extract_lets s1 s2 s3
  have hleft : AfterStep s s2 := (((h.revoke e).modEpoch e _).count .SCNCNT_WITHHELD 1 (by decide)).modBelfry _
  have hposted : AfterStep s s3 := (hleft.post 0x8010 4 _ (by decide)).ite hleft
  exact hposted.modScan _

/-! Oculus -/

theorem showOculus (h : AfterStep s t) : AfterStep s t.showOculus := by
  unfold State.showOculus
  refine (h.setReg .OCU_STATE _ (by decide)).foldl fun u hu k hk => hu.setReg _ _ ?_
  have := List.mem_range.1 hk
  exact stepRegs_block (by simp [Reg.OCU_SUSPENDED]) (by simp [Reg.OCU_SUSPENDED]; omega)

theorem suspendAll (h : AfterStep s t) (cause : Nat) (start : Option Nat) : AfterStep s (t.suspendAll cause start) := by
  unfold State.suspendAll
  extract_lets s1 s2
  have hruns : AfterStep s s1 := by
    refine h.foldl fun u hu k hk => hu.setReg _ _ ?_
    have := List.mem_range.1 hk
    exact stepRegs_block (by simp [Reg.OCU_FREEZE_RUN]) (by simp [Reg.OCU_FREEZE_RUN]; omega)
  have hshown : AfterStep s s2 := (hruns.modOcu _).showOculus
  exact hshown.ite ((hshown.count .OCUCNT_SUSPENSIONS 1 (by decide)).post 0xA004 2 cause (by decide))

/-! Comparators and captures -/

theorem showNext (h : AfterStep s t) {n : Nat} (hn : n < 16) : AfterStep s (t.showNext n) :=
  h.setReg _ _ (stepRegs_comparator hn (by decide))

theorem moveTo (h : AfterStep s t) {n : Nat} (hn : n < 16) (k : Nat) : AfterStep s (t.moveTo n k) := (h.modCmp n _).showNext hn

theorem skipTo (h : AfterStep s t) {n : Nat} (hn : n < 16) (time : Nat) : AfterStep s (t.skipTo n time) := by
  unfold State.skipTo
  extract_lets c k last skipped s1
  have hmoved : AfterStep s s1 := (h.moveTo hn k).bump (.CMP_SKIPPED n) skipped (stepRegs_comparator hn (by decide))
  exact (hmoved.ite (hmoved.post 0x3021 3 _ (by decide))).ite h

theorem captureOn (h : AfterStep s t) {ch : Nat} (hch : ch < 8) (stamp : Nat) (falling : Bool) : AfterStep s (t.captureOn ch stamp falling) := by
  unfold State.captureOn
  extract_lets c rec' s1
  have hstored : AfterStep s s1 := (h.modCaptures _).bump (.CAP_COUNT ch) 1 (stepRegs_capture hch (by decide))
  exact ((h.bump (.CAP_LOST ch) 1 (stepRegs_capture hch (by decide))).post 0x3031 3 ch (by decide)).ite
    ((hstored.post 0x3030 1 _ (by decide)).ite hstored)

theorem capture (h : AfterStep s t) (source stamp : Nat) : AfterStep s (t.capture source stamp) :=
  h.foldl fun _ hu _ hch => (hu.captureOn (List.mem_range.1 hch) stamp false).ite hu

theorem cmpAction (h : AfterStep s t) (n : Nat) : AfterStep s (t.cmpAction n) := by
  unfold State.cmpAction
  exact ((h.modCmp n _).emit _).ite ((h.post 0x3022 1 _ (by decide)).ite ((h.capture _ _).ite h))

theorem cmpFire (h : AfterStep s t) {n : Nat} (hn : n < 16) (late : Bool) : AfterStep s (t.cmpFire n late) := by
  unfold State.cmpFire
  extract_lets k s1 s2
  have hfired : AfterStep s s1 := h.bump (.CMP_FIRED n) 1 (stepRegs_comparator hn (by decide))
  have hlate : AfterStep s s2 := ((hfired.bump (.CMP_LATE n) 1 (stepRegs_comparator hn (by decide))).post 0x3020 3 n (by decide)).ite hfired
  exact (hlate.cmpAction n).moveTo hn _

theorem cmpStep (h : AfterStep s t) {n : Nat} (hn : n < 16) (old : Nat) : AfterStep s (t.cmpStep n old) := by
  unfold State.cmpStep
  exact h.ite ((((h.cmpFire hn true).skipTo hn _).ite h).ite ((h.moveTo hn _).ite (h.skipTo hn _)))

theorem countSkips (h : AfterStep s t) {n : Nat} (hn : n < 16) (old : Nat) : AfterStep s (t.countSkips old n) := by
  unfold State.countSkips
  exact h.ite ((h.bump (.CMP_SKIPPED n) _ (stepRegs_comparator hn (by decide))).post 0x3021 3 _ (by decide))

/-! Scan-out -/

theorem cameraRelease (h : AfterStep s t) : AfterStep s t.cameraRelease := by
  refine h.foldl fun u hu i hi => ?_
  have hi11 := List.mem_range.1 hi
  exact ((hu.modCmp (5 + i) _).showNext (by omega)).ite hu

/-- A timing mode that takes effect anew, with none applied (R267). -/
theorem modeEffect (h : AfterStep s t) (step : Bool) (ref : State → Nat) : AfterStep s (t.modeEffect false step ref) := by
  unfold State.modeEffect
  extract_lets old s1 s2 s3 s4 s5
  have hsquashed : AfterStep s s1 := h.foldl fun _ hu e _ => hu.squash e.epoch false
  have hgrid : AfterStep s s5 := (hsquashed.cameraRelease.modScan _).modScan _
  exact (hgrid.count .SCNCNT_MODE_CHANGES 1 (by decide)).suspendAll _ _

theorem passedEpochs (h : AfterStep s t) : AfterStep s t.passedEpochs :=
  h.foldl fun _ hu e _ => (hu.withhold e.epoch []).modScan _

/-! The other blocks -/

theorem gclStep (h : AfterStep s t) (port : Nat) : AfterStep s (t.gclStep port) := h.change rfl rfl rfl

theorem lampStep (h : AfterStep s t) (old : Nat) : AfterStep s (t.lampStep old) := by
  unfold State.lampStep
  split
  · exact h
  · exact (((h.modLantern _).modLantern _).modBelfry _).post 0x9012 3 _ (by decide)

theorem startMilestone (h : AfterStep s t) : AfterStep s (t.milestone 8) := by
  unfold State.milestone
  exact (h.setReg _ _ (by decide)).ite h

end AfterStep

/-! The step itself (R100, R102) -/

/-- The blocks whose elements a step of venue time may move. -/
def steppedBlocks : List Nat := [3, 5, 8, 0xA, 0xF]

/-- What a step of venue time makes of a state: one time on all turrets, the step counted, a re-acquire scheduled left as it is. -/
structure Stepped (s t : State) : Prop where
  changes : OnlyChanges stepParts (blocks steppedBlocks) s t
  oneTime : ∀ u ∈ t.clock.turrets, ∀ v ∈ t.clock.turrets, u.time = v.time
  stepped : t.clock.stepped = true
  steps : t.reg .TCK_STEPS = (s.reg .TCK_STEPS + 1) % 2 ^ 32
  reacquireAt : t.reg .TCK_REACQUIRE_AT = s.reg .TCK_REACQUIRE_AT

theorem steppedBlocks_of_stepRegs (r : Reg) (h : stepRegs r = true) : blocks steppedBlocks r = true := by
  simp only [stepRegs, blocks, Bool.and_eq_true, Bool.or_eq_true, decide_eq_true_eq, List.contains_iff_mem] at h ⊢
  obtain ⟨-, hblock | ⟨hlo, hhi⟩⟩ := h
  · exact List.mem_cons_of_mem _ hblock
  · have : r.index / 4096 = 3 := by omega
    simp [this, steppedBlocks]

theorem steppedBlocks_of_drumRegs (r : Reg) (h : drumRegs r = true) : blocks steppedBlocks r = true := by
  have hblock : ∀ i ∈ [0xA202, 0xA203, 0xA205, 0xA207, 0xA208, 0xA20A], steppedBlocks.contains (i / 4096) = true := by decide
  exact hblock _ (List.contains_iff_mem.1 h)

/-- What the blocks do after a step leaves it made. -/
theorem Stepped.afterStep {s t u : State} (h : Stepped s t) (hu : AfterStep t u) : Stepped s u where
  changes := h.changes.trans (hu.changes.mono (List.Subset.refl _) steppedBlocks_of_stepRegs)
  oneTime := by rw [hu.turrets]; exact h.oneTime
  stepped := hu.stepped.trans h.stepped
  steps := (hu.changes.2 .TCK_STEPS (by decide) (by decide)).trans h.steps
  reacquireAt := (hu.changes.2 .TCK_REACQUIRE_AT (by decide) (by decide)).trans h.reacquireAt

theorem State.stepBy_stepped (s : State) (step : Int) (again : Bool) : Stepped s (s.stepBy step again) := by
  unfold State.stepBy
  extract_lets old time ns move s1 s2 s3 s4 s5 s6 s7
  have hcounted : Stepped s s2 := {
    changes := ((((onlyChanges_refl s).modClock _ (by decide)).bump .TCK_STEPS 1 (by decide) (by decide)).setBit .TCK_FLAGS 0 _ (by decide)
      (by decide)).post 0x3002 3 _ (by decide) (by decide)
    oneTime := by simp [s2, s1, State.bump, State.setBit]
    stepped := by simp [s2, s1, State.bump, State.setBit]
    steps := by
      simp (disch := decide) only [s2, s1, State.setBit, State.bump, State.reg_post_low, State.reg_setReg_key, State.reg_setReg_same,
        State.modClock_reg]
      rfl
    reacquireAt := by
      simp (disch := decide) only [s2, s1, State.setBit, State.bump, State.reg_post_low, State.reg_setReg_key, State.modClock_reg] }
  have hskips : AfterStep s2 s3 := (AfterStep.refl s2).foldl fun u hu n hn =>
    hu.countSkips ((by decide : ∀ n ∈ [1, 2, 3, 4], n < 16) n hn) old
  have hcomparators : AfterStep s2 s4 := hskips.foldl fun u hu i hi => by
    have hi11 := List.mem_range.1 hi
    exact hu.cmpStep (by omega) old
  have hgates : AfterStep s2 s5 := (hcomparators.gclStep 0).gclStep 1
  have hgrid : AfterStep s2 s6 := (hgates.passedEpochs.modeEffect true State.newGridRef).ite hgates
  have hscan : AfterStep s2 s7 := (hgrid.setReg .SCN_STATE 2 (by decide)).ite hgrid
  exact hcounted.afterStep ((hscan.startMilestone.ite hscan).lampStep old)

theorem State.setServo_stepped (s : State) (st : Nat) :
    (s.setServo st).clock.turrets = s.clock.turrets ∧ (s.setServo st).clock.stepped = s.clock.stepped := by
  simp only [State.setServo]
  split
  · exact ⟨rfl, rfl⟩
  · split <;> simp

/-- The servo's state set after a step leaves the step made. -/
theorem Stepped.setServo {s t : State} (h : Stepped s t) (st : Nat) : Stepped s (t.setServo st) := by
  have hservo : OnlyChanges stepParts (among [.TCK_STATE, .TCK_FLAGS, .TCK_HOLDOVER_S]) t (t.setServo st) :=
    (onlyChanges_refl t).setServo st (by decide) (by decide) (by decide) fun _ => ⟨by decide, by decide⟩
  obtain ⟨hturrets, hstepped⟩ := t.setServo_stepped st
  exact {
    changes := h.changes.setServo st (by decide) (by decide) (by decide) fun _ => ⟨by decide, by decide⟩
    oneTime := by rw [hturrets]; exact h.oneTime
    stepped := hstepped.trans h.stepped
    steps := (hservo.2 .TCK_STEPS (by decide) (by decide)).trans h.steps
    reacquireAt := (hservo.2 .TCK_REACQUIRE_AT (by decide) (by decide)).trans h.reacquireAt }

/-- The rate of the first step, and the instant of its last sample, in force (R93). -/
def State.takeRate (s : State) (a : Rat) (last : ClockSample) : State :=
  (s.modClock fun c => { c with freq := a, applied := [a], lastAccepted := some last.at_ }).setF a

/-- A re-acquire begun: nothing scheduled any more, JUMP_REFUSED clear (R98). -/
def State.beginReacquire (s : State) : State :=
  ((s.setReg .TCK_REACQUIRE_AT 0).setBit .TCK_FLAGS 1 false).modClock fun c => { c with refusedRun := 0 }

end Sys2Proof.Machine

namespace Sys2Proof.Proofs

open Machine

/-! FIRST_STEP and REACQUIRE_STEP (R93, R98, R100, R102) -/

theorem exec_firstStep (dt : Nat) (s : State) : exec (.firstStep dt) s = execFirstStep dt s := rfl
theorem exec_reacquireStep (dt : Nat) (s : State) : exec (.reacquireStep dt) s = execReacquireStep dt s := rfl

/-- A command that prepares the servo, steps venue time and goes to LOCKING leaves the step made and the servo in LOCKING. -/
theorem completes_of_step {c : Instr} {dt : Nat} {s pre : State} {f : State → State} {again : Bool}
    {claim : State → State → Prop} (hdt : c.dt = dt) (hexec : exec c s = run s dt f)
    (heffect : ∃ step, f (begun s dt) = (pre.stepBy step again).setServo stLocking)
    (hpre : OnlyChanges stepParts (blocks steppedBlocks) (s.elapse dt) pre) (hsteps : pre.reg .TCK_STEPS = s.reg .TCK_STEPS)
    (hclaim : ∀ t : State, t.reg .TCK_STATE = 2 → t.clock.stepped = true → t.reg .TCK_STEPS = (s.reg .TCK_STEPS + 1) % 2 ^ 32 →
      t.reg .TCK_REACQUIRE_AT = pre.reg .TCK_REACQUIRE_AT → (∀ u ∈ t.clock.turrets, ∀ v ∈ t.clock.turrets, u.time = v.time) →
      OnlyChanges stepParts (blocks steppedBlocks) (s.elapse dt) t → claim (s.elapse dt) t) : Completes c s claim := by
  obtain ⟨step, heffect⟩ := heffect
  have hmade : Stepped pre ((pre.stepBy step again).setServo stLocking) := (pre.stepBy_stepped step again).setServo stLocking
  refine completes_of_effect hdt hexec heffect (hclaim _ ?_ ?_ ?_ ?_ ?_ ?_)
  · rw [ended_reg _ _ _ _ (by decide) (by decide), State.setServo_state _ (by decide)]; rfl
  · rw [ended_clock]; exact hmade.stepped
  · rw [ended_reg _ _ _ _ (by decide) (by decide), hmade.steps, hsteps]
  · rw [ended_reg _ _ _ _ (by decide) (by decide), hmade.reacquireAt]
  · rw [ended_clock]; exact hmade.oneTime
  · refine ((hpre.trans hmade.changes).ended (by decide) (by decide)).mono (List.Subset.refl _) fun r hr => ?_
    exact (Bool.or_eq_true_iff.1 hr).elim (steppedBlocks_of_drumRegs r) id

theorem firstStep_steps (dt : Nat) (s : State) (hacquire : s.reg .TCK_STATE = 1) (hsamples : 16 ≤ s.clock.acquire.length) :
    Completes (.firstStep dt) s fun s0 t => t.reg .TCK_STATE = 2 ∧ t.clock.stepped = true ∧
      t.reg .TCK_STEPS = (s.reg .TCK_STEPS + 1) % 2 ^ 32 ∧ (∀ u ∈ t.clock.turrets, ∀ v ∈ t.clock.turrets, u.time = v.time) ∧
      OnlyChanges [.belfry, .clock, .drum, .log, .epochs, .lantern, .net, .ocu, .scan, .spire, .twin] (blocks [3, 5, 8, 0xA, 0xF]) s0 t := by
  obtain ⟨last, hlast⟩ : ∃ last, s.clock.acquire.getLast? = some last :=
    ⟨_, List.getLast?_eq_some_getLast fun hnil => by simp [hnil] at hsamples⟩
  have hready : ¬(s.reg .TCK_STATE ≠ stAcquire ∨ s.clock.acquire.length < 16) := by
    rw [hacquire]; simp [stAcquire, hsamples]
  refine completes_of_step (dt := dt) (pre := (begun s dt).takeRate
    (max (-200000) (min 200000 (-lsqSlope s.clock.acquire * 1000000000))) last) (again := false) rfl (exec_firstStep ..) ?_ ?_ ?_
    fun t hstate hstepped hsteps _ htime hchanges => ⟨hstate, hstepped, hsteps, htime, hchanges⟩
  · simp only [begun_clock, State.elapse_acquire, hlast, begun_reg, hready, if_false]
    exact ⟨_, rfl⟩
  · exact ((onlyChanges_begun s dt).modClock _ (by decide)).setF _ (by decide) (by decide)
  · simp (disch := decide) only [State.takeRate, State.setF, State.reg_setReg_key, State.modClock_reg, begun_reg]

theorem reacquireStep_steps (dt : Nat) (s : State) (hscheduled : s.reg .TCK_REACQUIRE_AT ≠ 0)
    (hdue : s.reg .TCK_REACQUIRE_AT ≤ (s.elapse dt).now) (hsamples : (s.elapse dt).recentSamples ≠ []) :
    Completes (.reacquireStep dt) s fun s0 t => t.reg .TCK_REACQUIRE_AT = 0 ∧ t.reg .TCK_STATE = 2 ∧
      t.reg .TCK_STEPS = (s.reg .TCK_STEPS + 1) % 2 ^ 32 ∧ (∀ u ∈ t.clock.turrets, ∀ v ∈ t.clock.turrets, u.time = v.time) ∧
      OnlyChanges [.belfry, .clock, .drum, .log, .epochs, .lantern, .net, .ocu, .scan, .spire, .twin] (blocks [3, 5, 8, 0xA, 0xF]) s0 t := by
  have hready : ¬(s.reg .TCK_REACQUIRE_AT = 0 ∨ (s.elapse dt).now < s.reg .TCK_REACQUIRE_AT) := by simp [hscheduled, hdue]
  have hcleared : ((begun s dt).beginReacquire).reg .TCK_REACQUIRE_AT = 0 := by
    simp (disch := decide) only [State.beginReacquire, State.setBit, State.reg_setReg_key, State.reg_setReg_same, State.modClock_reg, Nat.zero_mod]
  refine completes_of_step (dt := dt) (pre := (begun s dt).beginReacquire) (again := true) rfl (exec_reacquireStep ..) ?_ ?_ ?_
    fun t hstate _ hsteps hreacquire htime hchanges => ⟨hreacquire.trans hcleared, hstate, hsteps, htime, hchanges⟩
  · obtain ⟨x, xs, hxs⟩ := List.exists_cons_of_ne_nil hsamples
    have hxs' : (begun s dt).recentSamples = x :: xs := hxs
    simp only [begun_reg, begun_now, hready, if_false, hxs']
    exact ⟨_, rfl⟩
  · exact (((onlyChanges_begun s dt).setReg _ _ (by decide) (by decide)).setBit .TCK_FLAGS 1 _ (by decide) (by decide)).modClock _ (by decide)
  · simp (disch := decide) only [State.beginReacquire, State.setBit, State.reg_setReg_key, State.modClock_reg, begun_reg]

/-- Settles O10. Both commands prepare the servo and then step venue time: what the step and the blocks it reaches may move is said once
(`State.stepBy_stepped`), operation by operation in `AfterStep`. -/
theorem timeIsStepped : Obligations.TimeIsStepped := ⟨firstStep_steps, reacquireStep_steps⟩

end Sys2Proof.Proofs

namespace Sys2Proof.Proofs

open Machine

/-! ST2110_PACKET meets fences for whatever frame it finds under the identity it gives (R144, R197) -/

/-- An incomplete fenced frame that stands under the next identity, in layer 11,776. -/
def strayFrame : IngestFrame := {
  id := 0, layer := 0x2E00, entry := 6, stream := 77, time := 20000000, srcEpoch := 0, total := 2, format := 0, region := ⟨0, 0, 1, 1⟩
  fenceId := 3, replace := false, fenced := true, released := false, late := none, replaces := none, buffer := none, cells := 0
  stage := .assembling, shown := false, parts := [], lines := [], pixels := [] }

/-- Venue time valid and layer 0 fed by stream entry 5; the stray frame is the only frame, and an abandon of its fence waits. -/
def strayFrameState : State :=
  ((((State.reset.setReg .TCK_FLAGS 1).setReg (.ING_LAYER_ENABLE 0) 1).setReg (.ING_SRC_ENTRY 0) 5).modIngest fun g => { g with
    frames := [strayFrame] }).modCupola fun c => { c with fences := [⟨0, 77, true, 3, 0⟩] }

/-- The first packet of a video stream on entry 5: one row of four pixels. -/
def firstVideoPacket : VideoPacket := ⟨5, 100, 0, [⟨0, 0, false, List.replicate 15 3⟩]⟩

/-- The counter of incomplete frames of "layer 11,776" is no element of ingest but ZONE_FLAGS of calibration zone 0. -/
theorem incomplete_of_strayFrame : Reg.INGCNT_INCOMPLETE strayFrame.layer = .ZONE_FLAGS 0 := rfl

theorem st2110Packet_counts_strayFrame :
    regAfter (.st2110Packet 0 firstVideoPacket) strayFrameState (.INGCNT_INCOMPLETE strayFrame.layer) = some 1 := by decide +kernel

/-- Refutes O14, by the frame of its second clause, which names no element of block 7. The clause lacks the premise of the first that every
frame held has an identity below the next one, and bounds no frame's layer. In `strayFrameState` a fenced frame of layer 11,776 already has the
next identity: the packet's own frame is accepted under it, ingest looks for the fence of the frame it finds there first (R197) and meets the
abandon that waits for it, and the stray frame, abandoned incomplete, is counted in the record INGCNT of its layer (R200). That record lies in
block 7, and ZONE_FLAGS of zone 0 moves from 0 to 1. -/
theorem not_packetsBecomeFrames : ¬ Obligations.PacketsBecomeFrames := by
  unfold Obligations.PacketsBecomeFrames
  rintro ⟨-, hvideo⟩
  obtain ⟨t, hnext, -, -, -, hregs⟩ := hvideo 0 0 firstVideoPacket strayFrameState (by decide +kernel) rfl (by decide +kernel) rfl rfl
    (by decide +kernel) (by decide +kernel)
  have hkept : t.reg (.ZONE_FLAGS 0) = (strayFrameState.elapse 0).reg (.ZONE_FLAGS 0) := hregs _ (by decide) (by decide)
  have hbefore : strayFrameState.reg (.ZONE_FLAGS 0) = 0 := by decide +kernel
  have hafter := st2110Packet_counts_strayFrame
  rw [incomplete_of_strayFrame, regAfter_of_next _ hnext, hkept, State.elapse_reg, hbefore] at hafter
  exact absurd hafter (by decide)

end Sys2Proof.Proofs

namespace Sys2Proof.Proofs

open Machine

/-! OPERATION_COMPLETE of a SCRUB writes a selector page back (R229, R236) -/

/-- The SCRUB of page 2 of module 1 on link 0, which engine 0 runs. -/
def selectorScrub : BelOp :=
  { slot := 0, code := 9, epoch := 1, brick := 2, aux := 0, engine := none, unmet := 0, deadline := 0, clocks := 1, stage := .running 0 0 }

/-- That module's image of three pages in both copies. -/
def scrubbedModule : CalModule :=
  ⟨0, 1, List.replicate 3 (List.replicate 4096 0), List.replicate 3 (List.replicate 4096 0), [], 0, true⟩

/-- The SCRUB running, the page one whose last write failed on the far side, and a claim with which the unit writes to modules. -/
def selectorScrubState : State :=
  ((State.reset.setReg .TWN_CLAIM 200).modCal fun c => { c with modules := [scrubbedModule], failed := [(0, 1, 2)] }).modBelfry fun b =>
    { b with slots := [selectorScrub] }

/-- The transactions that wait on a link after a command, where the command answers a next state. -/
def txnsAfter (c : Instr) (s : State) (k : Nat) : Option Nat :=
  match exec c s with
  | .next t => some (t.link k).txns.length
  | _ => none

theorem txnsAfter_of_next {c : Instr} {s t : State} (k : Nat) (h : exec c s = .next t) : txnsAfter c s k = some (t.link k).txns.length := by
  simp [txnsAfter, h]

/-- The SCRUB lands, and its page waits on the link to be written to the module. -/
theorem operationComplete_writes_selectorPage : txnsAfter (.operationComplete 0 0 {}) selectorScrubState 0 = some 1 := by decide +kernel

/-- Refutes O17, by the frame of its second clause, which does not name the links. A SCRUB that ends on a selector page whose write failed on the
far side writes the page back (R229, R236): one more posted write waits on the module's link. In `selectorScrubState` engine 0 runs such a SCRUB
with nothing in flight, and link 0 goes from no transaction to one. The clause would have to admit the part of the links, or exclude a SCRUB. -/
theorem not_enginesTakeAndFinishOperations : ¬ Obligations.EnginesTakeAndFinishOperations := by
  unfold Obligations.EnginesTakeAndFinishOperations
  rintro ⟨-, hcomplete, -⟩
  obtain ⟨t, hnext, -, -, hparts, -⟩ := hcomplete 0 0 {} selectorScrub selectorScrubState (by decide +kernel) (by decide +kernel)
  have hkept : t.spire = selectorScrubState.spire := hparts .spire (by decide)
  have hafter := operationComplete_writes_selectorPage
  rw [txnsAfter_of_next _ hnext, State.link, hkept] at hafter
  exact absurd hafter (by decide +kernel)

/-! BEL_TRACE_READ after a change of BEL_TRACE_SIZE (R180, R183) -/

/-- The trace after its first record and a change of BEL_TRACE_SIZE, which empties the ring and leaves the sequence count (R183). -/
def resizedTrace : State := { (State.reset.traceStore (plainRecord 5 0 0 0 0 0)).traceSize 65536 with out := [] }

/-- The transfer starts at the write sequence 1, where the next record will stand, and returns none. -/
theorem belTraceRead_of_resizedTrace :
    sentBy (.belTraceRead 0 0xFFFF) resizedTrace = some [.data (leOctets 4 1 ++ leOctets 2 0 ++ leOctets 2 0)] := by decide +kernel

/-- Refutes O19, by its second clause. By R180 a sequence is valid as long as it lies less than the ring's capacity behind the write sequence,
whether or not its record is still there. In `resizedTrace` the read position 0 is valid so, but the change of size has emptied the ring: the
read starts at 1, not at BEL_TRACE_READ_POS as the clause says. What the clause lacks is the premise that the ring holds a record at the read
position. -/
theorem not_traceAndStatistics : ¬ Obligations.TraceAndStatistics := by
  unfold Obligations.TraceAndStatistics
  rintro ⟨-, hread, -⟩
  obtain ⟨t, hnext, hout, -⟩ := hread 0 0xFFFF resizedTrace (by decide +kernel) (by decide +kernel) (by decide +kernel) (by decide +kernel)
  have hsent := belTraceRead_of_resizedTrace
  rw [sentBy_of_next hnext, hout] at hsent
  exact absurd hsent (by decide +kernel)

end Sys2Proof.Proofs

namespace Sys2Proof.Machine

/-! What Belfry's own work may move: slots, queues, delay lists and the trace (R158, R163, R167, R177) -/

section OnlyChanges

variable {parts : List Part} {regs : Reg → Bool} {s t : State}

theorem OnlyChanges.modBelfry (h : OnlyChanges parts regs s t) (f : Belfry → Belfry) (hbelfry : .belfry ∈ parts) :
    OnlyChanges parts regs s (t.modBelfry f) := by
  obtain ⟨hparts, hregs⟩ := h
  refine ⟨fun p hp => ?_, hregs⟩
  have := hparts p hp
  cases p with
  | belfry => exact absurd hbelfry hp
  | _ => exact this

theorem OnlyChanges.modLantern (h : OnlyChanges parts regs s t) (f : Lantern → Lantern) (hlantern : .lantern ∈ parts) :
    OnlyChanges parts regs s (t.modLantern f) := by
  obtain ⟨hparts, hregs⟩ := h
  refine ⟨fun p hp => ?_, hregs⟩
  have := hparts p hp
  cases p with
  | lantern => exact absurd hlantern hp
  | _ => exact this

end OnlyChanges

@[simp] theorem begun_lantern (s : State) (dt : Nat) : (begun s dt).lantern = s.lantern := rfl
@[simp] theorem begun_out (s : State) (dt : Nat) : (begun s dt).out = [] := rfl
@[simp] theorem begun_delays (s : State) (dt : Nat) : (begun s dt).belfry.delays = s.belfry.delays := by
  simp only [begun, State.elapse]; split <;> rfl
@[simp] theorem begun_slots (s : State) (dt : Nat) : (begun s dt).belfry.slots = s.belfry.slots := by
  simp only [begun, State.elapse]; split <;> rfl
@[simp] theorem ended_lantern (s u : State) (dt : Nat) : (ended s dt u).lantern = u.lantern := u.settle_lantern
@[simp] theorem ended_belfry (s u : State) (dt : Nat) : (ended s dt u).belfry = u.belfry := u.settle_belfry

/-- Work of Belfry alone: it moves its own part and elements and posts events, sends nothing, and leaves the ticks a step has skipped. -/
structure BelfryStep (s t : State) : Prop where
  changes : OnlyChanges [.belfry, .drum] (blocks [5]) s t
  out : t.out = s.out
  skippedTicks : t.belfry.skippedTicks = s.belfry.skippedTicks

namespace BelfryStep

variable {s t u : State}

theorem refl (s : State) : BelfryStep s s := ⟨onlyChanges_refl s, rfl, rfl⟩

theorem lantern (h : BelfryStep s t) : t.lantern = s.lantern := h.changes.1 .lantern (by decide)

theorem modBelfry (h : BelfryStep s t) (f : Belfry → Belfry) (hf : (f t.belfry).skippedTicks = t.belfry.skippedTicks) :
    BelfryStep s (t.modBelfry f) := ⟨h.changes.modBelfry f (by decide), h.out, hf.trans h.skippedTicks⟩

theorem modEngine (h : BelfryStep s t) (k : Nat) (f : Engine → Engine) : BelfryStep s (t.modEngine k f) := h.modBelfry _ rfl

theorem modOp (h : BelfryStep s t) (slot : Nat) (f : BelOp → BelOp) : BelfryStep s (t.modOp slot f) := h.modBelfry _ rfl

theorem setReg (h : BelfryStep s t) (r : Reg) (v : Nat) (hsub : r.sub < 1024) (hblock : r.index / 4096 = 5) : BelfryStep s (t.setReg r v) :=
  ⟨h.changes.setReg r v hsub (by simp [blocks, hblock]), by simpa using h.out, by simpa using h.skippedTicks⟩

theorem setBit (h : BelfryStep s t) (r : Reg) (n : Nat) (b : Bool) (hsub : r.sub < 1024) (hblock : r.index / 4096 = 5) :
    BelfryStep s (t.setBit r n b) := h.setReg r _ hsub hblock

theorem count (h : BelfryStep s t) (r : Reg) (n : Nat) (hsub : r.sub < 1024) (hblock : r.index / 4096 = 5) : BelfryStep s (t.count r n) :=
  ⟨h.changes.count r n hsub (by simp [blocks, hblock]) (by decide), by simpa using h.out, by simpa using h.skippedTicks⟩

theorem post (h : BelfryStep s t) (c p a : Nat) (hp : p ≠ 7) : BelfryStep s (t.post c p a) :=
  ⟨h.changes.post c p a hp (by decide), by simpa using h.out, by simpa using h.skippedTicks⟩

theorem ite {c : Prop} [Decidable c] {a b : State} (ha : BelfryStep s a) (hb : BelfryStep s b) : BelfryStep s (if c then a else b) := by
  split <;> assumption

theorem foldl {α : Type} {l : List α} {f : State → α → State} (h : BelfryStep s t) (hf : ∀ u, BelfryStep s u → ∀ x ∈ l, BelfryStep s (f u x)) :
    BelfryStep s (l.foldl f t) := List.foldlRecOn l f h hf

theorem traceStore (h : BelfryStep s t) (r : TraceRecord) : BelfryStep s (t.traceStore r) := by
  unfold State.traceStore
  extract_lets seq s1 s2 mark behind s2'
  have hcounted : BelfryStep s s2 :=
    ((h.modBelfry _ rfl).setReg .BEL_TRACE_WRITE_SEQ (seq + 1) (by decide) rfl).count .BELCNT_TRACE_RECORDS 1 (by decide) rfl
  have hflagged : BelfryStep s s2' := (hcounted.setBit .BEL_TRACE_FLAGS 1 true (by decide) rfl).ite hcounted
  exact (((hflagged.setBit .BEL_TRACE_FLAGS 2 false (by decide) rfl).setBit .BEL_TRACE_FLAGS 0 true (by decide) rfl).post 0x5007 2 mark
    (by decide)).ite hflagged

theorem trace (h : BelfryStep s t) (r : TraceRecord) : BelfryStep s (t.trace r) := by
  unfold State.trace
  exact h.ite (((h.modBelfry _ rfl).count .BELCNT_TRACE_LOST 1 (by decide) rfl).ite (h.traceStore _))

theorem freeOp (h : BelfryStep s t) (o : BelOp) : BelfryStep s (t.freeOp o) := by
  simp only [State.freeOp]
  split
  · exact h.modBelfry _ rfl
  · exact (h.modBelfry _ rfl).modEngine _ _
  · exact h.modBelfry _ rfl

theorem makeReady (h : BelfryStep s t) (o : BelOp) : BelfryStep s (t.makeReady o) := ((h.modOp _ _).modBelfry _ rfl).trace _

/-- A CUE operation has no successor and ends no brick (R153). -/
theorem cancelOp (h : BelfryStep s t) {o : BelOp} (hcue : o.code = 7) (reason : Nat) : BelfryStep s (t.cancelOp o reason) := by
  have hfreed : ∀ x, BelfryStep s (((t.freeOp o).count .BELCNT_OPS_CANCELLED).trace x) := fun x =>
    ((h.freeOp o).count .BELCNT_OPS_CANCELLED 1 (by decide) rfl).trace x
  unfold State.cancelOp
  split
  · exact h
  · simp only [hcue, State.releaseSuccessors, Nat.lt_irrefl, if_false, (by decide : 6 ≤ 7), if_true]
    exact hfreed _

theorem putDelay (h : BelfryStep s t) (list id d : Nat) : BelfryStep s (t.putDelay list id d) := (h.modBelfry _ rfl).trace _

theorem showDelays (h : BelfryStep s t) : BelfryStep s t.showDelays := by
  refine h.foldl fun u hu k hk => hu.setReg _ _ ?_ (by simp [Reg.BEL_DELAY_DEPTH])
  have := List.mem_range.1 hk
  simp only [Reg.BEL_DELAY_DEPTH]; omega

theorem showQueues (h : BelfryStep s t) : BelfryStep s t.showQueues := by
  unfold State.showQueues
  refine (h.setReg .BEL_SLOTS_FREE _ (by decide) rfl).foldl fun u hu p hp => ?_
  have hp8 := List.mem_range.1 hp
  have hdepth : (Reg.BEL_Q_DEPTH (p + 1)).sub < 1024 := by simp only [Reg.BEL_Q_DEPTH]; omega
  have hmax : (Reg.BEL_Q_DEPTH_MAX (p + 1)).sub < 1024 := by simp only [Reg.BEL_Q_DEPTH_MAX]; omega
  have hshown := hu.setReg (.BEL_Q_DEPTH (p + 1)) (u.belfry.ready p).length hdepth (by simp [Reg.BEL_Q_DEPTH])
  exact (hshown.setReg _ _ hmax (by simp [Reg.BEL_Q_DEPTH_MAX])).ite hshown

end BelfryStep

/-! What the runs of cues may move (R323 to R325) -/

/-- Work of Belfry on the runs of cues: Lantern moves too, but for the tick it stands at. -/
structure CueStep (s t : State) : Prop where
  changes : OnlyChanges [.belfry, .lantern, .drum] (blocks [5]) s t
  out : t.out = s.out
  skippedTicks : t.belfry.skippedTicks = s.belfry.skippedTicks
  nextTick : t.lantern.nextTick = s.lantern.nextTick

namespace CueStep

variable {s t u : State}

theorem refl (s : State) : CueStep s s := ⟨onlyChanges_refl s, rfl, rfl, rfl⟩

theorem belfry (h : CueStep s t) (hu : BelfryStep t u) : CueStep s u where
  changes := h.changes.trans (hu.changes.mono (by decide) fun _ => id)
  out := hu.out.trans h.out
  skippedTicks := hu.skippedTicks.trans h.skippedTicks
  nextTick := by rw [hu.lantern, h.nextTick]

theorem modLantern (h : CueStep s t) (f : Lantern → Lantern) (hf : (f t.lantern).nextTick = t.lantern.nextTick) : CueStep s (t.modLantern f) :=
  ⟨h.changes.modLantern f (by decide), h.out, h.skippedTicks, hf.trans h.nextTick⟩

theorem foldl {α : Type} {l : List α} {f : State → α → State} (h : CueStep s t) (hf : ∀ u, CueStep s u → ∀ x ∈ l, CueStep s (f u x)) :
    CueStep s (l.foldl f t) := List.foldlRecOn l f h hf

theorem startCue (h : CueStep s t) (c first : Nat) : CueStep s (t.startCue c first) := h.modLantern _ rfl

theorem modCue (h : CueStep s t) (id : Nat) (f : RunningCue → RunningCue) : CueStep s (t.modCue id f) := h.modLantern _ rfl

theorem trace (h : CueStep s t) (r : TraceRecord) : CueStep s (t.trace r) := h.belfry ((BelfryStep.refl t).trace r)

theorem putDelay (h : CueStep s t) (list id d : Nat) : CueStep s (t.putDelay list id d) := h.belfry ((BelfryStep.refl t).putDelay list id d)

theorem issueCue (h : CueStep s t) (r : RunningCue) (p : Nat) : CueStep s (t.issueCue r p) :=
  h.belfry ((BelfryStep.refl t).foldl fun _ hu _ _ => (hu.modBelfry _ rfl).makeReady _)

theorem releaseCue (h : CueStep s t) (n id p : Nat) : CueStep s (State.releaseCue n t id p) := by
  induction n generalizing t id with
  | zero => exact h
  | succ n ih =>
    unfold State.releaseCue
    split
    · exact h
    next r _ =>
      extract_lets fade wave hold s1 next newId s2 list
      have hended : CueStep s s1 := h.modCue _ _
      have hissued : CueStep s s2 := h.issueCue r p
      split
      · exact h
      · split
        · split
          · exact hended
          · split
            · exact hended.belfry ((BelfryStep.refl _).post _ _ _ (by decide))
            · exact ih (hended.startCue _ _) _
        · split
          · exact hissued.putDelay _ _ _
          · split
            · exact hissued
            · exact hissued.putDelay _ _ _

end CueStep

/-- The elements of a block are among those of several. -/
theorem blocks_of_mem {d : Nat} {ds : List Nat} (hd : d ∈ ds) {r : Reg} (hr : blocks [d] r = true) : blocks ds r = true := by
  simp only [blocks, List.contains_iff_mem, List.mem_singleton] at hr ⊢
  rwa [hr]

/-! Captures move their own records only (R114, R115) -/

/-- The elements of the records of the eight capture channels. -/
def captureRegs (r : Reg) : Bool := decide (0x3200 ≤ r.index ∧ r.index < 0x3208)

theorem OnlyChanges.captureOn {parts : List Part} {regs : Reg → Bool} {s t : State} (h : OnlyChanges parts regs s t) {ch : Nat} (hch : ch < 8)
    (stamp : Nat) (falling : Bool) (hclock : .clock ∈ parts) (hdrum : .drum ∈ parts) (hregs : ∀ r, captureRegs r = true → regs r = true) :
    OnlyChanges parts regs s (t.captureOn ch stamp falling) := by
  have hrecord : ∀ k, regs ⟨0x3200 + ch, k⟩ = true := fun k => hregs _ (by simp [captureRegs]; omega)
  unfold State.captureOn
  extract_lets c record s1
  have hstored : OnlyChanges parts regs s s1 := (h.modClock _ hclock).bump (.CAP_COUNT ch) 1 (by decide : 7 < 1024) (hrecord 7)
  split
  · exact (h.bump (.CAP_LOST ch) 1 (by decide : 8 < 1024) (hrecord 8)).post _ _ _ (by decide) hdrum
  · split
    · exact hstored.post _ _ _ (by decide) hdrum
    · exact hstored

theorem OnlyChanges.capture {parts : List Part} {regs : Reg → Bool} {s t : State} (h : OnlyChanges parts regs s t) (source stamp : Nat)
    (hclock : .clock ∈ parts) (hdrum : .drum ∈ parts) (hregs : ∀ r, captureRegs r = true → regs r = true) :
    OnlyChanges parts regs s (t.capture source stamp) := by
  refine List.foldlRecOn _ _ h fun u hu ch hch => ?_
  split
  · exact hu.captureOn (List.mem_range.1 hch) stamp false hclock hdrum hregs
  · exact hu

@[simp] theorem State.captureOn_out (s : State) (ch stamp : Nat) (falling : Bool) : (s.captureOn ch stamp falling).out = s.out := by
  simp only [State.captureOn]
  split
  · simp
  · split <;> simp

@[simp] theorem State.capture_out (s : State) (source stamp : Nat) : (s.capture source stamp).out = s.out := by
  refine List.foldlRecOn (motive := fun u : State => u.out = s.out) _ _ rfl fun u hu ch _ => ?_
  split
  · exact (u.captureOn_out ..).trans hu
  · exact hu

/-- Comparator 4 fires: CMP_FIRED counts it, and captures that name it take it (R107, R114). -/
theorem State.ownFire_frame (s : State) : OnlyChanges [.clock, .drum] (blocks [3]) s (s.ownFire 4) ∧
    (s.ownFire 4).reg (.CMP_FIRED 4) = (s.reg (.CMP_FIRED 4) + 1) % 2 ^ 32 ∧ (s.ownFire 4).out = s.out := by
  have hcapture : OnlyChanges [.clock, .drum] captureRegs (s.bump (.CMP_FIRED 4)) (s.ownFire 4) :=
    (onlyChanges_refl _).capture _ _ (by decide) (by decide) fun _ => id
  have hcount : OnlyChanges [.clock, .drum] (blocks [3]) s (s.bump (.CMP_FIRED 4)) := (onlyChanges_refl s).bump _ 1 (by decide) (by decide)
  refine ⟨hcount.trans (hcapture.mono (List.Subset.refl _) fun r hr => ?_), ?_, by simp [State.ownFire]⟩
  · simp only [captureRegs, decide_eq_true_eq] at hr
    have : r.index / 4096 = 3 := by omega
    simp [blocks, this]
  · rw [hcapture.2 (.CMP_FIRED 4) (by decide) (by decide), State.bump, State.reg_setReg_same _ _ _ (by decide)]; rfl

/-! Slots while Belfry works (R158) -/

@[simp] theorem State.traceStore_slots (s : State) (r : TraceRecord) : (s.traceStore r).belfry.slots = s.belfry.slots := by
  unfold State.traceStore
  extract_lets seq s1 s2 mark behind s2'
  have hflagged : s2'.belfry.slots = s.belfry.slots := by
    unfold s2'
    split <;> simp [s2, s1]
  split
  · simpa using hflagged
  · exact hflagged

@[simp] theorem State.trace_slots (s : State) (r : TraceRecord) : (s.trace r).belfry.slots = s.belfry.slots := by
  unfold State.trace
  split
  · rfl
  · split <;> simp

@[simp] theorem State.modEngine_slots (s : State) (k : Nat) (f : Engine → Engine) : (s.modEngine k f).belfry.slots = s.belfry.slots := rfl

/-- An operation that leaves takes whatever stands in its slot (R158). -/
theorem State.freeOp_slots (s : State) (o : BelOp) : (s.freeOp o).belfry.slots = s.belfry.slots.filter fun q => q.slot != o.slot := by
  simp only [State.freeOp]
  split <;> simp

@[simp] theorem State.showQueues_slots (s : State) : s.showQueues.belfry.slots = s.belfry.slots := by
  unfold State.showQueues
  extract_lets s1
  refine List.foldlRecOn (motive := fun u : State => u.belfry.slots = s.belfry.slots) _ _ (by simp [s1]) fun u hu p _ => ?_
  extract_lets d s2
  have hshown : s2.belfry.slots = s.belfry.slots := by simpa [s2] using hu
  split
  · simpa using hshown
  · exact hshown

/-! CUE operations at their deadline (R169) -/

/-- The elements a CUE operation that comes too late may move: those of Belfry, and the counters of Lantern. -/
def lateRegs (r : Reg) : Bool := blocks [5] r || entries [0x9600] r

/-- A late CUE operation removed: counted and traced by Belfry before Lantern judges its period. -/
def State.dropLate (s : State) (o : BelOp) : State :=
  let list := match s.lantern.cues.find? fun r => r.id == o.brick with
    | some r => s.reg (.LAN_CUE_GROUP r.cue)
    | none => 0
  let s1 := match o.stage with
    | .running k since => ((s.freeOp o).stopEngine k (65536 + o.epoch) since).trace (o.record 7 0 7 k 0)
    | _ => (s.freeOp o).trace (o.record 7 0 7 0 0)
  (s1.count .BELCNT_LAMP_LATE).post 0x5006 4 (list % 4 + (s.reg (.CMP_FIRED 4) % 2 ^ 32) * 4)

theorem State.dropLate_belfryStep (s : State) (o : BelOp) : BelfryStep s (s.dropLate o) := by
  unfold State.dropLate
  extract_lets list s1
  have hremoved : BelfryStep s s1 := by
    unfold s1
    split
    · exact (((BelfryStep.refl s).freeOp o).modEngine _ _).trace _
    · exact ((BelfryStep.refl s).freeOp o).trace _
  exact (hremoved.count .BELCNT_LAMP_LATE 1 (by decide) rfl).post _ _ _ (by decide)

theorem State.dropLate_slots (s : State) (o : BelOp) : (s.dropLate o).belfry.slots = s.belfry.slots.filter fun q => q.slot != o.slot := by
  unfold State.dropLate
  extract_lets list s1
  have hremoved : s1.belfry.slots = s.belfry.slots.filter fun q => q.slot != o.slot := by
    unfold s1
    split <;> simp [State.stopEngine, State.freeOp_slots]
  simpa using hremoved

/-- CUE_HELD counts a period once (R326). -/
theorem State.lateCue_eq (s : State) (o : BelOp) : s.lateCue o = if s.lantern.heldPeriod = some o.epoch then s.dropLate o
    else ((s.dropLate o).count .LANCNT_CUE_HELD).modLantern fun l => { l with heldPeriod := some o.epoch } := by
  rfl

/-- What removing late CUE operations may move. -/
structure LateStep (s t : State) : Prop where
  changes : OnlyChanges [.belfry, .lantern, .drum] lateRegs s t
  out : t.out = s.out

theorem LateStep.refl (s : State) : LateStep s s := ⟨onlyChanges_refl s, rfl⟩

theorem LateStep.belfry {s t u : State} (h : LateStep s t) (hu : BelfryStep t u) : LateStep s u :=
  ⟨h.changes.trans (hu.changes.mono (by decide) fun _ hr => Bool.or_eq_true_iff.2 (.inl hr)), hu.out.trans h.out⟩

theorem LateStep.lateCue {s t : State} (h : LateStep s t) (o : BelOp) : LateStep s (t.lateCue o) := by
  have hdropped : LateStep s (t.dropLate o) := h.belfry (t.dropLate_belfryStep o)
  rw [State.lateCue_eq]
  split
  · exact hdropped
  · exact ⟨(hdropped.changes.count .LANCNT_CUE_HELD 1 (by decide) (by decide) (by decide)).modLantern _ (by decide), by simpa using hdropped.out⟩

theorem State.lateCue_slots (s : State) (o : BelOp) : (s.lateCue o).belfry.slots = s.belfry.slots.filter fun q => q.slot != o.slot := by
  rw [State.lateCue_eq]
  split <;> simp [State.dropLate_slots]

/-- What stands in a slot after late operations are removed stood there before, in the slot of none of them. -/
theorem State.mem_slots_of_lateCues {late : List BelOp} {s : State} {q : BelOp} (hq : q ∈ (late.foldl State.lateCue s).belfry.slots) :
    q ∈ s.belfry.slots ∧ q ∉ late := by
  induction late generalizing s with
  | nil => exact ⟨hq, List.not_mem_nil⟩
  | cons o late ih =>
    obtain ⟨hmem, hnot⟩ := ih hq
    rw [State.lateCue_slots, List.mem_filter, bne_iff_ne] at hmem
    obtain ⟨hmem, hslot⟩ := hmem
    exact ⟨hmem, List.not_mem_cons_of_ne_of_not_mem (fun h => hslot (congrArg _ h)) hnot⟩

/-! A run of a cue begins (R323) -/

/-- The first period of a cue started now: that of LAN_CUE_GO_TIME, two periods ahead at the soonest (R323). -/
def State.goFirst (s : State) : Nat :=
  max (if s.reg .LAN_CUE_GO_TIME = 0 then s.lantern.nextTick else s.lampFirst (nsUnits (s.reg .LAN_CUE_GO_TIME))) (s.lantern.nextTick + 2)

/-- An accepted start is the run's own beginning and work of Belfry behind it. -/
theorem State.cueGo_of_accepted {s : State} {c : Nat} (hcue : s.reg .LAN_CUE_GO_CUE = c) (haccepted : s.cueRefusal c = none)
    (hfresh : s.lantern.stopped.contains (c, s.ticks) = false) :
    ∃ u, s.cueGo 1 = u.reply 0 ∧ BelfryStep (s.startCue c s.goFirst) u := by
  simp only [State.cueGo, hcue, haccepted, hfresh, ne_eq, not_true_eq_false, Bool.false_eq_true, if_false]
  refine ⟨_, rfl, BelfryStep.showDelays ?_⟩
  have hlisted := fun list id d => (BelfryStep.refl (s.startCue c s.goFirst)).putDelay list id d
  exact ((hlisted _ _ _).post _ _ _ (by decide)).ite (hlisted _ _ _)

@[simp] theorem begun_cueRefusal (s : State) (dt c : Nat) : (begun s dt).cueRefusal c = s.cueRefusal c := by
  simp only [State.cueRefusal, begun_reg, begun_delays]

/-! A cue stops (R325) -/

/-- A run of cue c stopped in period n: off its delay list, its operations cancelled, its end two periods on (R325). -/
def State.stopRun (s : State) (c n : Nat) (r : RunningCue) : State :=
  let k := s.reg (.LAN_CUE_GROUP c)
  let held := (nth s.belfry.delays k []).any fun e => e.cue == r.id
  let s2 := s.modBelfry fun b => { b with delays := b.delays.map (removeDelay r.id) }
  let s3 := if held then (s2.count .BELCNT_OPS_CANCELLED).trace { delayRecord 4 k 0 with reason := 3 } else s2
  let ops := s3.belfry.slots.filter fun o => o.code == 7 && o.brick == r.id
  (ops.foldl (fun s o => s.cancelOp o 3) s3).modCue r.id fun r => { r with endAt := some (n + 2) }

theorem State.stopRun_belfryStep (s : State) (c n : Nat) (r : RunningCue) :
    ∃ u, BelfryStep s u ∧ s.stopRun c n r = u.modCue r.id fun r => { r with endAt := some (n + 2) } := by
  unfold State.stopRun
  extract_lets k held s2 record s3 ops
  have hoff : BelfryStep s s2 := (BelfryStep.refl s).modBelfry _ rfl
  have htraced : BelfryStep s s3 := ((hoff.count .BELCNT_OPS_CANCELLED 1 (by decide) rfl).trace _).ite hoff
  refine ⟨_, htraced.foldl fun u hu o ho => hu.cancelOp ?_ 3, rfl⟩
  have := (List.mem_filter.1 ho).2
  simp only [Bool.and_eq_true, beq_iff_eq] at this
  exact this.1

theorem CueStep.stopRun {s t : State} (h : CueStep s t) (c n : Nat) (r : RunningCue) : CueStep s (t.stopRun c n r) := by
  obtain ⟨u, hu, heq⟩ := t.stopRun_belfryStep c n r
  rw [heq]
  exact (h.belfry hu).modCue _ _

theorem State.stopRun_cues (s : State) (c n : Nat) (r : RunningCue) :
    (s.stopRun c n r).lantern.cues = s.lantern.cues.map fun x => if x.id = r.id then { x with endAt := some (n + 2) } else x := by
  obtain ⟨u, hu, heq⟩ := s.stopRun_belfryStep c n r
  rw [heq, State.modCue, State.modLantern_lantern, hu.lantern]

/-- Stopping runs leaves every run its number. -/
theorem State.stopRuns_ids (s : State) (c n : Nat) (rs : List RunningCue) :
    (rs.foldl (fun s r => s.stopRun c n r) s).lantern.cues.map RunningCue.id = s.lantern.cues.map RunningCue.id := by
  refine List.foldlRecOn (motive := fun u : State => u.lantern.cues.map RunningCue.id = s.lantern.cues.map RunningCue.id) _ _ rfl fun u hu r _ => ?_
  rw [State.stopRun_cues, List.map_map, ← hu]
  refine List.map_congr_left fun x _ => ?_
  simp only [Function.comp]
  split <;> rfl

/-- A run that goes on after others are stopped is one of those before, and none of those stopped. -/
theorem State.mem_cues_of_stopRuns {rs : List RunningCue} {s : State} {c n : Nat} {x : RunningCue}
    (hx : x ∈ (rs.foldl (fun s r => s.stopRun c n r) s).lantern.cues) (hgoes : x.endAt = none) : x ∈ s.lantern.cues ∧ x ∉ rs := by
  induction rs generalizing s with
  | nil => exact ⟨hx, List.not_mem_nil⟩
  | cons r rs ih =>
    obtain ⟨hmem, hnot⟩ := ih hx
    rw [State.stopRun_cues] at hmem
    obtain ⟨y, hy, rfl⟩ := List.mem_map.1 hmem
    by_cases hid : y.id = r.id
    · simp [hid] at hgoes
    · simp only [hid, if_false] at hnot ⊢
      exact ⟨hy, List.not_mem_cons_of_ne_of_not_mem (fun h => hid (congrArg _ h)) hnot⟩

/-- The runs of a cue that have no end (R325). -/
def State.runsOf (s : State) (c : Nat) : List RunningCue := s.lantern.cues.filter fun r => r.cue == c && r.endAt.isNone

/-- Every run of a cue stopped, and the stop noted for its tick (R325). -/
def State.stopCue (s : State) (c : Nat) : State :=
  ((s.runsOf c).foldl (fun u r => u.stopRun c (s.lantern.nextTick - 1) r) s).modLantern fun l => { l with
    stopped := (c, s.ticks) :: l.stopped.filter fun x => x.2 == s.ticks }

theorem CueStep.stopCue {s t : State} (h : CueStep s t) (c : Nat) : CueStep s (t.stopCue c) :=
  (h.foldl fun _ hu r _ => hu.stopRun _ _ r).modLantern _ rfl

/-- No run of a stopped cue goes on. -/
theorem State.stopCue_endAt {s : State} {c : Nat} {r : RunningCue} (hr : r ∈ (s.stopCue c).lantern.cues) (hcue : r.cue = c) : r.endAt ≠ none := by
  intro hgoes
  obtain ⟨hmem, hnot⟩ := State.mem_cues_of_stopRuns hr hgoes
  exact hnot (List.mem_filter.2 ⟨hmem, by simp [hcue, hgoes]⟩)

/-- The stop is followed by what Belfry shows of its lists and queues. -/
theorem State.cueStop_of_cue (s : State) {c : Nat} (hc : c ≤ 255) : ∃ u, s.cueStop c = u.reply 0 ∧ BelfryStep (s.stopCue c) u := by
  simp only [State.cueStop, Nat.not_lt.2 hc, if_false]
  exact ⟨_, rfl, (BelfryStep.refl (s.stopCue c)).showDelays.showQueues⟩

/-! The tick (R166 to R168) -/

/-- Comparator 4 fires and Lantern goes on to the next period, the runs ended long enough forgotten (R166). -/
def State.beginTick (s : State) : State :=
  ((s.ownFire 4).modLantern fun l => { l with
    nextTick := s.lantern.nextTick + 1, cues := l.cues.filter fun r => r.endAt.all fun e => Nat.blt s.lantern.nextTick (e + 3) }).modBelfry
      fun b => { b with skippedTicks := 0 }

theorem State.beginTick_reg (s : State) (r : Reg) : s.beginTick.reg r = (s.ownFire 4).reg r := by simp [State.beginTick]
theorem State.beginTick_out (s : State) : s.beginTick.out = (s.ownFire 4).out := by simp [State.beginTick]

/-- A delay list takes a number of ticks: what it releases starts, for period p at the soonest (R167, R168). -/
def State.tickDelays (s : State) (ticks p k : Nat) : State :=
  let r := tickList ticks (nth s.belfry.delays k [])
  r.1.foldl (fun s id => (s.trace (delayRecord 9 k 0)).releaseCue 256 id p) (s.modBelfry fun b => { b with delays := setNth b.delays k r.2 })

theorem CueStep.tickDelays {s t : State} (h : CueStep s t) (ticks p k : Nat) : CueStep s (t.tickDelays ticks p k) :=
  (h.belfry ((BelfryStep.refl t).modBelfry _ rfl)).foldl fun _ hu id _ => (hu.trace _).releaseCue 256 id p

/-- The whole of a tick: its beginning, the four lists, and what Belfry shows of them. -/
def State.tickCues (s : State) : State :=
  ((List.range 4).foldl (fun u k => u.tickDelays (s.belfry.skippedTicks + 1) (s.lantern.nextTick + 2) k) s.beginTick).showDelays.showQueues

theorem State.tickCues_cueStep (s : State) : CueStep s.beginTick s.tickCues :=
  ((CueStep.refl s.beginTick).foldl fun _ hu k _ => hu.tickDelays _ _ k).belfry (BelfryStep.refl _).showDelays.showQueues

end Sys2Proof.Machine

namespace Sys2Proof.Proofs

open Machine

/-! CUE_GO, CUE_STOP, LAMP_TICK and CUE_DEADLINE (R166, R168, R169, R323, R325) -/

theorem exec_cueGo (dt who value : Nat) (s : State) : exec (.cueGo dt who value) s = execCueGo dt who value s := rfl
theorem exec_cueStop (dt who cue : Nat) (s : State) : exec (.cueStop dt who cue) s = execCueStop dt who cue s := rfl
theorem exec_lampTick (dt : Nat) (s : State) : exec (.lampTick dt) s =
    run s dt fun s => if s.lantern.gridOn = false ∨ s.time96 < s.lampStart s.lantern.nextTick then s else s.tickCues := rfl
theorem exec_cueDeadline (dt : Nat) (s : State) : exec (.cueDeadline dt) s = execCueDeadline dt s := rfl

theorem cueGo_startsRun (dt who c : Nat) (s : State) (hwho : 1 ≤ (s.elapse dt).levelOf who) (hcue : s.reg .LAN_CUE_GO_CUE = c)
    (haccepted : s.cueRefusal c = none) (hfresh : s.lantern.stopped.contains (c, s.ticks + dt) = false) :
    Completes (.cueGo dt who 1) s fun s0 t => (∃ r ∈ t.lantern.cues, r.cue = c ∧ r.id = s.lantern.nextCue * 256 + c ∧ r.endAt = none ∧
        r.first = max (if s.reg .LAN_CUE_GO_TIME = 0 then s.lantern.nextTick else s.lampFirst (nsUnits (s.reg .LAN_CUE_GO_TIME)))
          (s.lantern.nextTick + 2)) ∧
      t.lantern.nextCue = s.lantern.nextCue + 1 ∧ t.out = [.reply 0] ∧ OnlyChanges [.belfry, .lantern, .drum, .log] (andDrum (blocks [5])) s0 t := by
  obtain ⟨u, heffect, hu⟩ := State.cueGo_of_accepted (s := begun s dt) hcue ((begun_cueRefusal ..).trans haccepted) hfresh
  have hstarted : CueStep (begun s dt) u := ((CueStep.refl _).startCue c (begun s dt).goFirst).belfry hu
  refine completes_of_effect (dt := dt) rfl (exec_cueGo ..)
    ((State.asWriter_of_level (s := begun s dt) (l := 1) _ (by decide) hwho).trans heffect) ⟨?_, ?_, ?_, ?_⟩
  · rw [ended_lantern, State.reply_lantern, hu.lantern]
    exact ⟨_, List.mem_append_right _ (List.mem_singleton_self _), rfl, rfl, rfl, rfl⟩
  · rw [ended_lantern, State.reply_lantern, hu.lantern]; rfl
  · rw [ended_out, State.reply_out, hstarted.out]; rfl
  · exact (((onlyChanges_begun s dt).trans (hstarted.changes.mono (by decide) fun _ => id)).emit _).ended (by decide) (by decide)

theorem cueGo_refuses (dt who c r : Nat) (s : State) (htakes : Takes s 4) (hwho : 1 ≤ (s.elapse dt).levelOf who)
    (hcue : s.reg .LAN_CUE_GO_CUE = c) (hrefused : s.cueRefusal c = some r) :
    Completes (.cueGo dt who 1) s fun s0 t => Posted t 0x900D 4 (c % 256 + r * 256) ∧ t.out = [.reply 8] ∧
      OnlyChanges [.drum, .log] drumRegs s0 t := by
  obtain ⟨hquiet, hmin⟩ := htakes
  have hposted : OnlyChanges [.drum, .log] noRegs (s.elapse dt) (((begun s dt).post 0x900D 4 (c % 256 + r * 256)).reply 8) :=
    ((onlyChanges_begun s dt).post _ _ _ (by decide) (by decide)).emit _
  refine completes_of_effect (dt := dt) (u := ((begun s dt).post 0x900D 4 (c % 256 + r * 256)).reply 8) rfl (exec_cueGo ..) ?_ ⟨?_, ?_, ?_⟩
  · rw [State.asWriter_of_level (s := begun s dt) (l := 1) _ (by decide) hwho]
    simp [State.cueGo, hcue, hrefused]
  · refine posted_ended ?_ ?_
    · simp [hquiet]
    · rwa [State.reply_reg, State.reg_post_low _ _ _ _ _ (by decide)]
  · rw [ended_out, State.reply_out, State.post_out]; rfl
  · exact (hposted.ended (by decide) (by decide)).mono (List.Subset.refl _) fun q hq => by simpa [andDrum, noRegs] using hq

theorem cueStop_endsRuns (dt who c : Nat) (s : State) (hwho : 1 ≤ (s.elapse dt).levelOf who) (hc : c ≤ 255) :
    Completes (.cueStop dt who c) s fun s0 t => (∀ r ∈ t.lantern.cues, r.cue = c → r.endAt ≠ none) ∧
      t.lantern.cues.map RunningCue.id = s.lantern.cues.map RunningCue.id ∧ (c, s.ticks + dt) ∈ t.lantern.stopped ∧ t.out = [.reply 0] ∧
      OnlyChanges [.belfry, .lantern, .drum, .log] (andDrum (blocks [5])) s0 t := by
  obtain ⟨u, heffect, hu⟩ := (begun s dt).cueStop_of_cue hc
  have hstopped : CueStep (begun s dt) u := ((CueStep.refl _).stopCue c).belfry hu
  refine completes_of_effect (dt := dt) rfl (exec_cueStop ..)
    ((State.asWriter_of_level (s := begun s dt) (l := 1) _ (by decide) hwho).trans heffect) ⟨fun r hr hcue => ?_, ?_, ?_, ?_, ?_⟩
  · rw [ended_lantern, State.reply_lantern, hu.lantern] at hr
    exact State.stopCue_endAt hr hcue
  · rw [ended_lantern, State.reply_lantern, hu.lantern]
    exact State.stopRuns_ids ..
  · rw [ended_lantern, State.reply_lantern, hu.lantern]
    exact List.mem_cons_self
  · rw [ended_out, State.reply_out, hstopped.out]; rfl
  · exact (((onlyChanges_begun s dt).trans (hstopped.changes.mono (by decide) fun _ => id)).emit _).ended (by decide) (by decide)

theorem lampTick_ticks (dt : Nat) (s : State) (hgrid : s.lantern.gridOn = true) (hdue : s.lampStart s.lantern.nextTick ≤ (s.elapse dt).time96) :
    Completes (.lampTick dt) s fun s0 t => t.lantern.nextTick = s.lantern.nextTick + 1 ∧ t.belfry.skippedTicks = 0 ∧
      t.reg (.CMP_FIRED 4) = (s.reg (.CMP_FIRED 4) + 1) % 2 ^ 32 ∧ t.out = [] ∧
      OnlyChanges [.belfry, .clock, .lantern, .drum, .log] (andDrum (blocks [3, 5])) s0 t := by
  obtain ⟨hfire, hfired, hsilent⟩ := (begun s dt).ownFire_frame
  have hcues := (begun s dt).tickCues_cueStep
  refine completes_of_effect (dt := dt) (u := (begun s dt).tickCues) rfl (exec_lampTick ..) ?_ ⟨?_, ?_, ?_, ?_, ?_⟩
  · have hnotDue : ¬((begun s dt).lantern.gridOn = false ∨ (begun s dt).time96 < (begun s dt).lampStart (begun s dt).lantern.nextTick) := by
      rintro (hoff | hearly)
      · simp [hgrid] at hoff
      · exact Nat.not_lt.2 hdue hearly
    exact if_neg hnotDue
  · rw [ended_lantern, hcues.nextTick]; rfl
  · rw [ended_belfry, hcues.skippedTicks]; rfl
  · rw [ended_reg _ _ _ _ (by decide) (by decide), hcues.changes.2 (.CMP_FIRED 4) (by decide) (by decide),
      State.beginTick_reg, hfired, begun_reg]
  · rw [ended_out, hcues.out, State.beginTick_out, hsilent, begun_out]
  · have hbegun : OnlyChanges [.belfry, .clock, .lantern, .drum, .log] (blocks [3, 5]) (s.elapse dt) (begun s dt).beginTick :=
      (((onlyChanges_begun s dt).trans (hfire.mono (by decide) fun _ => blocks_of_mem (by decide))).modLantern _ (by decide)).modBelfry _
        (by decide)
    exact (hbegun.trans (hcues.changes.mono (by decide) fun _ => blocks_of_mem (by decide))).ended (by decide) (by decide)

theorem cueDeadline_removesLate (dt : Nat) (s : State) :
    Completes (.cueDeadline dt) s fun s0 t => (∀ o ∈ t.belfry.slots, o.code = 7 → s0.time96 < s.lampStart o.epoch - nsUnits 10000) ∧
      (∀ o ∈ t.belfry.slots, o ∈ s.belfry.slots) ∧ t.out = [] ∧
      OnlyChanges [.belfry, .lantern, .drum, .log] (andDrum (fun r => blocks [5] r || entries [0x9600] r)) s0 t := by
  let late := s.belfry.slots.filter fun o => o.code == 7 && Nat.ble (s.lampStart o.epoch - nsUnits 10000) (s.elapse dt).time96
  have hremoved : LateStep (begun s dt) (late.foldl State.lateCue (begun s dt)).showQueues :=
    (List.foldlRecOn late _ (LateStep.refl _) fun u hu o _ => hu.lateCue o).belfry (BelfryStep.refl _).showQueues
  have hleft : ∀ o ∈ (late.foldl State.lateCue (begun s dt)).showQueues.belfry.slots, o ∈ s.belfry.slots ∧ o ∉ late := fun o ho => by
    rw [State.showQueues_slots] at ho
    simpa using State.mem_slots_of_lateCues ho
  refine completes_of_effect (dt := dt) (u := (late.foldl State.lateCue (begun s dt)).showQueues) rfl (exec_cueDeadline ..) ?_
    ⟨fun o ho hcue => ?_, fun o ho => ?_, ?_, ?_⟩
  · simp only [begun_slots]; rfl
  · rw [ended_belfry] at ho
    obtain ⟨hmem, hnot⟩ := hleft o ho
    by_contra hlate
    exact hnot (List.mem_filter.2 ⟨hmem, by simpa [hcue] using hlate⟩)
  · rw [ended_belfry] at ho
    exact (hleft o ho).1
  · rw [ended_out, hremoved.out]; rfl
  · exact ((onlyChanges_begun s dt).trans (hremoved.changes.mono (by decide) fun _ => id)).ended (by decide) (by decide)

/-- Settles O20, command by command. What Belfry does on its own, what it does with the runs of cues, and what a late operation adds are
`BelfryStep`, `CueStep` and `LateStep`, each said operation by operation. -/
theorem cuesRunOnTheTick : Obligations.CuesRunOnTheTick :=
  ⟨cueGo_startsRun, cueGo_refuses, cueStop_endsRuns, lampTick_ticks, cueDeadline_removesLate⟩

end Sys2Proof.Proofs

namespace Sys2Proof.Machine

/-! What the operations of Cupola may move (R202 to R209) -/

section OnlyChanges

variable {parts : List Part} {regs : Reg → Bool} {s t u : State}

/-- A change that leaves the dictionary alone, of parts that may change. -/
theorem OnlyChanges.change (h : OnlyChanges parts regs s t) (hdict : u.dict = t.dict) (hparts : ∀ p, p ∉ parts → p.same t u) :
    OnlyChanges parts regs s u :=
  h.trans ⟨hparts, fun r _ _ => congrArg (storeGet (dictDefault r) · r.key) hdict⟩

theorem OnlyChanges.modCupola (h : OnlyChanges parts regs s t) (f : Cupola → Cupola) (hcupola : .cupola ∈ parts) :
    OnlyChanges parts regs s (t.modCupola f) :=
  h.change rfl fun p hp => by
    cases p with
    | cupola => exact absurd hcupola hp
    | _ => rfl

theorem OnlyChanges.setFinKey (h : OnlyChanges parts regs s t) (key : List Octet) (hidp : .idp ∈ parts) :
    OnlyChanges parts regs s { t with idp := { t.idp with finKey := key } } :=
  h.change rfl fun p hp => by
    cases p with
    | idp => exact absurd hidp hp
    | _ => rfl

end OnlyChanges

@[simp] theorem begun_cupola (s : State) (dt : Nat) : (begun s dt).cupola = s.cupola := rfl
@[simp] theorem begun_idp (s : State) (dt : Nat) : (begun s dt).idp = s.idp := rfl
@[simp] theorem ended_cupola (s u : State) (dt : Nat) : (ended s dt u).cupola = u.cupola := u.settle_cupola
@[simp] theorem ended_idp (s u : State) (dt : Nat) : (ended s dt u).idp = u.idp := u.settle_idp

/-! Words posted in one clock (R372) -/

/-- How many words wait to enter the Drum. -/
def State.posted (s : State) : Nat := s.drum.incoming.flatten.length

theorem State.posted_post (s : State) (c p a : Nat) : (s.post c p a).posted = s.posted + 1 := by simp [State.posted]

theorem State.posted_of_drum {s t : State} (h : t.drum = s.drum) : t.posted = s.posted := by rw [State.posted, h]; rfl

/-- A counter posts one word at most (R70). -/
theorem State.posted_count (s : State) (r : Reg) (n : Nat) : (s.count r n).posted ≤ s.posted + 1 := by
  simp only [State.count]
  split
  next w hw => simp [State.posted, State.postItem, counterWord_priority hw]
  next => simp [State.posted]

theorem State.posted_of_quiet {s : State} (dt : Nat) (h : Quiet s) : (begun s dt).posted = 0 := by simp [State.posted, h]

/-- An event posted behind no more than three words is in the Drum when the command ends, if the Drum does not filter it. -/
theorem posted_ended_last {s u v : State} {dt code priority arg : Nat} (hdrum : u.drum = (v.post code priority arg).drum) (hfew : v.posted ≤ 3)
    (hmin : u.reg .DRM_MIN_PRIORITY ≤ priority ∨ priority = 7) : Posted (ended s dt u) code priority arg := by
  refine posted_ended_of_mem ?_ ?_ hmin
  · simp [hdrum]
  · rw [← State.posted, State.posted_of_drum hdrum, State.posted_post]; omega

/-! The decision registers and what shows them (R209, R214) -/

@[simp] theorem State.modDecision_decisions (s : State) (f : Decision → Decision) :
    (s.modDecision f).cupola.decisions = List.replicate 3 (f s.decision) := by simp [State.modDecision]

@[simp] theorem State.modDecision_drum (s : State) (f : Decision → Decision) : (s.modDecision f).drum = s.drum := by simp [State.modDecision]
@[simp] theorem State.showRegion_cupola (s : State) (region : Nat) : (s.showRegion region).cupola = s.cupola := by simp [State.showRegion]
@[simp] theorem State.showRegion_drum (s : State) (region : Nat) : (s.showRegion region).drum = s.drum := by simp [State.showRegion]

/-- Work on the regions of the Finial layer with no epoch superseded: it moves Cupola and what shows the regions, and sends nothing. -/
structure FinialStep (s t : State) : Prop where
  changes : OnlyChanges [.cupola, .drum] (entries [0x6209, 0x620A]) s t
  out : t.out = s.out

namespace FinialStep

variable {s t : State}

theorem refl (s : State) : FinialStep s s := ⟨onlyChanges_refl s, rfl⟩

theorem modDecision (h : FinialStep s t) (f : Decision → Decision) : FinialStep s (t.modDecision f) :=
  ⟨(h.changes.modCupola _ (by decide)).setReg .CUP_FIN_ASSERTED _ (by decide) (by decide), by simpa [State.modDecision] using h.out⟩

theorem showRegion (h : FinialStep s t) {region : Nat} (hregion : region < 16) : FinialStep s (t.showRegion region) := by
  have hsub : (Reg.CUP_FIN_REGION (region + 1)).sub < 1024 := by simp only [Reg.CUP_FIN_REGION]; omega
  exact ⟨h.changes.setReg (.CUP_FIN_REGION (region + 1)) _ hsub (by simp [entries, Reg.CUP_FIN_REGION]),
    by simpa [State.showRegion] using h.out⟩

theorem foldl {α : Type} {l : List α} {f : State → α → State} (h : FinialStep s t)
    (hf : ∀ u, FinialStep s u → ∀ x ∈ l, FinialStep s (f u x)) : FinialStep s (l.foldl f t) := List.foldlRecOn l f h hf

end FinialStep

/-! Decision registers loaded (R209) -/

/-- All three registers loaded, and every region shown as they have it. -/
def State.loadDecision (s : State) (d : Decision) : State := (List.range 16).foldl (fun s r => s.showRegion r) (s.modDecision fun _ => d)

theorem State.loadDecision_finialStep (s : State) (d : Decision) : FinialStep s (s.loadDecision d) :=
  ((FinialStep.refl s).modDecision _).foldl fun _ hu _ hr => hu.showRegion (List.mem_range.1 hr)

theorem State.loadDecision_decisions (s : State) (d : Decision) : (s.loadDecision d).cupola.decisions = [d, d, d] :=
  List.foldlRecOn (motive := fun u : State => u.cupola.decisions = [d, d, d]) _ _ (by simp [List.replicate]) fun u hu r _ => by
    rw [State.showRegion_cupola, hu]

theorem State.loadDecision_drum (s : State) (d : Decision) : (s.loadDecision d).drum = s.drum :=
  List.foldlRecOn (motive := fun u : State => u.drum = s.drum) _ _ (by simp) fun u hu r _ => (u.showRegion_drum r).trans hu

/-- The union of the masks of three registers, with the slots of the first (R209). -/
def Decision.unite (a b c : Decision) : Decision :=
  ⟨[a.asserted, b.asserted, c.asserted].foldl Nat.lor 0, [a.blanked, b.blanked, c.blanked].foldl Nat.lor 0, a.slots⟩

theorem Decision.unite_eq (a b c : Decision) :
    Decision.unite a b c = ⟨a.asserted ||| b.asserted ||| c.asserted, a.blanked ||| b.blanked ||| c.blanked, a.slots⟩ := by
  have hlor : ∀ x y z : Nat, [x, y, z].foldl Nat.lor 0 = x ||| y ||| z := fun x y z => congrArg (fun w => w ||| y ||| z) (Nat.zero_or x)
  rw [Decision.unite, hlor, hlor]

/-! The identity of a key (R204) -/

theorem ofLe_lt (l : List Octet) : ofLe l < 256 ^ l.length := by
  induction l with
  | nil => decide
  | cons b l ih =>
    have := b.isLt
    simp only [ofLe, List.length_cons, Nat.pow_succ]
    omega

/-- The identity of a key fits its element. -/
theorem keyId_lt (key : List Octet) : keyId key < 2 ^ 32 :=
  (ofLe_lt _).trans_le (Nat.pow_le_pow_right (by decide : 0 < 256) (List.length_take_le 4 _))

end Sys2Proof.Machine

namespace Sys2Proof.Proofs

open Machine

/-! ORDER_CHANGE_REQUEST, ORDER_CHANGE_CANCEL, PREVIEW_TAKE, CUP_PREVIEW_READ, FINIAL_KEY_WRITE and DECISION_MISMATCH (R190, R204, R209, R213) -/

theorem exec_orderChangeRequest (dt who : Nat) (s : State) : exec (.orderChangeRequest dt who) s = execOrderChangeRequest dt who s := rfl
theorem exec_orderChangeCancel (dt who : Nat) (s : State) : exec (.orderChangeCancel dt who) s = execOrderChangeCancel dt who s := rfl
theorem exec_previewTake (dt who value : Nat) (s : State) : exec (.previewTake dt who value) s = execPreviewTake dt who value s := rfl
theorem exec_cupPreviewRead (dt who : Nat) (s : State) : exec (.cupPreviewRead dt who) s = execCupPreviewRead dt who s := rfl
theorem exec_finialKeyWrite (dt who : Nat) (key : List Octet) (s : State) :
    exec (.finialKeyWrite dt who key) s = execFinialKeyWrite dt who key s := rfl

/-- An effect that sets one element to a value that fits it and answers 0. -/
theorem completes_of_setReg {c : Instr} {dt v : Nat} {f : State → State} {s : State} {r : Reg} (hdt : c.dt = dt) (hexec : exec c s = run s dt f)
    (hquiet : Quiet s) (heffect : f (begun s dt) = ((begun s dt).setReg r v).reply 0) (hsub : r.sub < 1024) (hdrum : drumRegs r = false)
    (hv : v < 2 ^ dictBits r) (hbits : dictBits r ≠ 0) :
    Completes c s fun s0 t => t.reg r = v ∧ t.out = [.reply 0] ∧ OnlyChanges [] (among [r]) s0 t := by
  refine completes_of_effect hdt hexec heffect ⟨?_, ?_, ?_⟩
  · rw [ended_reg _ _ _ _ hsub hdrum]
    exact (State.reg_setReg_same _ _ _ hbits).trans (Nat.mod_eq_of_lt hv)
  · rw [ended_out, State.reply_out, State.setReg_out]; rfl
  · exact (((onlyChanges_begun s dt).setReg r v hsub (by simp [among])).emit _).ended_quiet (by simpa [State.reply, State.emit] using hquiet)

theorem orderChangeRequest_marksPending (dt who : Nat) (s : State) (hquiet : Quiet s) (hwho : 1 ≤ (s.elapse dt).levelOf who)
    (hidle : s.reg .CUP_ORDER_CHANGE ≠ 1) (hvalid : s.orderRefusal = none) :
    Completes (.orderChangeRequest dt who) s fun s0 t => t.reg .CUP_ORDER_CHANGE = 1 ∧ t.out = [.reply 0] ∧
      OnlyChanges [] (among [.CUP_ORDER_CHANGE]) s0 t := by
  have hvalid' : (begun s dt).orderRefusal = none := hvalid
  refine completes_of_setReg (dt := dt) rfl (exec_orderChangeRequest ..) hquiet ?_ (by decide) (by decide) (by decide) (by decide)
  rw [State.asWriter_of_level (s := begun s dt) (l := 1) _ (by decide) hwho, State.orderRequest, if_neg (by exact hidle), hvalid']

theorem orderChangeRequest_refuses (dt who r : Nat) (s : State) (htakes : Takes s 4) (hwho : 1 ≤ (s.elapse dt).levelOf who)
    (hidle : s.reg .CUP_ORDER_CHANGE ≠ 1) (hrefused : s.orderRefusal = some r) :
    Completes (.orderChangeRequest dt who) s fun s0 t => Posted t 0x6002 4 r ∧ t.out = [.reply 8] ∧ OnlyChanges [.drum, .log] drumRegs s0 t := by
  obtain ⟨hquiet, hmin⟩ := htakes
  have hrefused' : (begun s dt).orderRefusal = some r := hrefused
  have hposted : OnlyChanges [.drum, .log] noRegs (s.elapse dt) (((begun s dt).post 0x6002 4 r).reply 8) :=
    ((onlyChanges_begun s dt).post _ _ _ (by decide) (by decide)).emit _
  refine completes_of_effect (dt := dt) (u := ((begun s dt).post 0x6002 4 r).reply 8) rfl (exec_orderChangeRequest ..) ?_ ⟨?_, ?_, ?_⟩
  · rw [State.asWriter_of_level (s := begun s dt) (l := 1) _ (by decide) hwho, State.orderRequest, if_neg (by exact hidle), hrefused']
  · refine posted_ended_last rfl (by rw [State.posted_of_quiet dt hquiet]; decide) (.inl ?_)
    rwa [hposted.2 .DRM_MIN_PRIORITY (by decide) rfl]
  · rw [ended_out, State.reply_out, State.post_out]; rfl
  · exact (hposted.ended (by decide) (by decide)).mono (List.Subset.refl _) fun q hq => by simpa [andDrum, noRegs] using hq

theorem orderChangeCancel_withdraws (dt who : Nat) (s : State) (hquiet : Quiet s) (hwho : 1 ≤ (s.elapse dt).levelOf who)
    (hpending : s.reg .CUP_ORDER_CHANGE = 1) :
    Completes (.orderChangeCancel dt who) s fun s0 t => t.reg .CUP_ORDER_CHANGE = 0 ∧ t.out = [.reply 0] ∧
      OnlyChanges [] (among [.CUP_ORDER_CHANGE]) s0 t := by
  refine completes_of_setReg (dt := dt) rfl (exec_orderChangeCancel ..) hquiet ?_ (by decide) (by decide) (by decide) (by decide)
  rw [State.asWriter_of_level (s := begun s dt) (l := 1) _ (by decide) hwho, State.orderCancel, if_pos (by exact hpending)]

theorem previewTake_requests (dt who : Nat) (s : State) (hquiet : Quiet s) (hwho : 1 ≤ (s.elapse dt).levelOf who)
    (harea : s.previewRect.area ≤ 524288) :
    Completes (.previewTake dt who 1) s fun s0 t => t.reg .CUP_PREVIEW_TAKE = 1 ∧ t.out = [.reply 0] ∧
      OnlyChanges [] (among [.CUP_PREVIEW_TAKE]) s0 t := by
  refine completes_of_setReg (dt := dt) rfl (exec_previewTake ..) hquiet ?_ (by decide) (by decide) (by decide) (by decide)
  have hfits : ¬((1 : Nat) ≠ 1 ∨ 524288 < (begun s dt).previewRect.area) := not_or.2 ⟨not_not.2 rfl, Nat.not_lt.2 harea⟩
  rw [State.asWriter_of_level (s := begun s dt) (l := 1) _ (by decide) hwho, State.previewTake, if_neg hfits]

theorem cupPreviewRead_returnsPreview (dt who e f : Nat) (ws : List Nat) (s : State) (hquiet : Quiet s) (hwho : 1 ≤ (s.elapse dt).levelOf who)
    (htaken : s.cupola.preview = some (e, f, ws)) :
    Completes (.cupPreviewRead dt who) s fun s0 t => t.out = [.data (leOctets 2 e ++ leOctets 2 f ++ leOctets 4 ws.length ++
        (ws.map fun w => leOctets (if f = 1 then 4 else 8) w).flatten)] ∧ OnlyChanges [] noRegs s0 t := by
  refine completes_of_effect (dt := dt) rfl (exec_cupPreviewRead ..)
    (u := (begun s dt).emit (.data (leOctets 2 e ++ leOctets 2 f ++ leOctets 4 ws.length ++
      (ws.map fun w => leOctets (if f = 1 then 4 else 8) w).flatten))) ?_ ⟨?_, ?_⟩
  · rw [State.asReader, if_neg (by exact Nat.not_lt.2 hwho), State.previewRead, begun_cupola, htaken]
  · rw [ended_out, State.emit_out]; rfl
  · exact ((onlyChanges_begun s dt).emit _).ended_quiet hquiet

theorem finialKeyWrite_stores (dt who : Nat) (key : List Octet) (s : State) (hquiet : Quiet s) (hwho : 2 ≤ (s.elapse dt).levelOf who)
    (hlength : key.length = 32) :
    Completes (.finialKeyWrite dt who key) s fun s0 t => t.idp.finKey = key ∧ t.reg .CUP_FIN_KEY_ID = keyId key ∧ t.out = [.reply 0] ∧
      OnlyChanges [.idp] (among [.CUP_FIN_KEY_ID]) s0 t := by
  refine completes_of_effect (dt := dt) rfl (exec_finialKeyWrite ..)
    ((State.asWriter_of_level (s := begun s dt) (l := 2) _ (by decide) hwho).trans (if_neg (not_not.2 hlength))) ⟨?_, ?_, ?_, ?_⟩
  · rw [ended_idp, State.reply_idp, State.setReg_idp]
  · rw [ended_reg _ _ _ _ (by decide) (by decide)]
    exact (State.reg_setReg_same _ _ _ (by decide)).trans (Nat.mod_eq_of_lt (keyId_lt key))
  · rw [ended_out, State.reply_out, State.setReg_out]; rfl
  · exact ((((onlyChanges_begun s dt).setFinKey key (by decide)).setReg .CUP_FIN_KEY_ID _ (by decide) (by decide)).emit _).ended_quiet
      (by simpa [State.reply, State.emit] using hquiet)

/-- Two registers that agree correct the third; three that differ give way to the union of their masks (R209). -/
theorem exec_decisionMismatch (dt : Nat) (a b c : Decision) (s : State) :
    exec (.decisionMismatch dt [a.asserted, b.asserted, c.asserted] [a.blanked, b.blanked, c.blanked] [a.slots, b.slots, c.slots]) s =
      run s dt fun s =>
        if a = b ∧ b = c then s.loadDecision a
        else if a = b then ((s.loadDecision a).count .FINCNT_DECISION_CORRECTED).post 0x6027 5 2
        else if a = c then ((s.loadDecision a).count .FINCNT_DECISION_CORRECTED).post 0x6027 5 1
        else if b = c then ((s.loadDecision b).count .FINCNT_DECISION_CORRECTED).post 0x6027 5 0
        else (s.loadDecision (Decision.unite a b c)).post 0x6028 7 (Decision.unite a b c).asserted := rfl

theorem decisionMismatch_corrects (dt : Nat) (a b : Decision) (s : State) (htakes : Takes s 5) (hdiffers : a ≠ b) :
    Completes (.decisionMismatch dt [a.asserted, a.asserted, b.asserted] [a.blanked, a.blanked, b.blanked] [a.slots, a.slots, b.slots]) s
      fun s0 t => t.cupola.decisions = [a, a, a] ∧
        t.reg .FINCNT_DECISION_CORRECTED = (s.reg .FINCNT_DECISION_CORRECTED + 1) % 2 ^ 32 ∧ Posted t 0x6027 5 2 ∧ t.out = [] ∧
        OnlyChanges [.cupola, .drum, .log] (andDrum (entries [0x6209, 0x620A, 0x6408])) s0 t := by
  obtain ⟨hquiet, hmin⟩ := htakes
  obtain ⟨hload, hsilent⟩ := (begun s dt).loadDecision_finialStep a
  have hchanges : OnlyChanges [.cupola, .drum, .log] (entries [0x6209, 0x620A, 0x6408]) (s.elapse dt)
      ((((begun s dt).loadDecision a).count .FINCNT_DECISION_CORRECTED).post 0x6027 5 2) :=
    (((onlyChanges_begun s dt).trans (hload.mono (by decide) fun r hr => by simp [entries] at hr ⊢; tauto)).count _ 1 (by decide) (by decide)
      (by decide)).post _ _ _ (by decide) (by decide)
  refine completes_of_effect (dt := dt) rfl (exec_decisionMismatch ..) ((if_neg fun h => hdiffers h.2).trans (if_pos rfl)) ⟨?_, ?_, ?_, ?_, ?_⟩
  · rw [ended_cupola, State.post_cupola, State.count_cupola, State.loadDecision_decisions]
  · rw [ended_reg _ _ _ _ (by decide) (by decide), State.reg_post_low _ _ _ _ _ (by decide), State.reg_count_same _ _ _ (by decide) (by decide),
      hload.2 _ (by decide) (by decide)]; rfl
  · refine posted_ended_last rfl ?_ (.inl ?_)
    · have := ((begun s dt).loadDecision a).posted_count .FINCNT_DECISION_CORRECTED 1
      rw [State.posted_of_drum (State.loadDecision_drum ..), State.posted_of_quiet dt hquiet] at this
      omega
    · rwa [hchanges.2 .DRM_MIN_PRIORITY (by decide) (by decide)]
  · rw [ended_out, State.post_out, State.count_out, hsilent]; rfl
  · exact hchanges.ended (by decide) (by decide)

theorem decisionMismatch_unites (dt : Nat) (a b c : Decision) (s : State) (hquiet : Quiet s) (hdiffer : a ≠ b ∧ a ≠ c ∧ b ≠ c) :
    Completes (.decisionMismatch dt [a.asserted, b.asserted, c.asserted] [a.blanked, b.blanked, c.blanked] [a.slots, b.slots, c.slots]) s
      fun s0 t => t.cupola.decisions =
          List.replicate 3 ⟨a.asserted ||| b.asserted ||| c.asserted, a.blanked ||| b.blanked ||| c.blanked, a.slots⟩ ∧
        Posted t 0x6028 7 (a.asserted ||| b.asserted ||| c.asserted) ∧ t.out = [] ∧
        OnlyChanges [.cupola, .drum, .log] (andDrum (entries [0x6209, 0x620A])) s0 t := by
  obtain ⟨hab, hac, hbc⟩ := hdiffer
  obtain ⟨hload, hsilent⟩ := (begun s dt).loadDecision_finialStep (Decision.unite a b c)
  refine completes_of_effect (dt := dt) (u := ((begun s dt).loadDecision (Decision.unite a b c)).post 0x6028 7 (Decision.unite a b c).asserted) rfl
    (exec_decisionMismatch ..) ?_ ⟨?_, ?_, ?_, ?_⟩
  · rw [if_neg fun h => hab h.1, if_neg hab, if_neg hac, if_neg hbc]
  · rw [ended_cupola, State.post_cupola, State.loadDecision_decisions, Decision.unite_eq]; rfl
  · rw [Decision.unite_eq]
    refine posted_ended_last rfl ?_ (.inr rfl)
    rw [State.posted_of_drum (State.loadDecision_drum ..), State.posted_of_quiet dt hquiet]; decide
  · rw [ended_out, State.post_out, hsilent]; rfl
  · exact (((onlyChanges_begun s dt).trans (hload.mono (by decide) fun r hr => by simp [andDrum, hr])).post_fault _ _ (by decide)
      (by decide)).ended_drum (by decide) (by decide)

/-- Settles O21, command by command. Loading the decision registers is `State.loadDecision`, work of the Finial layer alone (`FinialStep`). -/
theorem ordersPreviewsAndKeys : Obligations.OrdersPreviewsAndKeys :=
  ⟨orderChangeRequest_marksPending, orderChangeRequest_refuses, orderChangeCancel_withdraws, previewTake_requests, cupPreviewRead_returnsPreview,
    finialKeyWrite_stores, decisionMismatch_corrects, decisionMismatch_unites⟩

/-! FINIAL_DISABLE is a write of CUP_FIN_ENABLE, which asks service level (R208, R214, R468) -/

theorem exec_finialDisable (dt who : Nat) (s : State) : exec (.finialDisable dt who) s = execFinialDisable dt who s := rfl

/-- An operator's write of CUP_FIN_ENABLE is refused (R468). -/
theorem finialDisable_refuses_operator {dt who : Nat} {s : State} (hwho : (s.elapse dt).levelOf who = 1) :
    sentBy (.finialDisable dt who) s = some [.reply 6] := by
  have hservice : writeLevel .CUP_FIN_ENABLE = some 2 := by decide
  have hrefused : (begun s dt).asWriter who .CUP_FIN_ENABLE State.finialDisable = (begun s dt).reply 6 := by
    simp [State.asWriter, hservice, hwho]
  have hexec : exec (.finialDisable dt who) s = .next (ended s dt ((begun s dt).reply 6)) := by
    rw [← hrefused]; exact exec_finialDisable ..
  rw [sentBy_of_next hexec, ended_out, State.reply_out]; rfl

/-- The Finial layer in use and region 3 asserted. -/
def regionAsserted : State := (State.reset.setReg .CUP_FIN_ENABLE 1).modDecision fun d => { d with asserted := 2 ^ 3 }

/-- The signal map writes at operator level (R468; log entry 112). -/
theorem levelOf_signalMap (s : State) : s.levelOf 0 = 1 := rfl

/-- Refutes O22, by its sixth clause, which lets any writer at level 1 or above switch the Finial layer off. CUP_FIN_ENABLE is an RWS element
(R214), so its write asks service level, level 2, and is refused with status 6 below that (R468). In `regionAsserted` the writer is number 0, at
level 1: the answer is status 6, where the clause says 0. What the clause needs is the premise `2 ≤ levelOf who`, as O21 has it for
CUP_FIN_KEY. -/
theorem not_safetyMessagesAct : ¬ Obligations.SafetyMessagesAct := by
  unfold Obligations.SafetyMessagesAct
  rintro ⟨-, -, -, -, -, hdisabled⟩
  obtain ⟨t, hnext, -, -, -, hout, -⟩ := hdisabled 0 0 regionAsserted (levelOf_signalMap _).ge
  have hrefused := finialDisable_refuses_operator (levelOf_signalMap (regionAsserted.elapse 0))
  rw [sentBy_of_next hnext, hout] at hrefused
  exact absurd hrefused (by decide)

end Sys2Proof.Proofs

namespace Sys2Proof.Machine

section OnlyChanges

variable {parts : List Part} {regs : Reg → Bool} {s t : State}

theorem OnlyChanges.modCal (h : OnlyChanges parts regs s t) (f : Cal → Cal) (hcal : .cal ∈ parts) : OnlyChanges parts regs s (t.modCal f) :=
  h.change rfl fun p hp => by
    cases p with
    | cal => exact absurd hcal hp
    | _ => rfl

theorem OnlyChanges.modLink (h : OnlyChanges parts regs s t) (k : Nat) (f : SpireLink → SpireLink) (hspire : .spire ∈ parts) :
    OnlyChanges parts regs s (t.modLink k f) :=
  h.change rfl fun p hp => by
    cases p with
    | spire => exact absurd hspire hp
    | _ => rfl

end OnlyChanges

/-! Zones of calibration (R221) -/

@[simp] theorem begun_cal (s : State) (dt : Nat) : (begun s dt).cal = s.cal := rfl
@[simp] theorem begun_spire (s : State) (dt : Nat) : (begun s dt).spire = s.spire := rfl
@[simp] theorem begun_zoneModules (s : State) (dt z : Nat) : (begun s dt).zoneModules z = s.zoneModules z := rfl
@[simp] theorem ended_cal (s u : State) (dt : Nat) : (ended s dt u).cal = u.cal := u.settle_cal
@[simp] theorem ended_spire (s u : State) (dt : Nat) : (ended s dt u).spire = u.spire := u.settle_spire
@[simp] theorem ended_zone (s u : State) (dt z : Nat) : (ended s dt u).zone z = u.zone z := by simp [State.zone]
@[simp] theorem ended_calModule (s u : State) (dt link module : Nat) : (ended s dt u).calModule link module = u.calModule link module := by
  simp [State.calModule]

/-- What a change of an element keeps of it, any place of the list keeps. -/
theorem nth_modNth_keeps {α β : Type} (g : α → β) {f : α → α} (hf : ∀ x, g (f x) = g x) (l : List α) (i j : Nat) (d : α) :
    g (nth (modNth l i f) j d) = g (nth l j d) := by
  simp only [nth, modNth, List.getD_eq_getElem?_getD, List.getElem?_modify]
  cases l[j]? with
  | none => rfl
  | some x =>
    by_cases hij : i = j
    · simpa [hij] using hf x
    · simp [hij]

theorem State.zone_of_cal {s t : State} (h : t.cal = s.cal) (z : Nat) : t.zone z = s.zone z := by rw [State.zone, h]; rfl

@[simp] theorem State.modZone_zones_length (s : State) (z : Nat) (f : CalZone → CalZone) :
    (s.modZone z f).cal.zones.length = s.cal.zones.length := by simp [State.modZone, modNth]

theorem State.zone_modZone_same {s : State} {z : Nat} (h : z < s.cal.zones.length) (f : CalZone → CalZone) :
    (s.modZone z f).zone z = f (s.zone z) := nth_modNth_same _ _ _ _ h

theorem State.zone_modZone_other (s : State) {z w : Nat} (h : z ≠ w) (f : CalZone → CalZone) : (s.modZone w f).zone z = s.zone z := by
  simp [State.zone, State.modZone, nth, modNth, h.symm]

theorem State.modZone_theta (s : State) (z w : Nat) {f : CalZone → CalZone} (hf : ∀ x, (f x).theta = x.theta) :
    ((s.modZone w f).zone z).theta = (s.zone z).theta := nth_modNth_keeps CalZone.theta hf ..

@[simp] theorem State.requestPass_reg (s : State) (z : Nat) (r : Reg) : (s.requestPass z).reg r = s.reg r := rfl

theorem quiet_of_drum {s t : State} (h : t.drum = s.drum) (hquiet : Quiet s) : Quiet t := (congrArg Drum.incoming h).trans hquiet

/-- The Drum's own elements stand in block 10 (R379). -/
theorem drumRegs_of_block {r : Reg} (h : r.index / 4096 ≠ 10) : drumRegs r = false := by
  simp only [drumRegs, List.contains_eq_mem, decide_eq_false_iff_not, List.mem_cons, List.not_mem_nil, or_false]
  omega

theorem bitOf_setBitTo_above (v : Nat) {m n : Nat} (b : Bool) (h : n < m) : bitOf (setBitTo v n b) m = bitOf v m := by
  have hhigh : ∀ w, bitOf w n = false → bitOf (w + 2 ^ n) m = bitOf w m := fun w hw => by
    obtain ⟨d, rfl⟩ := Nat.exists_eq_add_of_lt h
    have hhalf : (w + 2 ^ n) / 2 ^ (n + 1) = w / 2 ^ (n + 1) := by
      simp only [bitOf, beq_eq_false_iff_ne] at hw
      rw [Nat.pow_succ, ← Nat.div_div_eq_div_mul, ← Nat.div_div_eq_div_mul, Nat.add_div_right _ (Nat.two_pow_pos n)]
      omega
    simp only [bitOf]
    rw [show n + d + 1 = n + 1 + d by omega, Nat.pow_add 2 (n + 1) d, ← Nat.div_div_eq_div_mul, hhalf, Nat.div_div_eq_div_mul]
  unfold setBitTo
  cases hv : bitOf v n <;> cases b
  · rfl
  · exact hhigh v hv
  · obtain ⟨w, rfl⟩ := Nat.exists_eq_add_of_le' (two_pow_le_of_bitOf hv)
    have hw : bitOf w n = false := by
      simp only [bitOf, beq_iff_eq, beq_eq_false_iff_ne] at hv ⊢
      rw [Nat.add_div_right _ (Nat.two_pow_pos n)] at hv
      omega
    simpa using (hhigh w hw).symm
  · rfl

theorem State.bitOf_setBit_above (s : State) {r : Reg} {m n : Nat} (b : Bool) (hm : n < m) (hbits : m < dictBits r) :
    bitOf ((s.setBit r n b).reg r) m = bitOf (s.reg r) m := by
  rw [State.setBit, State.reg_setReg_same _ _ _ (Nat.ne_zero_of_lt hbits), bitOf_eq_testBit, Nat.testBit_mod_two_pow, decide_eq_true hbits,
    Bool.true_and, ← bitOf_eq_testBit, bitOf_setBitTo_above _ _ hm]

/-! Polls of zones (R221, R222, R224) -/

/-- The elements of zones as the dictionary has them: flags of 8 bits in the records of block 7 (R244). -/
theorem zoneFlags_bits {z : Nat} (hz : z < 64) : dictBits (.ZONE_FLAGS z) = 8 := by
  have hall : ((List.range 64).all fun z => dictBits (.ZONE_FLAGS z) == 8) = true := by decide +kernel
  simpa using List.all_eq_true.1 hall z (List.mem_range.2 hz)

/-- An element that no poll of the zones named sets, by its place in the store: a poll sets ZONE_TEMP and ZONE_FLAGS of its zone. -/
def Unpolled (ws : List Nat) (r : Reg) : Prop := ∀ w ∈ ws, r.key ≠ (Reg.ZONE_FLAGS w).key ∧ r.key ≠ (Reg.ZONE_TEMP w).key

/-- Polls of the zones named: they move those zones and the elements that show them, post events, and send nothing. -/
structure PollStep (ws : List Nat) (s t : State) : Prop where
  changes : OnlyChanges [.cal, .drum] (blocks [7]) s t
  kept : ∀ r, Unpolled ws r → t.reg r = s.reg r
  zones : ∀ z, z ∉ ws → t.zone z = s.zone z
  length : t.cal.zones.length = s.cal.zones.length
  out : t.out = s.out

namespace PollStep

variable {ws : List Nat} {s t : State} {w : Nat}

theorem refl (s : State) : PollStep ws s s := ⟨onlyChanges_refl s, fun _ _ => rfl, fun _ _ => rfl, rfl, rfl⟩

theorem modZone (h : PollStep ws s t) (hw : w ∈ ws) (f : CalZone → CalZone) : PollStep ws s (t.modZone w f) where
  changes := h.changes.modCal _ (by decide)
  kept := h.kept
  zones z hz := (t.zone_modZone_other (ne_of_mem_of_not_mem hw hz).symm f).trans (h.zones z hz)
  length := (t.modZone_zones_length w f).trans h.length
  out := h.out

theorem setReg (h : PollStep ws s t) {r : Reg} (v : Nat) (hw : w ∈ ws) (hw64 : w < 64) (hr : r = .ZONE_FLAGS w ∨ r = .ZONE_TEMP w) :
    PollStep ws s (t.setReg r v) where
  changes := by
    refine h.changes.setReg r v ?_ ?_
    · rcases hr with rfl | rfl
      · exact (by decide : 6 < 1024)
      · exact (by decide : 4 < 1024)
    · rcases hr with rfl | rfl <;> · simp [blocks, Reg.ZONE_FLAGS, Reg.ZONE_TEMP]; omega
  kept q hq := by
    refine (t.reg_setReg_key r q v ?_).trans (h.kept q hq)
    rcases hr with rfl | rfl
    · exact (hq w hw).1
    · exact (hq w hw).2
  zones z hz := (State.zone_of_cal (t.setReg_cal r v) z).trans (h.zones z hz)
  length := by rw [State.setReg_cal]; exact h.length
  out := (t.setReg_out r v).trans h.out

theorem setFlag (h : PollStep ws s t) (n : Nat) (b : Bool) (hw : w ∈ ws) (hw64 : w < 64) : PollStep ws s (t.setBit (.ZONE_FLAGS w) n b) :=
  h.setReg _ hw hw64 (.inl rfl)

theorem post (h : PollStep ws s t) (c p a : Nat) (hp : p ≠ 7) : PollStep ws s (t.post c p a) where
  changes := h.changes.post c p a hp (by decide)
  kept q hq := (t.reg_post_low c p a q hp).trans (h.kept q hq)
  zones z hz := (State.zone_of_cal (t.post_cal c p a) z).trans (h.zones z hz)
  length := by rw [State.post_cal]; exact h.length
  out := (t.post_out c p a).trans h.out

theorem ite {c : Prop} [Decidable c] {a b : State} (ha : PollStep ws s a) (hb : PollStep ws s b) : PollStep ws s (if c then a else b) := by
  split <;> assumption

theorem pollZone (h : PollStep ws s t) (temps : List (Nat × Nat × Nat)) (hw : w ∈ ws) (hw64 : w < 64) : PollStep ws s (t.pollZone temps w) := by
  unfold State.pollZone
  refine h.ite ?_
  split
  · have hlost := h.setFlag 1 true hw hw64
    exact hlost.ite ((hlost.modZone hw _).post _ _ _ (by decide))
  next reading _ =>
    extract_lets theta s1 beyond s2 s3 s4 moved
    have hread : PollStep ws s s2 := (((h.modZone hw _).setFlag 1 false hw hw64).setReg _ hw hw64 (.inr rfl)).setFlag 0 _ hw hw64
    have hshown : PollStep ws s s4 := ((hread.post _ _ _ (by decide)).ite hread).modZone hw _
    exact (hshown.modZone hw _).ite hshown

theorem pollZones (h : PollStep ws s t) (temps : List (Nat × Nat × Nat)) {vs : List Nat} (hvs : vs ⊆ ws) (hws : ∀ w ∈ ws, w < 64) :
    PollStep ws s (vs.foldl (fun s w => s.pollZone temps w) t) :=
  List.foldlRecOn vs _ h fun _ hu w hw => hu.pollZone temps (hvs hw) (hws w (hvs hw))

end PollStep

/-- An element outside the records of the zones is set by no poll. -/
theorem unpolled_of_key {ws : List Nat} {r : Reg} (hws : ∀ w ∈ ws, w < 64) (hr : 0x7140 * 1024 ≤ r.key) : Unpolled ws r := fun w hw => by
  have := hws w hw
  simp only [Reg.key, Reg.ZONE_FLAGS, Reg.ZONE_TEMP] at hr ⊢
  omega

/-- The settings of a zone are set by no poll. -/
theorem unpolled_setting (ws : List Nat) (z : Nat) {sub : Nat} (hsub : sub < 4) : Unpolled ws ⟨0x7100 + z, sub⟩ := fun w _ => by
  simp only [Reg.key, Reg.ZONE_FLAGS, Reg.ZONE_TEMP]
  omega

/-- What the polls of other zones showed is no element of a zone. -/
theorem unpolled_zoneFlags {ws : List Nat} {z : Nat} (hz : z ∉ ws) : Unpolled ws (.ZONE_FLAGS z) := fun w hw => by
  have : z ≠ w := fun heq => hz (heq ▸ hw)
  simp only [Reg.key, Reg.ZONE_FLAGS, Reg.ZONE_TEMP]
  omega

namespace PollStep

variable {ws : List Nat} {s t : State}

theorem zoneOf (h : PollStep ws s t) (hws : ∀ w ∈ ws, w < 64) (link module : Nat) : t.zoneOf link module = s.zoneOf link module :=
  h.kept _ (unpolled_of_key hws (by simp only [Reg.key, Reg.CAL_MODULE_ZONE]; omega))

theorem enumerated (h : PollStep ws s t) : t.enumerated = s.enumerated := by
  rw [State.enumerated, (h.changes.1 .spire (by decide) : t.spire = s.spire)]; rfl

theorem zoneModules (h : PollStep ws s t) (hws : ∀ w ∈ ws, w < 64) (z : Nat) : t.zoneModules z = s.zoneModules z := by
  have hzone := h.zoneOf hws
  simp only [State.zoneOf] at hzone
  simp only [State.zoneModules, h.enumerated, hzone]

/-- The source of a zone reads the same after any polls. -/
theorem zoneReading (h : PollStep ws s t) (hws : ∀ w ∈ ws, w < 64) (z : Nat) (temps : List (Nat × Nat × Nat)) :
    t.zoneReading z temps = s.zoneReading z temps := by
  have hsource : t.reg (.CAL_ZONE_SOURCE z) = s.reg (.CAL_ZONE_SOURCE z) := h.kept _ (unpolled_setting ws z (by decide))
  have hntc : t.reg (.CAL_ZONE_NTC z) = s.reg (.CAL_ZONE_NTC z) := h.kept _ (unpolled_setting ws z (by decide))
  have htemp : ∀ k, t.reg (.LAN_NTC_TEMP k) = s.reg (.LAN_NTC_TEMP k) := fun k =>
    h.kept _ (unpolled_of_key hws (by simp only [Reg.key, Reg.LAN_NTC_TEMP]; omega))
  have hlogic : t.reg .SYS_LOGIC_TJ = s.reg .SYS_LOGIC_TJ := h.kept _ (unpolled_of_key hws (by decide))
  simp only [State.zoneReading, State.regInt, h.enumerated, h.zoneOf hws, hsource, hntc, htemp, hlogic]

theorem zoneOffset (h : PollStep ws s t) (z : Nat) : t.regInt (.CAL_ZONE_OFFSET z) = s.regInt (.CAL_ZONE_OFFSET z) := by
  have hoffset : t.reg (.CAL_ZONE_OFFSET z) = s.reg (.CAL_ZONE_OFFSET z) := h.kept _ (unpolled_setting ws z (by decide))
  rw [State.regInt, hoffset]; rfl

end PollStep

/-- θ of a zone set and shown, its source in order (R221). -/
def State.setTheta (s : State) (z : Nat) (theta : Int) : State :=
  ((s.modZone z fun x => { x with theta := theta, lostPosted := false }).setBit (.ZONE_FLAGS z) 1 false).setInt (.ZONE_TEMP z) theta

/-- A zone beyond the span of a module's sets shown, and posted once (R222). -/
def State.showSpan (s : State) (z : Nat) (theta : Int) (posted : Bool) : State :=
  let shown := s.setBit (.ZONE_FLAGS z) 0 (s.beyondSpan z theta)
  let told := if s.beyondSpan z theta ∧ posted = false then shown.post 0x7007 3 (z + ofSigned 16 theta * 64) else shown
  told.modZone z fun x => { x with spanPosted := s.beyondSpan z theta }

theorem State.pollZone_of_reading {s : State} {z : Nat} {reading : Int} {temps : List (Nat × Nat × Nat)}
    (hmodules : (s.zoneModules z).isEmpty = false) (hreading : s.zoneReading z temps = some reading) :
    s.pollZone temps z =
      if s.reg .CAL_REBLEND_STEP ≤ (reading + s.regInt (.CAL_ZONE_OFFSET z) - (s.zone z).blendTheta).natAbs then
        ((s.setTheta z (reading + s.regInt (.CAL_ZONE_OFFSET z))).showSpan z (reading + s.regInt (.CAL_ZONE_OFFSET z))
          (s.zone z).spanPosted).requestPass z
      else (s.setTheta z (reading + s.regInt (.CAL_ZONE_OFFSET z))).showSpan z (reading + s.regInt (.CAL_ZONE_OFFSET z)) (s.zone z).spanPosted := by
  rw [State.pollZone, hmodules, hreading]; rfl

theorem State.setTheta_zone {s : State} {z : Nat} (hzones : z < s.cal.zones.length) (theta : Int) :
    ((s.setTheta z theta).zone z).theta = theta := by
  rw [State.zone_of_cal (s := s.modZone z fun x => { x with theta := theta, lostPosted := false }) (by simp [State.setTheta]),
    State.zone_modZone_same hzones]

theorem State.setTheta_flag (s : State) {z : Nat} (hz : z < 64) (theta : Int) : bitOf ((s.setTheta z theta).reg (.ZONE_FLAGS z)) 1 = false := by
  rw [State.setTheta, State.setInt, State.reg_setReg_other _ _ _ _ (by exact (by decide : 4 < 1024)) (by exact (by decide : 6 < 1024))
    (by simp [Reg.ZONE_FLAGS, Reg.ZONE_TEMP])]
  exact State.bitOf_setBit_same _ _ (by rw [zoneFlags_bits hz]; decide)

/-- Showing the span leaves θ and the flag of the source. -/
theorem State.showSpan_frame (s : State) {z : Nat} (hz : z < 64) (theta : Int) (posted : Bool) :
    ((s.showSpan z theta posted).zone z).theta = (s.zone z).theta ∧
      bitOf ((s.showSpan z theta posted).reg (.ZONE_FLAGS z)) 1 = bitOf (s.reg (.ZONE_FLAGS z)) 1 := by
  unfold State.showSpan
  extract_lets shown told
  have hcal : told.cal = s.cal := by unfold told; split <;> simp [shown]
  have hreg : told.reg (.ZONE_FLAGS z) = shown.reg (.ZONE_FLAGS z) := by
    unfold told
    split
    · exact State.reg_post_low _ _ _ _ _ (by decide)
    · rfl
  constructor
  · exact Eq.trans (State.modZone_theta told z z fun _ => rfl) (congrArg CalZone.theta (State.zone_of_cal hcal z))
  · rw [State.modZone, State.modCal_reg, hreg]
    exact s.bitOf_setBit_above _ (by decide) (by rw [zoneFlags_bits hz]; decide)

theorem State.requestPass_theta (s : State) (z : Nat) : ((s.requestPass z).zone z).theta = (s.zone z).theta :=
  s.modZone_theta z z fun _ => rfl

/-- A poll of a zone whose source reads sets θ to the reading and its offset, and clears the flag of a lost source (R221). -/
theorem State.pollZone_follows {s : State} {z : Nat} {reading : Int} {temps : List (Nat × Nat × Nat)} (hz : z < 64)
    (hzones : z < s.cal.zones.length) (hmodules : (s.zoneModules z).isEmpty = false) (hreading : s.zoneReading z temps = some reading) :
    ((s.pollZone temps z).zone z).theta = reading + s.regInt (.CAL_ZONE_OFFSET z) ∧
      bitOf ((s.pollZone temps z).reg (.ZONE_FLAGS z)) 1 = false := by
  have htheta : ∀ theta posted, (((s.setTheta z theta).showSpan z theta posted).zone z).theta = theta := fun theta posted => by
    rw [((s.setTheta z theta).showSpan_frame hz theta posted).1, State.setTheta_zone hzones]
  have hflag : ∀ theta posted, bitOf (((s.setTheta z theta).showSpan z theta posted).reg (.ZONE_FLAGS z)) 1 = false := fun theta posted => by
    rw [((s.setTheta z theta).showSpan_frame hz theta posted).2, s.setTheta_flag hz]
  rw [State.pollZone_of_reading hmodules hreading]
  split
  · rw [State.requestPass_theta, State.requestPass_reg]
    exact ⟨htheta _ _, hflag _ _⟩
  · exact ⟨htheta _ _, hflag _ _⟩

/-! Background operations (R156, R159) -/

/-- A background operation takes a slot and joins its queue: work of Belfry. -/
theorem BelfryStep.addBackground {s t : State} (h : BelfryStep s t) (code brick aux epoch clocks : Nat) :
    BelfryStep s (t.addBackground code brick aux epoch clocks) := by
  unfold State.addBackground
  extract_lets slot o s1
  have hput : BelfryStep s s1 := h.modBelfry _ rfl
  exact ((hput.trace _).makeReady _).showQueues

theorem insertSlot_perm (o : BelOp) (l : List BelOp) : (insertSlot o l).Perm (o :: l) := by
  induction l with
  | nil => exact .refl _
  | cons p ps ih =>
    unfold insertSlot
    split
    · exact .refl _
    · exact (ih.cons p).trans (.swap o p ps)

/-- Operations of a code in the slots. -/
def State.opsOf (s : State) (code : Nat) : Nat := (s.belfry.slots.filter fun o => o.code == code).length

/-- A change of an operation that keeps its code keeps the number of each code. -/
theorem State.opsOf_modOp (s : State) (slot code : Nat) {f : BelOp → BelOp} (hf : ∀ o, (f o).code = o.code) :
    (s.modOp slot f).opsOf code = s.opsOf code := by
  have hcode : ∀ o : BelOp, (if o.slot = slot then f o else o).code = o.code := fun o => by split <;> simp [hf]
  simp only [State.opsOf, State.modOp, State.modBelfry_belfry, List.filter_map, List.length_map]
  exact congrArg List.length (List.filter_congr fun o _ => by simp [hcode])

theorem State.opsOf_of_slots {s t : State} (h : t.belfry.slots = s.belfry.slots) (code : Nat) : t.opsOf code = s.opsOf code := by
  rw [State.opsOf, h]; rfl

theorem State.makeReady_opsOf (s : State) (o : BelOp) (code : Nat) : (s.makeReady o).opsOf code = s.opsOf code :=
  (State.opsOf_of_slots (State.trace_slots ..) code).trans (s.opsOf_modOp o.slot code fun _ => rfl)

/-- A background operation adds one of its code. -/
theorem State.addBackground_opsOf (s : State) (code brick aux epoch clocks : Nat) :
    (s.addBackground code brick aux epoch clocks).opsOf code = s.opsOf code + 1 := by
  unfold State.addBackground
  extract_lets slot o s1
  rw [State.opsOf_of_slots (State.showQueues_slots _), State.makeReady_opsOf, State.opsOf_of_slots (State.trace_slots ..)]
  have hperm := (insertSlot_perm o s.belfry.slots).filter fun q => q.code == code
  rw [State.opsOf, State.opsOf, show s1.belfry.slots = insertSlot o s.belfry.slots from rfl, hperm.length_eq, List.filter_cons_of_pos (by simp [o]),
    List.length_cons]

/-! SCRUB operations (R236) -/

/-- The issue of SCRUB operations: what is queued and what is in the slots stay one number, and nothing is sent. -/
structure ScrubStep (s t : State) : Prop where
  changes : OnlyChanges [.belfry, .cal, .drum] (blocks [5]) s t
  out : t.out = s.out
  total : t.cal.scrub.length + t.opsOf 9 = s.cal.scrub.length + s.opsOf 9

theorem ScrubStep.refl (s : State) : ScrubStep s s := ⟨onlyChanges_refl s, rfl, rfl⟩

theorem ScrubStep.trans {s t u : State} (h : ScrubStep s t) (h' : ScrubStep t u) : ScrubStep s u :=
  ⟨h.changes.trans h'.changes, h'.out.trans h.out, h'.total.trans h.total⟩

/-- The first page queued takes a slot. -/
theorem ScrubStep.issue {s : State} {k m p : Nat} {rest : List (Nat × Nat × Nat)} (hscrub : s.cal.scrub = (k, m, p) :: rest) :
    ScrubStep s ((s.modCal fun c => { c with scrub := rest }).addBackground 9 p k m 1) := by
  have hadded := (BelfryStep.refl (s.modCal fun c => { c with scrub := rest })).addBackground 9 p k m 1
  have hcal : ((s.modCal fun c => { c with scrub := rest }).addBackground 9 p k m 1).cal = _ := hadded.changes.1 .cal (by decide)
  refine ⟨((onlyChanges_refl s).modCal _ (by decide)).trans (hadded.changes.mono (by decide) fun _ => id), hadded.out, ?_⟩
  rw [State.addBackground_opsOf, hcal, hscrub]
  simp only [State.modCal_cal, List.length_cons, State.opsOf, State.modCal_belfry]
  omega

theorem State.issueScrub_scrubStep (n : Nat) (s : State) : ScrubStep s (State.issueScrub n s) := by
  induction n generalizing s with
  | zero => exact .refl s
  | succ n ih =>
    unfold State.issueScrub
    split
    · exact .refl s
    next hscrub =>
      split
      · exact (ScrubStep.issue hscrub).trans (ih _)
      · exact .refl s

/-! Passes (R223, R224) -/

@[simp] theorem begun_slotsForBackground (s : State) (dt : Nat) : (begun s dt).slotsForBackground = s.slotsForBackground := by
  simp [State.slotsForBackground]

/-- The zone of a pass marked, before its operations are issued (R224). -/
def State.markPass (s : State) (z : Nat) (theta : Int) : State :=
  (s.modZone z fun x => { x with requested := false, pass := some theta, opsLeft := max 1 ((s.passClocks z + 4095) / 4096) }).setBit
    (.ZONE_FLAGS z) 2 true

/-- The operations of a pass are issued behind its mark. -/
theorem State.beginPass_belfryStep (s : State) (z : Nat) (theta : Int) : BelfryStep (s.markPass z theta) (s.beginPass z theta) :=
  (BelfryStep.refl _).foldl fun _ hu _ _ => hu.addBackground ..

/-- A zone with a request, a place for operations and modules starts its pass at θ, where the unit is in no pair (R224). -/
theorem State.startPass_of_requested {s : State} {z : Nat}
    (hidle : (s.zone z).requested = true ∧ (s.zone z).pass = none ∧ (s.zone z).ready = false) (hmodules : (s.zoneModules z).isEmpty = false)
    (hslots : s.slotsForBackground = true) (hpair : s.inPair = false) : s.startPass z = s.beginPass z (s.zone z).theta := by
  obtain ⟨hrequested, hpass, hready⟩ := hidle
  simp [State.startPass, State.pushPass, hrequested, hpass, hready, hmodules, hslots, hpair]

/-! Selector pages written back (R229) -/

/-- A selector page queued for its module, where its image is cached (R229). -/
def State.queuePage (s : State) (w : Nat × Nat × Nat) : State :=
  match s.calModule w.1 w.2.1 with
  | some c => s.queueTxn w.1 w.2.1 1 (0x800000 + w.2.2 * 4096) (imagePage c.copyA w.2.2) 4096 .selectorPage
  | none => s

/-- The pages a recalibration that commits holds back (R242). -/
def State.holdsPage (s : State) (w : Nat × Nat × Nat) : Bool := s.cal.recal.any fun r => r.committing && r.link == w.1 && r.module == w.2.1

theorem State.writeBack_of_permitted {s : State} (h : s.mayWriteModules = true) :
    s.writeBack = (s.cal.writebacks.filter fun w => !s.holdsPage w).foldl State.queuePage
      (s.modCal fun c => { c with writebacks := c.writebacks.filter s.holdsPage }) := by
  rw [State.writeBack, if_neg (by simp [h])]; rfl

/-- Pages written back: calibration keeps its zones and images, transactions join those of the links, and nothing is sent. -/
structure PageStep (s t : State) : Prop where
  changes : OnlyChanges [.cal, .spire] noRegs s t
  zones : t.cal.zones = s.cal.zones
  modules : t.cal.modules = s.cal.modules
  out : t.out = s.out

namespace PageStep

variable {s t : State}

theorem refl (s : State) : PageStep s s := ⟨onlyChanges_refl s, rfl, rfl, rfl⟩

theorem queuePage (h : PageStep s t) (w : Nat × Nat × Nat) : PageStep s (t.queuePage w) := by
  unfold State.queuePage
  split
  · exact ⟨h.changes.modLink _ _ (by decide), h.zones, h.modules, h.out⟩
  · exact h

theorem queuePages (h : PageStep s t) (ws : List (Nat × Nat × Nat)) : PageStep s (ws.foldl State.queuePage t) :=
  List.foldlRecOn ws _ h fun _ hu w _ => hu.queuePage w

theorem writeBack (h : PageStep s t) : PageStep s t.writeBack := by
  cases hmay : t.mayWriteModules with
  | false => rwa [State.writeBack, if_pos hmay]
  | true =>
    rw [State.writeBack_of_permitted hmay]
    have hheld : PageStep s (t.modCal fun c => { c with writebacks := c.writebacks.filter t.holdsPage }) :=
      ⟨h.changes.modCal _ (by decide), h.zones, h.modules, h.out⟩
    exact hheld.queuePages _

end PageStep

/-! The end of a pass (R223, R224) -/

theorem zonePasses_bits {z : Nat} (hz : z < 64) : dictBits (.ZONE_PASSES z) = 32 := by
  have hall : ((List.range 64).all fun z => dictBits (.ZONE_PASSES z) == 32) = true := by decide +kernel
  simpa using List.all_eq_true.1 hall z (List.mem_range.2 hz)

/-- The half a pass of a zone at θ writes (R223). -/
def State.liveHalf (s : State) (z : Nat) (theta : Int) : List LiveModule :=
  (s.zoneModules z).filterMap fun p => (s.calModule p.1 p.2).map fun c => s.liveModule c theta

/-- The inactive half of a zone written at θ, the zone waiting for its swap. -/
def State.readyHalf (s : State) (z : Nat) (theta : Int) : State := s.modZone z fun x => { x with
  inactive := s.liveHalf z theta, ready := true, blendTheta := theta, pass := none, lastPass := s.ticks }

/-- The end of a pass shown and counted, before any page is written back. -/
def State.landPass (s : State) (z : Nat) (theta : Int) : State :=
  (((s.readyHalf z theta).setBit (.ZONE_FLAGS z) 2 false).bump (.ZONE_PASSES z)).count .CALCNT_PASSES

theorem State.landPass_zone {s : State} {z : Nat} (hzones : z < s.cal.zones.length) (theta : Int) : (s.landPass z theta).zone z =
    { s.zone z with inactive := s.liveHalf z theta, ready := true, blendTheta := theta, pass := none, lastPass := s.ticks } := by
  have hcal : (s.landPass z theta).cal = (s.readyHalf z theta).cal := by
    rw [State.landPass, State.count_cal, State.bump_cal, State.setBit_cal]
  exact (State.zone_of_cal hcal z).trans (State.zone_modZone_same hzones _)

/-- The counters of a pass: that of calibration and that of the zone (R244). -/
theorem State.landPass_counts (s : State) {z : Nat} (hz : z < 64) (theta : Int) :
    (s.landPass z theta).reg .CALCNT_PASSES = (s.reg .CALCNT_PASSES + 1) % 2 ^ 32 ∧
      (s.landPass z theta).reg (.ZONE_PASSES z) = (s.reg (.ZONE_PASSES z) + 1) % 2 ^ 32 := by
  have hbits := zonePasses_bits hz
  have hflags : (Reg.ZONE_PASSES z).key ≠ (Reg.ZONE_FLAGS z).key := by simp [Reg.key, Reg.ZONE_PASSES, Reg.ZONE_FLAGS]
  have hcountFlags : Reg.CALCNT_PASSES.key ≠ (Reg.ZONE_FLAGS z).key := by simp only [Reg.key, Reg.CALCNT_PASSES, Reg.ZONE_FLAGS]; omega
  have hcountPasses : Reg.CALCNT_PASSES.key ≠ (Reg.ZONE_PASSES z).key := by simp only [Reg.key, Reg.CALCNT_PASSES, Reg.ZONE_PASSES]; omega
  have hsummary : (Reg.ZONE_PASSES z).key ≠ Reg.DRM_FAULT_SUMMARY.key := by simp only [Reg.key, Reg.ZONE_PASSES, Reg.DRM_FAULT_SUMMARY]; omega
  unfold State.landPass
  constructor
  · rw [State.reg_count_same _ _ _ (by decide) (by decide), State.bump, State.reg_setReg_key _ _ _ _ hcountPasses, State.setBit,
      State.reg_setReg_key _ _ _ _ hcountFlags]
    rfl
  · rw [State.reg_count_other _ _ _ _ hcountPasses.symm hsummary, State.bump, State.reg_setReg_same _ _ _ (by rw [hbits]; decide), hbits,
      State.setBit, State.reg_setReg_key _ _ _ _ hflags]
    rfl

theorem OnlyChanges.landPass {s t : State} (h : OnlyChanges [.cal, .drum] (blocks [7]) s t) {z : Nat} (hz : z < 64) (theta : Int) :
    OnlyChanges [.cal, .drum] (blocks [7]) s (t.landPass z theta) := by
  have hblock : ∀ sub, blocks [7] ⟨0x7100 + z, sub⟩ = true := fun sub => by simp only [blocks, List.contains_cons]; simp; omega
  exact (((h.modCal _ (by decide)).setBit _ _ _ (by exact (by decide : 6 < 1024)) (hblock 6)).bump _ _ (by exact (by decide : 7 < 1024))
    (hblock 7)).count _ _ (by decide) (by decide) (by decide)

theorem State.landPass_out (s : State) (z : Nat) (theta : Int) : (s.landPass z theta).out = s.out := by
  rw [State.landPass, State.count_out, State.bump_out, State.setBit_out]; rfl

theorem State.completePass_of_done {s : State} {z : Nat} {theta : Int} (hpass : (s.zone z).pass = some theta) (hdone : (s.zone z).opsLeft = 0) :
    s.completePass z = if (s.landPass z theta).writeBack.calComplete then (s.landPass z theta).writeBack.milestone 7
      else (s.landPass z theta).writeBack := by
  rw [State.completePass, hpass]
  exact if_neg (not_not.2 hdone)

/-- A milestone sets its own element, and only that (R543). -/
theorem OnlyChanges.milestone {parts : List Part} {regs : Reg → Bool} {s t : State} (h : OnlyChanges parts regs s t) {n : Nat} (hn : n < 1024)
    (hr : regs (.SYS_START_MS n) = true) : OnlyChanges parts regs s (t.milestone n) := by
  unfold State.milestone
  split
  · exact h.setReg _ _ hn hr
  · exact h

@[simp] theorem State.milestone_cal (s : State) (n : Nat) : (s.milestone n).cal = s.cal := by unfold State.milestone; split <;> simp
@[simp] theorem State.milestone_out (s : State) (n : Nat) : (s.milestone n).out = s.out := by unfold State.milestone; split <;> simp

/-- What follows the end of a pass: pages written back, and perhaps the milestone of calibration (R540). -/
theorem State.completePass_behindLand {s : State} {z : Nat} {theta : Int} (hpass : (s.zone z).pass = some theta)
    (hdone : (s.zone z).opsLeft = 0) : OnlyChanges [.cal, .spire] (entries [0xF010]) (s.landPass z theta) (s.completePass z) ∧
      (s.completePass z).cal.zones = (s.landPass z theta).cal.zones ∧ (s.completePass z).out = (s.landPass z theta).out := by
  have hpages := (PageStep.refl (s.landPass z theta)).writeBack
  have hchanges : OnlyChanges [.cal, .spire] (entries [0xF010]) (s.landPass z theta) (s.landPass z theta).writeBack :=
    hpages.changes.mono (List.Subset.refl _) fun _ hr => by cases hr
  rw [State.completePass_of_done hpass hdone]
  split
  · exact ⟨hchanges.milestone (by decide) (by decide), (congrArg Cal.zones (State.milestone_cal ..)).trans hpages.zones,
      (State.milestone_out ..).trans hpages.out⟩
  · exact ⟨hchanges, hpages.zones, hpages.out⟩

/-! CAL_MODULE_STATUS and CAL_MODULE_ZONE (R224, R243) -/

/-- The records of modules are elements of 32 and of 8 bits; an operator writes the zone (R244). -/
theorem calModule_rows {link module : Nat} (hlink : link < 64) (hmodule : 1 ≤ module ∧ module ≤ 32) :
    dictBits (.CAL_MODULE_STATUS link module) = 32 ∧ dictBits (.CAL_MODULE_ZONE link module) = 8 ∧
      writeLevel (.CAL_MODULE_ZONE link module) = some 1 := by
  have hall : ((List.range 64).all fun k => (List.range 32).all fun m => dictBits (.CAL_MODULE_STATUS k (m + 1)) == 32 &&
      dictBits (.CAL_MODULE_ZONE k (m + 1)) == 8 && writeLevel (.CAL_MODULE_ZONE k (m + 1)) == some 1) = true := by decide +kernel
  have hrow := List.all_eq_true.1 (List.all_eq_true.1 hall link (List.mem_range.2 hlink)) (module - 1) (List.mem_range.2 (by omega))
  rw [show module - 1 + 1 = module by omega] at hrow
  simpa [and_assoc] using hrow

theorem State.setModuleStatus_reg (s : State) {link module : Nat} (hlink : link < 64) (hmodule : 1 ≤ module ∧ module ≤ 32)
    (revision state slot reason : Nat) : (s.setModuleStatus link module revision state slot reason).reg (.CAL_MODULE_STATUS link module) =
      (revision + state * 65536 + slot * 2 ^ 18 + reason * 2 ^ 24) % 2 ^ 32 := by
  obtain ⟨hbits, -, -⟩ := calModule_rows hlink hmodule
  have hstate : (Reg.CAL_MODULE_STATUS link module).key ≠ Reg.CAL_STATE.key := by simp only [Reg.key, Reg.CAL_MODULE_STATUS, Reg.CAL_STATE]; omega
  rw [State.setModuleStatus, State.showCalState, State.reg_setReg_key _ _ _ _ hstate, State.reg_setReg_same _ _ _ (by rw [hbits]; decide), hbits]

theorem OnlyChanges.setModuleStatus {parts : List Part} {regs : Reg → Bool} {s t : State} (h : OnlyChanges parts regs s t) {link module : Nat}
    (revision state slot reason : Nat) (hmodule : module ≤ 32) (hstatus : regs (.CAL_MODULE_STATUS link module) = true)
    (hcal : regs .CAL_STATE = true) : OnlyChanges parts regs s (t.setModuleStatus link module revision state slot reason) :=
  (h.setReg _ _ (by simp only [Reg.CAL_MODULE_STATUS]; omega) hstatus).setReg _ _ (by decide) hcal

@[simp] theorem State.setModuleStatus_drum (s : State) (link module revision state slot reason : Nat) :
    (s.setModuleStatus link module revision state slot reason).drum = s.drum := by simp [State.setModuleStatus, State.showCalState]
@[simp] theorem State.setModuleStatus_out (s : State) (link module revision state slot reason : Nat) :
    (s.setModuleStatus link module revision state slot reason).out = s.out := by simp [State.setModuleStatus, State.showCalState]

/-- Whether a page read again verifies and differs from the header of an image (R235). -/
def headerDiffers (copy : List (List Octet)) (page : List Octet) : Prop :=
  pageOk page = true ∧ ((calHeader (imagePage copy 0)).moduleId ≠ (calHeader page).moduleId ∨
    (calHeader (imagePage copy 0)).revision ≠ (calHeader page).revision ∨ (calHeader (imagePage copy 0)).check ≠ (calHeader page).check)

/-- A module whose image is asked for anew (R235). -/
def State.askFetch (s : State) (link module : Nat) (c : CalModule) : State :=
  (s.setModuleStatus link module (calHeader (imagePage c.copyA 0)).revision 1 c.slot 0).post 0x700C 3 (link + module * 64)

theorem State.recheckHeader_of_differing {s : State} {link module : Nat} {page : List Octet} {c : CalModule}
    (hcached : s.calModule link module = some c) (hdiffers : headerDiffers c.copyA page) :
    s.recheckHeader (link, module, page) = s.askFetch link module c := by
  simp only [State.recheckHeader, hcached]
  exact if_pos hdiffers

theorem State.recheckHeader_of_same {s : State} {link module : Nat} {page : List Octet} {c : CalModule}
    (hcached : s.calModule link module = some c) (hsame : ¬headerDiffers c.copyA page) : s.recheckHeader (link, module, page) = s := by
  simp only [State.recheckHeader, hcached]
  exact if_neg hsame

/-- A module that moves: both zones take a pass, each the partner of the other (R224). -/
def State.moveModule (s : State) (old zone : Nat) : State :=
  (((s.requestPass old).requestPass zone).modZone old fun z => { z with partner := some zone }).modZone zone fun z => { z with partner := some old }

theorem State.moveModule_reg (s : State) (old zone : Nat) (r : Reg) : (s.moveModule old zone).reg r = s.reg r := rfl
theorem State.moveModule_out (s : State) (old zone : Nat) : (s.moveModule old zone).out = s.out := rfl
theorem State.moveModule_drum (s : State) (old zone : Nat) : (s.moveModule old zone).drum = s.drum := rfl

theorem State.moveModule_zone {s : State} {old zone : Nat} (hzone : zone < s.cal.zones.length) (hne : old ≠ zone) :
    (s.moveModule old zone).zone zone = { s.zone zone with requested := true, partner := some old } := by
  unfold State.moveModule State.requestPass
  rw [State.zone_modZone_same (by simpa using hzone), State.zone_modZone_other _ hne.symm, State.zone_modZone_same (by simpa using hzone),
    State.zone_modZone_other _ hne.symm]

theorem OnlyChanges.moveModule {parts : List Part} {regs : Reg → Bool} {s t : State} (h : OnlyChanges parts regs s t) (old zone : Nat)
    (hcal : .cal ∈ parts) : OnlyChanges parts regs s (t.moveModule old zone) :=
  (((h.modCal _ hcal).modCal _ hcal).modCal _ hcal).modCal _ hcal

/-- A module moves where it is enumerated and its zone is a new one. -/
theorem State.moduleZone_of_valid (s : State) {link module zone : Nat} (hvalid : link < 64 ∧ 1 ≤ module ∧ module ≤ 32 ∧ zone < 64) :
    s.moduleZone link module zone =
      if s.zoneOf link module = zone ∨ s.enumerated.contains (link, module) = false then (s.setReg (.CAL_MODULE_ZONE link module) zone).reply 0
      else ((s.setReg (.CAL_MODULE_ZONE link module) zone).moveModule (s.zoneOf link module) zone).reply 0 := by
  obtain ⟨hlink, hlow, hhigh, hzone⟩ := hvalid
  rw [State.moduleZone, if_neg (by omega), if_neg (by omega), if_neg (by omega)]
  rfl

end Sys2Proof.Machine

namespace Sys2Proof.Proofs

open Machine

/-! TEMP_POLL, CAL_REFRESH_DUE, REBLEND_PASS_START, REBLEND_PASS_COMPLETE, SCRUB_PERIOD, HEADER_RECHECK and MODULE_ZONE_WRITE (R221, R223, R224,
R235, R236) -/

theorem exec_tempPoll (dt : Nat) (temps : List (Nat × Nat × Nat)) (s : State) : exec (.tempPoll dt temps) s = execTempPoll dt temps s := rfl

/-- The polls of all zones: those before a zone, the zone, and those behind it. -/
theorem range_split {n z : Nat} (hz : z < n) : ∃ before after, List.range n = before ++ z :: after ∧ z ∉ before ∧ z ∉ after := by
  obtain ⟨before, after, hsplit⟩ := List.append_of_mem (List.mem_range.2 hz)
  have hnodup := hsplit ▸ List.nodup_range (n := n)
  rw [List.nodup_middle, List.nodup_cons, List.mem_append, not_or] at hnodup
  exact ⟨before, after, hsplit, hnodup.1⟩

theorem tempPoll_followsSource (dt z : Nat) (reading : Int) (temps : List (Nat × Nat × Nat)) (s : State) (hz : z < 64)
    (hzones : s.cal.zones.length = 64) (hmodules : (s.zoneModules z).isEmpty = false) (hreading : s.zoneReading z temps = some reading) :
    Completes (.tempPoll dt temps) s fun s0 t => (t.zone z).theta = reading + s.regInt (.CAL_ZONE_OFFSET z) ∧
      bitOf (t.reg (.ZONE_FLAGS z)) 1 = false ∧ t.out = [] ∧ OnlyChanges [.cal, .drum, .log] (andDrum (blocks [7])) s0 t := by
  obtain ⟨before, after, hrange, hbefore, hafter⟩ := range_split hz
  have hzone64 : ∀ w ∈ List.range 64, w < 64 := fun w => List.mem_range.1
  have hbefore64 : ∀ w ∈ before, w < 64 := fun w hw => hzone64 w (by simp [hrange, hw])
  have hafter64 : ∀ w ∈ after, w < 64 := fun w hw => hzone64 w (by simp [hrange, hw])
  let u := before.foldl (fun s w => s.pollZone temps w) (begun s dt)
  let v := u.pollZone temps z
  let x := after.foldl (fun s w => s.pollZone temps w) v
  have hfirst : PollStep before (begun s dt) u := (PollStep.refl _).pollZones temps (List.Subset.refl _) hbefore64
  have hlast : PollStep after v x := (PollStep.refl _).pollZones temps (List.Subset.refl _) hafter64
  have hall : PollStep (List.range 64) (begun s dt) x := by
    have := (PollStep.refl (ws := List.range 64) (begun s dt)).pollZones temps (List.Subset.refl _) hzone64
    rwa [hrange, List.foldl_append, List.foldl_cons, ← hrange] at this
  obtain ⟨htheta, hflag⟩ : (v.zone z).theta = reading + s.regInt (.CAL_ZONE_OFFSET z) ∧ bitOf (v.reg (.ZONE_FLAGS z)) 1 = false := by
    rw [← show u.regInt (.CAL_ZONE_OFFSET z) = s.regInt (.CAL_ZONE_OFFSET z) from hfirst.zoneOffset z]
    refine State.pollZone_follows hz (by rw [hfirst.length, begun_cal, hzones]; exact hz) ?_ ?_
    · rw [hfirst.zoneModules hbefore64, begun_zoneModules, hmodules]
    · exact (hfirst.zoneReading hbefore64 z temps).trans hreading
  refine completes_of_effect (dt := dt) (u := x) rfl (exec_tempPoll ..) (by rw [hrange, List.foldl_append, List.foldl_cons]) ⟨?_, ?_, ?_, ?_⟩
  · rw [ended_zone, hlast.zones z hafter, htheta]
  · rw [ended_reg _ _ _ _ (by exact (by decide : 6 < 1024)) (drumRegs_of_block (by simp only [Reg.ZONE_FLAGS]; omega)),
      hlast.kept _ (unpolled_zoneFlags hafter), hflag]
  · rw [ended_out, hall.out]; rfl
  · exact (((onlyChanges_begun s dt).trans (hall.changes.mono (by decide) fun _ => id))).ended (by decide) (by decide)

theorem exec_calRefreshDue (dt z : Nat) (s : State) : exec (.calRefreshDue dt z) s = execCalRefreshDue dt z s := rfl
theorem exec_reblendPassStart (dt z : Nat) (s : State) : exec (.reblendPassStart dt z) s = execReblendPassStart dt z s := rfl
theorem exec_scrubPeriod (dt : Nat) (s : State) : exec (.scrubPeriod dt) s = execScrubPeriod dt s := rfl

theorem calRefreshDue_requests (dt z : Nat) (s : State) (hquiet : Quiet s) (hz : z < 64) (hzones : s.cal.zones.length = 64)
    (hmodules : (s.zoneModules z).isEmpty = false)
    (hdue : (s.zone z).lastPass + nsClocks (s.reg .CAL_REFRESH_S * 1000000000) ≤ s.ticks + dt) :
    Completes (.calRefreshDue dt z) s fun s0 t => t.zone z = { s.zone z with requested := true } ∧ t.out = [] ∧ OnlyChanges [.cal] noRegs s0 t := by
  refine completes_of_effect (dt := dt) (u := (begun s dt).requestPass z) rfl (exec_calRefreshDue ..) (if_pos ⟨hz, hmodules, hdue⟩) ⟨?_, ?_, ?_⟩
  · rw [ended_zone]
    exact State.zone_modZone_same (s := begun s dt) (by rw [begun_cal, hzones]; exact hz) _
  · rw [ended_out]; rfl
  · exact ((onlyChanges_begun s dt).modCal _ (by decide)).ended_quiet hquiet

theorem reblendPassStart_beginsPass (dt z : Nat) (s : State) (hz : z < 64) (hzones : s.cal.zones.length = 64)
    (hidle : (s.zone z).requested = true ∧ (s.zone z).pass = none ∧ (s.zone z).ready = false) (hmodules : (s.zoneModules z).isEmpty = false)
    (hslots : s.slotsForBackground = true) (hpair : s.inPair = false) :
    Completes (.reblendPassStart dt z) s fun s0 t => (t.zone z).pass = some (s.zone z).theta ∧ (t.zone z).requested = false ∧
      (t.zone z).opsLeft = max 1 ((s.passClocks z + 4095) / 4096) ∧ bitOf (t.reg (.ZONE_FLAGS z)) 2 = true ∧ t.out = [] ∧
      OnlyChanges [.belfry, .cal, .drum, .log] (andDrum (blocks [5, 7])) s0 t := by
  have hissued := (begun s dt).beginPass_belfryStep z (s.zone z).theta
  have hzone : ((begun s dt).beginPass z (s.zone z).theta).zone z =
      { s.zone z with requested := false, pass := some (s.zone z).theta, opsLeft := max 1 ((s.passClocks z + 4095) / 4096) } := by
    rw [State.zone_of_cal (hissued.changes.1 .cal (by decide)), State.markPass, State.zone_of_cal (State.setBit_cal ..),
      State.zone_modZone_same (by rw [begun_cal, hzones]; exact hz)]
    rfl
  have hmarked : OnlyChanges [.belfry, .cal, .drum, .log] (blocks [5, 7]) (s.elapse dt) ((begun s dt).markPass z (s.zone z).theta) :=
    ((onlyChanges_begun s dt).modCal _ (by decide)).setBit _ _ _ (by exact (by decide : 6 < 1024)) (by simp [blocks, Reg.ZONE_FLAGS]; omega)
  have hstart : (if z < 64 then (begun s dt).startPass z else begun s dt) = (begun s dt).beginPass z (s.zone z).theta :=
    (if_pos hz).trans (State.startPass_of_requested hidle hmodules ((begun_slotsForBackground s dt).trans hslots) hpair)
  refine completes_of_effect (dt := dt) rfl (exec_reblendPassStart ..) hstart ⟨?_, ?_, ?_, ?_, ?_, ?_⟩
  · rw [ended_zone, hzone]
  · rw [ended_zone, hzone]
  · rw [ended_zone, hzone]
  · rw [ended_reg _ _ _ _ (by exact (by decide : 6 < 1024)) (drumRegs_of_block (by simp only [Reg.ZONE_FLAGS]; omega)),
      hissued.changes.2 _ (by exact (by decide : 6 < 1024)) (by simp [blocks, Reg.ZONE_FLAGS]; omega)]
    exact State.bitOf_setBit_same _ _ (by rw [zoneFlags_bits hz]; decide)
  · rw [ended_out, hissued.out, State.markPass, State.setBit_out]; rfl
  · exact (hmarked.trans (hissued.changes.mono (by decide) fun _ => blocks_of_mem (by decide))).ended (by decide) (by decide)

theorem scrubPeriod_queuesPages (dt : Nat) (s : State) :
    Completes (.scrubPeriod dt) s fun s0 t => t.cal.scrub.length + (t.belfry.slots.filter fun o => o.code == 9).length =
        (s.cal.modules.map fun c => c.copyA.length).sum + (s.belfry.slots.filter fun o => o.code == 9).length ∧ t.out = [] ∧
      OnlyChanges [.belfry, .cal, .drum, .log] (andDrum (blocks [5])) s0 t := by
  let all := (s.cal.modules.map fun c => (List.range c.copyA.length).map fun p => (c.link, c.module, p)).flatten
  have hall : all.length = (s.cal.modules.map fun c => c.copyA.length).sum := by simp [all, List.length_flatten, Function.comp_def]
  have hqueued : OnlyChanges [.belfry, .cal, .drum, .log] (blocks [5]) (s.elapse dt) ((begun s dt).modCal fun c => { c with scrub := all }) :=
    (onlyChanges_begun s dt).modCal _ (by decide)
  have hissued := State.issueScrub_scrubStep all.length ((begun s dt).modCal fun c => { c with scrub := all })
  refine completes_of_effect (dt := dt) rfl (exec_scrubPeriod ..) rfl ⟨?_, ?_, ?_⟩
  · rw [ended_cal, ended_belfry, ← hall]
    refine hissued.total.trans ?_
    rw [State.opsOf, State.modCal_belfry, begun_slots]; rfl
  · rw [ended_out]; exact hissued.out
  · exact (hqueued.trans (hissued.changes.mono (by decide) fun _ => id)).ended (by decide) (by decide)

theorem exec_reblendPassComplete (dt z : Nat) (s : State) : exec (.reblendPassComplete dt z) s = execReblendPassComplete dt z s := rfl

theorem reblendPassComplete_readiesHalf (dt z : Nat) (theta : Int) (s : State) (hz : z < 64) (hzones : s.cal.zones.length = 64)
    (hpass : (s.zone z).pass = some theta) (hdone : (s.zone z).opsLeft = 0) :
    Completes (.reblendPassComplete dt z) s fun s0 t => (t.zone z).ready = true ∧ (t.zone z).pass = none ∧ (t.zone z).blendTheta = theta ∧
      (t.zone z).lastPass = s.ticks + dt ∧ t.reg .CALCNT_PASSES = (s.reg .CALCNT_PASSES + 1) % 2 ^ 32 ∧
      t.reg (.ZONE_PASSES z) = (s.reg (.ZONE_PASSES z) + 1) % 2 ^ 32 ∧ t.out = [] ∧
      OnlyChanges [.cal, .spire, .drum, .log] (andDrum (fun r => blocks [7] r || entries [0xF010] r)) s0 t := by
  obtain ⟨hbehind, hcal, hout⟩ := State.completePass_behindLand (s := begun s dt) hpass hdone
  obtain ⟨hpasses, hzonePasses⟩ := (begun s dt).landPass_counts hz theta
  have hzone := State.landPass_zone (s := begun s dt) (z := z) (by rw [begun_cal, hzones]; exact hz) theta
  rw [← show ((begun s dt).completePass z).zone z = ((begun s dt).landPass z theta).zone z by rw [State.zone, hcal]; rfl] at hzone
  have hlanded : OnlyChanges [.cal, .drum] (blocks [7]) (s.elapse dt) ((begun s dt).landPass z theta) := (onlyChanges_begun s dt).landPass hz theta
  have hchanges : OnlyChanges [.cal, .spire, .drum, .log] (fun r => blocks [7] r || entries [0xF010] r) (s.elapse dt) ((begun s dt).completePass z) :=
    (hlanded.mono (by decide) fun r hr => by simp [hr]).trans (hbehind.mono (by decide) fun r hr => by simp [hr])
  refine completes_of_effect (dt := dt) rfl (exec_reblendPassComplete ..) (if_pos hz) ⟨?_, ?_, ?_, ?_, ?_, ?_, ?_, ?_⟩
  · rw [ended_zone, hzone]
  · rw [ended_zone, hzone]
  · rw [ended_zone, hzone]
  · rw [ended_zone, hzone]; rfl
  · rw [ended_reg _ _ _ _ (by decide) (by decide), hbehind.2 _ (by decide) (by decide), hpasses]; rfl
  · have hother : entries [0xF010] (.ZONE_PASSES z) = false := by simp [entries, Reg.ZONE_PASSES]; omega
    rw [ended_reg _ _ _ _ (by exact (by decide : 7 < 1024)) (drumRegs_of_block (by simp only [Reg.ZONE_PASSES]; omega)),
      hbehind.2 _ (by exact (by decide : 7 < 1024)) hother, hzonePasses]
    rfl
  · rw [ended_out, hout, State.landPass_out]; rfl
  · exact hchanges.ended (by decide) (by decide)

theorem exec_headerRecheck (dt : Nat) (pages : List (Nat × Nat × List Octet)) (s : State) :
    exec (.headerRecheck dt pages) s = execHeaderRecheck dt pages s := rfl
theorem exec_moduleZoneWrite (dt who link module zone : Nat) (s : State) :
    exec (.moduleZoneWrite dt who link module zone) s = execModuleZoneWrite dt who link module zone s := rfl

theorem headerRecheck_comparesHeader (dt link module : Nat) (page : List Octet) (c : CalModule) (s : State) (htakes : Takes s 3)
    (hvalid : link < 64 ∧ 1 ≤ module ∧ module ≤ 32) (hcached : s.calModule link module = some c) :
    Completes (.headerRecheck dt [(link, module, page)]) s fun s0 t =>
      (if pageOk page = true ∧ ((calHeader (imagePage c.copyA 0)).moduleId ≠ (calHeader page).moduleId ∨
          (calHeader (imagePage c.copyA 0)).revision ≠ (calHeader page).revision ∨ (calHeader (imagePage c.copyA 0)).check ≠ (calHeader page).check)
        then t.reg (.CAL_MODULE_STATUS link module) = ((calHeader (imagePage c.copyA 0)).revision + 65536 + c.slot * 2 ^ 18) % 2 ^ 32 ∧
          Posted t 0x700C 3 (link + module * 64)
        else t.dict = s.dict ∧ t.drum = s.drum) ∧ t.out = [] ∧
      OnlyChanges [.drum, .log] (andDrum (fun r => among [.CAL_MODULE_STATUS link module] r || among [.CAL_STATE] r)) s0 t := by
  obtain ⟨hquiet, hmin⟩ := htakes
  obtain ⟨hlink, hmodule⟩ := hvalid
  have hcached' : (begun s dt).calModule link module = some c := hcached
  by_cases hdiffers : headerDiffers c.copyA page
  · have hasked : OnlyChanges [.drum, .log] (fun r => among [.CAL_MODULE_STATUS link module] r || among [.CAL_STATE] r) (s.elapse dt)
        ((begun s dt).askFetch link module c) :=
      ((onlyChanges_begun s dt).setModuleStatus _ _ _ _ hmodule.2 (by simp [among]) (by simp [among])).post _ _ _ (by decide) (by decide)
    refine completes_of_effect (dt := dt) rfl (exec_headerRecheck ..) (State.recheckHeader_of_differing hcached' hdiffers) ⟨?_, ?_, ?_⟩
    · refine (if_pos hdiffers).mpr ⟨?_, ?_⟩
      · rw [ended_reg _ _ _ _ (by simp only [Reg.CAL_MODULE_STATUS]; omega) (drumRegs_of_block (by simp only [Reg.CAL_MODULE_STATUS]; omega)),
          State.askFetch, State.reg_post_low _ _ _ _ _ (by decide), State.setModuleStatus_reg _ hlink hmodule]
        simp
      · refine posted_ended_last rfl ?_ (.inl ?_)
        · rw [State.posted_of_drum (State.setModuleStatus_drum ..), State.posted_of_quiet dt hquiet]; decide
        · rwa [hasked.2 .DRM_MIN_PRIORITY (by decide) (by simp [among, Reg.DRM_MIN_PRIORITY, Reg.CAL_MODULE_STATUS, Reg.CAL_STATE]; omega)]
    · rw [ended_out, State.askFetch, State.post_out, State.setModuleStatus_out]; rfl
    · exact hasked.ended (by decide) (by decide)
  · have hended : (begun s dt).settle = begun s dt := State.settle_quiet _ hquiet
    refine completes_of_effect (dt := dt) (u := begun s dt) rfl (exec_headerRecheck ..) (State.recheckHeader_of_same hcached' hdiffers) ⟨?_, ?_, ?_⟩
    · exact (if_neg hdiffers).mpr ⟨(congrArg State.dict hended :), (congrArg State.drum hended :)⟩
    · rw [ended_out]; rfl
    · exact (onlyChanges_begun s dt).ended_quiet hquiet

theorem moduleZoneWrite_movesModule (dt who link module zone : Nat) (s : State) (hquiet : Quiet s) (hwho : 1 ≤ (s.elapse dt).levelOf who)
    (hvalid : link < 64 ∧ 1 ≤ module ∧ module ≤ 32 ∧ zone < 64) :
    Completes (.moduleZoneWrite dt who link module zone) s fun s0 t => t.reg (.CAL_MODULE_ZONE link module) = zone ∧
      (s.enumerated.contains (link, module) = true → s.zoneOf link module ≠ zone → s.cal.zones.length = 64 →
        (t.zone zone).requested = true ∧ (t.zone zone).partner = some (s.zoneOf link module)) ∧ t.out = [.reply 0] ∧
      OnlyChanges [.cal] (among [.CAL_MODULE_ZONE link module]) s0 t := by
  obtain ⟨hlink, hlow, hhigh, hzone⟩ := id hvalid
  obtain ⟨-, hbits, hlevel⟩ := calModule_rows hlink ⟨hlow, hhigh⟩
  have hsub : (Reg.CAL_MODULE_ZONE link module).sub < 1024 := by simp only [Reg.CAL_MODULE_ZONE]; omega
  have hdrum : drumRegs (.CAL_MODULE_ZONE link module) = false := drumRegs_of_block (by simp only [Reg.CAL_MODULE_ZONE]; omega)
  let written := (begun s dt).setReg (.CAL_MODULE_ZONE link module) zone
  have hset : written.reg (.CAL_MODULE_ZONE link module) = zone := by
    rw [State.reg_setReg_same _ _ _ (by rw [hbits]; decide), hbits]
    exact Nat.mod_eq_of_lt (by omega)
  have hwritten : OnlyChanges [.cal] (among [.CAL_MODULE_ZONE link module]) (s.elapse dt) written :=
    (onlyChanges_begun s dt).setReg _ _ hsub (by simp [among])
  have heffect := (State.asWriter_of_level (s := begun s dt) (fun s => s.moduleZone link module zone) hlevel hwho).trans
    (State.moduleZone_of_valid _ hvalid)
  by_cases hstays : (begun s dt).zoneOf link module = zone ∨ (begun s dt).enumerated.contains (link, module) = false
  · refine completes_of_effect (dt := dt) (u := written.reply 0) rfl (exec_moduleZoneWrite ..) (heffect.trans (if_pos hstays)) ⟨?_, ?_, ?_, ?_⟩
    · rw [ended_reg _ _ _ _ hsub hdrum, State.reply_reg, hset]
    · intro henumerated hnew _
      rcases hstays with hsame | habsent
      · exact absurd hsame hnew
      · exact absurd (habsent.symm.trans henumerated) (by decide)
    · rw [ended_out, State.reply_out, State.setReg_out]; rfl
    · exact (hwritten.emit _).ended_quiet (quiet_of_drum (by rw [State.emit_drum, State.setReg_drum, begun_drum]) hquiet)
  · refine completes_of_effect (dt := dt) (u := (written.moveModule (s.zoneOf link module) zone).reply 0) rfl (exec_moduleZoneWrite ..)
      (heffect.trans (if_neg hstays)) ⟨?_, ?_, ?_, ?_⟩
    · rw [ended_reg _ _ _ _ hsub hdrum, State.reply_reg, State.moveModule_reg, hset]
    · intro _ hnew hzones
      have hmoved := State.moveModule_zone (s := written) (zone := zone) (by rw [State.setReg_cal, begun_cal, hzones]; exact hzone) hnew
      rw [ended_zone, State.zone_of_cal (State.reply_cal ..), hmoved]
      exact ⟨rfl, rfl⟩
    · rw [ended_out, State.reply_out, State.moveModule_out, State.setReg_out]; rfl
    · exact ((hwritten.moveModule _ _ (by decide)).emit _).ended_quiet
        (quiet_of_drum (by rw [State.emit_drum, State.moveModule_drum, State.setReg_drum, begun_drum]) hquiet)

/-- Settles O23, command by command. What polls may move is `PollStep`, what operations of the background do to Belfry is `BelfryStep`, the
issue of SCRUB operations is `ScrubStep`, and the pages a finished pass writes back are `PageStep`. -/
theorem zonesAreBlendedAndChecked : Obligations.ZonesAreBlendedAndChecked :=
  ⟨tempPoll_followsSource, calRefreshDue_requests, reblendPassStart_beginsPass, reblendPassComplete_readiesHalf, scrubPeriod_queuesPages,
    headerRecheck_comparesHeader, moduleZoneWrite_movesModule⟩

end Sys2Proof.Proofs

namespace Sys2Proof.Machine

/-! What the dictionary service and the bridge may move -/

section OnlyChanges

variable {parts : List Part} {regs : Reg → Bool} {s t : State}

theorem OnlyChanges.modIdp (h : OnlyChanges parts regs s t) (f : Idp → Idp) (hidp : .idp ∈ parts) : OnlyChanges parts regs s (t.modIdp f) :=
  h.change rfl fun p hp => by
    cases p with
    | idp => exact absurd hidp hp
    | _ => rfl

theorem OnlyChanges.modMap (h : OnlyChanges parts regs s t) (f : SignalMap → SignalMap) (hsmap : .smap ∈ parts) :
    OnlyChanges parts regs s (t.modMap f) :=
  h.change rfl fun p hp => by
    cases p with
    | smap => exact absurd hsmap hp
    | _ => rfl

theorem OnlyChanges.modBrg (h : OnlyChanges parts regs s t) (f : Bridge → Bridge) (hbridge : .bridge ∈ parts) :
    OnlyChanges parts regs s (t.modBrg f) :=
  h.change rfl fun p hp => by
    cases p with
    | bridge => exact absurd hbridge hp
    | _ => rfl

theorem OnlyChanges.modBrgSession (h : OnlyChanges parts regs s t) (n : Nat) (f : BrgSession → BrgSession) (hbridge : .bridge ∈ parts) :
    OnlyChanges parts regs s (t.modBrgSession n f) := h.modBrg _ hbridge

end OnlyChanges

@[simp] theorem begun_link (s : State) (dt k : Nat) : (begun s dt).link k = s.link k := rfl
@[simp] theorem ended_bridge (s u : State) (dt : Nat) : (ended s dt u).bridge = u.bridge := u.settle_bridge
@[simp] theorem ended_link (s u : State) (dt k : Nat) : (ended s dt u).link k = u.link k := by simp [State.link]
@[simp] theorem ended_brg (s u : State) (dt n : Nat) : (ended s dt u).brg n = u.brg n := by simp [State.brg]

/-! Answers to sessions (R473) -/

/-- An answer sent, or left where its session will find it: nothing sent before is lost. -/
structure AnswerStep (s t : State) : Prop where
  changes : OnlyChanges [.idp, .smap] noRegs s t
  sent : s.out <+: t.out

namespace AnswerStep

variable {s t : State}

theorem refl (s : State) : AnswerStep s s := ⟨onlyChanges_refl s, List.prefix_refl _⟩

theorem modSession (h : AnswerStep s t) (n : Nat) (f : Session → Session) : AnswerStep s (t.modSession n f) :=
  ⟨h.changes.modIdp _ (by decide), h.sent⟩

theorem sendIdp (h : AnswerStep s t) (dest : IdpSource) (octets : List Octet) : AnswerStep s (t.sendIdp dest octets) := by
  unfold State.sendIdp
  split
  · exact ⟨h.changes.emit _, h.sent.trans (List.prefix_append _ _)⟩
  · split
    · exact ⟨h.changes.modMap (fun m => { m with ports := modNth m.ports dest.unitPort fun p => { p with queue := p.queue ++ [octets] } })
        (by decide), h.sent⟩
    · exact ⟨h.changes.modIdp _ (by decide), h.sent⟩

theorem respond (h : AnswerStep s t) (n op status : Nat) (payload : List Octet) : AnswerStep s (t.respond n op status payload) := by
  unfold State.respond
  split
  · exact h
  · exact (h.modSession _ _).sendIdp _ _

theorem finishRead (h : AnswerStep s t) (n status : Nat) (data : List Octet) : AnswerStep s (t.finishRead n status data) := by
  unfold State.finishRead
  split
  · exact h
  · split
    · exact (h.modSession _ _).respond _ _ _ _
    · exact h

theorem bridge (h : AnswerStep s t) : t.bridge = s.bridge := h.changes.1 .bridge (by decide)
theorem spire (h : AnswerStep s t) : t.spire = s.spire := h.changes.1 .spire (by decide)
theorem drum (h : AnswerStep s t) : t.drum = s.drum := h.changes.1 .drum (by decide)

end AnswerStep

/-! The bridge entries of a session (R422, R423) -/

theorem State.brg_session (s : State) (n : Nat) : (s.brg n).session = n := by
  unfold State.brg
  cases h : s.bridge.sessions.find? fun b => b.session == n with
  | none => rfl
  | some b => simpa using List.find?_some h

/-- The entries of a session read as they were changed. -/
theorem State.brg_modBrgSession_same (s : State) (n : Nat) {f : BrgSession → BrgSession} (hf : ∀ b, (f b).session = b.session) :
    (s.modBrgSession n f).brg n = f (s.brg n) := by
  have hn : (f (s.brg n)).session = n := (hf _).trans (s.brg_session n)
  unfold State.brg State.modBrgSession State.modBrg
  rw [List.find?_cons_of_pos (by simpa using hn)]
  rfl

theorem State.brg_of_bridge {s t : State} (h : t.bridge = s.bridge) (n : Nat) : t.brg n = s.brg n := by rw [State.brg, h]; rfl

/-- A session that waits on a TAG has aborted no transfer of that TAG (R427). -/
theorem State.not_aborted_of_brgWaits {s : State} {n tag : Nat} (h : s.brgWaits n tag = true) :
    ((s.brg n).transfer.any fun x => x.tag == tag && x.aborted) = false := by
  unfold State.brgWaits at h
  cases ht : (s.brg n).transfer with
  | none => rfl
  | some x =>
    simp only [ht, Bool.and_eq_true, Bool.not_eq_true'] at h
    simp [h.2]

/-- A transfer completes: its session shows the status and waits no more, its DOMAIN_READ is answered, and the bridge counts it (R423). -/
structure TransferEnd (n status : Nat) (s t : State) : Prop where
  changes : OnlyChanges [.bridge, .idp, .smap, .drum] (entries [0xC600]) s t
  brg : t.brg n = { s.brg n with status := status, transfer := none }
  count : t.reg .BRGCNT_BRG_TRANSFERS = (s.reg .BRGCNT_BRG_TRANSFERS + 1) % 2 ^ 32
  sent : s.out <+: t.out

theorem State.brgDone_transferEnd (s : State) (n status : Nat) : TransferEnd n status s (s.brgDone n status) := by
  let shown := s.modBrgSession n fun b => { b with status := status, transfer := none }
  have hanswer : AnswerStep shown (s.brgEnd n status) := (AnswerStep.refl shown).finishRead n status _
  have hended : OnlyChanges [.bridge, .idp, .smap, .drum] (entries [0xC600]) s (s.brgEnd n status) :=
    ((onlyChanges_refl s).modBrgSession n _ (by decide)).trans (hanswer.changes.mono (by decide) fun _ hr => by cases hr)
  refine ⟨hended.count _ _ (by decide) (by decide) (by decide), ?_, ?_, ?_⟩
  · exact (State.brg_of_bridge ((State.count_bridge ..).trans hanswer.bridge) n).trans (s.brg_modBrgSession_same n fun _ => rfl)
  · rw [State.brgDone, State.reg_count_same _ _ _ (by decide) (by decide), hanswer.changes.2 _ (by decide) rfl]; rfl
  · rw [State.brgDone, State.count_out]; exact hanswer.sent

/-! The transaction a response answers (R302, R307) -/

/-- The transaction is answered: its link waits for it no more. -/
def State.dropRead (s : State) (k module : Nat) (x : RegTxn) : State := s.modLink k fun l => { l with reads := l.reads.erase (module, x) }

theorem State.takeRead_of_alone {s : State} {k module tag op : Nat} {x : RegTxn} (hreads : (s.link k).reads = [(module, x)]) (htag : x.tag = tag)
    (hop : x.op = op) : s.takeRead k module tag op = some (x, s.dropRead k module x) := by
  simp [State.takeRead, State.dropRead, hreads, htag, hop]

theorem State.link_modLink_same {s : State} {k : Nat} (hk : k < s.spire.length) (f : SpireLink → SpireLink) :
    (s.modLink k f).link k = f (s.link k) := nth_modNth_same _ _ _ _ hk

theorem State.dropRead_link {s : State} {k : Nat} (hk : k < s.spire.length) (module : Nat) (x : RegTxn) :
    (s.dropRead k module x).link k = { s.link k with reads := (s.link k).reads.erase (module, x) } := State.link_modLink_same hk _

theorem State.dropRead_links (s : State) (k module : Nat) (x : RegTxn) : (s.dropRead k module x).spire.length = s.spire.length := by
  simp [State.dropRead, State.modLink, modNth]

theorem OnlyChanges.dropRead {parts : List Part} {regs : Reg → Bool} {s t : State} (h : OnlyChanges parts regs s t) (k module : Nat) (x : RegTxn)
    (hspire : .spire ∈ parts) : OnlyChanges parts regs s (t.dropRead k module x) := h.modLink k _ hspire

theorem State.link_of_spire {s t : State} (h : t.spire = s.spire) (k : Nat) : t.link k = s.link k := by rw [State.link, h]; rfl

/-! The log of far-side write errors (R305, R426) -/

/-- A write error entered in the log and counted, before 0xC001 is posted: at most two counters move. -/
structure ErrorLogged (e : PweEntry) (s t : State) : Prop where
  changes : OnlyChanges [.bridge, .cal, .drum] (entries [0xC600]) s t
  last : t.bridge.pwe.getLast? = some e
  count : t.reg .BRGCNT_BRG_PWE = (s.reg .BRGCNT_BRG_PWE + 1) % 2 ^ 32
  posted : t.posted ≤ s.posted + 2
  out : t.out = s.out

/-- The state in which an entry stands last in the log. -/
def State.enterError (s : State) (e : PweEntry) : State :=
  s.modBrg fun b => { b with pwe := (if decide (16 ≤ s.bridge.pwe.length) then b.pwe.drop 1 else b.pwe) ++ [e], pweSeq := (b.pweSeq + 1) % 2 ^ 32 }

theorem ErrorLogged.enter (s : State) (e : PweEntry) : ErrorLogged e s ((s.enterError e).count .BRGCNT_BRG_PWE) where
  changes := ((onlyChanges_refl s).modBrg _ (by decide)).count _ _ (by decide) (by decide) (by decide)
  last := by rw [State.count_bridge]; exact List.getLast?_concat ..
  count := by rw [State.reg_count_same _ _ _ (by decide) (by decide)]; rfl
  posted := (State.posted_count ..).trans (by exact Nat.le_succ _)
  out := State.count_out ..

/-- A full log loses its oldest entry, and the loss is counted. -/
theorem ErrorLogged.enterFull (s : State) (e : PweEntry) :
    ErrorLogged e s (((s.enterError e).count .BRGCNT_BRG_PWE).count .BRGCNT_BRG_PWE_OVERWRITTEN) where
  changes := (ErrorLogged.enter s e).changes.count _ _ (by decide) (by decide) (by decide)
  last := by rw [State.count_bridge]; exact (ErrorLogged.enter s e).last
  count := by rw [State.reg_count_other _ _ _ _ (by decide) (by decide)]; exact (ErrorLogged.enter s e).count
  posted := (State.posted_count ..).trans (Nat.succ_le_succ (State.posted_count ..))
  out := (State.count_out ..).trans (State.count_out ..)

/-- What the calibration notes of the page does not touch the log. -/
theorem ErrorLogged.modCal {e : PweEntry} {s t : State} (h : ErrorLogged e s t) (f : Cal → Cal) : ErrorLogged e s (t.modCal f) :=
  ⟨h.changes.modCal f (by decide), h.last, h.count, h.posted, h.out⟩

theorem ErrorLogged.ite {e : PweEntry} {c : Prop} [Decidable c] {s a b : State} (ha : ErrorLogged e s a) (hb : ErrorLogged e s b) :
    ErrorLogged e s (if c then a else b) := by
  split
  · exact ha
  · exact hb

theorem State.pweEnter_logs (s : State) (k module tag address len status : Nat) : ∃ e u, ErrorLogged e s u ∧
    (e.time, e.address, e.link, e.module) = (s.now, address, k, module) ∧ (e.status, e.len, e.tag, e.seq) = (status, len, tag, s.bridge.pweSeq) ∧
    s.pweEnter k module tag address len status =
      u.post 0xC001 4 (address + k * 2 ^ 24 + (module - 1) * 2 ^ 30 + (s.bridge.pweSeq % 16) * 2 ^ 35 + status % 8 * 2 ^ 39) := by
  unfold State.pweEnter
  extract_lets found session ended e full s1 s2 s3 page s4
  have hs3 : ErrorLogged e s s3 := .ite (.enterFull s e) (.enter s e)
  exact ⟨e, s4, .ite (hs3.modCal _) hs3, rfl, rfl, rfl⟩

theorem splLocked_bits {k : Nat} (hk : k < 64) : dictBits (.SPL_LOCKED k) ≠ 0 := by
  have hall : ((List.range 64).all fun k => dictBits (.SPL_LOCKED k) != 0) = true := by decide +kernel
  simpa using List.all_eq_true.1 hall k (List.mem_range.2 hk)

theorem State.sendUnlocked_drum (s : State) (k : Nat) : (s.sendUnlocked k).drum = s.drum :=
  ((s.modLink k fun l => { l with lock := none }).setReg_drum ..)

theorem State.sendUnlocked_spire (s : State) (k : Nat) : (s.sendUnlocked k).spire = modNth s.spire k fun l => { l with lock := none } :=
  ((s.modLink k fun l => { l with lock := none }).setReg_spire ..)

theorem State.sendUnlocked_lock {s : State} {k : Nat} (hk : k < s.spire.length) : ((s.sendUnlocked k).link k).lock = none := by
  rw [State.link, State.sendUnlocked_spire, nth_modNth_same _ _ _ _ hk]

theorem State.sendUnlocked_reg (s : State) {k : Nat} (hk : k < 64) : (s.sendUnlocked k).reg (.SPL_LOCKED k) = 0 :=
  (State.reg_setReg_same _ _ _ (splLocked_bits hk)).trans (Nat.zero_mod _)

theorem State.sendUnlocked_out (s : State) (k : Nat) : (s.sendUnlocked k).out = s.out ++ [.block k (controlBlock 0x32 [0, s.claim])] :=
  (State.emit_out ..).trans (congrArg (· ++ _) (State.setReg_out ..))

theorem OnlyChanges.sendUnlocked {parts : List Part} {regs : Reg → Bool} {s t : State} (h : OnlyChanges parts regs s t) (k : Nat)
    (hr : regs (.SPL_LOCKED k) = true) (hspire : .spire ∈ parts) : OnlyChanges parts regs s (t.sendUnlocked k) :=
  ((h.modLink k _ hspire).setReg _ _ (by exact (by decide : 6 < 1024)) hr).emit _

/-! The images of a module, and a selector octet put in both copies (R227, R229) -/

theorem State.calModule_modCalModule_same (s : State) {k module : Nat} {f : CalModule → CalModule}
    (hf : ∀ c, (f c).link = c.link ∧ (f c).module = c.module) : (s.modCalModule k module f).calModule k module = (s.calModule k module).map f := by
  have hsame : (fun c : CalModule => c.link == k && c.module == module) ∘ (fun c => if c.link = k && c.module == module then f c else c) =
      fun c => c.link == k && c.module == module := by
    funext c
    simp only [Function.comp]
    split
    · rw [(hf c).1, (hf c).2]
    · rfl
  simp only [State.calModule, State.modCalModule, State.modCal, List.find?_map, hsame]
  refine Option.map_congr fun c hc => if_pos ?_
  simpa using List.find?_some hc

/-- A page put down to be written back (R229). -/
def State.awaitPage (s : State) (w : Nat × Nat × Nat) : State := s.modCal fun x =>
  let y := { x with failed := x.failed.filter (· != w) }
  if x.writebacks.contains w then y else { y with writebacks := x.writebacks ++ [w] }

theorem State.awaitPage_keeps (s : State) (w : Nat × Nat × Nat) : (s.awaitPage w).cal.modules = s.cal.modules ∧
    (s.awaitPage w).cal.zones = s.cal.zones ∧ (s.awaitPage w).cal.recal = s.cal.recal := by
  simp only [State.awaitPage, State.modCal]
  split <;> exact ⟨rfl, rfl, rfl⟩

theorem State.mem_awaitPage (s : State) (w : Nat × Nat × Nat) : w ∈ (s.awaitPage w).cal.writebacks := by
  simp only [State.awaitPage, State.modCal]
  split
  next hmem => simpa using hmem
  next => exact List.mem_append_right _ (List.mem_singleton_self _)

/-- A selector octet put in both cached copies of an image: calibration alone changes, and its page waits to be written back. -/
structure SelectorPut (k module pixel v : Nat) (c : CalModule) (s t : State) : Prop where
  changes : OnlyChanges [.cal] noRegs s t
  cached : t.calModule k module = some { c with copyA := setSelector c.copyA pixel v, copyB := setSelector c.copyB pixel v }
  waits : (k, module, (selectorPlace c.copyA pixel).1) ∈ t.cal.writebacks
  zones : t.cal.zones = s.cal.zones
  recal : t.cal.recal = s.cal.recal
  out : t.out = s.out

theorem State.putSelector_selectorPut {s : State} {k module : Nat} {c : CalModule} (hcached : s.calModule k module = some c) (pixel v : Nat) :
    SelectorPut k module pixel v c s (s.putSelector k module pixel v) := by
  let put := s.modCalModule k module fun c => { c with copyA := setSelector c.copyA pixel v, copyB := setSelector c.copyB pixel v }
  let w := (k, module, (selectorPlace c.copyA pixel).1)
  have hput : put.calModule k module = some { c with copyA := setSelector c.copyA pixel v, copyB := setSelector c.copyB pixel v } :=
    (s.calModule_modCalModule_same (f := fun c => { c with copyA := setSelector c.copyA pixel v, copyB := setSelector c.copyB pixel v })
      fun _ => ⟨rfl, rfl⟩).trans (by rw [hcached]; rfl)
  have heffect : s.putSelector k module pixel v = put.awaitPage w := by simp only [State.putSelector, hcached]; rfl
  obtain ⟨hmodules, hzones, hrecal⟩ := put.awaitPage_keeps w
  rw [heffect]
  refine ⟨((onlyChanges_refl s).modCal _ (by decide)).modCal _ (by decide), ?_, put.mem_awaitPage w, hzones, hrecal, rfl⟩
  rw [State.calModule, hmodules]; exact hput

/-- Policy 1 apart, an emitter fault marks its set failed and moves no selector (R227). -/
theorem State.emitterFault_of_kept {s : State} {k module : Nat} {c : CalModule} (hcached : s.calModule k module = some c)
    (hpolicy : s.reg .CAL_SPARE_POLICY ≠ 1) (pixel set : Nat) :
    s.emitterFault k module pixel set = s.putSelector k module pixel (setBitTo (selectorOctet c.copyA pixel) (failedBit set) true) := by
  simp [State.emitterFault, hcached, hpolicy]

/-! Pages queued for their modules (R229) -/

theorem State.modLink_txns_subset (s : State) (k j : Nat) {f : SpireLink → SpireLink} (hf : ∀ l, l.txns ⊆ (f l).txns) :
    (s.link j).txns ⊆ ((s.modLink k f).link j).txns := by
  simp only [State.link, State.modLink, nth, modNth, List.getD_eq_getElem?_getD, List.getElem?_modify]
  cases s.spire[j]? with
  | none => exact List.Subset.refl _
  | some l =>
    by_cases hkj : k = j
    · simpa [hkj] using hf l
    · simp [hkj]

/-- Transactions queued behind those a link already has. -/
structure QueueStep (s t : State) : Prop where
  cal : t.cal = s.cal
  links : t.spire.length = s.spire.length
  txns : ∀ k, (s.link k).txns ⊆ (t.link k).txns

namespace QueueStep

variable {s t : State}

theorem refl (s : State) : QueueStep s s := ⟨rfl, rfl, fun _ => List.Subset.refl _⟩

theorem queueTxn (h : QueueStep s t) (link module op address : Nat) (data : List Octet) (len : Nat) (purpose : TxPurpose) :
    QueueStep s (t.queueTxn link module op address data len purpose) := by
  refine ⟨h.cal, by rw [← h.links]; simp [State.queueTxn, State.modLink, modNth], fun k => List.Subset.trans (h.txns k) ?_⟩
  exact t.modLink_txns_subset _ _ fun l => List.subset_append_left _ _

theorem queuePage (h : QueueStep s t) (w : Nat × Nat × Nat) : QueueStep s (t.queuePage w) := by
  unfold State.queuePage
  split
  · exact h.queueTxn ..
  · exact h

theorem queuePages (h : QueueStep s t) (ws : List (Nat × Nat × Nat)) : QueueStep s (ws.foldl State.queuePage t) :=
  List.foldlRecOn ws _ h fun _ hu w _ => hu.queuePage w

end QueueStep

/-- A link's queue holds the write of a page to a module. -/
def State.writesPage (s : State) (w : Nat × Nat × Nat) : Prop :=
  ∃ x ∈ (s.link w.1).txns, x.1 = w.2.1 ∧ x.2.op = 1 ∧ x.2.address = 0x800000 + w.2.2 * 4096

theorem State.queuePage_writesPage {s : State} {w : Nat × Nat × Nat} {c : CalModule} (hcached : s.calModule w.1 w.2.1 = some c)
    (hlink : w.1 < s.spire.length) : (s.queuePage w).writesPage w := by
  simp only [State.queuePage, hcached, State.writesPage, State.queueTxn, State.link_modLink_same hlink]
  exact ⟨_, List.mem_append_right _ (List.mem_singleton_self _), rfl, rfl, rfl⟩

theorem State.queuePages_writesPage {s : State} {w : Nat × Nat × Nat} {ws : List (Nat × Nat × Nat)} {c : CalModule} (hw : w ∈ ws)
    (hcached : s.calModule w.1 w.2.1 = some c) (hlink : w.1 < s.spire.length) : (ws.foldl State.queuePage s).writesPage w := by
  obtain ⟨before, after, rfl⟩ := List.append_of_mem hw
  have hbefore := (QueueStep.refl s).queuePages before
  have hafter := (QueueStep.refl ((before.foldl State.queuePage s).queuePage w)).queuePages after
  have hqueued : ((before.foldl State.queuePage s).queuePage w).writesPage w := by
    refine State.queuePage_writesPage (c := c) ?_ (hlink.trans_eq hbefore.links.symm)
    rw [State.calModule, hbefore.cal]; exact hcached
  rw [List.foldl_append, List.foldl_cons]
  obtain ⟨x, hx, hplace⟩ := hqueued
  exact ⟨x, hafter.txns _ hx, hplace⟩

/-- A command is what its effect makes of the state in which it begins. -/
theorem run_congr {s : State} {dt : Nat} {f g : State → State} (h : f (begun s dt) = g (begun s dt)) : run s dt f = run s dt g := by
  have h' : f { s.elapse dt with out := [] } = g { s.elapse dt with out := [] } := h
  rw [run, run, h']

theorem faultRecords_bits {k : Nat} (hk : k < 64) : dictBits (.SPLCNT_FAULT_RECORDS k) = 32 := by
  have hall : ((List.range 64).all fun k => dictBits (.SPLCNT_FAULT_RECORDS k) == 32) = true := by decide +kernel
  simpa using List.all_eq_true.1 hall k (List.mem_range.2 hk)

theorem faultRecords_block {k : Nat} (hk : k < 64) : blocks [8] (.SPLCNT_FAULT_RECORDS k) = true := by
  simp [blocks, Reg.SPLCNT_FAULT_RECORDS]; omega

theorem faultRecords_key {k : Nat} (hk : k < 64) {r : Reg} (hr : r.key < 0x8C00 * 1024 ∨ 0x8C40 * 1024 ≤ r.key) :
    r.key ≠ (Reg.SPLCNT_FAULT_RECORDS k).key := by
  simp only [Reg.key, Reg.SPLCNT_FAULT_RECORDS] at hr ⊢
  omega

/-- One fault record counted (R312). -/
def State.countRecord (s : State) (k : Nat) : State := s.count (.SPLCNT_FAULT_RECORDS k) 1

theorem OnlyChanges.countRecord {s t : State} {parts : List Part} (h : OnlyChanges parts (blocks [8]) s t) {k : Nat} (hk : k < 64)
    (hdrum : .drum ∈ parts) : OnlyChanges parts (blocks [8]) s (t.countRecord k) :=
  h.count _ _ (by exact (by decide : 16 < 1024)) (faultRecords_block hk) hdrum

theorem State.countRecord_reg (s : State) {k : Nat} (hk : k < 64) :
    (s.countRecord k).reg (.SPLCNT_FAULT_RECORDS k) = (s.reg (.SPLCNT_FAULT_RECORDS k) + 1) % 2 ^ 32 := by
  rw [State.countRecord, State.reg_count_same _ _ _ (by rw [faultRecords_bits hk]; decide) (faultRecords_key hk (by decide)).symm,
    faultRecords_bits hk]

theorem State.countRecord_reg_other (s : State) {k : Nat} (hk : k < 64) {r : Reg} (hr : r.key < 0x8C00 * 1024 ∨ 0x8C40 * 1024 ≤ r.key)
    (hsummary : r.key ≠ Reg.DRM_FAULT_SUMMARY.key) : (s.countRecord k).reg r = s.reg r :=
  State.reg_count_other _ _ _ _ (faultRecords_key hk hr) hsummary

@[simp] theorem State.countRecord_cal (s : State) (k : Nat) : (s.countRecord k).cal = s.cal := State.count_cal ..
@[simp] theorem State.countRecord_spire (s : State) (k : Nat) : (s.countRecord k).spire = s.spire := State.count_spire ..
@[simp] theorem State.countRecord_out (s : State) (k : Nat) : (s.countRecord k).out = s.out := State.count_out ..

/-! A lock the unit ends (R307, R423) -/

/-- An UNLOCK sent for a lock: its link waits for it, and a frame is counted. -/
structure UnlockSent (s t : State) : Prop where
  changes : OnlyChanges [.spire, .drum] (blocks [8]) s t
  links : t.spire.length = s.spire.length
  posted : t.posted ≤ s.posted + 1

theorem UnlockSent.modLink {s t : State} (h : UnlockSent s t) (k : Nat) (f : SpireLink → SpireLink) : UnlockSent s (t.modLink k f) :=
  ⟨h.changes.modLink k f (by decide), by rw [← h.links]; simp [State.modLink, modNth], h.posted⟩

theorem State.sendFrame_unlockSent {s t : State}
    (h : OnlyChanges [.spire, .drum] (blocks [8]) s t ∧ t.spire.length = s.spire.length ∧ t.drum = s.drum) {k : Nat} (hk : k < 64) (f : SpireFrame) (data : List Octet) (bad : Bool) : UnlockSent s (t.sendFrame k f data bad) := by
  obtain ⟨hchanges, hlinks, hdrum⟩ := h
  refine ⟨(hchanges.emit _).count _ _ (by exact (by decide : 1 < 1024)) (by simp [blocks, Reg.SPLCNT_FRAMES_SENT]; omega) (by decide), ?_, ?_⟩
  · rw [State.sendFrame, State.count_spire]; exact hlinks
  · exact (State.posted_count ..).trans_eq (congrArg (· + 1) (State.posted_of_drum hdrum))

theorem State.sendUnlock_unlockSent (s : State) {k : Nat} (hk : k < 64) (module session : Nat) : UnlockSent s (s.sendUnlock k module session) :=
  (((State.sendFrame_unlockSent ⟨(onlyChanges_refl s).modLink k _ (by decide), by simp [State.modLink, modNth], rfl⟩ hk _ _ _).modLink k _).modLink
    k _).modLink k _

/-- A lock ended by the unit: the link holds none, and at most one counter has posted. -/
structure LockForced (k : Nat) (s t : State) : Prop where
  changes : OnlyChanges [.spire, .drum] (blocks [8]) s t
  lock : (t.link k).lock = none
  shown : t.reg (.SPL_LOCKED k) = 0
  posted : t.posted ≤ s.posted + 1

theorem State.forceUnlock_lockForced (s : State) {k : Nat} (hk : k < 64) (hlink : k < s.spire.length) (x : LinkLock) :
    LockForced k s (s.forceUnlock k x) := by
  let cleared := s.modLink k fun l => { l with
    txns := l.txns.filter fun p => p.2.purpose != .bridge x.session && p.2.purpose != .unlock x.session }
  have hcleared : cleared.spire.length = s.spire.length := by simp [cleared, State.modLink, modNth]
  obtain ⟨hchanges, hlinks, hposted⟩ := cleared.sendUnlock_unlockSent hk x.module 0xFFFF
  refine ⟨?_, State.sendUnlocked_lock (hlink.trans_eq (hlinks.trans hcleared).symm), State.sendUnlocked_reg _ hk, ?_⟩
  · exact (((onlyChanges_refl s).modLink k _ (by decide)).trans hchanges).sendUnlocked k (by simp [blocks, Reg.SPL_LOCKED]; omega) (by decide)
  · exact (State.posted_of_drum (State.sendUnlocked_drum ..)).trans_le hposted

/-- A counter that posts, posts behind what waits already. -/
theorem State.count_incoming (s : State) (r : Reg) (n : Nat) : s.drum.incoming <+: (s.count r n).drum.incoming := by
  simp only [State.count]
  split
  next w hw => simp [State.postItem, counterWord_priority hw]
  next => simp

/-- A lock lost: its session shows it and waits for no transfer, the bridge counts it, and at most two words are posted behind the others (R423). -/
structure LockLost (session : Nat) (s t : State) : Prop where
  changes : OnlyChanges [.bridge, .idp, .smap, .drum] (entries [0xC600]) s t
  lock : (t.brg session).lock = 3
  transfer : (t.brg session).transfer = none
  count : t.reg .BRGCNT_BRG_LOCK_LOST = (s.reg .BRGCNT_BRG_LOCK_LOST + 1) % 2 ^ 32
  incoming : s.drum.incoming <+: t.drum.incoming
  posted : t.posted ≤ s.posted + 2

theorem State.lockLost_lockLost (s : State) (k cause session : Nat) : LockLost session s (s.lockLost k cause session) := by
  unfold State.lockLost
  extract_lets pending shown
  let told := if pending then shown.finishRead session 7 [] else shown
  have hanswer : AnswerStep shown told := by
    cases hpending : pending with
    | false => rw [show told = shown from if_neg (by simp [hpending])]; exact .refl shown
    | true => rw [show told = shown.finishRead session 7 [] from if_pos hpending]; exact (AnswerStep.refl shown).finishRead ..
  have hshown : shown.brg session = { s.brg session with lock := 3, transfer := none, status := if pending then 7 else (s.brg session).status } :=
    s.brg_modBrgSession_same session fun _ => rfl
  have hbrg : (((told.count .BRGCNT_BRG_LOCK_LOST).post 0xC003 4 (k + cause * 64 + session * 256)).brg session) = shown.brg session :=
    State.brg_of_bridge (by rw [State.post_bridge, State.count_bridge, hanswer.bridge]) session
  have htold : OnlyChanges [.bridge, .idp, .smap, .drum] (entries [0xC600]) s told :=
    ((onlyChanges_refl s).modBrgSession session _ (by decide)).trans (hanswer.changes.mono (by decide) fun _ hr => by cases hr)
  have hdrum : told.drum = s.drum := hanswer.drum
  refine ⟨(htold.count _ _ (by decide) (by decide) (by decide)).post _ _ _ (by decide) (by decide), ?_, ?_, ?_, ?_, ?_⟩
  · exact congrArg BrgSession.lock (hbrg.trans hshown)
  · exact congrArg BrgSession.transfer (hbrg.trans hshown)
  · rw [State.reg_post_low _ _ _ _ _ (by decide), State.reg_count_same _ _ _ (by decide) (by decide), hanswer.changes.2 _ (by decide) rfl]; rfl
  · rw [State.post_incoming, ← hdrum]
    exact (State.count_incoming ..).trans (List.prefix_append _ _)
  · rw [State.posted_post, ← State.posted_of_drum hdrum]
    exact Nat.succ_le_succ (State.posted_count ..)

end Sys2Proof.Machine

namespace Sys2Proof.Proofs

open Machine

theorem exec_readDataResponse (dt k module tag status : Nat) (data : List Octet) (s : State) :
    exec (.readDataResponse dt k module tag status data) s = execReadDataResponse dt k module tag status data s := rfl

theorem readDataResponse_givesData (dt k module tag n : Nat) (data : List Octet) (x : RegTxn) (s : State) (hk : k < 64)
    (hlinks : s.spire.length = 64) (hreads : (s.link k).reads = [(module, x)]) (hx : x.tag = tag ∧ x.op = 2 ∧ x.purpose = .bridge n)
    (hwaits : s.brgWaits n tag = true) :
    Completes (.readDataResponse dt k module tag 0 data) s fun s0 t => (t.brg n).status = 0 ∧ (t.brg n).data = data ∧
      (t.brg n).transfer = none ∧ (t.link k).reads = [] ∧ t.reg .BRGCNT_BRG_TRANSFERS = (s.reg .BRGCNT_BRG_TRANSFERS + 1) % 2 ^ 32 ∧
      Output.data data ∈ t.out ∧ OnlyChanges [.bridge, .idp, .smap, .spire, .drum, .log] (andDrum (entries [0xC600])) s0 t := by
  obtain ⟨htag, hop, hpurpose⟩ := hx
  let taken := (begun s dt).dropRead k module x
  let held := taken.modBrgSession n fun b => { b with modStatus := 0, data := data }
  obtain ⟨hdone, hbrg, hcount, hsent⟩ := held.brgDone_transferEnd n 0
  have hheld : OnlyChanges [.bridge, .idp, .smap, .spire, .drum, .log] (entries [0xC600]) (s.elapse dt) held :=
    ((onlyChanges_begun s dt).dropRead k module x (by decide)).modBrgSession n _ (by decide)
  have hchanges := hheld.trans (hdone.mono (by decide) fun _ => id)
  have hheldBrg : held.brg n = { s.brg n with modStatus := 0, data := data } := taken.brg_modBrgSession_same n fun _ => rfl
  refine completes_of_effect (dt := dt) (u := (held.brgDone n 0).emit (.data data)) rfl (exec_readDataResponse ..) ?_ ⟨?_, ?_, ?_, ?_, ?_, ?_, ?_⟩
  · have hstill : taken.brgWaits n tag = true := hwaits
    rw [State.takeRead_of_alone (s := begun s dt) hreads htag hop]
    simp only [hpurpose]
    exact if_pos hstill
  · rw [ended_brg, State.brg_of_bridge (State.emit_bridge ..), hbrg]
  · rw [ended_brg, State.brg_of_bridge (State.emit_bridge ..), hbrg, hheldBrg]
  · rw [ended_brg, State.brg_of_bridge (State.emit_bridge ..), hbrg]
  · have hspire : ((held.brgDone n 0).emit (.data data)).spire = taken.spire := (hdone.1 .spire (by decide) :)
    rw [ended_link, State.link_of_spire hspire, State.dropRead_link (by rw [begun_spire, hlinks]; exact hk), begun_link, hreads]
    simp
  · rw [ended_reg _ _ _ _ (by decide) (by decide), State.emit_reg, hcount]; rfl
  · rw [ended_out, State.emit_out]
    exact List.mem_append_right _ (List.mem_singleton_self _)
  · exact (hchanges.emit _).ended (by decide) (by decide)

theorem exec_writeErrorResponse (dt k module tag address len status : Nat) (s : State) :
    exec (.writeErrorResponse dt k module tag address len status) s = execWriteErrorResponse dt k module tag address len status s := rfl

theorem writeErrorResponse_logsError (dt k module tag address len status : Nat) (s : State) (htakes : Takes s 4) (hk : k < 64)
    (hmodule : 1 ≤ module) :
    Completes (.writeErrorResponse dt k module tag address len status) s fun s0 t =>
      t.bridge.pwe.getLast?.map (fun e => (e.time, e.address, e.link, e.module)) = some (s0.now, address, k, module) ∧
      t.bridge.pwe.getLast?.map (fun e => (e.status, e.len, e.tag, e.seq)) = some (status, len, tag, s.bridge.pweSeq) ∧
      t.reg .BRGCNT_BRG_PWE = (s.reg .BRGCNT_BRG_PWE + 1) % 2 ^ 32 ∧
      Posted t 0xC001 4 (address + k * 2 ^ 24 + (module - 1) * 2 ^ 30 + (s.bridge.pweSeq % 16) * 2 ^ 35 + status % 8 * 2 ^ 39) ∧
      t.out = [] ∧ OnlyChanges [.bridge, .cal, .drum, .log] (andDrum (entries [0xC600])) s0 t := by
  obtain ⟨hquiet, hmin⟩ := htakes
  obtain ⟨e, u, hlogged, hplace, hkind, heffect⟩ := (begun s dt).pweEnter_logs k module tag address len status
  have hchanges : OnlyChanges [.bridge, .cal, .drum, .log] (entries [0xC600]) (s.elapse dt) u :=
    (onlyChanges_begun s dt).trans (hlogged.changes.mono (by decide) fun _ => id)
  have hlast : (ended s dt (u.post 0xC001 4 (address + k * 2 ^ 24 + (module - 1) * 2 ^ 30 + (s.bridge.pweSeq % 16) * 2 ^ 35 +
      status % 8 * 2 ^ 39))).bridge.pwe.getLast? = some e := by rw [ended_bridge, State.post_bridge, hlogged.last]
  refine completes_of_effect (dt := dt) rfl (exec_writeErrorResponse ..) ((if_neg (by omega)).trans heffect) ⟨?_, ?_, ?_, ?_, ?_, ?_⟩
  · exact (congrArg _ hlast).trans (congrArg some hplace)
  · exact (congrArg _ hlast).trans (congrArg some hkind)
  · rw [ended_reg _ _ _ _ (by decide) (by decide), State.reg_post_low _ _ _ _ _ (by decide), hlogged.count, begun_reg]
  · refine posted_ended_last rfl ?_ (.inl ?_)
    · have hfew := hlogged.posted
      rw [State.posted_of_quiet dt hquiet] at hfew
      exact hfew.trans (by decide)
    · rwa [State.reg_post_low _ _ _ _ _ (by decide), hchanges.2 _ (by decide) (by decide)]
  · rw [ended_out, State.post_out, hlogged.out]; rfl
  · exact (hchanges.post _ _ _ (by decide) (by decide)).ended (by decide) (by decide)

theorem exec_lockResponse (dt k module tag status : Nat) (s : State) :
    exec (.lockResponse dt k module tag status) s = execLockResponse dt k module tag status s := rfl
theorem exec_unlockResponse (dt k module tag status : Nat) (s : State) :
    exec (.unlockResponse dt k module tag status) s = execUnlockResponse dt k module tag status s := rfl

theorem lockResponse_givesLock (dt k module tag n : Nat) (x : RegTxn) (s : State) (hreads : (s.link k).reads = [(module, x)])
    (hx : x.tag = tag ∧ x.op = 3 ∧ x.purpose = .lock n) (hwaits : s.brgWaits n tag = true) :
    Completes (.lockResponse dt k module tag 0) s fun s0 t => (t.brg n).lock = 2 ∧ (t.brg n).lockedLink = k ∧ (t.brg n).lockedModule = module ∧
      (t.brg n).status = 0 ∧ (t.brg n).transfer = none ∧ t.reg .BRGCNT_BRG_TRANSFERS = (s.reg .BRGCNT_BRG_TRANSFERS + 1) % 2 ^ 32 ∧
      OnlyChanges [.bridge, .idp, .smap, .spire, .drum, .log] (andDrum (entries [0xC600])) s0 t := by
  obtain ⟨htag, hop, hpurpose⟩ := hx
  let taken := (begun s dt).dropRead k module x
  let noted := taken.modBrgSession n fun b => { b with modStatus := 0 }
  let held := noted.modBrgSession n fun b => { b with lock := 2, lockedLink := k, lockedModule := module }
  obtain ⟨hdone, hbrg, hcount, -⟩ := held.brgDone_transferEnd n 0
  have hheld : OnlyChanges [.bridge, .idp, .smap, .spire, .drum, .log] (entries [0xC600]) (s.elapse dt) held :=
    (((onlyChanges_begun s dt).dropRead k module x (by decide)).modBrgSession n _ (by decide)).modBrgSession n _ (by decide)
  have hchanges := hheld.trans (hdone.mono (by decide) fun _ => id)
  have hheldBrg : held.brg n = { noted.brg n with lock := 2, lockedLink := k, lockedModule := module } :=
    noted.brg_modBrgSession_same n fun _ => rfl
  refine completes_of_effect (dt := dt) (u := held.brgDone n 0) rfl (exec_lockResponse ..) ?_ ⟨?_, ?_, ?_, ?_, ?_, ?_, ?_⟩
  · have hstill : taken.brgWaits n tag = true := hwaits
    rw [State.takeRead_of_alone (s := begun s dt) hreads htag hop]
    simp only [hpurpose]
    exact (if_neg (by decide)).trans (if_neg (not_or.2 ⟨ne_true_of_eq_false (State.not_aborted_of_brgWaits hstill),
      fun h => Bool.noConfusion (hstill.symm.trans h)⟩))
  · rw [ended_brg, hbrg, hheldBrg]
  · rw [ended_brg, hbrg, hheldBrg]
  · rw [ended_brg, hbrg, hheldBrg]
  · rw [ended_brg, hbrg]
  · rw [ended_brg, hbrg]
  · rw [ended_reg _ _ _ _ (by decide) (by decide), hcount]; rfl
  · exact hchanges.ended (by decide) (by decide)

theorem unlockResponse_sendsUnlocked (dt k module tag n since : Nat) (x : RegTxn) (s : State) (hk : k < 64) (hlinks : s.spire.length = 64)
    (hreads : (s.link k).reads = [(module, x)]) (hx : x.tag = tag ∧ x.op = 4 ∧ x.purpose = .unlock n)
    (hlock : (s.link k).lock = some ⟨module, n, since, true⟩) :
    Completes (.unlockResponse dt k module tag 0) s fun s0 t => (t.link k).lock = none ∧ t.reg (.SPL_LOCKED k) = 0 ∧
      t.out.head? = some (.block k (controlBlock 0x32 [0, s.claim])) ∧
      OnlyChanges [.bridge, .idp, .smap, .spire, .drum, .log] (andDrum fun r => among [.SPL_LOCKED k] r || entries [0xC600] r) s0 t := by
  obtain ⟨htag, hop, hpurpose⟩ := hx
  let taken := (begun s dt).dropRead k module x
  let told := (taken.modBrgSession n fun b => { b with modStatus := 0 }).sendUnlocked k
  let freed := told.modBrgSession n fun b => { b with lock := 0 }
  have htakenLock : (taken.link k).lock = some ⟨module, n, since, true⟩ := by
    rw [State.dropRead_link (by rw [begun_spire, hlinks]; exact hk), begun_link, hlock]
  have htold : OnlyChanges [.bridge, .idp, .smap, .spire, .drum, .log] (fun r => among [.SPL_LOCKED k] r || entries [0xC600] r) (s.elapse dt) told :=
    (((onlyChanges_begun s dt).dropRead k module x (by decide)).modBrgSession n _ (by decide)).sendUnlocked k (by simp [among]) (by decide)
  have htoldOut : told.out = [.block k (controlBlock 0x32 [0, s.claim])] := State.sendUnlocked_out ..
  have htoldReg : told.reg (.SPL_LOCKED k) = 0 := State.sendUnlocked_reg _ hk
  have htoldLock : (told.link k).lock = none :=
    State.sendUnlocked_lock (hk.trans_eq ((State.dropRead_links ..).trans hlinks).symm)
  let last := if taken.brgWaits n tag then freed.brgDone n 0 else told
  have hlast : OnlyChanges [.bridge, .idp, .smap, .drum] (entries [0xC600]) told last ∧ told.out <+: last.out := by
    obtain ⟨hdone, -, -, hsent⟩ := freed.brgDone_transferEnd n 0
    by_cases hwaits : taken.brgWaits n tag = true
    · rw [show last = freed.brgDone n 0 from if_pos hwaits]
      exact ⟨((onlyChanges_refl told).modBrgSession n _ (by decide)).trans hdone, hsent⟩
    · rw [show last = told from if_neg hwaits]
      exact ⟨onlyChanges_refl told, List.prefix_refl _⟩
  obtain ⟨hchanges, tail, htail⟩ := hlast
  refine completes_of_effect (dt := dt) (u := last) rfl (exec_unlockResponse ..) ?_ ⟨?_, ?_, ?_, ?_⟩
  · rw [State.takeRead_of_alone (s := begun s dt) hreads htag hop]
    simp only [hpurpose, TxPurpose.session, taken, htakenLock]
    rfl
  · rw [ended_link, State.link_of_spire (hchanges.1 .spire (by decide)), htoldLock]
  · rw [ended_reg _ _ _ _ (by exact (by decide : 6 < 1024)) (drumRegs_of_block (by simp only [Reg.SPL_LOCKED]; omega)),
      hchanges.2 _ (by exact (by decide : 6 < 1024)) (by simp [entries, Reg.SPL_LOCKED]; omega), htoldReg]
  · rw [ended_out, ← htail, htoldOut]; rfl
  · exact (htold.trans (hchanges.mono (by decide) fun r hr => by simp [hr])).ended (by decide) (by decide)

theorem exec_faultRecords (dt k module : Nat) (data : List Octet) (s : State) :
    exec (.faultRecords dt k module data) s = execFaultRecords dt k module data s := rfl

theorem faultRecords_postsOther (dt k module : Nat) (data : List Octet) (r : FaultRecord) (s : State) (htakes : Takes s 4) (hk : k < 64)
    (hmodule : 1 ≤ module) (hrecords : parseRecords 32 data = [r]) (hother : s.emitterRecord k module r = false) :
    Completes (.faultRecords dt k module data) s fun s0 t =>
      t.reg (.SPLCNT_FAULT_RECORDS k) = (s.reg (.SPLCNT_FAULT_RECORDS k) + 1) % 2 ^ 32 ∧
      Posted t 0x8805 4 (k + (module - 1) * 64 + r.cls * 2048 + r.detail % 2 ^ 23 * 2 ^ 19) ∧ t.out = [] ∧
      OnlyChanges [.drum, .log] (andDrum (blocks [8])) s0 t := by
  obtain ⟨hquiet, hmin⟩ := htakes
  have hother' : (begun s dt).emitterRecord k module r = false := hother
  have hcounted : OnlyChanges [.drum, .log] (blocks [8]) (s.elapse dt) ((begun s dt).countRecord k) :=
    (onlyChanges_begun s dt).countRecord hk (by decide)
  refine completes_of_effect (dt := dt)
    (u := ((begun s dt).countRecord k).post 0x8805 4 (k + (module - 1) * 64 + r.cls * 2048 + r.detail % 2 ^ 23 * 2 ^ 19))
    rfl (exec_faultRecords ..) ((if_neg (by omega)).trans ?_) ⟨?_, ?_, ?_, ?_⟩
  · simp only [hrecords, List.filter_cons, List.filter_nil, hother', Bool.false_eq_true, if_false, Bool.not_false, if_true]
    rfl
  · rw [ended_reg _ _ _ _ (by exact (by decide : 16 < 1024)) (drumRegs_of_block (by simp only [Reg.SPLCNT_FAULT_RECORDS]; omega)),
      State.reg_post_low _ _ _ _ _ (by decide), State.countRecord_reg _ hk, begun_reg]
  · refine posted_ended_last rfl ?_ (.inl ?_)
    · have hfew : ((begun s dt).countRecord k).posted ≤ (begun s dt).posted + 1 := State.posted_count ..
      rw [State.posted_of_quiet dt hquiet] at hfew
      exact hfew.trans (by decide)
    · rwa [State.reg_post_low _ _ _ _ _ (by decide), hcounted.2 _ (by decide) (by decide)]
  · rw [ended_out, State.post_out, State.countRecord_out]; rfl
  · exact (hcounted.post _ _ _ (by decide) (by decide)).ended (by decide) (by decide)

/-- What a record of an emitter fault does where policy 1 is not in force: it is counted, its set is marked, and the page is written back at once
unless a pass of the zone is requested or runs. -/
theorem faultRecords_marksSet {dt k module : Nat} {data : List Octet} {r : FaultRecord} {c : CalModule} {s : State} (hk : k < 64)
    (hmodule : 1 ≤ module) (hrecords : parseRecords 32 data = [r]) (hemitter : s.emitterRecord k module r = true)
    (hcached : s.calModule k module = some c) (hpolicy : s.reg .CAL_SPARE_POLICY ≠ 1) : ∃ marked,
    SelectorPut k module r.pixel (setBitTo (selectorOctet c.copyA r.pixel) (failedBit r.set) true) c ((begun s dt).countRecord k) marked ∧
      execFaultRecords dt k module data s = run s dt fun _ =>
        if (s.zone (s.zoneOf k module)).requested || (s.zone (s.zoneOf k module)).pass.isSome then marked else marked.writeBack := by
  have hemitter' : (begun s dt).emitterRecord k module r = true := hemitter
  have hcached' : ((begun s dt).countRecord k).calModule k module = some c := by
    rw [State.calModule, State.countRecord_cal]; exact hcached
  have hpolicy' : ((begun s dt).countRecord k).reg .CAL_SPARE_POLICY ≠ 1 := by
    rwa [State.countRecord_reg_other _ hk (by decide) (by decide)]
  have hput := State.putSelector_selectorPut hcached' r.pixel (setBitTo (selectorOctet c.copyA r.pixel) (failedBit r.set) true)
  rw [← State.emitterFault_of_kept hcached' hpolicy'] at hput
  refine ⟨_, hput, run_congr ((if_neg (by omega)).trans ?_)⟩
  have hzone : (((begun s dt).countRecord k).emitterFault k module r.pixel r.set).zone (s.zoneOf k module) = s.zone (s.zoneOf k module) := by
    rw [State.zone, hput.zones, State.countRecord_cal]; rfl
  simp only [hrecords, List.filter_cons, List.filter_nil, hemitter', if_true, Bool.not_true, Bool.false_eq_true, if_false, sortBy, insertBy,
    List.foldl_cons, List.foldl_nil, List.isEmpty_cons, Bool.false_or, ← hzone]
  rfl

theorem faultRecords_leavesPageToPass (dt k module : Nat) (data : List Octet) (r : FaultRecord) (c : CalModule) (s : State) (hk : k < 64)
    (hmodule : 1 ≤ module) (hrecords : parseRecords 32 data = [r]) (hemitter : s.emitterRecord k module r = true)
    (hcached : s.calModule k module = some c) (hpolicy : s.reg .CAL_SPARE_POLICY ≠ 1) (hrequested : (s.zone (s.zoneOf k module)).requested = true) :
    Completes (.faultRecords dt k module data) s fun s0 t => t.calModule k module = some { c with
        copyA := setSelector c.copyA r.pixel (setBitTo (selectorOctet c.copyA r.pixel) (failedBit r.set) true)
        copyB := setSelector c.copyB r.pixel (setBitTo (selectorOctet c.copyA r.pixel) (failedBit r.set) true) } ∧
      (k, module, (selectorPlace c.copyA r.pixel).1) ∈ t.cal.writebacks ∧ t.out = [] ∧
      OnlyChanges [.cal, .drum, .log] (andDrum (blocks [8])) s0 t := by
  obtain ⟨marked, hput, heffect⟩ := faultRecords_marksSet (dt := dt) hk hmodule hrecords hemitter hcached hpolicy
  refine completes_of_effect (dt := dt) (u := marked) rfl ((exec_faultRecords ..).trans heffect) (if_pos (by simp [hrequested])) ⟨?_, ?_, ?_, ?_⟩
  · rw [ended_calModule, hput.cached]
  · rw [ended_cal]; exact hput.waits
  · rw [ended_out, hput.out, State.countRecord_out]; rfl
  · exact (((onlyChanges_begun s dt).countRecord hk (by decide)).trans (hput.changes.mono (by decide) fun _ hr => by cases hr)).ended (by decide)
      (by decide)

theorem faultRecords_writesPageBack (dt k module : Nat) (data : List Octet) (r : FaultRecord) (c : CalModule) (s : State) (hk : k < 64)
    (hmodule : 1 ≤ module) (hrecords : parseRecords 32 data = [r]) (hemitter : s.emitterRecord k module r = true)
    (hcached : s.calModule k module = some c) (hpolicy : s.reg .CAL_SPARE_POLICY ≠ 1)
    (hidle : ((s.zone (s.zoneOf k module)).requested || (s.zone (s.zoneOf k module)).pass.isSome) = false)
    (hmay : s.mayWriteModules = true ∧ s.cal.recal = none ∧ k < s.spire.length) :
    Completes (.faultRecords dt k module data) s fun s0 t => t.calModule k module = some { c with
        copyA := setSelector c.copyA r.pixel (setBitTo (selectorOctet c.copyA r.pixel) (failedBit r.set) true)
        copyB := setSelector c.copyB r.pixel (setBitTo (selectorOctet c.copyA r.pixel) (failedBit r.set) true) } ∧
      t.cal.writebacks = [] ∧
      (t.link k).txns.any (fun x => x.1 == module && x.2.op == 1 && x.2.address == 0x800000 + (selectorPlace c.copyA r.pixel).1 * 4096) = true ∧
      t.out = [] ∧ OnlyChanges [.cal, .spire, .drum, .log] (andDrum (blocks [8])) s0 t := by
  obtain ⟨hwrites, hrecal, hlink⟩ := hmay
  obtain ⟨marked, hput, heffect⟩ := faultRecords_marksSet (dt := dt) hk hmodule hrecords hemitter hcached hpolicy
  have hmarked : OnlyChanges [.cal, .spire, .drum, .log] (blocks [8]) (s.elapse dt) marked :=
    ((onlyChanges_begun s dt).countRecord hk (by decide)).trans (hput.changes.mono (by decide) fun _ hr => by cases hr)
  have hwritesMarked : marked.mayWriteModules = true := by
    rw [State.mayWriteModules, hmarked.2 .TWN_CLAIM (by decide) (by decide)]; exact hwrites
  have hspire : marked.spire = s.spire := (hput.changes.1 .spire (by decide)).trans (State.countRecord_spire ..)
  have hback := (PageStep.refl marked).writeBack
  have hall : marked.writeBack = marked.cal.writebacks.foldl State.queuePage (marked.modCal fun c => { c with writebacks := [] }) := by
    have hfree : marked.holdsPage = fun _ => false := by
      funext w; rw [State.holdsPage, hput.recal, State.countRecord_cal]; simp [hrecal]
    rw [State.writeBack_of_permitted hwritesMarked, hfree]; simp
  have hqueued := (QueueStep.refl (marked.modCal fun c => { c with writebacks := [] })).queuePages marked.cal.writebacks
  rw [← hall] at hqueued
  refine completes_of_effect (dt := dt) (u := marked.writeBack) rfl ((exec_faultRecords ..).trans heffect) (if_neg (by simp [hidle]))
    ⟨?_, ?_, ?_, ?_, ?_⟩
  · rw [ended_calModule, State.calModule, hback.modules]; exact hput.cached
  · rw [ended_cal, hqueued.cal]; rfl
  · obtain ⟨x, hx, hplace⟩ := State.queuePages_writesPage (s := marked.modCal fun c => { c with writebacks := [] }) hput.waits hput.cached
      (hlink.trans_eq (congrArg List.length hspire).symm)
    rw [← hall] at hx
    rw [ended_link]
    exact List.any_eq_true.2 ⟨x, hx, by simp [hplace]⟩
  · rw [ended_out, hback.out, hput.out, State.countRecord_out]; rfl
  · exact (hmarked.trans (hback.changes.mono (by decide) fun _ hr => by cases hr)).ended (by decide) (by decide)

theorem exec_lockTimeLimit (dt k : Nat) (s : State) : exec (.lockTimeLimit dt k) s = execLockTimeLimit dt k s := rfl

theorem lockTimeLimit_endsLock (dt k : Nat) (x : LinkLock) (s : State) (htakes : Takes s 4) (hk : k < 64) (hlinks : s.spire.length = 64)
    (hlock : (s.link k).lock = some x) (hlong : x.since + nsTicks (1000 * s.reg .SPL_LOCK_MAX_US) ≤ s.ticks + dt) :
    Completes (.lockTimeLimit dt k) s fun s0 t => (t.link k).lock = none ∧ t.reg (.SPL_LOCKED k) = 0 ∧ (t.brg x.session).lock = 3 ∧
      (t.brg x.session).transfer = none ∧ Posted t 0x8806 4 (k + (x.module - 1) * 64) ∧
      t.reg .BRGCNT_BRG_LOCK_LOST = (s.reg .BRGCNT_BRG_LOCK_LOST + 1) % 2 ^ 32 ∧
      OnlyChanges [.bridge, .idp, .smap, .spire, .drum, .log] (andDrum fun r => blocks [8] r || entries [0xC600] r) s0 t := by
  obtain ⟨hquiet, hmin⟩ := htakes
  let forced := (begun s dt).forceUnlock k x
  let told := forced.post 0x8806 4 (k + (x.module - 1) * 64)
  have hforced : LockForced k (begun s dt) forced := (begun s dt).forceUnlock_lockForced hk (by rw [begun_spire, hlinks]; exact hk) x
  have hlost : LockLost x.session told (told.lockLost k 0 x.session) := told.lockLost_lockLost ..
  have hlock' : ((begun s dt).link k).lock = some x := hlock
  have htold : OnlyChanges [.bridge, .idp, .smap, .spire, .drum, .log] (fun r => blocks [8] r || entries [0xC600] r) (s.elapse dt) told :=
    ((onlyChanges_begun s dt).trans (hforced.changes.mono (by decide) fun r hr => by simp [hr])).post _ _ _ (by decide) (by decide)
  have hchanges := htold.trans (hlost.changes.mono (by decide) fun r hr => by simp [hr])
  refine completes_of_effect (dt := dt) (u := told.lockLost k 0 x.session) rfl (exec_lockTimeLimit ..) ?_ ⟨?_, ?_, ?_, ?_, ?_, ?_, ?_⟩
  · simp only [hlock']
    exact if_pos hlong
  · have hspire : (told.lockLost k 0 x.session).spire = forced.spire := (hlost.changes.1 .spire (by decide)).trans (State.post_spire ..)
    rw [ended_link, State.link_of_spire hspire, hforced.lock]
  · rw [ended_reg _ _ _ _ (by exact (by decide : 6 < 1024)) (drumRegs_of_block (by simp only [Reg.SPL_LOCKED]; omega)),
      hlost.changes.2 _ (by exact (by decide : 6 < 1024)) (by simp [entries, Reg.SPL_LOCKED]; omega), State.reg_post_low _ _ _ _ _ (by decide),
      hforced.shown]
  · rw [ended_brg, hlost.lock]
  · rw [ended_brg, hlost.transfer]
  · refine posted_ended_of_mem ?_ ?_ (.inl ?_)
    · have hmem : (⟨.single, 4, 0x8806, (k + (x.module - 1) * 64) % 2 ^ 42⟩ : DrumWord) ∈ told.drum.incoming.flatten := by
        simp [told, State.post_incoming]
      exact hlost.incoming.flatten.subset hmem
    · have hfew := hlost.posted
      have hone := hforced.posted
      rw [State.posted_post] at hfew
      rw [State.posted_of_quiet dt hquiet] at hone
      exact hfew.trans (by omega)
    · rwa [hchanges.2 _ (by decide) (by decide)]
  · rw [ended_reg _ _ _ _ (by decide) (by decide), hlost.count, State.reg_post_low _ _ _ _ _ (by decide), hforced.changes.2 _ (by decide) (by decide),
      begun_reg]
  · exact hchanges.ended (by decide) (by decide)

/-- Settles O29, one response or report at a time: what a transfer's end, a lock's end, a selector put in its image and a page queued do. -/
theorem registerResponsesArrive : Obligations.RegisterResponsesArrive :=
  ⟨readDataResponse_givesData, writeErrorResponse_logsError, fun dt k module tag n x s _ _ => lockResponse_givesLock dt k module tag n x s,
    unlockResponse_sendsUnlocked, faultRecords_postsOther, faultRecords_leavesPageToPass, faultRecords_writesPageBack, lockTimeLimit_endsLock⟩

end Sys2Proof.Proofs

namespace Sys2Proof.Machine

/-! Links as the dictionary shows them (R311, R312) -/

theorem entries_iff {is : List Nat} {r : Reg} : entries is r = true ↔ r.index ∈ is := by simp [entries]
theorem blocks_iff {ds : List Nat} {r : Reg} : blocks ds r = true ↔ r.index / 4096 ∈ ds := by simp [blocks]
theorem among_iff {rs : List Reg} {r : Reg} : among rs r = true ↔ r ∈ rs := by simp [among]

/-- The elements that show a link have 8 bits. -/
theorem spl_bits {k : Nat} (hk : k < 64) : dictBits (.SPL_STATE k) = 8 ∧ dictBits (.SPL_MODULES k) = 8 ∧ dictBits (.SPL_DOWN_CAUSE k) = 8 := by
  have hall : ((List.range 64).all fun k => dictBits (.SPL_STATE k) == 8 && dictBits (.SPL_MODULES k) == 8 &&
      dictBits (.SPL_DOWN_CAUSE k) == 8) = true := by decide +kernel
  simpa [and_assoc] using List.all_eq_true.1 hall k (List.mem_range.2 hk)

theorem splCounter_bits {k n : Nat} (hk : k < 64) (hn : 1 ≤ n ∧ n ≤ 17) : dictBits ⟨0x8C00 + k, n⟩ = 32 := by
  have hall : ((List.range 64).all fun k => (List.range 17).all fun n => dictBits ⟨0x8C00 + k, n + 1⟩ == 32) = true := by decide +kernel
  have hrow := List.all_eq_true.1 (List.all_eq_true.1 hall k (List.mem_range.2 hk)) (n - 1) (List.mem_range.2 (by omega))
  rw [show n - 1 + 1 = n by omega] at hrow
  simpa using hrow

theorem State.setState_reg (s : State) {k v : Nat} (hk : k < 64) (hv : v < 256) : (s.setReg (.SPL_STATE k) v).reg (.SPL_STATE k) = v := by
  obtain ⟨hbits, -, -⟩ := spl_bits hk
  rw [State.reg_setReg_same _ _ _ (by rw [hbits]; decide), hbits]
  exact Nat.mod_eq_of_lt hv

theorem linkCounter_key {k n : Nat} (hk : k < 64) (hn : n < 1024) : (⟨0x8C00 + k, n⟩ : Reg).key ≠ Reg.DRM_FAULT_SUMMARY.key := by
  simp only [Reg.key, Reg.DRM_FAULT_SUMMARY]; omega

/-- A counter of a link moves on. -/
theorem State.reg_countLink_same {s : State} {k n v : Nat} (hk : k < 64) (hn : 1 ≤ n ∧ n ≤ 17) (hv : s.reg ⟨0x8C00 + k, n⟩ = v) (j : Nat) :
    (s.count ⟨0x8C00 + k, n⟩ j).reg ⟨0x8C00 + k, n⟩ = (v + j) % 2 ^ 32 := by
  have hbits := splCounter_bits hk hn
  rw [State.reg_count_same _ _ _ (by rw [hbits]; decide) (linkCounter_key hk (by omega)), hbits, hv]

/-- The other counters of the link stay. -/
theorem State.reg_countLink_other {s : State} {k n m v : Nat} (hk : k < 64) (hm : m < 1024) (hne : m ≠ n)
    (hv : s.reg ⟨0x8C00 + k, m⟩ = v) (j : Nat) : (s.count ⟨0x8C00 + k, n⟩ j).reg ⟨0x8C00 + k, m⟩ = v :=
  (State.reg_count_other _ _ _ _ (by simp only [Reg.key]; omega) (linkCounter_key hk hm)).trans hv

/-- A control block that verifies, of the TYPE the command takes (R277). -/
theorem State.onBlock_of_parsed {s : State} {k type : Nat} {block : List Octet} {v : List Nat} (hk : k < 64) (hparse : parseBlock block = some v)
    (htype : nth v 0 0 = type) (f : List Nat → State → State) : s.onBlock k type block f = f v s := by
  simp [State.onBlock, Nat.not_le.2 hk, hparse, htype]

@[simp] theorem State.modLink_links (s : State) (k : Nat) (f : SpireLink → SpireLink) : (s.modLink k f).spire.length = s.spire.length := by
  simp [State.modLink, modNth]

/-- What a change of a link keeps of it, every link keeps. -/
theorem State.link_modLink_keeps {β : Type} (g : SpireLink → β) {f : SpireLink → SpireLink} (hf : ∀ l, g (f l) = g l) (s : State) (k j : Nat) :
    g ((s.modLink k f).link j) = g (s.link j) := nth_modNth_keeps g hf ..

/-! A link that waits for block lock (R284) -/

theorem OnlyChanges.linkSeek {parts : List Part} {regs : Reg → Bool} {s t : State} (h : OnlyChanges parts regs s t) (k : Nat)
    (hspire : .spire ∈ parts) (hstate : regs (.SPL_STATE k) = true) : OnlyChanges parts regs s (t.linkSeek k) := by
  unfold State.linkSeek
  split
  · exact (h.modLink k _ hspire).setReg _ _ (by exact (by decide : 3 < 1024)) hstate
  · exact h

/-- The search for block lock notes when the lock was gained, and nothing else of the link. -/
theorem State.linkSeek_keeps {β : Type} (g : SpireLink → β) (hg : ∀ (l : SpireLink) n, g { l with lockSince := n } = g l) (s : State) (k : Nat) :
    g ((s.linkSeek k).link k) = g (s.link k) := by
  unfold State.linkSeek
  split
  · rw [State.link_of_spire (State.setReg_spire ..)]
    exact State.link_modLink_keeps g (f := fun l => { l with lockSince := s.ticks }) (fun l => hg l _) ..
  · rfl

theorem State.linkSeek_state (s : State) {k : Nat} (hk : k < 64) : (s.linkSeek k).reg (.SPL_STATE k) =
    if s.reg (.SPL_STATE k) = 1 ∧ (s.link k).locked = true ∧ (s.link k).resting = false then 2 else s.reg (.SPL_STATE k) := by
  unfold State.linkSeek
  split
  · exact State.setState_reg _ hk (by decide)
  · rfl

theorem State.linkSeek_drum (s : State) (k : Nat) : (s.linkSeek k).drum = s.drum := by
  unfold State.linkSeek
  split
  · exact State.setReg_drum ..
  · rfl

theorem State.linkSeek_out (s : State) (k : Nat) : (s.linkSeek k).out = s.out := by
  unfold State.linkSeek
  split
  · exact State.setReg_out ..
  · rfl

/-! Enumeration and measurement (R285 to R289) -/

/-- READs queued for the modules of a link: its queue grows by as many, and only links change. -/
structure ReadsQueued (k n : Nat) (s t : State) : Prop where
  changes : OnlyChanges [.spire] noRegs s t
  links : t.spire.length = s.spire.length
  modules : (t.link k).modules = (s.link k).modules
  txns : (t.link k).txns.length = (s.link k).txns.length + n
  out : t.out = s.out

theorem ReadsQueued.queueTxn {s t : State} {k n : Nat} (hlink : k < s.spire.length) (h : ReadsQueued k n s t) (module op address : Nat)
    (data : List Octet) (len : Nat) (purpose : TxPurpose) : ReadsQueued k (n + 1) s (t.queueTxn k module op address data len purpose) := by
  obtain ⟨hchanges, hlinks, hmodules, htxns, hout⟩ := h
  have hlink' : k < t.spire.length := hlink.trans_eq hlinks.symm
  refine ⟨hchanges.modLink k _ (by decide), (State.modLink_links ..).trans hlinks, ?_, ?_, hout⟩
  · rw [State.queueTxn, State.link_modLink_same hlink']; exact hmodules
  · rw [State.queueTxn, State.link_modLink_same hlink', List.length_append, htxns]; rfl

/-- One READ of each descriptor is queued (R286; log entry 32). -/
theorem State.queueDescriptors_readsQueued {s : State} {k : Nat} (hlink : k < s.spire.length) (n : Nat) :
    ReadsQueued k n s ((List.range n).foldl (fun s m => s.queueTxn k (m + 1) 2 descAddress [] 32 .descriptor) s) := by
  induction n with
  | zero => exact ⟨onlyChanges_refl s, rfl, rfl, rfl, rfl⟩
  | succ n ih =>
    rw [List.range_succ, List.foldl_append]
    exact ih.queueTxn hlink ..

theorem OnlyChanges.sendEcho {parts : List Part} {regs : Reg → Bool} {s t : State} (h : OnlyChanges parts regs s t) (k module : Nat)
    (hspire : .spire ∈ parts) : OnlyChanges parts regs s (t.sendEcho k module) := (h.modLink k _ hspire).emit _

theorem State.sendEcho_link {s : State} {k : Nat} (hlink : k < s.spire.length) (module : Nat) : (s.sendEcho k module).link k =
    { s.link k with echoWait := some (module, (s.link k).echoSeq), echoSeq := ((s.link k).echoSeq + 1) % 65536 } := State.link_modLink_same hlink _

theorem State.sendEcho_modules (s : State) (k module : Nat) : ((s.sendEcho k module).link k).modules = (s.link k).modules :=
  State.link_modLink_keeps SpireLink.modules
    (f := fun l => { l with echoWait := some (module, (s.link k).echoSeq), echoSeq := ((s.link k).echoSeq + 1) % 65536 }) (fun _ => rfl) s k k

theorem State.sendEcho_out (s : State) (k module : Nat) : (s.sendEcho k module).out =
    s.out ++ [.block k (controlBlock 0x41 [module - 1, s.claim, (s.link k).echoSeq % 256, (s.link k).echoSeq / 256])] := rfl

theorem State.module_modModule_same {s : State} {k : Nat} (hlink : k < s.spire.length) (module : Nat) (f : SpireModule → SpireModule) :
    (s.modModule k module f).module k module = (s.module k module).map f := by
  unfold State.module
  split
  · rfl
  · rw [State.modModule, State.link_modLink_same hlink, modNth, List.getElem?_modify_eq]; rfl

theorem State.module_of_modules {s t : State} {k : Nat} (h : (t.link k).modules = (s.link k).modules) (module : Nat) :
    t.module k module = s.module k module := by rw [State.module, State.module, h]

/-- What one ECHO says of the arrival at a module, times two: the round trip less what is not on the way, and the skew of the modules before it
(R287). -/
def SpireLink.echoSample (l : SpireLink) (module : Nat) (m : SpireModule) (wait rtt : Nat) : Int :=
  (rtt : Int) - 48 - 56 - (m.turnaround : Int) - (wait : Int) +
    (l.modules.take (module - 1)).foldl (fun (a : Int) j => a + (j.fwdDown : Int) - (j.fwdUp : Int)) 0

/-- An ECHO answered: the module has the samples given, and the link waits for no reply (R287). -/
def State.takeSamples (s : State) (k module : Nat) (samples : List Int) : State :=
  (s.modLink k fun l => { l with echoWait := none }).modModule k module fun m => { m with samples := samples }

/-- A measurement goes on with the same module until it has 16 samples (R287). -/
theorem State.echoReply_of_few {s : State} {k module seq : Nat} {m : SpireModule} (hmeasuring : (s.link k).measuring = true)
    (hwait : (s.link k).echoWait = some (module, seq)) (hmodule : s.module k module = some m) (hfew : m.samples.length < 15) (wait rtt : Nat) :
    s.echoReply k module seq wait rtt = (s.takeSamples k module (m.samples ++ [(s.link k).echoSample module m wait rtt])).sendEcho k module := by
  have hgoes : ¬((s.link k).measuring = false ∨ (s.link k).echoWait ≠ some (module, seq)) := by simp [hmeasuring, hwait]
  rw [State.echoReply, if_neg hgoes]
  simp only [hmodule]
  exact if_pos (by rw [List.length_append]; exact Nat.succ_lt_succ hfew)

theorem State.takeSamples_module {s : State} {k : Nat} (hlink : k < s.spire.length) (module : Nat) (samples : List Int) :
    (s.takeSamples k module samples).module k module = (s.module k module).map fun m => { m with samples := samples } := by
  rw [State.takeSamples, State.module_modModule_same (by rw [State.modLink_links]; exact hlink),
    State.module_of_modules (State.link_modLink_keeps SpireLink.modules (f := fun l => { l with echoWait := none }) (fun _ => rfl) s k k)]

theorem State.takeSamples_echoSeq (s : State) (k module : Nat) (samples : List Int) :
    ((s.takeSamples k module samples).link k).echoSeq = (s.link k).echoSeq :=
  (State.link_modLink_keeps SpireLink.echoSeq
    (f := fun l => { l with modules := modNth l.modules (module - 1) fun m => { m with samples := samples } }) (fun _ => rfl) ..).trans
    (State.link_modLink_keeps SpireLink.echoSeq (f := fun l => { l with echoWait := none }) (fun _ => rfl) ..)

/-! A link goes down (R284) -/

/-- The elements that show a link and what its modules take of scan-out (R273, R311). -/
def linkRegs (k : Nat) : Reg → Bool := entries [0x8200 + k, 0x8280 + k, 0x8900 + k]

theorem linkRegs_block {k : Nat} (hk : k < 64) {r : Reg} (hr : linkRegs k r = true) : blocks [8] r = true := by
  simp only [linkRegs, entries_iff, blocks_iff, List.mem_cons, List.not_mem_nil, or_false] at hr ⊢
  omega

/-- A link as it is once it holds nothing: what outlives a training stays (R284, R26). -/
def SpireLink.wiped (l : SpireLink) : SpireLink := { SpireLink.reset with
  gens := l.gens, nextTag := l.nextTag, tags := l.tags, locked := l.locked, strikeWait := l.strikeWait, lastStruck := l.lastStruck }

/-- The depths of a link's modules no longer known. -/
def State.clearDepths (s : State) (k : Nat) : State := (List.range 32).foldl (fun s m => s.setReg (.SCN_MODULE_DEPTH k (m + 1)) 0) s

theorem State.clearDepths_keeps (s : State) (k : Nat) :
    OnlyChanges [] (linkRegs k) s (s.clearDepths k) ∧ (s.clearDepths k).out = s.out := by
  refine List.foldlRecOn (motive := fun t => OnlyChanges [] (linkRegs k) s t ∧ t.out = s.out) _ _ ⟨onlyChanges_refl s, rfl⟩ fun t ht m hm => ?_
  obtain ⟨hchanges, hout⟩ := ht
  have hm' : m + 1 < 1024 := (Nat.succ_lt_succ (List.mem_range.1 hm)).trans (by decide)
  exact ⟨hchanges.setReg _ _ hm' (by simp [linkRegs, entries, Reg.SCN_MODULE_DEPTH]), (State.setReg_out ..).trans hout⟩

/-- A link wiped, and the elements that show what it held. -/
def State.wipe (s : State) (k : Nat) : State := (((s.modLink k SpireLink.wiped).setReg (.SPL_MODULES k) 0).setReg (.SPL_LOCKED k) 0).clearDepths k

theorem State.wipe_changes (s : State) (k : Nat) : OnlyChanges [.spire] (linkRegs k) s (s.wipe k) :=
  ((((onlyChanges_refl s).modLink k _ (by decide)).setReg _ _ (by exact (by decide : 4 < 1024)) (by simp [linkRegs, entries, Reg.SPL_MODULES])).setReg
    _ _ (by exact (by decide : 6 < 1024)) (by simp [linkRegs, entries, Reg.SPL_LOCKED])).trans
    ((State.clearDepths_keeps ..).1.mono (by decide) fun _ => id)

theorem State.wipe_spire (s : State) (k : Nat) : (s.wipe k).spire = modNth s.spire k SpireLink.wiped :=
  ((State.clearDepths_keeps ..).1.1 .spire (by decide)).trans ((State.setReg_spire ..).trans (State.setReg_spire ..))

theorem State.wipe_out (s : State) (k : Nat) : (s.wipe k).out = s.out :=
  (State.clearDepths_keeps ..).2.trans ((State.setReg_out ..).trans (State.setReg_out ..))

/-- The modules of a link whose fetch has not completed (R232, R235). -/
def State.fetching (s : State) (k : Nat) : List Nat :=
  if s.reg (.SPL_STATE k) = 5 then
    ((List.range (s.link k).modules.length).filter fun i => s.reg (.CAL_MODULE_STATUS k (i + 1)) / 65536 % 4 == 1).map (· + 1) else []

/-- The lock of a link that goes down lost to its session (R425). -/
def State.loseLock (s : State) (k : Nat) : State :=
  match (s.link k).lock with
  | some x => if x.session = 0xFFFF then s else s.lockLost k 2 x.session
  | none => s

/-- Transactions lost with their link (R303, R423). -/
def State.loseTxns (s : State) (k : Nat) (ps : List (Nat × RegTxn)) : State := ps.foldl (fun s p => s.txnLost k p.1 p.2) s

/-- The transactions of the frames that wait for their DACK. -/
def SpireLink.sentTxns (l : SpireLink) : List (Nat × RegTxn) := (l.waiting.map fun f => f.txns.map fun t => (f.module, t)).flatten

/-- The sessions and the map told of all that a link held. -/
def State.loseHeld (s : State) (k : Nat) : State :=
  ((s.loseLock k).loseTxns k (s.link k).sentTxns).loseTxns k ((s.link k).reads ++ (s.link k).txns)

theorem State.linkClear_eq (s : State) (k : Nat) : s.linkClear k =
    ((s.fetching k).foldl (fun s m => s.uncalibrate k m 7) ((s.loseHeld k).wipe k)).setReg (.SCN_LINK_URGENCY k) 0 := rfl

/-- CAL_MODULE_STATUS has no elements beyond those of the store's key. -/
theorem moduleStatus_absent {k module : Nat} (hk : k < 64) (hmodule : 1024 ≤ module) : dictBits (.CAL_MODULE_STATUS k module) = 0 := by
  have hrow : dictRow (.CAL_MODULE_STATUS k module) = none := by
    refine List.find?_eq_none.2 fun row hrow => ?_
    have hall : ((dictRowsOf 0x7300).all fun row => Nat.blt row.subHi 1024) = true := by decide +kernel
    have hblock : dictRowsOf (Reg.CAL_MODULE_STATUS k module).index = dictRowsOf 0x7300 := by
      have hindex : (Reg.CAL_MODULE_STATUS k module).index / 4096 = 0x7300 / 4096 := by simp only [Reg.CAL_MODULE_STATUS]; omega
      rw [dictRowsOf, hindex]; rfl
    have hsub : row.subHi < 1024 := by simpa using List.all_eq_true.1 hall row (hblock ▸ hrow)
    simp only [DictRow.covers, Reg.CAL_MODULE_STATUS, Bool.and_eq_true, not_and, Nat.ble_eq]
    omega
  rw [dictBits, hrow]

/-- A module uncalibrated moves the calibration and its elements alone, whatever its address. -/
theorem OnlyChanges.uncalibrate {parts : List Part} {regs : Reg → Bool} {s t : State} (h : OnlyChanges parts regs s t) {k : Nat} (hk : k < 64)
    (module reason : Nat) (hcal : .cal ∈ parts) (hdrum : .drum ∈ parts) (hregs : ∀ r, blocks [7] r = true → regs r = true) :
    OnlyChanges parts regs s (t.uncalibrate k module reason) := by
  have hblock : (Reg.CAL_MODULE_STATUS k module).index / 4096 = 7 := by simp only [Reg.CAL_MODULE_STATUS]; omega
  refine ((?_ : OnlyChanges parts regs s _).setReg .CAL_STATE _ (by decide) (hregs _ (by decide))).post _ _ _ (by decide) hdrum
  by_cases hmodule : module < 1024
  · exact (h.modCal _ hcal).setReg _ _ hmodule (hregs _ (blocks_iff.2 (List.mem_singleton.2 hblock)))
  · rw [State.setReg_absent _ _ _ (moduleStatus_absent hk (Nat.le_of_not_lt hmodule))]
    exact h.modCal _ hcal

/-- A transfer that will not be answered: its session shows it, and the bridge counts it (R303, R423). -/
theorem State.brgUndelivered_changes (s : State) (n k module : Nat) :
    OnlyChanges [.bridge, .idp, .smap, .drum] (entries [0xC600]) s (s.brgUndelivered n k module) := by
  let shown := s.modBrgSession n fun b => { b with status := 2, transfer := none }
  have hanswer : AnswerStep shown (s.brgEnd n 2) := (AnswerStep.refl shown).finishRead n 2 _
  exact ((((onlyChanges_refl s).modBrgSession n _ (by decide)).trans (hanswer.changes.mono (by decide) fun _ hr => by cases hr)).count _ _ (by decide)
    (by decide) (by decide)).post _ _ _ (by decide) (by decide)

/-- What a link held lost, before the link is wiped: sessions are told, and of the links themselves only locks end. -/
structure HeldLost (k : Nat) (s t : State) : Prop where
  changes : OnlyChanges [.bridge, .idp, .smap, .spire, .drum] (fun r => entries [0xC600] r || among [.SPL_LOCKED k] r) s t
  links : t.spire.length = s.spire.length
  locked : (t.link k).locked = (s.link k).locked

namespace HeldLost

variable {k : Nat} {s t u : State}

theorem refl (k : Nat) (s : State) : HeldLost k s s := ⟨onlyChanges_refl s, rfl, rfl⟩

/-- What the bridge does to its sessions is no matter of the links. -/
theorem told (h : HeldLost k s t) (hu : OnlyChanges [.bridge, .idp, .smap, .drum] (entries [0xC600]) t u) : HeldLost k s u := by
  have hspire : u.spire = t.spire := hu.1 .spire (by decide)
  exact ⟨h.changes.trans (hu.mono (by decide) fun r hr => by simp [hr]), (congrArg List.length hspire).trans h.links,
    (congrArg SpireLink.locked (State.link_of_spire hspire k)).trans h.locked⟩

theorem undelivered (h : HeldLost k s t) (c : Bool) (n module : Nat) : HeldLost k s (if c then t.brgUndelivered n k module else t) := by
  split
  · exact h.told (State.brgUndelivered_changes ..)
  · exact h

theorem unlock (h : HeldLost k s t) : HeldLost k s ((t.modLink k fun l => { l with lock := none }).setReg (.SPL_LOCKED k) 0) := by
  refine ⟨(h.changes.modLink k _ (by decide)).setReg _ _ (by exact (by decide : 6 < 1024)) (by simp [among]), ?_, ?_⟩
  · rw [State.setReg_spire]; exact (State.modLink_links ..).trans h.links
  · rw [State.link_of_spire (State.setReg_spire ..)]
    exact (State.link_modLink_keeps SpireLink.locked (f := fun l => { l with lock := none }) (fun _ => rfl) ..).trans h.locked

theorem txnLost (h : HeldLost k s t) (module : Nat) (x : RegTxn) : HeldLost k s (t.txnLost k module x) := by
  unfold State.txnLost
  split
  · exact h.undelivered ..
  next n _ =>
    refine HeldLost.unlock (?_ : HeldLost k s _)
    split
    · exact (h.told (State.brgUndelivered_changes ..)).told (((onlyChanges_refl _).modBrgSession n _ (by decide)))
    · exact h
  · exact h.undelivered ..
  · exact h

theorem loseTxns (h : HeldLost k s t) (ps : List (Nat × RegTxn)) : HeldLost k s (t.loseTxns k ps) :=
  List.foldlRecOn ps _ h fun _ hu p _ => hu.txnLost p.1 p.2

theorem loseLock (h : HeldLost k s t) : HeldLost k s (t.loseLock k) := by
  unfold State.loseLock
  split
  · split
    · exact h
    · exact h.told (State.lockLost_lockLost ..).changes
  · exact h

end HeldLost

theorem State.loseHeld_heldLost (s : State) (k : Nat) : HeldLost k s (s.loseHeld k) := (((HeldLost.refl k s).loseLock).loseTxns _).loseTxns _

/-- A link that holds nothing tells nobody. -/
theorem State.loseHeld_of_empty {s : State} {k : Nat}
    (hempty : (s.link k).lock = none ∧ (s.link k).waiting = [] ∧ (s.link k).reads = [] ∧ (s.link k).txns = []) : s.loseHeld k = s := by
  obtain ⟨hlock, hwaiting, hreads, htxns⟩ := hempty
  simp [State.loseHeld, State.loseLock, State.loseTxns, SpireLink.sentTxns, hlock, hwaiting, hreads, htxns]

/-- The elements a link that goes down may move: its own, the states of its modules, and the bridge's counters. -/
def downRegs (k : Nat) (r : Reg) : Bool := linkRegs k r || blocks [7, 12] r

theorem downRegs_block {k : Nat} (hk : k < 64) {r : Reg} (hr : downRegs k r = true) : blocks [7, 8, 12] r = true := by
  simp only [downRegs, linkRegs, Bool.or_eq_true, entries_iff, blocks_iff, List.mem_cons, List.not_mem_nil, or_false] at hr ⊢
  omega

/-- What a link held moves the bridge's counters, and shows that it is not locked. -/
theorem downRegs_of_held {k : Nat} {r : Reg} (hr : (entries [0xC600] r || among [.SPL_LOCKED k] r) = true) : downRegs k r = true := by
  simp only [downRegs, linkRegs, Bool.or_eq_true, entries_iff, among_iff, blocks_iff, List.mem_cons, List.not_mem_nil, or_false] at hr ⊢
  rcases hr with hbridge | rfl
  · omega
  · simp [Reg.SPL_LOCKED]

/-- A link with nothing left of what it held. -/
structure LinkCleared (k : Nat) (s t : State) : Prop where
  changes : OnlyChanges [.bridge, .cal, .idp, .smap, .spire, .drum] (downRegs k) s t
  links : t.spire.length = s.spire.length
  modules : (t.link k).modules = []
  locked : (t.link k).locked = (s.link k).locked

theorem State.linkClear_linkCleared {s : State} {k : Nat} (hk : k < 64) (hlink : k < s.spire.length) : LinkCleared k s (s.linkClear k) := by
  obtain ⟨hlost, hlinks, hlocked⟩ := s.loseHeld_heldLost k
  let wiped := (s.loseHeld k).wipe k
  let last := (s.fetching k).foldl (fun s m => s.uncalibrate k m 7) wiped
  have hlast : OnlyChanges [.cal, .drum] (blocks [7]) wiped last :=
    List.foldlRecOn _ _ (onlyChanges_refl wiped) fun _ hu m _ => hu.uncalibrate hk m 7 (by decide) (by decide) fun _ => id
  have hspire : (s.linkClear k).spire = modNth (s.loseHeld k).spire k SpireLink.wiped := by
    rw [State.linkClear_eq, State.setReg_spire]
    exact (hlast.1 .spire (by decide)).trans (State.wipe_spire ..)
  have hwiped : (s.linkClear k).link k = ((s.loseHeld k).link k).wiped := by
    rw [State.link, hspire]; exact nth_modNth_same _ _ _ _ (hlink.trans_eq hlinks.symm)
  refine ⟨?_, ?_, ?_, ?_⟩
  · rw [State.linkClear_eq]
    have hcalibration : ∀ r, blocks [7] r = true → downRegs k r = true := fun r hr => by
      rw [downRegs, blocks_of_mem (by decide) hr, Bool.or_true]
    have hunheld : OnlyChanges [.bridge, .cal, .idp, .smap, .spire, .drum] (downRegs k) s wiped :=
      (hlost.mono (by decide) fun _ => downRegs_of_held).trans ((State.wipe_changes ..).mono (by decide) fun r hr => by simp [downRegs, hr])
    exact (hunheld.trans (hlast.mono (by decide) hcalibration)).setReg _ _ (by exact (by decide : 3 < 1024))
      (by simp [downRegs, linkRegs, entries, Reg.SCN_LINK_URGENCY])
  · rw [hspire]; simp only [modNth, List.length_modify]; exact hlinks
  · rw [hwiped]; rfl
  · rw [hwiped]; exact hlocked

/-- A link that is down: it rests, holds no modules, and shows why (R284). -/
structure LinkDown (k cause : Nat) (s t : State) : Prop where
  resting : (t.link k).resting = true
  since : (t.link k).downSince = s.ticks
  modules : (t.link k).modules = []
  locked : (t.link k).locked = (s.link k).locked
  state : t.reg (.SPL_STATE k) = 1
  shown : t.reg (.SPL_DOWN_CAUSE k) = cause

theorem State.linkDown_linkDown {s : State} {k cause : Nat} (hk : k < 64) (hlink : k < s.spire.length) (hcause : cause < 256) (module : Nat) :
    LinkDown k cause s (s.linkDown k cause module) := by
  obtain ⟨-, hlinks, hmodules, hlocked⟩ := State.linkClear_linkCleared hk hlink
  obtain ⟨-, -, hdown⟩ := spl_bits hk
  have hrested : (s.linkDown k cause module).link k = { (s.linkClear k).link k with resting := true, downSince := s.ticks } := by
    have hspire : (s.linkDown k cause module).spire =
        ((s.linkClear k).modLink k fun l => { l with resting := true, downSince := s.ticks }).spire := by
      rw [State.linkDown, State.post_spire, State.setReg_spire, State.setReg_spire]
    rw [State.link_of_spire hspire, State.link_modLink_same (hlink.trans_eq hlinks.symm)]
  refine ⟨by rw [hrested], by rw [hrested], by rw [hrested, ← hmodules], by rw [hrested, ← hlocked], ?_, ?_⟩
  · have hother : (Reg.SPL_STATE k).key ≠ (Reg.SPL_DOWN_CAUSE k).key := by simp [Reg.key, Reg.SPL_STATE, Reg.SPL_DOWN_CAUSE]
    rw [State.linkDown, State.reg_post_low _ _ _ _ _ (by decide), State.reg_setReg_key _ _ _ _ hother, State.setState_reg _ hk (by decide)]
  · rw [State.linkDown, State.reg_post_low _ _ _ _ _ (by decide), State.reg_setReg_same _ _ _ (by rw [hdown]; decide), hdown]
    exact Nat.mod_eq_of_lt hcause

/-- Beyond what clearing it changes, a link that goes down moves its own elements, and posts. -/
theorem OnlyChanges.linkDown {parts : List Part} {regs : Reg → Bool} {s t : State} {k : Nat} (h : OnlyChanges parts regs s (t.linkClear k))
    (cause module : Nat) (hparts : .spire ∈ parts ∧ .drum ∈ parts) (hregs : ∀ r, linkRegs k r = true → regs r = true) :
    OnlyChanges parts regs s (t.linkDown k cause module) :=
  (((h.modLink k _ hparts.1).setReg _ _ (by exact (by decide : 3 < 1024)) (hregs _ (by simp [linkRegs, entries, Reg.SPL_STATE]))).setReg _ _
    (by exact (by decide : 7 < 1024)) (hregs _ (by simp [linkRegs, entries, Reg.SPL_DOWN_CAUSE]))).post _ _ _ (by decide) hparts.2

/-- Clearing a link that holds nothing and is not in state 5 tells nobody: it is wiped. -/
theorem State.linkClear_of_empty {s : State} {k : Nat} (hstate : s.reg (.SPL_STATE k) ≠ 5)
    (hempty : (s.link k).lock = none ∧ (s.link k).waiting = [] ∧ (s.link k).reads = [] ∧ (s.link k).txns = []) :
    s.linkClear k = (s.wipe k).setReg (.SCN_LINK_URGENCY k) 0 := by
  rw [State.linkClear_eq, State.loseHeld_of_empty hempty, State.fetching, if_neg hstate]; rfl

end Sys2Proof.Machine

namespace Sys2Proof.Proofs

open Machine

/-! BLOCK_LOCK_GAINED, BLOCK_LOCK_LOST, LINK_LOCK_HELD, ENUM_END_RECEIVE, ENUM_TIMEOUT, ECHO_REPLY_RECEIVE, RETRAIN_WAIT_END and REMEASURE_DUE
(R276, R284 to R289) -/

theorem exec_blockLockGained (dt k : Nat) (s : State) : exec (.blockLockGained dt k) s = execBlockLockGained dt k s := rfl
theorem exec_blockLockLost (dt k errors : Nat) (s : State) : exec (.blockLockLost dt k errors) s = execBlockLockLost dt k errors s := rfl
theorem exec_linkLockHeld (dt k : Nat) (s : State) : exec (.linkLockHeld dt k) s = execLinkLockHeld dt k s := rfl
theorem exec_enumEndReceive (dt k : Nat) (block : List Octet) (s : State) :
    exec (.enumEndReceive dt k block) s = execEnumEndReceive dt k block s := rfl
theorem exec_enumTimeout (dt k : Nat) (s : State) : exec (.enumTimeout dt k) s = execEnumTimeout dt k s := rfl
theorem exec_echoReplyReceive (dt k : Nat) (block : List Octet) (rtt : Nat) (s : State) :
    exec (.echoReplyReceive dt k block rtt) s = execEchoReplyReceive dt k block rtt s := rfl
theorem exec_retrainWaitEnd (dt k : Nat) (s : State) : exec (.retrainWaitEnd dt k) s = execRetrainWaitEnd dt k s := rfl
theorem exec_remeasureDue (dt k : Nat) (s : State) : exec (.remeasureDue dt k) s = execRemeasureDue dt k s := rfl

/-- The elements that show a link are read as the effect of the command left them. -/
theorem ended_shown {s u : State} {dt k v : Nat} (hk : k < 64) (n : Nat) (hn : n < 1024) (hu : u.reg ⟨0x8900 + k, n⟩ = v) :
    (ended s dt u).reg ⟨0x8900 + k, n⟩ = v :=
  (ended_reg _ _ _ _ hn (drumRegs_of_block (by simp only; omega))).trans hu

theorem ended_counted {s u : State} {dt k v : Nat} (hk : k < 64) (n : Nat) (hn : n < 1024) (hu : u.reg ⟨0x8C00 + k, n⟩ = v) :
    (ended s dt u).reg ⟨0x8C00 + k, n⟩ = v :=
  (ended_reg _ _ _ _ hn (drumRegs_of_block (by simp only; omega))).trans hu

theorem blockLockGained_seeks (dt k : Nat) (s : State) (hquiet : Quiet s) (hk : k < 64) (hlinks : s.spire.length = 64) :
    Completes (.blockLockGained dt k) s fun s0 t => (t.link k).locked = true ∧
      t.reg (.SPL_STATE k) = (if s.reg (.SPL_STATE k) = 1 ∧ (s.link k).resting = false then 2 else s.reg (.SPL_STATE k)) ∧ t.out = [] ∧
      OnlyChanges [.spire] (among [.SPL_STATE k]) s0 t := by
  let gained := (begun s dt).modLink k fun l => { l with locked := true }
  have hgained : gained.link k = { s.link k with locked := true } := State.link_modLink_same (hk.trans_eq hlinks.symm) _
  have hchanges : OnlyChanges [.spire] (among [.SPL_STATE k]) (s.elapse dt) (gained.linkSeek k) :=
    ((onlyChanges_begun s dt).modLink k _ (by decide)).linkSeek k (by decide) (by simp [among])
  refine completes_of_effect (dt := dt) (u := gained.linkSeek k) rfl (exec_blockLockGained ..) (if_neg (by omega)) ⟨?_, ?_, ?_, ?_⟩
  · rw [ended_link, State.linkSeek_keeps SpireLink.locked fun _ _ => rfl, hgained]
  · refine ended_shown hk 3 (by decide) ((State.linkSeek_state _ hk).trans ?_)
    simp only [hgained, true_and]
    rfl
  · rw [ended_out, State.linkSeek_out]; rfl
  · exact hchanges.ended_quiet (quiet_of_drum (State.linkSeek_drum ..) hquiet)

theorem blockLockLost_takesDown (dt k errors : Nat) (s : State) (hk : k < 64) (hlinks : s.spire.length = 64) (hstate : 2 ≤ s.reg (.SPL_STATE k)) :
    Completes (.blockLockLost dt k errors) s fun s0 t => (t.link k).locked = false ∧ (t.link k).resting = true ∧ (t.link k).modules = [] ∧
      t.reg (.SPL_STATE k) = 1 ∧ t.reg (.SPL_DOWN_CAUSE k) = 1 ∧
      t.reg (.SPLCNT_LOCK_LOSS k) = (s.reg (.SPLCNT_LOCK_LOSS k) + 1) % 2 ^ 32 ∧
      OnlyChanges [.bridge, .cal, .idp, .smap, .spire, .drum, .log] (andDrum (blocks [7, 8, 12])) s0 t := by
  let lost := (begun s dt).modLink k fun l => { l with locked := false }
  let counted := (lost.count (.SPLCNT_SYNC_ERRORS k) errors).count (.SPLCNT_LOCK_LOSS k)
  have hspire : counted.spire = lost.spire := (State.count_spire ..).trans (State.count_spire ..)
  have hlost : counted.link k = { s.link k with locked := false } :=
    (State.link_of_spire hspire k).trans (State.link_modLink_same (hk.trans_eq hlinks.symm) _)
  have hlink : k < counted.spire.length := by
    rw [hspire, State.modLink_links, begun_spire, hlinks]; exact hk
  have hcounted : OnlyChanges [.bridge, .cal, .idp, .smap, .spire, .drum, .log] (blocks [7, 8, 12]) (s.elapse dt) counted :=
    (((onlyChanges_begun s dt).modLink k _ (by decide)).count _ _ (by exact (by decide : 9 < 1024))
      (by simp [blocks, Reg.SPLCNT_SYNC_ERRORS]; omega) (by decide)).count _ _ (by exact (by decide : 10 < 1024))
      (by simp [blocks, Reg.SPLCNT_LOCK_LOSS]; omega) (by decide)
  have hloss : counted.reg (.SPLCNT_LOCK_LOSS k) = (s.reg (.SPLCNT_LOCK_LOSS k) + 1) % 2 ^ 32 :=
    State.reg_countLink_same hk (by decide) (State.reg_countLink_other hk (by decide) (by decide) rfl errors) 1
  have hcleared := State.linkClear_linkCleared hk hlink
  have hfell : OnlyChanges [.bridge, .cal, .idp, .smap, .spire, .drum] (downRegs k) counted (counted.linkDown k 1 1) :=
    hcleared.changes.linkDown 1 1 (by decide) fun r hr => by simp [downRegs, hr]
  have hdown := State.linkDown_linkDown (cause := 1) hk hlink (by decide) 1
  refine completes_of_effect (dt := dt) (u := counted.linkDown k 1 1) rfl (exec_blockLockLost ..) ((if_neg (by omega)).trans (if_pos hstate))
    ⟨?_, ?_, ?_, ?_, ?_, ?_, ?_⟩
  · rw [ended_link, hdown.locked, hlost]
  · rw [ended_link, hdown.resting]
  · rw [ended_link, hdown.modules]
  · exact ended_shown hk 3 (by decide) hdown.state
  · exact ended_shown hk 7 (by decide) hdown.shown
  · refine ended_counted hk 10 (by decide) ((hfell.2 _ (by exact (by decide : 10 < 1024)) ?_).trans hloss)
    simp [downRegs, linkRegs, entries, blocks]; omega
  · exact (hcounted.trans (hfell.mono (by decide) fun _ => downRegs_block hk)).ended (by decide) (by decide)

theorem linkLockHeld_sendsEnum (dt k : Nat) (s : State) (hquiet : Quiet s) (hk : k < 64) (hlinks : s.spire.length = 64)
    (hstate : s.reg (.SPL_STATE k) = 2) (hheld : (s.link k).lockSince + nsTicks 1000000 ≤ s.ticks + dt) :
    Completes (.linkLockHeld dt k) s fun s0 t => t.reg (.SPL_STATE k) = 3 ∧ (t.link k).enumSince = s.ticks + dt ∧
      t.out = [.block k (controlBlock 0x40 [0, s.claim])] ∧ OnlyChanges [.spire] (among [.SPL_STATE k]) s0 t := by
  let enumerating := (begun s dt).modLink k fun l => { l with enumSince := s.ticks + dt, modules := [] }
  let shown := enumerating.setReg (.SPL_STATE k) 3
  have henum : enumerating.link k = { s.link k with enumSince := s.ticks + dt, modules := [] } := State.link_modLink_same (hk.trans_eq hlinks.symm) _
  have hspire : (shown.sendBlock k 0x40 [0, s.claim]).spire = enumerating.spire := State.setReg_spire ..
  have hchanges : OnlyChanges [.spire] (among [.SPL_STATE k]) (s.elapse dt) (shown.sendBlock k 0x40 [0, s.claim]) :=
    (((onlyChanges_begun s dt).modLink k _ (by decide)).setReg _ _ (by exact (by decide : 3 < 1024)) (by simp [among])).emit _
  refine completes_of_effect (dt := dt) (u := shown.sendBlock k 0x40 [0, s.claim]) rfl (exec_linkLockHeld ..) (if_pos ⟨hstate, hheld⟩)
    ⟨?_, ?_, ?_, ?_⟩
  · exact ended_shown hk 3 (by decide) (State.setState_reg _ hk (by decide))
  · rw [ended_link, State.link_of_spire hspire, henum]
  · rw [ended_out]
    exact congrArg (· ++ _) (State.setReg_out ..)
  · exact hchanges.ended_quiet (quiet_of_drum (State.setReg_drum ..) hquiet)

theorem enumEndReceive_readsDescriptors (dt k n : Nat) (v : List Nat) (block : List Octet) (s : State) (hquiet : Quiet s) (hk : k < 64)
    (hlinks : s.spire.length = 64) (hparse : parseBlock block = some v) (hv : nth v 0 0 = 0x52 ∧ nth v 1 0 = n) (hn : n ≤ 32)
    (hstate : s.reg (.SPL_STATE k) = 3) (hmodules : (s.link k).modules = []) :
    Completes (.enumEndReceive dt k block) s fun s0 t => (t.link k).modules = List.replicate n SpireModule.reset ∧ t.reg (.SPL_MODULES k) = n ∧
      (t.link k).txns.length = (s.link k).txns.length + n ∧ t.out = [] ∧ OnlyChanges [.spire] (among [.SPL_MODULES k]) s0 t := by
  obtain ⟨htype, hcount⟩ := hv
  let counted := ((begun s dt).modLink k fun l => { l with modules := List.replicate n SpireModule.reset }).setReg (.SPL_MODULES k) n
  let asked := (List.range n).foldl (fun s m => s.queueTxn k (m + 1) 2 descAddress [] 32 .descriptor) counted
  have hbits : dictBits (.SPL_MODULES k) = 8 := (spl_bits hk).2.1
  have hlink : k < (begun s dt).spire.length := hk.trans_eq hlinks.symm
  have hspire : counted.spire = ((begun s dt).modLink k fun l => { l with modules := List.replicate n SpireModule.reset }).spire :=
    State.setReg_spire ..
  have hcounted : counted.link k = { s.link k with modules := List.replicate n SpireModule.reset } :=
    (State.link_of_spire hspire k).trans (State.link_modLink_same hlink _)
  have hqueued : ReadsQueued k n counted asked :=
    State.queueDescriptors_readsQueued (by rw [hspire, State.modLink_links]; exact hlink) n
  have hchanges : OnlyChanges [.spire] (among [.SPL_MODULES k]) (s.elapse dt) asked :=
    (((onlyChanges_begun s dt).modLink k _ (by decide)).setReg _ _ (by exact (by decide : 4 < 1024)) (by simp [among])).trans
      (hqueued.changes.mono (by decide) fun _ hr => by cases hr)
  refine completes_of_effect (dt := dt) (u := asked) rfl (exec_enumEndReceive ..) ((State.onBlock_of_parsed hk hparse htype _).trans ?_)
    ⟨?_, ?_, ?_, ?_, ?_⟩
  · rw [hcount]
    exact (if_neg (not_or.2 ⟨not_not.2 hstate, not_not.2 hmodules⟩)).trans (if_neg (by omega))
  · rw [ended_link, hqueued.modules, hcounted]
  · refine ended_shown hk 4 (by decide) ((hqueued.changes.2 _ (by exact (by decide : 4 < 1024)) rfl).trans ?_)
    exact (State.reg_setReg_same _ (.SPL_MODULES k) _ (by rw [hbits]; decide)).trans (by rw [hbits]; exact Nat.mod_eq_of_lt (by omega))
  · rw [ended_link, hqueued.txns, hcounted]
  · rw [ended_out, hqueued.out]
    exact State.setReg_out ..
  · exact hchanges.ended_quiet (quiet_of_drum ((hqueued.changes.1 .drum (by decide)).trans (State.setReg_drum ..)) hquiet)

theorem enumTimeout_takesDown (dt k : Nat) (s : State) (htakes : Takes s 5) (hk : k < 64) (hlinks : s.spire.length = 64)
    (hstate : s.reg (.SPL_STATE k) = 3) (hmodules : (s.link k).modules = []) (hlate : (s.link k).enumSince + nsTicks 5000000 ≤ s.ticks + dt)
    (hempty : (s.link k).lock = none ∧ (s.link k).waiting = [] ∧ (s.link k).reads = [] ∧ (s.link k).txns = []) :
    Completes (.enumTimeout dt k) s fun s0 t => t.reg (.SPL_STATE k) = 1 ∧ t.reg (.SPL_DOWN_CAUSE k) = 2 ∧ (t.link k).resting = true ∧
      (t.link k).downSince = s.ticks + dt ∧ Posted t 0x8802 5 (k + 2 * 64) ∧ t.out = [] ∧
      OnlyChanges [.spire, .drum, .log] (andDrum (blocks [8])) s0 t := by
  obtain ⟨hquiet, hmin⟩ := htakes
  let s0 := begun s dt
  have hstate' : s0.reg (.SPL_STATE k) ≠ 5 := by rw [begun_reg, hstate]; decide
  have hclear : s0.linkClear k = (s0.wipe k).setReg (.SCN_LINK_URGENCY k) 0 := State.linkClear_of_empty hstate' hempty
  have hwiped : OnlyChanges [.spire] (linkRegs k) s0 (s0.linkClear k) := by
    rw [hclear]
    exact (State.wipe_changes ..).setReg _ _ (by exact (by decide : 3 < 1024)) (by simp [linkRegs, entries, Reg.SCN_LINK_URGENCY])
  have hfell : OnlyChanges [.spire, .drum, .log] (blocks [8]) (s.elapse dt) (s0.linkDown k 2 1) :=
    ((onlyChanges_begun s dt).trans (hwiped.mono (by decide) fun _ => linkRegs_block hk)).linkDown 2 1 (by decide) fun _ => linkRegs_block hk
  have hdown : LinkDown k 2 s0 (s0.linkDown k 2 1) :=
    State.linkDown_linkDown (s := s0) hk (hk.trans_eq hlinks.symm) (by exact (by decide : 2 < 256)) 1
  have hincoming : (s0.linkDown k 2 1).drum.incoming = [[⟨.single, 5, 0x8802, (k + 2 * 64) % 2 ^ 42⟩]] := by
    rw [State.linkDown, State.post_incoming, State.setReg_drum, State.setReg_drum]
    exact congrArg (· ++ _) ((congrArg Drum.incoming (hwiped.1 .drum (by decide))).trans hquiet)
  refine completes_of_effect (dt := dt) (u := s0.linkDown k 2 1) rfl (exec_enumTimeout ..) (if_pos ⟨hstate, hmodules, hlate⟩)
    ⟨?_, ?_, ?_, ?_, ?_, ?_, ?_⟩
  · exact ended_shown hk 3 (by decide) hdown.state
  · exact ended_shown hk 7 (by decide) hdown.shown
  · rw [ended_link, hdown.resting]
  · rw [ended_link, hdown.since]; rfl
  · refine posted_ended hincoming ?_
    rwa [hfell.2 _ (by decide) (by decide)]
  · rw [ended_out, State.linkDown, State.post_out, State.setReg_out, State.setReg_out]
    exact (congrArg State.out hclear).trans ((State.setReg_out ..).trans (State.wipe_out ..))
  · exact hfell.ended (by decide) (by decide)

theorem echoReplyReceive_addsSample (dt k rtt : Nat) (v : List Nat) (block : List Octet) (m : SpireModule) (s : State) (hquiet : Quiet s)
    (hk : k < 64) (hlinks : s.spire.length = 64) (hparse : parseBlock block = some v) (htype : nth v 0 0 = 0x51)
    (hmeasuring : (s.link k).measuring = true)
    (hwait : (s.link k).echoWait = some (nth v 1 0 % 32 + 1, nth v 2 0 + 256 * nth v 3 0)) (hmodule : s.module k (nth v 1 0 % 32 + 1) = some m)
    (hfew : m.samples.length < 15) :
    Completes (.echoReplyReceive dt k block rtt) s fun s0 t =>
      (t.module k (nth v 1 0 % 32 + 1)).map SpireModule.samples = some (m.samples ++ [(rtt : Int) - 48 - 56 - m.turnaround -
        (nth v 4 0 + 256 * nth v 5 0 : Nat) +
        ((s.link k).modules.take (nth v 1 0 % 32)).foldl (fun (a : Int) j => a + (j.fwdDown : Int) - (j.fwdUp : Int)) 0]) ∧
      t.out = [.block k (controlBlock 0x41 [nth v 1 0 % 32, s.claim, (s.link k).echoSeq % 256, (s.link k).echoSeq / 256])] ∧
      OnlyChanges [.spire] noRegs s0 t := by
  let module := nth v 1 0 % 32 + 1
  let samples := m.samples ++ [(s.link k).echoSample module m (nth v 4 0 + 256 * nth v 5 0) rtt]
  let taken := (begun s dt).takeSamples k module samples
  have hlink : k < (begun s dt).spire.length := hk.trans_eq hlinks.symm
  have hsampled : (begun s dt).module k module = some m := hmodule
  refine completes_of_effect (dt := dt) (u := taken.sendEcho k module) rfl (exec_echoReplyReceive ..)
    ((State.onBlock_of_parsed hk hparse htype _).trans (State.echoReply_of_few (s := begun s dt) hmeasuring hwait hmodule hfew _ rtt)) ⟨?_, ?_, ?_⟩
  · have htaken : (ended s dt (taken.sendEcho k module)).module k module = some { m with samples := samples } := by
      rw [State.module_of_modules ((congrArg SpireLink.modules (ended_link ..)).trans (State.sendEcho_modules ..)), State.takeSamples_module hlink,
        hsampled]
      rfl
    exact congrArg (Option.map SpireModule.samples) htaken
  · rw [ended_out, State.sendEcho_out, State.takeSamples_echoSeq]; rfl
  · exact ((((onlyChanges_begun s dt).modLink k _ (by decide)).modLink k _ (by decide)).sendEcho k module (by decide)).ended_quiet hquiet

theorem retrainWaitEnd_seeks (dt k : Nat) (s : State) (hquiet : Quiet s) (hk : k < 64) (hlinks : s.spire.length = 64)
    (hresting : (s.link k).resting = true) (hrested : (s.link k).downSince + nsTicks (1000000 * s.reg .SPL_RETRAIN_MS) ≤ s.ticks + dt) :
    Completes (.retrainWaitEnd dt k) s fun s0 t => (t.link k).resting = false ∧
      t.reg (.SPL_STATE k) = (if s.reg (.SPL_STATE k) = 1 ∧ (s.link k).locked = true then 2 else s.reg (.SPL_STATE k)) ∧ t.out = [] ∧
      OnlyChanges [.spire] (among [.SPL_STATE k]) s0 t := by
  let rested := (begun s dt).modLink k fun l => { l with resting := false }
  have hlink : rested.link k = { s.link k with resting := false } := State.link_modLink_same (hk.trans_eq hlinks.symm) _
  have hchanges : OnlyChanges [.spire] (among [.SPL_STATE k]) (s.elapse dt) (rested.linkSeek k) :=
    ((onlyChanges_begun s dt).modLink k _ (by decide)).linkSeek k (by decide) (by simp [among])
  refine completes_of_effect (dt := dt) (u := rested.linkSeek k) rfl (exec_retrainWaitEnd ..) (if_pos ⟨hresting, hrested⟩) ⟨?_, ?_, ?_, ?_⟩
  · rw [ended_link, State.linkSeek_keeps SpireLink.resting fun _ _ => rfl, hlink]
  · refine ended_shown hk 3 (by decide) ((State.linkSeek_state _ hk).trans ?_)
    simp only [hlink, and_true]
    rfl
  · rw [ended_out, State.linkSeek_out]; rfl
  · exact hchanges.ended_quiet (quiet_of_drum (State.linkSeek_drum ..) hquiet)

theorem remeasureDue_sendsEcho (dt k : Nat) (s : State) (hquiet : Quiet s) (hk : k < 64) (hlinks : s.spire.length = 64)
    (hstate : s.reg (.SPL_STATE k) = 5) (hidle : (s.link k).measuring = false) (hmodules : (s.link k).modules ≠ [])
    (hdue : (s.link k).measuredAt + s.reg .SPL_MEASURE_S * 781250000 ≤ s.ticks + dt) :
    Completes (.remeasureDue dt k) s fun s0 t => (t.link k).measuring = true ∧ (t.link k).echoWait = some (1, (s.link k).echoSeq) ∧
      t.out = [.block k (controlBlock 0x41 [0, s.claim, (s.link k).echoSeq % 256, (s.link k).echoSeq / 256])] ∧
      OnlyChanges [.spire] noRegs s0 t := by
  let measured := (begun s dt).modLink k fun l => { l with
    measuring := true, modules := l.modules.map fun m => { m with samples := [], arrivalNext := none } }
  have hlink : k < (begun s dt).spire.length := hk.trans_eq hlinks.symm
  have hmeasured : measured.link k = { s.link k with
      measuring := true, modules := (s.link k).modules.map fun m => { m with samples := [], arrivalNext := none } } :=
    State.link_modLink_same hlink _
  have hsent := State.sendEcho_link (s := measured) (k := k) (by rw [State.modLink_links]; exact hlink) 1
  refine completes_of_effect (dt := dt) (u := measured.sendEcho k 1) rfl (exec_remeasureDue ..)
    ((if_pos ⟨hstate, hidle, hdue⟩).trans (if_neg hmodules)) ⟨?_, ?_, ?_, ?_⟩
  · rw [ended_link, hsent, hmeasured]
  · rw [ended_link, hsent, hmeasured]
  · rw [ended_out, State.sendEcho_out, hmeasured]; rfl
  · exact (((onlyChanges_begun s dt).modLink k _ (by decide)).sendEcho k 1 (by decide)).ended_quiet hquiet

/-- Settles O27, one step of training at a time: what the search for block lock, the end of a link and an ECHO do. -/
theorem linksTrain : Obligations.LinksTrain :=
  ⟨blockLockGained_seeks, blockLockLost_takesDown, linkLockHeld_sendsEnum, enumEndReceive_readsDescriptors, enumTimeout_takesDown,
    echoReplyReceive_addsSample, retrainWaitEnd_seeks, remeasureDue_sendsEcho⟩

end Sys2Proof.Proofs

namespace Sys2Proof.Machine

/-! What frames and their acknowledgement may move (R291, R292, R302) -/

section OnlyChanges

variable {parts : List Part} {regs : Reg → Bool} {s t : State}

theorem OnlyChanges.modEpoch (h : OnlyChanges parts regs s t) (e : Nat) (f : Epoch → Epoch) (hepochs : .epochs ∈ parts) :
    OnlyChanges parts regs s (t.modEpoch e f) :=
  h.change rfl fun p hp => by
    cases p with
    | epochs => exact absurd hepochs hp
    | _ => rfl

theorem OnlyChanges.modTwin (h : OnlyChanges parts regs s t) (f : Twin → Twin) (htwin : .twin ∈ parts) : OnlyChanges parts regs s (t.modTwin f) :=
  h.change rfl fun p hp => by
    cases p with
    | twin => exact absurd htwin hp
    | _ => rfl

end OnlyChanges

@[simp] theorem ended_epochs (s u : State) (dt : Nat) : (ended s dt u).epochs = u.epochs := u.settle_epochs

@[simp] theorem State.modModule_links (s : State) (k module : Nat) (f : SpireModule → SpireModule) :
    (s.modModule k module f).spire.length = s.spire.length := State.modLink_links ..

/-- What a change of a module keeps of its link. -/
theorem State.link_modModule_keeps {β : Type} (g : SpireLink → β) (hg : ∀ (l : SpireLink) ms, g { l with modules := ms } = g l) (s : State)
    (k module j : Nat) (f : SpireModule → SpireModule) : g ((s.modModule k module f).link j) = g (s.link j) :=
  State.link_modLink_keeps g (f := fun l => { l with modules := modNth l.modules (module - 1) f }) (fun l => hg l _) s k j

/-! Frames sent (R278, R281) -/

/-- The counters of a link (R312). -/
def linkCounters (k : Nat) : Reg → Bool := entries [0x8C00 + k]

theorem linkCounters_block {k : Nat} (hk : k < 64) {r : Reg} (hr : linkCounters k r = true) : blocks [8] r = true := by
  simp only [linkCounters, entries_iff, blocks_iff, List.mem_singleton] at hr ⊢
  omega

theorem OnlyChanges.countLink {parts : List Part} {regs : Reg → Bool} {s t : State} (h : OnlyChanges parts regs s t) {k n : Nat}
    (hn : n < 1024) (j : Nat) (hregs : ∀ r, linkCounters k r = true → regs r = true) (hdrum : .drum ∈ parts) :
    OnlyChanges parts regs s (t.count ⟨0x8C00 + k, n⟩ j) :=
  h.count _ j hn (hregs _ (by simp [linkCounters, entries])) hdrum

/-- A frame sent: one output, one count. -/
structure FrameSent (k : Nat) (s t : State) : Prop where
  changes : OnlyChanges [.drum] (linkCounters k) s t
  sent : t.reg (.SPLCNT_FRAMES_SENT k) = (s.reg (.SPLCNT_FRAMES_SENT k) + 1) % 2 ^ 32
  other : ∀ m, 1 < m → m < 1024 → t.reg ⟨0x8C00 + k, m⟩ = s.reg ⟨0x8C00 + k, m⟩
  out : t.out.length = s.out.length + 1

theorem State.sendFrame_frameSent (s : State) {k : Nat} (hk : k < 64) (f : SpireFrame) (data : List Octet) (bad : Bool) :
    FrameSent k s (s.sendFrame k f data bad) where
  changes := ((onlyChanges_refl s).emit _).countLink (by decide) 1 (fun _ => id) (by decide)
  sent := State.reg_countLink_same hk (by decide) rfl 1
  other m hm hm' := State.reg_countLink_other hk hm' (by omega) rfl 1
  out := (congrArg List.length (State.count_out ..)).trans (List.length_append ..)

theorem FrameSent.spire {k : Nat} {s t : State} (h : FrameSent k s t) : t.spire = s.spire := h.changes.1 .spire (by decide)

/-! Segments of shadows (R251, R283, R291) -/

/-- The elements that the fill of a link's line buffer moves (R252, R253, R273). -/
def fillRegs (k : Nat) : Reg → Bool := entries [0x8200 + k, 0x8400]

/-- Transfers of a link's line buffer: urgency follows, and nothing is sent. -/
structure LineFilled (k : Nat) (s t : State) : Prop where
  changes : OnlyChanges [.epochs, .drum] (fillRegs k) s t
  out : t.out = s.out

namespace LineFilled

variable {k : Nat} {s t : State}

theorem setReg (h : LineFilled k s t) {n : Nat} (hn : n < 1024) (v : Nat) : LineFilled k s (t.setReg ⟨0x8200 + k, n⟩ v) :=
  ⟨h.changes.setReg _ _ hn (by simp [fillRegs, entries]), (State.setReg_out ..).trans h.out⟩

theorem count (h : LineFilled k s t) {n : Nat} (hn : n < 1024) (j : Nat) : LineFilled k s (t.count ⟨0x8400, n⟩ j) :=
  ⟨h.changes.count _ _ hn (by simp [fillRegs, entries]) (by decide), (State.count_out ..).trans h.out⟩

theorem setUrgency (h : LineFilled k s t) (epoch u : Nat) : LineFilled k s (t.setUrgency k epoch u) := by
  have hset : LineFilled k s (t.setReg (.SCN_LINK_URGENCY k) u) := h.setReg (n := 3) (by decide) u
  have htwo : LineFilled k s ((t.setReg (.SCN_LINK_URGENCY k) u).count .SCNCNT_URGENCY_2) := hset.count (n := 7) (by decide) 1
  unfold State.setUrgency
  extract_lets old s1 s2
  split
  · exact hset
  · split
    · exact hset.count (n := 6) (by decide) 1
    · split
      · split
        · exact htwo
        · exact ⟨(htwo.changes.modEpoch _ _ (by decide)).post _ _ _ (by decide) (by decide), (State.post_out ..).trans htwo.out⟩
      · exact htwo

theorem lineFill (h : LineFilled k s t) (epoch fill : Nat) : LineFilled k s (t.lineFill k epoch fill) := by
  refine LineFilled.setUrgency (?_ : LineFilled k s _) _ _
  split
  · exact h.setReg (n := 4) (by decide) fill
  · exact h

theorem spire (h : LineFilled k s t) : t.spire = s.spire := h.changes.1 .spire (by decide)

end LineFilled

/-- One more frame waits for its DACK: it was sent once, as the next segment of the epoch that loads. -/
structure SegmentStarted (k : Nat) (f : SpireFrame) (s t : State) : Prop where
  changes : OnlyChanges [.epochs, .spire, .drum] (fun r => fillRegs k r || linkCounters k r) s t
  waiting : (t.link k).waiting = (s.link k).waiting ++ [f]
  sent : t.reg (.SPLCNT_FRAMES_SENT k) = (s.reg (.SPLCNT_FRAMES_SENT k) + 1) % 2 ^ 32
  out : t.out.length = s.out.length + 1

/-- The frames that wait are no matter of how far an epoch is loaded. -/
theorem State.modLoad_waiting (s : State) (k epoch : Nat) (f : LinkEpoch → LinkEpoch) :
    ((s.modLoad k epoch f).link k).waiting = (s.link k).waiting :=
  State.link_modLink_keeps SpireLink.waiting (f := fun l => { l with epochs := l.epochs.map fun x => if x.epoch = epoch then f x else x })
    (fun _ => rfl) s k k

/-- The fills of a line buffer and the waits on DRAM before a segment leaves (R252, R253). -/
theorem State.fillLine_lineFilled (s : State) (k epoch : Nat) (fills : List Nat) (starved : Nat) :
    LineFilled k s ((fills.foldl (fun s n => s.lineFill k epoch n) s).count .SCNCNT_STARVED starved) :=
  LineFilled.count (n := 8) (List.foldlRecOn fills _ ⟨onlyChanges_refl s, rfl⟩ fun _ hu fill _ => hu.lineFill epoch fill) (by decide) starved

/-- A segment without an error of the line buffer leaves as a frame, and the loading of its epoch takes note of it. -/
theorem State.sendSegment_frameSent (s : State) {k : Nat} (hk : k < 64) (e : Epoch) (f : SpireFrame) : ∃ u g,
    FrameSent k s u ∧ s.sendSegment e k f false = u.modLoad k e.epoch g :=
  ⟨s.sendFrame k f (s.segmentOctets e k f.module f.segment) false, _, s.sendFrame_frameSent hk f _ false, rfl⟩

/-- The segment of a frame sent without an error of the line buffer, the frame put to those that wait, and the loading of its epoch moved on. -/
def State.loadSegment (s : State) (k : Nat) (e : Epoch) (f : SpireFrame) (rest : List (Nat × Nat × Bool)) : State :=
  ((s.sendSegment e k f false).modLink k fun l => { l with waiting := l.waiting ++ [f] }).modLoad k e.epoch fun y => { y with
    toSend := rest, sent := true }

theorem State.loadSegment_segmentStarted {s : State} {k : Nat} (hk : k < 64) (hlink : k < s.spire.length) (e : Epoch) (f : SpireFrame)
    (rest : List (Nat × Nat × Bool)) : SegmentStarted k f s (s.loadSegment k e f rest) := by
  obtain ⟨u, g, hsent, heffect⟩ := s.sendSegment_frameSent hk e f
  have hlinks : k < (u.modLoad k e.epoch g).spire.length := by rw [State.modLoad, State.modLink_links, hsent.spire]; exact hlink
  rw [State.loadSegment, heffect]
  refine ⟨?_, ?_, hsent.sent, hsent.out⟩
  · exact (((hsent.changes.mono (by decide) fun r hr => by simp [hr]).modLink k _ (by decide)).modLink k _ (by decide)).modLink k _ (by decide)
  · rw [State.modLoad_waiting, State.link_modLink_same hlinks, State.modLoad_waiting, State.link_of_spire hsent.spire]

/-- The loading of an epoch on a link, begun if it had not (R291). -/
def State.joinLoad (s : State) (k : Nat) (e : Epoch) (x : LinkEpoch) : State :=
  if (s.link k).epochs.any fun y => y.epoch == e.epoch then s else s.modLink k fun l => { l with epochs := l.epochs ++ [x], joined := true }

theorem State.joinLoad_keeps (s : State) (k : Nat) (e : Epoch) (x : LinkEpoch) : OnlyChanges [.spire] noRegs s (s.joinLoad k e x) ∧
    (s.joinLoad k e x).spire.length = s.spire.length ∧ ((s.joinLoad k e x).link k).waiting = (s.link k).waiting ∧
    (s.joinLoad k e x).out = s.out := by
  unfold State.joinLoad
  split
  · exact ⟨onlyChanges_refl s, rfl, rfl, rfl⟩
  · exact ⟨(onlyChanges_refl s).modLink k _ (by decide), State.modLink_links .., State.link_modLink_keeps SpireLink.waiting
      (f := fun l => { l with epochs := l.epochs ++ [x], joined := true }) (fun _ => rfl) s k k, rfl⟩

/-- A link's loading once its line buffer has been filled for the next segment. -/
def State.fillLoad (s : State) (k : Nat) (e : Epoch) (x : LinkEpoch) (fills : List Nat) (starved : Nat) : State :=
  (fills.foldl (fun s n => s.lineFill k e.epoch n) (s.joinLoad k e x)).count .SCNCNT_STARVED starved

/-- The frame of a segment that leaves for the first time (R283, R291). -/
def State.segmentFrame (s : State) (k : Nat) (e : Epoch) (x : LinkEpoch) (module seg : Nat) (last : Bool) : SpireFrame :=
  { kind := 0, module := module, number := e.epoch, segment := seg, gen := x.gen, last := last, resends := 0
    sentAt := s.ticks, blocks := (s.segmentOctets e k module seg).length / 8, txns := [] }

/-- The next segment of an epoch leaves once it may be read; with the last, the link asks for no more data (R251, R252). -/
theorem State.startSegment_of_ready {s : State} {k module seg : Nat} {last : Bool} {e : Epoch} {x : LinkEpoch} {rest : List (Nat × Nat × Bool)}
    (hnext : s.nextLoad k = some (e, x)) (hsend : x.toSend = (module, seg, last) :: rest) (hready : s.segmentReady e k module seg = true)
    (fills : List Nat) (starved : Nat) : s.startSegment k fills starved false =
      if rest = [] then ((s.fillLoad k e x fills starved).loadSegment k e (s.segmentFrame k e x module seg last) rest).setReg (.SCN_LINK_URGENCY k) 0
      else (s.fillLoad k e x fills starved).loadSegment k e (s.segmentFrame k e x module seg last) rest := by
  simp only [State.startSegment, hnext, hsend, hready, Bool.true_eq_false, if_false]
  rfl

theorem SegmentStarted.quiet {k : Nat} {f : SpireFrame} {s t : State} (h : SegmentStarted k f s t) :
    SegmentStarted k f s (t.setReg (.SCN_LINK_URGENCY k) 0) := by
  obtain ⟨hchanges, hwaiting, hcount, hout⟩ := h
  refine ⟨hchanges.setReg _ _ (by exact (by decide : 3 < 1024)) (by simp [fillRegs, entries, Reg.SCN_LINK_URGENCY]), ?_, ?_, ?_⟩
  · rw [State.link_of_spire (State.setReg_spire ..), hwaiting]
  · exact (State.reg_setReg_key _ _ _ _ (by simp only [Reg.key, Reg.SPLCNT_FRAMES_SENT, Reg.SCN_LINK_URGENCY]; omega)).trans hcount
  · rw [State.setReg_out, hout]

theorem State.startSegment_segmentStarted {s : State} {k module seg : Nat} {last : Bool} {e : Epoch} {x : LinkEpoch}
    {rest : List (Nat × Nat × Bool)} (hk : k < 64) (hlink : k < s.spire.length) (hnext : s.nextLoad k = some (e, x))
    (hsend : x.toSend = (module, seg, last) :: rest) (hready : s.segmentReady e k module seg = true) (fills : List Nat) (starved : Nat) :
    SegmentStarted k (s.segmentFrame k e x module seg last) s (s.startSegment k fills starved false) := by
  obtain ⟨hjoins, hlinks, hwaits, hsilent⟩ := s.joinLoad_keeps k e x
  have hfilled : LineFilled k (s.joinLoad k e x) (s.fillLoad k e x fills starved) := (s.joinLoad k e x).fillLine_lineFilled k e.epoch fills starved
  have hcount : (s.fillLoad k e x fills starved).reg (.SPLCNT_FRAMES_SENT k) = s.reg (.SPLCNT_FRAMES_SENT k) :=
    (hfilled.changes.2 _ (by exact (by decide : 1 < 1024)) (by simp [fillRegs, entries, Reg.SPLCNT_FRAMES_SENT]; omega)).trans
      (hjoins.2 _ (by exact (by decide : 1 < 1024)) rfl)
  have hstarted : SegmentStarted k (s.segmentFrame k e x module seg last) s
      ((s.fillLoad k e x fills starved).loadSegment k e (s.segmentFrame k e x module seg last) rest) := by
    obtain ⟨hchanges, hwaiting, hcounted, hout⟩ := State.loadSegment_segmentStarted hk
      (hlink.trans_eq (hlinks.symm.trans (congrArg List.length hfilled.spire.symm))) e (s.segmentFrame k e x module seg last) rest
    refine ⟨?_, ?_, ?_, ?_⟩
    · exact ((hjoins.mono (by decide) fun _ hr => by cases hr).trans (hfilled.changes.mono (by decide) fun r hr => by simp [hr])).trans hchanges
    · rw [hwaiting, State.link_of_spire hfilled.spire, hwaits]
    · rw [hcounted, hcount]
    · rw [hout, hfilled.out, hsilent]
  rw [State.startSegment_of_ready hnext hsend hready]
  split
  · exact hstarted.quiet
  · exact hstarted

/-! Register frames (R302, R305) -/

/-- What a LOCK or UNLOCK that leaves does to the lock of its link (R305). -/
def State.noteLock (s : State) (k module since : Nat) (purpose : TxPurpose) : State :=
  match purpose with
  | .lock n => (s.modLink k fun l => { l with lock := some ⟨module, n, since, false⟩ }).setReg (.SPL_LOCKED k) module
  | .unlock _ => s.modLink k fun l => { l with lock := l.lock.map fun x => { x with unlocking := true } }
  | _ => s

theorem State.noteLock_keeps (s : State) (k module since : Nat) (purpose : TxPurpose) :
    OnlyChanges [.spire] (among [.SPL_LOCKED k]) s (s.noteLock k module since purpose) ∧
      ((s.noteLock k module since purpose).link k).waiting = (s.link k).waiting ∧
      ((s.noteLock k module since purpose).link k).txns = (s.link k).txns ∧ (s.noteLock k module since purpose).out = s.out := by
  have hkeeps : ∀ {β : Type} (g : SpireLink → β), (∀ (l : SpireLink) x, g { l with lock := x } = g l) →
      g ((s.noteLock k module since purpose).link k) = g (s.link k) := fun g hg => by
    unfold State.noteLock
    split
    next n =>
      rw [State.link_of_spire (State.setReg_spire ..)]
      exact State.link_modLink_keeps g (f := fun l => { l with lock := some ⟨module, n, since, false⟩ }) (fun _ => hg _ _) s k k
    · exact State.link_modLink_keeps g (f := fun l => { l with lock := l.lock.map fun x => { x with unlocking := true } }) (fun _ => hg _ _) s k k
    · rfl
  refine ⟨?_, hkeeps SpireLink.waiting fun _ _ => rfl, hkeeps SpireLink.txns fun _ _ => rfl, ?_⟩
  · unfold State.noteLock
    split
    · exact ((onlyChanges_refl s).modLink k _ (by decide)).setReg _ _ (by exact (by decide : 6 < 1024)) (by simp [among])
    · exact (onlyChanges_refl s).modLink k _ (by decide)
    · exact onlyChanges_refl s
  · unfold State.noteLock
    split
    · exact State.setReg_out ..
    · rfl
    · rfl

/-- The frame that carries one transaction (R302; log entry 33). -/
def txnFrame (module seq sentAt : Nat) (t : RegTxn) : SpireFrame :=
  ⟨1, module, seq, 0, 0, false, 0, sentAt, (txnOctets t).length / 8, [t]⟩

/-- A transaction sent: its frame waits for its DACK, and a lock it asks for or gives back is noted. -/
structure TxnSent (k : Nat) (f : SpireFrame) (data : List Octet) (s t : State) : Prop where
  changes : OnlyChanges [.spire, .drum] (fun r => among [.SPL_LOCKED k] r || linkCounters k r) s t
  waiting : (t.link k).waiting = (s.link k).waiting ++ [f]
  txns : (t.link k).txns = (s.link k).txns
  sent : t.reg (.SPLCNT_FRAMES_SENT k) = (s.reg (.SPLCNT_FRAMES_SENT k) + 1) % 2 ^ 32
  out : t.out = s.out ++ [.linkFrame k (sofBlock s.claim f) data (eofBlock f.blocks (frameCheck (sofBlock s.claim f) data f.blocks))]

theorem State.sendTxn_txnSent {s : State} {k : Nat} (hk : k < 64) (hlink : k < s.spire.length) (module : Nat) (t : RegTxn) :
    TxnSent k (txnFrame module (((s.module k module).map SpireModule.seq).getD 0) s.ticks t) (txnOctets t) s (s.sendTxn k module t) := by
  let seq := ((s.module k module).map SpireModule.seq).getD 0
  let f := txnFrame module seq s.ticks t
  let sent := s.sendFrame k f (txnOctets t) false
  let numbered := sent.modModule k module fun m => { m with seq := (seq + 1) % 65536 }
  let waits := numbered.modLink k fun l => { l with
    waiting := l.waiting ++ [f], reads := if t.op = 1 then l.reads else l.reads ++ [(module, t)] }
  have heffect : s.sendTxn k module t = waits.noteLock k module s.ticks t.purpose := rfl
  obtain ⟨hlocks, hwaiting, htxns, hout⟩ := waits.noteLock_keeps k module s.ticks t.purpose
  have hsent : FrameSent k s sent := s.sendFrame_frameSent hk f _ false
  have hnumbered : k < numbered.spire.length := by rw [State.modModule_links, hsent.spire]; exact hlink
  have hwaits : waits.link k = { numbered.link k with
      waiting := (numbered.link k).waiting ++ [f]
      reads := if t.op = 1 then (numbered.link k).reads else (numbered.link k).reads ++ [(module, t)] } := State.link_modLink_same hnumbered _
  rw [heffect]
  refine ⟨?_, ?_, ?_, ?_, ?_⟩
  · exact (((hsent.changes.mono (by decide) fun r hr => by simp [hr]).modLink k _ (by decide)).modLink k _ (by decide)).trans
      (hlocks.mono (by decide) fun r hr => by simp [hr])
  · rw [hwaiting, hwaits, State.link_modModule_keeps SpireLink.waiting fun _ _ => rfl, State.link_of_spire hsent.spire]
  · rw [htxns, hwaits, State.link_modModule_keeps SpireLink.txns fun _ _ => rfl, State.link_of_spire hsent.spire]
  · exact (hlocks.2 _ (by exact (by decide : 1 < 1024)) (by simp [among, Reg.SPL_LOCKED, Reg.SPLCNT_FRAMES_SENT])).trans hsent.sent
  · exact hout.trans (State.count_out ..)

/-- The first sendable transaction of a link with fewer than 8 frames of KIND 1 out leaves (R302, R422). -/
theorem State.startTxn_of_sendable {s : State} {k : Nat} {p : Nat × RegTxn} {rest : List (Nat × RegTxn)}
    (hfew : ((s.link k).waiting.filter fun f => f.kind == 1).length < 8) (hsend : (s.link k).sendable = p :: rest) :
    s.startTxn k = (s.modLink k fun l => { l with txns := l.txns.erase p }).sendTxn k p.1 p.2 := by
  simp only [State.startTxn, hsend]
  exact if_neg (by omega)

/-! Frames acknowledged, sent again and abandoned (R291 to R293, R303) -/

/-- A frame sent once more (R292). -/
def SpireFrame.again (f : SpireFrame) (now : Nat) : SpireFrame := { f with resends := f.resends + 1, sentAt := now }

/-- A frame of KIND 1 sent again: it waits as it did, and one more resend is counted. -/
structure FrameResent (k : Nat) (f : SpireFrame) (s t : State) : Prop where
  changes : OnlyChanges [.spire, .drum] (linkCounters k) s t
  link : t.link k = { s.link k with waiting := (s.link k).waiting.map fun x => if x = f then f.again s.ticks else x }
  resent : t.reg (.SPLCNT_FRAMES_RESENT k) = (s.reg (.SPLCNT_FRAMES_RESENT k) + 1) % 2 ^ 32
  other : ∀ m, 2 < m → m < 1024 → t.reg ⟨0x8C00 + k, m⟩ = s.reg ⟨0x8C00 + k, m⟩
  out : t.out.length = s.out.length + 1

theorem State.resend_frameResent {s : State} {k : Nat} {f : SpireFrame} (hk : k < 64) (hlink : k < s.spire.length) (hkind : f.kind = 1)
    (hfew : f.resends < s.reg .SPL_RETRIES) : FrameResent k f s (s.resend k f) := by
  let put := s.modLink k fun l => { l with waiting := l.waiting.map fun x => if x = f then f.again s.ticks else x }
  let counted := put.count (.SPLCNT_FRAMES_RESENT k)
  have heffect : s.resend k f = counted.sendFrame k (f.again s.ticks) (f.txns.map txnOctets).flatten false := by
    have hkind' : ¬f.kind = 0 := by omega
    rw [State.resend, if_neg (Nat.not_le.2 hfew)]
    exact if_neg hkind'
  obtain ⟨hchanges, -, hother, hout⟩ := counted.sendFrame_frameSent hk (f.again s.ticks) (f.txns.map txnOctets).flatten false
  rw [heffect]
  refine ⟨?_, ?_, ?_, fun m hm hm' => ?_, ?_⟩
  · exact (((onlyChanges_refl s).modLink k _ (by decide)).countLink (by decide) 1 (fun _ => id) (by decide)).trans
      (hchanges.mono (by decide) fun _ => id)
  · have hspire : (counted.sendFrame k (f.again s.ticks) (f.txns.map txnOctets).flatten false).spire = put.spire :=
      (hchanges.1 .spire (by decide)).trans (State.count_spire ..)
    rw [State.link_of_spire hspire, State.link_modLink_same hlink]
  · exact (hother 2 (by decide) (by decide)).trans (State.reg_countLink_same hk (by decide) rfl 1)
  · exact (hother m (by omega) hm').trans (State.reg_countLink_other hk hm' (by omega) rfl 1)
  · exact hout.trans (congrArg (List.length · + 1) (State.count_out ..))

@[simp] theorem State.dropFrameOf_links (s : State) (k : Nat) (f : SpireFrame) : (s.dropFrameOf k f).spire.length = s.spire.length :=
  State.modLink_links ..

theorem State.dropFrameOf_link {s : State} {k : Nat} (hlink : k < s.spire.length) (f : SpireFrame) :
    (s.dropFrameOf k f).link k = { s.link k with waiting := (s.link k).waiting.erase f } := State.link_modLink_same hlink _

/-- The only frame that waits leaves the list. -/
theorem State.dropFrameOf_alone {s : State} {k : Nat} {f : SpireFrame} (hlink : k < s.spire.length) (hwaiting : (s.link k).waiting = [f]) :
    (s.dropFrameOf k f).link k = { s.link k with waiting := [] } := by
  rw [State.dropFrameOf_link hlink, hwaiting, List.erase_cons_head]

/-- A segment abandoned after its resends: its link is failed for the epoch, and one event is posted (R292). -/
def State.abandonSegment (s : State) (k : Nat) (f : SpireFrame) : State :=
  ((((s.dropFrameOf k f).count (.SPLCNT_FRAMES_FAILED k)).post 0x8803 4
    (k + (f.module - 1) * 64 + f.kind * 2048 + f.number * 16384)).modLoad k f.number fun x => { x with failed := true, toSend := [] }).modEpoch
      f.number fun e => { e with failedLinks := k :: e.failedLinks }

/-- A segment abandoned: the frames that wait lose it, its link fails its epoch, and at most one counter posts before the event. -/
structure SegmentAbandoned (k : Nat) (f : SpireFrame) (s t : State) : Prop where
  changes : OnlyChanges [.epochs, .spire, .drum] (linkCounters k) s t
  waiting : (t.link k).waiting = (s.link k).waiting.erase f
  reqs : (t.link k).reqs = (s.link k).reqs
  failed : t.reg (.SPLCNT_FRAMES_FAILED k) = (s.reg (.SPLCNT_FRAMES_FAILED k) + 1) % 2 ^ 32
  posted : ∃ v : State, v.posted ≤ s.posted + 1 ∧
    t.drum = (v.post 0x8803 4 (k + (f.module - 1) * 64 + f.kind * 2048 + f.number * 16384)).drum
  epochs : ∀ e ∈ t.epochs, e.epoch = f.number → k ∈ e.failedLinks
  out : t.out = s.out

theorem State.abandonSegment_segmentAbandoned {s : State} {k : Nat} (hk : k < 64) (hlink : k < s.spire.length) (f : SpireFrame) :
    SegmentAbandoned k f s (s.abandonSegment k f) := by
  have hspire : (((s.dropFrameOf k f).count (.SPLCNT_FRAMES_FAILED k)).post 0x8803 4
      (k + (f.module - 1) * 64 + f.kind * 2048 + f.number * 16384)).spire = (s.dropFrameOf k f).spire :=
    (State.post_spire ..).trans (State.count_spire ..)
  have hdropped := State.dropFrameOf_link hlink f
  refine ⟨?_, ?_, ?_, ?_, ⟨(s.dropFrameOf k f).count (.SPLCNT_FRAMES_FAILED k), State.posted_count .., rfl⟩, fun e he hepoch => ?_, ?_⟩
  · exact ((((((onlyChanges_refl s).modLink k _ (by decide)).countLink (by decide) 1 (fun _ => id) (by decide)).post _ _ _ (by decide)
      (by decide)).modLink k _ (by decide)).modEpoch _ _ (by decide))
  · refine (State.modLoad_waiting _ k f.number fun x => { x with failed := true, toSend := [] }).trans ?_
    rw [State.link_of_spire hspire, hdropped]
  · refine (State.link_modLink_keeps SpireLink.reqs (f := fun l => { l with
      epochs := l.epochs.map fun x => if x.epoch = f.number then { x with failed := true, toSend := [] } else x }) (fun _ => rfl) _ k k).trans ?_
    rw [State.link_of_spire hspire, hdropped]
  · exact (State.reg_post_low _ _ _ _ _ (by decide)).trans (State.reg_countLink_same hk (by decide) rfl 1)
  · obtain ⟨e', -, rfl⟩ := List.mem_map.1 he
    split
    · exact List.mem_cons_self
    next hother => exact absurd (by rwa [if_neg hother] at hepoch) hother
  · exact (State.post_out ..).trans (State.count_out ..)

theorem State.resend_of_spent {s : State} {k : Nat} {f : SpireFrame} (hkind : f.kind = 0) (hspent : s.reg .SPL_RETRIES ≤ f.resends) :
    s.resend k f = s.abandonSegment k f := by
  rw [State.resend, if_pos hspent, State.frameFailed, if_pos hkind]
  rfl

/-- A module's COMPLETE noted in the loading of an epoch (R292, R293). -/
def LinkEpoch.noteComplete (module : Nat) (x : LinkEpoch) : LinkEpoch :=
  if x.complete.contains module then x else { x with complete := module :: x.complete }

theorem LinkEpoch.noteComplete_contains (module : Nat) (x : LinkEpoch) : (x.noteComplete module).complete.contains module = true := by
  unfold LinkEpoch.noteComplete
  split
  · assumption
  · simp

/-- What a DACK does to the frame it names (R291 to R293, R303). -/
def State.dackFrame (s : State) (k : Nat) (v : List Nat) (f : SpireFrame) : State :=
  if nth v 5 0 / 16 = 1 then (s.count (.SPLCNT_DACK_CHECK_FAIL k)).resend k f
  else if nth v 5 0 / 16 = 2 ∨ nth v 5 0 / 16 = 3 then s.frameFailed k f
  else if nth v 5 0 / 16 = 0 ∨ nth v 5 0 / 16 = 4 then
    if nth v 1 0 / 32 = 0 then
      if bitOf (nth v 6 0) 0 then
        (s.dropFrameOf k f).modLoad k (nth v 2 0 + 256 * nth v 3 0) (LinkEpoch.noteComplete (nth v 1 0 % 32 + 1))
      else s.dropFrameOf k f
    else f.txns.foldl (fun s t => s.txnDelivered t) (s.dropFrameOf k f)
  else s

/-- A DACK names the frame with its KIND, module and number, and of a shadow with its segment and generation. -/
theorem State.dack_of_named {s : State} {k : Nat} {v : List Nat} {f : SpireFrame} (hwaiting : (s.link k).waiting = [f])
    (hkind : f.kind = nth v 1 0 / 32) (hmodule : f.module = nth v 1 0 % 32 + 1) (hnumber : f.number = nth v 2 0 + 256 * nth v 3 0)
    (hsegment : f.kind = 0 → f.segment = nth v 4 0 ∧ f.gen = nth v 5 0 % 16) : s.dack k v = s.dackFrame k v f := by
  have hnamed : (f.kind == nth v 1 0 / 32 && f.module == nth v 1 0 % 32 + 1 && f.number == nth v 2 0 + 256 * nth v 3 0 &&
      (nth v 1 0 / 32 != 0 || (f.segment == nth v 4 0 && f.gen == nth v 5 0 % 16))) = true := by
    by_cases hshadow : f.kind = 0
    · obtain ⟨hseg, hgen⟩ := hsegment hshadow
      simp [← hkind, ← hmodule, ← hnumber, ← hseg, ← hgen]
    · simp [← hkind, ← hmodule, ← hnumber, hshadow]
  simp only [State.dack, hwaiting, List.find?_cons, hnamed]
  rfl

/-- A DACK of KIND 1 names the frame with the module's SEQ, whatever its segment. -/
theorem State.dack_of_txnFrame {s : State} {k : Nat} {v : List Nat} {f : SpireFrame} (hwaiting : (s.link k).waiting = [f])
    (hnames : f.kind = 1 ∧ nth v 1 0 = 32 + (f.module - 1) ∧ 1 ≤ f.module ∧ f.module ≤ 32) (hnumber : f.number = nth v 2 0 + 256 * nth v 3 0) :
    s.dack k v = s.dackFrame k v f := by
  obtain ⟨hkind, hmodule, hlow, hhigh⟩ := hnames
  exact State.dack_of_named hwaiting (by omega) (by omega) hnumber (by omega)

/-- A DACK that leaves the loading of epochs as it was acknowledges no shadow. -/
theorem State.dackSig_of_epochs {s : State} {k : Nat} {v : List Nat} (h : ((s.dack k v).link k).epochs = (s.link k).epochs) :
    s.dackSig k v = s.dack k v := by
  have hsame : (s.dack k v).ackedSignature k (nth v 2 0 + 256 * nth v 3 0) = s.ackedSignature k (nth v 2 0 + 256 * nth v 3 0) := by
    rw [State.ackedSignature, State.ackedSignature, h]
  simp only [State.dackSig, hsame]
  cases s.ackedSignature k (nth v 2 0 + 256 * nth v 3 0) <;> rfl

/-- The LINK_SIG of a shadow acknowledged is a matter of twin operation (R454). -/
theorem State.linkSig_changes (s : State) (epoch k sig : Nat) : OnlyChanges [.twin, .drum] (blocks [13]) s (s.linkSig epoch k sig) := by
  have hmirror : ∀ kind payload, OnlyChanges [.twin, .drum] (blocks [13]) s (s.sendMirror kind payload) := fun kind payload => by
    unfold State.sendMirror
    split
    · exact onlyChanges_refl s
    · split
      · exact ((onlyChanges_refl s).modTwin _ (by decide)).emit _
      · exact (onlyChanges_refl s).emit _
  unfold State.linkSig
  split
  · unfold State.recordLink
    extract_lets here r s1
    have hs1 : OnlyChanges [.twin, .drum] (blocks [13]) s s1 := (hmirror _ _).modTwin _ (by decide)
    split
    · exact (hs1.count _ _ (by decide) (by decide) (by decide)).setReg _ _ (by decide) (by decide)
    · exact hs1
  · exact onlyChanges_refl s

theorem State.dackSig_changes (s : State) (k : Nat) (v : List Nat) : OnlyChanges [.twin, .drum] (blocks [13]) (s.dack k v) (s.dackSig k v) := by
  unfold State.dackSig
  extract_lets epoch s1
  split
  · exact State.linkSig_changes ..
  · exact onlyChanges_refl _

/-- Posted writes that their module has received move the bridge, and what its sessions see. -/
theorem State.txnsDelivered_changes (s : State) (ts : List RegTxn) :
    OnlyChanges [.bridge, .idp, .smap, .drum] (entries [0xC600]) s (ts.foldl (fun s t => s.txnDelivered t) s) := by
  refine List.foldlRecOn ts _ (onlyChanges_refl s) fun u hu t _ => ?_
  unfold State.txnDelivered
  split
  next n _ =>
    split
    · exact hu.trans (u.brgDone_transferEnd n 0).changes
    · exact hu
  · exact hu

/-! Upstream frames (R304) -/

theorem OnlyChanges.grantNext {parts : List Part} {regs : Reg → Bool} {s t : State} (h : OnlyChanges parts regs s t) (k : Nat)
    (hspire : .spire ∈ parts) : OnlyChanges parts regs s (t.grantNext k) := by
  unfold State.grantNext
  split
  · exact h
  · exact (h.modLink k _ hspire).emit _

theorem State.grantNext_reqs (s : State) (k : Nat) : ((s.grantNext k).link k).reqs = (s.link k).reqs := by
  unfold State.grantNext
  split
  · rfl
  · exact State.link_modLink_keeps SpireLink.reqs (f := fun l => { l with grantAt := s.ticks }) (fun _ => rfl) s k k

theorem State.grantNext_out (s : State) (k : Nat) : s.out <+: (s.grantNext k).out := by
  unfold State.grantNext
  split
  · exact List.prefix_refl _
  · exact List.prefix_append _ _

theorem State.grantNext_of_req {s : State} {k kind m q n : Nat} {rest : List (Nat × Nat × Nat × Nat)}
    (hreqs : (s.link k).reqs = (kind, m, q, n) :: rest) : s.grantNext k =
      (s.modLink k fun l => { l with grantAt := s.ticks }).sendBlock k 0x38 [m - 1, s.claim, q % 256, q / 256, 0] := by
  simp only [State.grantNext, hreqs]

/-- The first REQ of a module that may send is queued, and granted with none before it (R304, R305). -/
theorem State.reqTaken_of_first {s : State} {k kind : Nat} (hkind : kind = 2 ∨ kind = 3 ∧ (s.link k).lock = none) (hreqs : (s.link k).reqs = [])
    (module seq blocks : Nat) : s.reqTaken k kind module seq blocks =
      (s.modLink k fun l => { l with reqs := l.reqs ++ [(kind, module, seq, blocks)] }).grantNext k := by
  have hkind' : ¬(kind ≠ 2 ∧ kind ≠ 3) := by omega
  have hfree : ¬(kind = 3 ∧ (s.link k).lock.isSome = true) := by
    rcases hkind with rfl | ⟨-, hlock⟩
    · simp
    · simp [hlock]
  simp only [State.reqTaken]
  rw [if_neg hkind', if_neg (by simp [hreqs]), if_neg hfree, if_pos hreqs]

/-- What the check of a granted frame counts, and the SEQ its module is noted with (R281, R304). -/
def State.noteUp (s : State) (k m q : Nat) (ok again : Bool) : State :=
  if ok then
    if again then s else (s.modModule k m fun x => { x with upSeq := some q }).count (.SPLCNT_UP_FRAMES k)
  else s.count (.SPLCNT_UP_CHECK_FAIL k)

theorem State.noteUp_keeps (s : State) (k m q : Nat) (ok again : Bool) : OnlyChanges [.spire, .drum] (linkCounters k) s (s.noteUp k m q ok again) ∧
    ((s.noteUp k m q ok again).link k).reqs = (s.link k).reqs ∧ (s.noteUp k m q ok again).out = s.out := by
  unfold State.noteUp
  split
  · split
    · exact ⟨onlyChanges_refl s, rfl, rfl⟩
    · refine ⟨((onlyChanges_refl s).modLink k _ (by decide)).countLink (by decide) 1 (fun _ => id) (by decide), ?_, State.count_out ..⟩
      rw [State.link_of_spire (State.count_spire ..), State.link_modModule_keeps SpireLink.reqs fun _ _ => rfl]
  · refine ⟨(onlyChanges_refl s).countLink (by decide) 1 (fun _ => id) (by decide), ?_, State.count_out ..⟩
    rw [State.link_of_spire (State.count_spire ..)]

end Sys2Proof.Machine

namespace Sys2Proof.Proofs

open Machine

/-! LINK_FRAME_START, DACK_RECEIVE, ACK_TIMEOUT, REQ_RECEIVE and UP_FRAME_EOF (R291, R292, R302 to R304) -/

theorem exec_linkFrameStart (dt k kind : Nat) (fills : List Nat) (starved corrected : Nat) (double : Bool) (s : State) :
    exec (.linkFrameStart dt k kind fills starved corrected double) s = execLinkFrameStart dt k kind fills starved corrected double s := rfl
theorem exec_dackReceive (dt k : Nat) (block : List Octet) (s : State) : exec (.dackReceive dt k block) s = execDackReceive dt k block s := rfl
theorem exec_ackTimeout (dt k : Nat) (s : State) : exec (.ackTimeout dt k) s = execAckTimeout dt k s := rfl
theorem exec_reqReceive (dt k : Nat) (block : List Octet) (s : State) : exec (.reqReceive dt k block) s = execReqReceive dt k block s := rfl
theorem exec_upFrameEof (dt k : Nat) (sof data eof : List Octet) (s : State) :
    exec (.upFrameEof dt k sof data eof) s = execUpFrameEof dt k sof data eof s := rfl

theorem begun_segmentReady (s : State) (dt : Nat) (e : Epoch) (k module seg : Nat) :
    (begun s dt).segmentReady e k module seg = s.segmentReady e k module seg := by
  simp only [State.segmentReady, State.packed, begun_slots]

theorem linkFrameStart_sendsSegment (dt k starved corrected module seg : Nat) (last : Bool) (fills : List Nat) (e : Epoch) (x : LinkEpoch)
    (rest : List (Nat × Nat × Bool)) (s : State) (hk : k < 64) (hlinks : s.spire.length = 64) (hidle : (s.elapse dt).linkBusy k = false)
    (hstate : s.reg (.SPL_STATE k) = 5) (hnext : s.nextLoad k = some (e, x)) (hsend : x.toSend = (module, seg, last) :: rest)
    (hready : s.segmentReady e k module seg = true) :
    Completes (.linkFrameStart dt k 0 fills starved corrected false) s fun s0 t => t.out.length = 1 ∧
      (t.link k).waiting.length = (s.link k).waiting.length + 1 ∧
      (t.link k).waiting.getLast?.map (fun f => (f.kind, f.module, f.number, f.segment, f.last, f.sentAt)) =
        some (0, module, e.epoch, seg, last, s.ticks + dt) ∧
      t.reg (.SPLCNT_FRAMES_SENT k) = (s.reg (.SPLCNT_FRAMES_SENT k) + 1) % 2 ^ 32 ∧
      OnlyChanges [.epochs, .spire, .drum, .log] (andDrum (fun r => blocks [8] r || entries [0xA080] r)) s0 t := by
  let started := (begun s dt).startSegment k fills starved false
  have hstarted : SegmentStarted k ((begun s dt).segmentFrame k e x module seg last) (begun s dt) started :=
    State.startSegment_segmentStarted (s := begun s dt) hk (hk.trans_eq hlinks.symm) hnext hsend
      ((begun_segmentReady s dt ..).trans hready) fills starved
  have hwaiting : ((ended s dt (started.count .OCUCNT_LINE_BUFFER_CORRECTED corrected)).link k).waiting =
      (s.link k).waiting ++ [(begun s dt).segmentFrame k e x module seg last] := by
    rw [ended_link, State.link_of_spire (State.count_spire ..), hstarted.waiting]; rfl
  have hfree : ¬(64 ≤ k ∨ (begun s dt).linkBusy k = true) := by
    rintro (hlate | hbusy)
    · omega
    · exact Bool.noConfusion (hidle.symm.trans hbusy)
  refine completes_of_effect (dt := dt) (u := started.count .OCUCNT_LINE_BUFFER_CORRECTED corrected) rfl (exec_linkFrameStart ..)
    ((if_neg hfree).trans ((if_pos rfl).trans (if_pos hstate))) ⟨?_, ?_, ?_, ?_, ?_⟩
  · rw [ended_out, State.count_out, hstarted.out]; rfl
  · rw [hwaiting, List.length_append]; rfl
  · rw [hwaiting, List.getLast?_concat]; rfl
  · refine ended_counted hk 1 (by decide) ((State.reg_count_other _ _ _ _ ?_ (linkCounter_key hk (by decide))).trans hstarted.sent)
    simp only [Reg.key, Reg.OCUCNT_LINE_BUFFER_CORRECTED]; omega
  · refine (((onlyChanges_begun s dt).trans (hstarted.changes.mono (by decide) fun r hr => ?_)).count _ _ (by decide) (by decide)
      (by decide)).ended (by decide) (by decide)
    simp only [fillRegs, linkCounters, entries_iff, blocks_iff, Bool.or_eq_true, List.mem_cons, List.not_mem_nil, or_false] at hr ⊢
    omega

theorem linkFrameStart_sendsTxn (dt k starved corrected : Nat) (double : Bool) (fills : List Nat) (p : Nat × RegTxn) (rest : List (Nat × RegTxn))
    (s : State) (hk : k < 64) (hlinks : s.spire.length = 64) (hidle : (s.elapse dt).linkBusy k = false) (hstate : 3 ≤ s.reg (.SPL_STATE k))
    (hfew : ((s.link k).waiting.filter fun f => f.kind == 1).length < 8) (hsend : (s.link k).sendable = p :: rest) :
    Completes (.linkFrameStart dt k 1 fills starved corrected double) s fun s0 t =>
      t.out = [.linkFrame k (sofBlock s.claim (⟨1, p.1, ((s.module k p.1).map SpireModule.seq).getD 0, 0, 0, false, 0, s.ticks + dt,
          (txnOctets p.2).length / 8, [p.2]⟩ : SpireFrame)) (txnOctets p.2)
        (eofBlock ((txnOctets p.2).length / 8) (frameCheck (sofBlock s.claim (⟨1, p.1, ((s.module k p.1).map SpireModule.seq).getD 0, 0, 0, false, 0,
          s.ticks + dt, (txnOctets p.2).length / 8, [p.2]⟩ : SpireFrame)) (txnOctets p.2) ((txnOctets p.2).length / 8)))] ∧
      (t.link k).waiting = (s.link k).waiting ++ [(⟨1, p.1, ((s.module k p.1).map SpireModule.seq).getD 0, 0, 0, false, 0, s.ticks + dt,
        (txnOctets p.2).length / 8, [p.2]⟩ : SpireFrame)] ∧
      (t.link k).txns = (s.link k).txns.erase p ∧ t.reg (.SPLCNT_FRAMES_SENT k) = (s.reg (.SPLCNT_FRAMES_SENT k) + 1) % 2 ^ 32 ∧
      OnlyChanges [.spire, .drum, .log] (andDrum (blocks [8])) s0 t := by
  let taken := (begun s dt).modLink k fun l => { l with txns := l.txns.erase p }
  have hlink : k < (begun s dt).spire.length := hk.trans_eq hlinks.symm
  have htaken : taken.link k = { s.link k with txns := (s.link k).txns.erase p } := State.link_modLink_same hlink _
  have hmodule : taken.module k p.1 = s.module k p.1 := State.module_of_modules (by rw [htaken]) p.1
  have hsent := State.sendTxn_txnSent (s := taken) hk (by rw [State.modLink_links]; exact hlink) p.1 p.2
  rw [hmodule] at hsent
  have hfree : ¬(64 ≤ k ∨ (begun s dt).linkBusy k = true) := by
    rintro (hlate | hbusy)
    · omega
    · exact Bool.noConfusion (hidle.symm.trans hbusy)
  refine completes_of_effect (dt := dt) (u := taken.sendTxn k p.1 p.2) rfl (exec_linkFrameStart ..)
    ((if_neg hfree).trans ((if_neg (by decide)).trans ((if_pos ⟨rfl, hstate⟩).trans (State.startTxn_of_sendable (s := begun s dt) hfew hsend))))
    ⟨?_, ?_, ?_, ?_, ?_⟩
  · rw [ended_out, hsent.out]; rfl
  · rw [ended_link, hsent.waiting, htaken]; rfl
  · rw [ended_link, hsent.txns, htaken]
  · exact ended_counted hk 1 (by decide) hsent.sent
  · refine (((onlyChanges_begun s dt).modLink k _ (by decide)).trans (hsent.changes.mono (by decide) fun r hr => ?_)).ended (by decide) (by decide)
    rcases Bool.or_eq_true_iff.1 hr with hlocked | hcounter
    · rw [List.mem_singleton.1 (among_iff.1 hlocked), blocks_iff, List.mem_singleton]
      simp only [Reg.SPL_LOCKED]; omega
    · exact linkCounters_block hk hcounter

theorem dackReceive_takesTxnFrame (dt k : Nat) (v : List Nat) (block : List Octet) (f : SpireFrame) (s : State) (hk : k < 64)
    (hlinks : s.spire.length = 64) (hparse : parseBlock block = some v) (hstatus : nth v 0 0 = 0x50 ∧ nth v 5 0 / 16 = 0)
    (hwaiting : (s.link k).waiting = [f])
    (hnames : f.kind = 1 ∧ nth v 1 0 = 32 + (f.module - 1) ∧ 1 ≤ f.module ∧ f.module ≤ 32) (hnumber : f.number = nth v 2 0 + 256 * nth v 3 0) :
    Completes (.dackReceive dt k block) s fun s0 t => (t.link k).waiting = [] ∧
      OnlyChanges [.bridge, .idp, .smap, .spire, .drum, .log] (andDrum (entries [0xC600])) s0 t := by
  obtain ⟨htype, hstatus⟩ := hstatus
  let dropped := (begun s dt).dropFrameOf k f
  let delivered := f.txns.foldl (fun s t => s.txnDelivered t) dropped
  have hdropped : dropped.link k = { s.link k with waiting := [] } :=
    State.dropFrameOf_alone (s := begun s dt) (hk.trans_eq hlinks.symm) hwaiting
  have hdelivered : OnlyChanges [.bridge, .idp, .smap, .drum] (entries [0xC600]) dropped delivered := dropped.txnsDelivered_changes f.txns
  have hlink : delivered.link k = { s.link k with waiting := [] } :=
    (State.link_of_spire (hdelivered.1 .spire (by decide)) k).trans hdropped
  have hdack : (begun s dt).dack k v = delivered := by
    have hkind : ¬nth v 1 0 / 32 = 0 := by omega
    rw [State.dack_of_txnFrame (s := begun s dt) hwaiting hnames hnumber, State.dackFrame, hstatus]
    exact if_neg hkind
  have hsig : (begun s dt).dackSig k v = delivered := by
    rw [State.dackSig_of_epochs (by rw [hdack, hlink]; rfl), hdack]
  refine completes_of_effect (dt := dt) (u := delivered) rfl (exec_dackReceive ..) ((State.onBlock_of_parsed hk hparse htype _).trans hsig) ⟨?_, ?_⟩
  · rw [ended_link, hlink]
  · exact (((onlyChanges_begun s dt).modLink k _ (by decide)).trans (hdelivered.mono (by decide) fun _ => id)).ended (by decide) (by decide)

/-- A frame of KIND 1 that waits alone sent again, for a reason that its link counts. -/
structure ResentAlone (dt k n : Nat) (f : SpireFrame) (s t : State) : Prop where
  link : t.link k = { s.link k with waiting := [f.again (s.ticks + dt)] }
  out : t.out.length = 1
  counted : t.reg ⟨0x8C00 + k, n⟩ = (s.reg ⟨0x8C00 + k, n⟩ + 1) % 2 ^ 32
  resent : t.reg (.SPLCNT_FRAMES_RESENT k) = (s.reg (.SPLCNT_FRAMES_RESENT k) + 1) % 2 ^ 32
  changes : OnlyChanges [.spire, .drum, .log] (andDrum (blocks [8])) (s.elapse dt) t

theorem count_resend_resentAlone {dt k n : Nat} {f : SpireFrame} {s : State} (hn : 3 ≤ n ∧ n ≤ 17) (hk : k < 64) (hlinks : s.spire.length = 64)
    (hwaiting : (s.link k).waiting = [f]) (hkind : f.kind = 1) (hfew : f.resends < s.reg .SPL_RETRIES) :
    ResentAlone dt k n f s (ended s dt (((begun s dt).count ⟨0x8C00 + k, n⟩).resend k f)) := by
  let counted := (begun s dt).count ⟨0x8C00 + k, n⟩
  have hcounted : OnlyChanges [.drum] (linkCounters k) (s.elapse dt) counted :=
    (onlyChanges_begun s dt).countLink (by omega) 1 (fun _ => id) (by decide)
  have hspire : counted.spire = s.spire := State.count_spire ..
  obtain ⟨hresends, hlink, hresent, hother, hout⟩ := State.resend_frameResent (s := counted) hk (by rw [hspire, hlinks]; exact hk) hkind
    (hfew.trans_eq (hcounted.2 _ (by decide) (by simp [linkCounters, entries, Reg.SPL_RETRIES]; omega)).symm)
  refine ⟨?_, ?_, ?_, ?_, ?_⟩
  · rw [ended_link, hlink, State.link_of_spire hspire, hwaiting, List.map_cons, if_pos rfl, List.map_nil, State.count_ticks]; rfl
  · rw [ended_out, hout, State.count_out]; rfl
  · exact ended_counted hk n (by omega) ((hother n (by omega) (by omega)).trans (State.reg_countLink_same hk (by omega) rfl 1))
  · refine ended_counted hk 2 (by decide) (hresent.trans ?_)
    exact congrArg (fun n => (n + 1) % 2 ^ 32) (State.reg_countLink_other hk (by decide) (by omega) rfl 1)
  · exact ((hcounted.mono (by decide) fun _ => linkCounters_block hk).trans
      (hresends.mono (by decide) fun _ => linkCounters_block hk)).ended (by decide) (by decide)

theorem dackReceive_resendsTxnFrame (dt k : Nat) (v : List Nat) (block : List Octet) (f : SpireFrame) (s : State) (hk : k < 64)
    (hlinks : s.spire.length = 64) (hparse : parseBlock block = some v) (hstatus : nth v 0 0 = 0x50 ∧ nth v 5 0 / 16 = 1)
    (hwaiting : (s.link k).waiting = [f])
    (hnames : f.kind = 1 ∧ nth v 1 0 = 32 + (f.module - 1) ∧ 1 ≤ f.module ∧ f.module ≤ 32) (hnumber : f.number = nth v 2 0 + 256 * nth v 3 0)
    (hfew : f.resends < s.reg .SPL_RETRIES) :
    Completes (.dackReceive dt k block) s fun s0 t => (t.link k).waiting = [{ f with resends := f.resends + 1, sentAt := s.ticks + dt }] ∧
      t.out.length = 1 ∧ t.reg (.SPLCNT_DACK_CHECK_FAIL k) = (s.reg (.SPLCNT_DACK_CHECK_FAIL k) + 1) % 2 ^ 32 ∧
      t.reg (.SPLCNT_FRAMES_RESENT k) = (s.reg (.SPLCNT_FRAMES_RESENT k) + 1) % 2 ^ 32 ∧
      OnlyChanges [.spire, .drum, .log] (andDrum (blocks [8])) s0 t := by
  obtain ⟨htype, hstatus⟩ := hstatus
  let resent := ((begun s dt).count (.SPLCNT_DACK_CHECK_FAIL k)).resend k f
  have halone : ResentAlone dt k 4 f s (ended s dt resent) := count_resend_resentAlone (by decide) hk hlinks hwaiting hnames.1 hfew
  have hdack : (begun s dt).dack k v = resent := by
    rw [State.dack_of_txnFrame (s := begun s dt) hwaiting hnames hnumber, State.dackFrame]
    exact if_pos hstatus
  have hepochs : (resent.link k).epochs = (s.link k).epochs := by rw [← ended_link s resent dt, halone.link]
  have hsig : (begun s dt).dackSig k v = resent := (State.dackSig_of_epochs (by rw [hdack, hepochs]; rfl)).trans hdack
  exact completes_of_effect (dt := dt) (u := resent) rfl (exec_dackReceive ..) ((State.onBlock_of_parsed hk hparse htype _).trans hsig)
    ⟨congrArg SpireLink.waiting halone.link, halone.out, halone.counted, halone.resent, halone.changes⟩

theorem dackReceive_notesComplete (dt k : Nat) (v : List Nat) (block : List Octet) (f : SpireFrame) (x : LinkEpoch) (s : State) (hk : k < 64)
    (hlinks : s.spire.length = 64) (hparse : parseBlock block = some v)
    (hstatus : nth v 0 0 = 0x50 ∧ nth v 5 0 / 16 = 0 ∧ bitOf (nth v 6 0) 0 = true) (hwaiting : (s.link k).waiting = [f])
    (hnames : f.kind = 0 ∧ nth v 1 0 = f.module - 1 ∧ 1 ≤ f.module ∧ f.module ≤ 32 ∧ f.segment = nth v 4 0 ∧ f.gen = nth v 5 0 % 16)
    (hnumber : f.number = nth v 2 0 + 256 * nth v 3 0) (hepochs : (s.link k).epochs = [x]) (hepoch : x.epoch = f.number) :
    Completes (.dackReceive dt k block) s fun s0 t => (t.link k).waiting = [] ∧
      (∀ y ∈ (t.link k).epochs, y.complete.contains f.module = true) ∧ (t.link k).epochs.length = 1 ∧
      OnlyChanges [.spire, .twin, .drum, .log] (andDrum (blocks [13])) s0 t := by
  obtain ⟨htype, hstatus, hcomplete⟩ := hstatus
  obtain ⟨hkind, hmodule, hlow, hhigh, hsegment⟩ := hnames
  have hmodule' : f.module = nth v 1 0 % 32 + 1 := by omega
  let dropped := (begun s dt).dropFrameOf k f
  let acked := dropped.modLoad k f.number (LinkEpoch.noteComplete f.module)
  have hlink : k < (begun s dt).spire.length := hk.trans_eq hlinks.symm
  have hdropped : dropped.link k = { s.link k with waiting := [] } := State.dropFrameOf_alone (s := begun s dt) hlink hwaiting
  have hacked : acked.link k = { s.link k with waiting := [], epochs := [x.noteComplete f.module] } := by
    have hloaded : acked.link k = { dropped.link k with
        epochs := (dropped.link k).epochs.map fun y => if y.epoch = f.number then y.noteComplete f.module else y } :=
      State.link_modLink_same (by rw [State.dropFrameOf_links]; exact hlink) _
    rw [hloaded, hdropped, hepochs, List.map_cons, List.map_nil, if_pos hepoch]
  have hdack : (begun s dt).dack k v = acked := by
    have hkind' : nth v 1 0 / 32 = 0 := by omega
    rw [State.dack_of_named (s := begun s dt) hwaiting (hkind.trans hkind'.symm) hmodule' hnumber fun _ => hsegment, State.dackFrame, hstatus]
    simp only [hkind', hcomplete, ← hmodule', ← hnumber]
    rfl
  have htold : OnlyChanges [.twin, .drum] (blocks [13]) acked ((begun s dt).dackSig k v) := hdack ▸ (begun s dt).dackSig_changes k v
  have hlast : (ended s dt ((begun s dt).dackSig k v)).link k = { s.link k with waiting := [], epochs := [x.noteComplete f.module] } := by
    rw [ended_link, State.link_of_spire (htold.1 .spire (by decide)), hacked]
  refine completes_of_effect (dt := dt) (u := (begun s dt).dackSig k v) rfl (exec_dackReceive ..) (State.onBlock_of_parsed hk hparse htype _)
    ⟨?_, fun y hy => ?_, ?_, ?_⟩
  · rw [hlast]
  · rw [hlast] at hy
    rw [List.mem_singleton.1 hy]; exact x.noteComplete_contains f.module
  · rw [hlast]; rfl
  · exact ((((onlyChanges_begun s dt).modLink k _ (by decide)).modLink k _ (by decide)).trans (htold.mono (by decide) fun _ => id)).ended (by decide)
      (by decide)

/-- One frame late and nothing granted: the time-out is that frame's. -/
theorem execAckTimeout_of_alone {dt k : Nat} {f : SpireFrame} {s : State} (hwaiting : (s.link k).waiting = [f])
    (hlate : f.sentAt + frameClocks f.blocks + nsTicks (s.reg .SPL_ACK_TIMEOUT) ≤ s.ticks + dt)
    (hreqs : ((((begun s dt).count (.SPLCNT_ACK_TIMEOUTS k)).resend k f).link k).reqs = []) :
    execAckTimeout dt k s = run s dt fun s => (s.count (.SPLCNT_ACK_TIMEOUTS k)).resend k f := by
  refine run_congr ?_
  have hlate' : ((begun s dt).link k).waiting.filter (fun f =>
      Nat.ble (f.sentAt + frameClocks f.blocks + nsTicks ((begun s dt).reg .SPL_ACK_TIMEOUT)) (begun s dt).ticks) = [f] := by
    rw [begun_link, hwaiting, begun_reg, begun_ticks, List.filter_cons_of_pos (by rwa [Nat.ble_eq]), List.filter_nil]
  simp only [hlate', List.foldl_cons, List.foldl_nil, hreqs]

theorem ackTimeout_resendsTxnFrame (dt k : Nat) (f : SpireFrame) (s : State) (hk : k < 64) (hlinks : s.spire.length = 64)
    (hwaiting : (s.link k).waiting = [f]) (hreqs : (s.link k).reqs = []) (hkind : f.kind = 1) (hfew : f.resends < s.reg .SPL_RETRIES)
    (hlate : f.sentAt + frameClocks f.blocks + nsTicks (s.reg .SPL_ACK_TIMEOUT) ≤ s.ticks + dt) :
    Completes (.ackTimeout dt k) s fun s0 t => (t.link k).waiting = [{ f with resends := f.resends + 1, sentAt := s.ticks + dt }] ∧
      t.out.length = 1 ∧ t.reg (.SPLCNT_ACK_TIMEOUTS k) = (s.reg (.SPLCNT_ACK_TIMEOUTS k) + 1) % 2 ^ 32 ∧
      t.reg (.SPLCNT_FRAMES_RESENT k) = (s.reg (.SPLCNT_FRAMES_RESENT k) + 1) % 2 ^ 32 ∧
      OnlyChanges [.spire, .drum, .log] (andDrum (blocks [8])) s0 t := by
  let resent := ((begun s dt).count (.SPLCNT_ACK_TIMEOUTS k)).resend k f
  have halone : ResentAlone dt k 5 f s (ended s dt resent) := count_resend_resentAlone (by decide) hk hlinks hwaiting hkind hfew
  have hnone : (resent.link k).reqs = [] := by rw [← ended_link s resent dt, halone.link]; exact hreqs
  exact completes_of_effect (dt := dt) (u := resent) rfl ((exec_ackTimeout ..).trans (execAckTimeout_of_alone hwaiting hlate hnone)) rfl
    ⟨congrArg SpireLink.waiting halone.link, halone.out, halone.counted, halone.resent, halone.changes⟩

theorem ackTimeout_abandonsSegment (dt k : Nat) (f : SpireFrame) (s : State) (htakes : Takes s 4) (hk : k < 64) (hlinks : s.spire.length = 64)
    (hwaiting : (s.link k).waiting = [f]) (hreqs : (s.link k).reqs = []) (hkind : f.kind = 0) (hspent : s.reg .SPL_RETRIES ≤ f.resends)
    (hlate : f.sentAt + frameClocks f.blocks + nsTicks (s.reg .SPL_ACK_TIMEOUT) ≤ s.ticks + dt) :
    Completes (.ackTimeout dt k) s fun s0 t => (t.link k).waiting = [] ∧
      t.reg (.SPLCNT_FRAMES_FAILED k) = (s.reg (.SPLCNT_FRAMES_FAILED k) + 1) % 2 ^ 32 ∧
      Posted t 0x8803 4 (k + (f.module - 1) * 64 + f.number * 16384) ∧ (∀ e ∈ t.epochs, e.epoch = f.number → k ∈ e.failedLinks) ∧ t.out = [] ∧
      OnlyChanges [.epochs, .spire, .drum, .log] (andDrum (blocks [8])) s0 t := by
  obtain ⟨hquiet, hmin⟩ := htakes
  let counted := (begun s dt).count (.SPLCNT_ACK_TIMEOUTS k)
  have hspire : counted.spire = s.spire := State.count_spire ..
  have hlink : counted.link k = s.link k := State.link_of_spire hspire k
  have hcounted : OnlyChanges [.epochs, .spire, .drum, .log] (linkCounters k) (s.elapse dt) counted :=
    (onlyChanges_begun s dt).countLink (by decide) 1 (fun _ => id) (by decide)
  have hspent' : counted.reg .SPL_RETRIES ≤ f.resends := by
    rwa [hcounted.2 _ (by decide) (by simp [linkCounters, entries, Reg.SPL_RETRIES]; omega)]
  obtain ⟨habandons, hdropped, hreqs', hfailed, ⟨v, hfew, hdrum⟩, hepochs, hout⟩ :=
    State.abandonSegment_segmentAbandoned (s := counted) hk (by rw [hspire, hlinks]; exact hk) f
  rw [← State.resend_of_spent hkind hspent'] at habandons hdropped hreqs' hfailed hdrum hepochs hout
  have hchanges := hcounted.trans (habandons.mono (by decide) fun _ => id)
  refine completes_of_effect (dt := dt) (u := counted.resend k f) rfl
    ((exec_ackTimeout ..).trans (execAckTimeout_of_alone hwaiting hlate (by rw [hreqs', hlink, hreqs]))) rfl ⟨?_, ?_, ?_, ?_, ?_, ?_⟩
  · rw [ended_link, hdropped, hlink, hwaiting, List.erase_cons_head]
  · refine ended_counted hk 3 (by decide) (hfailed.trans ?_)
    exact congrArg (fun n => (n + 1) % 2 ^ 32) (State.reg_countLink_other hk (by decide) (by decide) rfl 1)
  · rw [hkind, Nat.zero_mul, Nat.add_zero] at hdrum
    refine posted_ended_last hdrum ?_ (.inl ?_)
    · have hone : counted.posted ≤ (begun s dt).posted + 1 := State.posted_count ..
      rw [State.posted_of_quiet dt hquiet] at hone
      omega
    · rwa [hchanges.2 _ (by decide) (by simp [linkCounters, entries, Reg.DRM_MIN_PRIORITY]; omega)]
  · rw [ended_epochs]; exact hepochs
  · rw [ended_out, hout, State.count_out]; rfl
  · exact (hchanges.mono (by decide) fun _ => linkCounters_block hk).ended (by decide) (by decide)

theorem reqReceive_grants (dt k : Nat) (v : List Nat) (block : List Octet) (s : State) (hquiet : Quiet s) (hk : k < 64)
    (hlinks : s.spire.length = 64) (hparse : parseBlock block = some v) (htype : nth v 0 0 = 0x53)
    (hkind : nth v 1 0 / 32 = 2 ∨ nth v 1 0 / 32 = 3 ∧ (s.link k).lock = none) (hreqs : (s.link k).reqs = []) :
    Completes (.reqReceive dt k block) s fun s0 t =>
      (t.link k).reqs = [(nth v 1 0 / 32, nth v 1 0 % 32 + 1, nth v 2 0 + 256 * nth v 3 0, nth v 4 0 + 256 * nth v 5 0)] ∧
      t.out = [.block k (controlBlock 0x38 [nth v 1 0 % 32, s.claim, (nth v 2 0 + 256 * nth v 3 0) % 256, (nth v 2 0 + 256 * nth v 3 0) / 256, 0])] ∧
      OnlyChanges [.spire] noRegs s0 t := by
  let req := (nth v 1 0 / 32, nth v 1 0 % 32 + 1, nth v 2 0 + 256 * nth v 3 0, nth v 4 0 + 256 * nth v 5 0)
  let queued := (begun s dt).modLink k fun l => { l with reqs := l.reqs ++ [req] }
  have hlink : k < (begun s dt).spire.length := hk.trans_eq hlinks.symm
  have hqueued : (queued.link k).reqs = [req] := by
    rw [State.link_modLink_same hlink]
    exact congrArg (· ++ [req]) hreqs
  have hgrant := State.grantNext_of_req hqueued
  refine completes_of_effect (dt := dt) (u := queued.grantNext k) rfl (exec_reqReceive ..)
    ((State.onBlock_of_parsed hk hparse htype _).trans (State.reqTaken_of_first (s := begun s dt) hkind hreqs ..)) ⟨?_, ?_, ?_⟩
  · rw [ended_link, State.grantNext_reqs, hqueued]
  · rw [ended_out, hgrant]; rfl
  · refine (((onlyChanges_begun s dt).modLink k _ (by decide)).grantNext k (by decide)).ended_quiet ?_
    rw [hgrant]; exact hquiet

theorem upFrameEof_answers (dt k a m q n : Nat) (rest : List (Nat × Nat × Nat × Nat)) (sof data eof : List Octet) (s : State) (hk : k < 64)
    (hlinks : s.spire.length = 64) (hreqs : (s.link k).reqs = (a, m, q, n) :: rest) :
    Completes (.upFrameEof dt k sof data eof) s fun s0 t => (t.link k).reqs = rest ∧
      t.out.head? = some (.block k (controlBlock 0x39 [m - 1, s.claim, q % 256, q / 256, if upFrameOk sof data eof then 0 else 2])) ∧
      (upFrameOk sof data eof = false → t.reg (.SPLCNT_UP_CHECK_FAIL k) = (s.reg (.SPLCNT_UP_CHECK_FAIL k) + 1) % 2 ^ 32) ∧
      (upFrameOk sof data eof = true → (s.module k m).all (fun x => x.upSeq != some q) = true →
        t.reg (.SPLCNT_UP_FRAMES k) = (s.reg (.SPLCNT_UP_FRAMES k) + 1) % 2 ^ 32) ∧
      OnlyChanges [.spire, .drum, .log] (andDrum (blocks [8])) s0 t := by
  let ok := upFrameOk sof data eof
  let again := (s.module k m).any fun x => x.upSeq == some q
  let taken := ((begun s dt).modLink k fun l => { l with reqs := rest }).sendBlock k 0x39 [m - 1, s.claim, q % 256, q / 256, if ok then 0 else 2]
  let noted := taken.noteUp k m q ok again
  obtain ⟨hnotes, hnotedReqs, hnotedOut⟩ := taken.noteUp_keeps k m q ok again
  have htaken : (taken.link k).reqs = rest :=
    congrArg SpireLink.reqs (State.link_modLink_same (s := begun s dt) (hk.trans_eq hlinks.symm) fun l => { l with reqs := rest })
  have hreqs' : ((begun s dt).link k).reqs = (a, m, q, n) :: rest := hreqs
  have hgranted : OnlyChanges [.spire] noRegs noted (noted.grantNext k) := (onlyChanges_refl noted).grantNext k (by decide)
  refine completes_of_effect (dt := dt) (u := noted.grantNext k) rfl (exec_upFrameEof ..) ?_ ⟨?_, ?_, fun hbad => ?_, fun hok hnew => ?_, ?_⟩
  · simp only [hreqs']
    rfl
  · rw [ended_link, State.grantNext_reqs, hnotedReqs, htaken]
  · rw [ended_out]
    obtain ⟨tail, htail⟩ := noted.grantNext_out k
    rw [← htail, hnotedOut]; rfl
  · refine ended_counted hk 7 (by decide) ((hgranted.2 _ (by exact (by decide : 7 < 1024)) rfl).trans ?_)
    have hcount : noted = taken.count (.SPLCNT_UP_CHECK_FAIL k) := if_neg (ne_true_of_eq_false hbad)
    rw [hcount]
    exact State.reg_countLink_same hk (by decide) rfl 1
  · refine ended_counted hk 6 (by decide) ((hgranted.2 _ (by exact (by decide : 6 < 1024)) rfl).trans ?_)
    have hfirst : ¬again = true := by
      revert hnew
      simp only [again]
      cases s.module k m <;> simp
    have hcount : noted = (taken.modModule k m fun x => { x with upSeq := some q }).count (.SPLCNT_UP_FRAMES k) := (if_pos hok).trans (if_neg hfirst)
    rw [hcount]
    exact State.reg_countLink_same hk (by decide) rfl 1
  · have hnoted : OnlyChanges [.spire, .drum, .log] (blocks [8]) (s.elapse dt) noted :=
      (((onlyChanges_begun s dt).modLink k _ (by decide)).emit _).trans (hnotes.mono (by decide) fun _ => linkCounters_block hk)
    exact (hnoted.grantNext k (by decide)).ended (by decide) (by decide)

/-- Settles O28, one frame at a time: what a frame that leaves, its DACK, its resend and a granted frame do. -/
theorem linkFramesAreSentAndAnswered : Obligations.LinkFramesAreSentAndAnswered :=
  ⟨linkFrameStart_sendsSegment, linkFrameStart_sendsTxn, dackReceive_takesTxnFrame, dackReceive_resendsTxnFrame, dackReceive_notesComplete,
    ackTimeout_resendsTxnFrame, ackTimeout_abandonsSegment, reqReceive_grants, upFrameEof_answers⟩

end Sys2Proof.Proofs

namespace Sys2Proof.Machine

/-! Bit reversal, and with it the spread of the on-ticks over periods and segments (R332, R333) -/

theorem revBits_lt (n v : Nat) : revBits n v < 2 ^ n := by
  induction n generalizing v with
  | zero => exact Nat.one_pos
  | succ n ih =>
    have hrest := ih (v / 2)
    have hbit : v % 2 * 2 ^ n ≤ 1 * 2 ^ n := Nat.mul_le_mul_right _ (by omega)
    rw [revBits, Nat.pow_succ]
    omega

theorem revBits_testBit {n b : Nat} (hb : b < n) (v : Nat) : (revBits n v).testBit b = v.testBit (n - 1 - b) := by
  induction n generalizing v with
  | zero => exact absurd hb (Nat.not_lt_zero b)
  | succ n ih =>
    rw [revBits, Nat.mul_comm, Nat.testBit_two_pow_mul_add _ (revBits_lt n (v / 2))]
    split
    next hlow =>
      rw [ih hlow, Nat.testBit_div_two]
      congr 1
      omega
    next htop =>
      have hb' : b = n := by omega
      subst hb'
      simp [Nat.testBit_zero]

theorem revBits_inj {n u v : Nat} (hu : u < 2 ^ n) (hv : v < 2 ^ n) (h : revBits n u = revBits n v) : u = v := by
  refine Nat.eq_of_testBit_eq fun i => ?_
  by_cases hi : i < n
  · have hsame := congrArg (fun x => x.testBit (n - 1 - i)) h
    simp only [revBits_testBit (show n - 1 - i < n by omega)] at hsame
    rwa [show n - 1 - (n - 1 - i) = i by omega] at hsame
  · have hpow : 2 ^ n ≤ 2 ^ i := Nat.pow_le_pow_right (by decide) (by omega)
    rw [Nat.testBit_lt_two_pow (hu.trans_le hpow), Nat.testBit_lt_two_pow (hv.trans_le hpow)]

/-- Reversal permutes the numbers of n bits. -/
theorem revBits_perm (n : Nat) : ((List.range (2 ^ n)).map (revBits n)).Perm (List.range (2 ^ n)) := by
  have hnodup : ((List.range (2 ^ n)).map (revBits n)).Nodup :=
    List.nodup_range.map_on fun u hu v hv => revBits_inj (List.mem_range.1 hu) (List.mem_range.1 hv)
  refine (hnodup.subperm fun x hx => ?_).perm_of_length_le (by simp)
  obtain ⟨v, -, rfl⟩ := List.mem_map.1 hx
  exact List.mem_range.2 (revBits_lt n v)

/-- Any n consecutive numbers, modulo n, are 0 to n - 1 rotated. -/
theorem consecutive_perm (n k : Nat) : ((List.range n).map fun i => (k + i) % n).Perm (List.range n) := by
  have hrotate : ((List.range n).map fun i => (k + i) % n) = (List.range n).rotate k :=
    List.ext_getElem (by simp) fun i _ _ => by simp [List.getElem_rotate, Nat.add_comm]
  exact hrotate ▸ List.rotate_perm _ _

/-- Over 16 consecutive periods t takes each value from 0 to 15 once (R332). -/
theorem dither_perm (k : Nat) : ((List.range 16).map fun i => revBits 4 ((k + i) % 16)).Perm (List.range 16) := by
  have hmap := (consecutive_perm 16 k).map (revBits 4)
  rw [List.map_map] at hmap
  exact hmap.trans (revBits_perm 4)

/-- Of the sums of a number with 0 to n - 1, the whole parts over n add up to the number. -/
theorem sum_range_add_div {n : Nat} (hn : 0 < n) (level : Nat) : ((List.range n).map fun t => (level + t) / n).sum = level := by
  induction level with
  | zero =>
    refine List.sum_eq_zero fun x hx => ?_
    obtain ⟨t, ht, rfl⟩ := List.mem_map.1 hx
    exact Nat.div_eq_of_lt (by simpa using ht)
  | succ level ih =>
    have hlast := List.sum_range_succ (fun t => (level + t) / n) n
    have hfirst := List.sum_range_succ' (fun t => (level + t) / n) n
    have hwhole : (level + n) / n = level / n + 1 := Nat.add_div_right _ hn
    simp only [Nat.succ_eq_add_one, Nat.add_zero, ← Nat.add_assoc, Nat.add_right_comm level _ 1] at hlast hfirst
    omega

theorem lampOnTicks_sum (level k : Nat) : ((List.range 16).map fun i => lampOnTicks level (k + i)).sum = level := by
  have hmap := (dither_perm k).map fun t => (level + t) / 16
  rw [List.map_map] at hmap
  exact hmap.sum_eq.trans (sum_range_add_div (by decide) level)

theorem lampOnTicks_le {level : Nat} (hlevel : level ≤ 2 ^ 20) (k : Nat) : lampOnTicks level k ≤ 65536 := by
  have hdither : revBits 4 (k % 16) < 16 := revBits_lt 4 _
  unfold lampOnTicks
  omega

/-- Of the numbers below n, the lesser of m and n lie below m. -/
theorem sum_b2n_below (n m : Nat) : ((List.range n).map fun r => b2n (Nat.blt r m)).sum = min m n := by
  induction n with
  | zero => simp
  | succ n ih =>
    rw [List.range_succ, List.map_append, List.sum_append, ih]
    by_cases h : n < m <;> simp [b2n, h] <;> omega

theorem segmentTicks_sum (n : Nat) : ((List.range 64).map fun g => segmentTicks n g).sum = n := by
  have hreversed : ((List.range 64).map (revBits 6)).Perm (List.range 64) := revBits_perm 6
  have hextra := (hreversed.map fun r => b2n (Nat.blt r (n % 64))).sum_eq
  rw [List.map_map, sum_b2n_below] at hextra
  have hsplit : ((List.range 64).map fun g => segmentTicks n g).sum =
      64 * (n / 64) + ((List.range 64).map ((fun r => b2n (Nat.blt r (n % 64))) ∘ revBits 6)).sum := by
    simp only [segmentTicks, List.sum_map_add, List.map_const', List.sum_replicate, List.length_range, smul_eq_mul]
    rfl
  rw [hsplit, hextra]
  omega

theorem segmentTicks_full (g : Nat) : segmentTicks 65536 g = 1024 := by
  simp [segmentTicks, b2n]

theorem segmentTicks_le {n : Nat} (hn : n ≤ 65536) (g : Nat) : segmentTicks n g ≤ 1024 := by
  obtain rfl | hlt := hn.eq_or_lt
  · exact (segmentTicks_full g).le
  · have hbit : b2n (Nat.blt (revBits 6 g) (n % 64)) ≤ 1 := by unfold b2n; split <;> decide
    unfold segmentTicks
    omega

theorem lampOnAt_full (phase t : Nat) : lampOnAt 65536 phase t = true := by
  rw [lampOnAt, segmentTicks_full, Nat.blt_eq]
  exact Nat.mod_lt _ (by decide)

/-- In a segment the on-ticks are the first from the phase on, wrapping within it (R333). -/
theorem lampOnAt_fromPhase {phase j : Nat} (hphase : phase < 1024) (hj : j < 1024) (n g : Nat) :
    lampOnAt n phase (1024 * g + (phase + j) % 1024) = decide (j < segmentTicks n g) := by
  have hplace : ((1024 * g + (phase + j) % 1024) % 1024 + 1024 - phase) % 1024 = j := by omega
  have hsegment : (1024 * g + (phase + j) % 1024) / 1024 = g := by omega
  rw [lampOnAt, hplace, hsegment, Bool.eq_iff_iff, Nat.blt_eq, decide_eq_true_eq]

end Sys2Proof.Machine

namespace Sys2Proof.Proofs

open Machine

/-- Settles O58: t is the period number reversed, so 16 consecutive periods take each t once. -/
theorem theLevelSumsOverSixteenPeriods : Obligations.TheLevelSumsOverSixteenPeriods := by
  refine ⟨fun D k hD => ⟨?_, lampOnTicks_le hD k, revBits_lt 4 _, fun b hb => revBits_testBit hb _⟩,
    fun D k => ⟨dither_perm k, lampOnTicks_sum D k⟩, fun s u D time hanchor => ?_⟩
  · rw [Nat.shiftRight_eq_div_pow, lampOnTicks]
  · have hfirst : s.lampFirst time = u.lampFirst time := by rw [State.lampFirst, hanchor]; rfl
    exact ⟨hfirst, congrArg _ hfirst⟩

/-- Settles O59, by the reversal that spreads the remainder of N over the segments. -/
theorem theOnTicksFillTheirSegments : Obligations.TheOnTicksFillTheirSegments :=
  ⟨segmentTicks_sum, fun _ g hn _ => segmentTicks_le hn g, fun phase t _ _ => lampOnAt_full phase t,
    fun n _ g _ _ hphase _ hj => lampOnAt_fromPhase hphase hj n g⟩

/-! An enable leaves a sink disabled under R239 marked (R316, R337) -/

/-- The fault of a sink after a command, where the command answers a next state. -/
def sinkFaultAfter (c : Instr) (s : State) (k : Nat) : Option Nat :=
  match exec c s with
  | .next t => some (t.sink k).fault
  | _ => none

theorem sinkFaultAfter_of_next {c : Instr} {s t : State} (k : Nat) (h : exec c s = .next t) : sinkFaultAfter c s k = some (t.sink k).fault := by
  simp [sinkFaultAfter, h]

/-- Channel 3 of one sink, not enabled and in no group, whose sink has fewer than 12 good segments. -/
def disabledSinkState : State := (State.reset.setReg (.LAN_CH_GANG 3) 1).setReg (.CAL_SINK_TRIM 3 3) 1

theorem channelEnable_keeps_disabledSink : sinkFaultAfter (.channelEnable 0 0xFFFF 3 1) disabledSinkState 3 = some 3 := by decide +kernel

/-- Refutes O31, by its first clause: an enable is to leave every sink of the channel without a fault mark, but a sink disabled under R239 counts
as faulted for good and reads class 3, which no clear under R337 lifts. In `disabledSinkState` the enable of channel 3 answers 0 and its sink
still reads class 3. The clause, like those of a clear and a retry of a group, lacks the premise that CAL_SINK_TRIM does not mark the sink. -/
theorem not_channelsAndGroupsAreCleared : ¬ Obligations.ChannelsAndGroupsAreCleared := by
  unfold Obligations.ChannelsAndGroupsAreCleared
  rintro ⟨henable, -⟩
  obtain ⟨t, hnext, -, hcleared, -⟩ := henable 0 0xFFFF 3 disabledSinkState rfl (by decide) (by decide) (by decide +kernel) (by decide +kernel)
  have hfault : (t.sink 3).fault = 0 :=
    hcleared (by decide +kernel) (by decide +kernel) 3 (by decide +kernel) (by decide) (by decide +kernel)
  have hafter := channelEnable_keeps_disabledSink
  rw [sinkFaultAfter_of_next _ hnext, hfault] at hafter
  exact absurd hafter (by decide)

end Sys2Proof.Proofs

namespace Sys2Proof.Machine

/-! Work of Lantern alone (R319 to R342): what it may move, operation by operation -/

/-- The elements a merge moves: the states of the function groups, the counters of groups, cut-offs and lamp map values, and the fault summary. -/
def groupRegs (r : Reg) : Bool :=
  decide (0x9300 ≤ r.index ∧ r.index < 0x9340 ∧ r.sub = 7 ∨ r.index = 0x9600 ∧ 4 ≤ r.sub ∨ r = .DRM_FAULT_SUMMARY)

/-- The elements a period start moves besides its own: those of a merge, the status and level of the channels and the counters of faults. -/
def lampRegs (r : Reg) : Bool :=
  groupRegs r || decide (0x9100 ≤ r.index ∧ r.index < 0x9300 ∧ 13 ≤ r.sub ∨ r.index = 0x9600 ∧ 2 ≤ r.sub)

theorem groupRegs_lampRegs {r : Reg} (hr : groupRegs r = true) : lampRegs r = true := by simp [lampRegs, hr]

theorem lampRegs_block {r : Reg} (hr : lampRegs r = true) : andDrum (blocks [9]) r = true := by
  simp only [lampRegs, groupRegs, Bool.or_eq_true, decide_eq_true_eq] at hr
  by_cases hdrum : r = .DRM_FAULT_SUMMARY
  · subst hdrum; decide
  · simp only [hdrum, or_false] at hr
    have hblock : r.index / 4096 = 9 := by omega
    simp [andDrum, blocks, hblock]

theorem andDrum_of_blocks {ds ds' : List Nat} (h : ds ⊆ ds') {r : Reg} (hr : blocks ds r = true) : andDrum (blocks ds') r = true :=
  Bool.or_eq_true_iff.2 (.inr (blocks_iff.2 (h (blocks_iff.1 hr))))

theorem andDrum_subset {ds ds' : List Nat} (h : ds ⊆ ds') {r : Reg} (hr : andDrum (blocks ds) r = true) : andDrum (blocks ds') r = true :=
  (Bool.or_eq_true_iff.1 hr).elim (fun hdrum => Bool.or_eq_true_iff.2 (.inl hdrum)) (andDrum_of_blocks h)

theorem groupState_groupRegs {g : Nat} (hg : 1 ≤ g ∧ g ≤ 64) : groupRegs (.GROUP_STATE (g - 1)) = true := by
  simp [groupRegs, Reg.GROUP_STATE]
  omega

/-- An event of any priority moves no element but the fault summary (R378). -/
theorem OnlyChanges.post_any {parts : List Part} {regs : Reg → Bool} {s t : State} (h : OnlyChanges parts regs s t) (c p a : Nat)
    (hdrum : .drum ∈ parts) (hsummary : regs .DRM_FAULT_SUMMARY = true) : OnlyChanges parts regs s (t.post c p a) := by
  by_cases hp : p = 7
  · subst hp; exact h.post_fault c a hdrum hsummary
  · exact h.post c p a hp hdrum

theorem OnlyChanges.modScan {parts : List Part} {regs : Reg → Bool} {s t : State} (h : OnlyChanges parts regs s t) (f : Scan → Scan)
    (hscan : .scan ∈ parts) : OnlyChanges parts regs s (t.modScan f) :=
  h.change rfl fun p hp => by
    cases p with
    | scan => exact absurd hscan hp
    | _ => rfl

/-- Work of Lantern alone: it moves its own part and the elements named, posts events and sends nothing; of its part it leaves a view. -/
structure LampStep {β : Type} (view : Lantern → β) (regs : Reg → Bool) (s t : State) : Prop where
  changes : OnlyChanges [.lantern, .drum] regs s t
  out : t.out = s.out
  kept : view t.lantern = view s.lantern

/-- No view of Lantern is kept. -/
def Lantern.unseen (_l : Lantern) : Unit := ()

/-- What a period start sets of Lantern. -/
def Lantern.started (l : Lantern) : Option LampPeriod × Option LampPeriod × Bool × Nat := (l.running, l.merged, l.converted, l.startTick)

namespace LampStep

variable {β : Type} {view : Lantern → β} {regs : Reg → Bool} {s t u : State}

theorem refl (s : State) : LampStep view regs s s := ⟨onlyChanges_refl s, rfl, rfl⟩

theorem trans (h : LampStep view regs s t) (h' : LampStep view regs t u) : LampStep view regs s u :=
  ⟨h.changes.trans h'.changes, h'.out.trans h.out, h'.kept.trans h.kept⟩

theorem mono {regs' : Reg → Bool} (h : LampStep view regs s t) (hregs : ∀ r, regs r = true → regs' r = true) : LampStep view regs' s t :=
  ⟨h.changes.mono (List.Subset.refl _) hregs, h.out, h.kept⟩

theorem forget (h : LampStep view regs s t) : LampStep Lantern.unseen regs s t := ⟨h.changes, h.out, rfl⟩

theorem setReg (h : LampStep view regs s t) (r : Reg) (v : Nat) (hsub : r.sub < 1024) (hr : regs r = true) : LampStep view regs s (t.setReg r v) :=
  ⟨h.changes.setReg r v hsub hr, by rw [State.setReg_out, h.out], by rw [State.setReg_lantern, h.kept]⟩

theorem count (h : LampStep view regs s t) (r : Reg) (n : Nat) (hsub : r.sub < 1024) (hr : regs r = true) : LampStep view regs s (t.count r n) :=
  ⟨h.changes.count r n hsub hr (by decide), by rw [State.count_out, h.out], by rw [State.count_lantern, h.kept]⟩

theorem post (h : LampStep view regs s t) (c p a : Nat) (hsummary : regs .DRM_FAULT_SUMMARY = true) : LampStep view regs s (t.post c p a) :=
  ⟨h.changes.post_any c p a (by decide) hsummary, by rw [State.post_out, h.out], by rw [State.post_lantern, h.kept]⟩

theorem modLantern (h : LampStep view regs s t) {f : Lantern → Lantern} (hf : view (f t.lantern) = view t.lantern) :
    LampStep view regs s (t.modLantern f) :=
  ⟨h.changes.modLantern f (by decide), h.out, hf.trans h.kept⟩

theorem ite {c : Prop} [Decidable c] {a b : State} (ha : LampStep view regs s a) (hb : LampStep view regs s b) :
    LampStep view regs s (if c then a else b) := by
  split <;> assumption

theorem foldl {α : Type} {l : List α} {f : State → α → State} (h : LampStep view regs s t)
    (hf : ∀ u, ∀ x ∈ l, LampStep view regs u (f u x)) : LampStep view regs s (l.foldl f t) :=
  List.foldlRecOn _ _ h fun u hu x hx => hu.trans (hf u x hx)

end LampStep

/-! Function groups and heat (R327, R328, R336) -/

theorem State.showGroup_lampStep {β : Type} {view : Lantern → β} (s : State) {g : Nat} (hg : 1 ≤ g ∧ g ≤ 64) (floorDark : Bool) :
    LampStep view groupRegs s (s.showGroup g floorDark) :=
  (LampStep.refl s).setReg _ _ (by decide : 7 < 1024) (groupState_groupRegs hg)

/-- Judging a group leaves the sinks. -/
theorem State.judgeGroup_lampStep (s : State) {g : Nat} (hg : 1 ≤ g ∧ g ≤ 64) : LampStep Lantern.sinks groupRegs s (s.judgeGroup g) := by
  have hmod : ∀ f, LampStep Lantern.sinks groupRegs s (s.modGroup g f) := fun f => (LampStep.refl s).modLantern rfl
  unfold State.judgeGroup
  split
  · exact (((hmod _).count .LANCNT_GROUP_DARK 1 (by decide) (by decide)).post _ _ _ (by decide)).trans (State.showGroup_lampStep _ hg _)
  · exact ((hmod _).post _ _ _ (by decide)).trans (State.showGroup_lampStep _ hg _)
  · exact LampStep.refl s

theorem State.judgeGroups_lampStep (s : State) : LampStep Lantern.sinks groupRegs s s.judgeGroups :=
  (LampStep.refl s).foldl fun u _ hg => u.judgeGroup_lampStep (by have := List.mem_range.1 hg; omega)

theorem State.derateEvents_lampStep (s : State) (used : List Nat) : LampStep Lantern.unseen groupRegs s (s.derateEvents used) := by
  unfold State.derateEvents
  extract_lets knee cutoff hot cut arg warned limited
  have hpost : ∀ (u : State) (c p a : Nat), LampStep Lantern.unseen groupRegs u (u.post c p a) := fun u c p a =>
    (LampStep.refl u).post c p a (by decide)
  have hwarned : LampStep Lantern.unseen groupRegs s warned := (LampStep.refl s).foldl fun u k _ => hpost u 0x9006 3 (arg k)
  exact (hwarned.foldl fun u k _ => hpost u 0x9007 5 (arg k)).modLantern rfl

theorem State.modSink_lampStep {regs : Reg → Bool} (s : State) (c : Nat) (f : LampSink → LampSink) :
    LampStep Lantern.unseen regs s (s.modSink c f) :=
  (LampStep.refl s).modLantern rfl

theorem State.latchCut_lampStep (s : State) (c factor : Nat) : LampStep Lantern.unseen groupRegs s (s.latchCut c factor) := by
  unfold State.latchCut
  refine .ite (.ite (.refl s) ?_) (s.modSink_lampStep c _)
  exact (s.modSink_lampStep c _).count .LANCNT_CUTOFFS 1 (by decide) (by decide)

theorem State.judgeFloor_lampStep (s : State) (rows : List LampRow) (g : Nat) : LampStep Lantern.unseen groupRegs s (s.judgeFloor rows g) := by
  have hmod : ∀ f, LampStep Lantern.unseen groupRegs s (s.modGroup g f) := fun f => (LampStep.refl s).modLantern rfl
  unfold State.judgeFloor
  refine .ite (.ite ?_ (.refl s)) (.ite ?_ (.refl s))
  · exact (hmod _).post _ _ _ (by decide)
  · exact ((hmod _).count .LANCNT_FLOOR_DARK 1 (by decide) (by decide)).post _ _ _ (by decide)

/-! The merge, stage by stage (R320) -/

/-- The state in which the channels are read: the lamp map values of the period taken, the groups judged. -/
def State.mergeStart (s : State) (p : Nat) : State := (s.takeLampValues p).judgeGroups

/-- Stages 1 and 2 of every channel in use. -/
def State.mergeRows (s : State) (p : Nat) : List LampRow := ((List.range 512).filter fun c => s.lampMaster c).map fun c => s.lampRow p c

/-- Rows of which each comes from one of the rows before, on the same channel, and is dark where that was. -/
def Dims (rows rows' : List LampRow) : Prop := ∀ r' ∈ rows', ∃ r ∈ rows, r'.channel = r.channel ∧ (r.level = 0 → r'.level = 0)

theorem Dims.refl (rows : List LampRow) : Dims rows rows := fun r hr => ⟨r, hr, rfl, id⟩

theorem Dims.map {rows rows' : List LampRow} (h : Dims rows rows') {f : LampRow → LampRow}
    (hf : ∀ r, (f r).channel = r.channel ∧ (r.level = 0 → (f r).level = 0)) : Dims rows (rows'.map f) := fun r'' hr'' => by
  obtain ⟨r', hr', rfl⟩ := List.mem_map.1 hr''
  obtain ⟨r, hr, hchannel, hdark⟩ := h r' hr'
  exact ⟨r, hr, (hf r').1.trans hchannel, fun h0 => (hf r').2 (hdark h0)⟩

theorem State.derateRow_dims (s : State) (rows : List LampRow) (r : LampRow) :
    (s.derateRow rows r).channel = r.channel ∧ (r.level = 0 → (s.derateRow rows r).level = 0) := by
  unfold State.derateRow
  split
  · split <;> simp +contextual
  · simp +contextual

theorem State.governSafety_dims (s : State) (limit : Rat) {rows : List LampRow} (n : Nat) (rows' : List LampRow) (dark : List Nat)
    (h : Dims rows rows') : Dims rows (s.governSafety limit n rows' dark).1 := by
  induction n generalizing rows' dark with
  | zero => exact h
  | succ n ih =>
    unfold State.governSafety
    extract_lets saf ks bad g
    split
    · exact h
    · split
      · exact h.map fun r => by split <;> simp +contextual
      · exact ih _ _ (h.map fun r => by split <;> simp)

theorem State.govern_dims (s : State) {rows rows' : List LampRow} (h : Dims rows rows') : Dims rows (s.govern rows').1 := by
  unfold State.govern
  extract_lets saf oth p pLim total limit k
  split
  · exact h
  · exact (s.governSafety_dims limit 65 rows' [] h).map fun r => by split <;> simp +contextual

/-- A merge lands the values of its period in Lantern: each from a row of the merge's start, dark where that was; otherwise it is Lantern's own
work. -/
theorem State.merge_lands (s : State) (p : Nat) : ∃ u q, s.merge p = (u.modLantern fun l => { l with nextMerge := p + 1, merged := some q }) ∧
    LampStep Lantern.unseen groupRegs (s.mergeStart p) u ∧ q.period = p ∧
    ∀ v ∈ q.values, ∃ r ∈ (s.mergeStart p).mergeRows p, v.channel = r.channel ∧ v.onTicks = lampOnTicks v.level p ∧
      (r.level = 0 → v.level = 0) := by
  unfold State.merge
  extract_lets s0 rows used latched safeGroups cleared judged derated
  have hstart : s0 = s.mergeStart p := rfl
  have hrows : rows = s0.mergeRows p := rfl
  rw [← hstart, ← hrows]
  clear_value s0 rows used safeGroups
  have hlatched : LampStep Lantern.unseen groupRegs s0 latched :=
    (s0.derateEvents_lampStep used).foldl fun u r _ => u.latchCut_lampStep r.channel r.factor
  have hjudged : LampStep Lantern.unseen groupRegs s0 judged :=
    (hlatched.modLantern rfl).foldl fun u g _ => u.judgeFloor_lampStep rows g
  have hdims : Dims rows (judged.govern derated).1 := judged.govern_dims ((Dims.refl rows).map (judged.derateRow_dims rows))
  generalize judged.govern derated = result at hdims ⊢
  obtain ⟨governed, k, requested, dark⟩ := result
  dsimp -zeta only at hdims ⊢
  extract_lets posted shown value
  have hposted : LampStep Lantern.unseen groupRegs s0 posted :=
    hjudged.foldl fun u g _ => ((LampStep.refl u).count .LANCNT_FLOOR_DARK 1 (by decide) (by decide)).post _ _ _ (by decide)
  have hshown : LampStep Lantern.unseen groupRegs s0 shown :=
    hposted.foldl fun u g hg => u.showGroup_lampStep (by have := List.mem_range.1 hg; omega) _
  refine ⟨shown, _, rfl, hshown, rfl, fun v hv => ?_⟩
  obtain ⟨r', hr', rfl⟩ := List.mem_map.1 hv
  obtain ⟨r, hr, hchannel, hdark⟩ := hdims r' hr'
  exact ⟨r, hr, hchannel, rfl, hdark⟩

/-- Lamp map values are taken of Scanout's hand-over, and counted (R271). -/
theorem State.takeLampValues_keeps (s : State) (p : Nat) : OnlyChanges [.lantern, .scan, .drum] groupRegs s (s.takeLampValues p) ∧
    (s.takeLampValues p).out = s.out ∧ (s.takeLampValues p).lantern.sinks = s.lantern.sinks := by
  unfold State.takeLampValues
  extract_lets named keep
  have hkept : ∀ f, OnlyChanges [.lantern, .scan, .drum] groupRegs s (s.modLantern f) := fun f => (onlyChanges_refl s).modLantern f (by decide)
  split
  · split
    · have hscan : ∀ f g, OnlyChanges [.lantern, .scan, .drum] groupRegs s ((s.modScan f).modLantern g) := fun f g =>
        ((onlyChanges_refl s).modScan f (by decide)).modLantern g (by decide)
      exact ⟨(hscan _ _).count .LANCNT_LAMP_MAP_UPDATES 1 (by decide) (by decide) (by decide), by rw [State.count_out]; rfl,
        by rw [State.count_lantern]; rfl⟩
    · exact ⟨hkept _, rfl, rfl⟩
  · exact ⟨hkept _, rfl, rfl⟩

theorem State.mergeStart_keeps (s : State) (p : Nat) : OnlyChanges [.lantern, .scan, .drum] groupRegs s (s.mergeStart p) ∧
    (s.mergeStart p).out = s.out ∧ (s.mergeStart p).lantern.sinks = s.lantern.sinks := by
  rw [State.mergeStart]
  obtain ⟨htaken, hout, hsinks⟩ := s.takeLampValues_keeps p
  have hjudged := (s.takeLampValues p).judgeGroups_lampStep
  exact ⟨htaken.trans (hjudged.changes.mono (by decide) fun _ => id), hjudged.out.trans hout, hjudged.kept.trans hsinks⟩

/-- The fault of a channel is read of its gang, its sinks and their trims. -/
theorem State.lampFault_congr {s t : State} {c : Nat} (hgang : t.reg (.LAN_CH_GANG c) = s.reg (.LAN_CH_GANG c))
    (hsinks : t.lantern.sinks = s.lantern.sinks) (htrims : ∀ k, t.reg (.CAL_SINK_TRIM k 3) = s.reg (.CAL_SINK_TRIM k 3)) :
    t.lampFault c = s.lampFault c := by
  have hsink : ∀ k, t.sink k = s.sink k := fun k => by rw [State.sink, State.sink, hsinks, htrims]
  simp only [State.lampFault, State.lampSinks, hsink, hgang]

theorem State.mergeStart_channel (s : State) (p : Nat) {c : Nat} (hc : c < 512) :
    (s.mergeStart p).lampMaster c = s.lampMaster c ∧ (s.mergeStart p).lampFault c = s.lampFault c := by
  obtain ⟨hchanges, -, hsinks⟩ := s.mergeStart_keeps p
  have hchannel : ∀ n, n < 1024 → (s.mergeStart p).reg ⟨0x9100 + c, n⟩ = s.reg ⟨0x9100 + c, n⟩ := fun n hn =>
    hchanges.2 _ hn (by simp [groupRegs, Reg.DRM_FAULT_SUMMARY]; omega)
  have htrims : ∀ k, (s.mergeStart p).reg (.CAL_SINK_TRIM k 3) = s.reg (.CAL_SINK_TRIM k 3) := fun k =>
    hchanges.2 _ (by exact (by decide : 3 < 1024)) (by simp [groupRegs, Reg.CAL_SINK_TRIM, Reg.DRM_FAULT_SUMMARY])
  refine ⟨?_, State.lampFault_congr (hchannel 3 (by decide)) hsinks htrims⟩
  rw [State.lampMaster, State.flag, Reg.LAN_CH_ENABLE, Reg.LAN_CH_GANG, hchannel 1 (by decide), hchannel 3 (by decide)]
  rfl

/-- A row of a merge is that of a channel in use, dark where a sink of it is faulted (R316, R320). -/
theorem State.mem_mergeRows {s : State} {p : Nat} {r : LampRow} (hr : r ∈ s.mergeRows p) :
    r.channel < 512 ∧ s.lampMaster r.channel = true ∧ (s.lampFault r.channel ≠ 0 → r.level = 0) := by
  obtain ⟨c, hc, rfl⟩ := List.mem_map.1 hr
  obtain ⟨hrange, hmaster⟩ := List.mem_filter.1 hc
  have hchannel : (s.lampRow p c).channel = c := rfl
  rw [hchannel]
  exact ⟨List.mem_range.1 hrange, hmaster, fun hfault => if_pos (by simp [hfault])⟩

theorem State.refreshClaim_keeps (s : State) : OnlyChanges [] (blocks [8, 13]) s s.refreshClaim ∧
    s.refreshClaim.lantern = s.lantern ∧ s.refreshClaim.out = s.out := by
  have hdeduction : OnlyChanges [] (blocks [8, 13]) s (s.setReg .TWN_DEDUCTION s.deduction) :=
    (onlyChanges_refl s).setReg _ _ (by decide) (by decide)
  refine ⟨(hdeduction.setReg .TWN_CLAIM _ (by decide) (by decide)).setReg .SPL_CLAIM_SENT _ (by decide) (by decide), ?_, ?_⟩ <;>
    simp [State.refreshClaim, State.claimFollows]

end Sys2Proof.Machine

namespace Sys2Proof.Proofs

open Machine

theorem exec_mergeInstant (dt : Nat) (s : State) : exec (.mergeInstant dt) s = execMergeInstant dt s := rfl

theorem mergeInstant_fixesValues (dt : Nat) (s : State) (hgrid : s.lantern.gridOn = true) (hmerged : s.lantern.merged = none)
    (hdue : s.lampStart s.lantern.nextMerge ≤ (s.elapse dt).time96 + nsUnits 8000) :
    Completes (.mergeInstant dt) s fun s0 t => t.lantern.nextMerge = s.lantern.nextMerge + 1 ∧
      t.lantern.merged.map LampPeriod.period = some s.lantern.nextMerge ∧
      (∀ p ∈ t.lantern.merged.toList, ∀ v ∈ p.values,
        s.lampMaster v.channel = true ∧ v.onTicks = lampOnTicks v.level p.period ∨ v.channel ≥ 512) ∧
      (∀ p ∈ t.lantern.merged.toList, ∀ v ∈ p.values, s.lampFault v.channel ≠ 0 → v.level = 0) ∧ t.out = [] ∧
      OnlyChanges [.lantern, .scan, .drum, .log] (andDrum (blocks [8, 9, 13])) s0 t := by
  let p := s.lantern.nextMerge
  obtain ⟨u, q, hmerge, hstep, hperiod, hvalues⟩ := (begun s dt).merge_lands p
  obtain ⟨hclaim, hlantern, hout⟩ := ((begun s dt).merge p).refreshClaim_keeps
  obtain ⟨hstart, hstartOut, -⟩ := (begun s dt).mergeStart_keeps p
  have hvalue : ∀ v ∈ q.values, s.lampMaster v.channel = true ∧ v.onTicks = lampOnTicks v.level p ∧
      (s.lampFault v.channel ≠ 0 → v.level = 0) := fun v hv => by
    obtain ⟨r, hr, hchannel, hticks, hdark⟩ := hvalues v hv
    obtain ⟨hc, hmaster, hfault⟩ := State.mem_mergeRows hr
    obtain ⟨hsameMaster, hsameFault⟩ := (begun s dt).mergeStart_channel p hc
    rw [hsameMaster] at hmaster
    rw [hsameFault] at hfault
    rw [hchannel]
    exact ⟨hmaster, hticks, fun h => hdark (hfault h)⟩
  have hlast : (ended s dt ((begun s dt).merge p).refreshClaim).lantern = { u.lantern with nextMerge := p + 1, merged := some q } := by
    rw [ended_lantern, hlantern, hmerge]; rfl
  refine completes_of_effect (dt := dt) (u := ((begun s dt).merge p).refreshClaim) rfl (exec_mergeInstant ..) (if_pos ⟨hgrid, hmerged, hdue⟩)
    ⟨?_, ?_, ?_, ?_, ?_, ?_⟩
  · rw [hlast]
  · rw [hlast]; exact congrArg some hperiod
  · rw [hlast]
    intro q' hq' v hv
    obtain rfl := List.mem_singleton.1 hq'
    obtain ⟨hmaster, hticks, -⟩ := hvalue v hv
    exact .inl ⟨hmaster, hperiod ▸ hticks⟩
  · rw [hlast]
    intro q' hq' v hv
    obtain rfl := List.mem_singleton.1 hq'
    exact (hvalue v hv).2.2
  · rw [ended_out, hout, hmerge, State.modLantern_out, hstep.out, hstartOut, begun_out]
  · have hmerged : OnlyChanges [.lantern, .scan, .drum, .log] groupRegs (s.elapse dt) ((begun s dt).merge p) := by
      rw [hmerge]
      exact (((onlyChanges_begun s dt).trans (hstart.mono (by decide) fun _ => id)).trans
        (hstep.changes.mono (by decide) fun _ => id)).modLantern _ (by decide)
    exact ((hmerged.mono (List.Subset.refl _) fun _ hr => andDrum_subset (by decide) (lampRegs_block (groupRegs_lampRegs hr))).trans
      (hclaim.mono (by decide) fun _ hr => andDrum_of_blocks (by decide) hr)).ended_drum (by decide) (by decide)

end Sys2Proof.Proofs

namespace Sys2Proof.Machine

/-! The faults of the period that ends (R334 to R336) -/

theorem State.declareFault_lampStep (s : State) (sink cls : Nat) : LampStep Lantern.unseen lampRegs s (s.declareFault sink cls) :=
  s.modSink_lampStep sink _

theorem State.judgeSink_lampStep (s : State) (tests : List SinkTest) (t : SinkTest) :
    LampStep Lantern.unseen lampRegs s (s.judgeSink tests t) := by
  unfold State.judgeSink
  extract_lets g inGroup opened shorted noHead judged n x
  have hjudged : LampStep Lantern.unseen lampRegs s judged := s.modSink_lampStep t.sink _
  refine .ite ?_ (.ite ?_ hjudged)
  · exact ((hjudged.trans (judged.declareFault_lampStep t.sink 2)).count .LANCNT_SHORT_FAULTS 1 (by decide) (by decide)).post _ _ _ (by decide)
  · exact ((hjudged.trans (judged.declareFault_lampStep t.sink 1)).count .LANCNT_OPEN_FAULTS 1 (by decide) (by decide)).post _ _ _ (by decide)

theorem State.judgeRail_lampStep (s : State) (tests : List SinkTest) (g : Nat) : LampStep Lantern.unseen lampRegs s (s.judgeRail tests g) := by
  unfold State.judgeRail
  extract_lets mine
  have hdeclared : LampStep Lantern.unseen lampRegs s
      (mine.foldl (fun s t => (s.declareFault t.sink 1).count .LANCNT_OPEN_FAULTS) s) :=
    (LampStep.refl s).foldl fun u t _ => (u.declareFault_lampStep t.sink 1).count .LANCNT_OPEN_FAULTS 1 (by decide) (by decide)
  exact .ite (hdeclared.post _ _ _ (by decide)) (.refl s)

theorem State.judgePeriod_lampStep (s : State) (tests : List SinkTest) : LampStep Lantern.unseen lampRegs s (s.judgePeriod tests) := by
  unfold State.judgePeriod
  extract_lets seen judged
  have hjudged : LampStep Lantern.unseen lampRegs s judged := (LampStep.refl s).foldl fun u t _ => u.judgeSink_lampStep seen t
  have hrails : LampStep Lantern.unseen lampRegs s ((List.range 16).foldl (fun s g => s.judgeRail seen g) judged) :=
    hjudged.foldl fun u g _ => u.judgeRail_lampStep seen g
  exact hrails.trans ((State.judgeGroups_lampStep _).forget.mono fun _ => groupRegs_lampRegs)

/-! The period that starts (R319, R320) -/

theorem State.governorRun_lampStep (s : State) (p : LampPeriod) : LampStep Lantern.started lampRegs s (s.governorRun p) := by
  unfold State.governorRun
  split
  · extract_lets counted
    have hcounted : LampStep Lantern.started lampRegs s counted :=
      ((LampStep.refl s).count .LANCNT_GOV_PERIODS 1 (by decide) (by decide)).modLantern rfl
    exact .ite (hcounted.post _ _ _ (by decide)) hcounted
  · exact .ite (((LampStep.refl s).modLantern rfl).post _ _ _ (by decide)) (.refl s)

theorem State.trackTests_lampStep (s : State) (p : LampPeriod) : LampStep Lantern.started lampRegs s (s.trackTests p) :=
  (LampStep.refl s).foldl fun u _ _ => (LampStep.refl u).modLantern rfl

theorem State.showLamps_lampStep {β : Type} {view : Lantern → β} (s : State) : LampStep view lampRegs s s.showLamps := by
  have hshown : ∀ (u : State) (c status level : Nat), c < 512 →
      LampStep view lampRegs u ((u.setReg (.LAN_CH_STATUS c) status).setReg (.LAN_CH_LEVEL c) level) := fun u c status level hc =>
    ((LampStep.refl u).setReg _ _ (by exact (by decide : 13 < 1024)) (by simp [lampRegs, Reg.LAN_CH_STATUS]; omega)).setReg _ _
      (by exact (by decide : 14 < 1024)) (by simp [lampRegs, Reg.LAN_CH_LEVEL]; omega)
  unfold State.showLamps
  split
  · exact LampStep.refl s
  · refine (LampStep.refl s).foldl fun u c hc => ?_
    split
    · exact hshown u c _ _ (List.mem_range.1 hc)
    · exact hshown u c _ _ (List.mem_range.1 hc)

/-- One of the comparators of Lantern fires: CMP_FIRED counts it, and captures that name it take it (R107, R114). -/
theorem State.ownFire_fires (s : State) {n : Nat} (hn : n < 16) : OnlyChanges [.clock, .drum] (blocks [3]) s (s.ownFire n) ∧
    (s.ownFire n).reg (.CMP_FIRED n) = (s.reg (.CMP_FIRED n) + 1) % 2 ^ 32 := by
  have hbits : dictBits (.CMP_FIRED n) = 32 := (by decide : ∀ n < 16, dictBits (.CMP_FIRED n) = 32) n hn
  have hblock : blocks [3] (.CMP_FIRED n) = true := blocks_iff.2 (by simp [Reg.CMP_FIRED]; omega)
  have hcapture : OnlyChanges [.clock, .drum] captureRegs (s.bump (.CMP_FIRED n)) (s.ownFire n) :=
    (onlyChanges_refl _).capture _ _ (by decide) (by decide) fun _ => id
  have hsub : (Reg.CMP_FIRED n).sub < 1024 := by exact (by decide : 12 < 1024)
  refine ⟨((onlyChanges_refl s).bump _ 1 hsub hblock).trans (hcapture.mono (List.Subset.refl _) fun r hr => ?_), ?_⟩
  · simp only [captureRegs, decide_eq_true_eq] at hr
    exact blocks_iff.2 (by simp; omega)
  · rw [hcapture.2 _ hsub (decide_eq_false (by simp only [Reg.CMP_FIRED]; omega)), State.bump, State.reg_setReg_same _ _ _ (by rw [hbits]; decide), hbits]

/-- The values of a period take effect, and it is counted. -/
def State.beginPeriod (s : State) (p : LampPeriod) : State :=
  ((s.ownFire 2).modLantern fun l => { l with
    running := some p, merged := none, startTick := (s.ticks / 4 + 1) * 4, converted := false }).count .LANCNT_PERIODS

/-- What the elements of the governor show of a period. -/
def State.showPeriod (s : State) (p : LampPeriod) : State :=
  (((if p.derated then s.count .LANCNT_DERATE_PERIODS else s).setReg .LAN_TOTAL_MA p.totalMa).setReg .LAN_SINK_MW p.sinkMw).setReg .LAN_GOV_K p.govK

theorem State.startPeriod_eq (s : State) (p : LampPeriod) :
    s.startPeriod p = ((((s.beginPeriod p).showPeriod p).governorRun p).trackTests p).showLamps := rfl

/-- What a period start does. -/
structure PeriodStarted (p : LampPeriod) (s t : State) : Prop where
  changes : OnlyChanges [.clock, .lantern, .drum] (andDrum (blocks [3, 9])) s t
  started : t.lantern.started = (some p, none, false, (s.ticks / 4 + 1) * 4)
  fired : t.reg (.CMP_FIRED 2) = (s.reg (.CMP_FIRED 2) + 1) % 2 ^ 32
  periods : t.reg .LANCNT_PERIODS = (s.reg .LANCNT_PERIODS + 1) % 2 ^ 32
  totalMa : t.reg .LAN_TOTAL_MA = p.totalMa % 2 ^ dictBits .LAN_TOTAL_MA
  govK : t.reg .LAN_GOV_K = p.govK % 2 ^ dictBits .LAN_GOV_K

theorem State.beginPeriod_keeps (s : State) (p : LampPeriod) :
    OnlyChanges [.clock, .lantern, .drum] (andDrum (blocks [3, 9])) s (s.beginPeriod p) ∧
    (s.beginPeriod p).lantern.started = (some p, none, false, (s.ticks / 4 + 1) * 4) ∧
    (s.beginPeriod p).reg (.CMP_FIRED 2) = (s.reg (.CMP_FIRED 2) + 1) % 2 ^ 32 ∧
    (s.beginPeriod p).reg .LANCNT_PERIODS = (s.reg .LANCNT_PERIODS + 1) % 2 ^ 32 := by
  obtain ⟨hfire, hfired⟩ := s.ownFire_fires (n := 2) (by decide)
  refine ⟨((hfire.mono (by decide) fun _ => andDrum_of_blocks (by decide)).modLantern _ (by decide)).count _ 1 (by decide) (by decide) (by decide),
    ?_, ?_, ?_⟩
  · rw [State.beginPeriod, State.count_lantern]; rfl
  · rw [State.beginPeriod, State.reg_count_other _ _ _ _ (by decide) (by decide), State.modLantern_reg, hfired]
  · rw [State.beginPeriod, State.reg_count_same _ _ _ (by decide) (by decide), State.modLantern_reg, hfire.2 .LANCNT_PERIODS (by decide) (by decide)]
    rfl

theorem State.showPeriod_keeps (s : State) (p : LampPeriod) : OnlyChanges [.drum] (blocks [9]) s (s.showPeriod p) ∧
    (s.showPeriod p).lantern = s.lantern ∧ (s.showPeriod p).reg .LANCNT_PERIODS = s.reg .LANCNT_PERIODS ∧
    (s.showPeriod p).reg .LAN_TOTAL_MA = p.totalMa % 2 ^ dictBits .LAN_TOTAL_MA ∧
    (s.showPeriod p).reg .LAN_GOV_K = p.govK % 2 ^ dictBits .LAN_GOV_K := by
  have hcounted : OnlyChanges [.drum] (blocks [9]) s (if p.derated then s.count .LANCNT_DERATE_PERIODS else s) := by
    split
    · exact (onlyChanges_refl s).count _ 1 (by decide) (by decide) (by decide)
    · exact onlyChanges_refl s
  have hchanges : OnlyChanges [.drum] (blocks [9]) s (s.showPeriod p) :=
    ((hcounted.setReg .LAN_TOTAL_MA _ (by decide) (by decide)).setReg .LAN_SINK_MW _ (by decide) (by decide)).setReg .LAN_GOV_K _ (by decide)
      (by decide)
  refine ⟨hchanges, hchanges.1 .lantern (by decide), ?_, ?_, ?_⟩
  · simp (disch := decide) only [State.showPeriod, State.reg_setReg_key]
    split
    · exact State.reg_count_other _ _ _ _ (by decide) (by decide)
    · rfl
  · simp (disch := decide) only [State.showPeriod, State.reg_setReg_key, State.reg_setReg_same]
  · simp (disch := decide) only [State.showPeriod, State.reg_setReg_same]

theorem State.startPeriod_periodStarted (s : State) (p : LampPeriod) : PeriodStarted p s (s.startPeriod p) := by
  obtain ⟨hbegun, hstarted, hfired, hperiods⟩ := s.beginPeriod_keeps p
  obtain ⟨hshown, hlantern, hshownPeriods, htotal, hgov⟩ := (s.beginPeriod p).showPeriod_keeps p
  have hrest : LampStep Lantern.started lampRegs ((s.beginPeriod p).showPeriod p) (s.startPeriod p) := by
    rw [State.startPeriod_eq]
    exact (((State.governorRun_lampStep _ p)).trans (State.trackTests_lampStep _ p)).trans (State.showLamps_lampStep _)
  refine ⟨(hbegun.trans (hshown.mono (by decide) fun _ => andDrum_of_blocks (by decide))).trans
    (hrest.changes.mono (by decide) fun _ hr => andDrum_subset (by decide) (lampRegs_block hr)), ?_, ?_, ?_, ?_, ?_⟩
  · rw [hrest.kept, hlantern, hstarted]
  · rw [hrest.changes.2 _ (by decide) (by decide), hshown.2 _ (by decide) (by decide), hfired]
  · rw [hrest.changes.2 _ (by decide) (by decide), hshownPeriods, hperiods]
  · rw [hrest.changes.2 _ (by decide) (by decide), htotal]
  · rw [hrest.changes.2 _ (by decide) (by decide), hgov]

/-! Pushes to the partner, and the first lamp output (R452, R540) -/

theorem State.sendMirror_changes (s : State) (kind : Nat) (payload : List Octet) : OnlyChanges [.twin] noRegs s (s.sendMirror kind payload) := by
  unfold State.sendMirror
  split
  · exact onlyChanges_refl s
  · split
    · exact ((onlyChanges_refl s).modTwin _ (by decide)).emit _
    · exact (onlyChanges_refl s).emit _

theorem State.push_changes (s : State) (item key : Nat) (data : List Octet) : OnlyChanges [.twin] noRegs s (s.push item key data) := by
  unfold State.push
  split
  · exact ((onlyChanges_refl s).modTwin _ (by decide)).trans (State.sendMirror_changes _ _ _)
  · exact onlyChanges_refl s

theorem State.pushTied_changes (s : State) : OnlyChanges [.twin] noRegs s s.pushTied := by
  unfold State.pushTied
  split
  · exact onlyChanges_refl s
  · refine List.foldlRecOn _ _ (onlyChanges_refl s) fun u hu g _ => ?_
    extract_lets marks
    split
    · exact hu
    · exact (hu.modTwin _ (by decide)).trans (State.push_changes _ 2 g marks)

theorem OnlyChanges.setSys {parts : List Part} {regs : Reg → Bool} {s t : State} (h : OnlyChanges parts regs s t) (x : Sys) (hsys : .sys ∈ parts) :
    OnlyChanges parts regs s { t with sys := x } :=
  h.change rfl fun p hp => by
    cases p with
    | sys => exact absurd hsys hp
    | _ => rfl

theorem State.startUpDone_changes (s : State) (role : Nat) : OnlyChanges [.sys, .drum] noRegs s (s.startUpDone role) := by
  unfold State.startUpDone
  split
  · exact ((onlyChanges_refl s).setSys _ (by decide)).post _ _ _ (by decide) (by decide)
  · exact onlyChanges_refl s

theorem State.lampStarted_changes (s : State) : OnlyChanges [.sys, .drum] noRegs s s.lampStarted := by
  unfold State.lampStarted
  split
  · exact (((onlyChanges_refl s).setSys _ (by decide)).post _ _ _ (by decide) (by decide)).trans (State.startUpDone_changes _ 1)
  · exact onlyChanges_refl s

end Sys2Proof.Machine

namespace Sys2Proof.Proofs

open Machine

theorem exec_periodStart (dt : Nat) (tests : List (Nat × Bool × Nat × Nat)) (s : State) :
    exec (.periodStart dt tests) s = execPeriodStart dt tests s := rfl

theorem periodStart_startsMerged (dt : Nat) (tests : List (Nat × Bool × Nat × Nat)) (p : LampPeriod) (s : State)
    (hmerged : s.lantern.merged = some p) (hdue : s.lampStart p.period ≤ (s.elapse dt).time96) (hheld : s.lantern.heldUntil ≤ s.ticks + dt) :
    Completes (.periodStart dt tests) s fun s0 t => t.lantern.running = some p ∧ t.lantern.merged = none ∧ t.lantern.converted = false ∧
      t.lantern.startTick = ((s.ticks + dt) / 4 + 1) * 4 ∧ t.reg .LANCNT_PERIODS = (s.reg .LANCNT_PERIODS + 1) % 2 ^ 32 ∧
      t.reg .LAN_TOTAL_MA = p.totalMa % 2 ^ dictBits .LAN_TOTAL_MA ∧ t.reg .LAN_GOV_K = p.govK % 2 ^ dictBits .LAN_GOV_K ∧
      t.reg (.CMP_FIRED 2) = (s.reg (.CMP_FIRED 2) + 1) % 2 ^ 32 ∧
      OnlyChanges [.clock, .lantern, .sys, .twin, .drum, .log] (andDrum (blocks [3, 9])) s0 t := by
  let judged := (begun s dt).judgePeriod (tests.map sinkTest)
  let started := judged.startPeriod p
  let u := started.pushTied.lampStarted
  have hjudged : LampStep Lantern.unseen lampRegs (begun s dt) judged := State.judgePeriod_lampStep _ _
  have hstarted : PeriodStarted p judged started := State.startPeriod_periodStarted _ _
  have htold : OnlyChanges [.sys, .twin, .drum] noRegs started u :=
    (started.pushTied_changes.mono (by decide) fun _ => id).trans ((State.lampStarted_changes _).mono (by decide) fun _ => id)
  have hreg : ∀ r : Reg, r.sub < 1024 → drumRegs r = false → (ended s dt u).reg r = started.reg r := fun r hsub hdrum => by
    rw [ended_reg _ _ _ _ hsub hdrum, htold.2 r hsub rfl]
  have hbefore : ∀ r : Reg, r.sub < 1024 → lampRegs r = false → judged.reg r = s.reg r := fun r hsub hr => hjudged.changes.2 r hsub hr
  have hlantern : (ended s dt u).lantern.started = (some p, none, false, ((s.ticks + dt) / 4 + 1) * 4) := by
    have hticks : judged.ticks = s.ticks + dt := hjudged.changes.1 .ticks (by decide)
    rw [ended_lantern, htold.1 .lantern (by decide), hstarted.started, hticks]
  simp only [Lantern.started, Prod.mk.injEq] at hlantern
  obtain ⟨hrunning, hnone, hconverted, htick⟩ := hlantern
  refine completes_of_effect (dt := dt) (u := u) rfl (exec_periodStart ..) ?_ ⟨hrunning, hnone, hconverted, htick, ?_, ?_, ?_, ?_, ?_⟩
  · have hnotEarly : ¬((begun s dt).time96 < (begun s dt).lampStart p.period ∨ (begun s dt).ticks < (begun s dt).lantern.heldUntil) :=
      not_or.2 ⟨Nat.not_lt.2 hdue, Nat.not_lt.2 hheld⟩
    have hmerged' : (begun s dt).lantern.merged = some p := hmerged
    simp only [hmerged']
    exact if_neg hnotEarly
  · rw [hreg _ (by decide) (by decide), hstarted.periods, hbefore _ (by decide) (by decide)]
  · rw [hreg _ (by decide) (by decide), hstarted.totalMa]
  · rw [hreg _ (by decide) (by decide), hstarted.govK]
  · rw [hreg _ (by decide) (by decide), hstarted.fired, hbefore _ (by decide) (by decide)]
  · have hfaults : OnlyChanges [.clock, .lantern, .sys, .twin, .drum, .log] (andDrum (blocks [3, 9])) (s.elapse dt) judged :=
      (onlyChanges_begun s dt).trans (hjudged.changes.mono (by decide) fun _ hr => andDrum_subset (by decide) (lampRegs_block hr))
    exact ((hfaults.trans (hstarted.changes.mono (by decide) fun _ => id)).trans
      (htold.mono (by decide) fun _ hr => absurd hr (by simp [noRegs]))).ended_drum (by decide) (by decide)

end Sys2Proof.Proofs

namespace Sys2Proof.Machine

/-! Conversions (R339, R340) -/

theorem railMin_bits {g : Nat} (hg : g < 16) : dictBits (.LAN_RAIL_MIN_MV g) = 16 := by
  have hall : ((List.range 16).all fun g => dictBits (.LAN_RAIL_MIN_MV g) == 16) = true := by decide
  simpa using List.all_eq_true.1 hall g (List.mem_range.2 hg)

/-- The elements of a rail group's record beside the least headroom a conversion shows, and the fault summary. -/
def trackerRegs (g : Nat) (r : Reg) : Bool := decide (r.index = 0x9340 + g ∧ r.sub ≠ 4 ∨ r = .DRM_FAULT_SUMMARY)

theorem trackerRegs_code (g n : Nat) (hn : n ≠ 4) : trackerRegs g ⟨0x9340 + g, n⟩ = true := by simp [trackerRegs, hn]

/-- After the least headroom is shown, a conversion of a rail group moves its tracker only. -/
theorem State.convertRail_lampStep (s : State) (g : Nat) (r : Option (Nat × Nat)) :
    LampStep Lantern.started (trackerRegs g) (s.setReg (.LAN_RAIL_MIN_MV g) ((r.map (·.1)).getD 0)) (s.convertRail g r) := by
  unfold State.convertRail
  extract_lets least shown meaned enabled code top target coded n tracked
  have hmeaned : LampStep Lantern.started (trackerRegs g) shown meaned := by
    simp only [meaned]
    split
    · exact (LampStep.refl shown).setReg _ _ (by exact (by decide : 5 < 1024)) (trackerRegs_code g 5 (by decide))
    · exact LampStep.refl shown
  have hcoded : LampStep Lantern.started (trackerRegs g) shown coded :=
    hmeaned.setReg _ _ (by exact (by decide : 3 < 1024)) (trackerRegs_code g 3 (by decide))
  have htracked : LampStep Lantern.started (trackerRegs g) shown tracked := hcoded.modLantern rfl
  exact .ite hmeaned (.ite (htracked.post _ _ _ (by simp [trackerRegs])) htracked)

/-- What the conversion of rail groups does: Lantern's values and start stay, and what a group's tracker held is shown. -/
structure RailsConverted (rails : List (Option (Nat × Nat))) (n : Nat) (s t : State) : Prop where
  changes : OnlyChanges [.lantern, .twin, .drum] (andDrum (blocks [9])) s t
  started : t.lantern.started = s.lantern.started
  least : ∀ g < n, t.reg (.LAN_RAIL_MIN_MV g) = ((nth rails g none).map (fun x => x.1)).getD 0 % 2 ^ 16

theorem State.pushCode_changes (s : State) (g : Nat) : OnlyChanges [.twin] noRegs s (s.pushCode g) := by
  unfold State.pushCode
  split
  · exact s.push_changes ..
  · exact onlyChanges_refl s

theorem RailsConverted.next {rails : List (Option (Nat × Nat))} {n : Nat} {s t : State} (h : RailsConverted rails n s t) (hn : n < 16) :
    RailsConverted rails (n + 1) s ((t.convertRail n (nth rails n none)).pushCode n) := by
  let v := ((nth rails n none).map (fun x => x.1)).getD 0
  have hstep : LampStep Lantern.started (trackerRegs n) (t.setReg (.LAN_RAIL_MIN_MV n) v) (t.convertRail n (nth rails n none)) :=
    t.convertRail_lampStep n _
  have hpush := (t.convertRail n (nth rails n none)).pushCode_changes n
  have hlantern : ((t.convertRail n (nth rails n none)).pushCode n).lantern = (t.convertRail n (nth rails n none)).lantern :=
    hpush.1 .lantern (by decide)
  have hreg : ∀ g < 16, ((t.convertRail n (nth rails n none)).pushCode n).reg (.LAN_RAIL_MIN_MV g) =
      (t.setReg (.LAN_RAIL_MIN_MV n) v).reg (.LAN_RAIL_MIN_MV g) := fun g _ =>
    (hpush.2 _ (by exact (by decide : 4 < 1024)) rfl).trans
      (hstep.changes.2 _ (by exact (by decide : 4 < 1024)) (by simp [trackerRegs, Reg.LAN_RAIL_MIN_MV, Reg.DRM_FAULT_SUMMARY]))
  refine ⟨((h.changes.setReg _ v (by exact (by decide : 4 < 1024)) (andDrum_of_blocks (List.Subset.refl _) (blocks_iff.2 ?_))).trans
    (hstep.changes.mono (by decide) fun r hr => ?_)).trans (hpush.mono (by decide) fun r hr => absurd hr (by simp [noRegs])), ?_, fun g hg => ?_⟩
  · simp only [Reg.LAN_RAIL_MIN_MV, List.mem_singleton]; omega
  · simp only [trackerRegs, decide_eq_true_eq] at hr
    obtain ⟨hindex, -⟩ | rfl := hr
    · exact andDrum_of_blocks (List.Subset.refl _) (blocks_iff.2 (by simp only [List.mem_singleton]; omega))
    · decide
  · rw [hlantern, hstep.kept, State.setReg_lantern, h.started]
  · rw [hreg g (by omega)]
    obtain hlt | rfl := Nat.lt_succ_iff_lt_or_eq.1 hg
    · rw [State.reg_setReg_key _ _ _ _ (by simp only [Reg.key, Reg.LAN_RAIL_MIN_MV]; omega), h.least g hlt]
    · rw [State.reg_setReg_same _ _ _ (by rw [railMin_bits hn]; decide), railMin_bits hn]

theorem State.convertRails_railsConverted (s : State) (rails : List (Option (Nat × Nat))) {n : Nat} (hn : n ≤ 16) :
    RailsConverted rails n s ((List.range n).foldl (fun s g => (s.convertRail g (nth rails g none)).pushCode g) s) := by
  induction n with
  | zero => exact ⟨onlyChanges_refl s, rfl, fun g hg => absurd hg (Nat.not_lt_zero g)⟩
  | succ n ih =>
    rw [List.range_succ, List.foldl_append]
    exact (ih (by omega)).next (by omega)

/-- The elements an NTC input moves, and the fault summary. -/
def ntcRegs (r : Reg) : Bool := decide (r.index = 0x9020 ∨ r = .DRM_FAULT_SUMMARY)

theorem State.convertNtc_lampStep (s : State) {k : Nat} (hk : k < 16) (uv : Nat) :
    LampStep Lantern.started ntcRegs s (s.convertNtc k uv) := by
  have hset : ∀ v f, (∀ l, Lantern.started (f l) = l.started) →
      LampStep Lantern.started ntcRegs s ((s.setReg (.LAN_NTC_TEMP (k + 1)) v).modLantern f) := fun v f hf =>
    ((LampStep.refl s).setReg (.LAN_NTC_TEMP (k + 1)) v (by simp only [Reg.LAN_NTC_TEMP]; omega) (by simp [ntcRegs, Reg.LAN_NTC_TEMP])).modLantern
      (hf _)
  unfold State.convertNtc
  extract_lets temp invalid
  have hinvalid : LampStep Lantern.started ntcRegs s invalid := hset _ _ fun _ => rfl
  exact .ite (.ite hinvalid (hinvalid.post _ _ _ (by decide))) (hset _ _ fun _ => rfl)

/-! Channels and their sinks (R334, R346) -/

theorem channelStatus_bits {c : Nat} (hc : c < 512) : dictBits (.LAN_CH_STATUS c) = 16 := by
  have hall : ((List.range 512).all fun c => dictBits (.LAN_CH_STATUS c) == 16) = true := by decide +kernel
  simpa using List.all_eq_true.1 hall c (List.mem_range.2 hc)

/-- A sink changed, but for its fault, reads so changed, whether or not its trim marks it. -/
theorem State.sink_modSink_same {s : State} {c : Nat} (hc : c < s.lantern.sinks.length) {f : LampSink → LampSink}
    (hf : ∀ x n, f { x with fault := n } = { f x with fault := n }) : (s.modSink c f).sink c = f (s.sink c) := by
  have hsame : nth (s.modSink c f).lantern.sinks c LampSink.reset = f (nth s.lantern.sinks c LampSink.reset) := nth_modNth_same _ _ _ _ hc
  have hreg : (s.modSink c f).reg (.CAL_SINK_TRIM c 3) = s.reg (.CAL_SINK_TRIM c 3) := rfl
  simp only [State.sink, hsame, hreg]
  split
  · exact (hf _ 3).symm
  · rfl

end Sys2Proof.Machine

namespace Sys2Proof.Proofs

open Machine

theorem exec_adcConversion (dt junction vin : Nat) (rails : List (Option (Nat × Nat))) (ntc : List Nat) (s : State) :
    exec (.adcConversion dt rails ntc junction vin) s = execAdcConversion dt rails ntc junction vin s := rfl

theorem adcConversion_showsTrackers (dt junction vin : Nat) (rails : List (Option (Nat × Nat))) (ntc : List Nat) (p : LampPeriod) (s : State)
    (hrunning : s.lantern.running = some p) (hconverted : s.lantern.converted = false)
    (hdue : s.lampStart p.period + nsUnits (s.reg .LAN_ADC_OFFSET) ≤ (s.elapse dt).time96) :
    Completes (.adcConversion dt rails ntc junction vin) s fun s0 t => t.lantern.converted = true ∧ t.lantern.running = some p ∧
      (∀ g ∈ List.range 16, t.reg (.LAN_RAIL_MIN_MV g) = ((nth rails g none).map (fun x => x.1)).getD 0 % 2 ^ 16) ∧
      t.reg .LAN_JUNCTION = junction % 2 ^ 16 ∧ t.reg .LAN_VIN_MV = vin % 2 ^ dictBits .LAN_VIN_MV ∧
      t.reg (.CMP_FIRED 3) = (s.reg (.CMP_FIRED 3) + 1) % 2 ^ 32 ∧
      OnlyChanges [.clock, .lantern, .twin, .drum, .log] (andDrum (blocks [3, 9])) s0 t := by
  let marked := ((begun s dt).ownFire 3).modLantern fun l => { l with converted := true }
  let railed := (List.range 16).foldl (fun s g => (s.convertRail g (nth rails g none)).pushCode g) marked
  let warmed := (List.range 16).foldl (fun s k => s.convertNtc k (nth ntc k 0)) railed
  let u := (warmed.setReg .LAN_JUNCTION junction).setReg .LAN_VIN_MV vin
  obtain ⟨hfire, hfired⟩ := (begun s dt).ownFire_fires (n := 3) (by decide)
  have hrailed : RailsConverted rails 16 marked railed := State.convertRails_railsConverted _ _ (Nat.le_refl 16)
  have hwarmed : LampStep Lantern.started ntcRegs railed warmed :=
    (LampStep.refl railed).foldl fun v k hk => v.convertNtc_lampStep (List.mem_range.1 hk) _
  have hlast : OnlyChanges [] (among [.LAN_JUNCTION, .LAN_VIN_MV]) warmed u :=
    ((onlyChanges_refl _).setReg _ _ (by decide) (by decide)).setReg _ _ (by decide) (by decide)
  have hstarted : (ended s dt u).lantern.started = (some p, s.lantern.merged, true, s.lantern.startTick) := by
    have hlantern : ((begun s dt).ownFire 3).lantern = s.lantern := hfire.1 .lantern (by decide)
    rw [ended_lantern, hlast.1 .lantern (by decide), hwarmed.kept, hrailed.started]
    simp only [marked, State.modLantern_lantern, Lantern.started, hlantern, hrunning]
  simp only [Lantern.started, Prod.mk.injEq] at hstarted
  obtain ⟨hrunning', -, hconverted', -⟩ := hstarted
  refine completes_of_effect (dt := dt) (u := u) rfl (exec_adcConversion ..) ?_ ⟨hconverted', hrunning', fun g hg => ?_, ?_, ?_, ?_, ?_⟩
  · have hnotDue : ¬((begun s dt).lantern.converted = true ∨
        (begun s dt).time96 < (begun s dt).lampStart p.period + nsUnits ((begun s dt).reg .LAN_ADC_OFFSET)) :=
      not_or.2 ⟨by simp [hconverted], Nat.not_lt.2 hdue⟩
    have hrunning'' : (begun s dt).lantern.running = some p := hrunning
    simp only [hrunning'']
    exact if_neg hnotDue
  · have hg := List.mem_range.1 hg
    rw [ended_reg _ _ _ _ (by exact (by decide : 4 < 1024)) (drumRegs_of_block (by simp only [Reg.LAN_RAIL_MIN_MV]; omega)),
      hlast.2 _ (by exact (by decide : 4 < 1024)) (by simp [among, Reg.LAN_RAIL_MIN_MV, Reg.LAN_JUNCTION, Reg.LAN_VIN_MV]),
      hwarmed.changes.2 _ (by exact (by decide : 4 < 1024)) (by simp [ntcRegs, Reg.LAN_RAIL_MIN_MV, Reg.DRM_FAULT_SUMMARY]; omega),
      hrailed.least g hg]
  · rw [ended_reg _ _ _ _ (by decide) (by decide), State.reg_setReg_key _ _ _ _ (by decide), State.reg_setReg_same _ _ _ (by decide)]; rfl
  · rw [ended_reg _ _ _ _ (by decide) (by decide), State.reg_setReg_same _ _ _ (by decide)]
  · rw [ended_reg _ _ _ _ (by decide) (by decide), hlast.2 _ (by decide) (by decide), hwarmed.changes.2 _ (by decide) (by decide),
      hrailed.changes.2 _ (by decide) (by decide), State.modLantern_reg, hfired, begun_reg]
  · have hmarked : OnlyChanges [.clock, .lantern, .twin, .drum, .log] (andDrum (blocks [3, 9])) (s.elapse dt) marked :=
      ((onlyChanges_begun s dt).trans (hfire.mono (by decide) fun _ => andDrum_of_blocks (by decide))).modLantern _ (by decide)
    refine (((hmarked.trans (hrailed.changes.mono (by decide) fun _ => andDrum_subset (by decide))).trans
      (hwarmed.changes.mono (by decide) fun r hr => ?_)).trans (hlast.mono (by decide) fun r hr => ?_)).ended_drum (by decide) (by decide)
    · simp only [ntcRegs, decide_eq_true_eq] at hr
      obtain hindex | rfl := hr
      · simp [andDrum, blocks, hindex]
      · decide
    · simp only [among_iff, List.mem_cons, List.not_mem_nil, or_false] at hr
      obtain rfl | rfl := hr <;> decide

theorem exec_channelUntested (dt c : Nat) (s : State) : exec (.channelUntested dt c) s = execChannelUntested dt c s := rfl
theorem exec_tiedGroupEnable (dt : Nat) (s : State) : exec (.tiedGroupEnable dt) s = execTiedGroupEnable dt s := rfl

theorem channelUntested_marksSink (dt c since : Nat) (s : State) (hquiet : Quiet s) (hc : c < 512) (hsinks : s.lantern.sinks.length = 512)
    (hbelow : (s.sink c).belowSince = some since) (hdue : since + 60 * 781250000 ≤ s.ticks + dt) (hmaster : s.lampMaster c = true) :
    Completes (.channelUntested dt c) s fun s0 t => t.sink c = { s.sink c with untested := true } ∧
      bitOf (t.reg (.LAN_CH_STATUS c)) 5 = true ∧ t.out = [] ∧ OnlyChanges [.lantern] (among [.LAN_CH_STATUS c]) s0 t := by
  let marked := (begun s dt).modSink c fun x => { x with untested := true }
  let u := marked.setBit (.LAN_CH_STATUS c) 5 true
  have hquiet' : Quiet u := quiet_of_drum (State.setBit_drum ..) hquiet
  have hended : ended s dt u = { u with pending := s.pending, ticks := s.ticks + dt } := by rw [ended, u.settle_quiet hquiet']
  have hchanges : OnlyChanges [.lantern] (among [.LAN_CH_STATUS c]) marked u :=
    (onlyChanges_refl marked).setBit _ 5 true (by exact (by decide : 13 < 1024)) (by simp [among])
  refine completes_of_effect (dt := dt) (u := u) rfl (exec_channelUntested ..) ?_ ⟨?_, ?_, ?_, ?_⟩
  · have hbelow' : ((begun s dt).sink c).belowSince = some since := hbelow
    simp only [hbelow']
    exact if_pos ⟨hdue, hmaster⟩
  · have hsink : u.sink c = marked.sink c := by
      rw [State.sink, State.sink, State.setBit_lantern,
        hchanges.2 (.CAL_SINK_TRIM c 3) (by exact (by decide : 3 < 1024)) (by simp [among, Reg.CAL_SINK_TRIM, Reg.LAN_CH_STATUS])]
    rw [hended]
    exact hsink.trans (State.sink_modSink_same (hc.trans_eq hsinks.symm) fun _ _ => rfl)
  · rw [hended]
    exact State.bitOf_setBit_same marked true (by rw [channelStatus_bits hc]; decide)
  · rw [hended]; exact State.setBit_out ..
  · exact (((onlyChanges_begun s dt).modLantern _ (by decide)).trans hchanges).ended_quiet hquiet'

theorem tiedGroupEnable_takesOver (dt due : Nat) (s : State) (htied : s.lantern.tiedAt = some due) (hdue : due ≤ s.ticks + dt) :
    Completes (.tiedGroupEnable dt) s fun s0 t => t.lantern = { s.lantern with tiedOn := true, tiedAt := none } ∧
      t.reg .LANCNT_TWIN_SWITCHES = (s.reg .LANCNT_TWIN_SWITCHES + s.tiedGroups.length) % 2 ^ 32 ∧ t.out = [] ∧
      OnlyChanges [.lantern, .drum, .log] (andDrum (entries [0x9600])) s0 t := by
  let driven := (begun s dt).modLantern fun l => { l with tiedOn := true, tiedAt := none }
  let u := driven.count .LANCNT_TWIN_SWITCHES s.tiedGroups.length
  refine completes_of_effect (dt := dt) (u := u) rfl (exec_tiedGroupEnable ..) ?_ ⟨?_, ?_, ?_, ?_⟩
  · have htied' : (begun s dt).lantern.tiedAt = some due := htied
    simp only [htied']
    exact if_pos hdue
  · rw [ended_lantern, State.count_lantern]; rfl
  · rw [ended_reg _ _ _ _ (by decide) (by decide), State.reg_count_same _ _ _ (by decide) (by decide)]; rfl
  · rw [ended_out, State.count_out]; rfl
  · exact (((onlyChanges_begun s dt).modLantern _ (by decide)).count _ _ (by decide) (by decide) (by decide)).ended (by decide) (by decide)

/-- Settles O30, command by command. What Lantern does on its own is `LampStep`, said operation by operation; that the stages of a merge after
the second light no dark channel is `Dims`. -/
theorem lampPeriodsRun : Obligations.LampPeriodsRun :=
  ⟨mergeInstant_fixesValues, periodStart_startsMerged, adcConversion_showsTrackers, channelUntested_marksSink, tiedGroupEnable_takesOver⟩

end Sys2Proof.Proofs

namespace Sys2Proof.Machine

/-! Every command is the run of an effect -/

/-- What a command answers: the clocks it takes, then some effect, settled. -/
theorem exec_eq_run (c : Instr) (s : State) : ∃ f, exec c s = run s c.dt f := by
  cases c
  all_goals
    dsimp only [exec, Instr.dt]
    exact ⟨_, rfl⟩

theorem exec_completes (c : Instr) (s : State) :
    ∃ t, exec c s = .next t ∧ t.pending = s.pending ∧ t.ticks = s.ticks + c.dt ∧ t.drum.incoming = [] := by
  obtain ⟨f, hf⟩ := exec_eq_run c s
  exact ⟨_, hf.trans (run_eq s c.dt f), rfl, rfl, State.settle_incoming _⟩

/-- A step with a command waiting takes it from the queue and runs it. -/
theorem step_of_pending {c : Instr} {rest : List Instr} {s : State} (h : s.pending = c :: rest) : step s = exec c { s with pending := rest } := by
  unfold step
  rw [h]

theorem core_run_succ_of_next {k : Nat} {s t : State} (h : step s = .next t) : Host.Core.run core (k + 1) s = Host.Core.run core k t := by
  have hcore : core.step s = .next t := h
  simp only [Host.Core.run, hcore]

end Sys2Proof.Machine

namespace Sys2Proof.Proofs

open Machine

/-- Settles O3: each command is the run of an effect, which answers a next state, keeps the queue and empties what waits to enter the Drum. -/
theorem everyCommandCompletes : Obligations.EveryCommandCompletes := by
  unfold Obligations.EveryCommandCompletes
  intro c s
  obtain ⟨t, hnext, hpending, hticks, hincoming⟩ := exec_completes c s
  exact ⟨t, hnext, hpending, hticks, hincoming⟩

/-- Settles O4, by induction on the number of steps: each step runs the command in front, and the rest of the run starts from what it leaves. -/
theorem queueRunsInOrder : Obligations.QueueRunsInOrder := by
  unfold Obligations.QueueRunsInOrder
  intro k
  induction k with
  | zero =>
    intro s _ hquiet
    exact ⟨s, rfl, rfl, rfl, hquiet⟩
  | succ k ih =>
    intro s hk hquiet
    obtain ⟨c, rest, hqueue⟩ := List.exists_cons_of_length_pos (Nat.lt_of_lt_of_le k.succ_pos hk)
    obtain ⟨u, hnext, hpending, hticks, hincoming⟩ := exec_completes c { s with pending := rest }
    have hlength : k ≤ u.pending.length := by
      rw [hqueue, List.length_cons] at hk
      rw [hpending]
      exact Nat.le_of_succ_le_succ hk
    obtain ⟨t, hrun, htail, hclocks, hlast⟩ := ih u hlength hincoming
    refine ⟨t, (core_run_succ_of_next ((step_of_pending hqueue).trans hnext)).trans hrun, ?_, ?_, hlast⟩
    · rw [htail, hpending, hqueue]; rfl
    · rw [hclocks, hticks, hpending, hqueue, List.take_succ_cons, List.map_cons, List.sum_cons, Nat.add_assoc]

end Sys2Proof.Proofs

namespace Sys2Proof.Proofs

open Machine

/-! A restart brings the count of trim writes over (R365, R532) -/

/-- A started unit whose trim memory has been written five times. -/
def trimsWritten : State := (State.reset.setReg .CAL_TRIM_WRITES 5).modSys fun y => { y with releasedAt := some 0 }

/-- The firmware's port reads poisoned data, and the count of trim writes stands after the restart. -/
theorem restart_keeps_trimWrites : regAfter (.dramReadError 0 6 0 false none) trimsWritten .CAL_TRIM_WRITES = some 5 := by decide +kernel

/-- Refutes O37, by its third clause. The unit that restarts takes the trims and their write count CAL_TRIM_WRITES over from what lives outside the
dictionary, so its dictionary is that of reset in every other element only: in `trimsWritten` the count reads 5 after the restart and 0 after
reset. The clauses of the restart would have to allow CAL_TRIM_WRITES. -/
theorem not_memoryErrorsActAndRestart : ¬ Obligations.MemoryErrorsActAndRestart := by
  unfold Obligations.MemoryErrorsActAndRestart
  rintro ⟨-, -, hpoisoned, -⟩
  obtain ⟨t, hnext, ⟨hdict, -⟩, -⟩ := hpoisoned 0 6 0 none trimsWritten (.inl rfl) rfl
  have hreset : t.reg .CAL_TRIM_WRITES = State.reset.reg .CAL_TRIM_WRITES := by rw [State.reg, hdict]; rfl
  have hzero : State.reset.reg .CAL_TRIM_WRITES = 0 := by decide +kernel
  have hafter := restart_keeps_trimWrites
  rw [regAfter_of_next _ hnext, hreset, hzero] at hafter
  exact absurd hafter (by decide)

end Sys2Proof.Proofs

namespace Sys2Proof.Machine

/-! The suspension of the freeze judgement (R359) moves elements of Oculus only, and not OCU_ENABLE -/

/-- The elements a suspension may move. -/
def suspensionRegs (r : Reg) : Bool := blocks [10] r && r != .OCU_ENABLE

/-- What a suspension and the registers that show it may change. -/
structure OculusMoves (s t : State) : Prop where
  changes : OnlyChanges [.ocu, .drum] suspensionRegs s t
  out : t.out = s.out

namespace OculusMoves

variable {s t : State}

theorem setReg (h : OculusMoves s t) (r : Reg) (v : Nat) (hsub : r.sub < 1024) (hr : suspensionRegs r = true) : OculusMoves s (t.setReg r v) :=
  ⟨h.changes.setReg r v hsub hr, (State.setReg_out ..).trans h.out⟩

theorem modOcu (h : OculusMoves s t) (f : Ocu → Ocu) : OculusMoves s (t.modOcu f) :=
  ⟨h.changes.change rfl fun p hp => by
    cases p with
    | ocu => exact absurd (by decide) hp
    | _ => rfl, h.out⟩

theorem setLinks (h : OculusMoves s t) (r : Nat → Reg) (v : Nat → Nat) (hr : ∀ k < 64, (r k).sub < 1024 ∧ suspensionRegs (r k) = true) :
    OculusMoves s ((List.range 64).foldl (fun u k => u.setReg (r k) (v k)) t) :=
  List.foldlRecOn (List.range 64) _ h fun _ hu k hk =>
    have hk' := hr k (List.mem_range.1 hk)
    hu.setReg (r k) (v k) hk'.1 hk'.2

theorem showOculus (h : OculusMoves s t) : OculusMoves s t.showOculus := by
  unfold State.showOculus
  exact (h.setReg .OCU_STATE _ (by decide) (by decide)).setLinks .OCU_SUSPENDED _ (by decide)

theorem suspendAll (h : OculusMoves s t) (cause : Nat) (start : Option Nat) : OculusMoves s (t.suspendAll cause start) := by
  have hshown := ((h.setLinks .OCU_FREEZE_RUN (fun _ => 0) (by decide)).modOcu fun o => { o with all := some ⟨3, start, cause⟩ }).showOculus
  simp only [State.suspendAll]
  split
  · exact hshown
  · exact ⟨(hshown.changes.count .OCUCNT_SUSPENSIONS 1 (by decide) (by decide) (by decide)).post _ _ _ (by decide) (by decide),
      (State.post_out ..).trans ((State.count_out ..).trans hshown.out)⟩

end OculusMoves

/-- A switch of OCU_ENABLE sets it and then suspends the judgement (R359). -/
theorem State.ocuEnable_moves {s : State} {value : Nat} (hvalue : value ≤ 1) (hnew : value ≠ s.reg .OCU_ENABLE) :
    ∃ u, s.ocuEnable value = u.reply 0 ∧ OculusMoves (s.setReg .OCU_ENABLE value) u := by
  have hset : OculusMoves (s.setReg .OCU_ENABLE value) (s.setReg .OCU_ENABLE value) := ⟨onlyChanges_refl _, rfl⟩
  unfold State.ocuEnable
  rw [if_neg (Nat.not_lt.2 hvalue), if_neg hnew]
  obtain rfl | rfl : value = 0 ∨ value = 1 := by omega
  · exact ⟨_, rfl, hset.suspendAll 3 none⟩
  · exact ⟨_, rfl, (hset.modOcu _).showOculus⟩

/-! Check contexts (R366, R367) -/

@[simp] theorem ended_ocu (s u : State) (dt : Nat) : (ended s dt u).ocu = u.ocu := u.settle_ocu
@[simp] theorem ended_crcContext (s u : State) (dt n : Nat) : (ended s dt u).crcContext n = u.crcContext n := by simp [State.crcContext]
@[simp] theorem State.setRunning_ocu (s : State) (n v : Nat) : (s.setRunning n v).ocu = s.ocu := by simp [State.setRunning]
@[simp] theorem State.setRunning_drum (s : State) (n v : Nat) : (s.setRunning n v).drum = s.drum := by simp [State.setRunning]
@[simp] theorem State.setRunning_out (s : State) (n v : Nat) : (s.setRunning n v).out = s.out := by simp [State.setRunning]
@[simp] theorem State.crcRestart_drum (s : State) (n : Nat) : (s.crcRestart n).drum = s.drum := by simp [State.crcRestart, State.modCrcContext]
@[simp] theorem State.crcRestart_out (s : State) (n : Nat) : (s.crcRestart n).out = s.out := by simp [State.crcRestart, State.modCrcContext]

/-- The widths of the numeric elements of a check context (11_oculus_integrity.md, the entry of the context). -/
theorem crcEntry_bits {n : Nat} (hn : 4 ≤ n ∧ n < 8) :
    dictBits (.CRC_WIDTH n) = 8 ∧ dictBits (.CRC_POLY n) = 64 ∧ dictBits (.CRC_INIT n) = 64 ∧ dictBits (.CRC_REFLECT_IN n) = 1 ∧
      dictBits (.CRC_REFLECT_OUT n) = 1 ∧ dictBits (.CRC_INVERT n) = 1 ∧ dictBits (.CRC_RUNNING n) = 64 ∧ dictBits (.CRC_RESULT n) = 64 ∧
      dictBits (.CRC_OCTETS n) = 64 ∧ dictBits (.CRC_ALIVE_STATUS n) = 16 := by
  obtain ⟨hlow, hhigh⟩ := hn
  interval_cases n <;> decide

/-- Elements of one entry with different subindices do not disturb each other. -/
theorem State.reg_setReg_sub (s : State) {i a b : Nat} (v : Nat) (ha : a < 1024) (hb : b < 1024) (hne : b ≠ a) :
    (s.setReg ⟨i, a⟩ v).reg ⟨i, b⟩ = s.reg ⟨i, b⟩ :=
  State.reg_setReg_other _ _ _ _ ha hb fun h => hne (congrArg Reg.sub h)

/-- What an effect within the entry of a context may change. -/
theorem OnlyChanges.setCrc {parts : List Part} {s t : State} {n : Nat} (h : OnlyChanges parts (entries [0xA100 + n]) s t) (sub v : Nat)
    (hsub : sub < 1024) : OnlyChanges parts (entries [0xA100 + n]) s (t.setReg ⟨0xA100 + n, sub⟩ v) :=
  h.setReg _ v hsub (by simp [entries])

theorem OnlyChanges.modCrcContext {parts : List Part} {regs : Reg → Bool} {s t : State} (h : OnlyChanges parts regs s t) (n : Nat)
    (f : CrcContext → CrcContext) (hocu : .ocu ∈ parts) : OnlyChanges parts regs s (t.modCrcContext n f) :=
  h.change rfl fun p hp => by
    cases p with
    | ocu => exact absurd hocu hp
    | _ => rfl

theorem State.crcContext_modCrcContext {s : State} {n : Nat} (f : CrcContext → CrcContext) (h : n < s.ocu.contexts.length) :
    (s.modCrcContext n f).crcContext n = f (s.crcContext n) :=
  nth_modNth_same _ _ _ _ h

/-- The session that holds a context writes it. -/
theorem State.crcWrite_of_holder {s : State} {who n : Nat} (f : State → State) (hn : 4 ≤ n ∧ n < 8) (hwho : 1 ≤ s.levelOf who)
    (hheld : (s.crcContext n).holder = some who) : s.crcWrite who n f = f s := by
  rw [State.crcWrite, if_neg (by omega), if_neg (by omega), if_neg (by omega), if_pos hheld]

/-- A write to a context by the session that holds it completes as its effect says. -/
theorem completes_of_crcWrite {c : Instr} {dt who n : Nat} {s : State} {f : State → State} {claim : State → State → Prop} (hdt : c.dt = dt)
    (hexec : exec c s = run s dt fun s => s.crcWrite who n f) (hn : 4 ≤ n ∧ n < 8) (hwho : 1 ≤ (s.elapse dt).levelOf who)
    (hheld : (s.crcContext n).holder = some who) (hclaim : claim (s.elapse dt) (ended s dt (f (begun s dt)))) : Completes c s claim :=
  completes_of_effect hdt hexec (State.crcWrite_of_holder (s := begun s dt) f hn hwho hheld) hclaim

/-- A command that only answers a status changes nothing. -/
theorem ended_reply {s : State} {dt : Nat} (hquiet : Quiet s) (status : Nat) :
    (ended s dt ((begun s dt).reply status)).out = [.reply status] ∧ OnlyChanges [] noRegs (s.elapse dt) (ended s dt ((begun s dt).reply status)) :=
  ⟨by rw [ended_out]; rfl, ((onlyChanges_begun s dt).emit _).ended_quiet hquiet⟩

/-- Events that enter do not move a check context (R379). -/
theorem ended_crc (s u : State) (dt : Nat) {n sub : Nat} (hn : 4 ≤ n ∧ n < 8) (hsub : sub < 1024) :
    (ended s dt u).reg ⟨0xA100 + n, sub⟩ = u.reg ⟨0xA100 + n, sub⟩ :=
  ended_reg _ _ _ _ hsub (by simp [drumRegs]; omega)

/-! The running value -/

/-- CRC_RUNNING is no parameter of the check. -/
theorem State.crcParams_setRunningReg (s : State) (n v : Nat) : (s.setReg (.CRC_RUNNING n) v).crcParams n = s.crcParams n := by
  have hkept : ∀ sub, sub < 9 → (s.setReg (.CRC_RUNNING n) v).reg ⟨0xA100 + n, sub⟩ = s.reg ⟨0xA100 + n, sub⟩ := fun sub hsub =>
    s.reg_setReg_sub v (by decide) (by omega) (by omega)
  simp only [State.crcParams, State.flag, Reg.CRC_WIDTH, Reg.CRC_POLY, Reg.CRC_INIT, Reg.CRC_REFLECT_IN, Reg.CRC_REFLECT_OUT, Reg.CRC_INVERT]
  rw [hkept 2 (by decide), hkept 3 (by decide), hkept 4 (by decide), hkept 5 (by decide), hkept 6 (by decide), hkept 7 (by decide)]

theorem State.setRunning_result {s : State} {n : Nat} (hn : 4 ≤ n ∧ n < 8) (v : Nat) :
    (s.setRunning n v).reg (.CRC_RESULT n) = crcResult (s.crcParams n) v % 2 ^ 64 := by
  obtain ⟨-, -, -, -, -, -, -, hbits, -⟩ := crcEntry_bits hn
  rw [State.setRunning, State.reg_setReg_same _ _ _ (by rw [hbits]; decide), hbits, State.crcParams_setRunningReg]

theorem State.setRunning_running {s : State} {n : Nat} (hn : 4 ≤ n ∧ n < 8) (v : Nat) : (s.setRunning n v).reg (.CRC_RUNNING n) = v % 2 ^ 64 := by
  obtain ⟨-, -, -, -, -, -, hbits, -⟩ := crcEntry_bits hn
  calc (s.setRunning n v).reg (.CRC_RUNNING n)
    _ = (s.setReg (.CRC_RUNNING n) v).reg (.CRC_RUNNING n) := State.reg_setReg_sub _ _ (by decide) (by decide) (by decide)
    _ = v % 2 ^ 64 := by rw [State.reg_setReg_same _ _ _ (by rw [hbits]; decide), hbits]

theorem State.setRunning_other (s : State) {n sub : Nat} (v : Nat) (hsub : sub < 1024) (hrunning : sub ≠ 9) (hresult : sub ≠ 11) :
    (s.setRunning n v).reg ⟨0xA100 + n, sub⟩ = s.reg ⟨0xA100 + n, sub⟩ :=
  (State.reg_setReg_sub _ _ (by decide) hsub hresult).trans (State.reg_setReg_sub _ _ (by decide) hsub hrunning)

theorem OnlyChanges.setRunning {parts : List Part} {regs : Reg → Bool} {s t : State} (h : OnlyChanges parts regs s t) (n v : Nat)
    (hrunning : regs (.CRC_RUNNING n) = true) (hresult : regs (.CRC_RESULT n) = true) : OnlyChanges parts regs s (t.setRunning n v) :=
  (h.setReg (.CRC_RUNNING n) _ (Nat.le_of_ble_eq_true rfl) hrunning).setReg (.CRC_RESULT n) _ (Nat.le_of_ble_eq_true rfl) hresult

/-! A check that starts again (R367, R370) -/

@[simp] theorem State.modCrcContext_reg (s : State) (n : Nat) (f : CrcContext → CrcContext) (r : Reg) : (s.modCrcContext n f).reg r = s.reg r := rfl

theorem State.crcRestart_running {s : State} {n : Nat} (hn : 4 ≤ n ∧ n < 8) :
    (s.crcRestart n).reg (.CRC_RUNNING n) = s.reg (.CRC_INIT n) % 2 ^ 64 := by
  rw [State.crcRestart, State.modCrcContext_reg]
  exact (State.reg_setReg_sub _ _ (by decide) (by decide) (by decide)).trans (State.setRunning_running hn _)

theorem State.crcRestart_octets {s : State} {n : Nat} (hn : 4 ≤ n ∧ n < 8) : (s.crcRestart n).reg (.CRC_OCTETS n) = 0 := by
  obtain ⟨-, -, -, -, -, -, -, -, hbits, -⟩ := crcEntry_bits hn
  rw [State.crcRestart, State.modCrcContext_reg, State.reg_setReg_same _ _ _ (by rw [hbits]; decide), Nat.zero_mod]

/-- The parameters of a check stay as they are when it starts again. -/
theorem State.crcRestart_parameter (s : State) {n sub : Nat} (hsub : sub < 9) :
    (s.crcRestart n).reg ⟨0xA100 + n, sub⟩ = s.reg ⟨0xA100 + n, sub⟩ := by
  rw [State.crcRestart, State.modCrcContext_reg]
  exact (State.reg_setReg_sub _ _ (by decide) (by omega) (by omega)).trans (State.setRunning_other _ _ (by omega) (by omega) (by omega))

theorem OnlyChanges.crcRestart {s t : State} {n : Nat} (h : OnlyChanges [.ocu] (entries [0xA100 + n]) s t) :
    OnlyChanges [.ocu] (entries [0xA100 + n]) s (t.crcRestart n) :=
  ((h.setRunning n _ (by simp [entries, Reg.CRC_RUNNING]) (by simp [entries, Reg.CRC_RESULT])).setCrc 12 0 (by decide)).modCrcContext n _ (by decide)

/-- What the command leaves whose effect made u and started the check of context n again. -/
structure CheckRestarted (n : Nat) (s u t : State) : Prop where
  running : t.reg (.CRC_RUNNING n) = u.reg (.CRC_INIT n) % 2 ^ 64
  octets : t.reg (.CRC_OCTETS n) = 0
  parameters : ∀ sub, sub < 9 → t.reg ⟨0xA100 + n, sub⟩ = u.reg ⟨0xA100 + n, sub⟩
  alive : (t.crcContext n).lastAlive = none
  out : t.out = [.reply 0]
  changes : OnlyChanges [.ocu] (entries [0xA100 + n]) s t

/-- The alive monitor is as before its first write. -/
theorem State.crcRestart_alive {s : State} {n : Nat} (h : n < s.ocu.contexts.length) : ((s.crcRestart n).crcContext n).lastAlive = none := by
  have hlength : n < ((s.setRunning n (s.reg (.CRC_INIT n))).setReg (.CRC_OCTETS n) 0).ocu.contexts.length := by
    rwa [State.setReg_ocu, State.setRunning_ocu]
  rw [State.crcRestart, State.crcContext_modCrcContext _ hlength]

theorem checkRestarted_ended {s u : State} {dt n : Nat} (hn : 4 ≤ n ∧ n < 8) (hcontexts : n < u.ocu.contexts.length) (hquiet : Quiet u)
    (hout : u.out = []) (hchanges : OnlyChanges [.ocu] (entries [0xA100 + n]) (s.elapse dt) u) :
    CheckRestarted n (s.elapse dt) u (ended s dt ((u.crcRestart n).reply 0)) := by
  refine ⟨?_, ?_, fun sub hsub => ?_, ?_, ?_, ?_⟩
  · exact (ended_crc _ _ _ hn (by decide)).trans (State.crcRestart_running hn)
  · exact (ended_crc _ _ _ hn (by decide)).trans (State.crcRestart_octets hn)
  · exact (ended_crc _ _ _ hn (by omega)).trans (u.crcRestart_parameter hsub)
  · rw [ended_crcContext]; exact State.crcRestart_alive hcontexts
  · rw [ended_out, State.reply_out, State.crcRestart_out, hout]; rfl
  · exact (hchanges.crcRestart.emit _).ended_quiet (by simpa [Quiet] using hquiet)

end Sys2Proof.Machine

namespace Sys2Proof.Machine

theorem exec_ocuEnableWrite (dt who value : Nat) (s : State) : exec (.ocuEnableWrite dt who value) s = execOcuEnableWrite dt who value s := rfl
theorem exec_crcClaim (dt who n value : Nat) (s : State) : exec (.crcClaim dt who n value) s = execCrcClaim dt who n value s := rfl
theorem exec_crcPreset (dt who n value : Nat) (s : State) : exec (.crcPreset dt who n value) s = execCrcPreset dt who n value s := rfl
theorem exec_crcParameterWrite (dt who n sub value : Nat) (s : State) :
    exec (.crcParameterWrite dt who n sub value) s = execCrcParameterWrite dt who n sub value s := rfl
theorem exec_crcRunningWrite (dt who n value : Nat) (s : State) : exec (.crcRunningWrite dt who n value) s = execCrcRunningWrite dt who n value s := rfl
theorem exec_crcFeed (dt who n : Nat) (octets : List Octet) (s : State) : exec (.crcFeed dt who n octets) s = execCrcFeed dt who n octets s := rfl
theorem exec_crcAliveIn (dt who n value : Nat) (s : State) : exec (.crcAliveIn dt who n value) s = execCrcAliveIn dt who n value s := rfl

@[simp] theorem begun_ocu (s : State) (dt : Nat) : (begun s dt).ocu = s.ocu := rfl
@[simp] theorem begun_crcContext (s : State) (dt n : Nat) : (begun s dt).crcContext n = s.crcContext n := rfl

/-! The operations on a context, case by case -/

/-- A claim of a context that no other session holds. -/
theorem State.crcClaim_of_free {s : State} {who n value : Nat} (hn : 4 ≤ n ∧ n < 8) (hwho : 1 ≤ s.levelOf who) (hvalue : value ≤ 1)
    (hfree : (s.crcContext n).holder.any (· != who) = false) :
    s.crcClaim who n value = (s.modCrcContext n fun c => if value = 1 then
      { holder := some who, lastAlive := if (s.crcContext n).holder = some who then c.lastAlive else none }
      else { c with holder := none }).reply 0 := by
  rw [State.crcClaim, if_neg (by omega), if_neg (by omega), if_neg (by omega), if_neg (by omega)]
  simp only [hfree, Bool.false_eq_true, if_false]
  split <;> rfl

theorem State.crcClaim_of_held {s : State} {who n h value : Nat} (hn : 4 ≤ n ∧ n < 8) (hwho : 1 ≤ s.levelOf who) (hvalue : value ≤ 1)
    (hheld : (s.crcContext n).holder = some h) (hother : h ≠ who) : s.crcClaim who n value = s.reply 8 := by
  rw [State.crcClaim, if_neg (by omega), if_neg (by omega), if_neg (by omega), if_neg (by omega), hheld]
  exact if_pos (by simpa using hother)

/-- The parameters of a standard set put into a context (R368). -/
def State.loadCheck (s : State) (n : Nat) (p : CrcParams) : State :=
  (((((s.setReg (.CRC_WIDTH n) p.width).setReg (.CRC_POLY n) p.poly).setReg (.CRC_INIT n) p.init).setReg (.CRC_REFLECT_IN n)
    (b2n p.reflectIn)).setReg (.CRC_REFLECT_OUT n) (b2n p.reflectOut)).setReg (.CRC_INVERT n) (b2n p.invert)

theorem State.crcPresetWrite_of_some {s : State} {n value : Nat} {p : CrcParams} (h : crcPreset value = some p) :
    s.crcPresetWrite n value = ((s.loadCheck n p).crcRestart n).reply 0 := by
  rw [State.crcPresetWrite, h]; rfl

theorem State.crcPresetWrite_of_none {s : State} {n value : Nat} (h : crcPreset value = none) : s.crcPresetWrite n value = s.reply 8 := by
  rw [State.crcPresetWrite, h]

@[simp] theorem State.loadCheck_drum (s : State) (n : Nat) (p : CrcParams) : (s.loadCheck n p).drum = s.drum := by simp [State.loadCheck]
@[simp] theorem State.loadCheck_ocu (s : State) (n : Nat) (p : CrcParams) : (s.loadCheck n p).ocu = s.ocu := by simp [State.loadCheck]
@[simp] theorem State.loadCheck_out (s : State) (n : Nat) (p : CrcParams) : (s.loadCheck n p).out = s.out := by simp [State.loadCheck]

theorem OnlyChanges.loadCheck {parts : List Part} {s t : State} {n : Nat} (h : OnlyChanges parts (entries [0xA100 + n]) s t) (p : CrcParams) :
    OnlyChanges parts (entries [0xA100 + n]) s (t.loadCheck n p) :=
  (((((h.setCrc 2 _ (by decide)).setCrc 3 _ (by decide)).setCrc 4 _ (by decide)).setCrc 5 _ (by decide)).setCrc 6 _ (by decide)).setCrc 7 _
    (by decide)

theorem b2n_mod_two (b : Bool) : b2n b % 2 ^ 1 = b2n b := by cases b <;> rfl

/-- What the elements of a context read once a set is loaded into it. -/
theorem State.loadCheck_reg {s : State} {n : Nat} {p : CrcParams} (hn : 4 ≤ n ∧ n < 8) (hwidth : p.width < 2 ^ 8) (hpoly : p.poly < 2 ^ 64)
    (hinit : p.init < 2 ^ 64) :
    (s.loadCheck n p).reg (.CRC_WIDTH n) = p.width ∧ (s.loadCheck n p).reg (.CRC_POLY n) = p.poly ∧ (s.loadCheck n p).reg (.CRC_INIT n) = p.init ∧
      (s.loadCheck n p).reg (.CRC_REFLECT_IN n) = b2n p.reflectIn ∧ (s.loadCheck n p).reg (.CRC_REFLECT_OUT n) = b2n p.reflectOut ∧
      (s.loadCheck n p).reg (.CRC_INVERT n) = b2n p.invert := by
  have hkept : ∀ (t : State) (a b v : Nat), a < 8 → b < a → (t.setReg ⟨0xA100 + n, a⟩ v).reg ⟨0xA100 + n, b⟩ = t.reg ⟨0xA100 + n, b⟩ :=
    fun t a b v ha hb => t.reg_setReg_sub v (by omega) (by omega) (by omega)
  obtain ⟨hbWidth, hbPoly, hbInit, hbIn, hbOut, hbInvert, -⟩ := crcEntry_bits hn
  simp only [State.loadCheck, Reg.CRC_WIDTH, Reg.CRC_POLY, Reg.CRC_INIT, Reg.CRC_REFLECT_IN, Reg.CRC_REFLECT_OUT, Reg.CRC_INVERT] at *
  simp (disch := simp [hbWidth, hbPoly, hbInit, hbIn, hbOut, hbInvert]) only [hkept, State.reg_setReg_same]
  simp only [hbWidth, hbPoly, hbInit, hbIn, hbOut, hbInvert, b2n_mod_two, Nat.mod_eq_of_lt hwidth, Nat.mod_eq_of_lt hpoly, Nat.mod_eq_of_lt hinit,
    and_self]

/-- A parameter write is refused, or sets some parameters and starts the check again (R367). -/
theorem State.crcParameter_cases (s : State) (n sub value : Nat) :
    (∃ status, status ≠ 0 ∧ s.crcParameter n sub value = s.reply status) ∨
      ∃ u : State, u.ocu = s.ocu ∧ s.crcParameter n sub value = (u.crcRestart n).reply 0 := by
  simp only [State.crcParameter]
  split
  · exact .inl ⟨3, by decide, rfl⟩
  · split
    · split
      · exact .inl ⟨8, by decide, rfl⟩
      · exact .inr ⟨_, by simp, rfl⟩
    · split
      · split
        · exact .inl ⟨8, by decide, rfl⟩
        · exact .inr ⟨_, by simp, rfl⟩
      · split
        · exact .inl ⟨8, by decide, rfl⟩
        · exact .inr ⟨_, by simp, rfl⟩

end Sys2Proof.Machine

namespace Sys2Proof.Proofs

open Machine

/-! O32 -/

theorem ocuEnableWrite_switches (dt who value : Nat) (s : State) (hwho : 1 ≤ (s.elapse dt).levelOf who) (hvalue : value ≤ 1)
    (hnew : value ≠ s.reg .OCU_ENABLE) :
    Completes (.ocuEnableWrite dt who value) s fun s0 t => t.reg .OCU_ENABLE = value ∧ t.out = [.reply 0] ∧
      OnlyChanges [.ocu, .drum, .log] (andDrum (blocks [10])) s0 t := by
  obtain ⟨u, heffect, hchanges, hout⟩ := State.ocuEnable_moves (s := begun s dt) hvalue hnew
  refine completes_of_effect (dt := dt) (u := u.reply 0) rfl (exec_ocuEnableWrite ..) ?_ ⟨?_, ?_, ?_⟩
  · rw [State.asWriter_of_level (s := begun s dt) (l := 1) _ (by decide) hwho, heffect]
  · rw [ended_reg _ _ _ _ (by decide) (by decide), State.reply_reg, hchanges.2 _ (by decide) (by decide),
      State.reg_setReg_same _ _ _ (by decide)]
    exact Nat.mod_eq_of_lt (Nat.lt_succ_of_le hvalue)
  · rw [ended_out, State.reply_out, hout, State.setReg_out]; rfl
  · have hmoves : OnlyChanges [.ocu, .drum, .log] (blocks [10]) ((begun s dt).setReg .OCU_ENABLE value) u :=
      hchanges.mono (by decide) fun r hr => (Bool.and_eq_true_iff.1 hr).1
    exact ((((onlyChanges_begun s dt).setReg .OCU_ENABLE value (by decide) (by decide)).trans hmoves).emit _).ended (by decide) (by decide)

/-- A claim or a release of a context that no other session holds. -/
theorem completes_of_crcClaim {dt who n value : Nat} {s : State} {claim : State → State → Prop} (hn : 4 ≤ n ∧ n < 8)
    (hwho : 1 ≤ (s.elapse dt).levelOf who) (hvalue : value ≤ 1) (hfree : (s.crcContext n).holder.any (· != who) = false)
    (hclaim : claim (s.elapse dt) (ended s dt (((begun s dt).modCrcContext n fun c => if value = 1 then
      { holder := some who, lastAlive := if (s.crcContext n).holder = some who then c.lastAlive else none }
      else { c with holder := none }).reply 0))) : Completes (.crcClaim dt who n value) s claim :=
  completes_of_effect (dt := dt) rfl (exec_crcClaim ..) (State.crcClaim_of_free (s := begun s dt) hn hwho hvalue hfree) hclaim

/-- A context that a command changed, the answer behind it. -/
theorem crcContext_ended (s : State) (dt : Nat) {n : Nat} (f : CrcContext → CrcContext) (h : n < s.ocu.contexts.length) :
    (ended s dt (((begun s dt).modCrcContext n f).reply 0)).crcContext n = f (s.crcContext n) := by
  rw [ended_crcContext]
  exact State.crcContext_modCrcContext (s := begun s dt) f h

theorem onlyChanges_crcContext {s : State} (dt n : Nat) (f : CrcContext → CrcContext) (hquiet : Quiet s) :
    OnlyChanges [.ocu] noRegs (s.elapse dt) (ended s dt (((begun s dt).modCrcContext n f).reply 0)) :=
  (((onlyChanges_begun s dt).modCrcContext n f (by decide)).emit _).ended_quiet hquiet

theorem crcClaim_takesContext (dt who n : Nat) (s : State) (hquiet : Quiet s) (hn : 4 ≤ n ∧ n < 8) (hwho : 1 ≤ (s.elapse dt).levelOf who)
    (hcontexts : s.ocu.contexts.length = 8) (hfree : (s.crcContext n).holder = none) :
    Completes (.crcClaim dt who n 1) s fun s0 t => t.crcContext n = ⟨some who, none⟩ ∧ t.out = [.reply 0] ∧ OnlyChanges [.ocu] noRegs s0 t := by
  refine completes_of_crcClaim hn hwho (by decide) (by rw [hfree]; rfl) ⟨?_, by rw [ended_out]; rfl, onlyChanges_crcContext dt n _ hquiet⟩
  rw [crcContext_ended _ _ _ (by omega), if_pos rfl, hfree, if_neg (by simp)]

theorem crcClaim_releasesContext (dt who n : Nat) (s : State) (hquiet : Quiet s) (hn : 4 ≤ n ∧ n < 8) (hwho : 1 ≤ (s.elapse dt).levelOf who)
    (hheld : (s.crcContext n).holder = some who) (hcontexts : s.ocu.contexts.length = 8) :
    Completes (.crcClaim dt who n 0) s fun s0 t => (t.crcContext n).holder = none ∧ t.out = [.reply 0] ∧ OnlyChanges [.ocu] noRegs s0 t := by
  refine completes_of_crcClaim hn hwho (by decide) (by simp [hheld]) ⟨?_, by rw [ended_out]; rfl, onlyChanges_crcContext dt n _ hquiet⟩
  rw [crcContext_ended _ _ _ (by omega), if_neg (by decide)]

theorem crcClaim_refuses (dt who n h value : Nat) (s : State) (hquiet : Quiet s) (hn : 4 ≤ n ∧ n < 8) (hwho : 1 ≤ (s.elapse dt).levelOf who)
    (hheld : (s.crcContext n).holder = some h) (hother : h ≠ who) (hvalue : value ≤ 1) :
    Completes (.crcClaim dt who n value) s fun s0 t => t.out = [.reply 8] ∧ OnlyChanges [] noRegs s0 t :=
  completes_of_effect (dt := dt) rfl (exec_crcClaim ..) (State.crcClaim_of_held (s := begun s dt) hn hwho hvalue hheld hother)
    (ended_reply hquiet 8)

/-- A width that the other parameters are cut to (R367). -/
theorem crcParameterWrite_setsWidth (dt who n value : Nat) (s : State) (hquiet : Quiet s) (hn : 4 ≤ n ∧ n < 8)
    (hwho : 1 ≤ (s.elapse dt).levelOf who) (hheld : (s.crcContext n).holder = some who) (hvalue : 8 ≤ value ∧ value ≤ 64)
    (hcontexts : s.ocu.contexts.length = 8) :
    Completes (.crcParameterWrite dt who n 2 value) s fun s0 t => t.reg (.CRC_WIDTH n) = value ∧
      t.reg (.CRC_POLY n) = s.reg (.CRC_POLY n) % 2 ^ value ∧ t.reg (.CRC_INIT n) = s.reg (.CRC_INIT n) % 2 ^ value ∧
      t.reg (.CRC_RUNNING n) = t.reg (.CRC_INIT n) ∧ t.reg (.CRC_OCTETS n) = 0 ∧ (t.crcContext n).lastAlive = none ∧ t.out = [.reply 0] ∧
      OnlyChanges [.ocu] (entries [0xA100 + n]) s0 t := by
  let u := (((begun s dt).setReg (.CRC_WIDTH n) value).setReg (.CRC_POLY n) (s.reg (.CRC_POLY n) % 2 ^ value)).setReg (.CRC_INIT n)
    (s.reg (.CRC_INIT n) % 2 ^ value)
  have hcut : ∀ x, x % 2 ^ value % 2 ^ 64 = x % 2 ^ value := fun x =>
    Nat.mod_eq_of_lt (Nat.lt_of_lt_of_le (Nat.mod_lt x (Nat.two_pow_pos _)) (Nat.pow_le_pow_right (by decide) hvalue.2))
  obtain ⟨hbWidth, hbPoly, hbInit, -⟩ := crcEntry_bits hn
  have hinit : u.reg (.CRC_INIT n) = s.reg (.CRC_INIT n) % 2 ^ value := by
    rw [State.reg_setReg_same _ _ _ (by rw [hbInit]; decide), hbInit, hcut]
  have hpoly : u.reg (.CRC_POLY n) = s.reg (.CRC_POLY n) % 2 ^ value := by
    refine (State.reg_setReg_sub _ _ (by decide) (by decide) (by decide)).trans ?_
    exact (State.reg_setReg_same _ (.CRC_POLY n) _ (by rw [hbPoly]; decide)).trans (by rw [hbPoly, hcut])
  have hwidth : u.reg (.CRC_WIDTH n) = value := by
    refine (State.reg_setReg_sub _ _ (by decide) (by decide) (by decide)).trans
      ((State.reg_setReg_sub _ _ (by decide) (by decide) (by decide)).trans ?_)
    exact (State.reg_setReg_same _ (.CRC_WIDTH n) _ (by rw [hbWidth]; decide)).trans (by rw [hbWidth]; exact Nat.mod_eq_of_lt (by omega))
  have heffect : (begun s dt).crcParameter n 2 value = (u.crcRestart n).reply 0 := by
    rw [State.crcParameter, if_neg (by decide), if_pos rfl, if_neg (by omega)]; rfl
  have hchanges : OnlyChanges [.ocu] (entries [0xA100 + n]) (s.elapse dt) u :=
    (((onlyChanges_begun s dt).setCrc 2 _ (by decide)).setCrc 3 _ (by decide)).setCrc 4 _ (by decide)
  have h := checkRestarted_ended (s := s) (dt := dt) (u := u) hn (by simp only [u, State.setReg_ocu, begun_ocu]; omega)
    (by simpa [u, Quiet] using hquiet) (by simp [u]) hchanges
  refine completes_of_crcWrite (dt := dt) rfl (exec_crcParameterWrite ..) hn hwho hheld ?_
  rw [heffect]
  refine ⟨(h.parameters 2 (by decide)).trans hwidth, (h.parameters 3 (by decide)).trans hpoly, (h.parameters 4 (by decide)).trans hinit, ?_,
    h.octets, h.alive, h.out, h.changes⟩
  rw [h.running, hinit, hcut]
  exact ((h.parameters 4 (by decide)).trans hinit).symm

theorem crcParameterWrite_setsPoly (dt who n value : Nat) (s : State) (hquiet : Quiet s) (hn : 4 ≤ n ∧ n < 8)
    (hwho : 1 ≤ (s.elapse dt).levelOf who) (hheld : (s.crcContext n).holder = some who) (hvalue : value < 2 ^ s.reg (.CRC_WIDTH n))
    (hfits : value < 2 ^ 64) (hinit : s.reg (.CRC_INIT n) < 2 ^ 64) (hcontexts : s.ocu.contexts.length = 8) :
    Completes (.crcParameterWrite dt who n 3 value) s fun s0 t => t.reg (.CRC_POLY n) = value ∧
      t.reg (.CRC_RUNNING n) = s.reg (.CRC_INIT n) ∧ t.reg (.CRC_OCTETS n) = 0 ∧ (t.crcContext n).lastAlive = none ∧ t.out = [.reply 0] ∧
      OnlyChanges [.ocu] (entries [0xA100 + n]) s0 t := by
  let u := (begun s dt).setReg (.CRC_POLY n) value
  obtain ⟨-, hbPoly, -⟩ := crcEntry_bits hn
  have hpoly : u.reg (.CRC_POLY n) = value := by
    rw [State.reg_setReg_same _ _ _ (by rw [hbPoly]; decide), hbPoly, Nat.mod_eq_of_lt hfits]
  have hkept : u.reg (.CRC_INIT n) = s.reg (.CRC_INIT n) := State.reg_setReg_sub _ _ (by decide) (by decide) (by decide)
  have heffect : (begun s dt).crcParameter n 3 value = (u.crcRestart n).reply 0 := by
    rw [State.crcParameter, if_neg (by decide), if_neg (by decide), if_pos (by decide), begun_reg, if_neg (Nat.not_le.2 hvalue)]; rfl
  have h := checkRestarted_ended (s := s) (dt := dt) (u := u) hn (by simp only [u, State.setReg_ocu, begun_ocu]; omega)
    (by simpa [u, Quiet] using hquiet) (by simp [u]) ((onlyChanges_begun s dt).setCrc 3 _ (by decide))
  refine completes_of_crcWrite (dt := dt) rfl (exec_crcParameterWrite ..) hn hwho hheld ?_
  rw [heffect]
  exact ⟨(h.parameters 3 (by decide)).trans hpoly, by rw [h.running, hkept, Nat.mod_eq_of_lt hinit], h.octets, h.alive, h.out, h.changes⟩

theorem crcRunningWrite_sets (dt who n value : Nat) (s : State) (hquiet : Quiet s) (hn : 4 ≤ n ∧ n < 8) (hwho : 1 ≤ (s.elapse dt).levelOf who)
    (hheld : (s.crcContext n).holder = some who) (hvalue : value < 2 ^ s.reg (.CRC_WIDTH n)) (hfits : value < 2 ^ 64) :
    Completes (.crcRunningWrite dt who n value) s fun s0 t => t.reg (.CRC_RUNNING n) = value ∧
      t.reg (.CRC_RESULT n) = crcResult (s.crcParams n) value % 2 ^ 64 ∧ t.out = [.reply 0] ∧
      OnlyChanges [] (among [.CRC_RUNNING n, .CRC_RESULT n]) s0 t := by
  refine completes_of_crcWrite (dt := dt) rfl (exec_crcRunningWrite ..) hn hwho hheld ?_
  rw [State.crcRunning, begun_reg, if_neg (Nat.not_le.2 hvalue)]
  refine ⟨?_, ?_, ?_, ?_⟩
  · exact (ended_crc _ _ _ hn (by decide)).trans ((State.setRunning_running hn _).trans (Nat.mod_eq_of_lt hfits))
  · exact (ended_crc _ _ _ hn (by decide)).trans (State.setRunning_result hn _)
  · rw [ended_out, State.reply_out, State.setRunning_out]; rfl
  · exact (((onlyChanges_begun s dt).setRunning n value (by simp [among]) (by simp [among])).emit _).ended_quiet (by simpa [Quiet] using hquiet)

theorem crcFeed_feeds (dt who n : Nat) (octets : List Octet) (s : State) (hquiet : Quiet s) (hn : 4 ≤ n ∧ n < 8)
    (hwho : 1 ≤ (s.elapse dt).levelOf who) (hheld : (s.crcContext n).holder = some who) (hoctets : octets ≠ [] ∧ octets.length ≤ 4096) :
    Completes (.crcFeed dt who n octets) s fun s0 t =>
      t.reg (.CRC_RUNNING n) = crcFeed (s.crcParams n) (s.reg (.CRC_RUNNING n)) octets % 2 ^ 64 ∧
      t.reg (.CRC_OCTETS n) = (s.reg (.CRC_OCTETS n) + octets.length) % 2 ^ 64 ∧ t.out = [.reply 0] ∧
      OnlyChanges [] (among [.CRC_RUNNING n, .CRC_RESULT n, .CRC_OCTETS n]) s0 t := by
  obtain ⟨hsome, hmost⟩ := hoctets
  obtain ⟨-, -, -, -, -, -, -, -, hbits, -⟩ := crcEntry_bits hn
  let v := crcFeed (s.crcParams n) (s.reg (.CRC_RUNNING n)) octets
  have heffect : (begun s dt).crcFeedWrite n octets = (((begun s dt).setRunning n v).bump (.CRC_OCTETS n) octets.length).reply 0 := by
    rw [State.crcFeedWrite, if_neg (not_or.2 ⟨hsome, Nat.not_lt.2 hmost⟩)]; rfl
  refine completes_of_crcWrite (dt := dt) rfl (exec_crcFeed ..) hn hwho hheld ?_
  rw [heffect]
  refine ⟨?_, ?_, ?_, ?_⟩
  · refine (ended_crc _ _ _ hn (by decide)).trans ?_
    exact (State.reg_setReg_sub _ _ (by decide) (by decide) (by decide)).trans (State.setRunning_running hn v)
  · refine (ended_crc _ _ _ hn (by decide)).trans ?_
    refine (State.reg_setReg_same _ (.CRC_OCTETS n) _ (by rw [hbits]; decide)).trans ?_
    have hkept : ((begun s dt).setRunning n v).reg (.CRC_OCTETS n) = s.reg (.CRC_OCTETS n) :=
      State.setRunning_other _ _ (by decide) (by decide) (by decide)
    rw [hkept, hbits]
  · rw [ended_out, State.reply_out, State.bump, State.setReg_out, State.setRunning_out]; rfl
  · refine OnlyChanges.ended_quiet ?_ (by simpa [Quiet, State.bump] using hquiet)
    exact (((onlyChanges_begun s dt).setRunning n v (by simp [among]) (by simp [among])).bump (.CRC_OCTETS n) _ (Nat.le_of_ble_eq_true rfl)
      (by simp [among])).emit _

/-- Settles O32, write by write: what a session that holds a context may do is an equation each, and a check that starts again is
`CheckRestarted`. -/
theorem checkContextsWork : Obligations.CheckContextsWork :=
  ⟨ocuEnableWrite_switches, crcClaim_takesContext, crcClaim_releasesContext, crcClaim_refuses, crcParameterWrite_setsWidth,
    crcParameterWrite_setsPoly, crcRunningWrite_sets, crcFeed_feeds⟩

/-! O33 -/

/-- The alive monitor judges the value by the last one (R370). -/
theorem crcAliveIn_judges (dt who n v : Nat) (s : State) (hquiet : Quiet s) (hn : 4 ≤ n ∧ n < 8) (hwho : 1 ≤ (s.elapse dt).levelOf who)
    (hheld : (s.crcContext n).holder = some who) (hv : v ≤ 255) (hcontexts : s.ocu.contexts.length = 8) :
    Completes (.crcAliveIn dt who n v) s fun s0 t => t.reg (.CRC_ALIVE_STATUS n) = aliveStatus (s.crcContext n).lastAlive v % 2 ^ 16 ∧
      t.crcContext n = ⟨some who, some v⟩ ∧ t.out = [.reply 0] ∧ OnlyChanges [.ocu] (among [.CRC_ALIVE_STATUS n]) s0 t := by
  obtain ⟨-, -, -, -, -, -, -, -, -, hbits⟩ := crcEntry_bits hn
  refine completes_of_crcWrite (dt := dt) rfl (exec_crcAliveIn ..) hn hwho hheld ?_
  rw [State.crcAlive, if_neg (Nat.not_lt.2 hv), begun_crcContext]
  refine ⟨?_, ?_, ?_, ?_⟩
  · refine (ended_crc _ _ _ hn (by decide)).trans ?_
    exact (State.reg_setReg_same _ (.CRC_ALIVE_STATUS n) _ (by rw [hbits]; decide)).trans (by rw [hbits])
  · rw [ended_crcContext]
    have hlength : n < ((begun s dt).setReg (.CRC_ALIVE_STATUS n) (aliveStatus (s.crcContext n).lastAlive v)).ocu.contexts.length := by
      rw [State.setReg_ocu, begun_ocu]; omega
    refine (State.crcContext_modCrcContext _ hlength).trans ?_
    rw [State.crcContext, State.setReg_ocu, begun_ocu, ← State.crcContext, ← hheld]
  · rw [ended_out, State.reply_out]
    exact congrArg (· ++ [.reply 0]) (State.setReg_out ..)
  · refine OnlyChanges.ended_quiet ?_ (by simpa [Quiet, State.modCrcContext] using hquiet)
    exact (((onlyChanges_begun s dt).setReg (.CRC_ALIVE_STATUS n) _ (Nat.le_of_ble_eq_true rfl) (by simp [among])).modCrcContext n _
      (by decide)).emit _

/-- The status of a value after a last one, spelt by equality (R370). -/
theorem aliveStatus_some {last v : Nat} (hv : v ≤ 255) (hlast : last ≤ 255) :
    aliveStatus (some last) v % 2 ^ 16 =
      if (v + 256 - last) % 256 = 1 then 1 else if v = last then 2 else 3 + (v + 255 - last) % 256 * 256 := by
  simp only [aliveStatus]
  split
  · rfl
  · by_cases heq : v = last
    · rw [if_pos (by omega), if_pos heq]; rfl
    · rw [if_neg (by omega), if_neg heq, Nat.mod_eq_of_lt (by omega)]
      omega

theorem crcAliveIn_first (dt who n v : Nat) (s : State) (hquiet : Quiet s) (hn : 4 ≤ n ∧ n < 8) (hwho : 1 ≤ (s.elapse dt).levelOf who)
    (hheld : (s.crcContext n).holder = some who) (hv : v ≤ 255) (hcontexts : s.ocu.contexts.length = 8)
    (hfirst : (s.crcContext n).lastAlive = none) :
    Completes (.crcAliveIn dt who n v) s fun s0 t => t.reg (.CRC_ALIVE_STATUS n) = 0 ∧ t.crcContext n = ⟨some who, some v⟩ ∧
      t.out = [.reply 0] ∧ OnlyChanges [.ocu] (among [.CRC_ALIVE_STATUS n]) s0 t := by
  have h := crcAliveIn_judges dt who n v s hquiet hn hwho hheld hv hcontexts
  rw [hfirst] at h
  exact h

theorem crcAliveIn_later (dt who n v last : Nat) (s : State) (hquiet : Quiet s) (hn : 4 ≤ n ∧ n < 8) (hwho : 1 ≤ (s.elapse dt).levelOf who)
    (hheld : (s.crcContext n).holder = some who) (hvalues : v ≤ 255 ∧ last ≤ 255) (hcontexts : s.ocu.contexts.length = 8)
    (hlater : (s.crcContext n).lastAlive = some last) :
    Completes (.crcAliveIn dt who n v) s fun s0 t =>
      t.reg (.CRC_ALIVE_STATUS n) =
        (if (v + 256 - last) % 256 = 1 then 1 else if v = last then 2 else 3 + (v + 255 - last) % 256 * 256) ∧
      t.crcContext n = ⟨some who, some v⟩ ∧ t.out = [.reply 0] ∧ OnlyChanges [.ocu] (among [.CRC_ALIVE_STATUS n]) s0 t := by
  have h := crcAliveIn_judges dt who n v s hquiet hn hwho hheld hvalues.1 hcontexts
  rw [hlater, aliveStatus_some hvalues.1 hvalues.2] at h
  exact h

theorem reset_lastAlive : ∀ n < 8, (State.reset.crcContext n).lastAlive = none := by decide

theorem crcClaim_forgetsAlive (dt who n _value : Nat) (s : State) (hn : 4 ≤ n ∧ n < 8) (hwho : 1 ≤ (s.elapse dt).levelOf who)
    (hfree : (s.crcContext n).holder = none) (hcontexts : s.ocu.contexts.length = 8) :
    Completes (.crcClaim dt who n 1) s fun _ t => (t.crcContext n).lastAlive = none := by
  refine completes_of_crcClaim hn hwho (by decide) (by rw [hfree]; rfl) ?_
  rw [crcContext_ended _ _ _ (by omega), if_pos rfl, hfree, if_neg (by simp)]

/-- A write that is taken starts the check again. -/
theorem crcParameterWrite_forgetsAlive (dt who n sub value : Nat) (s : State) (hn : 4 ≤ n ∧ n < 8) (hwho : 1 ≤ (s.elapse dt).levelOf who)
    (hheld : (s.crcContext n).holder = some who) (hcontexts : s.ocu.contexts.length = 8) :
    Completes (.crcParameterWrite dt who n sub value) s fun _ t => t.out = [.reply 0] → (t.crcContext n).lastAlive = none := by
  refine completes_of_crcWrite (dt := dt) rfl (exec_crcParameterWrite ..) hn hwho hheld fun hout => ?_
  rw [ended_out] at hout
  rw [ended_crcContext]
  obtain ⟨status, hstatus, heffect⟩ | ⟨u, hocu, heffect⟩ := (begun s dt).crcParameter_cases n sub value
  · rw [heffect, State.reply_out, begun_out] at hout
    exact absurd (by simpa using hout) hstatus
  · rw [heffect]
    exact State.crcRestart_alive (by rw [hocu, begun_ocu]; omega)

theorem crcPreset_forgetsAlive (dt who n value : Nat) (s : State) (hn : 4 ≤ n ∧ n < 8) (hwho : 1 ≤ (s.elapse dt).levelOf who)
    (hheld : (s.crcContext n).holder = some who) (hcontexts : s.ocu.contexts.length = 8) :
    Completes (.crcPreset dt who n value) s fun _ t => t.out = [.reply 0] → (t.crcContext n).lastAlive = none := by
  refine completes_of_crcWrite (dt := dt) rfl (exec_crcPreset ..) hn hwho hheld fun hout => ?_
  rw [ended_out] at hout
  rw [ended_crcContext]
  cases hset : crcPreset value with
  | none =>
    rw [State.crcPresetWrite_of_none hset, State.reply_out, begun_out] at hout
    exact absurd hout (by simp)
  | some p =>
    rw [State.crcPresetWrite_of_some hset]
    exact State.crcRestart_alive (by rw [State.loadCheck_ocu, begun_ocu]; omega)

/-- Settles O33: the status is that of the last value, and whatever starts the check again forgets it. -/
theorem aliveMonitorJudges : Obligations.AliveMonitorJudges :=
  ⟨crcAliveIn_first, crcAliveIn_later, reset_lastAlive, crcClaim_forgetsAlive, crcParameterWrite_forgetsAlive, crcPreset_forgetsAlive⟩

/-! O34 -/

/-- A standard set is loaded and the check starts again. -/
theorem crcPreset_loads {value : Nat} {p : CrcParams} (hset : crcPreset value = some p) (hwidth : p.width < 2 ^ 8) (hpoly : p.poly < 2 ^ 64)
    (hinit : p.init < 2 ^ 64) (dt who n : Nat) (s : State) (hquiet : Quiet s) (hn : 4 ≤ n ∧ n < 8) (hwho : 1 ≤ (s.elapse dt).levelOf who)
    (hheld : (s.crcContext n).holder = some who) (hcontexts : s.ocu.contexts.length = 8) :
    Completes (.crcPreset dt who n value) s fun s0 t => t.reg (.CRC_WIDTH n) = p.width ∧ t.reg (.CRC_POLY n) = p.poly ∧
      t.reg (.CRC_INIT n) = p.init ∧ t.reg (.CRC_REFLECT_IN n) = b2n p.reflectIn ∧ t.reg (.CRC_REFLECT_OUT n) = b2n p.reflectOut ∧
      t.reg (.CRC_INVERT n) = b2n p.invert ∧ t.reg (.CRC_RUNNING n) = p.init ∧ t.reg (.CRC_OCTETS n) = 0 ∧ t.out = [.reply 0] ∧
      OnlyChanges [.ocu] (entries [0xA100 + n]) s0 t := by
  obtain ⟨hW, hP, hI, hIn, hOut, hInv⟩ := State.loadCheck_reg (s := begun s dt) hn hwidth hpoly hinit
  have h := checkRestarted_ended (s := s) (dt := dt) (u := (begun s dt).loadCheck n p) hn (by rw [State.loadCheck_ocu, begun_ocu]; omega)
    (by simpa [Quiet] using hquiet) (by simp) ((onlyChanges_begun s dt).loadCheck p)
  refine completes_of_crcWrite (dt := dt) rfl (exec_crcPreset ..) hn hwho hheld ?_
  rw [State.crcPresetWrite_of_some hset]
  exact ⟨(h.parameters 2 (by decide)).trans hW, (h.parameters 3 (by decide)).trans hP, (h.parameters 4 (by decide)).trans hI,
    (h.parameters 5 (by decide)).trans hIn, (h.parameters 6 (by decide)).trans hOut, (h.parameters 7 (by decide)).trans hInv,
    by rw [h.running, hI, Nat.mod_eq_of_lt hinit], h.octets, h.out, h.changes⟩

theorem crcPreset_eq_none {value : Nat} (h : 5 ≤ value) : crcPreset value = none := by
  obtain ⟨k, rfl⟩ := Nat.exists_eq_add_of_le' h
  rfl

theorem crcPreset_refuses (dt who n value : Nat) (s : State) (hquiet : Quiet s) (hn : 4 ≤ n ∧ n < 8) (hwho : 1 ≤ (s.elapse dt).levelOf who)
    (hheld : (s.crcContext n).holder = some who) (hvalue : 5 ≤ value ∧ value ≤ 255) :
    Completes (.crcPreset dt who n value) s fun s0 t => t.out = [.reply 8] ∧ OnlyChanges [] noRegs s0 t := by
  refine completes_of_crcWrite (dt := dt) rfl (exec_crcPreset ..) hn hwho hheld ?_
  rw [State.crcPresetWrite_of_none (crcPreset_eq_none hvalue.1)]
  exact ended_reply hquiet 8

/-- The octets of "123456789". -/
def checkDigits : List Octet := [0x31, 0x32, 0x33, 0x34, 0x35, 0x36, 0x37, 0x38, 0x39]

/-- The standard sets give the check values of the table over "123456789" (R368). -/
theorem standardChecks_values :
    (crcPreset 0).map (fun p => crcOf p checkDigits) = some 0xDF ∧ (crcPreset 1).map (fun p => crcOf p checkDigits) = some 0x29B1 ∧
      (crcPreset 2).map (fun p => crcOf p checkDigits) = some 0xE3069283 ∧
      (crcPreset 3).map (fun p => crcOf p checkDigits) = some 0x995DC9BBDF1939FA ∧
      (crcPreset 4).map (fun p => crcOf p checkDigits) = some 0xCBF43926 := by decide +kernel

/-- Settles O34: the five sets are instances of one lemma about a set that is loaded. -/
theorem presetsLoadTheStandardChecks : Obligations.PresetsLoadTheStandardChecks :=
  ⟨crcPreset_loads (value := 0) rfl (by decide) (by decide) (by decide), crcPreset_loads (value := 1) rfl (by decide) (by decide) (by decide),
    crcPreset_loads (value := 2) rfl (by decide) (by decide) (by decide), crcPreset_loads (value := 3) rfl (by decide) (by decide) (by decide),
    crcPreset_loads (value := 4) rfl (by decide) (by decide) (by decide), crcPreset_refuses, standardChecks_values⟩

end Sys2Proof.Proofs

namespace Sys2Proof.Machine

/-! Words posted and words that enter alone (R372, R374) -/

theorem exec_eventPost (dt code prio : Nat) (args : List Nat) (s : State) : exec (.eventPost dt code prio args) s = execEventPost dt code prio args s :=
  rfl
theorem exec_drmPop (dt who : Nat) (s : State) : exec (.drmPop dt who) s = execDrmPop dt who s := rfl
theorem exec_drmPopBlock (dt who : Nat) (s : State) : exec (.drmPopBlock dt who) s = execDrmPopBlock dt who s := rfl
theorem exec_drmFlush (dt who value : Nat) (s : State) : exec (.drmFlush dt who value) s = execDrmFlush dt who value s := rfl
theorem exec_faultSummaryClear (dt who value : Nat) (s : State) : exec (.faultSummaryClear dt who value) s = execFaultSummaryClear dt who value s :=
  rfl

/-- The bounds of EVENT_POST: a code from 0x1000, a priority and one to four words (R375, R382). -/
theorem eventPost_inBounds {code prio n : Nat} {args : List Nat} (hcode : 0x1000 ≤ code ∧ code ≤ 0xFFFF) (hprio : prio ≤ 7)
    (hlength : args.length = n) (hn : 1 ≤ n ∧ n ≤ 4) : ¬(code < 0x1000 ∨ 0xFFFF < code ∨ 7 < prio ∨ args = [] ∨ 4 < args.length) := by
  have hsome : args ≠ [] := fun h => by rw [h] at hlength; simp at hlength; omega
  simp only [hsome, false_or]
  omega

/-- An item of any priority moves no element but the fault summary (R378). -/
theorem OnlyChanges.postWords {parts : List Part} {regs : Reg → Bool} {s t : State} (h : OnlyChanges parts regs s t) (w : DrumWord)
    (ws : List DrumWord) (hdrum : .drum ∈ parts) (hsummary : regs .DRM_FAULT_SUMMARY = true) :
    OnlyChanges parts regs s (t.postItem (w :: ws)) := by
  have hincoming : OnlyChanges parts regs s { t with drum := { t.drum with incoming := t.drum.incoming ++ [w :: ws] } } :=
    h.change rfl fun p hp => by
      cases p with
      | drum => exact absurd hdrum hp
      | _ => rfl
  rw [State.postItem]
  dsimp only
  split
  · exact hincoming.setBit .DRM_FAULT_SUMMARY _ true (by decide) hsummary
  · exact hincoming

/-- What a posted item may change, a command may. -/
theorem onlyChanges_posted {s : State} (dt : Nat) (w : DrumWord) (ws : List DrumWord) :
    OnlyChanges [.drum, .log] drumRegs (s.elapse dt) (ended s dt ((begun s dt).postItem (w :: ws))) :=
  (((onlyChanges_begun s dt).postWords w ws (by decide) (by decide)).ended (regs := drumRegs) (by decide) (by decide)).mono
    (List.Subset.refl _) fun r hr => by simpa [andDrum] using hr

theorem State.postItem_drum (s : State) (ws : List DrumWord) : (s.postItem ws).drum = { s.drum with incoming := s.drum.incoming ++ [ws] } := by
  unfold State.postItem
  cases ws with
  | nil => rfl
  | cons w ws =>
    dsimp only
    split
    · exact State.setReg_drum ..
    · rfl

/-- A word of an item posted alone is in the Drum when the command ends. -/
theorem ended_holds {s : State} {dt : Nat} {ws : List DrumWord} {w : DrumWord} (hquiet : Quiet s) (hw : w ∈ ws) (hfew : ws.length ≤ 4)
    (hmin : s.reg .DRM_MIN_PRIORITY ≤ w.priority) : w ∈ (ended s dt ((begun s dt).postItem ws)).drum.words := by
  have hincoming : ((begun s dt).postItem ws).drum.incoming = [ws] := by rw [State.postItem_drum, begun_drum, hquiet]; rfl
  have hkept : ((begun s dt).postItem ws).reg .DRM_MIN_PRIORITY = s.reg .DRM_MIN_PRIORITY := State.reg_postItem _ _ _ (by decide)
  exact State.settle_holds _ w (by simp [hincoming, hw]) (by simpa [hincoming] using hfew) (.inl (by rwa [hkept]))

/-- A word that enters alone and posts none of the counters' own. -/
theorem State.settle_single {s : State} {w : DrumWord} (hincoming : s.drum.incoming = [[w]])
    (hmore : (({ s with drum := { s.drum with incoming := [] } } : State).enterWord w).2 = []) :
    s.settle = (({ s with drum := { s.drum with incoming := [] } } : State).enterWord w).1 := by
  simp only [State.settle, hincoming, sortItems, List.foldl_cons, List.foldl_nil, insertItem, List.flatten_cons, List.flatten_nil, List.append_nil,
    State.enterWords, hmore]

/-- The state a word posted enters: nothing waits any more. -/
def State.entering (s : State) (w : DrumWord) : State :=
  { s.postItem [w] with drum := { (s.postItem [w]).drum with incoming := [] } }

theorem State.entering_drum {s : State} (w : DrumWord) (hquiet : Quiet s) : (s.entering w).drum = s.drum := by
  rw [State.entering, State.postItem_drum, ← hquiet]

theorem State.entering_reg (s : State) (w : DrumWord) {r : Reg} (h : r.key ≠ Reg.DRM_FAULT_SUMMARY.key) : (s.entering w).reg r = s.reg r :=
  State.reg_postItem s [w] r h

/-- A word below priority 7 that waited and waits no more leaves no trace. -/
theorem onlyChanges_entering {s : State} {w : DrumWord} (hquiet : Quiet s) (hw : w.priority ≠ 7) : OnlyChanges [] noRegs s (s.entering w) := by
  refine ⟨fun p _ => ?_, fun r _ _ => ?_⟩
  · cases p with
    | drum => exact State.entering_drum w hquiet
    | _ => simp [Part.same, State.entering]
  · show (s.postItem [w]).reg r = s.reg r
    simp only [State.postItem, hw, if_false]
    rfl

/-- What a command leaves that posts one word, of which the Drum's counters post none. -/
theorem ended_single {s : State} {dt : Nat} {w : DrumWord} (hquiet : Quiet s) (hmore : (((begun s dt).entering w).enterWord w).2 = []) :
    ended s dt ((begun s dt).postItem [w]) = ended s dt (((begun s dt).entering w).enterWord w).1 := by
  have hincoming : ((begun s dt).postItem [w]).drum.incoming = [[w]] := by rw [State.postItem_drum, begun_drum, hquiet]; rfl
  have hentered : Quiet (((begun s dt).entering w).enterWord w).1 := State.enterWord_incoming _ _
  rw [ended, State.settle_single hincoming hmore, ended, State.settle_quiet _ hentered]
  rfl

/-- Nothing enters for a command that posts nothing: the Drum and every element are as its effect made them. -/
theorem ended_of_quiet {s u : State} (dt : Nat) (h : Quiet u) : (ended s dt u).drum = u.drum ∧ ∀ r, (ended s dt u).reg r = u.reg r := by
  rw [ended, State.settle_quiet _ h]
  exact ⟨rfl, fun _ => rfl⟩

/-- A counter below bit 31 posts no word (R70). -/
theorem counterWord_below {r : Reg} {a b : Nat} (ha : a < 2 ^ 31) (hb : b < 2 ^ 31) : counterWord r a b = none := by
  have hbit : ∀ v, v < 2 ^ 31 → bitOf v 31 = false := fun v hv => by rw [bitOf, Nat.div_eq_of_lt hv]; rfl
  rw [counterWord, hbit a ha, hbit b hb, if_neg (by simp)]

theorem State.drumCount_below {s : State} {r : Reg} {n : Nat} (hbits : dictBits r = 32) (h : s.reg r + n < 2 ^ 31) :
    (s.drumCount r n).1.reg r = s.reg r + n ∧ (s.drumCount r n).2 = [] := by
  have hafter : (s.setReg r (s.reg r + n)).reg r = s.reg r + n := by
    rw [State.reg_setReg_same _ _ _ (by rw [hbits]; decide), hbits, Nat.mod_eq_of_lt (by omega)]
  refine ⟨hafter, ?_⟩
  rw [State.drumCount]
  dsimp only
  rw [hafter, counterWord_below (by omega) h]
  rfl

/-- The elements of the Drum's depth follow its words (R379); nothing else moves. -/
theorem OnlyChanges.setWords {parts : List Part} {regs : Reg → Bool} {s t : State} (h : OnlyChanges parts regs s t) (ws : List DrumWord)
    (hdrum : .drum ∈ parts) (hdepth : regs .DRM_DEPTH = true) (hmax : regs .DRM_DEPTH_MAX = true) : OnlyChanges parts regs s (t.setWords ws) := by
  have hwords : OnlyChanges parts regs s { t with drum := { t.drum with words := ws } } :=
    h.change rfl fun p hp => by
      cases p with
      | drum => exact absurd hdrum hp
      | _ => rfl
  have hshown := hwords.setReg .DRM_DEPTH ws.length (by decide) hdepth
  rw [State.setWords]
  dsimp only
  split
  · exact hshown.setReg .DRM_DEPTH_MAX _ (by decide) hmax
  · exact hshown

/-- A word logged or not moves nothing but the log. -/
theorem onlyChanges_logWord (s : State) (w : DrumWord) : OnlyChanges [.log] noRegs s (s.logWord w) := by
  refine ⟨fun p hp => ?_, fun r _ _ => s.logWord_reg w r⟩
  cases p with
  | log => exact absurd (by decide) hp
  | _ => simp [Part.same]

/-- A word the Drum filters is counted and enters nowhere (R372). -/
theorem State.enterWord_of_filtered {s : State} {w : DrumWord} (hlow : w.priority < s.reg .DRM_MIN_PRIORITY) (hprio : w.priority ≠ 7) :
    s.enterWord w = (s.logWord w).drumCount .DRM_FILTERED 1 := by
  rw [State.enterWord]
  exact if_pos ⟨by rwa [State.logWord_reg], hprio⟩

/-- A word that enters a full Drum takes the place of the oldest, and the loss is counted (R374). -/
theorem State.enterWord_of_full {s : State} {w old : DrumWord} {rest : List DrumWord} (hmin : s.reg .DRM_MIN_PRIORITY ≤ w.priority)
    (hwords : s.drum.words = old :: rest) (hfull : rest.length = 63) :
    s.enterWord w =
      ((((((s.logWord w).setWords (rest ++ [w])).drumCount .DRM_LOST 1).1).drumCount (.DRM_LOST_PRIO (old.priority + 1)) 1).1,
        (((s.logWord w).setWords (rest ++ [w])).drumCount .DRM_LOST 1).2 ++
          ((((s.logWord w).setWords (rest ++ [w])).drumCount .DRM_LOST 1).1.drumCount (.DRM_LOST_PRIO (old.priority + 1)) 1).2) := by
  have hin : ¬(w.priority < (s.logWord w).reg .DRM_MIN_PRIORITY ∧ w.priority ≠ 7) := by rw [State.logWord_reg]; omega
  rw [State.enterWord]
  dsimp only
  rw [if_neg hin, State.logWord_drum, hwords]
  exact if_pos (by simp [hfull])

/-- Another element of the Drum keeps its value while the words are set. -/
theorem State.setWords_reg_of_ne (s : State) (ws : List DrumWord) {r : Reg} (hdepth : r.key ≠ Reg.DRM_DEPTH.key) (hmax : r.key ≠ Reg.DRM_DEPTH_MAX.key) :
    (s.setWords ws).reg r = s.reg r := by
  rw [State.setWords]
  dsimp only
  split
  · rw [State.reg_setReg_key _ _ _ _ hmax, State.reg_setReg_key _ _ _ _ hdepth]; rfl
  · rw [State.reg_setReg_key _ _ _ _ hdepth]; rfl

/-- DRM_DEPTH follows the words held (R379). -/
theorem State.setWords_depth (s : State) (ws : List DrumWord) :
    (s.setWords ws).reg .DRM_DEPTH = ws.length % 2 ^ dictBits .DRM_DEPTH := by
  rw [State.setWords]
  dsimp only
  split
  · rw [State.reg_setReg_key _ _ _ _ (by decide), State.reg_setReg_same _ _ _ (by decide)]
  · exact State.reg_setReg_same _ _ _ (by decide)

/-- DRM_LOST_PRIO has an element for each priority 0 to 7 (R374). -/
theorem lostPrio_bits {k : Nat} (hk : k ≤ 7) : dictBits (.DRM_LOST_PRIO (k + 1)) = 32 := by
  interval_cases k <;> decide

theorem lostPrio_key {k : Nat} (hk : k ≤ 7) {r : Reg} (hr : r.key < Reg.key ⟨0xA208, 0⟩ ∨ Reg.key ⟨0xA208, 1023⟩ < r.key) :
    (Reg.DRM_LOST_PRIO (k + 1)).key ≠ r.key := by
  simp only [Reg.key, Reg.DRM_LOST_PRIO] at hr ⊢
  omega

/-- What a full Drum is after a word has entered, its counters of lost words below bit 31 (R374). -/
theorem State.enterWord_overwrites {s : State} {w old : DrumWord} {rest : List DrumWord} (hmin : s.reg .DRM_MIN_PRIORITY ≤ w.priority)
    (hwords : s.drum.words = old :: rest) (hfull : rest.length = 63) (hold : old.priority ≤ 7) (hlost : s.reg .DRM_LOST < 2 ^ 31 - 1)
    (hlostPrio : s.reg (.DRM_LOST_PRIO (old.priority + 1)) < 2 ^ 31 - 1) :
    (s.enterWord w).2 = [] ∧ (s.enterWord w).1.drum = { s.drum with words := rest ++ [w] } ∧
      (s.enterWord w).1.reg .DRM_LOST = s.reg .DRM_LOST + 1 ∧
      (s.enterWord w).1.reg (.DRM_LOST_PRIO (old.priority + 1)) = s.reg (.DRM_LOST_PRIO (old.priority + 1)) + 1 := by
  let entered := (s.logWord w).setWords (rest ++ [w])
  let counted := (entered.drumCount .DRM_LOST 1).1
  have hbefore : ∀ r : Reg, r.key ≠ Reg.DRM_DEPTH.key → r.key ≠ Reg.DRM_DEPTH_MAX.key → entered.reg r = s.reg r := fun r hdepth hmax => by
    rw [State.setWords_reg_of_ne _ _ hdepth hmax, State.logWord_reg]
  have hlostBefore : entered.reg .DRM_LOST = s.reg .DRM_LOST := hbefore _ (by decide) (by decide)
  have hprioBefore : counted.reg (.DRM_LOST_PRIO (old.priority + 1)) = s.reg (.DRM_LOST_PRIO (old.priority + 1)) :=
    (State.reg_setReg_key _ _ _ _ (lostPrio_key hold (.inl (by decide)))).trans
      (hbefore _ (lostPrio_key hold (.inl (by decide))) (lostPrio_key hold (.inl (by decide))))
  obtain ⟨hlostAfter, hmoreLost⟩ := entered.drumCount_below (r := .DRM_LOST) (n := 1) (by decide) (by omega)
  obtain ⟨hprioAfter, hmorePrio⟩ := counted.drumCount_below (r := .DRM_LOST_PRIO (old.priority + 1)) (n := 1) (lostPrio_bits hold) (by omega)
  have hkept : (counted.drumCount (.DRM_LOST_PRIO (old.priority + 1)) 1).1.reg .DRM_LOST = counted.reg .DRM_LOST :=
    State.reg_setReg_key _ _ _ _ (lostPrio_key hold (.inl (by decide))).symm
  rw [State.enterWord_of_full hmin hwords hfull]
  refine ⟨?_, ?_, hkept.trans (hlostAfter.trans (congrArg (· + 1) hlostBefore)), hprioAfter.trans (congrArg (· + 1) hprioBefore)⟩
  · exact congrArg₂ (· ++ ·) hmoreLost hmorePrio
  · rw [State.drumCount_drum, State.drumCount_drum, State.setWords_drum, State.logWord_drum]

/-! The word that is popped (R373) -/

/-- The best of the words seen, as popPlace carries it: priority and place. -/
def betterPlace (best : Option (Nat × Nat)) (p : DrumWord × Nat) : Option (Nat × Nat) :=
  match best with
  | none => some (p.1.priority, p.2)
  | some b => if b.1 < p.1.priority then some (p.1.priority, p.2) else best

theorem popPlace_eq (ws : List DrumWord) : popPlace ws = (ws.zipIdx.foldl betterPlace none).map (·.2) := rfl

/-- A word with its place is the one to pop: of the highest priority, and the oldest of its equals. -/
def FirstOfHighest (ws : List DrumWord) (p : DrumWord × Nat) : Prop :=
  p ∈ ws.zipIdx ∧ ∀ q ∈ ws.zipIdx, q.1.priority ≤ p.1.priority ∧ (q.1.priority = p.1.priority → p.2 ≤ q.2)

theorem betterPlace_finds (ws : List DrumWord) (hne : ws ≠ []) :
    ∃ p, FirstOfHighest ws p ∧ ws.zipIdx.foldl betterPlace none = some (p.1.priority, p.2) := by
  induction ws using List.reverseRecOn with
  | nil => exact absurd rfl hne
  | append_singleton ws w ih =>
    have hzip : (ws ++ [w]).zipIdx = ws.zipIdx ++ [(w, ws.length)] := by simp [List.zipIdx_append]
    have hplace : ∀ q ∈ ws.zipIdx, q.2 < ws.length := fun q hq => by
      obtain ⟨a, i⟩ := q
      exact (List.mem_zipIdx' hq).1
    unfold FirstOfHighest
    rw [hzip, List.foldl_append]
    rcases eq_or_ne ws [] with rfl | hws
    · exact ⟨(w, 0), by simp, rfl⟩
    · obtain ⟨p, ⟨hmem, hbest⟩, hfold⟩ := ih hws
      rw [hfold]
      by_cases hless : p.1.priority < w.priority
      · refine ⟨(w, ws.length), ⟨by simp, fun q hq => ?_⟩, if_pos hless⟩
        rcases List.mem_append.1 hq with hq | hq
        · have hq' := (hbest q hq).1
          exact ⟨by simp only; omega, fun h => by simp only at h; omega⟩
        · obtain rfl := List.mem_singleton.1 hq
          exact ⟨Nat.le_refl _, fun _ => Nat.le_refl _⟩
      · refine ⟨p, ⟨List.mem_append_left _ hmem, fun q hq => ?_⟩, if_neg hless⟩
        rcases List.mem_append.1 hq with hq | hq
        · exact hbest q hq
        · obtain rfl := List.mem_singleton.1 hq
          exact ⟨Nat.not_lt.1 hless, fun _ => (hplace p hmem).le⟩

/-- A pop takes the first of the words of the highest priority. -/
theorem popWord_of_ne_nil {ws : List DrumWord} (hne : ws ≠ []) : ∃ p, FirstOfHighest ws p ∧ popWord ws = (some p.1, ws.eraseIdx p.2) := by
  obtain ⟨p, hfirst, hfold⟩ := betterPlace_finds ws hne
  refine ⟨p, hfirst, ?_⟩
  have hplace : popPlace ws = some p.2 := by rw [popPlace_eq, hfold]; rfl
  rw [popWord, hplace]
  exact congrArg (·, ws.eraseIdx p.2) (List.mk_mem_zipIdx_iff_getElem?.1 hfirst.1)

theorem popWord_nil : popWord [] = (none, []) := rfl

/-- Pops enough to empty the Drum return every word (R373). -/
theorem popWords_of_le {n : Nat} {ws : List DrumWord} (h : ws.length ≤ n) : (popWords n ws).1.length = ws.length ∧ (popWords n ws).2 = [] := by
  induction n generalizing ws with
  | zero =>
    obtain rfl := List.length_eq_zero_iff.1 (Nat.le_zero.1 h)
    exact ⟨rfl, rfl⟩
  | succ n ih =>
    rcases eq_or_ne ws [] with rfl | hne
    · exact ⟨rfl, rfl⟩
    · obtain ⟨p, ⟨hmem, -⟩, hpop⟩ := popWord_of_ne_nil hne
      have hplace : p.2 < ws.length := (List.mem_zipIdx' (x := p.1) (i := p.2) hmem).1
      have hlength : (ws.eraseIdx p.2).length = ws.length - 1 := List.length_eraseIdx_of_lt hplace
      obtain ⟨hcount, hleft⟩ := ih (ws := ws.eraseIdx p.2) (by omega)
      rw [popWords, hpop]
      exact ⟨by simp only [List.length_cons, hcount, hlength]; omega, hleft⟩

/-! The fault summary cleared (R378) -/

/-- One bit of an element set: every other bit stays. -/
theorem State.bitOf_setBit_ne (s : State) {r : Reg} {m n : Nat} (b : Bool) (hne : m ≠ n) (hm : m < dictBits r) (hn : n < dictBits r) :
    bitOf ((s.setBit r n b).reg r) m = bitOf (s.reg r) m := by
  rcases Nat.lt_or_gt_of_ne hne with h | h
  · exact s.bitOf_setBit_below b h hn
  · exact s.bitOf_setBit_above b h hm

/-- A 1 in a value clears its bit of the fault summary. -/
def State.clearFault (value : Nat) (s : State) (n : Nat) : State := if bitOf value n then s.setBit .DRM_FAULT_SUMMARY n false else s

theorem State.clearFault_bit {s : State} {value m n : Nat} (hm : m < 16) (hn : n < 16) :
    bitOf ((s.clearFault value n).reg .DRM_FAULT_SUMMARY) m =
      (bitOf (s.reg .DRM_FAULT_SUMMARY) m && !(decide (m = n) && bitOf value m)) := by
  have hbits : dictBits .DRM_FAULT_SUMMARY = 16 := by decide
  unfold State.clearFault
  split
  next hset =>
    by_cases hmn : m = n
    · subst hmn
      rw [State.bitOf_setBit_same _ _ (by omega), hset]
      simp
    · rw [State.bitOf_setBit_ne _ _ hmn (by omega) (by omega)]
      simp [hmn]
  next hclear =>
    by_cases hmn : m = n
    · subst hmn; simp [hclear]
    · simp [hmn]

/-- The bits up to k are cleared where the value holds a 1, the others stay. -/
theorem State.clearFaults_bit (s : State) (value : Nat) {m k : Nat} (hm : m < 16) (hk : k ≤ 16) :
    bitOf (((List.range k).foldl (State.clearFault value) s).reg .DRM_FAULT_SUMMARY) m =
      (bitOf (s.reg .DRM_FAULT_SUMMARY) m && !(decide (m < k) && bitOf value m)) := by
  induction k with
  | zero => simp
  | succ k ih =>
    rw [List.range_succ, List.foldl_append, List.foldl_cons, List.foldl_nil, State.clearFault_bit hm (by omega), ih (by omega)]
    have hsplit : decide (m < k + 1) = (decide (m < k) || decide (m = k)) := by
      rw [← Bool.decide_or]; exact decide_eq_decide.2 Nat.lt_succ_iff_lt_or_eq
    rw [hsplit]
    cases bitOf (s.reg .DRM_FAULT_SUMMARY) m <;> cases bitOf value m <;> cases decide (m < k) <;> cases decide (m = k) <;> rfl

theorem State.faultClear_eq (s : State) (value : Nat) : s.faultClear value = ((List.range 16).foldl (State.clearFault value) s).reply 0 := rfl

/-- Clearing faults moves the fault summary only. -/
structure FaultsMove (s t : State) : Prop where
  changes : OnlyChanges [] (among [.DRM_FAULT_SUMMARY]) s t
  drum : t.drum = s.drum
  out : t.out = s.out

theorem State.clearFaults_moves (s : State) (value : Nat) (ns : List Nat) : FaultsMove s (ns.foldl (State.clearFault value) s) := by
  refine List.foldlRecOn ns _ ⟨onlyChanges_refl s, rfl, rfl⟩ fun t ht n _ => ?_
  unfold State.clearFault
  split
  · exact ⟨ht.changes.setBit _ n false (by decide) (by decide), (State.setReg_drum ..).trans ht.drum, (State.setReg_out ..).trans ht.out⟩
  · exact ht

end Sys2Proof.Machine

namespace Sys2Proof.Proofs

open Machine

/-! O35 -/

/-- One word posted. -/
theorem eventPost_effect_one {code prio a : Nat} (u : State) (hcode : 0x1000 ≤ code ∧ code ≤ 0xFFFF) (hprio : prio ≤ 7) :
    (if code < 0x1000 ∨ 0xFFFF < code ∨ 7 < prio ∨ ([a] : List Nat) = [] ∨ 4 < ([a] : List Nat).length then u
      else u.postItem [⟨.single, prio, code, a % 2 ^ 42⟩]) = u.postItem [⟨.single, prio, code, a % 2 ^ 42⟩] :=
  if_neg (eventPost_inBounds (n := 1) hcode hprio rfl (by decide))

theorem eventPost_one {dt code prio a : Nat} {s : State} {claim : State → State → Prop} (hcode : 0x1000 ≤ code ∧ code ≤ 0xFFFF) (hprio : prio ≤ 7)
    (hclaim : claim (s.elapse dt) (ended s dt ((begun s dt).postItem [⟨.single, prio, code, a % 2 ^ 42⟩]))) :
    Completes (.eventPost dt code prio [a]) s claim :=
  completes_of_effect (dt := dt) rfl (exec_eventPost ..) (eventPost_effect_one _ hcode hprio) hclaim

theorem eventPost_entersWord (dt code prio a : Nat) (s : State) (htakes : Takes s prio) (hbounds : 0x1000 ≤ code ∧ code ≤ 0xFFFF ∧ prio ≤ 7) :
    Completes (.eventPost dt code prio [a]) s fun s0 t => Posted t code prio a ∧
      (prio = 7 → bitOf (t.reg .DRM_FAULT_SUMMARY) (code / 4096) = true) ∧ t.out = [] ∧ OnlyChanges [.drum, .log] drumRegs s0 t := by
  obtain ⟨hlow, hhigh, hprio⟩ := hbounds
  obtain ⟨hquiet, hmin⟩ := htakes
  refine eventPost_one ⟨hlow, hhigh⟩ hprio ⟨?_, fun hseven => ?_, ?_, onlyChanges_posted dt _ []⟩
  · exact ended_holds hquiet (List.mem_singleton_self _) (Nat.le_of_ble_eq_true rfl) hmin
  · subst hseven
    rw [ended_faultSummary]
    exact State.bitOf_setBit_same _ true (Nat.lt_of_le_of_lt (Nat.div_le_div_right hhigh) (by decide))
  · rw [ended_out, State.postItem_out]; rfl

theorem eventPost_entersItem (dt code prio a b : Nat) (s : State) (htakes : Takes s prio)
    (hbounds : 0x1000 ≤ code ∧ code ≤ 0xFFFF ∧ prio ≤ 7) :
    Completes (.eventPost dt code prio [a, b]) s fun s0 t => (⟨.first, prio, code, a % 2 ^ 42⟩ : DrumWord) ∈ t.drum.words ∧
      (⟨.last, prio, code, b % 2 ^ 42⟩ : DrumWord) ∈ t.drum.words ∧ t.out = [] ∧ OnlyChanges [.drum, .log] drumRegs s0 t := by
  obtain ⟨hlow, hhigh, hprio⟩ := hbounds
  obtain ⟨hquiet, hmin⟩ := htakes
  refine completes_of_effect (dt := dt) (u := (begun s dt).postItem [⟨.first, prio, code, a % 2 ^ 42⟩, ⟨.last, prio, code, b % 2 ^ 42⟩]) rfl
    (exec_eventPost ..) (if_neg (eventPost_inBounds (n := 2) ⟨hlow, hhigh⟩ hprio rfl (by decide))) ⟨?_, ?_, ?_, onlyChanges_posted dt _ [_]⟩
  · exact ended_holds hquiet (by simp) (Nat.le_of_ble_eq_true rfl) hmin
  · exact ended_holds hquiet (by simp) (Nat.le_of_ble_eq_true rfl) hmin
  · rw [ended_out, State.postItem_out]; rfl

theorem eventPost_isFiltered (dt code prio a : Nat) (s : State) (hquiet : Quiet s) (hcode : 0x1000 ≤ code ∧ code ≤ 0xFFFF)
    (hlow : prio < 7 ∧ prio < s.reg .DRM_MIN_PRIORITY) (hroom : s.reg .DRM_FILTERED < 2 ^ 31 - 1) :
    Completes (.eventPost dt code prio [a]) s fun s0 t => t.drum.words = s.drum.words ∧ t.reg .DRM_FILTERED = s.reg .DRM_FILTERED + 1 ∧
      OnlyChanges [.log] (among [.DRM_FILTERED]) s0 t := by
  obtain ⟨hprio, hmin⟩ := hlow
  let w : DrumWord := ⟨.single, prio, code, a % 2 ^ 42⟩
  let u := (begun s dt).entering w
  have hprio' : w.priority ≠ 7 := hprio.ne
  have hfiltered : (u.enterWord w) = (u.logWord w).drumCount .DRM_FILTERED 1 :=
    State.enterWord_of_filtered (by rw [State.entering_reg _ _ (by decide)]; exact hmin) hprio'
  have hbefore : (u.logWord w).reg .DRM_FILTERED = s.reg .DRM_FILTERED := by
    rw [State.logWord_reg, State.entering_reg _ _ (by decide), begun_reg]
  obtain ⟨hcounted, hmore⟩ := (u.logWord w).drumCount_below (r := .DRM_FILTERED) (n := 1) (by decide) (by omega)
  have hentering : u.drum = s.drum := State.entering_drum (s := begun s dt) w hquiet
  have hdrum : ((u.logWord w).drumCount .DRM_FILTERED 1).1.drum = s.drum := by
    rw [State.drumCount_drum, State.logWord_drum, hentering]
  have hquiet' := quiet_of_drum hdrum hquiet
  have hentered : OnlyChanges [.log] (among [.DRM_FILTERED]) (begun s dt) u :=
    (onlyChanges_entering (s := begun s dt) hquiet hprio').mono (List.nil_subset _) fun _ h => absurd h Bool.false_ne_true
  have hlogged : OnlyChanges [.log] (among [.DRM_FILTERED]) u (u.logWord w) :=
    (onlyChanges_logWord u w).mono (List.Subset.refl _) fun _ h => absurd h Bool.false_ne_true
  have hchanges : OnlyChanges [.log] (among [.DRM_FILTERED]) (s.elapse dt) ((u.logWord w).drumCount .DRM_FILTERED 1).1 :=
    (((onlyChanges_begun s dt).trans hentered).trans hlogged).setReg .DRM_FILTERED _ (by decide) (by decide)
  refine eventPost_one hcode hprio.le ?_
  rw [ended_single hquiet (by rw [hfiltered]; exact hmore), hfiltered]
  obtain ⟨hsame, hregs⟩ := ended_of_quiet (s := s) dt hquiet'
  exact ⟨by rw [hsame, hdrum], by rw [hregs, hcounted, hbefore], hchanges.ended_quiet hquiet'⟩

theorem eventPost_overwritesOldest (dt code prio a : Nat) (old : DrumWord) (rest : List DrumWord) (s : State) (htakes : Takes s prio)
    (hbounds : 0x1000 ≤ code ∧ code ≤ 0xFFFF ∧ prio ≤ 7) (hwords : s.drum.words = old :: rest) (hfull : rest.length = 63)
    (hold : old.priority ≤ 7) (hlost : s.reg .DRM_LOST < 2 ^ 31 - 1) (hlostPrio : s.reg (.DRM_LOST_PRIO (old.priority + 1)) < 2 ^ 31 - 1) :
    Completes (.eventPost dt code prio [a]) s fun _ t => t.drum.words = rest ++ [(⟨.single, prio, code, a % 2 ^ 42⟩ : DrumWord)] ∧
      t.reg .DRM_LOST = s.reg .DRM_LOST + 1 ∧
      t.reg (.DRM_LOST_PRIO (old.priority + 1)) = s.reg (.DRM_LOST_PRIO (old.priority + 1)) + 1 := by
  obtain ⟨hlow, hhigh, hprio⟩ := hbounds
  obtain ⟨hquiet, hmin⟩ := htakes
  let w : DrumWord := ⟨.single, prio, code, a % 2 ^ 42⟩
  let u := (begun s dt).entering w
  have hdrum : u.drum = s.drum := State.entering_drum (s := begun s dt) w hquiet
  have hreg : ∀ r : Reg, r.key ≠ Reg.DRM_FAULT_SUMMARY.key → u.reg r = s.reg r := fun r hr => State.entering_reg (begun s dt) w hr
  have hlostBefore := hreg .DRM_LOST (by decide)
  have hprioBefore := hreg (.DRM_LOST_PRIO (old.priority + 1)) (lostPrio_key hold (.inl (by decide)))
  obtain ⟨hmore, hentered, hlostAfter, hprioAfter⟩ := u.enterWord_overwrites (w := w) (by rw [hreg _ (by decide)]; exact hmin)
    (by rw [hdrum, hwords]) hfull hold (by rw [hlostBefore]; exact hlost) (by rw [hprioBefore]; exact hlostPrio)
  obtain ⟨hsame, hregs⟩ := ended_of_quiet (s := s) (u := (u.enterWord w).1) dt (by rw [Quiet, hentered, hdrum]; exact hquiet)
  refine eventPost_one ⟨hlow, hhigh⟩ hprio ?_
  rw [ended_single hquiet hmore]
  exact ⟨by rw [hsame, hentered], by rw [hregs, hlostAfter, hlostBefore], by rw [hregs, hprioAfter, hprioBefore]⟩

/-- A read by a session of level 1 that takes words out of the Drum. -/
theorem completes_of_pop {c : Instr} {dt who : Nat} {s : State} {f : State → State} {ws : List DrumWord} {data : List Octet}
    {claim : State → State → Prop} (hdt : c.dt = dt) (hexec : exec c s = run s dt fun s => s.asReader who f)
    (hwho : 1 ≤ (s.elapse dt).levelOf who) (heffect : f (begun s dt) = (((begun s dt).setWords ws).reply 0).emit (.data data))
    (hclaim : claim (s.elapse dt) (ended s dt ((((begun s dt).setWords ws).reply 0).emit (.data data)))) : Completes c s claim :=
  completes_of_effect hdt hexec ((if_neg (Nat.not_lt.2 hwho)).trans heffect) hclaim

/-- What such a read leaves: the words, the answer, and the depth that follows. -/
theorem ended_popped {s : State} {dt : Nat} (hquiet : Quiet s) (ws : List DrumWord) (data : List Octet) :
    (ended s dt ((((begun s dt).setWords ws).reply 0).emit (.data data))).drum = { s.drum with words := ws } ∧
      (ended s dt ((((begun s dt).setWords ws).reply 0).emit (.data data))).out = [.reply 0, .data data] ∧
      OnlyChanges [.drum] (among [.DRM_DEPTH, .DRM_DEPTH_MAX]) (s.elapse dt)
        (ended s dt ((((begun s dt).setWords ws).reply 0).emit (.data data))) := by
  have hdrum : ((((begun s dt).setWords ws).reply 0).emit (.data data)).drum = { s.drum with words := ws } := by
    rw [State.emit_drum, State.reply_drum, State.setWords_drum, begun_drum]
  have hquiet' : Quiet ((((begun s dt).setWords ws).reply 0).emit (.data data)) := by rw [Quiet, hdrum]; exact hquiet
  refine ⟨(ended_of_quiet dt hquiet').1.trans hdrum, ?_, ?_⟩
  · rw [ended_out, State.emit_out, State.reply_out, State.setWords_out]; rfl
  · exact ((((onlyChanges_begun s dt).setWords ws (by decide) (by decide) (by decide)).emit _).emit _).ended_quiet hquiet'

theorem drmPop_returnsWord (dt who : Nat) (s : State) (hquiet : Quiet s) (hwho : 1 ≤ (s.elapse dt).levelOf who) (hsome : s.drum.words ≠ []) :
    Completes (.drmPop dt who) s fun s0 t =>
      (∃ p ∈ s.drum.words.zipIdx, t.drum.words = s.drum.words.eraseIdx p.2 ∧
        (∀ q ∈ s.drum.words.zipIdx, q.1.priority ≤ p.1.priority ∧ (q.1.priority = p.1.priority → p.2 ≤ q.2)) ∧
        t.out = [.reply 0, .data p.1.octets]) ∧ OnlyChanges [.drum] (among [.DRM_DEPTH, .DRM_DEPTH_MAX]) s0 t := by
  obtain ⟨p, ⟨hmem, hbest⟩, hpop⟩ := popWord_of_ne_nil hsome
  obtain ⟨hdrum, hout, hchanges⟩ := ended_popped (dt := dt) hquiet (s.drum.words.eraseIdx p.2) p.1.octets
  refine completes_of_pop (dt := dt) rfl (exec_drmPop ..) hwho ?_ ⟨⟨p, hmem, by rw [hdrum], hbest, hout⟩, hchanges⟩
  rw [State.drumPop, begun_drum, hpop]

theorem drmPop_returnsZeros (dt who : Nat) (s : State) (hquiet : Quiet s) (hwho : 1 ≤ (s.elapse dt).levelOf who) (hnone : s.drum.words = []) :
    Completes (.drmPop dt who) s fun _ t => t.out = [.reply 0, .data (List.replicate 8 0)] ∧ t.drum = s.drum := by
  obtain ⟨hdrum, hout, -⟩ := ended_popped (dt := dt) hquiet [] (List.replicate 8 0)
  refine completes_of_pop (dt := dt) rfl (exec_drmPop ..) hwho ?_ ⟨hout, by rw [hdrum, ← hnone]⟩
  rw [State.drumPop, begun_drum, hnone, popWord_nil]

theorem drmPopBlock_emptiesDrum (dt who : Nat) (s : State) (hquiet : Quiet s) (hwho : 1 ≤ (s.elapse dt).levelOf who)
    (hmost : s.drum.words.length ≤ 64) :
    Completes (.drmPopBlock dt who) s fun s0 t => t.drum.words = [] ∧ (popWords 64 s.drum.words).1.length = s.drum.words.length ∧
      t.out = [.reply 0, .data (leOctets 2 s.drum.words.length ++ List.replicate 6 0 ++
        ((popWords 64 s.drum.words).1.map DrumWord.octets).flatten)] ∧ OnlyChanges [.drum] (among [.DRM_DEPTH, .DRM_DEPTH_MAX]) s0 t := by
  obtain ⟨hcount, hleft⟩ := popWords_of_le hmost
  obtain ⟨hdrum, hout, hchanges⟩ := ended_popped (dt := dt) hquiet [] (drumBlock (popWords 64 s.drum.words).1)
  refine completes_of_pop (dt := dt) rfl (exec_drmPopBlock ..) hwho ?_ ⟨by rw [hdrum], hcount, ?_, hchanges⟩
  · rw [State.drumPopBlock, begun_drum, hleft]
  · rw [hout, drumBlock, hcount]

theorem drmFlush_removesWords (dt who : Nat) (s : State) (hquiet : Quiet s) (hwho : 1 ≤ (s.elapse dt).levelOf who)
    (hroom : s.reg .DRM_FLUSHED + s.drum.words.length < 2 ^ 31) :
    Completes (.drmFlush dt who 1) s fun s0 t => t.drum.words = [] ∧ t.reg .DRM_FLUSHED = s.reg .DRM_FLUSHED + s.drum.words.length ∧
      t.reg .DRM_DEPTH = 0 ∧ t.out = [.reply 0] ∧ OnlyChanges [.drum] (among [.DRM_DEPTH, .DRM_DEPTH_MAX, .DRM_FLUSHED]) s0 t := by
  let counted := (begun s dt).setReg .DRM_FLUSHED (s.reg .DRM_FLUSHED + s.drum.words.length)
  have hflushed : counted.reg .DRM_FLUSHED = s.reg .DRM_FLUSHED + s.drum.words.length :=
    (State.reg_setReg_same _ _ _ (by decide)).trans (Nat.mod_eq_of_lt (hroom.trans (by decide)))
  have hcount : (begun s dt).count .DRM_FLUSHED (begun s dt).drum.words.length = counted := by
    rw [State.count, begun_reg, begun_drum, hflushed, counterWord_below (by omega) hroom]
  have hdrum : ((counted.setWords []).reply 0).drum = { s.drum with words := [] } := by
    rw [State.reply_drum, State.setWords_drum, State.setReg_drum, begun_drum]
  have hquiet' : Quiet ((counted.setWords []).reply 0) := by rw [Quiet, hdrum]; exact hquiet
  obtain ⟨hsame, hregs⟩ := ended_of_quiet (s := s) dt hquiet'
  refine completes_of_effect (dt := dt) (u := (counted.setWords []).reply 0) rfl (exec_drmFlush ..) ?_ ⟨by rw [hsame, hdrum], ?_, ?_, ?_, ?_⟩
  · rw [State.asWriter_of_level (s := begun s dt) (l := 1) _ (by decide) hwho, State.drumFlush, if_neg (by decide), hcount]
  · rw [hregs, State.reply_reg, State.setWords_reg_of_ne _ _ (by decide) (by decide), hflushed]
  · rw [hregs, State.reply_reg, State.setWords_depth]; exact Nat.zero_mod _
  · rw [ended_out, State.reply_out, State.setWords_out, State.setReg_out]; rfl
  · exact ((((onlyChanges_begun s dt).setReg .DRM_FLUSHED _ (by decide) (by decide)).setWords [] (by decide) (by decide)
      (by decide)).emit _).ended_quiet hquiet'

theorem faultSummaryClear_clears (dt who value : Nat) (s : State) (hquiet : Quiet s) (hwho : 1 ≤ (s.elapse dt).levelOf who) :
    Completes (.faultSummaryClear dt who value) s fun s0 t =>
      (∀ n ∈ List.range 16, bitOf (t.reg .DRM_FAULT_SUMMARY) n = (bitOf (s.reg .DRM_FAULT_SUMMARY) n && !bitOf value n)) ∧ t.out = [.reply 0] ∧
      OnlyChanges [] (among [.DRM_FAULT_SUMMARY]) s0 t := by
  obtain ⟨hchanges, hdrum, hout⟩ := (begun s dt).clearFaults_moves value (List.range 16)
  refine completes_of_effect (dt := dt) rfl (exec_faultSummaryClear ..)
    ((State.asWriter_of_level (s := begun s dt) (l := 1) _ (by decide) hwho).trans (State.faultClear_eq _ _)) ⟨fun n hn => ?_, ?_, ?_⟩
  · have hn' := List.mem_range.1 hn
    rw [ended_faultSummary, State.reply_reg, State.clearFaults_bit _ _ hn' (Nat.le_refl _), decide_eq_true hn', Bool.true_and, begun_reg]
  · rw [ended_out, State.reply_out, hout]; rfl
  · exact (((onlyChanges_begun s dt).trans hchanges).emit _).ended_quiet (quiet_of_drum hdrum hquiet)

/-- Settles O35, command by command: what a posted word does on entering, which word a pop takes, and what a flush and a clear remove. -/
theorem drumTakesAndGivesWords : Obligations.DrumTakesAndGivesWords :=
  ⟨eventPost_entersWord, eventPost_entersItem, eventPost_isFiltered, eventPost_overwritesOldest, drmPop_returnsWord, drmPop_returnsZeros,
    drmPopBlock_emptiesDrum, drmFlush_removesWords, faultSummaryClear_clears⟩

end Sys2Proof.Proofs

section

-- These lemmas are many and short: checked side by side with the rest of the text, they start more threads than the memory of the check holds.
set_option Elab.async false

namespace Sys2Proof.Machine

/-! What the effect of a command can do to the dictionary and to the words of the Drum (R372, R464), which the invariants of every step rest on -/

/-- The states an effect can reach, as far as the dictionary and the words of the Drum go: elements are set, or the mirrored ones dropped for those
of the partner (R446); words enter the Drum one by one (R374), are taken out of it, or all of it starts again (R526). Every other part may
change freely; the dictionary and the words may also be those of two states reached, since the boot ROM keeps the Drum aside (R539). -/
inductive Reaches (s₀ : State) : State → Prop
  | refl : Reaches s₀ s₀
  | setReg {s : State} {r : Reg} {v : Nat} (hs : Reaches s₀ s) : Reaches s₀ (s.setReg r v)
  | dropEntries {s : State} {p : Nat × Nat → Bool} (hs : Reaches s₀ s) : Reaches s₀ { s with dict := s.dict.filter p }
  | enterWord {s : State} {w : DrumWord} (hs : Reaches s₀ s) : Reaches s₀ (s.enterWord w).1
  | keepWords {s : State} {ws : List DrumWord} (hs : Reaches s₀ s) (hfewer : ws.length ≤ s.drum.words.length) : Reaches s₀ (s.setWords ws)
  | reset : Reaches s₀ State.reset
  | joined {s t u : State} (hs : Reaches s₀ s) (ht : Reaches s₀ t) (hdict : u.dict = s.dict) (hwords : u.drum.words = t.drum.words) :
      Reaches s₀ u

namespace Reaches

variable {s₀ s t : State}

/-- A change of other parts of the state. -/
theorem other (hs : Reaches s₀ s) (hdict : t.dict = s.dict := by rfl) (hwords : t.drum.words = s.drum.words := by rfl) : Reaches s₀ t :=
  hs.joined hs hdict hwords

theorem ite {p : Prop} [Decidable p] (hs : Reaches s₀ s) (ht : Reaches s₀ t) : Reaches s₀ (if p then s else t) := by
  split
  · exact hs
  · exact ht

theorem foldl {α : Type} {f : State → α → State} {l : List α} (hs : Reaches s₀ s) (hf : ∀ u a, Reaches s₀ u → Reaches s₀ (f u a)) :
    Reaches s₀ (l.foldl f s) :=
  List.foldlRecOn l f (motive := Reaches s₀) hs fun u hu a _ => hf u a hu

theorem setInt {r : Reg} {v : Int} (hs : Reaches s₀ s) : Reaches s₀ (s.setInt r v) := hs.setReg

theorem setBit {r : Reg} {n : Nat} {b : Bool} (hs : Reaches s₀ s) : Reaches s₀ (s.setBit r n b) := hs.setReg

theorem bump {r : Reg} {n : Nat} (hs : Reaches s₀ s) : Reaches s₀ (s.bump r n) := hs.setReg

theorem postItem {ws : List DrumWord} (hs : Reaches s₀ s) : Reaches s₀ (s.postItem ws) := by
  unfold State.postItem
  cases ws with
  | nil => exact hs.other
  | cons w ws => exact .ite (.setBit hs.other) hs.other

theorem post {code priority arg : Nat} (hs : Reaches s₀ s) : Reaches s₀ (s.post code priority arg) := hs.postItem

theorem count {r : Reg} {n : Nat} (hs : Reaches s₀ s) : Reaches s₀ (s.count r n) := by
  simp only [State.count]
  split
  · exact hs.setReg.postItem
  · exact hs.setReg

theorem emit {o : Output} (hs : Reaches s₀ s) : Reaches s₀ (s.emit o) := hs.other

theorem reply {status : Nat} (hs : Reaches s₀ s) : Reaches s₀ (s.reply status) := hs.other

theorem takeFree (hs : Reaches s₀ s) : Reaches s₀ s.takeFree.2 := hs.other

theorem logRecord {w : DrumWord} (hs : Reaches s₀ s) : Reaches s₀ (s.logRecord w) := hs.other

theorem elapse {n : Nat} (hs : Reaches s₀ s) : Reaches s₀ (s.elapse n) := hs.other

theorem enterWords {n : Nat} {ws : List DrumWord} (hs : Reaches s₀ s) : Reaches s₀ (State.enterWords n s ws) :=
  State.enterWords_keeps (Reaches s₀) (fun _ _ ht => ht.enterWord) n s ws hs

theorem settle (hs : Reaches s₀ s) : Reaches s₀ s.settle := State.settle_keeps (Reaches s₀) (fun _ _ ht => ht.enterWord) s hs.other

theorem asWriter {who : Nat} {r : Reg} {f : State → State} (hs : Reaches s₀ s) (hf : Reaches s₀ (f s)) :
    Reaches s₀ (s.asWriter who r f) := by
  unfold State.asWriter
  split
  · exact hs.reply
  · exact .ite hs.reply hf

theorem asReader {who : Nat} {f : State → State} (hs : Reaches s₀ s) (hf : Reaches s₀ (f s)) :
    Reaches s₀ (s.asReader who f) := .ite hs.reply hf

end Reaches

/-- An outcome is that of a command whose effect reaches the state it makes. -/
def Effects (s : State) (dt : Nat) (o : Host.Outcome State Fault Refusal) : Prop := ∃ f : State → State, o = run s dt f ∧ ∀ u, Reaches u (f u)

theorem Effects.run {s : State} {dt : Nat} {f : State → State} (hf : ∀ s₀ u, Reaches s₀ u → Reaches s₀ (f u)) :
    Effects s dt (run s dt f) :=
  ⟨f, rfl, fun u => hf u u .refl⟩

theorem popWord_length (ws : List DrumWord) : (popWord ws).2.length ≤ ws.length := by
  unfold popWord
  split
  · exact (List.eraseIdx_sublist ws _).length_le
  · exact Nat.le_refl _

theorem popWords_length (n : Nat) (ws : List DrumWord) : (popWords n ws).2.length ≤ ws.length := by
  induction n generalizing ws with
  | zero => exact Nat.le_refl _
  | succ n ih =>
    have hpop := popWord_length ws
    unfold popWords
    split
    next w rest he => rw [he] at hpop; exact (ih rest).trans hpop
    next rest he => rw [he] at hpop; exact hpop

namespace Reaches

variable {s₀ s : State}

theorem drumPop (hs : Reaches s₀ s) : Reaches s₀ s.drumPop := (hs.keepWords (popWord_length _)).reply.emit

theorem drumPopBlock (hs : Reaches s₀ s) : Reaches s₀ s.drumPopBlock := (hs.keepWords (popWords_length _ _)).reply.emit

theorem drumFlush {value : Nat} (hs : Reaches s₀ s) :
    Reaches s₀ (s.drumFlush value) := .ite hs.reply (hs.count.keepWords (Nat.zero_le _)).reply

theorem restarted {warm : Bool} (_hs : Reaches s₀ s) : Reaches s₀ (s.restarted warm) := .setReg (.other .reset)

theorem crcWrite {who n : Nat} {f : State → State} (hs : Reaches s₀ s) (hf : Reaches s₀ (f s)) : Reaches s₀ (s.crcWrite who n f) :=
  .ite hs.reply (.ite hs.reply (.ite hs.reply (.ite hf hs.reply)))

theorem mirrorLight {m : MirMessage} {f : State → State} (hs : Reaches s₀ s) (hf : Reaches s₀ (f s)) : Reaches s₀ (s.mirrorLight m f) :=
  .ite hs (.ite hs.count hf)

theorem chainMessage {h : ChainHead} {f : State → State} (hs : Reaches s₀ s) (hf : Reaches s₀ (f s)) : Reaches s₀ (s.chainMessage h f) :=
  .ite hf hs.count

theorem changeWrite {v : Nat} {request cancel : State → State} (hr : Reaches s₀ (request s)) (hc : Reaches s₀ (cancel s)) :
    Reaches s₀ (changeWrite v request cancel s) := by
  unfold Machine.changeWrite
  split
  · exact hr
  · exact hc

theorem onBlock {link type : Nat} {b : List Octet} {f : List Nat → State → State} (hs : Reaches s₀ s) (hf : ∀ v, Reaches s₀ (f v s)) :
    Reaches s₀ (s.onBlock link type b f) := by
  unfold State.onBlock
  refine .ite hs ?_
  split
  · exact hs.count
  · exact .ite (hf _) hs

theorem answered {f : State → State} (hs : Reaches s₀ s) (hf : ∀ u, Reaches s₀ u → Reaches s₀ (f u)) : Reaches s₀ (s.answered f).2 :=
  (hf { s with out := [] } hs.other).other

theorem fetched {f : State → State} (hs : Reaches s₀ s) (hf : ∀ u, Reaches s₀ u → Reaches s₀ (f u)) : Reaches s₀ (s.fetched f).2 :=
  (hs.answered hf).other

theorem ite_fst {α : Type} {p : Prop} [Decidable p] {x y : State × α} (hx : Reaches s₀ x.1) (hy : Reaches s₀ y.1) :
    Reaches s₀ (if p then x else y).1 := by
  split
  · exact hx
  · exact hy

theorem ite_snd {α : Type} {p : Prop} [Decidable p] {x y : α × State} (hx : Reaches s₀ x.2) (hy : Reaches s₀ y.2) :
    Reaches s₀ (if p then x else y).2 := by
  split
  · exact hx
  · exact hy

theorem foldl_fst {α β : Type} {f : State × β → α → State × β} {l : List α} {x : State × β} (hx : Reaches s₀ x.1)
    (hf : ∀ y a, Reaches s₀ y.1 → Reaches s₀ (f y a).1) : Reaches s₀ (l.foldl f x).1 :=
  List.foldlRecOn l f (motive := fun y => Reaches s₀ y.1) hx fun y hy a _ => hf y a hy

theorem of_ite_some {p : Prop} [Decidable p] {t u : State} (ht : Reaches s₀ t) (h : (if p then some t else none) = some u) :
    Reaches s₀ u := by
  split at h
  · exact Option.some.inj h ▸ ht
  · cases h

theorem of_ite_none {p : Prop} [Decidable p] {t u : State} (ht : Reaches s₀ t) (h : (if p then none else some t) = some u) :
    Reaches s₀ u := by
  split at h
  · cases h
  · exact Option.some.inj h ▸ ht

end Reaches

/-- What a write of an element sets off, where it sets off anything, reaches the state it makes. -/
structure Behaves (o : Option (State → State)) : Prop where
  reaches : ∀ {f : State → State}, o = some f → ∀ {s₀ s : State}, Reaches s₀ s → Reaches s₀ (f s)

theorem Behaves.none : Behaves none := ⟨fun h => by cases h⟩

theorem Behaves.some {f : State → State} (hf : ∀ {s₀ s : State}, Reaches s₀ s → Reaches s₀ (f s)) : Behaves (some f) :=
  ⟨fun h _ _ hs => by obtain rfl := Option.some.inj h; exact hf hs⟩

theorem Behaves.ite {p : Prop} [Decidable p] {o o' : Option (State → State)} (ho : Behaves o) (ho' : Behaves o') :
    Behaves (if p then o else o') := by
  split
  · exact ho
  · exact ho'

/-! The named operations -/

namespace Reaches

variable {s₀ s : State}

theorem modClock {f : Clock → Clock} (hs : Reaches s₀ s) : Reaches s₀ (s.modClock f) := hs.other

theorem modNet {f : Net → Net} (hs : Reaches s₀ s) : Reaches s₀ (s.modNet f) := hs.other

theorem milestone {n : Nat} (hs : Reaches s₀ s) : Reaches s₀ (s.milestone n) := .ite hs.setReg hs

theorem startUpDone {role : Nat} (hs : Reaches s₀ s) : Reaches s₀ (s.startUpDone role) := .ite hs.other.post hs

end Reaches

/-! Epochs in flight, the trace and the words of Belfry -/

namespace Reaches

variable {s₀ s : State}

theorem modIngest {f : Ingest → Ingest} (hs : Reaches s₀ s) : Reaches s₀ (s.modIngest f) := hs.other

theorem modBelfry {f : Belfry → Belfry} (hs : Reaches s₀ s) : Reaches s₀ (s.modBelfry f) := hs.other

theorem modCupola {f : Cupola → Cupola} (hs : Reaches s₀ s) : Reaches s₀ (s.modCupola f) := hs.other

theorem modScan {f : Scan → Scan} (hs : Reaches s₀ s) : Reaches s₀ (s.modScan f) := hs.other

theorem modCal {f : Cal → Cal} (hs : Reaches s₀ s) : Reaches s₀ (s.modCal f) := hs.other

theorem modLink {k : Nat} {f : SpireLink → SpireLink} (hs : Reaches s₀ s) : Reaches s₀ (s.modLink k f) := hs.other

theorem modEpoch {e : Nat} {f : Epoch → Epoch} (hs : Reaches s₀ s) : Reaches s₀ (s.modEpoch e f) := hs.other

theorem modEngine {k : Nat} {f : Engine → Engine} (hs : Reaches s₀ s) : Reaches s₀ (s.modEngine k f) := hs.modBelfry

theorem traceStore {r : TraceRecord} (hs : Reaches s₀ s) : Reaches s₀ (s.traceStore r) := by
  unfold State.traceStore
  extract_lets +onlyGivenNames _ _ _ _ _ s2'
  have hs2' : Reaches s₀ s2' := .ite hs.modBelfry.setReg.count.setBit hs.modBelfry.setReg.count
  exact .ite hs2'.setBit.setBit.post hs2'

theorem trace {r : TraceRecord} (hs : Reaches s₀ s) : Reaches s₀ (s.trace r) := .ite hs (.ite hs.modBelfry.count hs.traceStore)

theorem showQueues (hs : Reaches s₀ s) : Reaches s₀ s.showQueues := .foldl hs.setReg fun _ _ hu => .ite hu.setReg.setReg hu.setReg

theorem modOp {slot : Nat} {f : BelOp → BelOp} (hs : Reaches s₀ s) : Reaches s₀ (s.modOp slot f) := hs.modBelfry

theorem makeReady {o : BelOp} (hs : Reaches s₀ s) : Reaches s₀ (s.makeReady o) := hs.modOp.modBelfry.trace

theorem releaseSuccessors {o : BelOp} (hs : Reaches s₀ s) : Reaches s₀ (s.releaseSuccessors o) :=
  .ite hs (.foldl hs fun _ _ hu => .ite hu.makeReady hu.modOp)

theorem freeOp {o : BelOp} (hs : Reaches s₀ s) : Reaches s₀ (s.freeOp o) := by
  unfold State.freeOp
  extract_lets +onlyGivenNames _
  split
  · exact hs.modBelfry
  · exact hs.modBelfry.modEngine
  · exact hs.modBelfry

theorem brickEnd {epoch brick : Nat} (hs : Reaches s₀ s) : Reaches s₀ (s.brickEnd epoch brick) := .ite hs hs.modBelfry.modEpoch

theorem cancelOp {o : BelOp} {reason : Nat} (hs : Reaches s₀ s) : Reaches s₀ (s.cancelOp o reason) := by
  unfold State.cancelOp
  split
  · exact hs
  · extract_lets +onlyGivenNames _ s1
    have hs1 : Reaches s₀ s1 := hs.freeOp.count.trace
    exact .ite hs1.releaseSuccessors.brickEnd hs1.releaseSuccessors

theorem reprioritise (hs : Reaches s₀ s) : Reaches s₀ s.reprioritise := .foldl hs fun _ _ hu => hu.modOp.modBelfry.trace

theorem sendBlock {link type : Nat} {fields : List Nat} (hs : Reaches s₀ s) : Reaches s₀ (s.sendBlock link type fields) := hs.emit

theorem revokeLink {e k : Nat} (hs : Reaches s₀ s) : Reaches s₀ (s.revokeLink e k) := by
  unfold State.revokeLink
  extract_lets +onlyGivenNames _
  split
  · exact hs
  · extract_lets +onlyGivenNames _ _ s1
    have hs1 : Reaches s₀ s1 := .ite hs.sendBlock.count hs
    exact .ite hs1.modLink.sendBlock.count.modLink hs1.modLink

theorem revoke {e : Nat} (hs : Reaches s₀ s) : Reaches s₀ (s.revoke e) := .foldl hs fun _ _ hu => hu.revokeLink

theorem stopEngine {k epoch since : Nat} (hs : Reaches s₀ s) : Reaches s₀ (s.stopEngine k epoch since) := hs.modEngine

theorem sweep {e reason : Nat} (hs : Reaches s₀ s) : Reaches s₀ (s.sweep e reason) := by
  unfold State.sweep
  extract_lets +onlyGivenNames _ s1
  have hs1 : Reaches s₀ s1 := .foldl hs fun _ _ hu => by split; exacts [hu.freeOp.stopEngine.trace, hu.freeOp]
  exact hs1.modBelfry

theorem squash {e : Nat} {replace : Bool} (hs : Reaches s₀ s) : Reaches s₀ (s.squash e replace) := by
  unfold State.squash
  split
  · exact hs
  · split
    · extract_lets _ _ _ _ s4
      have hs4 : Reaches s₀ s4 := hs.modBelfry.sweep.count.count.trace.modEpoch.revoke.showQueues
      clear_value s4
      exact hs4.other
    · exact hs.modEpoch
    · exact .ite hs hs.modEpoch
    · exact hs

end Reaches

/-! The freeze judgement suspended (R359) -/

namespace Reaches

variable {s₀ s : State}

theorem modOcu {f : Ocu → Ocu} (hs : Reaches s₀ s) : Reaches s₀ (s.modOcu f) := hs.other

theorem modOcuLink {k : Nat} {f : OcuLink → OcuLink} (hs : Reaches s₀ s) : Reaches s₀ (s.modOcuLink k f) := hs.modOcu

theorem showOculus (hs : Reaches s₀ s) : Reaches s₀ s.showOculus := .foldl hs.setReg fun _ _ hu => hu.setReg

theorem suspendAll {cause : Nat} {start : Option Nat} (hs : Reaches s₀ s) : Reaches s₀ (s.suspendAll cause start) := by
  unfold State.suspendAll
  extract_lets +onlyGivenNames s1
  have hs1 : Reaches s₀ s1 := .foldl hs fun _ _ hu => hu.setReg
  exact .ite hs1.modOcu.showOculus hs1.modOcu.showOculus.count.post

theorem suspendLink {k : Nat} (hs : Reaches s₀ s) : Reaches s₀ (s.suspendLink k) := by
  unfold State.suspendLink
  extract_lets +onlyGivenNames s1
  have hs1 : Reaches s₀ s1 := hs.setReg.modOcuLink.showOculus
  exact .ite hs1 hs1.count.post

end Reaches

/-! What the blocks of a unit tell its partner (R439 to R458) -/

namespace Reaches

variable {s₀ s : State}

theorem modTwin {f : Twin → Twin} (hs : Reaches s₀ s) : Reaches s₀ (s.modTwin f) := hs.other

theorem claimFollows (hs : Reaches s₀ s) : Reaches s₀ s.claimFollows := hs.setReg.setReg

theorem refreshClaim (hs : Reaches s₀ s) : Reaches s₀ s.refreshClaim := hs.setReg.claimFollows

theorem sendMirror {kind : Nat} {payload : List Octet} (hs : Reaches s₀ s) : Reaches s₀ (s.sendMirror kind payload) :=
  .ite hs (.ite hs.modTwin.emit hs.emit)

theorem recordLink {epoch link : Nat} {f : LinkRecord → LinkRecord} (hs : Reaches s₀ s) : Reaches s₀ (s.recordLink epoch link f) :=
  .ite hs.modTwin.count.setReg hs.modTwin

theorem linkSig {epoch link sig : Nat} (hs : Reaches s₀ s) : Reaches s₀ (s.linkSig epoch link sig) := .ite hs.sendMirror.recordLink hs

theorem recordFrame {epoch : Nat} {f : FrameRecord → FrameRecord} (hs : Reaches s₀ s) : Reaches s₀ (s.recordFrame epoch f) := by
  unfold State.recordFrame
  exact hs.modTwin

theorem push {item key : Nat} {data : List Octet} (hs : Reaches s₀ s) : Reaches s₀ (s.push item key data) := .ite hs.modTwin.sendMirror hs

end Reaches

/-! The objects by which a unit joins (R446, R457) -/

namespace Reaches

variable {s₀ s : State}

theorem sendBulk {object : Nat} {data : List Octet} (hs : Reaches s₀ s) : Reaches s₀ (s.sendBulk object data) :=
  .sendMirror (.foldl hs fun _ _ hu => hu.sendMirror)

theorem takeImage {o : List Octet} (hs : Reaches s₀ s) : Reaches s₀ (s.takeImage o) := by
  unfold State.takeImage
  exact .modTwin (.setReg (.foldl hs.dropEntries fun _ _ hu => hu.setReg))

theorem takeMaps {o : List Octet} (hs : Reaches s₀ s) : Reaches s₀ (s.takeMaps o) := hs.other

theorem takeFinial {o : List Octet} (hs : Reaches s₀ s) : Reaches s₀ (s.takeFinial o) := hs.other

theorem takeFrame {layer : Nat} {o : List Octet} (hs : Reaches s₀ s) : Reaches s₀ (s.takeFrame layer o) := .ite hs hs.other

theorem takeItems {o : List Octet} (hs : Reaches s₀ s) : Reaches s₀ (s.takeItems o) := by
  unfold State.takeItems
  refine .foldl hs.modTwin fun _ _ hu => ?_
  extract_lets +onlyGivenNames s2
  have hs2 : Reaches s₀ s2 := hu.setReg
  exact hs2.other

theorem feedLayer {epoch layer : Nat} {r : Resolution} (hs : Reaches s₀ s) : Reaches s₀ (s.feedLayer epoch layer r) :=
  .ite (by split; exacts [hs.sendBulk, hs.sendBulk]) hs

theorem feedEnd {epoch : Nat} {waiting : Bool} {d : Decision} (hs : Reaches s₀ s) : Reaches s₀ (s.feedEnd epoch waiting d) :=
  .ite hs.sendBulk.sendBulk.sendMirror.modTwin hs

end Reaches

/-! A module and its calibration header (R231, R248) -/

namespace Reaches

variable {s₀ s : State}

theorem showCalState (hs : Reaches s₀ s) : Reaches s₀ s.showCalState := hs.setReg

theorem setModuleStatus {link module revision state slot reason : Nat} (hs : Reaches s₀ s) :
    Reaches s₀ (s.setModuleStatus link module revision state slot reason) :=
  hs.setReg.showCalState

theorem uncalibrate {link module reason : Nat} (hs : Reaches s₀ s) :
    Reaches s₀ (s.uncalibrate link module reason) := hs.modCal.setModuleStatus.post

theorem judgeGeometry (hs : Reaches s₀ s) : Reaches s₀ s.judgeGeometry := .foldl hs fun _ _ hu => .ite hu hu.uncalibrate

end Reaches

/-! Network ports (R37 to R75) -/

namespace Reaches

variable {s₀ s : State}

theorem modPort {port : Nat} {f : NetPort → NetPort} (hs : Reaches s₀ s) : Reaches s₀ (s.modPort port f) := hs.modNet

theorem buildFilter (hs : Reaches s₀ s) : Reaches s₀ s.buildFilter :=
  .post (.foldl (.foldl hs.modNet fun _ _ hu => hu.setReg) fun _ _ hu => hu.setBit)

theorem igmpReport (hs : Reaches s₀ s) : Reaches s₀ s.igmpReport :=
  .ite (.modNet (.foldl hs fun _ _ hu => .foldl (.foldl hu fun _ _ hu2 => hu2.emit) fun _ _ hu2 => hu2.emit)) hs

theorem countSent {port cls : Nat} {o : List Octet} (hs : Reaches s₀ s) : Reaches s₀ (s.countSent port cls o) := by
  unfold State.countSent
  extract_lets +onlyGivenNames _ s2
  have hs2 : Reaches s₀ s2 := .ite hs.count.count.count (.ite hs.count.count.count hs.count.count.count)
  exact .ite hs2 hs2.count

theorem enqueue {port : Nat} {f : QueuedFrame} (hs : Reaches s₀ s) : Reaches s₀ (s.enqueue port f) := .ite hs.count hs.modPort

theorem forward {rx : Nat} {f : Frame} {good : Bool} {ecc : Ecc} (hs : Reaches s₀ s) : Reaches s₀ (s.forward rx f good ecc) := by
  unfold State.forward
  refine .ite hs.count ?_
  refine .ite ?_ (.ite hs (.ite hs.count hs.enqueue))
  extract_lets +onlyGivenNames _ _ _ _ _ _ s2
  have hs2 : Reaches s₀ s2 := .ite hs.count.countSent.count hs.count.countSent
  exact .emit (.ite hs2.count hs2)

theorem countReceived {port : Nat} {f : Frame} {k : FcsKind} (hs : Reaches s₀ s) : Reaches s₀ (s.countReceived port f k) := by
  unfold State.countReceived
  extract_lets +onlyGivenNames _ _ _ s2
  have hs2 : Reaches s₀ s2 := .ite hs.count.count hs.count
  refine .ite ?_ ?_
  · extract_lets +onlyGivenNames _ s4 s5 s6 s7 s8
    have hs4 : Reaches s₀ s4 := .ite hs2.count.count (.ite hs2.count.count hs2.count.count)
    have hs5 : Reaches s₀ s5 := by
      unfold s5
      split
      · exact hs4.count
      · exact hs4
    have hs6 : Reaches s₀ s6 := .ite hs5.count hs5
    have hs7 : Reaches s₀ s7 := .ite hs6.count hs6
    have hs8 : Reaches s₀ s8 := .ite hs7.count hs7
    exact .ite hs8.count hs8
  · extract_lets +onlyGivenNames s3 s4
    have hs3 : Reaches s₀ s3 := .ite hs2.count hs2.count
    have hs4 : Reaches s₀ s4 := .ite hs3.count hs3
    exact .ite hs4.count hs4

theorem eccCount {port : Nat} {ecc : Ecc} (hs : Reaches s₀ s) : Reaches s₀ (s.eccCount port ecc) := by
  unfold State.eccCount
  split
  · exact hs
  · exact hs.count
  · exact hs.count.post

theorem deliver {port : Nat} {f : Frame} {ecc : Ecc} (hs : Reaches s₀ s) : Reaches s₀ (s.deliver port f ecc) :=
  .ite hs.count (by split; exacts [hs, .ite hs.count.count (.ite hs.count.count (.ite hs.count.modNet hs.count))])

theorem modGate {port : Nat} {f : GateState → GateState} (hs : Reaches s₀ s) : Reaches s₀ (s.modGate port f) := hs.modPort

theorem gclEnter {port k start : Nat} (hs : Reaches s₀ s) : Reaches s₀ (s.gclEnter port k start) := hs.modGate

theorem gclCopy {port : Nat} (hs : Reaches s₀ s) : Reaches s₀ (s.gclCopy port) :=
  .foldl hs.setReg.setReg.setReg.setReg fun _ _ hu => .ite hu.setReg hu.setReg

theorem gclDoSwap {port : Nat} (hs : Reaches s₀ s) : Reaches s₀ (s.gclDoSwap port) := hs.gclCopy.bump.gclEnter.modGate.setReg.setReg.post

theorem gclRequest {port : Nat} (hs : Reaches s₀ s) : Reaches s₀ (s.gclRequest port) :=
  .ite hs.reply (.ite hs.reply (by split; exacts [hs.post.reply, hs.modGate.setReg.setReg.reply]))

theorem gclCancel {port : Nat} (hs : Reaches s₀ s) :
    Reaches s₀ (s.gclCancel port) := .ite hs.reply (.ite hs.modGate.setReg.setReg.reply hs.reply)

theorem gclStep {port : Nat} (hs : Reaches s₀ s) : Reaches s₀ (s.gclStep port) := by
  unfold State.gclStep
  exact hs.modGate

theorem streamTableWrite {entry sub value : Nat} (hs : Reaches s₀ s) : Reaches s₀ (s.streamTableWrite entry sub value) :=
  .ite hs.reply (.ite hs.reply hs.setReg.buildFilter.igmpReport.reply)

end Reaches

theorem Effects.execRxFrame (dt port : Nat) (f : Frame) (ecc : Ecc) (s : State) : Effects s dt (execRxFrame dt port f ecc s) :=
  .run fun s₀ u hs => by
  refine .ite hs ?_
  extract_lets k s1 n good
  have hs1 : Reaches s₀ s1 := hs.countReceived
  refine .ite hs1 ?_
  extract_lets
  generalize (if good then u.wants f else (false, none)) = wanted
  split
  extract_lets s2 s3 s4
  have hs2 : Reaches s₀ s2 := .ite hs1.eccCount hs1
  have hs3 : Reaches s₀ s3 := by
    unfold s3
    split
    · exact hs2.count
    · exact hs2
  have hs4 : Reaches s₀ s4 := .ite hs3.deliver (.ite hs3.count hs3)
  exact .ite hs4.forward hs4

theorem Effects.execNetmRxFrame (dt : Nat) (f : Frame) (ecc : Ecc) (s : State) : Effects s dt (execNetmRxFrame dt f ecc s) :=
  .run fun _ _ hs => .ite hs (.ite hs.countReceived (.ite hs.countReceived (.ite hs.countReceived.eccCount.deliver hs.countReceived.count)))

theorem Effects.execEgressTransmit (dt port : Nat) (s : State) : Effects s dt (execEgressTransmit dt port s) := .run fun s₀ _ hs => by
  split
  · exact hs
  · split
    · exact hs
    · refine .ite hs ?_
      extract_lets +onlyGivenNames _ _ _ s3
      have hs3 : Reaches s₀ s3 := .ite hs.modPort.countSent.count hs.modPort.countSent
      exact .emit (.ite hs3.count hs3)

theorem Effects.execGateEntryExpiry (dt port : Nat) (s : State) : Effects s dt (execGateEntryExpiry dt port s) := .run fun _ _ hs => by
  exact .ite hs (by split; exacts [.ite hs (.ite hs.setReg.gclDoSwap hs.gclEnter), .ite hs (.ite hs.gclEnter (.ite hs hs.gclEnter))])

theorem Effects.execGclChangeRequest (dt who port : Nat) (s : State) : Effects s dt (execGclChangeRequest dt who port s) :=
  .run fun _ _ hs => .asWriter hs hs.gclRequest

theorem Effects.execGclChangeCancel (dt who port : Nat) (s : State) : Effects s dt (execGclChangeCancel dt who port s) :=
  .run fun _ _ hs => .asWriter hs hs.gclCancel

theorem Effects.execGclSwap (dt port : Nat) (s : State) : Effects s dt (execGclSwap dt port s) := .run fun _ _ hs => .ite hs.gclDoSwap hs

theorem Effects.execLinkUp (dt port : Nat) (s : State) : Effects s dt (execLinkUp dt port s) := .run fun _ _ hs => .ite hs hs.setReg.post

theorem Effects.execModuleDetect (dt port : Nat) (s : State) : Effects s dt (execModuleDetect dt port s) := .run fun _ _ hs => .ite hs hs.modNet

theorem Effects.execFecWindowEnd (dt port corrected uncorrected codewords : Nat) (s : State) :
    Effects s dt (execFecWindowEnd dt port corrected uncorrected codewords s) :=
  .run fun _ _ hs => .ite hs (.ite hs.count.count.modNet.setReg.post (.ite hs.count.count.modNet.setReg hs.count.count.modNet))

theorem Effects.execStreamTableChange (dt who entry sub value : Nat) (s : State) :
    Effects s dt (execStreamTableChange dt who entry sub value s) :=
  .run fun _ _ hs => .asWriter hs hs.streamTableWrite

theorem Effects.execIgmpQuery (dt port : Nat) (s : State) : Effects s dt (execIgmpQuery dt port s) := .run fun _ _ hs => .ite hs hs.igmpReport

/-! The Tower Clock (R78 to R117) -/

namespace Reaches

variable {s₀ s : State}

theorem setServo {st : Nat} (hs : Reaches s₀ s) : Reaches s₀ (s.setServo st) := by
  unfold State.setServo
  refine .ite hs ?_
  extract_lets +onlyGivenNames s1
  have hs1 : Reaches s₀ s1 := hs.setReg.modClock.post
  exact .ite hs1.setBit.setReg hs1

theorem setF {a : ℚ} (hs : Reaches s₀ s) : Reaches s₀ (s.setF a) := hs.modClock.setReg

theorem enterHoldover {cause : Nat} (hs : Reaches s₀ s) : Reaches s₀ (s.enterHoldover cause) :=
  .ite hs (.post (.modClock (.setServo (.ite hs hs.setF))))

theorem loseGm {cause : Nat} (hs : Reaches s₀ s) : Reaches s₀ (s.loseGm cause) := .ite hs.enterHoldover hs.modClock.setServo

theorem dropGm (hs : Reaches s₀ s) : Reaches s₀ s.dropGm := hs.setReg.setReg.setBit

theorem loadTsConst (hs : Reaches s₀ s) : Reaches s₀ s.loadTsConst := .foldl hs fun _ _ hu => hu.setReg

theorem captureOn {ch stamp : Nat} {falling : Bool} (hs : Reaches s₀ s) : Reaches s₀ (s.captureOn ch stamp falling) :=
  .ite hs.bump.post (.ite hs.modClock.bump.post hs.modClock.bump)

theorem capture {source stamp : Nat} (hs : Reaches s₀ s) : Reaches s₀ (s.capture source stamp) := .foldl hs fun _ _ hu => .ite hu.captureOn hu

theorem capPop {ch : Nat} (hs : Reaches s₀ s) : Reaches s₀ (s.capPop ch) := .ite hs.reply hs.modClock.reply.emit

theorem applySample {smp : ClockSample} (hs : Reaches s₀ s) : Reaches s₀ (s.applySample smp) := by
  unfold State.applySample
  extract_lets +onlyGivenNames _
  split
  · exact hs.modClock
  · exact .ite hs.modClock hs.modClock.modClock.setF

theorem lockRuns {within : Bool} (hs : Reaches s₀ s) : Reaches s₀ (s.lockRuns within) :=
  .ite (.ite hs.modClock.setServo hs.modClock) (.ite (.ite hs.modClock.setServo hs.modClock) hs)

theorem refuseSample {smp : ClockSample} (hs : Reaches s₀ s) : Reaches s₀ (s.refuseSample smp) :=
  .ite hs.bump.modClock.enterHoldover.setBit.post hs.bump.modClock.lockRuns

theorem sample {port : Nat} {smp : ClockSample} (hs : Reaches s₀ s) : Reaches s₀ (s.sample port smp) := by
  unfold State.sample
  refine .ite hs.setInt.modClock ?_
  refine .ite hs.setInt.modClock.modClock ?_
  refine .ite hs.setInt.modClock.refuseSample ?_
  refine .ite ?_ hs.setInt.modClock.modClock.applySample.lockRuns
  exact .ite hs.setInt.modClock.modClock (.ite hs.setInt.modClock.modClock.modClock.setServo hs.setInt.modClock.modClock.modClock)

theorem selectMaster (hs : Reaches s₀ s) : Reaches s₀ s.selectMaster := by
  unfold State.selectMaster
  split
  · exact hs
  · extract_lets +onlyGivenNames _ s1 s2 s3
    have hs1 : Reaches s₀ s1 := hs.setReg.setReg.setInt
    have hs2 : Reaches s₀ s2 := .ite hs1.modClock hs1
    have hs3 : Reaches s₀ s3 := .ite hs2.modClock.post hs2
    exact .ite hs3.setServo hs3

theorem reacquireSchedule {t : Nat} (hs : Reaches s₀ s) : Reaches s₀ (s.reacquireSchedule t) := .ite hs.reply hs.setReg.reply

theorem reacquireCancel (hs : Reaches s₀ s) : Reaches s₀ s.reacquireCancel := .ite hs.reply hs.setReg.reply

theorem ptpRestart (hs : Reaches s₀ s) : Reaches s₀ s.ptpRestart := hs.modClock.dropGm.loseGm

theorem loadPtp {value : Nat} (hs : Reaches s₀ s) : Reaches s₀ (s.loadPtp value) := hs.setReg.setReg.setReg

theorem ptpConfigWrite {index value : Nat} (hs : Reaches s₀ s) : Reaches s₀ (s.ptpConfigWrite index value) :=
  .ite hs.reply (.ite hs.reply (.ite hs.reply (.ite hs.reply (.reply (.ptpRestart (.ite hs.loadPtp hs.setReg))))))

theorem voteFail {values : List Nat} (hs : Reaches s₀ s) : Reaches s₀ (s.voteFail values) := by
  unfold State.voteFail
  extract_lets +onlyGivenNames _ _ _ _ _ s2
  have hs2 : Reaches s₀ s2 := hs.modClock.setBit.setBit.post.capture
  exact .ite hs2.setReg.post hs2

theorem turretCorrect {k : Nat} (hs : Reaches s₀ s) : Reaches s₀ (s.turretCorrect k) := by
  unfold State.turretCorrect
  extract_lets +onlyGivenNames _ _ s1
  have hs1 : Reaches s₀ s1 := hs.bump.post.modClock
  exact .ite hs1.capture.modClock.setReg.setBit.post hs1.capture

theorem modCmp {n : Nat} {f : Comparator → Comparator} (hs : Reaches s₀ s) : Reaches s₀ (s.modCmp n f) := hs.modClock

theorem showNext {n : Nat} (hs : Reaches s₀ s) : Reaches s₀ (s.showNext n) := hs.setReg

theorem moveTo {n k : Nat} (hs : Reaches s₀ s) : Reaches s₀ (s.moveTo n k) := hs.modCmp.showNext

theorem endPulse {n : Nat} (hs : Reaches s₀ s) : Reaches s₀ (s.endPulse n) := .ite hs.modCmp.emit hs

theorem skipTo {n t : Nat} (hs : Reaches s₀ s) : Reaches s₀ (s.skipTo n t) := .ite (.ite hs.moveTo.bump hs.moveTo.bump.post) hs

theorem ownFire {n : Nat} (hs : Reaches s₀ s) : Reaches s₀ (s.ownFire n) := hs.bump.capture

theorem cmpApply {n : Nat} (hs : Reaches s₀ s) : Reaches s₀ (s.cmpApply n) := by
  unfold State.cmpApply
  extract_lets +onlyGivenNames s0 _ _ s2
  have hs0 : Reaches s₀ s0 := .ite hs hs.endPulse
  have hs2 : Reaches s₀ s2 := .ite (.ite hs0.modCmp.modCmp.showNext hs0.modCmp.skipTo) hs0.modCmp.showNext
  exact .ite hs2.emit hs2

theorem cmpCommit {n : Nat} (hs : Reaches s₀ s) : Reaches s₀ (s.cmpCommit n) :=
  .ite hs.reply (.ite hs.reply (.ite hs.reply (by split; exacts [hs.post.reply, hs.cmpApply.reply])))

theorem cmpAction {n : Nat} (hs : Reaches s₀ s) : Reaches s₀ (s.cmpAction n) := .ite hs.modCmp.emit (.ite hs.post (.ite hs.capture hs))

theorem cmpFire {n : Nat} {late : Bool} (hs : Reaches s₀ s) :
    Reaches s₀ (s.cmpFire n late) := .moveTo (.cmpAction (.ite hs.bump.bump.post hs.bump))

theorem cmpStep {n old : Nat} (hs : Reaches s₀ s) : Reaches s₀ (s.cmpStep n old) :=
  .ite hs (.ite (.ite hs.cmpFire.skipTo hs) (.ite hs.moveTo hs.skipTo))

end Reaches

theorem Effects.execCapPop (dt who channel : Nat) (s : State) : Effects s dt (execCapPop dt who channel s) :=
  .run fun _ _ hs => .asReader hs hs.capPop

theorem Effects.execBellEdge (dt pin : Nat) (falling : Bool) (heldNs : Nat) (s : State) : Effects s dt (execBellEdge dt pin falling heldNs s) :=
  .run fun _ _ hs => .ite hs (.ite hs (.foldl hs.modClock fun _ _ hu => .ite hu.captureOn hu))

theorem Effects.execSyncReceive (dt : Nat) (m : PtpSync) (s : State) : Effects s dt (execSyncReceive dt m s) :=
  .run fun _ _ hs => .ite hs hs.setReg.modClock.capture.setBit.sample

theorem Effects.execDelayRespReceive (dt : Nat) (m : PtpDelay) (s : State) : Effects s dt (execDelayRespReceive dt m s) :=
  .run fun _ _ hs => .ite hs (.ite (.ite hs hs.modClock) (.ite hs (by split; exacts [hs, hs.modClock.setReg])))

theorem Effects.execPdelayReqReceive (dt port seq : Nat) (s : State) : Effects s dt (execPdelayReqReceive dt port seq s) :=
  .run fun _ _ hs => .ite hs.emit hs

theorem Effects.execAnnounceReceive (dt : Nat) (m : PtpAnnounce) (s : State) : Effects s dt (execAnnounceReceive dt m s) :=
  .run fun _ _ hs => .ite hs hs.modClock.selectMaster

theorem Effects.execSyncTimeout (dt : Nat) (s : State) : Effects s dt (execSyncTimeout dt s) :=
  .run fun _ _ hs => .ite hs.modClock (.ite hs.enterHoldover hs)

theorem Effects.execAnnounceTimeout (dt : Nat) (s : State) : Effects s dt (execAnnounceTimeout dt s) :=
  .run fun _ _ hs => .ite hs (by extract_lets +onlyGivenNames _; split; exacts [hs.modClock.selectMaster, hs.modClock.dropGm.loseGm])

theorem Effects.execHoldoverLimit (dt : Nat) (s : State) : Effects s dt (execHoldoverLimit dt s) := .run fun _ _ hs => .ite hs.setBit.post hs

theorem Effects.execReacquireSchedule (dt who time : Nat) (s : State) : Effects s dt (execReacquireSchedule dt who time s) :=
  .run fun _ _ hs => .asWriter hs (.ite hs.reacquireCancel hs.reacquireSchedule)

theorem Effects.execReacquireCancel (dt who : Nat) (s : State) : Effects s dt (execReacquireCancel dt who s) :=
  .run fun _ _ hs => .asWriter hs hs.reacquireCancel

theorem Effects.execPtpClientRestart (dt who index value : Nat) (s : State) : Effects s dt (execPtpClientRestart dt who index value s) :=
  .run fun _ _ hs => .asWriter hs hs.ptpConfigWrite

theorem Effects.execVoteFailure (dt a b c : Nat) (s : State) :
    Effects s dt (execVoteFailure dt a b c s) := .run fun _ _ hs => .ite hs.voteFail hs

theorem Effects.execTurretMismatch (dt turret time f : Nat) (s : State) : Effects s dt (execTurretMismatch dt turret time f s) :=
  .run fun _ _ hs => .ite hs (.ite hs (by split; exacts [hs.turretCorrect, .ite hs hs.voteFail]))

theorem Effects.execCmpCommit (dt who n : Nat) (s : State) :
    Effects s dt (execCmpCommit dt who n s) := .run fun _ _ hs => .asWriter hs hs.cmpCommit

theorem Effects.execBellPulseEnd (dt n : Nat) (s : State) : Effects s dt (execBellPulseEnd dt n s) := .run fun _ _ hs => hs.endPulse

/-! Rounds and modes of the memory arbiter (R394 to R403) -/

namespace Reaches

variable {s₀ s : State}

theorem modMem {f : Mem → Mem} (hs : Reaches s₀ s) : Reaches s₀ (s.modMem f) := hs.other

theorem grant {r : MemRequest} (hs : Reaches s₀ s) : Reaches s₀ (s.grant r) := .ite hs.modMem.count.setReg hs.modMem.count

theorem age {winner : Nat} (hs : Reaches s₀ s) : Reaches s₀ (s.age winner) := by
  unfold State.age
  exact hs.modMem

theorem parkWaiting (hs : Reaches s₀ s) : Reaches s₀ s.parkWaiting := by
  unfold State.parkWaiting
  exact hs.modMem

theorem modeBoundary (hs : Reaches s₀ s) : Reaches s₀ s.modeBoundary := by
  unfold State.modeBoundary
  split
  · exact hs
  · exact .ite hs.modMem (.ite hs.modMem.setReg.post hs.modMem.setReg.post.parkWaiting)

theorem round (hs : Reaches s₀ s) : Reaches s₀ s.round := by
  unfold State.round
  refine .ite ?_ ?_
  · split
    · exact hs.modMem.modeBoundary.grant.modMem
    · split
      · exact hs.modMem.modeBoundary
      · extract_lets +onlyGivenNames s1
        have hs1 : Reaches s₀ s1 := hs.modMem.modeBoundary.age.grant.modMem
        exact .ite hs1.count hs1
  · extract_lets +onlyGivenNames _
    split
    · exact hs.modMem.modeBoundary.parkWaiting.grant
    · exact hs.modMem.modeBoundary.parkWaiting

theorem arbMode {m : Nat} (hs : Reaches s₀ s) : Reaches s₀ (s.arbMode m) := .ite hs.modMem.modeBoundary hs.modMem

end Reaches

/-! What an epoch shows (R130 to R137, R196) -/

namespace Reaches

variable {s₀ s : State}

theorem modFrame {id : Nat} {f : IngestFrame → IngestFrame} (hs : Reaches s₀ s) : Reaches s₀ (s.modFrame id f) := hs.modIngest

theorem dropFrame {id : Nat} (hs : Reaches s₀ s) : Reaches s₀ (s.dropFrame id) := hs.modIngest

theorem noteEnded {stream time srcEpoch : Nat} (hs : Reaches s₀ s) : Reaches s₀ (s.noteEnded stream time srcEpoch) := hs.modIngest

theorem endFrame {f : IngestFrame} (hs : Reaches s₀ s) : Reaches s₀ (s.endFrame f) := hs.dropFrame.noteEnded

theorem endInForce {f : IngestFrame} (hs : Reaches s₀ s) : Reaches s₀ (s.endInForce f) := hs.endFrame.modIngest

theorem collect (hs : Reaches s₀ s) : Reaches s₀ s.collect := .foldl hs fun _ _ hu => hu.endInForce

theorem skipUnshown {e : Epoch} {layer : Nat} (hs : Reaches s₀ s) :
    Reaches s₀ (s.skipUnshown e layer) := .foldl hs fun _ _ hu => hu.count.endInForce

theorem resolveFetch {e : Epoch} {r : Resolution} {o : BelOp} (hs : Reaches s₀ s) : Reaches s₀ (s.resolveFetch e r o) :=
  .ite hs.count.cancelOp (.ite hs.count.cancelOp hs.makeReady)

theorem feedPartner {epoch : Nat} (hs : Reaches s₀ s) : Reaches s₀ (s.feedPartner epoch) := by
  unfold State.feedPartner
  split
  · exact hs.feedEnd
  · exact hs

theorem resolveLayer {epoch layer : Nat} {r : Resolution} (hs : Reaches s₀ s) : Reaches s₀ (s.resolveLayer epoch layer r) := by
  unfold State.resolveLayer
  extract_lets +onlyGivenNames _ s2
  have hs2 : Reaches s₀ s2 := by
    unfold s2
    split
    · split
      · exact .ite hs.modEpoch hs.modEpoch.modFrame.count.count
      · exact hs.modEpoch
    · exact hs.modEpoch
  split
  · exact hs2
  · exact .feedPartner (.feedLayer (.showQueues (.collect (.skipUnshown (.foldl hs2 fun _ _ hu => hu.resolveFetch)))))

theorem raiseReady {e : Epoch} {layer : Nat} (hs : Reaches s₀ s) : Reaches s₀ (s.raiseReady e layer) :=
  .ite hs (.ite hs.modEpoch.modIngest.post hs.modEpoch)

theorem tryLayer {epoch layer : Nat} (hs : Reaches s₀ s) : Reaches s₀ (s.tryLayer epoch layer) := by
  unfold State.tryLayer
  split
  · exact hs
  · refine .ite hs ?_
    refine .ite (by split; exacts [hs.raiseReady.resolveLayer, hs.raiseReady]) ?_
    exact .ite (.foldl hs.raiseReady fun _ _ hu => by split; exacts [hu.resolveLayer, hu]) hs.raiseReady

theorem tryEpoch {epoch : Nat} (hs : Reaches s₀ s) : Reaches s₀ (s.tryEpoch epoch) := .foldl hs fun _ _ hu => hu.tryLayer

theorem tryAll {layer : Nat} (hs : Reaches s₀ s) : Reaches s₀ (s.tryAll layer) := .foldl hs fun _ _ hu => hu.tryLayer

theorem addOp {e : Epoch} {brick engine unmet : Nat} {op : Nat × Nat × Nat} (hs : Reaches s₀ s) : Reaches s₀ (s.addOp e brick engine unmet op) :=
  hs.modBelfry.modEngine.trace

theorem addBrick {e : Epoch} {brick engine : Nat} {ops : List (Nat × Nat × Nat)} (hs : Reaches s₀ s) :
    Reaches s₀ (s.addBrick e brick engine ops) := by
  unfold State.addBrick
  refine .foldl (.modEngine (.foldl hs.modBelfry fun _ _ hu => hu.addOp)) fun _ _ hu => ?_
  exact .ite (.ite hu.makeReady (by split; exacts [hu, hu.resolveFetch])) (.ite hu.makeReady hu)

theorem addBricks {epoch n : Nat} (hs : Reaches s₀ s) : Reaches s₀ (State.addBricks epoch n s) := by
  induction n generalizing s with
  | zero => exact hs
  | succ n ih =>
    unfold State.addBricks
    split
    · exact hs
    · extract_lets
      refine .ite hs ?_
      extract_lets
      split
      · exact ih hs.addBrick.modEpoch
      · exact .ite hs (.ite hs.count.modEpoch hs.count.modEpoch.post)

theorem resume (hs : Reaches s₀ s) : Reaches s₀ s.resume := .foldl hs fun _ _ hu => hu.addBricks

theorem budget {e : Epoch} (hs : Reaches s₀ s) : Reaches s₀ (s.budget e) := .ite hs.count.post.trace hs

theorem orderInstall (hs : Reaches s₀ s) : Reaches s₀ s.orderInstall := .foldl hs.setReg fun _ _ hu => hu.setReg

theorem orderSwap {epoch : Nat} (hs : Reaches s₀ s) : Reaches s₀ (s.orderSwap epoch) := .ite hs.orderInstall.setReg.setReg.post hs

theorem excludeModules {k : Nat} (hs : Reaches s₀ s) : Reaches s₀ (s.excludeModules k) :=
  .foldl hs fun _ _ hu => by split; exacts [hu.post, .ite hu.modLink hu.modLink.post]

theorem mapInstall (hs : Reaches s₀ s) : Reaches s₀ s.mapInstall :=
  .setReg (.setReg (.foldl (.foldl hs.modScan fun _ _ hu => hu.setReg) fun _ _ hu => hu.setReg.setReg))

theorem mapSwap {epoch : Nat} (hs : Reaches s₀ s) : Reaches s₀ (s.mapSwap epoch) :=
  .ite (.judgeGeometry (.foldl hs.mapInstall.setReg.setReg.count.post.suspendAll fun _ _ hu => .ite hu hu.excludeModules)) hs

theorem halfSwap {epoch : Nat} (hs : Reaches s₀ s) : Reaches s₀ (s.halfSwap epoch) := .foldl hs.modCal.modTwin fun _ _ hu => hu.setInt

theorem cameraArm (hs : Reaches s₀ s) : Reaches s₀ s.cameraArm := .foldl hs fun _ _ hu => .ite hu (by split; exacts [hu, hu.modCmp.showNext])

theorem buildGraph {epoch : Nat} (hs : Reaches s₀ s) : Reaches s₀ (s.buildGraph epoch) := by
  simp only [State.buildGraph]
  split
  · exact hs
  · refine .feedPartner ?_
    refine .cameraArm ?_
    refine .showQueues ?_
    refine .tryEpoch ?_
    refine .foldl ?_ fun _ _ hu => by split; exacts [.ite hu hu.skipUnshown, hu]
    refine .addBricks ?_
    split
    · exact hs.orderSwap.mapSwap.halfSwap.modEpoch.modBelfry.budget
    · exact hs.orderSwap.mapSwap.halfSwap.modEpoch.modBelfry

theorem reloadEngines (hs : Reaches s₀ s) : Reaches s₀ s.reloadEngines := .ite hs.modBelfry.setReg.arbMode hs

theorem instantiate (hs : Reaches s₀ s) : Reaches s₀ s.instantiate := by
  unfold State.instantiate
  extract_lets +onlyGivenNames s'
  have hs' : Reaches s₀ s' := hs.reloadEngines
  refine .ite hs' ?_
  split
  · exact hs'.modEpoch.buildGraph
  · split
    · extract_lets +onlyGivenNames _ _ _ s1 _ s3
      have hs1 : Reaches s₀ s1 := hs'.other
      have hs3 : Reaches s₀ s3 := by
        unfold s3
        split
        · exact hs1.modScan.setReg.post
        · exact hs1.modScan
      exact hs3.buildGraph
    · exact hs'

end Reaches

theorem Effects.execComparatorFire (dt n : Nat) (s : State) : Effects s dt (execComparatorFire dt n s) :=
  .run fun _ _ hs => .ite hs (.ite hs.cmpFire.cameraArm hs.cmpFire)

theorem Effects.execInstantiate (dt : Nat) (s : State) : Effects s dt (execInstantiate dt s) := .run fun _ _ hs => hs.instantiate

/-! Stream ingest (R118 to R150) -/

namespace Reaches

variable {s₀ s : State}

theorem formatEvent {record reason : Nat} (hs : Reaches s₀ s) : Reaches s₀ (s.formatEvent record reason) := hs.post

theorem fenceUnmatched {layer fenceId : Nat} (hs : Reaches s₀ s) : Reaches s₀ (s.fenceUnmatched layer fenceId) := .post (.ite hs.count hs)

theorem keepFence {e : FenceEntry} (hs : Reaches s₀ s) : Reaches s₀ (s.keepFence e) := by
  unfold State.keepFence
  split
  · exact .ite hs.modCupola.fenceUnmatched hs.modCupola
  · exact hs.modCupola

theorem abandonUnshown {f : IngestFrame} (hs : Reaches s₀ s) : Reaches s₀ (s.abandonUnshown f) :=
  .foldl (.ite hs.count.endInForce hs.count.endFrame) fun _ _ hu => hu.modEpoch

theorem abandonShown {f : IngestFrame} (hs : Reaches s₀ s) : Reaches s₀ (s.abandonShown f).1 :=
  .foldl hs fun _ _ hu => .squash (.ite hu.modEpoch (.foldl hu.modEpoch fun _ _ hv => .ite hv.count hv.count.modEpoch))

theorem fenceAbandon {layer stream fenceId : Nat} (hs : Reaches s₀ s) : Reaches s₀ (s.fenceAbandon layer stream fenceId) := by
  unfold State.fenceAbandon
  split
  · exact hs.keepFence
  · extract_lets s0
    have hs0 : Reaches s₀ s0 := .ite hs.count hs
    exact .post (.ite_fst hs0.abandonShown hs0.abandonUnshown)

theorem fenceRelease {layer stream fenceId : Nat} (hs : Reaches s₀ s) : Reaches s₀ (s.fenceRelease layer stream fenceId) := by
  unfold State.fenceRelease
  split
  · exact hs.keepFence
  · exact .ite hs.fenceUnmatched hs.modFrame.tryAll

theorem fenceMessage {p : WsfPacket} (hs : Reaches s₀ s) : Reaches s₀ (s.fenceMessage p) :=
  .ite (.ite hs.fenceRelease hs.fenceAbandon) hs.count.formatEvent

theorem meetFence {id : Nat} (hs : Reaches s₀ s) : Reaches s₀ (s.meetFence id) := by
  unfold State.meetFence
  split
  · exact hs
  · exact .ite hs (by split; exacts [hs, .ite hs.modCupola.fenceAbandon hs.modCupola.modFrame])

theorem abandonIncomplete {f : IngestFrame} (hs : Reaches s₀ s) : Reaches s₀ (s.abandonIncomplete f) := hs.count.endFrame

theorem endEarlier {stream time : Nat} {control : Bool} (hs : Reaches s₀ s) : Reaches s₀ (s.endEarlier stream time control) :=
  .foldl hs fun _ _ hu => hu.abandonIncomplete

theorem acceptFrame {f : IngestFrame} (hs : Reaches s₀ s) : Reaches s₀ (s.acceptFrame f) :=
  .meetFence (.modIngest (.ite hs.endEarlier.count.count hs.endEarlier.count))

theorem handOver {f : IngestFrame} (hs : Reaches s₀ s) : Reaches s₀ (s.handOver f) := hs.modIngest.endInForce

theorem countLate {f : IngestFrame} (hs : Reaches s₀ s) : Reaches s₀ (s.countLate f) := hs.count.post.endInForce

theorem replacedEvent {layer epoch : Nat} (hs : Reaches s₀ s) : Reaches s₀ (s.replacedEvent layer epoch) := hs.post

theorem replaceFrame {f old : IngestFrame} (hs : Reaches s₀ s) : Reaches s₀ (s.replaceFrame f old) := by
  unfold State.replaceFrame
  extract_lets +onlyGivenNames _ _
  split
  · refine .ite ?_ hs.countLate
    refine .ite (.squash (.ite hs.modFrame.replacedEvent.modEpoch.modFrame.count.count hs.modFrame.replacedEvent.modEpoch)) ?_
    exact hs.modFrame.count.replacedEvent.endInForce.tryAll
  · exact .ite hs.countLate hs.modFrame.count.replacedEvent.endInForce.tryAll

theorem skipResolved {f : IngestFrame} (hs : Reaches s₀ s) : Reaches s₀ (s.skipResolved f) := by
  unfold State.skipResolved
  split
  · exact .ite hs hs.count.endInForce
  · exact .ite hs.count.endInForce hs

theorem settleReplacement {f : IngestFrame} {o : Nat} (hs : Reaches s₀ s) : Reaches s₀ (s.settleReplacement f o) := by
  unfold State.settleReplacement
  split
  · exact hs.replaceFrame
  · exact hs.modFrame.skipResolved.tryAll

theorem frameComplete {id : Nat} {pixels : List Nat} (hs : Reaches s₀ s) : Reaches s₀ (s.frameComplete id pixels) := by
  unfold State.frameComplete
  split
  · exact hs
  · refine .ite (.ite hs.count.post.handOver hs.modFrame) ?_
    refine .ite hs.countLate ?_
    extract_lets +onlyGivenNames _ _
    split
    · exact .ite hs.modFrame.modIngest hs.modFrame.modIngest.settleReplacement
    · exact .tryAll (.foldl hs.modFrame.modIngest.skipResolved fun _ _ hu => .ite hu.raiseReady hu)

theorem checkFrame {id : Nat} (hs : Reaches s₀ s) : Reaches s₀ (s.checkFrame id) := by
  unfold State.checkFrame
  split
  · exact hs
  · exact .ite hs.count.formatEvent.endFrame (.ite hs.count.post.endFrame hs.frameComplete)

theorem placePacket {id : Nat} {p : WsfPacket} {need : Nat} (hs : Reaches s₀ s) : Reaches s₀ (s.placePacket id p need) := by
  unfold State.placePacket
  split
  · exact hs
  · exact .ite hs.count (by split; exacts [hs.count.formatEvent.endFrame, .ite hs.modFrame.checkFrame hs.modFrame])

theorem firstPacket {p : WsfPacket} {layer need : Nat} (hs : Reaches s₀ s) : Reaches s₀ (s.firstPacket p layer need) := by
  unfold State.firstPacket
  refine .ite hs.count.noteEnded ?_
  refine .ite hs.count.noteEnded ?_
  refine .ite hs.count.noteEnded ?_
  extract_lets +onlyGivenNames _
  split
  · exact .ite hs.count.noteEnded hs.acceptFrame.placePacket
  · exact .ite hs.count.noteEnded (.ite hs.acceptFrame.placePacket hs.count.replacedEvent.endFrame.acceptFrame.placePacket)

theorem wsfPacket {p : WsfPacket} {need : Nat} (hs : Reaches s₀ s) : Reaches s₀ (s.wsfPacket p need) := by
  simp only [State.wsfPacket]
  refine .ite hs.count.formatEvent ?_
  refine .ite hs.count.formatEvent ?_
  refine .ite hs.fenceMessage ?_
  exact .ite hs.count.formatEvent (by split; exacts [hs.placePacket, .ite hs.count (.ite hs (.ite hs.count.noteEnded hs.firstPacket))])

theorem takeCells (hs : Reaches s₀ s) : Reaches s₀ s.takeCells := hs.modNet

theorem takePacket {p : WsfPacket} (hs : Reaches s₀ s) : Reaches s₀ (s.takePacket p) := hs.takeCells.wsfPacket

theorem holdGroup {e : Epoch} {g : Nat} (hs : Reaches s₀ s) :
    Reaches s₀ (s.holdGroup e g) := .post (.foldl hs fun _ _ hu => hu.count.resolveLayer)

theorem notReady {e : Epoch} {layer : Nat} (hs : Reaches s₀ s) : Reaches s₀ (s.notReady e layer) := .ite hs.count hs.count.modIngest.post

theorem layerTimeout {e : Epoch} {layer : Nat} (hs : Reaches s₀ s) : Reaches s₀ (s.layerTimeout e layer) := by
  unfold State.layerTimeout
  refine .ite hs.modEpoch.modIngest.skipUnshown ?_
  extract_lets +onlyGivenNames _ s3
  have hs3 : Reaches s₀ s3 := .ite hs.modEpoch.modIngest hs.modEpoch.modIngest.notReady
  exact .ite hs3 (.ite hs3.holdGroup (.resolveLayer (.ite hs3.count.post hs3)))

theorem setPitch {l : Nat} (hs : Reaches s₀ s) : Reaches s₀ (s.setPitch l) := .ite hs.setReg.count.post hs.setReg

theorem layerEnable {l value : Nat} (hs : Reaches s₀ s) : Reaches s₀ (s.layerEnable l value) :=
  .ite hs.reply (.ite hs.reply (.ite hs.setReg.reply (.ite hs.reply (by split; exacts [hs.post.reply, hs.setPitch.setReg.reply]))))

theorem sequence {entry number : Nat} (hs : Reaches s₀ s) : Reaches s₀ (s.sequence entry number).1 := by
  have hlost : ∀ {p : Prop} [Decidable p] {r : Reg} {n : Nat}, Reaches s₀ (if p then s else s.count r n) := .ite hs hs.count
  simp only [State.sequence]
  refine .ite_fst hs.count ?_
  dsimp only
  exact .modIngest (.ite hlost hlost.post)

theorem videoLayer {p : VideoPacket} {l need : Nat} (hs : Reaches s₀ s) : Reaches s₀ (s.videoLayer p l need) := by
  unfold State.videoLayer
  extract_lets +onlyGivenNames _ _ _ s0 refuse s1
  have hs0 : Reaches s₀ s0 := hs.modIngest
  have hrefuse : ∀ r, Reaches s₀ (refuse r) := fun r => hs0.count.noteEnded
  have hs1 : Reaches s₀ s1 := by
    unfold s1
    refine .ite hs (.ite (hrefuse _) ?_)
    split
    · exact hrefuse _
    · exact hrefuse _
    · exact hs0.acceptFrame
  clear_value s1
  split
  extract_lets
  split
  · exact hs1
  · exact .ite hs1 (.ite hs1.modFrame.frameComplete hs1.modFrame)

theorem videoFor {p : VideoPacket} {l need : Nat} (hs : Reaches s₀ s) : Reaches s₀ (s.videoFor p l need).1 := hs.videoLayer

end Reaches

theorem Effects.execWsfPacket (dt : Nat) (p : WsfPacket) (s : State) : Effects s dt (execWsfPacket dt p s) := .run fun _ _ hs => hs.takePacket

theorem Effects.execControlFrameHandover (dt : Nat) (s : State) : Effects s dt (execControlFrameHandover dt s) :=
  .run fun _ _ hs => .foldl hs fun _ _ hu => hu.count.handOver

theorem Effects.execControlFrameAbandon (dt : Nat) (s : State) : Effects s dt (execControlFrameAbandon dt s) :=
  .run fun _ _ hs => .foldl hs fun _ _ hu => hu.abandonIncomplete

theorem Effects.execFenceRelease (dt : Nat) (p : WsfPacket) (s : State) :
    Effects s dt (execFenceRelease dt p s) := .run fun _ _ hs => hs.takePacket

theorem Effects.execFenceAbandon (dt : Nat) (p : WsfPacket) (s : State) :
    Effects s dt (execFenceAbandon dt p s) := .run fun _ _ hs => hs.takePacket

theorem Effects.execFenceEntryExpiry (dt : Nat) (s : State) : Effects s dt (execFenceEntryExpiry dt s) :=
  .run fun _ _ hs => .foldl hs.modCupola fun _ _ hu => hu.fenceUnmatched

theorem Effects.execLayerTimeout (dt layer : Nat) (s : State) : Effects s dt (execLayerTimeout dt layer s) :=
  .run fun _ _ hs => by split; exacts [.ite hs.layerTimeout hs, hs]

theorem Effects.execIncompleteAbandon (dt : Nat) (s : State) : Effects s dt (execIncompleteAbandon dt s) :=
  .run fun _ _ hs => .foldl hs fun _ _ hu => hu.abandonIncomplete

theorem Effects.execFrameCreditWaitEnd (dt layer : Nat) (s : State) : Effects s dt (execFrameCreditWaitEnd dt layer s) := .run fun _ _ hs => by
  split
  · extract_lets +onlyGivenNames _
    split
    · exact .ite hs.modFrame.settleReplacement hs.modFrame
    · exact hs.modFrame.tryAll
  · exact hs

theorem Effects.execLayerEnable (dt who layer value : Nat) (s : State) : Effects s dt (execLayerEnable dt who layer value s) :=
  .run fun _ _ hs => .asWriter hs hs.layerEnable

theorem Effects.execSt2110Packet (dt : Nat) (p : VideoPacket) (s : State) : Effects s dt (execSt2110Packet dt p s) := .run fun _ _ hs => by
  extract_lets s1 layers
  clear_value layers
  cases layers with
  | nil => exact hs.takeCells
  | cons l ls => exact .ite hs.takeCells.sequence (.ite hs.takeCells.sequence.count.formatEvent
      (.foldl_fst hs.takeCells.sequence fun _ _ hu => hu.videoFor))

/-! Belfry at run time (R161 to R187) -/

namespace Reaches

variable {s₀ s : State}

theorem dispatch {k : Nat} {o : BelOp} (hs : Reaches s₀ s) : Reaches s₀ (s.dispatch k o) := by
  unfold State.dispatch
  split
  · exact hs.modOp.modEngine.modBelfry.count.trace.showQueues
  · exact hs

theorem retire {e : Nat} (hs : Reaches s₀ s) : Reaches s₀ (s.retire e) := hs.other.collect

theorem showEngines (hs : Reaches s₀ s) : Reaches s₀ s.showEngines := hs.setReg

theorem restartBricks {k : Nat} (hs : Reaches s₀ s) : Reaches s₀ (s.restartBricks k) :=
  .foldl hs.modEngine fun _ _ hu => by split; exacts [.ite hu.modBelfry.modEpoch hu, hu]

theorem traceRead (hs : Reaches s₀ s) : Reaches s₀ s.traceRead := hs.setReg.setBit.setBit.emit

theorem traceRewind {value : Nat} (hs : Reaches s₀ s) : Reaches s₀ (s.traceRewind value) := .ite hs.reply hs.setReg.reply

theorem traceMark {value : Nat} (hs : Reaches s₀ s) : Reaches s₀ (s.traceMark value) := hs.setReg.setBit.reply

theorem traceSize {value : Nat} (hs : Reaches s₀ s) : Reaches s₀ (s.traceSize value) := .ite hs.reply hs.setReg.modBelfry.setBit.reply

theorem statsWindow {value : Nat} (hs : Reaches s₀ s) : Reaches s₀ (s.statsWindow value) := .ite hs.setReg.modBelfry.reply hs.reply

end Reaches

theorem Effects.execDispatch (dt engine : Nat) (s : State) : Effects s dt (execDispatch dt engine s) :=
  .run fun _ _ hs => .ite (by split; exacts [hs.dispatch, hs]) hs

theorem Effects.execUrgentPriority (dt : Nat) (s : State) : Effects s dt (execUrgentPriority dt s) :=
  .run fun _ _ hs => by split; exacts [.ite hs.modEpoch.reprioritise.showQueues hs, hs]

theorem Effects.execSquashBarrier (dt epoch : Nat) (s : State) : Effects s dt (execSquashBarrier dt epoch s) := .run fun _ _ hs => by
  refine .ite hs ?_
  split
  · split
    · exact .showQueues (.resume (.ite hs.trace.modEpoch.collect hs.trace.retire.reprioritise))
    · exact hs
  · exact hs

theorem Effects.execWatchdogTrip (dt engine : Nat) (s : State) : Effects s dt (execWatchdogTrip dt engine s) := .run fun s₀ _ hs => by
  split
  · exact hs
  · refine .ite hs ?_
    extract_lets +onlyGivenNames _ _ _ _ s3 s4
    have hs3 : Reaches s₀ s3 := .ite hs.count.post.modEngine.trace.post.showEngines hs.count.post.modEngine.trace
    have hs4 : Reaches s₀ s4 := .ite hs3.setReg hs3
    exact .showQueues (.resume (.restartBricks (.ite hs4.makeReady hs4)))

theorem Effects.execTraceGapRecord (dt : Nat) (s : State) : Effects s dt (execTraceGapRecord dt s) :=
  .run fun _ _ hs => .ite hs hs.modBelfry.traceStore

theorem Effects.execBelTraceRead (dt who : Nat) (s : State) :
    Effects s dt (execBelTraceRead dt who s) := .run fun _ _ hs => .asReader hs hs.traceRead

theorem Effects.execBelTraceRewind (dt who value : Nat) (s : State) : Effects s dt (execBelTraceRewind dt who value s) :=
  .run fun _ _ hs => .asWriter hs hs.traceRewind

theorem Effects.execBelTraceMark (dt who value : Nat) (s : State) : Effects s dt (execBelTraceMark dt who value s) :=
  .run fun _ _ hs => .asWriter hs hs.traceMark

theorem Effects.execStatsWindowEnd (dt : Nat) (s : State) : Effects s dt (execStatsWindowEnd dt s) :=
  .run fun _ _ hs => .ite hs (.modBelfry (.foldl (.foldl hs fun _ _ hu => hu.setReg.setReg) fun _ _ hu => hu.setReg))

theorem Effects.execBelStatsWindow (dt who value : Nat) (s : State) : Effects s dt (execBelStatsWindow dt who value s) :=
  .run fun _ _ hs => .asWriter hs hs.statsWindow

/-! The results of the pixel operations -/

namespace Reaches

variable {s₀ s : State}

theorem modContext {engine epoch brick : Nat} {f : BrickContext → BrickContext} (hs : Reaches s₀ s) :
    Reaches s₀ (s.modContext engine epoch brick f) :=
  hs.modEngine

theorem pagesFailed {layer : Nat} {bad : List Nat} (hs : Reaches s₀ s) :
    Reaches s₀ (s.pagesFailed layer bad) := .foldl hs fun _ _ hu => hu.count.post

theorem landFetch {e : Epoch} {o : BelOp} {k : Nat} {bad : List Nat} (hs : Reaches s₀ s) : Reaches s₀ (s.landFetch e o k bad) := by
  unfold State.landFetch
  split
  · split
    · exact hs.pagesFailed.modContext
    · exact hs
  · exact hs

theorem modDecision {f : Decision → Decision} (hs : Reaches s₀ s) : Reaches s₀ (s.modDecision f) := hs.modCupola.setReg

theorem landFinial {o : BelOp} {f : ReadFaults} (hs : Reaches s₀ s) : Reaches s₀ (s.landFinial o f) := by
  unfold State.landFinial
  refine .foldl hs fun _ _ hu => ?_
  refine .ite ?_ hu.count.post
  refine .ite hu ?_
  extract_lets +onlyGivenNames s1
  have hs1 : Reaches s₀ s1 := hu.modDecision
  exact hs1.other.count.post

theorem landComposite {e : Epoch} {o : BelOp} {k : Nat} (hs : Reaches s₀ s) : Reaches s₀ (s.landComposite e o k) := by
  unfold State.landComposite
  split
  · exact hs
  · exact hs.modContext.modCupola.modScan

theorem landCalibrate {e : Epoch} {o : BelOp} {k : Nat} (hs : Reaches s₀ s) : Reaches s₀ (s.landCalibrate e o k) := by
  unfold State.landCalibrate
  split
  · exact hs
  · exact .modContext (.ite hs hs.count)

theorem landRemap {e : Epoch} {o : BelOp} {k : Nat} (hs : Reaches s₀ s) : Reaches s₀ (s.landRemap e o k) := hs.modContext

theorem landDither {e : Epoch} {o : BelOp} {k : Nat} (hs : Reaches s₀ s) : Reaches s₀ (s.landDither e o k) := hs.modContext

theorem landPack {e : Epoch} {o : BelOp} {k : Nat} (hs : Reaches s₀ s) : Reaches s₀ (s.landPack e o k) := by
  unfold State.landPack
  split
  · exact hs
  · exact hs.modCupola

theorem landPixel {e : Epoch} {o : BelOp} {k : Nat} {f : ReadFaults} (hs : Reaches s₀ s) : Reaches s₀ (s.landPixel e o k f) :=
  .ite (.ite hs.landFinial hs.landFetch) (.ite hs.landComposite (.ite hs.landCalibrate (.ite hs.landRemap (.ite hs.landDither hs.landPack))))

theorem finishOp {o : BelOp} {k since : Nat} (hs : Reaches s₀ s) : Reaches s₀ (s.finishOp o k since) :=
  .ite hs.modBelfry.freeOp.trace.releaseSuccessors.brickEnd hs.modBelfry.freeOp.trace.releaseSuccessors

end Reaches

/-! Cupola's commands (R190 to R213) -/

namespace Reaches

variable {s₀ s : State}

theorem orderRequest (hs : Reaches s₀ s) : Reaches s₀ s.orderRequest := .ite hs.reply (by split; exacts [hs.post.reply, hs.setReg.reply])

theorem orderCancel (hs : Reaches s₀ s) : Reaches s₀ s.orderCancel := .ite hs.setReg.reply hs.reply

theorem refuseMessage {r : Reg} {reason region : Nat} (hs : Reaches s₀ s) : Reaches s₀ (s.refuseMessage r reason region) := hs.count.post

theorem supersedeRect {r : Rect} (hs : Reaches s₀ s) : Reaches s₀ (s.supersedeRect r) := .foldl hs fun _ _ hu => hu.squash

theorem showRegion {region : Nat} (hs : Reaches s₀ s) : Reaches s₀ (s.showRegion region) := hs.setReg

theorem assertRegion {region slot : Nat} {blanked : Bool} (hs : Reaches s₀ s) : Reaches s₀ (s.assertRegion region slot blanked) :=
  hs.modDecision.showRegion.post.supersedeRect

theorem noteRelease {region : Nat} (hs : Reaches s₀ s) : Reaches s₀ (s.noteRelease region) := hs.modCupola

theorem releaseRegion {region : Nat} (hs : Reaches s₀ s) : Reaches s₀ (s.releaseRegion region) :=
  .ite hs.modDecision.modCupola.noteRelease.showRegion.post hs

theorem liveAgain (hs : Reaches s₀ s) : Reaches s₀ s.liveAgain :=
  .ite (.foldl hs.setReg.modCupola.post.modCupola fun _ _ hu => .ite hu.assertRegion hu) hs.setReg.modCupola

theorem acceptMessage {m : SafetyMessage} (hs : Reaches s₀ s) : Reaches s₀ (s.acceptMessage m) :=
  .liveAgain (.ite hs.count.modCupola hs.count.modCupola.count)

theorem setSlot {region slot : Nat} {c : Option FinialSlot} (hs : Reaches s₀ s) : Reaches s₀ (s.setSlot region slot c) := hs.modCupola

theorem uploadContent {m : SafetyMessage} (hs : Reaches s₀ s) : Reaches s₀ (s.uploadContent m) :=
  .ite hs (.ite (.ite hs.setSlot.modCupola hs.setSlot.count.post) hs.setSlot)

theorem assertMessage {m : SafetyMessage} (hs : Reaches s₀ s) : Reaches s₀ (s.assertMessage m) := by
  unfold State.assertMessage
  extract_lets +onlyGivenNames _ _
  split
  · exact hs.post
  · exact .ite hs (.ite hs hs.assertRegion.modCupola)

theorem safetyMessage {m : SafetyMessage} (hs : Reaches s₀ s) : Reaches s₀ (s.safetyMessage m) := by
  unfold State.safetyMessage
  refine .ite hs ?_
  refine .ite hs.refuseMessage ?_
  refine .ite hs.refuseMessage ?_
  refine .ite hs.refuseMessage ?_
  extract_lets +onlyGivenNames s0
  have hs0 : Reaches s₀ s0 := .ite hs.modCupola hs
  refine .ite hs0.acceptMessage.uploadContent ?_
  exact .ite hs0.acceptMessage.assertMessage (.ite hs0.acceptMessage.noteRelease.releaseRegion hs0.acceptMessage)

theorem staleRegion {region : Nat} (hs : Reaches s₀ s) : Reaches s₀ (s.staleRegion region) :=
  .ite (.ite (.ite hs hs.assertRegion.modCupola) (.ite hs.releaseRegion hs)) hs

theorem finialDisable (hs : Reaches s₀ s) : Reaches s₀ s.finialDisable := .reply (.setReg (.setReg (.foldl hs fun _ _ hu => hu.releaseRegion)))

theorem finialEnable (hs : Reaches s₀ s) : Reaches s₀ s.finialEnable := hs.setReg.setReg.reply

theorem finialKey {key : List Octet} (hs : Reaches s₀ s) : Reaches s₀ (s.finialKey key) := .ite hs.reply hs.other.setReg.reply

theorem previewTake {value : Nat} (hs : Reaches s₀ s) : Reaches s₀ (s.previewTake value) := .ite hs.reply hs.setReg.reply

theorem previewSnapshot {e : Epoch} (hs : Reaches s₀ s) : Reaches s₀ (s.previewSnapshot e) := by
  unfold State.previewSnapshot
  refine .ite ?_ hs
  extract_lets +onlyGivenNames _ __src
  have h__src : Reaches s₀ __src := hs.modCupola.setReg
  exact h__src.other

theorem previewRead (hs : Reaches s₀ s) : Reaches s₀ s.previewRead := by
  unfold State.previewRead
  split
  · exact hs.reply
  · exact hs.emit

end Reaches

theorem Effects.execOrderChangeRequest (dt who : Nat) (s : State) : Effects s dt (execOrderChangeRequest dt who s) :=
  .run fun _ _ hs => .asWriter hs hs.orderRequest

theorem Effects.execOrderChangeCancel (dt who : Nat) (s : State) : Effects s dt (execOrderChangeCancel dt who s) :=
  .run fun _ _ hs => .asWriter hs hs.orderCancel

theorem Effects.execFinialHeartbeat (dt : Nat) (m : SafetyMessage) (s : State) : Effects s dt (execFinialHeartbeat dt m s) :=
  .run fun _ _ hs => hs.safetyMessage

theorem Effects.execFinialContent (dt : Nat) (m : SafetyMessage) (s : State) : Effects s dt (execFinialContent dt m s) :=
  .run fun _ _ hs => hs.safetyMessage

theorem Effects.execFinialAssert (dt : Nat) (m : SafetyMessage) (s : State) : Effects s dt (execFinialAssert dt m s) :=
  .run fun _ _ hs => hs.safetyMessage

theorem Effects.execFinialRelease (dt : Nat) (m : SafetyMessage) (s : State) : Effects s dt (execFinialRelease dt m s) :=
  .run fun _ _ hs => hs.safetyMessage

theorem Effects.execFinialStale (dt : Nat) (s : State) : Effects s dt (execFinialStale dt s) :=
  .run fun _ _ hs => .ite hs (.foldl hs.setReg.count.post fun _ _ hu => hu.staleRegion)

theorem Effects.execFinialDisable (dt who : Nat) (s : State) : Effects s dt (execFinialDisable dt who s) :=
  .run fun _ _ hs => .asWriter hs hs.finialDisable

theorem Effects.execFinialKeyWrite (dt who : Nat) (key : List Octet) (s : State) : Effects s dt (execFinialKeyWrite dt who key s) :=
  .run fun _ _ hs => .asWriter hs hs.finialKey

theorem Effects.execDecisionMismatch (dt : Nat) (asserted blanked : List Nat) (slots : List (List Nat)) (s : State) :
    Effects s dt (execDecisionMismatch dt asserted blanked slots s) := .run fun _ _ hs => by
  refine .ite (.foldl hs.modDecision fun _ _ hu => hu.showRegion) ?_
  refine .ite (.post (.count (.foldl hs.modDecision fun _ _ hu => hu.showRegion))) ?_
  refine .ite (.post (.count (.foldl hs.modDecision fun _ _ hu => hu.showRegion))) ?_
  refine .ite (.post (.count (.foldl hs.modDecision fun _ _ hu => hu.showRegion))) ?_
  exact .post (.foldl hs.modDecision fun _ _ hu => hu.showRegion)

theorem Effects.execPreviewTake (dt who value : Nat) (s : State) : Effects s dt (execPreviewTake dt who value s) :=
  .run fun _ _ hs => .asWriter hs hs.previewTake

theorem Effects.execCupPreviewRead (dt who : Nat) (s : State) : Effects s dt (execCupPreviewRead dt who s) :=
  .run fun _ _ hs => .asReader hs hs.previewRead

/-! Calibration (R221 to R245) -/

namespace Reaches

variable {s₀ s : State}

theorem queueTxn {link module op address : Nat} {data : List Octet} {len : Nat} {purpose : TxPurpose} (hs : Reaches s₀ s) :
    Reaches s₀ (s.queueTxn link module op address data len purpose) :=
  hs.modLink

theorem modCalModule {link module : Nat} {f : CalModule → CalModule} (hs : Reaches s₀ s) : Reaches s₀ (s.modCalModule link module f) := hs.modCal

theorem modZone {z : Nat} {f : CalZone → CalZone} (hs : Reaches s₀ s) : Reaches s₀ (s.modZone z f) := hs.modCal

theorem requestPass {z : Nat} (hs : Reaches s₀ s) : Reaches s₀ (s.requestPass z) := hs.modZone

theorem addBackground {code brick aux epoch clocks : Nat} (hs : Reaches s₀ s) : Reaches s₀ (s.addBackground code brick aux epoch clocks) := by
  unfold State.addBackground
  extract_lets _ _ s1
  have hs1 : Reaches s₀ s1 := hs.modBelfry
  exact hs1.trace.makeReady.showQueues

theorem beginPass {z : Nat} {theta : Int} (hs : Reaches s₀ s) : Reaches s₀ (s.beginPass z theta) :=
  .foldl hs.modZone.setBit fun _ _ hu => hu.addBackground

theorem pushPass {z : Nat} (hs : Reaches s₀ s) : Reaches s₀ (s.pushPass z) := .ite hs.modTwin.push hs

theorem startPass {z : Nat} (hs : Reaches s₀ s) : Reaches s₀ (s.startPass z) :=
  .ite hs (.ite (by split; exacts [hs.beginPass, hs]) hs.pushPass.beginPass)

theorem abortPass {z : Nat} (hs : Reaches s₀ s) : Reaches s₀ (s.abortPass z) := by
  unfold State.abortPass
  refine .ite ?_ hs
  extract_lets +onlyGivenNames _ s1
  have hs1 : Reaches s₀ s1 := .foldl hs fun _ _ hu => by split; exacts [hu.freeOp.trace, hu.freeOp.trace]
  exact hs1.modZone.setBit.count.showQueues

theorem writeBack (hs : Reaches s₀ s) : Reaches s₀ s.writeBack := .ite hs (.foldl hs.modCal fun _ _ hu => by split; exacts [hu.queueTxn, hu])

theorem completePass {z : Nat} (hs : Reaches s₀ s) : Reaches s₀ (s.completePass z) := by
  unfold State.completePass
  split
  · exact hs
  · refine .ite hs ?_
    extract_lets +onlyGivenNames _ _ s2
    have hs2 : Reaches s₀ s2 := hs.modZone.setBit.bump.count.writeBack
    exact .ite hs2.milestone hs2

theorem pollZone {temps : List (Nat × Nat × Nat)} {z : Nat} (hs : Reaches s₀ s) : Reaches s₀ (s.pollZone temps z) := by
  unfold State.pollZone
  refine .ite hs ?_
  split
  · exact .ite hs.setBit hs.setBit.modZone.post
  · extract_lets +onlyGivenNames _ s1 _ _ s3
    have hs1 : Reaches s₀ s1 := hs.modZone.setBit.setInt
    have hs3 : Reaches s₀ s3 := .ite hs1.setBit.post hs1.setBit
    exact .ite hs3.modZone.requestPass hs3.modZone

theorem tableSlot {t : List Nat} {p : Nat × State} (hs : Reaches s₀ s) (hp : s.tableSlot t = some p) : Reaches s₀ p.2 := by
  simp only [State.tableSlot] at hp
  split at hp
  · obtain rfl := Option.some.inj hp
    exact hs
  · obtain ⟨_, -, rfl⟩ := Option.map_eq_some_iff.1 hp
    dsimp only
    exact hs.modCal

theorem loadSelectors {link module : Nat} {pages : List (List Octet)} (hs : Reaches s₀ s) : Reaches s₀ (s.loadSelectors link module pages) := by
  unfold State.loadSelectors
  exact hs.modCal

theorem calFetch {link module : Nat} {reads : List (List Octet × Nat)} (hs : Reaches s₀ s) : Reaches s₀ (s.calFetch link module reads) := by
  unfold State.calFetch
  split
  · exact hs
  · refine .ite hs (.ite (.ite hs hs.uncalibrate) ?_)
    extract_lets pages lost s1 repeats s2 s3 s4 old s5
    have hs2 : Reaches s₀ s2 := .ite hs.count hs.count.count
    have hs3 : Reaches s₀ s3 := .ite hs2 hs2.count
    have hs5 : Reaches s₀ s5 := hs3.abortPass.modCal
    clear_value s5
    split
    · exact hs5.uncalibrate
    · exact hs5.uncalibrate
    · next hslot =>
      have hs6 := hs5.tableSlot hslot
      exact .requestPass (.loadSelectors (.ite hs6.modCal.setModuleStatus.post.post hs6.modCal.setModuleStatus.post))

theorem recheckHeader {r : Nat × Nat × List Octet} (hs : Reaches s₀ s) : Reaches s₀ (s.recheckHeader r) := by
  unfold State.recheckHeader
  split
  · exact hs
  · exact .ite hs.setModuleStatus.post hs

theorem checkCopies {r : CalPageRead} (hs : Reaches s₀ s) : Reaches s₀ (s.checkCopies r) := by
  unfold State.checkCopies
  split
  · exact hs
  · refine .ite ?_ ?_
    · exact .ite hs.modCalModule (.ite hs.modCalModule.count.post (.ite hs.modCalModule.count.post hs.modCalModule.count.post))
    · refine .ite hs.modCalModule.count.post ?_
      refine .ite hs.modCalModule.count.post ?_
      split
      · exact hs.modCalModule.count.post.requestPass
      · exact .ite hs.count.post.uncalibrate hs.count.post.modCalModule.requestPass

theorem issueScrub {n : Nat} (hs : Reaches s₀ s) : Reaches s₀ (State.issueScrub n s) := by
  induction n generalizing s with
  | zero => exact hs
  | succ n ih =>
    unfold State.issueScrub
    split
    · exact hs
    · exact .ite (ih hs.modCal.addBackground) hs

theorem landBackground {o : BelOp} {f : ReadFaults} (hs : Reaches s₀ s) : Reaches s₀ (s.landBackground o f) := by
  unfold State.landBackground
  extract_lets +onlyGivenNames s1
  have hs1 : Reaches s₀ s1 := .foldl hs fun _ _ hu => hu.checkCopies
  exact .ite hs1.modZone (.ite (.issueScrub (.count (.ite hs1.modCal.writeBack hs1))) hs1)

theorem putSelector {link module pixel v : Nat} (hs : Reaches s₀ s) : Reaches s₀ (s.putSelector link module pixel v) := by
  unfold State.putSelector
  split
  · exact hs
  · exact hs.modCalModule.modCal

theorem changeSelector {link module pixel octet sel : Nat} (hs : Reaches s₀ s) : Reaches s₀ (s.changeSelector link module pixel octet sel) :=
  .ite hs.putSelector.count.post.requestPass.post.count hs.putSelector.count.post.requestPass

theorem emitterFault {link module pixel set : Nat} (hs : Reaches s₀ s) : Reaches s₀ (s.emitterFault link module pixel set) := by
  unfold State.emitterFault
  split
  · exact hs
  · exact .ite hs.changeSelector hs.putSelector

theorem spareCommit {value : Nat} (hs : Reaches s₀ s) : Reaches s₀ (s.spareCommit value) := by
  unfold State.spareCommit
  extract_lets +onlyGivenNames _ _ _ _
  split
  · exact hs.reply
  · exact .ite hs.reply (.ite hs.putSelector.writeBack.reply (.ite hs.reply hs.changeSelector.reply))

theorem moduleZone {link module zone : Nat} (hs : Reaches s₀ s) : Reaches s₀ (s.moduleZone link module zone) :=
  .ite hs.reply (.ite hs.reply (.ite hs.reply (.ite hs.setReg.reply hs.setReg.requestPass.requestPass.modZone.modZone.reply)))

theorem recalRefuse {link module reason : Nat} (hs : Reaches s₀ s) : Reaches s₀ (s.recalRefuse link module reason) := hs.modCal.setReg.post

theorem recalCommit {link module revision : Nat} {pages : List (List Octet)} (hs : Reaches s₀ s) :
    Reaches s₀ (s.recalCommit link module revision pages) :=
  .queueTxn (.queueTxn (.foldl hs.modCal.setReg fun _ _ hu => hu.queueTxn))

theorem recalCompare (hs : Reaches s₀ s) : Reaches s₀ s.recalCompare := by
  unfold State.recalCompare
  extract_lets +onlyGivenNames _ _ _ _ _ _
  split
  · exact hs.setReg.recalRefuse
  · refine .ite hs.setReg.recalRefuse ?_
    refine .ite hs.setReg.recalRefuse ?_
    refine .ite hs.setReg.setReg.recalRefuse ?_
    exact .ite hs.setReg.setReg.recalRefuse (.ite hs.setReg.setReg.recalRefuse hs.setReg.setReg.recalCommit)

theorem recalAbort (hs : Reaches s₀ s) : Reaches s₀ s.recalAbort := by
  unfold State.recalAbort
  split
  · exact hs.modLink.recalRefuse.reply
  · exact hs.reply

theorem recalStatus {v : Nat} (hs : Reaches s₀ s) : Reaches s₀ (s.recalStatus v) := by
  unfold State.recalStatus
  split
  · exact hs
  · refine .ite ?_ (.ite hs.recalRefuse hs.queueTxn)
    extract_lets +onlyGivenNames _ s2
    have hs2 : Reaches s₀ s2 := by
      unfold s2
      split
      · exact .foldl hs.modCal.setReg fun _ _ hu => hu.queueTxn
      · exact hs.modCal.setReg
    exact hs2.setModuleStatus.post

theorem showTrims {t : TrimCopy} (hs : Reaches s₀ s) : Reaches s₀ (s.showTrims t) := .foldl hs fun _ _ hu => hu.setReg.setInt

theorem trimMeasure {value : Nat} (hs : Reaches s₀ s) : Reaches s₀ (s.trimMeasure value) := .ite hs.reply (.ite hs.setReg.reply hs.setReg.reply)

theorem trimLoad (hs : Reaches s₀ s) : Reaches s₀ s.trimLoad := by
  unfold State.trimLoad
  split
  · refine .ite hs.modCal.showTrims.setReg ?_
    refine .ite hs.modCal.showTrims.setReg.bump.count.post ?_
    refine .ite hs.modCal.showTrims.setReg.bump.count.post ?_
    refine .ite hs.modCal.showTrims.setReg.bump.count.post.setReg.bump.count.post ?_
    exact .ite hs.modCal.showTrims.setReg.bump.count.post (.ite hs.modCal.showTrims.setReg.bump.count.post hs.showTrims.setReg.post)
  · exact hs

end Reaches

theorem Effects.execReblendPassStart (dt zone : Nat) (s : State) : Effects s dt (execReblendPassStart dt zone s) :=
  .run fun _ _ hs => .ite hs.startPass hs

theorem Effects.execReblendPassComplete (dt zone : Nat) (s : State) : Effects s dt (execReblendPassComplete dt zone s) :=
  .run fun _ _ hs => .ite hs.completePass hs

theorem Effects.execTempPoll (dt : Nat) (temps : List (Nat × Nat × Nat)) (s : State) : Effects s dt (execTempPoll dt temps s) :=
  .run fun _ _ hs => .foldl hs fun _ _ hu => hu.pollZone

theorem Effects.execCalRefreshDue (dt zone : Nat) (s : State) : Effects s dt (execCalRefreshDue dt zone s) :=
  .run fun _ _ hs => .ite hs.requestPass hs

theorem Effects.execCalFetch (dt link module : Nat) (reads : List (List Octet × Nat)) (s : State) :
    Effects s dt (execCalFetch dt link module reads s) :=
  .run fun _ _ hs => hs.calFetch

theorem Effects.execHeaderRecheck (dt : Nat) (pages : List (Nat × Nat × List Octet)) (s : State) : Effects s dt (execHeaderRecheck dt pages s) :=
  .run fun _ _ hs => .foldl hs fun _ _ hu => hu.recheckHeader

theorem Effects.execScrubPeriod (dt : Nat) (s : State) : Effects s dt (execScrubPeriod dt s) := .run fun _ _ hs => hs.modCal.issueScrub

theorem Effects.execCalSpareCommit (dt who value : Nat) (s : State) : Effects s dt (execCalSpareCommit dt who value s) :=
  .run fun _ _ hs => .asWriter hs hs.spareCommit

theorem Effects.execModuleZoneWrite (dt who link module zone : Nat) (s : State) : Effects s dt (execModuleZoneWrite dt who link module zone s) :=
  .run fun _ _ hs => .asWriter hs hs.moduleZone

theorem Effects.execRecalPass2Complete (dt who : Nat) (image : List Octet) (s : State) : Effects s dt (execRecalPass2Complete dt who image s) :=
  .run fun _ _ hs => .asWriter hs hs.modCal.recalCompare.reply

theorem Effects.execRecalAbort (dt who : Nat) (s : State) :
    Effects s dt (execRecalAbort dt who s) := .run fun _ _ hs => .asWriter hs hs.recalAbort

theorem Effects.execTrimMeasure (dt who value : Nat) (s : State) : Effects s dt (execTrimMeasure dt who value s) :=
  .run fun _ _ hs => .asWriter hs hs.trimMeasure

theorem Effects.execTrimMeasureDone (dt : Nat) (first second : List (List Nat)) (s : State) :
    Effects s dt (execTrimMeasureDone dt first second s) := .run fun s₀ _ hs => by
  refine .ite hs ?_
  extract_lets +onlyGivenNames _ _ _ s0 s1 _ s3
  have hs0 : Reaches s₀ s0 := hs.other
  have hs1 : Reaches s₀ s1 := .ite hs0.modCal.bump.showTrims hs0
  have hs3 : Reaches s₀ s3 := by
    unfold s3
    split
    · exact hs1.setReg.post
    · exact hs1.setReg
  exact .foldl hs3 fun _ _ hu => .ite hu.setReg.post (.ite hu.setReg hu)

/-! Sessions and responses (R470 to R474) -/

namespace Reaches

variable {s₀ s : State}

theorem modIdp {f : Idp → Idp} (hs : Reaches s₀ s) : Reaches s₀ (s.modIdp f) := hs.other

theorem modSession {n : Nat} {f : Session → Session} (hs : Reaches s₀ s) : Reaches s₀ (s.modSession n f) := hs.modIdp

theorem sendIdp {dest : IdpSource} {octets : List Octet} (hs : Reaches s₀ s) : Reaches s₀ (s.sendIdp dest octets) :=
  .ite hs.emit (.ite hs.other hs.modIdp)

theorem sendStored {x1 : Session} {r : IdpResponse} (hs : Reaches s₀ s) : Reaches s₀ (s.sendStored x1 r) := hs.sendIdp

theorem respond {n op status : Nat} {payload : List Octet} (hs : Reaches s₀ s) : Reaches s₀ (s.respond n op status payload) := by
  unfold State.respond
  split
  · exact hs
  · exact hs.modSession.sendStored

theorem respondRunning {n op : Nat} (hs : Reaches s₀ s) : Reaches s₀ (s.respondRunning n op) := by
  unfold State.respondRunning
  split
  · exact hs
  · exact .ite hs.modSession hs.modSession.sendStored

theorem beginRead {n index sub : Nat} {data : List Octet} (hs : Reaches s₀ s) : Reaches s₀ (s.beginRead n index sub data) := hs.modSession

theorem finishRead {n status : Nat} {data : List Octet} (hs : Reaches s₀ s) : Reaches s₀ (s.finishRead n status data) := by
  unfold State.finishRead
  split
  · exact hs
  · exact .ite hs.beginRead.respond hs

theorem finishWaits {n : Nat} (hs : Reaches s₀ s) : Reaches s₀ (s.finishWaits n) := by
  unfold State.finishWaits
  split
  · exact hs
  · exact .ite hs (.ite (by split; exacts [hs.respond, hs.respond, hs]) hs)

theorem waitDone {n index sub status : Nat} (hs : Reaches s₀ s) : Reaches s₀ (s.waitDone n index sub status) := hs.modSession.finishWaits

end Reaches

/-! The ends of the bridge's transfers (R422 to R427) -/

namespace Reaches

variable {s₀ s : State}

theorem modBrg {f : Bridge → Bridge} (hs : Reaches s₀ s) : Reaches s₀ (s.modBrg f) := hs.other

theorem modBrgSession {session : Nat} {f : BrgSession → BrgSession} (hs : Reaches s₀ s) : Reaches s₀ (s.modBrgSession session f) := by
  unfold State.modBrgSession
  exact hs.modBrg

theorem brgEnd {session status : Nat} (hs : Reaches s₀ s) : Reaches s₀ (s.brgEnd session status) := hs.modBrgSession.finishRead

theorem brgDone {session status : Nat} (hs : Reaches s₀ s) : Reaches s₀ (s.brgDone session status) := hs.brgEnd.count

theorem brgUndelivered {session link module : Nat} (hs : Reaches s₀ s) :
    Reaches s₀ (s.brgUndelivered session link module) := hs.brgEnd.count.post

theorem lockLost {link cause session : Nat} (hs : Reaches s₀ s) : Reaches s₀ (s.lockLost link cause session) :=
  .post (.count (.ite hs.modBrgSession.finishRead hs.modBrgSession))

theorem pweEnter {link module tag address len status : Nat} (hs : Reaches s₀ s) :
    Reaches s₀ (s.pweEnter link module tag address len status) := by
  unfold State.pweEnter
  extract_lets +onlyGivenNames _ _ _ _ _ _ _ s3
  have hs3 : Reaches s₀ s3 := .ite hs.modBrg.count.count hs.modBrg.count
  exact .post (.ite hs3.modCal hs3)

end Reaches

/-! The Spire links (R275 to R313) -/

namespace Reaches

variable {s₀ s : State}

theorem sendFrame {link : Nat} {f : SpireFrame} {data : List Octet} {bad : Bool} (hs : Reaches s₀ s) :
    Reaches s₀ (s.sendFrame link f data bad) :=
  hs.emit.count

theorem modModule {link module : Nat} {f : SpireModule → SpireModule} (hs : Reaches s₀ s) : Reaches s₀ (s.modModule link module f) := hs.modLink

theorem txnLost {link module : Nat} {t : RegTxn} (hs : Reaches s₀ s) : Reaches s₀ (s.txnLost link module t) := by
  unfold State.txnLost
  split
  · exact .ite hs.brgUndelivered hs
  · exact .setReg (.modLink (.ite hs.brgUndelivered.modBrgSession hs))
  · exact .ite hs.brgUndelivered hs
  · exact hs

theorem linkClear {k : Nat} (hs : Reaches s₀ s) : Reaches s₀ (s.linkClear k) := by
  unfold State.linkClear
  extract_lets +onlyGivenNames _ _ s1
  have hs1 : Reaches s₀ s1 := by
    unfold s1
    split
    · exact .ite hs hs.lockLost
    · exact hs
  refine .setReg ?_
  refine .foldl ?_ fun _ _ hu => hu.uncalibrate
  refine .foldl ?_ fun _ _ hu => hu.setReg
  exact .setReg (.setReg (.modLink (.foldl (.foldl hs1 fun _ _ hu => hu.txnLost) fun _ _ hu => hu.txnLost)))

theorem linkDown {k cause module : Nat} (hs : Reaches s₀ s) : Reaches s₀ (s.linkDown k cause module) := hs.linkClear.modLink.setReg.setReg.post

theorem linkDisable {k : Nat} (hs : Reaches s₀ s) : Reaches s₀ (s.linkDisable k) := hs.linkClear.setReg

theorem linkSeek {k : Nat} (hs : Reaches s₀ s) : Reaches s₀ (s.linkSeek k) := .ite hs.modLink.setReg hs

theorem linkEnable {k : Nat} (hs : Reaches s₀ s) : Reaches s₀ (s.linkEnable k) := .ite hs.setReg.linkSeek hs

theorem enumEnd {k n : Nat} (hs : Reaches s₀ s) : Reaches s₀ (s.enumEnd k n) :=
  .ite hs (.ite hs.linkDown (.foldl hs.modLink.setReg fun _ _ hu => hu.queueTxn))

theorem sendEcho {k module : Nat} (hs : Reaches s₀ s) : Reaches s₀ (s.sendEcho k module) := hs.modLink.sendBlock

theorem writeLatch {k module : Nat} (hs : Reaches s₀ s) : Reaches s₀ (s.writeLatch k module) := by
  unfold State.writeLatch
  split
  · exact hs.queueTxn.queueTxn
  · exact hs

theorem whenTrained (hs : Reaches s₀ s) : Reaches s₀ s.whenTrained := .ite hs.milestone hs

theorem awaitFetch {k : Nat} (hs : Reaches s₀ s) : Reaches s₀ (s.awaitFetch k) :=
  .foldl hs fun _ _ hu => .ite (.ite hu hu.uncalibrate) (.ite hu.setModuleStatus hu)

theorem linkTrained {k : Nat} (hs : Reaches s₀ s) : Reaches s₀ (s.linkTrained k) :=
  hs.setReg.setReg.modLink.count.post.suspendLink.awaitFetch.whenTrained

theorem latchesSet {k : Nat} (hs : Reaches s₀ s) : Reaches s₀ (s.latchesSet k) := .ite (.ite hs.linkTrained hs.modLink) hs

theorem measured {k : Nat} (hs : Reaches s₀ s) : Reaches s₀ (s.measured k) :=
  .ite hs.linkDown (.ite hs.modLink (.latchesSet (.foldl hs.modLink fun _ _ hu => hu.setReg.writeLatch)))

theorem startMeasure {k : Nat} (hs : Reaches s₀ s) : Reaches s₀ (s.startMeasure k) := .ite hs.modLink.measured hs.modLink.sendEcho

theorem echoReply {k module seq wait rtt : Nat} (hs : Reaches s₀ s) : Reaches s₀ (s.echoReply k module seq wait rtt) := by
  unfold State.echoReply
  refine .ite hs ?_
  split
  · exact hs
  · exact .ite hs.modLink.modModule.sendEcho (.ite hs.modLink.modModule.modModule.sendEcho hs.modLink.modModule.modModule.measured)

theorem descriptorRead {k module status : Nat} {d : List Octet} (hs : Reaches s₀ s) : Reaches s₀ (s.descriptorRead k module status d) := by
  unfold State.descriptorRead
  refine .ite hs ?_
  refine .ite hs.linkDown ?_
  extract_lets +onlyGivenNames _ _ _ _ s3
  have hs3 : Reaches s₀ s3 := .ite hs.modModule.setReg.setReg.post hs.modModule.setReg.setReg
  exact .ite hs3.excludeModules.setReg.startMeasure hs3

theorem modLoad {link epoch : Nat} {f : LinkEpoch → LinkEpoch} (hs : Reaches s₀ s) : Reaches s₀ (s.modLoad link epoch f) := hs.modLink

theorem setUrgency {link epoch u : Nat} (hs : Reaches s₀ s) : Reaches s₀ (s.setUrgency link epoch u) := by
  unfold State.setUrgency
  refine .ite hs.setReg ?_
  refine .ite hs.setReg.count ?_
  extract_lets +onlyGivenNames _
  split
  · exact .ite hs.setReg.count hs.setReg.count.modEpoch.post
  · exact hs.setReg.count

theorem lineFill {link epoch fill : Nat} (hs : Reaches s₀ s) : Reaches s₀ (s.lineFill link epoch fill) := .setUrgency (.ite hs.setReg hs)

theorem sendSegment {e : Epoch} {link : Nat} {f : SpireFrame} {bad : Bool} (hs : Reaches s₀ s) : Reaches s₀ (s.sendSegment e link f bad) :=
  .ite hs.sendFrame.modLoad.count.post hs.sendFrame.modLoad

theorem startSegment {link : Nat} {fills : List Nat} {starved : Nat} {bad : Bool} (hs : Reaches s₀ s) :
    Reaches s₀ (s.startSegment link fills starved bad) := by
  unfold State.startSegment
  split
  · exact hs
  · split
    · exact hs
    · refine .ite hs ?_
      extract_lets +onlyGivenNames _ s2
      have hs2 : Reaches s₀ s2 := .count (.foldl (.ite hs hs.modLink) fun _ _ hu => hu.lineFill)
      exact .ite hs2.sendSegment.modLink.modLoad.setReg hs2.sendSegment.modLink.modLoad

theorem sendTxn {link module : Nat} {t : RegTxn} (hs : Reaches s₀ s) : Reaches s₀ (s.sendTxn link module t) := by
  unfold State.sendTxn
  extract_lets +onlyGivenNames _ _ _ _ _
  split
  · exact hs.sendFrame.modModule.modLink.modLink.setReg
  · exact hs.sendFrame.modModule.modLink.modLink
  · exact hs.sendFrame.modModule.modLink

theorem sendUnlock {link module session : Nat} (hs : Reaches s₀ s) : Reaches s₀ (s.sendUnlock link module session) := by
  unfold State.sendUnlock
  exact hs.modLink.sendTxn

theorem startTxn {link : Nat} (hs : Reaches s₀ s) : Reaches s₀ (s.startTxn link) := .ite hs (by split; exacts [hs, hs.modLink.sendTxn])

theorem dropFrameOf {link : Nat} {f : SpireFrame} (hs : Reaches s₀ s) : Reaches s₀ (s.dropFrameOf link f) := hs.modLink

theorem frameFailed {link : Nat} {f : SpireFrame} (hs : Reaches s₀ s) : Reaches s₀ (s.frameFailed link f) := by
  unfold State.frameFailed
  extract_lets +onlyGivenNames s1
  have hs1 : Reaches s₀ s1 := hs.dropFrameOf.count.post
  refine .ite hs1.modLoad.modEpoch ?_
  refine .foldl hs1 fun _ _ hu => ?_
  extract_lets +onlyGivenNames _
  split
  · exact .ite hu.modLink.linkDown hu.modLink
  · exact hu.modLink.queueTxn
  · exact hu.modLink.queueTxn
  · exact hu.modLink.queueTxn
  · exact hu.modLink.txnLost

theorem resend {link : Nat} {f : SpireFrame} (hs : Reaches s₀ s) : Reaches s₀ (s.resend link f) :=
  .ite hs.frameFailed (.ite (by split; exacts [hs.modLink.count.sendSegment, hs.modLink.count.dropFrameOf]) hs.modLink.count.sendFrame)

theorem txnDelivered {t : RegTxn} (hs : Reaches s₀ s) : Reaches s₀ (s.txnDelivered t) := by
  unfold State.txnDelivered
  split
  · exact .ite hs.brgDone hs
  · exact hs

theorem dack {link : Nat} {v : List Nat} (hs : Reaches s₀ s) : Reaches s₀ (s.dack link v) := by
  unfold State.dack
  extract_lets +onlyGivenNames _ _ _ _
  split
  · exact .ite hs.modLoad hs
  · refine .ite hs.count.resend ?_
    refine .ite hs.frameFailed ?_
    exact .ite (.ite (.ite hs.dropFrameOf.modLoad hs.dropFrameOf) (.foldl hs.dropFrameOf fun _ _ hu => hu.txnDelivered)) hs

theorem dackSig {link : Nat} {v : List Nat} (hs : Reaches s₀ s) : Reaches s₀ (s.dackSig link v) := by
  unfold State.dackSig
  extract_lets +onlyGivenNames _ _
  split
  · exact hs.dack.linkSig
  · exact hs.dack

theorem grantNext {link : Nat} (hs : Reaches s₀ s) : Reaches s₀ (s.grantNext link) := by
  unfold State.grantNext
  split
  · exact hs
  · exact hs.modLink.sendBlock

theorem reqTaken {link kind module seq blocks : Nat} (hs : Reaches s₀ s) : Reaches s₀ (s.reqTaken link kind module seq blocks) :=
  .ite hs (.ite (.ite hs.modLink.grantNext hs.modLink) (.ite hs.sendBlock.count (.ite hs.modLink.grantNext hs.modLink)))

theorem takeRead {link module tag op : Nat} {p : RegTxn × State} (hs : Reaches s₀ s) (hp : s.takeRead link module tag op = some p) :
    Reaches s₀ p.2 := by
  obtain ⟨_, -, rfl⟩ := Option.map_eq_some_iff.1 hp
  exact hs.modLink

theorem sendUnlocked {link : Nat} (hs : Reaches s₀ s) : Reaches s₀ (s.sendUnlocked link) := hs.modLink.setReg.sendBlock

theorem forceUnlock {link : Nat} {x2 : LinkLock} (hs : Reaches s₀ s) : Reaches s₀ (s.forceUnlock link x2) := hs.modLink.sendUnlock.sendUnlocked

end Reaches

theorem Effects.execBlockLockGained (dt link : Nat) (s : State) : Effects s dt (execBlockLockGained dt link s) :=
  .run fun _ _ hs => .ite hs hs.modLink.linkSeek

theorem Effects.execBlockLockLost (dt link syncErrors : Nat) (s : State) : Effects s dt (execBlockLockLost dt link syncErrors s) :=
  .run fun _ _ hs => .ite hs (.ite hs.modLink.count.count.linkDown hs.modLink.count.count)

theorem Effects.execRetrainWaitEnd (dt link : Nat) (s : State) : Effects s dt (execRetrainWaitEnd dt link s) :=
  .run fun _ _ hs => .ite hs.modLink.linkSeek hs

theorem Effects.execLinkLockHeld (dt link : Nat) (s : State) : Effects s dt (execLinkLockHeld dt link s) :=
  .run fun _ _ hs => .ite hs.modLink.setReg.sendBlock hs

theorem Effects.execEnumEndReceive (dt link : Nat) (block : List Octet) (s : State) : Effects s dt (execEnumEndReceive dt link block s) :=
  .run fun _ _ hs => .onBlock hs fun _ => hs.enumEnd

theorem Effects.execEnumTimeout (dt link : Nat) (s : State) : Effects s dt (execEnumTimeout dt link s) := .run fun _ _ hs => .ite hs.linkDown hs

theorem Effects.execEchoReplyReceive (dt link : Nat) (block : List Octet) (rtt : Nat) (s : State) :
    Effects s dt (execEchoReplyReceive dt link block rtt s) :=
  .run fun _ _ hs => .onBlock hs fun _ => hs.echoReply

theorem Effects.execRemeasureDue (dt link : Nat) (s : State) :
    Effects s dt (execRemeasureDue dt link s) := .run fun _ _ hs => .ite hs.startMeasure hs

theorem Effects.execLinkFrameStart (dt link kind : Nat) (fills : List Nat) (starved corrected : Nat) (double : Bool) (s : State) :
    Effects s dt (execLinkFrameStart dt link kind fills starved corrected double s) :=
  .run fun _ _ hs => .ite hs (.ite (.ite hs.startSegment.count hs) (.ite hs.startTxn hs))

theorem Effects.execDackReceive (dt link : Nat) (block : List Octet) (s : State) : Effects s dt (execDackReceive dt link block s) :=
  .run fun _ _ hs => .onBlock hs fun _ => hs.dackSig

theorem Effects.execAckTimeout (dt link : Nat) (s : State) : Effects s dt (execAckTimeout dt link s) := .run fun s₀ _ hs => by
  extract_lets +onlyGivenNames _ _ s1
  have hs1 : Reaches s₀ s1 := .foldl hs fun _ _ hu => hu.count.resend
  split
  · exact hs1
  · exact .ite hs1.modLink.count.grantNext hs1

theorem Effects.execReqReceive (dt link : Nat) (block : List Octet) (s : State) : Effects s dt (execReqReceive dt link block s) :=
  .run fun _ _ hs => .onBlock hs fun _ => hs.reqTaken

theorem Effects.execUpFrameEof (dt link : Nat) (sof data eof : List Octet) (s : State) :
    Effects s dt (execUpFrameEof dt link sof data eof s) := .run fun _ _ hs => by
  split
  · exact hs
  · exact .grantNext (.ite (.ite hs.modLink.sendBlock hs.modLink.sendBlock.modModule.count) hs.modLink.sendBlock.count)

theorem Effects.execReadDataResponse (dt link module tag status : Nat) (data : List Octet) (s : State) :
    Effects s dt (execReadDataResponse dt link module tag status data s) := .run fun s₀ _ hs => by
  split
  · exact hs
  next t u hread =>
    have hu : Reaches s₀ u := hs.takeRead hread
    split
    · exact .ite hu.modBrgSession.brgDone.emit hu
    · exact hu.descriptorRead
    · split
      · exact .ite hu.modModule.latchesSet hu.writeLatch
      · exact hu
    · split
      · exact .ite hu.recalStatus hu
      · exact hu
    · exact hu

theorem Effects.execWriteErrorResponse (dt link module tag address len status : Nat) (s : State) :
    Effects s dt (execWriteErrorResponse dt link module tag address len status s) :=
  .run fun _ _ hs => .ite hs hs.pweEnter

theorem Effects.execLockResponse (dt link module tag status : Nat) (s : State) : Effects s dt (execLockResponse dt link module tag status s) :=
  .run fun s₀ _ hs => by
  split
  · exact hs
  next t u hread =>
    have hu : Reaches s₀ u := hs.takeRead hread
    exact .ite (.ite hu.modBrgSession.sendUnlocked.modBrgSession.brgDone hu.modBrgSession.sendUnlocked)
      (.ite hu.modBrgSession.modBrgSession.sendUnlock hu.modBrgSession.modBrgSession.brgDone)

theorem Effects.execUnlockResponse (dt link module tag status : Nat) (s : State) :
    Effects s dt (execUnlockResponse dt link module tag status s) :=
  .run fun s₀ _ hs => by
  split
  · exact hs
  next t u hread =>
    have hu : Reaches s₀ u := hs.takeRead hread
    extract_lets n s1 s2
    have hs2 : Reaches s₀ s2 := by
      unfold s2
      split
      · exact .ite hu.modBrgSession.sendUnlocked hu.modBrgSession
      · exact hu.modBrgSession
    exact .ite hs2.modBrgSession.brgDone hs2

theorem Effects.execLockTimeLimit (dt link : Nat) (s : State) : Effects s dt (execLockTimeLimit dt link s) :=
  .run fun _ _ hs => by split; exacts [hs, .ite hs.forceUnlock.post.lockLost hs]

theorem Effects.execFaultRecords (dt link module : Nat) (data : List Octet) (s : State) :
    Effects s dt (execFaultRecords dt link module data s) := .run fun s₀ _ hs => by
  refine .ite hs ?_
  extract_lets +onlyGivenNames _ _ _ _ marked
  have hmarked : Reaches s₀ marked := .foldl hs.count fun _ _ hu => hu.emitterFault
  exact .foldl (.ite hmarked hmarked.writeBack) fun _ _ hu => hu.post

/-! Scan-out (R246 to R274) -/

namespace Reaches

variable {s₀ s : State}

theorem mapRequest (hs : Reaches s₀ s) : Reaches s₀ s.mapRequest :=
  .ite hs.reply (by extract_lets +onlyGivenNames _; split; exacts [hs.post.reply, hs.setReg.reply])

theorem mapCancel (hs : Reaches s₀ s) : Reaches s₀ s.mapCancel := .ite hs.setReg.reply hs.reply

theorem modeRequest (hs : Reaches s₀ s) : Reaches s₀ s.modeRequest := .ite hs.reply (by split; exacts [hs.post.reply, hs.setReg.modScan.reply])

theorem modeCancel (hs : Reaches s₀ s) : Reaches s₀ s.modeCancel := .ite hs.setReg.modScan.reply hs.reply

theorem cameraRelease (hs : Reaches s₀ s) : Reaches s₀ s.cameraRelease := .foldl hs fun _ _ hu => .ite hu.modCmp.showNext hu

theorem modeEffect {apply step : Bool} {ref : State → Nat} (hs : Reaches s₀ s) : Reaches s₀ (s.modeEffect apply step ref) := by
  unfold State.modeEffect
  extract_lets +onlyGivenNames _ s1
  have hs1 : Reaches s₀ s1 := .foldl hs fun _ _ hu => hu.squash
  refine .suspendAll ?_
  exact .count (.modScan (.modScan (.ite (.cameraRelease (.foldl hs1.cameraRelease.setReg fun _ _ hu => hu.setReg)) hs1.cameraRelease)))

theorem anchorGrid {t : Nat} (hs : Reaches s₀ s) : Reaches s₀ (s.anchorGrid t) := by
  unfold State.anchorGrid
  exact hs.modScan

theorem edgeAccepted {err : Int} (hs : Reaches s₀ s) : Reaches s₀ (s.edgeAccepted err) := by
  unfold State.edgeAccepted
  exact .modScan (.count (.ite hs hs.post))

theorem genlockEdge (hs : Reaches s₀ s) : Reaches s₀ s.genlockEdge :=
  .ite hs.anchorGrid.edgeAccepted (.ite hs.count (.ite hs.modeEffect.modScan.count.post hs.modScan.edgeAccepted))

theorem timeoutOps {e : Epoch} (hs : Reaches s₀ s) : Reaches s₀ (s.timeoutOps e) := by
  unfold State.timeoutOps
  refine .ite hs ?_
  extract_lets +onlyGivenNames s1
  have hs1 : Reaches s₀ s1 := .foldl hs fun _ _ hu => by split; exacts [hu.freeOp.stopEngine.trace, hu.freeOp.trace]
  exact hs1.modBelfry.count.post.modEpoch

theorem lastGraph {e : Epoch} (hs : Reaches s₀ s) : Reaches s₀ (s.lastGraph e) := hs.takeFree.setReg.setReg.setReg.setInt

theorem lampExport {e : Epoch} {poisoned : List Nat} (hs : Reaches s₀ s) : Reaches s₀ (s.lampExport e poisoned) := .ite hs hs.modScan.count

theorem withhold {e : Nat} {late : List Nat} (hs : Reaches s₀ s) : Reaches s₀ (s.withhold e late) := by
  unfold State.withhold
  extract_lets +onlyGivenNames s1
  have hs1 : Reaches s₀ s1 := hs.revoke.modEpoch.count
  exact .modScan (.ite hs1.modBelfry.post hs1.modBelfry)

theorem linkWithheld {e k : Nat} (hs : Reaches s₀ s) :
    Reaches s₀ (s.linkWithheld e k) := .ite hs.revokeLink.count hs.revokeLink.count.modScan.post

theorem decide_ {e : Epoch} {poisoned : List Nat} (hs : Reaches s₀ s) : Reaches s₀ (s.decide_ e poisoned) := by
  unfold State.decide_
  extract_lets +onlyGivenNames _ _ s1
  have hs1 : Reaches s₀ s1 := .foldl hs fun _ _ hu => hu.bump
  refine .ite hs1.withhold ?_
  extract_lets +onlyGivenNames _ s2
  have hs2 : Reaches s₀ s2 := .ite hs1 (.foldl hs1 fun _ _ hu => hu.linkWithheld)
  exact .ite hs2.modEpoch.modBelfry.count (.lampExport (.ite hs2.modEpoch.count hs2.modEpoch))

theorem strikeFire {e : Epoch} {links : List Nat} {r : Nat} (hs : Reaches s₀ s) : Reaches s₀ (s.strikeFire e links r) :=
  .foldl hs.ownFire fun _ _ hu => hu.modLink

end Reaches

theorem Effects.execMapChangeRequest (dt who : Nat) (s : State) : Effects s dt (execMapChangeRequest dt who s) :=
  .run fun _ _ hs => .asWriter hs hs.mapRequest

theorem Effects.execMapChangeCancel (dt who : Nat) (s : State) : Effects s dt (execMapChangeCancel dt who s) :=
  .run fun _ _ hs => .asWriter hs hs.mapCancel

theorem Effects.execModeChangeRequest (dt who : Nat) (s : State) : Effects s dt (execModeChangeRequest dt who s) :=
  .run fun _ _ hs => .asWriter hs hs.modeRequest

theorem Effects.execModeChangeCancel (dt who : Nat) (s : State) : Effects s dt (execModeChangeCancel dt who s) :=
  .run fun _ _ hs => .asWriter hs hs.modeCancel

theorem Effects.execModeChangeEffect (dt : Nat) (s : State) :
    Effects s dt (execModeChangeEffect dt s) := .run fun _ _ hs => .ite hs.modeEffect hs

theorem Effects.execGenlockEdge (dt : Nat) (s : State) : Effects s dt (execGenlockEdge dt s) := .run fun _ _ hs => .ite hs.genlockEdge hs

theorem Effects.execGenlockLoss (dt : Nat) (s : State) : Effects s dt (execGenlockLoss dt s) := .run fun _ _ hs => .ite hs.modScan.post hs

theorem Effects.execCommitInstant (dt : Nat) (poisoned : List Nat) (s : State) :
    Effects s dt (execCommitInstant dt poisoned s) := .run fun s₀ _ hs => by
  split
  · exact hs
  · refine .ite hs ?_
    extract_lets +onlyGivenNames _ s2
    have hs2 : Reaches s₀ s2 := by
      unfold s2
      split
      · exact hs.ownFire.timeoutOps.lastGraph.decide_
      · exact hs.ownFire.timeoutOps.withhold
    exact hs2.reprioritise.resume.showQueues

theorem Effects.execStrikeReference (dt : Nat) (s : State) : Effects s dt (execStrikeReference dt s) :=
  .run fun _ _ hs => by split; exacts [hs, .ite hs hs.strikeFire]

/-! Lantern (R315 to R350) -/

namespace Reaches

variable {s₀ s : State}

theorem modLantern {f : Lantern → Lantern} (hs : Reaches s₀ s) : Reaches s₀ (s.modLantern f) := hs.other

theorem modSink {c : Nat} {f : LampSink → LampSink} (hs : Reaches s₀ s) : Reaches s₀ (s.modSink c f) := hs.modLantern

theorem modGroup {g : Nat} {f : LampGroup → LampGroup} (hs : Reaches s₀ s) : Reaches s₀ (s.modGroup g f) := hs.modLantern

theorem showGroup {g : Nat} {floorDark : Bool} (hs : Reaches s₀ s) : Reaches s₀ (s.showGroup g floorDark) := hs.setReg

theorem judgeGroup {g : Nat} (hs : Reaches s₀ s) : Reaches s₀ (s.judgeGroup g) := by
  unfold State.judgeGroup
  split
  · exact hs.modGroup.count.post.showGroup
  · exact hs.modGroup.post.showGroup
  · exact hs

theorem judgeGroups (hs : Reaches s₀ s) : Reaches s₀ s.judgeGroups := .foldl hs fun _ _ hu => hu.judgeGroup

theorem derateEvents {used : List Nat} (hs : Reaches s₀ s) : Reaches s₀ (s.derateEvents used) := by
  unfold State.derateEvents
  exact .modLantern (.foldl (.foldl hs fun _ _ hu => hu.post) fun _ _ hu => hu.post)

theorem latchCut {c factor : Nat} (hs : Reaches s₀ s) : Reaches s₀ (s.latchCut c factor) := .ite (.ite hs hs.modSink.count) hs.modSink

theorem judgeFloor {rows : List LampRow} {g : Nat} (hs : Reaches s₀ s) : Reaches s₀ (s.judgeFloor rows g) :=
  .ite (.ite hs.modGroup.post hs) (.ite hs.modGroup.count.post hs)

theorem takeLampValues {p : Nat} (hs : Reaches s₀ s) : Reaches s₀ (s.takeLampValues p) := by
  unfold State.takeLampValues
  extract_lets +onlyGivenNames _ _
  split
  · exact .ite hs.modScan.modLantern.count hs.modLantern
  · exact hs.modLantern

theorem merge {p : Nat} (hs : Reaches s₀ s) : Reaches s₀ (s.merge p) := by
  unfold State.merge
  refine .modLantern ?_
  refine .foldl ?_ fun _ _ hu => hu.showGroup
  refine .foldl ?_ fun _ _ hu => hu.count.post
  exact .foldl (.modLantern (.foldl hs.takeLampValues.judgeGroups.derateEvents fun _ _ hu => hu.latchCut)) fun _ _ hu => hu.judgeFloor

theorem declareFault {sink cls : Nat} (hs : Reaches s₀ s) : Reaches s₀ (s.declareFault sink cls) := hs.modSink

theorem judgeSink {tests : List SinkTest} {t : SinkTest} (hs : Reaches s₀ s) : Reaches s₀ (s.judgeSink tests t) :=
  .ite hs.modSink.declareFault.count.post (.ite hs.modSink.declareFault.count.post hs.modSink)

theorem judgeRail {tests : List SinkTest} {g : Nat} (hs : Reaches s₀ s) : Reaches s₀ (s.judgeRail tests g) :=
  .ite (.post (.foldl hs fun _ _ hu => hu.declareFault.count)) hs

theorem judgePeriod {tests : List SinkTest} (hs : Reaches s₀ s) : Reaches s₀ (s.judgePeriod tests) :=
  .judgeGroups (.foldl (.foldl hs fun _ _ hu => hu.judgeSink) fun _ _ hu => hu.judgeRail)

theorem showLamps (hs : Reaches s₀ s) : Reaches s₀ s.showLamps := by
  unfold State.showLamps
  split
  · exact hs
  · exact .foldl hs fun _ _ hu => by split; exacts [hu.setReg.setReg, hu.setReg.setReg]

theorem trackTests {p : LampPeriod} (hs : Reaches s₀ s) : Reaches s₀ (s.trackTests p) := .foldl hs fun _ _ hu => hu.modSink

theorem governorRun {p : LampPeriod} (hs : Reaches s₀ s) : Reaches s₀ (s.governorRun p) :=
  .ite (.ite hs.count.modLantern.post hs.count.modLantern) (.ite hs.modLantern.post hs)

theorem startPeriod {p : LampPeriod} (hs : Reaches s₀ s) : Reaches s₀ (s.startPeriod p) :=
  .showLamps (.trackTests (.governorRun (.setReg (.setReg (.setReg (.ite hs.ownFire.modLantern.count.count hs.ownFire.modLantern.count))))))

theorem pushTied (hs : Reaches s₀ s) : Reaches s₀ s.pushTied := .ite hs (.foldl hs fun _ _ hu => .ite hu hu.modTwin.push)

theorem lampStarted (hs : Reaches s₀ s) : Reaches s₀ s.lampStarted := .ite hs.other.post.startUpDone hs

theorem convertRail {g : Nat} {r : Option (Nat × Nat)} (hs : Reaches s₀ s) : Reaches s₀ (s.convertRail g r) := by
  unfold State.convertRail
  extract_lets +onlyGivenNames _ _ s2
  have hs2 : Reaches s₀ s2 := by
    unfold s2
    split
    · exact hs.setReg.setReg
    · exact hs.setReg
  exact .ite hs2 (.ite hs2.setReg.modLantern.post hs2.setReg.modLantern)

theorem pushCode {g : Nat} (hs : Reaches s₀ s) : Reaches s₀ (s.pushCode g) := .ite hs.push hs

theorem convertNtc {k uv : Nat} (hs : Reaches s₀ s) : Reaches s₀ (s.convertNtc k uv) :=
  .ite (.ite hs.setReg.modLantern hs.setReg.modLantern.post) hs.setInt.modLantern

theorem clearSink {c : Nat} (hs : Reaches s₀ s) : Reaches s₀ (s.clearSink c) := hs.modSink

theorem lampEnableWrite {c value : Nat} (hs : Reaches s₀ s) : Reaches s₀ (s.lampEnableWrite c value) := by
  unfold State.lampEnableWrite
  refine .ite hs.reply ?_
  exact .ite hs.reply (.ite hs.setReg.reply (.ite hs.post.reply (.reply (.ite (.foldl hs.setReg fun _ _ hu => hu.clearSink) hs.setReg))))

theorem clearGroup {g : Nat} (hs : Reaches s₀ s) : Reaches s₀ (s.clearGroup g) := by
  unfold State.clearGroup
  exact .judgeGroup (.foldl hs fun _ _ hu => .foldl hu fun _ _ hu2 => hu2.clearSink)

theorem groupClearWrite {g value : Nat} (hs : Reaches s₀ s) : Reaches s₀ (s.groupClearWrite g value) :=
  .ite hs.reply (.ite hs.reply hs.clearGroup.reply)

theorem reloadSafety (hs : Reaches s₀ s) : Reaches s₀ s.reloadSafety := .foldl hs fun _ _ hu => .ite hu.setReg.setReg hu

theorem safetyCopies {copy1Fails copy2Fails reloadOk : Bool} (hs : Reaches s₀ s) :
    Reaches s₀ (s.safetyCopies copy1Fails copy2Fails reloadOk) := by
  unfold State.safetyCopies
  extract_lets +onlyGivenNames s1 s2
  have hs1 : Reaches s₀ s1 := .ite hs.count hs
  have hs2 : Reaches s₀ s2 := .ite hs1.count hs1
  exact .ite (.ite hs2.post.reloadSafety.modLantern hs2.post.modLantern) hs2.modLantern

theorem tiedRelease (hs : Reaches s₀ s) : Reaches s₀ s.tiedRelease := .ite hs.modLantern.count hs.modLantern

theorem tiedGain (hs : Reaches s₀ s) : Reaches s₀ s.tiedGain := .ite hs hs.modLantern

theorem lampStep {old : Nat} (hs : Reaches s₀ s) : Reaches s₀ (s.lampStep old) := .ite hs hs.modLantern.modLantern.modBelfry.post

end Reaches

theorem Effects.execMergeInstant (dt : Nat) (s : State) :
    Effects s dt (execMergeInstant dt s) := .run fun _ _ hs => .ite hs.merge.refreshClaim hs

theorem Effects.execPeriodStart (dt : Nat) (tests : List (Nat × Bool × Nat × Nat)) (s : State) : Effects s dt (execPeriodStart dt tests s) :=
  .run fun _ _ hs => by split; exacts [hs, .ite hs hs.judgePeriod.startPeriod.pushTied.lampStarted]

theorem Effects.execChannelUntested (dt channel : Nat) (s : State) : Effects s dt (execChannelUntested dt channel s) :=
  .run fun _ _ hs => by split; exacts [.ite hs.modSink.setBit hs, hs]

theorem Effects.execAdcConversion (dt : Nat) (rails : List (Option (Nat × Nat))) (ntc : List Nat) (junction vin : Nat) (s : State) :
    Effects s dt (execAdcConversion dt rails ntc junction vin s) := .run fun _ _ hs => by
  split
  · exact hs
  · refine .ite hs ?_
    exact .setReg (.setReg (.foldl (.foldl hs.ownFire.modLantern fun _ _ hu => hu.convertRail.pushCode) fun _ _ hu => hu.convertNtc))

theorem Effects.execChannelEnable (dt who channel value : Nat) (s : State) : Effects s dt (execChannelEnable dt who channel value s) :=
  .run fun _ _ hs => .asWriter hs hs.lampEnableWrite

theorem Effects.execGroupClear (dt who group value : Nat) (s : State) : Effects s dt (execGroupClear dt who group value s) :=
  .run fun _ _ hs => .asWriter hs hs.groupClearWrite

theorem Effects.execGroupRetry (dt group : Nat) (s : State) : Effects s dt (execGroupRetry dt group s) :=
  .run fun _ _ hs => .ite hs.modGroup.clearGroup hs

theorem Effects.execSafetyTableCheck (dt : Nat) (copy1Fails copy2Fails reloadOk : Bool) (s : State) :
    Effects s dt (execSafetyTableCheck dt copy1Fails copy2Fails reloadOk s) :=
  .run fun _ _ hs => hs.safetyCopies

theorem Effects.execTiedGroupEnable (dt : Nat) (s : State) : Effects s dt (execTiedGroupEnable dt s) :=
  .run fun _ _ hs => by split; exacts [.ite hs.modLantern.count hs, hs]

/-! Cues and delay lists (R166 to R169, R323 to R326) -/

namespace Reaches

variable {s₀ s : State}

theorem showDelays (hs : Reaches s₀ s) : Reaches s₀ s.showDelays := .foldl hs fun _ _ hu => hu.setReg

theorem putDelay {list id d : Nat} (hs : Reaches s₀ s) : Reaches s₀ (s.putDelay list id d) := hs.modBelfry.trace

theorem modCue {id : Nat} {f : RunningCue → RunningCue} (hs : Reaches s₀ s) : Reaches s₀ (s.modCue id f) := hs.modLantern

theorem startCue {c first : Nat} (hs : Reaches s₀ s) : Reaches s₀ (s.startCue c first) := hs.modLantern

theorem issueCue {r : RunningCue} {p : Nat} (hs : Reaches s₀ s) : Reaches s₀ (s.issueCue r p) := .foldl hs fun _ _ hu => hu.modBelfry.makeReady

theorem releaseCue {n id p : Nat} (hs : Reaches s₀ s) : Reaches s₀ (State.releaseCue n s id p) := by
  induction n generalizing s id p with
  | zero => exact hs
  | succ n ih =>
    unfold State.releaseCue
    split
    · exact hs
    · extract_lets
      refine .ite hs (.ite ?_ (.ite hs.issueCue.putDelay (.ite hs.issueCue hs.issueCue.putDelay)))
      extract_lets
      refine .ite hs.modCue ?_
      split
      · exact hs.modCue.post
      · exact ih hs.modCue.startCue

theorem landCue {o : BelOp} (hs : Reaches s₀ s) : Reaches s₀ (s.landCue o) := by
  unfold State.landCue
  split
  · exact hs
  · exact hs.modCue

theorem lateCue {o : BelOp} (hs : Reaches s₀ s) : Reaches s₀ (s.lateCue o) := by
  unfold State.lateCue
  extract_lets +onlyGivenNames _ s1
  have hs1 : Reaches s₀ s1 := by
    unfold s1
    split
    · exact hs.freeOp.stopEngine.trace
    · exact hs.freeOp.trace
  exact .ite hs1.count.post hs1.count.post.count.modLantern

theorem cueGo {value : Nat} (hs : Reaches s₀ s) : Reaches s₀ (s.cueGo value) := by
  unfold State.cueGo
  refine .ite hs.reply ?_
  extract_lets +onlyGivenNames _
  split
  · exact hs.post.reply
  · exact .ite hs.reply (.reply (.showDelays (.ite hs.startCue.putDelay.post hs.startCue.putDelay)))

theorem cueStop {c : Nat} (hs : Reaches s₀ s) : Reaches s₀ (s.cueStop c) := by
  unfold State.cueStop
  refine .ite hs.reply ?_
  refine .reply ?_
  refine .showQueues ?_
  refine .showDelays ?_
  exact .modLantern (.foldl hs fun _ _ hu => .modCue (.foldl (.ite hu.modBelfry.count.trace hu.modBelfry) fun _ _ hu2 => hu2.cancelOp))

end Reaches

theorem Effects.execLampTick (dt : Nat) (s : State) : Effects s dt (execLampTick dt s) := .run fun _ _ hs => by
  refine .ite hs ?_
  refine .showQueues ?_
  exact .showDelays (.foldl hs.ownFire.modLantern.modBelfry fun _ _ hu => .foldl hu.modBelfry fun _ _ hu2 => hu2.trace.releaseCue)

theorem Effects.execCueDeadline (dt : Nat) (s : State) : Effects s dt (execCueDeadline dt s) :=
  .run fun _ _ hs => .showQueues (.foldl hs fun _ _ hu => hu.lateCue)

theorem Effects.execCueGo (dt who value : Nat) (s : State) : Effects s dt (execCueGo dt who value s) := .run fun _ _ hs => .asWriter hs hs.cueGo

theorem Effects.execCueStop (dt who cue : Nat) (s : State) :
    Effects s dt (execCueStop dt who cue s) := .run fun _ _ hs => .asWriter hs hs.cueStop

/-! Oculus (R351 to R360) -/

namespace Reaches

variable {s₀ s : State}

theorem showSignatures {e : Epoch} (hs : Reaches s₀ s) : Reaches s₀ (s.showSignatures e) :=
  .foldl (.setReg (.setReg (.foldl hs.setReg.setReg fun _ _ hu => hu.setReg.setReg))) fun _ _ hu => .ite hu.setReg.setReg hu.setReg.setReg

theorem judgeLink {now_ ref : OcuRecord} {link : Nat} (hs : Reaches s₀ s) : Reaches s₀ (s.judgeLink now_ ref link) := by
  unfold State.judgeLink
  extract_lets +onlyGivenNames _ _ _ _ _ _ _ s2 s3 s4
  have hs2 : Reaches s₀ s2 := .ite hs.count.setReg.count hs.count.setReg
  have hs3 : Reaches s₀ s3 := .ite hs2.setReg.modOcuLink.post hs2
  have hs4 : Reaches s₀ s4 := .ite hs3.setReg.count.post hs3
  exact .ite hs4.modOcuLink.count.post hs4

theorem passAll {epoch : Nat} (hs : Reaches s₀ s) : Reaches s₀ (s.passAll epoch) := by
  unfold State.passAll
  split
  · exact hs
  · exact .ite hs.modOcu (by split; exacts [.ite hs.modOcu hs, .ite hs.modOcu.showOculus.post hs.modOcu])

theorem passLink {epoch link : Nat} (hs : Reaches s₀ s) : Reaches s₀ (s.passLink epoch link) := by
  unfold State.passLink
  split
  · exact hs
  · exact hs.modOcuLink.showOculus.post
  · exact hs.modOcuLink

theorem oculusLink {e : Epoch} {link : Nat} (hs : Reaches s₀ s) : Reaches s₀ (s.oculusLink e link) := by
  simp only [State.oculusLink]
  exact .modOcuLink (by split; exacts [.ite hs.passLink hs.passLink.judgeLink, hs.passLink])

theorem oculusPresent {e : Epoch} (hs : Reaches s₀ s) :
    Reaches s₀ (s.oculusPresent e) := .foldl hs.showSignatures.passAll fun _ _ hu => hu.oculusLink

theorem ocuEnable {value : Nat} (hs : Reaches s₀ s) : Reaches s₀ (s.ocuEnable value) :=
  .ite hs.reply (.ite hs.reply (.ite hs.setReg.suspendAll.reply hs.setReg.modOcu.showOculus.reply))

end Reaches

theorem Effects.execOcuEnableWrite (dt who value : Nat) (s : State) : Effects s dt (execOcuEnableWrite dt who value s) :=
  .run fun _ _ hs => .asWriter hs hs.ocuEnable

/-! The memory arbiter (R385 to R404) -/

namespace Reaches

variable {s₀ s : State}

theorem grantDone {port octets conflicts corrected : Nat} (hs : Reaches s₀ s) : Reaches s₀ (s.grantDone port octets conflicts corrected) := by
  unfold State.grantDone
  exact hs.bump.count.count.count.modMem

theorem odeccRead {channel n : Nat} (hs : Reaches s₀ s) : Reaches s₀ (s.odeccRead channel n) := .ite hs.modMem.count.post hs.modMem

theorem dramTemp {channel t : Nat} (hs : Reaches s₀ s) : Reaches s₀ (s.dramTemp channel t) :=
  .ite hs.setReg.setReg.modMem.post hs.setReg.setReg.modMem

end Reaches

theorem Effects.execMemRequestRaise (dt port : Nat) (s : State) : Effects s dt (execMemRequestRaise dt port s) :=
  .run fun _ _ hs => .ite hs (.ite hs.modMem.round (.ite hs.modMem hs.modMem.parkWaiting))

theorem Effects.execArbitrationRound (dt octets conflicts corrected : Nat) (s : State) :
    Effects s dt (execArbitrationRound dt octets conflicts corrected s) :=
  .run fun _ _ hs => by split; exacts [hs.grantDone.round, hs]

theorem Effects.execRefreshDue (dt : Nat) (s : State) : Effects s dt (execRefreshDue dt s) := .run fun _ _ hs => .ite hs.count hs

theorem Effects.execDebugAccess (dt : Nat) (s : State) : Effects s dt (execDebugAccess dt s) := .run fun _ _ hs => .ite hs.count hs

theorem Effects.execOdeccPoll (dt count0 count1 : Nat) (s : State) : Effects s dt (execOdeccPoll dt count0 count1 s) :=
  .run fun _ _ hs => hs.odeccRead.odeccRead

theorem Effects.execDramTempRead (dt t0 t1 : Nat) (s : State) :
    Effects s dt (execDramTempRead dt t0 t1 s) := .run fun _ _ hs => hs.dramTemp.dramTemp

theorem Effects.execGrantOverrun (dt : Nat) (s : State) : Effects s dt (execGrantOverrun dt s) :=
  .run fun _ _ hs => by split; exacts [hs, .ite hs hs.modMem.count.post]

theorem Effects.execConflictWindowEnd (dt : Nat) (s : State) : Effects s dt (execConflictWindowEnd dt s) := .run fun _ _ hs => by
  refine .ite hs ?_
  refine .ite (.ite hs.setReg.setReg.modMem.count.modMem.post hs.setReg.setReg.modMem.count.modMem) ?_
  exact .ite hs.setReg.setReg.modMem hs.setReg.setReg.modMem.modMem.post

/-! The register bridge as sessions use it (R422 to R427) -/

namespace Reaches

variable {s₀ s : State}

theorem brgHold {link session : Nat} (hs : Reaches s₀ s) : Reaches s₀ (s.brgHold link session) := by
  unfold State.brgHold
  split
  · exact .ite hs hs.count
  · exact hs

theorem brgStart {who op link module address : Nat} {data : List Octet} {len : Nat} (hs : Reaches s₀ s) :
    Reaches s₀ (s.brgStart who op link module address data len) := by
  unfold State.brgStart
  split
  · exact hs.modBrgSession.reply
  · exact hs.queueTxn.brgHold.modBrgSession.reply

theorem brgRead {who : Nat} (hs : Reaches s₀ s) : Reaches s₀ (s.brgRead who) := .ite hs.reply (.ite hs.reply hs.brgStart)

theorem brgWrite {who : Nat} {data : List Octet} (hs : Reaches s₀ s) : Reaches s₀ (s.brgWrite who data) :=
  .ite hs.reply (.ite hs.reply (.ite hs.reply (.ite hs.modBrgSession.reply hs.brgStart)))

theorem brgLock {who : Nat} (hs : Reaches s₀ s) : Reaches s₀ (s.brgLock who) := .ite hs.modBrgSession.reply (.ite hs.reply hs.brgStart)

theorem brgUnlock {who : Nat} (hs : Reaches s₀ s) : Reaches s₀ (s.brgUnlock who) :=
  .ite hs.reply (.ite hs.brgStart (.ite hs.modBrgSession.reply hs.reply))

theorem brgDrop {who : Nat} {t : BrgTransfer} (hs : Reaches s₀ s) : Reaches s₀ (s.brgDrop who t) := by
  unfold State.brgDrop
  exact hs.modLink.modBrgSession

theorem brgAbort {who : Nat} (hs : Reaches s₀ s) : Reaches s₀ (s.brgAbort who) := by
  unfold State.brgAbort
  split
  · exact hs.modBrgSession.reply
  · exact hs.brgDrop.reply

theorem brgAbortWrite {who value : Nat} (hs : Reaches s₀ s) : Reaches s₀ (s.brgAbortWrite who value) := .ite hs.reply hs.brgAbort

theorem pweClear {value : Nat} (hs : Reaches s₀ s) : Reaches s₀ (s.pweClear value) := .ite hs.reply hs.modBrg.reply

end Reaches

theorem Effects.execBrgRead (dt who : Nat) (s : State) : Effects s dt (execBrgRead dt who s) := .run fun _ _ hs => hs.brgRead

theorem Effects.execBrgWrite (dt who : Nat) (data : List Octet) (s : State) : Effects s dt (execBrgWrite dt who data s) :=
  .run fun _ _ hs => .asWriter hs hs.brgWrite

theorem Effects.execBrgLockSet (dt who : Nat) (s : State) : Effects s dt (execBrgLockSet dt who s) := .run fun _ _ hs => .asWriter hs hs.brgLock

theorem Effects.execBrgUnlock (dt who : Nat) (s : State) : Effects s dt (execBrgUnlock dt who s) := .run fun _ _ hs => .asWriter hs hs.brgUnlock

theorem Effects.execBrgAbort (dt who value : Nat) (s : State) : Effects s dt (execBrgAbort dt who value s) :=
  .run fun _ _ hs => .asWriter hs hs.brgAbortWrite

theorem Effects.execBrgPweClear (dt who value : Nat) (s : State) : Effects s dt (execBrgPweClear dt who value s) :=
  .run fun _ _ hs => .asWriter hs hs.pweClear

/-! The signal map and E1.31 (R408 to R417) -/

namespace Reaches

variable {s₀ s : State}

theorem modMap {f : SignalMap → SignalMap} (hs : Reaches s₀ s) : Reaches s₀ (s.modMap f) := hs.other

theorem signalMapRequest (hs : Reaches s₀ s) : Reaches s₀ s.signalMapRequest :=
  .ite hs.reply (by split; exacts [hs.post.reply, hs.setReg.modMap.reply])

theorem signalMapCancel (hs : Reaches s₀ s) : Reaches s₀ s.signalMapCancel := .ite hs.setReg.modMap.reply hs.reply

theorem signalMapSwap (hs : Reaches s₀ s) : Reaches s₀ s.signalMapSwap := hs.modMap.setReg.setReg.post

theorem modUniverse {n : Nat} {f : Universe → Universe} (hs : Reaches s₀ s) : Reaches s₀ (s.modUniverse n f) := hs.modMap

theorem showUniverse {n : Nat} (hs : Reaches s₀ s) : Reaches s₀ (s.showUniverse n) :=
  .ite hs.setReg.setReg.setReg.setReg.post (.ite hs.setReg.setReg.setReg.setReg.post hs.setReg.setReg.setReg.setReg)

theorem sacnTake {n : Nat} {p : SacnPacket} (hs : Reaches s₀ s) : Reaches s₀ (s.sacnTake n p) := by
  unfold State.sacnTake
  extract_lets +onlyGivenNames _ _ _
  split
  · exact .ite hs.count (.ite hs.modUniverse.showUniverse hs.modUniverse.modMap.count.showUniverse)
  · exact .ite hs (.ite (.ite hs.count.modUniverse hs.count.modUniverse.post) hs.modUniverse.modMap.count.showUniverse)

theorem universeWrite {n sub value : Nat} (hs : Reaches s₀ s) : Reaches s₀ (s.universeWrite n sub value) := by
  unfold State.universeWrite
  refine .ite hs.reply ?_
  refine .ite hs.reply ?_
  exact .ite hs.reply (.ite hs.reply (.ite hs.setReg.reply hs.modUniverse.showUniverse.setReg.showUniverse.buildFilter.igmpReport.reply))

end Reaches

theorem Effects.execSignalMapChangeRequest (dt who : Nat) (s : State) : Effects s dt (execSignalMapChangeRequest dt who s) :=
  .run fun _ _ hs => .asWriter hs hs.signalMapRequest

theorem Effects.execSignalMapChangeCancel (dt who : Nat) (s : State) : Effects s dt (execSignalMapChangeCancel dt who s) :=
  .run fun _ _ hs => .asWriter hs hs.signalMapCancel

theorem Effects.execSacnPacket (dt : Nat) (p : SacnPacket) (s : State) : Effects s dt (execSacnPacket dt p s) :=
  .run fun _ _ hs => by split; exacts [hs, .ite hs.count hs.sacnTake]

theorem Effects.execSacnSourceLoss (dt entry : Nat) (s : State) : Effects s dt (execSacnSourceLoss dt entry s) :=
  .run fun _ _ hs => .ite hs.modUniverse.showUniverse hs

/-! The end of a session (R474) -/

namespace Reaches

variable {s₀ s : State}

theorem showSessions (hs : Reaches s₀ s) : Reaches s₀ s.showSessions := hs.setReg

theorem endLocks {n : Nat} (hs : Reaches s₀ s) : Reaches s₀ (s.endLocks n) :=
  .foldl hs fun _ _ hu => by split; exacts [.ite hu.forceUnlock.lockLost hu, hu]

theorem endSession {n cause : Nat} (hs : Reaches s₀ s) : Reaches s₀ (s.endSession n cause) := by
  unfold State.endSession
  extract_lets +onlyGivenNames s0 s1 s2
  have hs0 : Reaches s₀ s0 := by
    unfold s0
    split
    · exact hs.respond
    · exact hs
  have hs1 : Reaches s₀ s1 := hs0.endLocks
  have hs2 : Reaches s₀ s2 := by
    unfold s2
    split
    · exact hs1.brgDrop
    · exact hs1
  clear_value s2
  exact .post (.showSessions (.ite hs2.other (.count hs2.other)))

theorem endSessions {cause : Nat} {f : Session → Bool} (hs : Reaches s₀ s) : Reaches s₀ (s.endSessions cause f) :=
  .foldl hs fun _ _ hu => hu.endSession

end Reaches

/-! The DMX512-A ports (R418 to R421) -/

namespace Reaches

variable {s₀ s : State}

theorem modDmx {port : Nat} {f : DmxPort → DmxPort} (hs : Reaches s₀ s) : Reaches s₀ (s.modDmx port f) := hs.modMap

theorem showDmx {port : Nat} (hs : Reaches s₀ s) :
    Reaches s₀ (s.showDmx port) := .ite hs.setReg (.ite (.ite hs.modDmx.setReg hs.setReg) hs.setReg)

theorem showAllDmx (hs : Reaches s₀ s) : Reaches s₀ s.showAllDmx := .foldl hs fun _ _ hu => hu.showDmx

theorem dmxModeEffect {port mode : Nat} (hs : Reaches s₀ s) : Reaches s₀ (s.dmxModeEffect port mode) :=
  .ite hs.modDmx.showDmx.post.endSessions hs.modDmx.showDmx

theorem dmxModeDue {port : Nat} (hs : Reaches s₀ s) : Reaches s₀ (s.dmxModeDue port) := by
  unfold State.dmxModeDue
  split
  · exact hs.dmxModeEffect
  · exact hs

theorem dmxMode {port value : Nat} (hs : Reaches s₀ s) : Reaches s₀ (s.dmxMode port value) :=
  .ite hs.reply (.ite hs.reply (.reply (.ite hs.setReg.modDmx hs.setReg.dmxModeEffect)))

theorem rdmQueue {port : Nat} {x2 : RdmExchange} (hs : Reaches s₀ s) : Reaches s₀ (s.rdmQueue port x2) := hs.modDmx

theorem rdmSearch {port : Nat} (hs : Reaches s₀ s) : Reaches s₀ (s.rdmSearch port) := by
  unfold State.rdmSearch
  split
  · exact hs.modDmx.rdmQueue
  · exact hs.modDmx.setReg.post

theorem rdmSplit {port lo hi : Nat} (hs : Reaches s₀ s) : Reaches s₀ (s.rdmSplit port lo hi) := .rdmSearch (.ite hs.modDmx hs)

theorem rdmNoResponse {port : Nat} (hs : Reaches s₀ s) : Reaches s₀ (s.rdmNoResponse port) := hs.modDmx.setReg.count

theorem rdmUnanswered {port : Nat} {x2 : RdmExchange} (hs : Reaches s₀ s) : Reaches s₀ (s.rdmUnanswered port x2) := by
  unfold State.rdmUnanswered
  split
  · exact hs.rdmSearch
  · exact hs.modDmx.setReg

theorem rdmSend {port : Nat} {x2 : RdmExchange} (hs : Reaches s₀ s) : Reaches s₀ (s.rdmSend port x2) := by
  unfold State.rdmSend
  extract_lets +onlyGivenNames _ _ _ _ s1
  have hs1 : Reaches s₀ s1 := hs.modDmx.emit.count
  exact .ite hs1 hs1.rdmUnanswered

theorem rdmAgain {port : Nat} {x2 : RdmExchange} (hs : Reaches s₀ s) : Reaches s₀ (s.rdmAgain port x2) := by
  unfold State.rdmAgain
  refine .ite hs.rdmQueue.dmxModeDue ?_
  split
  · exact hs.rdmSearch.dmxModeDue
  · exact hs.rdmSplit.dmxModeDue
  · exact hs.rdmSearch.dmxModeDue
  · exact hs.rdmNoResponse.dmxModeDue
  · exact hs.rdmNoResponse.dmxModeDue

theorem rdmComplete {port : Nat} {p : RdmPacket} {data : List Octet} (hs : Reaches s₀ s) : Reaches s₀ (s.rdmComplete port p data) :=
  hs.modDmx.setReg.dmxModeDue

theorem rdmAnswer {port : Nat} {x2 : RdmExchange} {p : RdmPacket} (hs : Reaches s₀ s) : Reaches s₀ (s.rdmAnswer port x2 p) :=
  .ite hs.rdmQueue.dmxModeDue (.ite hs.rdmQueue.dmxModeDue hs.rdmComplete)

theorem rdmFound {port uid lo hi : Nat} (hs : Reaches s₀ s) : Reaches s₀ (s.rdmFound port uid lo hi) :=
  .ite hs.rdmSearch (.ite hs.modDmx.setReg.post hs.modDmx.rdmSearch)

theorem rdmResponse {port : Nat} {x2 : RdmExchange} {p : RdmPacket} (hs : Reaches s₀ s) : Reaches s₀ (s.rdmResponse port x2 p) := by
  unfold State.rdmResponse
  split
  · exact .ite hs.rdmQueue hs.count.rdmSplit
  · exact .ite hs.rdmFound hs.count.rdmAgain
  · exact hs
  · exact .ite hs.rdmAnswer hs.count.rdmAgain
  · exact .ite hs.rdmAnswer hs.count.rdmAgain

theorem rdmRequest {port dest cls pid : Nat} {data : List Octet} (hs : Reaches s₀ s) : Reaches s₀ (s.rdmRequest port dest cls pid data) :=
  .ite hs.reply (.ite hs.reply (.ite hs.reply (.ite hs.reply hs.rdmQueue.setReg.reply)))

theorem rdmDiscover {port value : Nat} (hs : Reaches s₀ s) : Reaches s₀ (s.rdmDiscover port value) :=
  .ite hs.reply (.ite hs.reply (.ite hs.reply (.ite hs.reply hs.modDmx.rdmQueue.setReg.reply)))

theorem rdmAbort {port value : Nat} (hs : Reaches s₀ s) : Reaches s₀ (s.rdmAbort port value) :=
  .ite hs.reply (.ite hs.reply (.ite hs.modDmx.setReg.dmxModeDue.reply hs.setReg.reply))

theorem dmxTake {port : Nat} {slots : List Nat} (hs : Reaches s₀ s) : Reaches s₀ (s.dmxTake port slots) := by
  unfold State.dmxTake
  extract_lets +onlyGivenNames _ s1
  have hs1 : Reaches s₀ s1 := hs.modDmx.setReg.count.showDmx
  exact .ite hs1 hs1.post

theorem rdmRespond {port : Nat} {p : RdmPacket} {kind : Nat} {data : List Octet} (hs : Reaches s₀ s) :
    Reaches s₀ (s.rdmRespond port p kind data) :=
  .ite hs.count hs.count.emit

theorem rdmStandard {port : Nat} {p : RdmPacket} (hs : Reaches s₀ s) : Reaches s₀ (s.rdmStandard port p) :=
  .ite (.ite (.ite hs hs.count.emit) (.ite hs.modDmx.rdmRespond (.ite hs.modDmx.rdmRespond hs))) (.ite hs.rdmRespond hs.rdmRespond)

end Reaches

theorem Effects.execDmxModeWrite (dt who port value : Nat) (s : State) : Effects s dt (execDmxModeWrite dt who port value s) :=
  .run fun _ _ hs => .asWriter hs hs.dmxMode

theorem Effects.execDmxTxPacket (dt port : Nat) (s : State) : Effects s dt (execDmxTxPacket dt port s) :=
  .run fun _ _ hs => .ite hs (.ite hs.showDmx hs.modDmx.emit.showDmx)

theorem Effects.execDmxTxPacketEnd (dt port : Nat) (s : State) : Effects s dt (execDmxTxPacketEnd dt port s) := .run fun _ _ hs => by
  split
  · exact hs
  · exact .ite hs (.ite hs.modDmx.count.dmxModeDue (by split; exacts [.ite hs.modDmx.count.rdmSend hs.modDmx.count, hs.modDmx.count]))

theorem Effects.execRdmResponseReceive (dt port : Nat) (p : RdmPacket) (s : State) : Effects s dt (execRdmResponseReceive dt port p s) :=
  .run fun _ _ hs => by split; exacts [.ite hs.rdmResponse.dmxModeDue hs, hs]

theorem Effects.execRdmResponseTimeout (dt port : Nat) (s : State) : Effects s dt (execRdmResponseTimeout dt port s) :=
  .run fun _ _ hs => by split; exacts [by split; exacts [.ite hs (by split; exacts [hs.rdmSearch.dmxModeDue, hs.rdmAgain]), hs], hs]

theorem Effects.execRdmAckTimerExpiry (dt port : Nat) (s : State) : Effects s dt (execRdmAckTimerExpiry dt port s) :=
  .run fun _ _ hs => by split; exacts [by split; exacts [.ite hs hs.rdmQueue, hs], hs]

theorem Effects.execRdmRequest (dt who port dest cls pid : Nat) (data : List Octet) (s : State) :
    Effects s dt (execRdmRequest dt who port dest cls pid data s) :=
  .run fun _ _ hs => .asWriter hs hs.rdmRequest

theorem Effects.execDmxRdmDiscover (dt who port value : Nat) (s : State) : Effects s dt (execDmxRdmDiscover dt who port value s) :=
  .run fun _ _ hs => .asWriter hs hs.rdmDiscover

theorem Effects.execRdmAbort (dt who port value : Nat) (s : State) : Effects s dt (execRdmAbort dt who port value s) :=
  .run fun _ _ hs => .asWriter hs hs.rdmAbort

theorem Effects.execDmxRxPacket (dt port startCode : Nat) (slots : List Nat) (framing : Bool) (s : State) :
    Effects s dt (execDmxRxPacket dt port startCode slots framing s) :=
  .run fun _ _ hs => .ite hs (.ite hs.count (.ite hs.count hs.dmxTake))

theorem Effects.execDmxRxLoss (dt port : Nat) (s : State) : Effects s dt (execDmxRxLoss dt port s) :=
  .run fun _ _ hs => .ite hs.modDmx.showDmx.post.endSessions hs

/-! The states of a Twin unit (R439 to R459) -/

namespace Reaches

variable {s₀ s : State}

theorem tiedUpdate (hs : Reaches s₀ s) : Reaches s₀ s.tiedUpdate := .showAllDmx (.ite hs.tiedGain hs.tiedRelease)

theorem enterTwin {n : Nat} (hs : Reaches s₀ s) : Reaches s₀ (s.enterTwin n) := hs.setReg.modTwin.claimFollows.tiedUpdate

theorem takeover (hs : Reaches s₀ s) : Reaches s₀ s.takeover := by
  unfold State.takeover
  extract_lets +onlyGivenNames _ _ _ _ s2
  have hs2 : Reaches s₀ s2 := .foldl hs.enterTwin.modTwin fun _ _ hu => hu.squash
  exact .post (.count (.showQueues (.reprioritise (.ite hs2.setReg hs2))))

theorem settleTwin (hs : Reaches s₀ s) : Reaches s₀ s.settleTwin := .ite hs.takeover (.ite hs.enterTwin.post hs)

theorem observe {cause : Nat} (hs : Reaches s₀ s) : Reaches s₀ (s.observe cause) := hs.enterTwin.modTwin.count.setReg.post

theorem joinStep {epoch : Nat} {good : Bool} (hs : Reaches s₀ s) : Reaches s₀ (s.joinStep epoch good) :=
  .ite hs (.ite hs.modTwin.enterTwin.modTwin.setReg.count.post hs.modTwin)

theorem diverged {epoch : Nat} (hs : Reaches s₀ s) : Reaches s₀ (s.diverged epoch) := by
  unfold State.diverged
  extract_lets +onlyGivenNames _ _ s2
  have hs2 : Reaches s₀ s2 := .ite hs.modTwin.count.post hs.modTwin.count
  exact .ite hs2.observe hs2

theorem judgeFrame {epoch : Nat} (hs : Reaches s₀ s) : Reaches s₀ (s.judgeFrame epoch) := by
  unfold State.judgeFrame
  split
  · exact hs
  · split
    · exact .ite hs (.ite hs.modTwin.joinStep hs.diverged.joinStep)
    · exact hs

theorem frameSig {epoch sig mask : Nat} (hs : Reaches s₀ s) : Reaches s₀ (s.frameSig epoch sig mask) := by
  unfold State.frameSig
  extract_lets +onlyGivenNames _ s0
  have hs0 : Reaches s₀ s0 := .ite hs.setBit hs
  exact .ite hs0.sendMirror.recordFrame.judgeFrame hs0

end Reaches

/-! Ports going down and steps of venue time (R72, R93) -/

namespace Reaches

variable {s₀ s : State}

theorem dropQueues {port : Nat} (hs : Reaches s₀ s) : Reaches s₀ (s.dropQueues port) := by
  unfold State.dropQueues
  exact .modNet (.ite hs.count hs)

theorem portDown {port : Nat} (hs : Reaches s₀ s) : Reaches s₀ (s.portDown port) := by
  unfold State.portDown
  refine .ite ?_ hs
  extract_lets +onlyGivenNames s1
  have hs1 : Reaches s₀ s1 := hs.setReg.count.post.dropQueues
  exact .ite hs1.endSessions.enterHoldover hs1.endSessions

theorem portWrite {port : Nat} {fec : Bool} {value : Nat} (hs : Reaches s₀ s) : Reaches s₀ (s.portWrite port fec value) :=
  .ite hs.reply (.ite hs.reply (.ite hs.reply (.ite hs.reply (.ite hs.reply hs.portDown.setReg.setBit.loadTsConst.modNet.reply))))

theorem countSkips {old n : Nat} (hs : Reaches s₀ s) : Reaches s₀ (s.countSkips old n) := .ite hs hs.bump.post

theorem passedEpochs (hs : Reaches s₀ s) : Reaches s₀ s.passedEpochs := .foldl hs fun _ _ hu => hu.withhold.modScan

theorem stepBy {step : Int} {again : Bool} (hs : Reaches s₀ s) : Reaches s₀ (s.stepBy step again) := by
  unfold State.stepBy
  extract_lets +onlyGivenNames _ _ _ _ _ _ _ s4 _ s6 s7
  have hs4 : Reaches s₀ s4 := .foldl (.foldl hs.modClock.bump.setBit.post fun _ _ hu => hu.countSkips) fun _ _ hu => hu.cmpStep
  have hs6 : Reaches s₀ s6 := .ite hs4.gclStep.gclStep.passedEpochs.modeEffect hs4.gclStep.gclStep
  have hs7 : Reaches s₀ s7 := .ite hs6.setReg hs6
  exact .lampStep (.ite hs7.milestone hs7)

end Reaches

theorem Effects.execLinkDown (dt port : Nat) (lockLost : Bool) (s : State) : Effects s dt (execLinkDown dt port lockLost s) :=
  .run fun _ _ hs => .ite hs (.ite hs.count.portDown hs.portDown)

theorem Effects.execPortRestart (dt who port : Nat) (fec : Bool) (value : Nat) (s : State) :
    Effects s dt (execPortRestart dt who port fec value s) :=
  .run fun _ _ hs => .asWriter hs hs.portWrite

theorem Effects.execFirstStep (dt : Nat) (s : State) : Effects s dt (execFirstStep dt s) :=
  .run fun _ _ hs => by split; exacts [hs, .ite hs hs.modClock.setF.stepBy.setServo]

theorem Effects.execReacquireStep (dt : Nat) (s : State) : Effects s dt (execReacquireStep dt s) := .run fun s₀ _ hs => by
  refine .ite hs ?_
  extract_lets xs s0
  have hs0 : Reaches s₀ s0 := hs.setReg
  clear_value xs
  cases xs with
  | nil => exact hs0.post
  | cons _ _ => exact hs0.setBit.modClock.stepBy.setServo

/-! The strike and the presentation of an epoch -/

namespace Reaches

variable {s₀ s : State}

theorem sendStrike {link epoch offset2 : Nat} (hs : Reaches s₀ s) : Reaches s₀ (s.sendStrike link epoch offset2) :=
  .foldl hs fun _ _ hu => hu.sendBlock

theorem applyDelays {link : Nat} (hs : Reaches s₀ s) : Reaches s₀ (s.applyDelays link) := by
  unfold State.applyDelays
  refine .ite hs ?_
  extract_lets +onlyGivenNames _ s1
  have hs1 : Reaches s₀ s1 := .foldl hs.setReg fun _ _ hu => hu.setReg
  exact .ite hs1.modLink.count.post hs1.modLink

theorem firstStrike {e : Epoch} (hs : Reaches s₀ s) : Reaches s₀ (s.firstStrike e) := .previewSnapshot (.ite hs.count hs.count.modScan.post)

theorem linkStruck {e link : Nat} (hs : Reaches s₀ s) : Reaches s₀ (s.linkStruck e link) := .ite hs.modScan.post hs

theorem pictureStruck {e : Epoch} (hs : Reaches s₀ s) : Reaches s₀ (s.pictureStruck e) := .ite hs.other.milestone.post.startUpDone hs

theorem leaveFlight {e : Epoch} (hs : Reaches s₀ s) : Reaches s₀ (s.leaveFlight e) := hs.other.modBelfry.collect

end Reaches

theorem Effects.execStrikeLeave (dt link offset2 : Nat) (s : State) : Effects s dt (execStrikeLeave dt link offset2 s) := .run fun s₀ _ hs => by
  split
  · exact hs
  · refine .ite hs ?_
    extract_lets +onlyGivenNames s1
    have hs1 : Reaches s₀ s1 := hs.sendStrike.applyDelays.count.modLink
    split
    · exact hs1
    · extract_lets +onlyGivenNames s2
      have hs2 : Reaches s₀ s2 := .ite hs1.firstStrike hs1
      exact .refreshClaim (.ite hs2.modEpoch.linkStruck.pictureStruck hs2.modEpoch.linkStruck)

theorem Effects.execPresentationInstant (dt : Nat) (s : State) : Effects s dt (execPresentationInstant dt s) :=
  .run fun _ _ hs => by split; exacts [hs, .ite hs (.leaveFlight (.modIngest (.ite hs.modEpoch.frameSig hs.modEpoch.frameSig.oculusPresent)))]

theorem Effects.execOperationComplete (dt engine : Nat) (faults : ReadFaults) (s : State) :
    Effects s dt (execOperationComplete dt engine faults s) := .run fun s₀ _ hs => by
  split
  · exact hs
  · extract_lets +onlyGivenNames _ s1
    have hs1 : Reaches s₀ s1 := .ite (by split; exacts [.ite hs.landPixel hs, hs]) (.ite hs.landCue hs.landBackground)
    exact hs1.finishOp.resume.showQueues

/-! Resets (R526 to R532) -/

namespace Reaches

variable {s₀ s : State}

theorem modSys {f : Sys → Sys} (hs : Reaches s₀ s) : Reaches s₀ (s.modSys f) := hs.other

theorem modUpdate {f : Update → Update} (hs : Reaches s₀ s) : Reaches s₀ (s.modUpdate f) := hs.other

theorem modChain {f : Chain → Chain} (hs : Reaches s₀ s) : Reaches s₀ (s.modChain f) := hs.other

theorem addCause {bit : Nat} (hs : Reaches s₀ s) : Reaches s₀ (s.addCause bit) := hs.modSys

theorem coldReset {bit : Nat} (hs : Reaches s₀ s) : Reaches s₀ (s.coldReset bit) := hs.addCause.restarted

theorem warmReset {bit : Nat} (hs : Reaches s₀ s) : Reaches s₀ (s.warmReset bit) := .ite hs.addCause hs.addCause.restarted

end Reaches

theorem Effects.execControlSramError (dt area address copy : Nat) (single otherFails reloadOk : Bool) (s : State) :
    Effects s dt (execControlSramError dt area address copy single otherFails reloadOk s) := .run fun _ _ hs => by
  refine .ite hs.count ?_
  refine .ite (.showQueues (.reprioritise (.foldl hs.count.post fun _ _ hu => hu.squash))) ?_
  exact .ite hs.count.post.safetyCopies (.ite hs.count.post.modBelfry.setReg.arbMode.reloadEngines hs.count.post.warmReset)

theorem Effects.execDramReadError (dt port address : Nat) (repeatClean : Bool) (zone : Option Nat) (s : State) :
    Effects s dt (execDramReadError dt port address repeatClean zone s) :=
  .run fun _ _ hs => .ite hs.count (.ite hs.count.post.warmReset (by split; exacts [hs.count.post.requestPass, hs.count.post]))

theorem Effects.execGrantHoldRestart (dt : Nat) (s : State) : Effects s dt (execGrantHoldRestart dt s) := .run fun _ _ hs => .ite hs.warmReset hs

/-! Firmware images and chain messages (R494 to R507) -/

namespace Reaches

variable {s₀ s : State}

theorem putArea {k : Nat} {data : List Octet} (hs : Reaches s₀ s) : Reaches s₀ (s.putArea k data) := hs.modUpdate

theorem restoreArea (hs : Reaches s₀ s) : Reaches s₀ s.restoreArea := by
  unfold State.restoreArea
  split
  · exact .foldl hs fun _ _ hu => hu.putArea
  · exact hs

theorem showIp (hs : Reaches s₀ s) : Reaches s₀ s.showIp := hs.setReg

theorem showBoot (hs : Reaches s₀ s) : Reaches s₀ s.showBoot := by
  unfold State.showBoot
  split
  · exact hs
  · exact hs.setReg.setReg.setReg.setReg.showIp

theorem writeBoot {f : BootRecord → BootRecord} (hs : Reaches s₀ s) : Reaches s₀ (s.writeBoot f) := hs.modUpdate.showBoot

theorem sendChain {netb : Bool} {mac kind image : Nat} {payload : List Octet} (hs : Reaches s₀ s) :
    Reaches s₀ (s.sendChain netb mac kind image payload) := by
  unfold State.sendChain
  exact hs.modChain.emit

theorem castChain {kind image : Nat} {payload : List Octet} (hs : Reaches s₀ s) : Reaches s₀ (s.castChain kind image payload) := by
  unfold State.castChain
  exact hs.modChain.emit.emit

end Reaches

/-! Stored profiles and the access record (R483 to R489) -/

namespace Reaches

variable {s₀ s : State}

theorem showProfiles (hs : Reaches s₀ s) : Reaches s₀ s.showProfiles :=
  .foldl hs fun _ _ hu => by split; exacts [hu.setReg.setReg.setReg.setReg.setReg, hu.setReg.setReg.setReg.setReg.setReg]

theorem beginSave {n role : Nat} {records : List ProfileRecord} (hs : Reaches s₀ s) : Reaches s₀ (s.beginSave n role records) := hs.modIdp.setReg

theorem saveProfile {n role : Nat} {records : List ProfileRecord} (hs : Reaches s₀ s) : Reaches s₀ (s.saveProfile n role records) :=
  .ite hs.reply hs.beginSave.reply

theorem profileSave {value : Nat} (hs : Reaches s₀ s) : Reaches s₀ (s.profileSave value) := .ite hs.saveProfile hs.reply

theorem profileCreate {value : Nat} (hs : Reaches s₀ s) : Reaches s₀ (s.profileCreate value) := .ite hs.saveProfile (.ite hs.reply hs.reply)

theorem restartWrite {value : Nat} (hs : Reaches s₀ s) : Reaches s₀ (s.restartWrite value) := .ite hs.reply.warmReset hs.reply

theorem showKeys (hs : Reaches s₀ s) : Reaches s₀ s.showKeys := hs.setReg.setReg.setReg

theorem installKey {who : Nat} {key : List Octet} (hs : Reaches s₀ s) : Reaches s₀ (s.installKey who key) :=
  .ite hs.reply (.ite hs.reply hs.modIdp.showKeys.post.reply)

theorem integratorKey {key : List Octet} (hs : Reaches s₀ s) : Reaches s₀ (s.integratorKey key) := .ite hs.reply hs.modIdp.showKeys.post.reply

end Reaches

theorem Effects.execDicProfileSave (dt who value : Nat) (s : State) : Effects s dt (execDicProfileSave dt who value s) :=
  .run fun _ _ hs => .asWriter hs hs.profileSave

theorem Effects.execDicProfileCreate (dt who value : Nat) (s : State) : Effects s dt (execDicProfileCreate dt who value s) :=
  .run fun _ _ hs => .asWriter hs hs.profileCreate

theorem Effects.execProfileSaveDone (dt : Nat) (ok : Bool) (s : State) : Effects s dt (execProfileSaveDone dt ok s) :=
  .run fun _ _ hs => by split; exacts [hs, .ite hs.modIdp.modIdp.setReg.count.showProfiles.post hs.modIdp.setReg.count.post]

theorem Effects.execDicRestart (dt who value : Nat) (s : State) : Effects s dt (execDicRestart dt who value s) :=
  .run fun _ _ hs => .asWriter hs hs.restartWrite

theorem Effects.execDicInstallKey (dt who : Nat) (key : List Octet) (s : State) : Effects s dt (execDicInstallKey dt who key s) :=
  .run fun _ _ hs => hs.installKey

theorem Effects.execDicServiceKeyIntegrator (dt who : Nat) (key : List Octet) (s : State) :
    Effects s dt (execDicServiceKeyIntegrator dt who key s) :=
  .run fun _ _ hs => .asWriter hs hs.integratorKey

/-! Chain addresses (R492 to R501) -/

namespace Reaches

variable {s₀ s : State}

theorem discover (hs : Reaches s₀ s) : Reaches s₀ s.discover := by
  unfold State.discover
  exact hs.castChain.modChain

theorem askBackup {up adopt : Bool} {address : Nat} (hs : Reaches s₀ s) : Reaches s₀ (s.askBackup up adopt address) := by
  unfold State.askBackup
  exact hs.takeFree.sendChain.modChain

theorem showBackup {side : Nat} (hs : Reaches s₀ s) : Reaches s₀ (s.showBackup side) := by
  unfold State.showBackup
  split
  · exact hs.setReg.setReg.setReg.setReg.setReg
  · exact hs

theorem wantBackup {up : Bool} {h : Heard} (hs : Reaches s₀ s) : Reaches s₀ (s.wantBackup up h) := .ite hs hs.askBackup

theorem adoptAsk (hs : Reaches s₀ s) : Reaches s₀ s.adoptAsk := .ite hs.askBackup.modChain hs

theorem takeAddress {new kind : Nat} (hs : Reaches s₀ s) : Reaches s₀ (s.takeAddress new kind) := by
  unfold State.takeAddress
  extract_lets +onlyGivenNames _ _ s2
  have hs2 : Reaches s₀ s2 := hs.writeBoot.modChain.setReg.setReg.count
  exact .adoptAsk (.discover (.ite hs2.post hs2.post.post.endSessions))

theorem offerAddress {new kind : Nat} (hs : Reaches s₀ s) : Reaches s₀ (s.offerAddress new kind) :=
  .ite (.adoptAsk (.ite hs.modChain hs.setReg.modChain)) (.ite (.ite hs hs.setReg.modChain.post) hs.takeAddress)

theorem follow (hs : Reaches s₀ s) : Reaches s₀ s.follow := by
  unfold State.follow
  split
  · exact hs
  · exact .ite hs (.ite (.ite hs hs.modChain.post) hs.modChain.offerAddress)

theorem keepNotice {up now : Bool} (hs : Reaches s₀ s) : Reaches s₀ (s.keepNotice up now) := .ite hs.modChain.post hs.modChain

theorem upstreamHeard {h : Heard} (hs : Reaches s₀ s) : Reaches s₀ (s.upstreamHeard h) := by
  unfold State.upstreamHeard
  split
  · exact .ite hs.setReg.setReg.modChain.wantBackup hs
  · exact hs

theorem downstreamHeard {h : Heard} {inKeep : Bool} (hs : Reaches s₀ s) : Reaches s₀ (s.downstreamHeard h inKeep) :=
  .ite hs.setReg.setReg.modChain.keepNotice.wantBackup hs

theorem conflictHeard {h : Heard} (hs : Reaches s₀ s) :
    Reaches s₀ (s.conflictHeard h) := .ite hs (.ite hs.modChain hs.modChain.setReg.count.post)

theorem addrAccept {value : Nat} (hs : Reaches s₀ s) : Reaches s₀ (s.addrAccept value) := .ite hs.reply (.ite hs.reply hs.takeAddress.reply)

end Reaches

theorem Effects.execDiscoverSend (dt : Nat) (s : State) : Effects s dt (execDiscoverSend dt s) := .run fun _ _ hs => .ite hs.discover hs

theorem Effects.execChainInWord (dt word : Nat) (s : State) : Effects s dt (execChainInWord dt word s) :=
  .run fun _ _ hs => .ite hs hs.modChain.keepNotice.follow

theorem Effects.execChainInIdle (dt : Nat) (s : State) : Effects s dt (execChainInIdle dt s) := .run fun _ _ hs => .ite hs.modChain hs

theorem Effects.execChainDiscover (dt : Nat) (h : ChainHead) (chain flags profile generation : Nat) (s : State) :
    Effects s dt (execChainDiscover dt h chain flags profile generation s) := .run fun s₀ _ hs => by
  refine .chainMessage hs ?_
  extract_lets +onlyGivenNames _ _ s2
  have hs2 : Reaches s₀ s2 := hs.modChain.upstreamHeard.downstreamHeard.conflictHeard
  exact .ite hs2.offerAddress hs2.follow

theorem Effects.execDiscoverBack (dt : Nat) (h : ChainHead) (euiLow address : Nat) (s : State) :
    Effects s dt (execDiscoverBack dt h euiLow address s) :=
  .run fun _ _ hs => .chainMessage hs (.ite hs.offerAddress hs)

theorem Effects.execDiscoverBackSend (dt : Nat) (s : State) : Effects s dt (execDiscoverBackSend dt s) := .run fun _ _ hs => by
  split
  · exact hs
  · exact .ite hs.modChain.emit.modChain hs

theorem Effects.execChnAddrAccept (dt who value : Nat) (s : State) : Effects s dt (execChnAddrAccept dt who value s) :=
  .run fun _ _ hs => .asWriter hs hs.addrAccept

theorem Effects.execConflictClear (dt : Nat) (s : State) : Effects s dt (execConflictClear dt s) :=
  .run fun _ _ hs => by split; exacts [.ite hs.modChain.setReg hs, hs]

/-! Firmware images on the chain (R508 to R516) -/

namespace Reaches

variable {s₀ s : State}

theorem modRun {f : UpdateRun → UpdateRun} (hs : Reaches s₀ s) : Reaches s₀ (s.modRun f) := hs.modUpdate

theorem modRelay {up : Bool} {f : Relay → Relay} (hs : Reaches s₀ s) : Reaches s₀ (s.modRelay up f) := hs.modRun

theorem passOffer {source : Nat} {o : Offer} (hs : Reaches s₀ s) :
    Reaches s₀ (s.passOffer source o) := .foldl hs.modRun fun _ _ hu => hu.sendChain

theorem beginUpdate {source host : Nat} {o : Offer} (hs : Reaches s₀ s) :
    Reaches s₀ (s.beginUpdate source host o) := hs.writeBoot.modUpdate.setReg

theorem recoveryOffer {h : ChainHead} {o : Offer} (hs : Reaches s₀ s) : Reaches s₀ (s.recoveryOffer h o) := by
  unfold State.recoveryOffer
  extract_lets +onlyGivenNames _
  split
  · exact .ite (.ite hs.sendChain.modUpdate hs.sendChain) hs
  · exact hs

theorem sendBlockTo {up : Bool} {image k : Nat} {data : List Octet} (hs : Reaches s₀ s) : Reaches s₀ (s.sendBlockTo up image k data) :=
  hs.sendChain.count

theorem drainRelay {up : Bool} {n : Nat} (hs : Reaches s₀ s) : Reaches s₀ (State.drainRelay up n s) := by
  induction n generalizing s with
  | zero => exact hs
  | succ n ih =>
    unfold State.drainRelay
    split
    · exact hs
    · split
      · exact hs
      · split
        · exact .ite (ih hs.modRelay.sendBlockTo) hs
        · exact hs

theorem forwardBlock {k : Nat} {data : List Octet} (hs : Reaches s₀ s) : Reaches s₀ (s.forwardBlock k data) := by
  unfold State.forwardBlock
  split
  · exact hs
  · exact .foldl hs fun _ _ hu => hu.modRelay.drainRelay

theorem acceptRelay {up : Bool} (hs : Reaches s₀ s) : Reaches s₀ (s.acceptRelay up) := hs.modRelay.drainRelay

theorem dropRelay {up : Bool} (hs : Reaches s₀ s) : Reaches s₀ (s.dropRelay up) := hs.modRun

theorem sendRescue {x1 : Rescue} {k : Nat} (hs : Reaches s₀ s) : Reaches s₀ (s.sendRescue x1 k) := hs.sendChain.modUpdate.count

theorem abandon (hs : Reaches s₀ s) : Reaches s₀ s.abandon :=
  .post (.setReg (.writeBoot (.modUpdate (.restoreArea (.foldl hs fun _ _ hu => hu.sendChain)))))

theorem notActivated {result arg : Nat} (hs : Reaches s₀ s) :
    Reaches s₀ (s.notActivated result arg) := hs.restoreArea.modUpdate.writeBoot.setReg.post

theorem startCommit {who value : Nat} (hs : Reaches s₀ s) : Reaches s₀ (s.startCommit who value) := by
  unfold State.startCommit
  exact .ite hs.reply (.ite hs.reply hs.beginUpdate.modChain.emit.reply)

theorem ackBlock {h : ChainHead} {host : Option Nat} {k status : Nat} (hs : Reaches s₀ s) : Reaches s₀ (s.ackBlock h host k status) := by
  unfold State.ackBlock
  cases host with
  | none => exact hs.sendChain
  | some a => exact hs.modChain.emit

theorem judgeBlock0 {r : UpdateRun} {data : List Octet} (hs : Reaches s₀ s) : Reaches s₀ (s.judgeBlock0 r data).1 := by
  have hrefused : ∀ {code priority arg : Nat}, Reaches s₀ (s.abandon.post code priority arg, false).1 := hs.abandon.post
  simp only [State.judgeBlock0]
  exact .ite_fst (.ite_fst hs.modRun.post.passOffer hrefused) (.ite_fst hs.modRun hs.abandon)

theorem writeBlock {h : ChainHead} {host : Option Nat} {k : Nat} {data : List Octet} {flashOk : Bool} (hs : Reaches s₀ s) :
    Reaches s₀ (s.writeBlock h host k data flashOk) :=
  .ite hs.putArea.count.setReg.ackBlock hs.count.ackBlock

theorem runBlock {r : UpdateRun} {h : ChainHead} {k crc : Nat} {data : List Octet} {flashOk : Bool} (hs : Reaches s₀ s) :
    Reaches s₀ (s.runBlock r h k crc data flashOk) := by
  unfold State.runBlock
  refine .ite hs (.ite hs.count.ackBlock (.ite hs.ackBlock (.ite hs ?_)))
  have hjudged : Reaches s₀ (if k = 0 ∧ r.judged = false then s.judgeBlock0 r data else (s, true)).1 := .ite_fst hs.judgeBlock0 hs
  exact .ite (.ite hjudged.forwardBlock.writeBlock.modRun hjudged.forwardBlock.writeBlock) hjudged

theorem fetchBlock {f : Fetch} {h : ChainHead} {k crc : Nat} {data : List Octet} {flashOk : Bool} (hs : Reaches s₀ s) :
    Reaches s₀ (s.fetchBlock f h k crc data flashOk) :=
  .ite hs.count.ackBlock (.ite hs.ackBlock (.ite hs (.ite hs.writeBlock.modUpdate hs.writeBlock)))

theorem resendBlock {up : Bool} {k : Nat} (hs : Reaches s₀ s) : Reaches s₀ (s.resendBlock up k) := by
  unfold State.resendBlock
  split
  · exact hs
  · exact hs.modRelay.sendBlockTo

theorem fetchImage (hs : Reaches s₀ s) : Reaches s₀ s.fetchImage :=
  .ite hs.writeBoot.modUpdate (.ite hs.writeBoot.modUpdate hs.writeBoot.modUpdate.castChain)

theorem fetchVerified (hs : Reaches s₀ s) : Reaches s₀ s.fetchVerified := by
  unfold State.fetchVerified
  refine .ite ?_ hs.fetchImage
  extract_lets +onlyGivenNames _ s1'
  have hs1' : Reaches s₀ s1' := .ite hs.writeBoot.count hs.writeBoot
  exact .ite hs1'.modUpdate.modUpdate.warmReset hs1'.modUpdate

theorem updAbort {value : Nat} (hs : Reaches s₀ s) : Reaches s₀ (s.updAbort value) := .ite hs.reply (.ite hs.abandon.reply hs.reply)

theorem confirm (hs : Reaches s₀ s) : Reaches s₀ s.confirm := hs.modUpdate.writeBoot.setReg.post

theorem updConfirm {value : Nat} (hs : Reaches s₀ s) : Reaches s₀ (s.updConfirm value) := .ite hs.reply (.ite hs.confirm.reply hs.reply)

theorem fallback {cause : Nat} (hs : Reaches s₀ s) : Reaches s₀ (s.fallback cause) := hs.writeBoot.modUpdate.count.warmReset

theorem updReject {value : Nat} (hs : Reaches s₀ s) : Reaches s₀ (s.updReject value) := .ite hs.reply (.ite hs.reply.fallback hs.reply)

end Reaches

theorem Effects.execImageOffer (dt : Nat) (h : ChainHead) (level seq blocks tAct healthS forward : Nat) (s : State) :
    Effects s dt (execImageOffer dt h level seq blocks tAct healthS forward s) := .run fun _ _ hs => by
  refine .chainMessage hs ?_
  refine .ite hs.recoveryOffer ?_
  exact .ite (.ite hs.sendChain.modUpdate hs.sendChain) (.ite hs.sendChain.beginUpdate.post.passOffer (.ite hs.sendChain.post hs.sendChain))

theorem Effects.execOfferReply (dt : Nat) (h : ChainHead) (reply : Nat) (s : State) : Effects s dt (execOfferReply dt h reply s) :=
  .run fun _ _ hs => .chainMessage hs (by split; exacts [.ite hs.sendRescue hs.modUpdate, .ite hs.acceptRelay hs.dropRelay])

theorem Effects.execUpdStartCommit (dt who value : Nat) (s : State) : Effects s dt (execUpdStartCommit dt who value s) :=
  .run fun _ _ hs => .asWriter hs hs.startCommit

theorem Effects.execImageBlock (dt : Nat) (h : ChainHead) (block crc : Nat) (data : List Octet) (flashOk : Bool) (s : State) :
    Effects s dt (execImageBlock dt h block crc data flashOk s) :=
  .run fun _ _ hs => .chainMessage hs (by split; exacts [.ite hs.fetchBlock hs, by split; exacts [hs.runBlock, hs]])

theorem Effects.execBlockAck (dt : Nat) (h : ChainHead) (block status : Nat) (s : State) :
    Effects s dt (execBlockAck dt h block status s) := .run fun _ _ hs => by
  refine .chainMessage hs ?_
  split
  · exact .ite hs (.ite hs.sendRescue (.ite hs.modUpdate hs.sendRescue))
  · exact .ite hs.modRelay.drainRelay hs.resendBlock

theorem Effects.execBlockResend (dt : Nat) (s : State) : Effects s dt (execBlockResend dt s) := .run fun s₀ _ hs => by
  extract_lets +onlyGivenNames _ s1
  have hs1 : Reaches s₀ s1 := .foldl hs fun _ _ hu => .foldl hu fun _ _ hu2 => hu2.resendBlock
  split
  · exact .ite hs1.sendRescue hs1
  · exact hs1

theorem Effects.execRelayStall (dt : Nat) (s : State) : Effects s dt (execRelayStall dt s) := .run fun s₀ _ hs => by
  extract_lets +onlyGivenNames _ _ s1
  have hs1 : Reaches s₀ s1 := .foldl hs fun _ _ hu => hu.dropRelay.post
  split
  · exact .ite hs1.modUpdate.post hs1
  · exact hs1

theorem Effects.execFetchRetry (dt : Nat) (s : State) : Effects s dt (execFetchRetry dt s) :=
  .run fun _ _ hs => by split; exacts [.ite hs.modUpdate.castChain hs, hs]

theorem Effects.execImageFetch (dt : Nat) (h : ChainHead) (address : Nat) (s : State) : Effects s dt (execImageFetch dt h address s) :=
  .run fun _ _ hs => by
  refine .chainMessage hs ?_
  extract_lets image
  clear_value image
  cases image with
  | none => exact hs
  | some x => exact .ite hs.sendChain.modUpdate hs

theorem Effects.execImageVerified (dt : Nat) (s : State) : Effects s dt (execImageVerified dt s) := .run fun _ _ hs => by
  split
  · exact .ite hs.fetchVerified hs
  · split
    · exact hs
    · exact .ite hs (.ite hs.writeBoot.post hs.restoreArea.modUpdate.writeBoot.post)

theorem Effects.execChainAbort (dt : Nat) (h : ChainHead) (s : State) : Effects s dt (execChainAbort dt h s) :=
  .run fun _ _ hs => .chainMessage hs (.ite hs.abandon hs)

theorem Effects.execUpdAbort (dt who value : Nat) (s : State) : Effects s dt (execUpdAbort dt who value s) :=
  .run fun _ _ hs => .asWriter hs hs.updAbort

theorem Effects.execActivation (dt : Nat) (s : State) : Effects s dt (execActivation dt s) :=
  .run fun _ _ hs => .ite hs (.ite hs.notActivated (.ite hs.notActivated (.ite hs.writeBoot.count.warmReset hs.modUpdate)))

theorem Effects.execActivationWindowExpiry (dt : Nat) (s : State) : Effects s dt (execActivationWindowExpiry dt s) :=
  .run fun _ _ hs => by split; exacts [.ite hs.notActivated hs, hs]

theorem Effects.execHealthConfirmed (dt : Nat) (s : State) : Effects s dt (execHealthConfirmed dt s) :=
  .run fun _ _ hs => by split; exacts [.ite hs.confirm hs, hs]

theorem Effects.execUpdConfirm (dt who value : Nat) (s : State) : Effects s dt (execUpdConfirm dt who value s) :=
  .run fun _ _ hs => .asWriter hs hs.updConfirm

theorem Effects.execUpdReject (dt who value : Nat) (s : State) : Effects s dt (execUpdReject dt who value s) :=
  .run fun _ _ hs => .asWriter hs hs.updReject

theorem Effects.execHealthWindowEnd (dt : Nat) (s : State) : Effects s dt (execHealthWindowEnd dt s) :=
  .run fun _ _ hs => by split; exacts [.ite hs.fallback hs, hs]

/-! The application of a profile (R598, R599) -/

namespace Reaches

variable {s₀ s : State}

theorem recordFailed {index sub pass : Nat} (hs : Reaches s₀ s) : Reaches s₀ (s.recordFailed index sub pass) := hs.post

theorem revertEntry {index : Nat} (hs : Reaches s₀ s) : Reaches s₀ (s.revertEntry index) := .foldl hs fun _ _ hu => hu.setReg

theorem applyDomain {r : ProfileRecord} (hs : Reaches s₀ s) : Reaches s₀ (s.applyDomain r) := .ite hs.recordFailed (.ite hs.modMap hs.modScan)

theorem applyRecord {r : ProfileRecord} (hs : Reaches s₀ s) : Reaches s₀ (s.applyRecord r) :=
  .ite hs.applyDomain (.ite hs.recordFailed (by split; exacts [hs.recordFailed, .foldl hs fun _ _ hu => .ite hu (.ite hu.loadPtp hu.setReg)]))

theorem applyPairs (hs : Reaches s₀ s) : Reaches s₀ s.applyPairs :=
  .foldl hs fun _ _ hu => .ite hu (.foldl hu fun _ _ hu2 => hu2.revertEntry.recordFailed)

theorem applyGcl {port : Nat} (hs : Reaches s₀ s) : Reaches s₀ (s.applyGcl port) := by
  unfold State.applyGcl
  split
  · exact hs.post.recordFailed
  · exact .ite hs hs.gclCopy.gclStep

theorem applyOrder (hs : Reaches s₀ s) : Reaches s₀ s.applyOrder := by
  unfold State.applyOrder
  split
  · exact hs.post.recordFailed
  · exact hs.orderInstall

theorem applyMode (hs : Reaches s₀ s) : Reaches s₀ s.applyMode := by
  unfold State.applyMode
  split
  · exact hs.post.recordFailed
  · exact .foldl hs fun _ _ hu => hu.setReg

theorem applyMap (hs : Reaches s₀ s) : Reaches s₀ s.applyMap := by
  unfold State.applyMap
  split
  · exact hs.post.recordFailed
  · exact hs.mapInstall

theorem applySignalMap (hs : Reaches s₀ s) : Reaches s₀ s.applySignalMap := by
  unfold State.applySignalMap
  split
  · exact hs.post.recordFailed
  · exact hs.modMap.setReg

theorem applyOwn {r : Reg} {refused : State → Option State} {take : State → State} (hs : Reaches s₀ s)
    (hrefused : ∀ u t, Reaches s₀ u → refused u = some t → Reaches s₀ t) (htake : ∀ u, Reaches s₀ u → Reaches s₀ (take u)) :
    Reaches s₀ (s.applyOwn r refused take) := by
  unfold State.applyOwn
  refine .ite hs ?_
  extract_lets s0
  split
  · next t ht => exact (hrefused _ t hs.setReg ht).recordFailed
  · exact (htake _ hs.setReg).setReg

theorem applyOwns (hs : Reaches s₀ s) : Reaches s₀ s.applyOwns := by
  unfold State.applyOwns
  extract_lets s1 s2 s3 s4 s5 s6 s7 s8
  have hs1 : Reaches s₀ s1 := .ite hs.setReg.recordFailed hs
  have hs2 : Reaches s₀ s2 := .ite hs1.setReg.recordFailed hs1
  have hs3 : Reaches s₀ s3 := hs2.applyOwn (fun _ _ hu h => Option.some.inj h ▸ hu) fun _ hu => hu
  have hs4 : Reaches s₀ s4 := .foldl hs3 fun _ _ hu => hu.applyOwn
    (fun _ _ hv h => by obtain ⟨_, -, rfl⟩ := Option.map_eq_some_iff.1 h; exact hv.post) fun _ hv => hv.setPitch
  have hs5 : Reaches s₀ s5 := .foldl hs4 fun _ _ hu => hu.applyOwn (fun _ _ hv h => hv.of_ite_some h) fun _ hv => hv
  have hs6 : Reaches s₀ s6 := .foldl hs5 fun _ _ hu => hu.applyOwn (fun _ _ hv h => hv.of_ite_none h) fun _ hv => hv
  have hs7 : Reaches s₀ s7 := .foldl hs6 fun _ _ hu => hu.applyOwn (fun _ _ hv h => hv.of_ite_some h) fun _ hv => hv
  have hs8 : Reaches s₀ s8 := hs7.applyOwn (fun _ _ hv h => hv.of_ite_some h) fun _ hv => hv
  exact .foldl hs8 fun _ _ hu => hu.applyOwn (fun _ _ hv h => hv.post.of_ite_some h) fun _ hv => hv

theorem applyPorts {p : Option ProfileImage} (hs : Reaches s₀ s) : Reaches s₀ (s.applyPorts p) :=
  .showIp (.loadTsConst (.buildFilter (.foldl (.applyPairs (.foldl hs fun _ _ hu => hu.applyRecord)) fun _ _ hu => hu.applyGcl)))

theorem afterProfile (hs : Reaches s₀ s) : Reaches s₀ s.afterProfile :=
  .showIp (.loadTsConst (.foldl hs.buildFilter.igmpReport fun _ _ hu => hu.showUniverse))

theorem applyProfile {number : Nat} {p : Option ProfileImage} (hs : Reaches s₀ s) : Reaches s₀ (s.applyProfile number p) := by
  unfold State.applyProfile
  refine .setReg ?_
  refine .setReg ?_
  refine .foldl ?_ fun _ _ hu => hu.dmxModeEffect
  refine .afterProfile ?_
  refine .applyOwns ?_
  refine .applySignalMap ?_
  exact .applyMap (.applyMode (.applyOrder (.foldl (.applyPairs (.foldl hs fun _ _ hu => hu.applyRecord)) fun _ _ hu => hu.applyGcl)))

end Reaches

/-! Twin operation (R437 to R460) -/

namespace Reaches

variable {s₀ s : State}

theorem beginJoin (hs : Reaches s₀ s) : Reaches s₀ s.beginJoin := hs.enterTwin.setReg.modTwin.sendMirror

theorem failSync (hs : Reaches s₀ s) : Reaches s₀ s.failSync := .ite hs.modTwin.modTwin.observe (.ite hs.modTwin.beginJoin hs.modTwin)

theorem joinTake {es tp : Nat} (hs : Reaches s₀ s) : Reaches s₀ (s.joinTake es tp) := by
  unfold State.joinTake
  extract_lets +onlyGivenNames obj s1 s2 s3
  clear_value obj
  have hs1 : Reaches s₀ s1 := hs.takeImage.takeMaps.takeFinial
  have hs2 : Reaches s₀ s2 := .foldl hs1 fun _ _ hu => hu.takeFrame
  have hs3 : Reaches s₀ s3 := hs2.takeItems.buildFilter.igmpReport
  clear_value s3
  exact hs3.modScan.modTwin

theorem syncMessage {p : List Octet} (hs : Reaches s₀ s) : Reaches s₀ (s.syncMessage p) := by
  unfold State.syncMessage
  refine .ite (.ite hs hs.modTwin.sendMirror.sendMirror.sendBulk.sendBulk) ?_
  split
  · exact hs
  · exact .ite hs (.ite hs.modTwin (.ite (.ite hs.joinTake hs.failSync) hs))

theorem anchorMessage {p : List Octet} (hs : Reaches s₀ s) : Reaches s₀ (s.anchorMessage p) := by
  unfold State.anchorMessage
  extract_lets +onlyGivenNames _
  split
  · exact .ite hs.modTwin.post hs
  · exact hs

theorem bulkMessage {p : List Octet} (hs : Reaches s₀ s) : Reaches s₀ (s.bulkMessage p) :=
  .ite (.ite hs.modTwin hs.modTwin) (.ite hs.modTwin hs.modTwin)

theorem rejoin {value : Nat} (hs : Reaches s₀ s) : Reaches s₀ (s.rejoin value) := .ite hs.reply (.ite hs.modTwin.beginJoin.reply hs.setReg.reply)

theorem admitted {prefer state : Nat} (hs : Reaches s₀ s) : Reaches s₀ (s.admitted prefer state) :=
  .ite (.ite hs.beginJoin.post (.ite (.ite hs.enterTwin.post hs.beginJoin.post) hs)) (.ite hs.enterTwin.post (.ite hs.modTwin hs))

theorem admitLate (hs : Reaches s₀ s) : Reaches s₀ s.admitLate := by
  unfold State.admitLate
  split
  · exact .ite hs.modTwin.admitted hs
  · exact hs

theorem admitMessage {p : List Octet} (hs : Reaches s₀ s) : Reaches s₀ (s.admitMessage p) :=
  .ite hs.setReg.modTwin (.ite hs.setReg.modTwin.setBit.modTwin.enterTwin.post hs.setReg.modTwin.admitted)

theorem watchYield (hs : Reaches s₀ s) : Reaches s₀ s.watchYield := hs.modTwin

theorem partnerClaim {claim state : Nat} (hs : Reaches s₀ s) : Reaches s₀ (s.partnerClaim claim state) :=
  hs.setReg.setReg.modTwin.settleTwin.tiedUpdate

theorem mirrorDown {cause : Nat} (hs : Reaches s₀ s) : Reaches s₀ (s.mirrorDown cause) := by
  unfold State.mirrorDown
  extract_lets +onlyGivenNames s1 s2 _
  have hs1 : Reaches s₀ s1 := hs.setReg.setBit.count
  have hs2 : Reaches s₀ s2 := .modTwin (.ite hs1.setBit hs1)
  split
  · exact .ite hs2.post.failSync hs2.post
  · exact hs2.post

theorem ackMessage {p : List Octet} (hs : Reaches s₀ s) : Reaches s₀ (s.ackMessage p) := hs.modTwin

theorem beatMessage {m : MirMessage} (hs : Reaches s₀ s) : Reaches s₀ (s.beatMessage m) := by
  unfold State.beatMessage
  extract_lets +onlyGivenNames _ _ _ s1
  have hs1 : Reaches s₀ s1 := hs.setBit.modTwin.partnerClaim
  exact .watchYield (.ite hs1.beginJoin hs1.admitLate)

theorem linkSigMessage {p : List Octet} (hs : Reaches s₀ s) : Reaches s₀ (s.linkSigMessage p) := hs.recordLink

theorem frameSigMessage {p : List Octet} (hs : Reaches s₀ s) : Reaches s₀ (s.frameSigMessage p) := hs.recordFrame.judgeFrame

theorem usePush {item key : Nat} {data : List Octet} (hs : Reaches s₀ s) : Reaches s₀ (s.usePush item key data) := by
  unfold State.usePush
  refine .ite (.ite hs hs.modTwin.requestPass.startPass) ?_
  exact .ite hs (.ite (.foldl hs fun _ _ hu => .ite hu.modSink hu.modSink.setReg) (.ite hs.setReg hs))

theorem pushMessage {m : MirMessage} (hs : Reaches s₀ s) : Reaches s₀ (s.pushMessage m) := .ite (.ite hs.count hs.count.usePush) hs.usePush

end Reaches

theorem Effects.execTwnRejoin (dt who value : Nat) (s : State) : Effects s dt (execTwnRejoin dt who value s) :=
  .run fun _ _ hs => .asWriter hs hs.rejoin

theorem Effects.execPairWaitExpiry (dt : Nat) (s : State) : Effects s dt (execPairWaitExpiry dt s) :=
  .run fun _ _ hs => by split; exacts [.ite hs.enterTwin hs, hs]

theorem Effects.execClaimWordReceive (dt word : Nat) (s : State) : Effects s dt (execClaimWordReceive dt word s) :=
  .run fun _ _ hs => .ite hs.setBit.modTwin.partnerClaim hs.count

theorem Effects.execPartnerLost (dt : Nat) (s : State) : Effects s dt (execPartnerLost dt s) :=
  .run fun _ _ hs => .ite hs.setReg.setReg.setReg.modTwin.post.settleTwin.tiedUpdate hs

theorem Effects.execClaimLineLoss (dt : Nat) (s : State) :
    Effects s dt (execClaimLineLoss dt s) := .run fun _ _ hs => .ite hs.setBit.modTwin.post hs

theorem Effects.execTwinYield (dt : Nat) (s : State) : Effects s dt (execTwinYield dt s) :=
  .run fun _ _ hs => by split; exacts [.ite hs.enterTwin.count.post hs, hs]

theorem Effects.execMirrorLinkUp (dt : Nat) (s : State) : Effects s dt (execMirrorLinkUp dt s) :=
  .run fun _ _ hs => .ite hs (.ite hs.setReg.modTwin.post.sendMirror.beginJoin hs.setReg.modTwin.post.sendMirror)

theorem Effects.execMirrorLinkDown (dt : Nat) (s : State) : Effects s dt (execMirrorLinkDown dt s) := .run fun _ _ hs => .ite hs.mirrorDown hs

theorem Effects.execMirrorResend (dt : Nat) (s : State) : Effects s dt (execMirrorResend dt s) :=
  .run fun _ _ hs => .ite hs (.ite hs.mirrorDown (.foldl hs fun _ _ hu => hu.modTwin.count.emit))

/-! The start sequence (R522 to R544) -/

namespace Reaches

variable {s₀ s : State}

theorem hold {f : Holds → Holds} (hs : Reaches s₀ s) : Reaches s₀ (s.hold f) := hs.modSys

theorem fromNow (hs : Reaches s₀ s) : Reaches s₀ s.fromNow := hs.modSys

theorem postEarly {code priority arg : Nat} (hs : Reaches s₀ s) : Reaches s₀ (s.postEarly code priority arg) := hs.modSys

theorem bootTrims (hs : Reaches s₀ s) : Reaches s₀ s.bootTrims := by
  unfold State.bootTrims
  extract_lets t
  have ht : Reaches s₀ t := .trimLoad hs.other
  exact .modSys (.setReg (ht.joined hs rfl rfl))

theorem bootRom {pins : Nat} (hs : Reaches s₀ s) : Reaches s₀ (s.bootRom pins) := by
  unfold State.bootRom
  extract_lets +onlyGivenNames _ _ s2
  have hs2 : Reaches s₀ s2 := hs.hold.modSys.setReg.setReg.setBit.setReg.bootTrims
  exact .setReg (.setReg (.milestone (.ite hs2.postEarly hs2)))

theorem chooseProfile (hs : Reaches s₀ s) : Reaches s₀ s.chooseProfile := by
  unfold State.chooseProfile
  exact hs.modSys

theorem keepPorts (hs : Reaches s₀ s) : Reaches s₀ s.keepPorts :=
  .milestone (.ite hs.chooseProfile.showBoot.applyPorts.modNet hs.chooseProfile.showBoot.applyPorts.modNet.setReg)

theorem actOnBoot (hs : Reaches s₀ s) : Reaches s₀ s.actOnBoot := by
  unfold State.actOnBoot
  extract_lets +onlyGivenNames _ _ _
  split
  · exact hs
  · refine .ite hs.writeBoot.modUpdate ?_
    refine .ite (.ite hs.writeBoot.modUpdate hs.fetchImage) ?_
    refine .ite (.ite hs.writeBoot.modUpdate hs.fetchImage) ?_
    refine .ite hs.writeBoot.modUpdate ?_
    refine .ite (.ite hs.writeBoot.modUpdate (.ite hs.writeBoot.modUpdate hs.fetchImage)) ?_
    exact .ite (.ite hs.writeBoot.modUpdate hs.fetchImage) (.ite hs.fetchImage hs.modUpdate)

theorem newBoot (hs : Reaches s₀ s) : Reaches s₀ s.newBoot := .ite hs hs.modUpdate

theorem runImage {image : List (List Octet)} (hs : Reaches s₀ s) : Reaches s₀ (s.runImage image) := hs.modUpdate.setReg

theorem startDrive (hs : Reaches s₀ s) : Reaches s₀ s.startDrive := .ite hs.setReg.setReg.modSys.milestone hs.setReg.post

theorem startEngines (hs : Reaches s₀ s) : Reaches s₀ s.startEngines := by
  have hfree := hs.takeFree
  unfold State.startEngines
  revert hfree
  generalize s.takeFree = free
  intro hfree
  exact .ite hfree.setReg.modBelfry.setReg.setReg hfree.setReg.modBelfry.setReg.setReg.post

theorem startLinks (hs : Reaches s₀ s) : Reaches s₀ s.startLinks := by
  unfold State.startLinks
  extract_lets +onlyGivenNames _ s1
  have hs1 : Reaches s₀ s1 := .foldl hs.setReg fun _ _ hu => .ite hu.linkEnable hu
  exact .ite hs1 hs1.post

theorem startPeriods (hs : Reaches s₀ s) : Reaches s₀ s.startPeriods := hs.modLantern

theorem startGrid (hs : Reaches s₀ s) : Reaches s₀ s.startGrid := hs.modScan.modScan.setReg

theorem startTwin (hs : Reaches s₀ s) : Reaches s₀ s.startTwin := hs.modTwin.enterTwin

theorem startBlocks (hs : Reaches s₀ s) : Reaches s₀ s.startBlocks :=
  hs.startPeriods.startDrive.startEngines.startLinks.startGrid.arbMode.showOculus.showCalState.startTwin

theorem startWith {number : Nat} {p : Option ProfileImage} (hs : Reaches s₀ s) : Reaches s₀ (s.startWith number p) :=
  hs.applyProfile.modSys.startBlocks

theorem startFactory (hs : Reaches s₀ s) : Reaches s₀ s.startFactory := hs.post.startWith

theorem reportStart (hs : Reaches s₀ s) : Reaches s₀ s.reportStart := by
  unfold State.reportStart
  have hempty : Reaches s₀ { s with drum := ⟨[], []⟩ } := hs.joined .reset rfl rfl
  exact .modSys (.post (.setReg (.foldl (.enterWords hempty.setReg.setReg.setReg) fun _ _ hu => .ite hu.setBit hu)))

theorem showFlash (hs : Reaches s₀ s) : Reaches s₀ s.showFlash := by
  unfold State.showFlash
  extract_lets image
  clear_value image
  exact hs.setReg.setReg.setReg.showKeys.showProfiles.showBackup.showBackup

theorem afterBoot (hs : Reaches s₀ s) : Reaches s₀ s.afterBoot := by
  unfold State.afterBoot
  extract_lets +onlyGivenNames s1 s2
  have hs1 : Reaches s₀ s1 := .ite hs.restoreArea.writeBoot.post.setReg.modUpdate hs
  have hs2 : Reaches s₀ s2 := by
    unfold s2
    split
    · exact hs1.post.setReg.modUpdate
    · exact hs1
  exact .ite hs2.modUpdate hs2

theorem startAdoption (hs : Reaches s₀ s) : Reaches s₀ s.startAdoption := hs.post.afterProfile.setReg.modChain.adoptAsk

theorem startProfile (hs : Reaches s₀ s) : Reaches s₀ s.startProfile := by
  unfold State.startProfile
  extract_lets +onlyGivenNames _
  split
  · exact hs.startWith
  · exact .ite hs.startWith (.ite hs.startAdoption hs.post.startFactory)

end Reaches

theorem Effects.execPowerOn (dt : Nat) (s : State) : Effects s dt (execPowerOn dt s) := .run fun _ _ hs => hs.hold.coldReset

theorem Effects.execVinUndervoltage (dt : Nat) (s : State) :
    Effects s dt (execVinUndervoltage dt s) := .run fun _ _ hs => hs.hold.modSys.coldReset

theorem Effects.execRailFault (dt rail cause : Nat) (s : State) : Effects s dt (execRailFault dt rail cause s) :=
  .run fun _ _ hs => .ite hs hs.hold.modSys.coldReset

theorem Effects.execRailRetryWait (dt : Nat) (s : State) : Effects s dt (execRailRetryWait dt s) :=
  .run fun _ _ hs => by split; exacts [.ite hs.hold.modSys.fromNow hs, hs]

theorem Effects.execClockFault (dt : Nat) (s : State) : Effects s dt (execClockFault dt s) := .run fun _ _ hs => hs.hold.coldReset

theorem Effects.execSerdesPllLoss (dt port : Nat) (s : State) : Effects s dt (execSerdesPllLoss dt port s) :=
  .run fun _ _ hs => .ite hs hs.setBit.portDown.post

theorem Effects.execSerdesPllLock (dt port : Nat) (s : State) :
    Effects s dt (execSerdesPllLock dt port s) := .run fun _ _ hs => .ite hs hs.setBit

theorem Effects.execResetNLow (dt : Nat) (s : State) : Effects s dt (execResetNLow dt s) := .run fun _ _ hs => hs.hold.coldReset

theorem Effects.execResetNRelease (dt : Nat) (s : State) : Effects s dt (execResetNRelease dt s) := .run fun _ _ hs => .ite hs.hold.fromNow hs

theorem Effects.execThermalTrip (dt : Nat) (s : State) : Effects s dt (execThermalTrip dt s) := .run fun _ _ hs => hs.hold.coldReset

theorem Effects.execThermalTripClear (dt : Nat) (s : State) :
    Effects s dt (execThermalTripClear dt s) := .run fun _ _ hs => .ite hs.hold.fromNow hs

theorem Effects.execJtagReset (dt : Nat) (s : State) : Effects s dt (execJtagReset dt s) := .run fun _ _ hs => .ite hs.coldReset hs

theorem Effects.execCpu0Watchdog (dt : Nat) (s : State) : Effects s dt (execCpu0Watchdog dt s) := .run fun _ _ hs => hs.warmReset

theorem Effects.execDriveHeartbeatLoss (dt : Nat) (s : State) : Effects s dt (execDriveHeartbeatLoss dt s) := .run fun _ _ hs => hs.modSys

theorem Effects.execInternalResetRelease (dt pins : Nat) (refreshed : Bool) (s : State) :
    Effects s dt (execInternalResetRelease dt pins refreshed s) :=
  .run fun _ _ hs => .ite hs (.ite hs (.ite hs.restarted hs.bootRom))

theorem Effects.execMemTrainingDone (dt : Nat) (ok : Bool) (channel : Nat) (s : State) :
    Effects s dt (execMemTrainingDone dt ok channel s) := .run fun _ _ hs => by
  exact .ite hs (.ite hs.setReg.setReg.milestone (.ite hs.setReg.modSys.postEarly hs.setReg.modSys.setReg.setReg.logRecord.keepPorts))

theorem Effects.execKeepLoaderStart (dt : Nat) (s : State) : Effects s dt (execKeepLoaderStart dt s) :=
  .run fun _ _ hs => .ite hs (.ite hs.keepPorts.newBoot.showBoot.writeBoot.fetchImage hs.keepPorts.newBoot.showBoot.actOnBoot)

theorem Effects.execImageLoadDone (dt : Nat) (s : State) : Effects s dt (execImageLoadDone dt s) := .run fun _ _ hs => by
  refine .ite hs ?_
  refine .ite (.ite hs.fetchImage (.ite hs.modUpdate.writeBoot.runImage hs.runImage)) ?_
  exact .ite (by split; exacts [.ite hs.runImage hs.fetchImage, hs.fetchImage]) hs

theorem Effects.execFirmwareStart (dt : Nat) (seqOk : Bool) (engineFails ctrlFails : Nat) (s : State) :
    Effects s dt (execFirmwareStart dt seqOk engineFails ctrlFails s) :=
  .run fun _ _ hs => .ite hs hs.setReg.modSys.milestone.reportStart.showFlash.afterBoot.startProfile

theorem Effects.execStartupLimit (dt : Nat) (s : State) : Effects s dt (execStartupLimit dt s) := .run fun _ _ hs => .ite hs.modSys.post hs

theorem Effects.execLogicTjRead (dt tj : Nat) (rails : List Nat) (s : State) :
    Effects s dt (execLogicTjRead dt tj rails s) := .run fun s₀ _ hs => by
  extract_lets +onlyGivenNames s1
  have hs1 : Reaches s₀ s1 := .foldl hs.setReg fun _ _ hu => .ite hu.setReg hu
  exact .ite hs1.modSys.post hs1.modSys

/-! Neighbour backups (R499 to R501) -/

namespace Reaches

variable {s₀ s : State}

theorem takeAccess {o : List Octet} (hs : Reaches s₀ s) : Reaches s₀ (s.takeAccess o) := hs.modIdp.showKeys

theorem sendSegmentOf {x1 : BackupTx} (hs : Reaches s₀ s) : Reaches s₀ (s.sendSegmentOf x1) := by
  unfold State.sendSegmentOf
  split
  · exact hs.sendChain
  · exact hs

theorem putTx {netb : Bool} {dest : Nat} {x3 : Option BackupTx} (hs : Reaches s₀ s) : Reaches s₀ (s.putTx netb dest x3) := hs.modChain

theorem sendBackup {h : ChainHead} {wrapKey : List Octet} {image : ProfileImage} {access : List Octet} (hs : Reaches s₀ s) :
    Reaches s₀ (s.sendBackup h wrapKey image access) :=
  hs.takeFree.putTx.sendSegmentOf

theorem storeBackup {side : Nat} {b : Backup} (hs : Reaches s₀ s) : Reaches s₀ (s.storeBackup side b) := hs.modChain.showBackup.count.post

theorem adopt {side : Nat} {image : ProfileImage} {access : List Octet} (hs : Reaches s₀ s) : Reaches s₀ (s.adopt side image access) :=
  hs.modChain.beginSave.takeAccess.modSys.startWith.post

theorem backupWhole {r : BackupRx} {address : Nat} {image wrapped : List Octet} (hs : Reaches s₀ s) :
    Reaches s₀ (s.backupWhole r address image wrapped).2 := by
  unfold State.backupWhole
  extract_lets s1 access
  have hs1 : Reaches s₀ s1 := hs.modChain
  clear_value access
  split
  · exact .ite_snd hs1.count (.ite_snd (.ite_snd hs1.adopt hs1.count) hs1.storeBackup)
  · exact hs1.count

theorem ackSegment {h : ChainHead} {offset status : Nat} (hs : Reaches s₀ s) : Reaches s₀ (s.ackSegment h offset status) := hs.sendChain

end Reaches

theorem Effects.execBackupRequest (dt : Nat) (h : ChainHead) (address side : Nat) (wrapKey : List Octet) (s : State) :
    Effects s dt (execBackupRequest dt h address side wrapKey s) :=
  .run fun _ _ hs => .chainMessage hs (.ite (.ite hs.count.post (.ite hs.count.post (by split; exacts [hs.sendBackup, hs]))) hs)

theorem Effects.execBackupAck (dt : Nat) (h : ChainHead) (offset status : Nat) (s : State) :
    Effects s dt (execBackupAck dt h offset status s) := .run fun _ _ hs => by
  exact .chainMessage hs (by split; exacts [hs, .ite hs (.ite hs.putTx.count (by split; exacts [hs.putTx, hs.putTx.sendSegmentOf]))])

theorem Effects.execBackupResend (dt : Nat) (s : State) : Effects s dt (execBackupResend dt s) :=
  .run fun _ _ hs => .foldl hs fun _ _ hu => .ite hu.putTx.count hu.putTx.sendSegmentOf

theorem Effects.execBackupData (dt : Nat) (h : ChainHead) (offset total : Nat) (data : List Octet) (s : State) :
    Effects s dt (execBackupData dt h offset total data s) := .run fun _ _ hs => by
  exact .chainMessage hs (by split; exacts [hs, .ite hs.ackSegment (.ite hs (.ite hs.modChain.ackSegment hs.backupWhole.ackSegment))])

theorem Effects.execBackupRequestTimeout (dt : Nat) (s : State) : Effects s dt (execBackupRequestTimeout dt s) :=
  .run fun _ _ hs => by split; exacts [.ite hs.askBackup.modChain hs, hs]

theorem Effects.execAdoptWaitExpiry (dt : Nat) (s : State) : Effects s dt (execAdoptWaitExpiry dt s) :=
  .run fun _ _ hs => .ite hs.modChain.modSys.startFactory hs

/-! Check contexts and the Drum (R366 to R379) -/

namespace Reaches

variable {s₀ s : State}

theorem modCrcContext {n : Nat} {f : CrcContext → CrcContext} (hs : Reaches s₀ s) : Reaches s₀ (s.modCrcContext n f) := hs.other

theorem setRunning {n v : Nat} (hs : Reaches s₀ s) : Reaches s₀ (s.setRunning n v) := hs.setReg.setReg

theorem crcRestart {n : Nat} (hs : Reaches s₀ s) : Reaches s₀ (s.crcRestart n) := hs.setRunning.setReg.modCrcContext

theorem crcClaim {who n value : Nat} (hs : Reaches s₀ s) : Reaches s₀ (s.crcClaim who n value) :=
  .ite hs.reply (.ite hs.reply (.ite hs.reply (.ite hs.reply (.ite hs.reply (.ite hs.modCrcContext.reply hs.modCrcContext.reply)))))

theorem crcPresetWrite {n value : Nat} (hs : Reaches s₀ s) : Reaches s₀ (s.crcPresetWrite n value) := by
  unfold State.crcPresetWrite
  split
  · exact hs.reply
  · exact hs.setReg.setReg.setReg.setReg.setReg.setReg.crcRestart.reply

theorem crcParameter {n sub value : Nat} (hs : Reaches s₀ s) : Reaches s₀ (s.crcParameter n sub value) := by
  unfold State.crcParameter
  refine .ite hs.reply ?_
  refine .ite (.ite hs.reply hs.setReg.setReg.setReg.crcRestart.reply) ?_
  exact .ite (.ite hs.reply hs.setReg.crcRestart.reply) (.ite hs.reply hs.setReg.crcRestart.reply)

theorem crcRunning {n value : Nat} (hs : Reaches s₀ s) : Reaches s₀ (s.crcRunning n value) := .ite hs.reply hs.setRunning.reply

theorem crcFeedWrite {n : Nat} {o : List Octet} (hs : Reaches s₀ s) : Reaches s₀ (s.crcFeedWrite n o) := .ite hs.reply hs.setRunning.bump.reply

theorem crcAlive {n value : Nat} (hs : Reaches s₀ s) : Reaches s₀ (s.crcAlive n value) := .ite hs.reply hs.setReg.modCrcContext.reply

theorem faultClear {value : Nat} (hs : Reaches s₀ s) : Reaches s₀ (s.faultClear value) := .reply (.foldl hs fun _ _ hu => .ite hu.setBit hu)

end Reaches

theorem Effects.execCrcClaim (dt who context value : Nat) (s : State) : Effects s dt (execCrcClaim dt who context value s) :=
  .run fun _ _ hs => hs.crcClaim

theorem Effects.execCrcPreset (dt who context value : Nat) (s : State) : Effects s dt (execCrcPreset dt who context value s) :=
  .run fun _ _ hs => .crcWrite hs hs.crcPresetWrite

theorem Effects.execCrcParameterWrite (dt who context sub value : Nat) (s : State) :
    Effects s dt (execCrcParameterWrite dt who context sub value s) :=
  .run fun _ _ hs => .crcWrite hs hs.crcParameter

theorem Effects.execCrcRunningWrite (dt who context value : Nat) (s : State) : Effects s dt (execCrcRunningWrite dt who context value s) :=
  .run fun _ _ hs => .crcWrite hs hs.crcRunning

theorem Effects.execCrcFeed (dt who context : Nat) (octets : List Octet) (s : State) : Effects s dt (execCrcFeed dt who context octets s) :=
  .run fun _ _ hs => .crcWrite hs hs.crcFeedWrite

theorem Effects.execCrcAliveIn (dt who context value : Nat) (s : State) : Effects s dt (execCrcAliveIn dt who context value s) :=
  .run fun _ _ hs => .crcWrite hs hs.crcAlive

theorem Effects.execEventPost (dt code priority : Nat) (args : List Nat) (s : State) : Effects s dt (execEventPost dt code priority args s) :=
  .run fun _ _ hs => .ite hs hs.postItem

theorem Effects.execDrmPop (dt who : Nat) (s : State) : Effects s dt (execDrmPop dt who s) := .run fun _ _ hs => .asReader hs hs.drumPop

theorem Effects.execDrmPopBlock (dt who : Nat) (s : State) : Effects s dt (execDrmPopBlock dt who s) :=
  .run fun _ _ hs => .asReader hs hs.drumPopBlock

theorem Effects.execDrmFlush (dt who value : Nat) (s : State) : Effects s dt (execDrmFlush dt who value s) :=
  .run fun _ _ hs => .asWriter hs hs.drumFlush

theorem Effects.execFaultSummaryClear (dt who value : Nat) (s : State) : Effects s dt (execFaultSummaryClear dt who value s) :=
  .run fun _ _ hs => .asWriter hs hs.faultClear

/-! Reads of elements -/

namespace Reaches

variable {s₀ s : State}

theorem readItem {who index sub : Nat} (hs : Reaches s₀ s) : Reaches s₀ (s.readItem who index sub).2 := by
  have hpopped := hs.fetched (f := fun s => s.asReader who fun s => if index = 0xA200 then s.drumPop else s.capPop (index - 0x3200))
    fun _ hu => hu.asReader (.ite hu.drumPop hu.capPop)
  unfold State.readItem
  exact .ite_snd hs (.ite_snd (.ite_snd hs hs.takeFree) (.ite_snd hs (.ite_snd hpopped hs)))

theorem domainPop {who index : Nat} {p : (Nat × List Octet) × State} (hs : Reaches s₀ s) (hp : s.domainPop who index = some p) :
    Reaches s₀ p.2 := by
  unfold State.domainPop at hp
  split at hp
  · obtain rfl := Option.some.inj hp
    exact hs.fetched fun _ hu => .asReader hu hu.traceRead
  split at hp
  · obtain rfl := Option.some.inj hp
    exact hs.fetched fun _ hu => .asReader hu hu.previewRead
  split at hp
  · obtain rfl := Option.some.inj hp
    exact hs.fetched fun _ hu => .asReader hu hu.drumPopBlock
  · cases hp

end Reaches

/-! What a write of an element sets off -/

namespace Reaches

variable {s₀ s : State}

theorem bellDirection {sub v : Nat} (hs : Reaches s₀ s) : Reaches s₀ (s.bellDirection sub v) := .reply (.ite hs.setReg.emit hs.setReg)

theorem linkEnableWrite {k v : Nat} (hs : Reaches s₀ s) : Reaches s₀ (s.linkEnableWrite k v) :=
  .reply (.ite hs.setReg.linkDisable (.ite hs.setReg.linkEnable hs.setReg))

theorem brgEntry {who sub v : Nat} (hs : Reaches s₀ s) : Reaches s₀ (s.brgEntry who sub v) := hs.modBrgSession.reply

theorem lowBehaviour {r : Reg} {v : Nat} : Behaves (lowBehaviour r v) :=
  .ite (.some fun hs => hs.profileSave) <|
  .ite (.some fun hs => hs.profileCreate) <|
  .ite (.some fun hs => hs.restartWrite) <|
  .ite (.some fun hs => hs.portWrite) <|
  .ite (.some fun hs => .changeWrite hs.gclRequest hs.gclCancel) <|
  .ite (.some fun hs => hs.streamTableWrite) <|
  .ite (.some fun hs => .ite hs.reacquireCancel hs.reacquireSchedule) <|
  .ite (.some fun hs => hs.ptpConfigWrite) <|
  .ite (.some fun hs => hs.bellDirection) <|
  .ite (.some fun hs => hs.cmpCommit) <|
  .ite (.some fun hs => hs.layerEnable) <|
  .ite (.some fun hs => hs.traceSize) <|
  .ite (.some fun hs => hs.traceMark) <|
  .ite (.some fun hs => hs.traceRewind) <|
  .ite (.some fun hs => hs.statsWindow) <|
  .ite (.some fun hs => .changeWrite hs.orderRequest hs.orderCancel) <|
  .ite (.some fun hs => .ite hs.finialDisable hs.finialEnable) <|
  .ite (.some fun hs => hs.previewTake) <|
  .none

theorem midBehaviour {r : Reg} {v : Nat} : Behaves (midBehaviour r v) :=
  .ite (.some fun hs => hs.spareCommit) <|
  .ite (.some fun hs => hs.moduleZone) <|
  .ite (.some fun hs => hs.recalAbort) <|
  .ite (.some fun hs => hs.trimMeasure) <|
  .ite (.some fun hs => .changeWrite hs.modeRequest hs.modeCancel) <|
  .ite (.some fun hs => .changeWrite hs.mapRequest hs.mapCancel) <|
  .ite (.some fun hs => hs.linkEnableWrite) <|
  .ite (.some fun hs => hs.cueGo) <|
  .ite (.some fun hs => hs.cueStop) <|
  .ite (.some fun hs => hs.lampEnableWrite) <|
  .ite (.some fun hs => hs.groupClearWrite) <|
  .none

theorem crcBehaviour {who n sub v : Nat} (hs : Reaches s₀ s) : Reaches s₀ (crcBehaviour who n sub v s) := by
  unfold Machine.crcBehaviour
  split
  · exact hs.crcClaim
  · exact hs.crcWrite (.ite hs.crcPresetWrite (.ite hs.crcRunning (.ite hs.crcAlive hs.crcParameter)))

theorem highBehaviour {who : Nat} {r : Reg} {v : Nat} : Behaves (highBehaviour who r v) :=
  .ite (.some fun hs => hs.ocuEnable) <|
  .ite (.some fun hs => hs.crcBehaviour) <|
  .ite (.some fun hs => hs.drumFlush) <|
  .ite (.some fun hs => hs.faultClear) <|
  .ite (.some fun hs => .changeWrite hs.signalMapRequest hs.signalMapCancel) <|
  .ite (.some fun hs => hs.dmxMode) <|
  .ite (.some fun hs => hs.rdmAbort) <|
  .ite (.some fun hs => hs.rdmDiscover) <|
  .ite (.some fun hs => hs.universeWrite) <|
  .ite (.some fun hs => hs.brgEntry) <|
  .ite (.some fun hs => .ite hs.brgLock hs.brgUnlock) <|
  .ite (.some fun hs => hs.brgAbortWrite) <|
  .ite (.some fun hs => hs.pweClear) <|
  .ite (.some fun hs => hs.rejoin) <|
  .ite (.some fun hs => hs.addrAccept) <|
  .ite (.some fun hs => hs.startCommit) <|
  .ite (.some fun hs => hs.updAbort) <|
  .ite (.some fun hs => hs.updConfirm) <|
  .ite (.some fun hs => hs.updReject) <|
  .none

theorem behaviour {who : Nat} {r : Reg} {v : Nat} : Behaves (behaviour who r v) := .ite lowBehaviour (.ite midBehaviour highBehaviour)

theorem afterPlain {r : Reg} (hs : Reaches s₀ s) : Reaches s₀ (s.afterPlain r) :=
  .ite hs.showIp (.ite hs.loadTsConst (.ite hs.other (.ite hs.showDmx (.ite hs.claimFollows.settleTwin.tiedUpdate (.ite hs.watchYield hs)))))

theorem setPlain {r : Reg} {v : Nat} (hs : Reaches s₀ s) : Reaches s₀ (s.setPlain r v) := hs.setReg.afterPlain

theorem writeNumber {who : Nat} {r : Reg} {v : Nat} (hs : Reaches s₀ s) : Reaches s₀ (s.writeNumber who r v) := by
  unfold State.writeNumber
  split
  · exact hs.reply
  · refine .ite hs.reply ?_
    split
    · next hf => exact behaviour.reaches hf hs
    · exact .ite hs.setPlain.reply hs.reply

theorem wholeBehaviours {who : Nat} {ps : List (Reg × Nat)} (hs : Reaches s₀ s) : Reaches s₀ (State.wholeBehaviours who ps s).2.2 := by
  induction ps generalizing s with
  | nil => exact hs
  | cons p ps ih =>
    unfold State.wholeBehaviours
    split
    · exact ih hs
    · next f hf =>
      have ht : Reaches s₀ (s.answered f).2 := hs.answered fun _ hu => behaviour.reaches hf hu
      dsimp only
      split
      · exact ih ht
      · exact ht

theorem writeWhole {who index : Nat} {octets : List Octet} (hs : Reaches s₀ s) : Reaches s₀ (s.writeWhole who index octets) := by
  simp only [State.writeWhole]
  split
  · exact hs.reply
  · refine .ite hs.reply (.ite ?_ (.reply hs.other))
    exact .reply (.wholeBehaviours (.foldl (.foldl hs fun _ _ hu => hu.setReg) fun _ _ hu => hu.afterPlain))

theorem writeOctets {who : Nat} {r : Reg} {octets : List Octet} (hs : Reaches s₀ s) : Reaches s₀ (s.writeOctets who r octets) :=
  .ite hs.installKey (.ite hs.integratorKey (.ite hs.finialKey (.ite (.crcWrite hs hs.crcFeedWrite) hs.reply)))

theorem writeDomain {who index sub : Nat} {data : List Octet} (hs : Reaches s₀ s) : Reaches s₀ (s.writeDomain who index sub data) := by
  unfold State.writeDomain
  refine .ite hs.reply ?_
  refine .ite (.ite hs.reply hs.modScan.reply) ?_
  refine .ite (.ite hs.reply hs.modMap.reply) ?_
  refine .ite hs.reply ?_
  exact .ite hs.modCal.reply (.ite hs.modCal.recalCompare.reply (.ite (.ite hs.reply hs.rdmRequest) (.ite hs.brgWrite hs.reply)))

theorem applyValue {who index sub : Nat} {octets : List Octet} (hs : Reaches s₀ s) : Reaches s₀ (s.applyValue who index sub octets) :=
  .ite (.ite hs.writeWhole hs.reply) (by split; exacts [hs.reply, .ite hs.writeDomain (.ite hs.writeOctets (.ite hs.reply hs.writeNumber))])

theorem writeLocal {who index sub : Nat} {type : Option Nat} {octets : List Octet} (hs : Reaches s₀ s) :
    Reaches s₀ (s.writeLocal who index sub type octets) := by
  unfold State.writeLocal
  split
  · exact hs.reply
  · exact hs.applyValue

end Reaches

/-! Mirrored state (R446 to R457) -/

namespace Reaches

variable {s₀ s : State}

theorem putInSequence {mine domain : Bool} {index sub session : Nat} {value : List Octet} (hs : Reaches s₀ s) :
    Reaches s₀ (s.putInSequence mine domain index sub session value) :=
  .sendMirror (.modTwin (.ite hs.sendBulk hs))

theorem sequenceWrite {mine domain : Bool} {who index sub session : Nat} {value : List Octet} (hs : Reaches s₀ s) :
    Reaches s₀ (s.sequenceWrite mine domain who index sub session value) :=
  .ite hs.putInSequence.reply hs.applyValue

theorem forwardWrite {domain : Bool} {index sub session : Nat} {value : List Octet} (hs : Reaches s₀ s) :
    Reaches s₀ (s.forwardWrite domain index sub session value) :=
  .reply (.sendMirror (.modTwin (.ite hs.sendBulk hs)))

theorem writeAlone {who index sub : Nat} {type : Option Nat} {value : List Octet} (hs : Reaches s₀ s) :
    Reaches s₀ (s.writeAlone who index sub type value) :=
  .ite hs.writeLocal.modTwin.setReg hs.writeLocal

theorem writeItem {who index sub : Nat} {type : Option Nat} {value : List Octet} (hs : Reaches s₀ s) :
    Reaches s₀ (s.writeItem who index sub type value) :=
  .ite hs.writeAlone (by split; exacts [hs.reply, .ite hs.reply (.ite hs.sequenceWrite hs.forwardWrite)])

theorem keepValue {w : MirWrite} (hs : Reaches s₀ s) : Reaches s₀ (s.keepValue w) := .ite (.foldl hs fun _ _ hu => hu.setReg) hs.setReg

theorem applyMirrored {w : MirWrite} (hs : Reaches s₀ s) : Reaches s₀ (s.applyMirrored w) := by
  unfold State.applyMirrored
  refine .ite ?_ ?_
  · refine .waitDone ?_
    refine .ite (.setReg (.count (.answered hs fun _ hu => hu.applyValue))) ?_
    refine .ite (.sendMirror (.setReg (.count (.answered hs fun _ hu => hu.applyValue)))) ?_
    exact .observe (.keepValue (.sendMirror (.setReg (.count (.answered hs fun _ hu => hu.applyValue)))))
  · refine .ite (.setReg (.count (.answered hs fun _ hu => hu.applyValue))) ?_
    refine .ite (.sendMirror (.setReg (.count (.answered hs fun _ hu => hu.applyValue)))) ?_
    exact .observe (.keepValue (.sendMirror (.setReg (.count (.answered hs fun _ hu => hu.applyValue)))))

theorem dictWriteMessage {p : List Octet} (hs : Reaches s₀ s) : Reaches s₀ (s.dictWriteMessage p) := by
  unfold State.dictWriteMessage
  exact hs.modTwin

theorem dictForwardMessage {p : List Octet} (hs : Reaches s₀ s) : Reaches s₀ (s.dictForwardMessage p) := by
  unfold State.dictForwardMessage
  extract_lets +onlyGivenNames _ _ _ _ s0
  have hs0 : Reaches s₀ s0 := .ite hs.modTwin hs
  exact .ite hs0.sendMirror (.ite (.answered hs0 fun _ hu => hu.sequenceWrite) (.sendMirror (.answered hs0 fun _ hu => hu.sequenceWrite)))

theorem dictStatusMessage {p : List Octet} (hs : Reaches s₀ s) : Reaches s₀ (s.dictStatusMessage p) :=
  .ite (by split; exacts [hs.modTwin.waitDone, hs]) hs

theorem mirrorDeliver {kind : Nat} {m : MirMessage} (hs : Reaches s₀ s) : Reaches s₀ (s.mirrorDeliver kind m) := by
  unfold State.mirrorDeliver
  refine .ite hs.admitMessage ?_
  refine .ite hs.anchorMessage ?_
  refine .ite hs.linkSigMessage ?_
  refine .ite hs.frameSigMessage ?_
  refine .ite hs.dictWriteMessage ?_
  exact .ite hs.dictForwardMessage (.ite hs.dictStatusMessage (.ite hs.pushMessage (.ite hs.bulkMessage (.ite hs.syncMessage hs))))

theorem deliverHeld {n : Nat} (hs : Reaches s₀ s) : Reaches s₀ (State.deliverHeld n s) := by
  induction n generalizing s with
  | zero => exact hs
  | succ n ih =>
    unfold State.deliverHeld
    split
    · exact hs
    · exact ih hs.modTwin.mirrorDeliver

theorem mirrorTake {kind : Nat} {m : MirMessage} (hs : Reaches s₀ s) : Reaches s₀ (s.mirrorTake kind m) := by
  unfold State.mirrorTake
  refine .ite hs ?_
  exact .ite hs.count (.ite hs.sendMirror.modTwin.mirrorDeliver.deliverHeld (.ite (.ite hs.sendMirror hs.sendMirror.modTwin) hs.sendMirror))

end Reaches

theorem Effects.execRegisterWrite (dt who : Nat) (item : WriteItem) (s : State) : Effects s dt (execRegisterWrite dt who item s) :=
  .run fun _ _ hs => hs.writeItem

theorem Effects.execMirrorWriteApply (dt : Nat) (s : State) : Effects s dt (execMirrorWriteApply dt s) :=
  .run fun _ _ hs => by split; exacts [.ite hs.modTwin.applyMirrored hs, hs]

theorem Effects.execMirrorAck (dt : Nat) (m : MirMessage) (s : State) : Effects s dt (execMirrorAck dt m s) :=
  .run fun _ _ hs => .mirrorLight hs hs.ackMessage

theorem Effects.execMirrorHeartbeat (dt : Nat) (m : MirMessage) (s : State) : Effects s dt (execMirrorHeartbeat dt m s) :=
  .run fun _ _ hs => .mirrorLight hs hs.beatMessage

theorem Effects.execMirrorAdmit (dt : Nat) (m : MirMessage) (s : State) :
    Effects s dt (execMirrorAdmit dt m s) := .run fun _ _ hs => hs.mirrorTake

theorem Effects.execMirrorAnchor (dt : Nat) (m : MirMessage) (s : State) :
    Effects s dt (execMirrorAnchor dt m s) := .run fun _ _ hs => hs.mirrorTake

theorem Effects.execLinkSig (dt : Nat) (m : MirMessage) (s : State) : Effects s dt (execLinkSig dt m s) := .run fun _ _ hs => hs.mirrorTake

theorem Effects.execFrameSig (dt : Nat) (m : MirMessage) (s : State) : Effects s dt (execFrameSig dt m s) := .run fun _ _ hs => hs.mirrorTake

theorem Effects.execDictWrite (dt : Nat) (m : MirMessage) (s : State) : Effects s dt (execDictWrite dt m s) := .run fun _ _ hs => hs.mirrorTake

theorem Effects.execDictForward (dt : Nat) (m : MirMessage) (s : State) :
    Effects s dt (execDictForward dt m s) := .run fun _ _ hs => hs.mirrorTake

theorem Effects.execDictStatus (dt : Nat) (m : MirMessage) (s : State) : Effects s dt (execDictStatus dt m s) := .run fun _ _ hs => hs.mirrorTake

theorem Effects.execStatePush (dt : Nat) (m : MirMessage) (s : State) : Effects s dt (execStatePush dt m s) := .run fun _ _ hs => hs.mirrorTake

theorem Effects.execMirrorBulk (dt : Nat) (m : MirMessage) (s : State) : Effects s dt (execMirrorBulk dt m s) := .run fun _ _ hs => hs.mirrorTake

theorem Effects.execMirrorSync (dt : Nat) (m : MirMessage) (s : State) : Effects s dt (execMirrorSync dt m s) := .run fun _ _ hs => hs.mirrorTake

/-! The passes of the signal map (R413) -/

namespace Reaches

variable {s₀ s : State}

theorem modOutput {i : Nat} {f : MapOutput → MapOutput} (hs : Reaches s₀ s) : Reaches s₀ (s.modOutput i f) := hs.modMap

theorem mapRegister {i w v : Nat} (hs : Reaches s₀ s) : Reaches s₀ (s.mapRegister i w v) :=
  .ite hs.modOutput (.ite hs.modLink.modOutput (.ite hs.modOutput hs.queueTxn.brgHold.count.modOutput))

theorem mapElement {i w v : Nat} (hs : Reaches s₀ s) : Reaches s₀ (s.mapElement i w v) := by
  unfold State.mapElement
  extract_lets _ code n
  clear_value code n
  have hwritten : Reaches s₀ (s.answered fun s => s.writeItem 0 (dstSpace w) (dstAddr w) (some code) (leOctets n v)).2 :=
    hs.answered fun _ hu => hu.writeItem
  revert hwritten
  generalize (s.answered fun s => s.writeItem 0 (dstSpace w) (dstAddr w) (some code) (leOctets n v)) = written
  intro hwritten
  exact .ite hwritten.modOutput (.ite hwritten.modOutput.count hwritten.modOutput.count.post)

theorem mapWriteDue {i w : Nat} (hs : Reaches s₀ s) : Reaches s₀ (s.mapWriteDue i w) :=
  .ite hs (.ite hs.modOutput (.ite hs.modOutput (.ite hs.mapRegister hs.mapElement)))

theorem mapPass {period : Nat} (hs : Reaches s₀ s) : Reaches s₀ (s.mapPass period) :=
  .count (.foldl hs.modMap.modLantern fun _ _ hu => hu.mapWriteDue)

end Reaches

theorem Effects.execMapPass (dt : Nat) (s : State) : Effects s dt (execMapPass dt s) :=
  .run fun _ _ hs => .ite hs (.mapPass (.ite hs.signalMapSwap hs))

theorem Effects.execRegIntervalEnd (dt : Nat) (s : State) : Effects s dt (execRegIntervalEnd dt s) :=
  .run fun _ _ hs => .foldl hs fun _ _ hu => .ite hu.mapWriteDue hu

/-! The dictionary protocol -/

namespace Reaches

variable {s₀ s : State}

theorem answer {n op status : Nat} {payload : List Octet} (hs : Reaches s₀ s) : Reaches s₀ (s.answer n op status payload) :=
  .ite hs.respond hs.respond

theorem answerBare {h : IdpHead} {op status : Nat} (hs : Reaches s₀ s) : Reaches s₀ (s.answerBare h op status) := hs.sendIdp

theorem openSession {h : IdpHead} {nonce : List Octet} (hs : Reaches s₀ s) : Reaches s₀ (s.openSession h nonce) :=
  .ite hs.answerBare (.ite hs.count.answerBare hs.takeFree.modIdp.showSessions.count.post.sendStored)

theorem closeSession {n : Nat} (hs : Reaches s₀ s) : Reaches s₀ (s.closeSession n) := hs.respond.endSession

theorem keepalive {n : Nat} (hs : Reaches s₀ s) : Reaches s₀ (s.keepalive n) := hs.answer

theorem authFailed {x1 : IdpSource} (hs : Reaches s₀ s) : Reaches s₀ (s.authFailed x1) := by
  unfold State.authFailed
  split
  · exact hs
  · exact .ite hs.modIdp.count.post hs.modIdp

theorem raiseOperator {x1 : Session} {proved : Bool} {key : Option (List Octet)} (hs : Reaches s₀ s) :
    Reaches s₀ (s.raiseOperator x1 proved key) :=
  hs.modSession.post.answer

theorem authOperator {x1 : Session} {proof : List Octet} (hs : Reaches s₀ s) : Reaches s₀ (s.authOperator x1 proof) :=
  .ite hs.answer (.ite hs.answer (.ite hs.raiseOperator (.ite hs.raiseOperator hs.count.post.authFailed.answer)))

theorem challenge {x1 : Session} {p : List Octet} (hs : Reaches s₀ s) : Reaches s₀ (s.challenge x1 p) :=
  .ite hs.answer (.ite hs.answer hs.takeFree.takeFree.modSession.answer)

theorem authService {x1 : Session} {signature : List Octet} (hs : Reaches s₀ s) : Reaches s₀ (s.authService x1 signature) := by
  unfold State.authService
  extract_lets +onlyGivenNames _ failed
  have hfailed : Reaches s₀ failed := hs.modSession.count.post.authFailed.answer
  exact .ite hs.answer (.ite hs.answer (by split; exacts [hfailed, .ite hfailed hs.modSession.modSession.post.answer]))

theorem readAll {who : Nat} {items : List (Nat × Nat)} (hs : Reaches s₀ s) : Reaches s₀ (State.readAll who items s).2 := by
  induction items generalizing s with
  | nil => exact hs
  | cons item items ih => exact ih (.ite_snd hs.readItem hs)

theorem readRequest {n : Nat} {p : List Octet} (hs : Reaches s₀ s) : Reaches s₀ (s.readRequest n p) :=
  .ite hs.answer (.ite hs.respond hs.readAll.respond)

theorem writeAll {who : Nat} {items : List WriteItem} (hs : Reaches s₀ s) : Reaches s₀ (State.writeAll who items s).2 := by
  induction items generalizing s with
  | nil => exact hs
  | cons item items ih => exact ih (hs.answered fun _ hu => hu.writeItem)

theorem writeRequest {n : Nat} {p : List Octet} (hs : Reaches s₀ s) : Reaches s₀ (s.writeRequest n p) := by
  unfold State.writeRequest
  split
  · exact hs.answer
  · exact .ite hs.answer (.ite hs.writeAll.modSession.respondRunning hs.writeAll.answer)

theorem domainRead {x : Session} {p : List Octet} (hs : Reaches s₀ s) : Reaches s₀ (s.domainRead x p) := by
  unfold State.domainRead
  extract_lets n index sub take
  have htake : ∀ u data, Reaches s₀ u → Reaches s₀ (take u data) := fun _ _ hu => hu.beginRead.answer
  clear_value take
  refine .ite hs.answer (.ite hs.answer ?_)
  split
  · exact hs.answer
  · refine .ite hs.answer (.ite hs.answer (.ite ?_ ?_))
    · have hread : Reaches s₀ (s.answered fun s => s.brgRead n).2 := hs.answered fun _ hu => hu.brgRead
      exact .ite hread.answer (.ite hread.respondRunning (htake _ _ hread))
    · split
      · next hpop => exact .ite (htake _ _ (hs.domainPop hpop)) (hs.domainPop hpop).answer
      · exact htake _ _ hs

theorem domainWrite {x1 : Session} {p : List Octet} (hs : Reaches s₀ s) : Reaches s₀ (s.domainWrite x1 p) :=
  .ite hs.answer (.ite hs.answer (by split; exacts [hs.answer, .ite hs.answer hs.modSession.answer]))

theorem domainSegment {x1 : Session} {p : List Octet} (hs : Reaches s₀ s) : Reaches s₀ (s.domainSegment x1 p) := by
  unfold State.domainSegment
  extract_lets +onlyGivenNames _ _
  split
  · exact hs.answer
  · exact .ite hs.answer (.ite (.ite hs.answer hs.modSession.answer) (.ite hs.answer (.ite hs.answer hs.answer)))

theorem domainEnd {x1 : Session} {p : List Octet} (hs : Reaches s₀ s) : Reaches s₀ (s.domainEnd x1 p) := by
  unfold State.domainEnd
  extract_lets +onlyGivenNames _ _
  split
  · exact hs.answer
  · refine .ite hs.modSession.answer ?_
    refine .ite hs.modSession.answer ?_
    refine .ite (.respondRunning (.modSession (.answered hs.modSession fun _ hu => hu.writeItem))) ?_
    exact .answer (.answered hs.modSession fun _ hu => hu.writeItem)

theorem domainAbort {x1 : Session} (hs : Reaches s₀ s) : Reaches s₀ (s.domainAbort x1) := .ite hs.modSession.answer hs.answer

theorem perform {x1 : Session} {op : Nat} {p : List Octet} (hs : Reaches s₀ s) : Reaches s₀ (s.perform x1 op p) := by
  unfold State.perform
  refine .ite hs.answer ?_
  refine .ite hs.closeSession ?_
  refine .ite hs.keepalive ?_
  refine .ite hs.authOperator ?_
  refine .ite hs.challenge ?_
  refine .ite hs.authService ?_
  refine .ite hs.readRequest ?_
  refine .ite hs.writeRequest ?_
  exact .ite hs.domainRead (.ite hs.domainWrite (.ite hs.domainSegment (.ite hs.domainEnd (.ite hs.domainAbort hs.answer))))

theorem sequenced {x1 : Session} {h : IdpHead} {op : Nat} {p : List Octet} (hs : Reaches s₀ s) : Reaches s₀ (s.sequenced x1 h op p) :=
  .ite hs.modSession.perform (.ite hs.sendStored (by split; exacts [.ite hs.count.sendStored hs.count.sendStored, hs.count.sendStored]))

theorem idpTake {h : IdpHead} {op : Nat} {p : List Octet} (hs : Reaches s₀ s) : Reaches s₀ (s.idpTake h op p) :=
  .ite hs (.ite hs.count (.ite hs.openSession (by split; exacts [hs.answerBare, .ite hs.answerBare (.ite hs.count hs.modSession.sequenced)])))

theorem windowEnds {x1 : Session} (hs : Reaches s₀ s) : Reaches s₀ (s.windowEnds x1) := hs.modSession.post

theorem idpMessage {source : IdpSource} {o : List Octet} (hs : Reaches s₀ s) : Reaches s₀ (s.idpMessage source o) := hs.idpTake

end Reaches

theorem Effects.execIdpOpen (dt : Nat) (h : IdpHead) (nonce : List Octet) (s : State) : Effects s dt (execIdpOpen dt h nonce s) :=
  .run fun _ _ hs => hs.idpTake

theorem Effects.execIdpClose (dt : Nat) (h : IdpHead) (s : State) : Effects s dt (execIdpClose dt h s) := .run fun _ _ hs => hs.idpTake

theorem Effects.execIdpKeepalive (dt : Nat) (h : IdpHead) (s : State) : Effects s dt (execIdpKeepalive dt h s) := .run fun _ _ hs => hs.idpTake

theorem Effects.execAuthOperator (dt : Nat) (h : IdpHead) (proof : List Octet) (s : State) : Effects s dt (execAuthOperator dt h proof s) :=
  .run fun _ _ hs => hs.idpTake

theorem Effects.execChallenge (dt : Nat) (h : IdpHead) (slot : Nat) (key : List Octet) (s : State) :
    Effects s dt (execChallenge dt h slot key s) :=
  .run fun _ _ hs => hs.idpTake

theorem Effects.execAuthService (dt : Nat) (h : IdpHead) (signature : List Octet) (s : State) :
    Effects s dt (execAuthService dt h signature s) :=
  .run fun _ _ hs => hs.idpTake

theorem Effects.execIdpRead (dt : Nat) (h : IdpHead) (items : List (Nat × Nat)) (s : State) : Effects s dt (execIdpRead dt h items s) :=
  .run fun _ _ hs => hs.idpTake

theorem Effects.execIdpWrite (dt : Nat) (h : IdpHead) (items : List WriteItem) (s : State) : Effects s dt (execIdpWrite dt h items s) :=
  .run fun _ _ hs => hs.idpTake

theorem Effects.execDomainRead (dt : Nat) (h : IdpHead) (index sub : Nat) (s : State) : Effects s dt (execDomainRead dt h index sub s) :=
  .run fun _ _ hs => hs.idpTake

theorem Effects.execDomainWrite (dt : Nat) (h : IdpHead) (index sub total : Nat) (s : State) :
    Effects s dt (execDomainWrite dt h index sub total s) :=
  .run fun _ _ hs => hs.idpTake

theorem Effects.execDomainSegment (dt : Nat) (h : IdpHead) (offset : Nat) (data : List Octet) (s : State) :
    Effects s dt (execDomainSegment dt h offset data s) :=
  .run fun _ _ hs => hs.idpTake

theorem Effects.execDomainEnd (dt : Nat) (h : IdpHead) (check : Option Nat) (s : State) : Effects s dt (execDomainEnd dt h check s) :=
  .run fun _ _ hs => hs.idpTake

theorem Effects.execDomainAbort (dt : Nat) (h : IdpHead) (s : State) : Effects s dt (execDomainAbort dt h s) := .run fun _ _ hs => hs.idpTake

theorem Effects.execSessionTimeout (dt : Nat) (s : State) : Effects s dt (execSessionTimeout dt s) := .run fun _ _ hs => hs.endSessions

theorem Effects.execServiceWindowEnd (dt : Nat) (s : State) : Effects s dt (execServiceWindowEnd dt s) :=
  .run fun _ _ hs => .foldl hs fun _ _ hu => hu.windowEnds

theorem Effects.execLockoutEnd (dt : Nat) (s : State) : Effects s dt (execLockoutEnd dt s) := .run fun _ _ hs => hs.modIdp

theorem Effects.execSpiRequest (dt : Nat) (message : List Octet) (s : State) : Effects s dt (execSpiRequest dt message s) :=
  .run fun _ _ hs => hs.idpMessage

theorem Effects.execSpiReadResponse (dt : Nat) (s : State) : Effects s dt (execSpiReadResponse dt s) := .run fun _ _ hs => hs.modIdp.emit

theorem Effects.execSpiStatus (dt : Nat) (s : State) : Effects s dt (execSpiStatus dt s) := .run fun _ _ hs => hs.emit

/-! RDM requests over the dictionary protocol (R421) -/

namespace Reaches

variable {s₀ s : State}

theorem popMessage {port : Nat} (hs : Reaches s₀ s) : Reaches s₀ (s.popMessage port).2 := hs.modDmx

theorem rdmQueued {port : Nat} {p : RdmPacket} (hs : Reaches s₀ s) :
    Reaches s₀ (s.rdmQueued port p) := .ite hs.rdmRespond hs.popMessage.rdmRespond

theorem rdmIdpSet {port : Nat} {p : RdmPacket} {ready : Bool} (hs : Reaches s₀ s) : Reaches s₀ (s.rdmIdpSet port p ready) :=
  .ite hs (.ite hs.idpMessage.modDmx.rdmRespond hs.idpMessage.rdmRespond)

theorem rdmGetEui {port : Nat} {p : RdmPacket} (hs : Reaches s₀ s) : Reaches s₀ (s.rdmGetEui port p) := hs.rdmRespond

theorem rdmGetIdentity {port : Nat} {p : RdmPacket} (hs : Reaches s₀ s) : Reaches s₀ (s.rdmGetIdentity port p) := hs.rdmRespond

theorem rdmServe {port : Nat} {p : RdmPacket} {ready : Bool} (hs : Reaches s₀ s) : Reaches s₀ (s.rdmServe port p ready) :=
  .ite hs.rdmQueued (.ite hs.rdmStandard (.ite hs.rdmIdpSet (.ite hs.rdmGetEui (.ite hs.rdmGetIdentity hs.rdmRespond))))

theorem rdmRequestIn {port : Nat} {p : RdmPacket} {ready : Bool} (hs : Reaches s₀ s) : Reaches s₀ (s.rdmRequestIn port p ready) :=
  .ite hs (.ite hs.count hs.rdmServe)

end Reaches

theorem Effects.execRdmResponderRequest (dt port : Nat) (p : RdmPacket) (ready : Bool) (s : State) :
    Effects s dt (execRdmResponderRequest dt port p ready s) :=
  .run fun _ _ hs => hs.rdmRequestIn

theorem Effects.execRdmIdpSet (dt port dest source transaction : Nat) (message : List Octet) (ready : Bool) (s : State) :
    Effects s dt (execRdmIdpSet dt port dest source transaction message ready s) :=
  .run fun _ _ hs => hs.rdmRequestIn

theorem Effects.execRdmGetEui (dt port dest source transaction : Nat) (s : State) :
    Effects s dt (execRdmGetEui dt port dest source transaction s) :=
  .run fun _ _ hs => hs.rdmRequestIn

theorem Effects.execRdmGetIdentity (dt port dest source transaction : Nat) (s : State) :
    Effects s dt (execRdmGetIdentity dt port dest source transaction s) :=
  .run fun _ _ hs => hs.rdmRequestIn

/-! Every step -/

/-- Every command runs an effect that reaches the state it makes. -/
theorem exec_effects (c : Instr) (s : State) : Effects s c.dt (exec c s) := by
  cases c with
  | rxFrame => exact .execRxFrame ..
  | netmRxFrame => exact .execNetmRxFrame ..
  | egressTransmit => exact .execEgressTransmit ..
  | gateEntryExpiry => exact .execGateEntryExpiry ..
  | gclChangeRequest => exact .execGclChangeRequest ..
  | gclChangeCancel => exact .execGclChangeCancel ..
  | gclSwap => exact .execGclSwap ..
  | portRestart => exact .execPortRestart ..
  | linkUp => exact .execLinkUp ..
  | linkDown => exact .execLinkDown ..
  | moduleDetect => exact .execModuleDetect ..
  | fecWindowEnd => exact .execFecWindowEnd ..
  | streamTableChange => exact .execStreamTableChange ..
  | igmpQuery => exact .execIgmpQuery ..
  | syncReceive => exact .execSyncReceive ..
  | announceReceive => exact .execAnnounceReceive ..
  | delayRespReceive => exact .execDelayRespReceive ..
  | pdelayReqReceive => exact .execPdelayReqReceive ..
  | firstStep => exact .execFirstStep ..
  | syncTimeout => exact .execSyncTimeout ..
  | announceTimeout => exact .execAnnounceTimeout ..
  | holdoverLimit => exact .execHoldoverLimit ..
  | reacquireSchedule => exact .execReacquireSchedule ..
  | reacquireCancel => exact .execReacquireCancel ..
  | reacquireStep => exact .execReacquireStep ..
  | ptpClientRestart => exact .execPtpClientRestart ..
  | turretMismatch => exact .execTurretMismatch ..
  | voteFailure => exact .execVoteFailure ..
  | comparatorFire => exact .execComparatorFire ..
  | cmpCommit => exact .execCmpCommit ..
  | bellPulseEnd => exact .execBellPulseEnd ..
  | bellEdge => exact .execBellEdge ..
  | capPop => exact .execCapPop ..
  | wsfPacket => exact .execWsfPacket ..
  | controlFrameHandover => exact .execControlFrameHandover ..
  | controlFrameAbandon => exact .execControlFrameAbandon ..
  | fenceRelease => exact .execFenceRelease ..
  | fenceAbandon => exact .execFenceAbandon ..
  | fenceEntryExpiry => exact .execFenceEntryExpiry ..
  | layerTimeout => exact .execLayerTimeout ..
  | incompleteAbandon => exact .execIncompleteAbandon ..
  | st2110Packet => exact .execSt2110Packet ..
  | layerEnable => exact .execLayerEnable ..
  | frameCreditWaitEnd => exact .execFrameCreditWaitEnd ..
  | instantiate => exact .execInstantiate ..
  | dispatch => exact .execDispatch ..
  | operationComplete => exact .execOperationComplete ..
  | urgentPriority => exact .execUrgentPriority ..
  | lampTick => exact .execLampTick ..
  | cueDeadline => exact .execCueDeadline ..
  | squashBarrier => exact .execSquashBarrier ..
  | watchdogTrip => exact .execWatchdogTrip ..
  | traceGapRecord => exact .execTraceGapRecord ..
  | belTraceRead => exact .execBelTraceRead ..
  | belTraceRewind => exact .execBelTraceRewind ..
  | belTraceMark => exact .execBelTraceMark ..
  | statsWindowEnd => exact .execStatsWindowEnd ..
  | belStatsWindow => exact .execBelStatsWindow ..
  | orderChangeRequest => exact .execOrderChangeRequest ..
  | orderChangeCancel => exact .execOrderChangeCancel ..
  | finialHeartbeat => exact .execFinialHeartbeat ..
  | finialContent => exact .execFinialContent ..
  | finialAssert => exact .execFinialAssert ..
  | finialRelease => exact .execFinialRelease ..
  | finialStale => exact .execFinialStale ..
  | finialDisable => exact .execFinialDisable ..
  | finialKeyWrite => exact .execFinialKeyWrite ..
  | decisionMismatch => exact .execDecisionMismatch ..
  | previewTake => exact .execPreviewTake ..
  | cupPreviewRead => exact .execCupPreviewRead ..
  | tempPoll => exact .execTempPoll ..
  | calRefreshDue => exact .execCalRefreshDue ..
  | reblendPassStart => exact .execReblendPassStart ..
  | reblendPassComplete => exact .execReblendPassComplete ..
  | calFetch => exact .execCalFetch ..
  | headerRecheck => exact .execHeaderRecheck ..
  | scrubPeriod => exact .execScrubPeriod ..
  | calSpareCommit => exact .execCalSpareCommit ..
  | moduleZoneWrite => exact .execModuleZoneWrite ..
  | recalPass2Complete => exact .execRecalPass2Complete ..
  | recalAbort => exact .execRecalAbort ..
  | trimMeasure => exact .execTrimMeasure ..
  | trimMeasureDone => exact .execTrimMeasureDone ..
  | mapChangeRequest => exact .execMapChangeRequest ..
  | mapChangeCancel => exact .execMapChangeCancel ..
  | commitInstant => exact .execCommitInstant ..
  | strikeReference => exact .execStrikeReference ..
  | strikeLeave => exact .execStrikeLeave ..
  | modeChangeRequest => exact .execModeChangeRequest ..
  | modeChangeCancel => exact .execModeChangeCancel ..
  | modeChangeEffect => exact .execModeChangeEffect ..
  | genlockEdge => exact .execGenlockEdge ..
  | genlockLoss => exact .execGenlockLoss ..
  | linkFrameStart => exact .execLinkFrameStart ..
  | blockLockGained => exact .execBlockLockGained ..
  | blockLockLost => exact .execBlockLockLost ..
  | linkLockHeld => exact .execLinkLockHeld ..
  | enumEndReceive => exact .execEnumEndReceive ..
  | enumTimeout => exact .execEnumTimeout ..
  | echoReplyReceive => exact .execEchoReplyReceive ..
  | retrainWaitEnd => exact .execRetrainWaitEnd ..
  | remeasureDue => exact .execRemeasureDue ..
  | dackReceive => exact .execDackReceive ..
  | ackTimeout => exact .execAckTimeout ..
  | reqReceive => exact .execReqReceive ..
  | upFrameEof => exact .execUpFrameEof ..
  | readDataResponse => exact .execReadDataResponse ..
  | writeErrorResponse => exact .execWriteErrorResponse ..
  | lockResponse => exact .execLockResponse ..
  | unlockResponse => exact .execUnlockResponse ..
  | faultRecords => exact .execFaultRecords ..
  | lockTimeLimit => exact .execLockTimeLimit ..
  | mergeInstant => exact .execMergeInstant ..
  | periodStart => exact .execPeriodStart ..
  | channelUntested => exact .execChannelUntested ..
  | adcConversion => exact .execAdcConversion ..
  | cueGo => exact .execCueGo ..
  | cueStop => exact .execCueStop ..
  | channelEnable => exact .execChannelEnable ..
  | groupClear => exact .execGroupClear ..
  | groupRetry => exact .execGroupRetry ..
  | safetyTableCheck => exact .execSafetyTableCheck ..
  | tiedGroupEnable => exact .execTiedGroupEnable ..
  | ocuEnableWrite => exact .execOcuEnableWrite ..
  | controlSramError => exact .execControlSramError ..
  | crcClaim => exact .execCrcClaim ..
  | crcPreset => exact .execCrcPreset ..
  | crcParameterWrite => exact .execCrcParameterWrite ..
  | crcRunningWrite => exact .execCrcRunningWrite ..
  | crcFeed => exact .execCrcFeed ..
  | crcAliveIn => exact .execCrcAliveIn ..
  | eventPost => exact .execEventPost ..
  | drmPop => exact .execDrmPop ..
  | drmPopBlock => exact .execDrmPopBlock ..
  | drmFlush => exact .execDrmFlush ..
  | faultSummaryClear => exact .execFaultSummaryClear ..
  | memRequestRaise => exact .execMemRequestRaise ..
  | arbitrationRound => exact .execArbitrationRound ..
  | refreshDue => exact .execRefreshDue ..
  | debugAccess => exact .execDebugAccess ..
  | dramReadError => exact .execDramReadError ..
  | odeccPoll => exact .execOdeccPoll ..
  | dramTempRead => exact .execDramTempRead ..
  | grantOverrun => exact .execGrantOverrun ..
  | grantHoldRestart => exact .execGrantHoldRestart ..
  | conflictWindowEnd => exact .execConflictWindowEnd ..
  | mapPass => exact .execMapPass ..
  | signalMapChangeRequest => exact .execSignalMapChangeRequest ..
  | signalMapChangeCancel => exact .execSignalMapChangeCancel ..
  | regIntervalEnd => exact .execRegIntervalEnd ..
  | sacnPacket => exact .execSacnPacket ..
  | sacnSourceLoss => exact .execSacnSourceLoss ..
  | dmxTxPacket => exact .execDmxTxPacket ..
  | dmxRxPacket => exact .execDmxRxPacket ..
  | dmxRxLoss => exact .execDmxRxLoss ..
  | dmxModeWrite => exact .execDmxModeWrite ..
  | rdmRequest => exact .execRdmRequest ..
  | rdmResponseReceive => exact .execRdmResponseReceive ..
  | rdmResponseTimeout => exact .execRdmResponseTimeout ..
  | dmxRdmDiscover => exact .execDmxRdmDiscover ..
  | rdmAbort => exact .execRdmAbort ..
  | rdmResponderRequest => exact .execRdmResponderRequest ..
  | brgRead => exact .execBrgRead ..
  | brgWrite => exact .execBrgWrite ..
  | brgLockSet => exact .execBrgLockSet ..
  | brgUnlock => exact .execBrgUnlock ..
  | brgAbort => exact .execBrgAbort ..
  | brgPweClear => exact .execBrgPweClear ..
  | claimWordReceive => exact .execClaimWordReceive ..
  | partnerLost => exact .execPartnerLost ..
  | mirrorLinkUp => exact .execMirrorLinkUp ..
  | mirrorLinkDown => exact .execMirrorLinkDown ..
  | mirrorResend => exact .execMirrorResend ..
  | mirrorAck => exact .execMirrorAck ..
  | mirrorHeartbeat => exact .execMirrorHeartbeat ..
  | mirrorAdmit => exact .execMirrorAdmit ..
  | pairWaitExpiry => exact .execPairWaitExpiry ..
  | mirrorAnchor => exact .execMirrorAnchor ..
  | linkSig => exact .execLinkSig ..
  | frameSig => exact .execFrameSig ..
  | dictWrite => exact .execDictWrite ..
  | dictForward => exact .execDictForward ..
  | dictStatus => exact .execDictStatus ..
  | mirrorWriteApply => exact .execMirrorWriteApply ..
  | statePush => exact .execStatePush ..
  | mirrorBulk => exact .execMirrorBulk ..
  | mirrorSync => exact .execMirrorSync ..
  | twinYield => exact .execTwinYield ..
  | twnRejoin => exact .execTwnRejoin ..
  | idpOpen => exact .execIdpOpen ..
  | idpClose => exact .execIdpClose ..
  | idpKeepalive => exact .execIdpKeepalive ..
  | authOperator => exact .execAuthOperator ..
  | challenge => exact .execChallenge ..
  | authService => exact .execAuthService ..
  | idpRead => exact .execIdpRead ..
  | idpWrite => exact .execIdpWrite ..
  | registerWrite => exact .execRegisterWrite ..
  | domainRead => exact .execDomainRead ..
  | domainWrite => exact .execDomainWrite ..
  | domainSegment => exact .execDomainSegment ..
  | domainEnd => exact .execDomainEnd ..
  | domainAbort => exact .execDomainAbort ..
  | sessionTimeout => exact .execSessionTimeout ..
  | serviceWindowEnd => exact .execServiceWindowEnd ..
  | lockoutEnd => exact .execLockoutEnd ..
  | rdmIdpSet => exact .execRdmIdpSet ..
  | rdmGetEui => exact .execRdmGetEui ..
  | rdmGetIdentity => exact .execRdmGetIdentity ..
  | spiRequest => exact .execSpiRequest ..
  | spiReadResponse => exact .execSpiReadResponse ..
  | spiStatus => exact .execSpiStatus ..
  | dicProfileSave => exact .execDicProfileSave ..
  | profileSaveDone => exact .execProfileSaveDone ..
  | dicProfileCreate => exact .execDicProfileCreate ..
  | dicRestart => exact .execDicRestart ..
  | dicInstallKey => exact .execDicInstallKey ..
  | dicServiceKeyIntegrator => exact .execDicServiceKeyIntegrator ..
  | chainInWord => exact .execChainInWord ..
  | chainInIdle => exact .execChainInIdle ..
  | discoverSend => exact .execDiscoverSend ..
  | chainDiscover => exact .execChainDiscover ..
  | discoverBack => exact .execDiscoverBack ..
  | chnAddrAccept => exact .execChnAddrAccept ..
  | conflictClear => exact .execConflictClear ..
  | backupRequest => exact .execBackupRequest ..
  | backupData => exact .execBackupData ..
  | backupAck => exact .execBackupAck ..
  | backupResend => exact .execBackupResend ..
  | adoptWaitExpiry => exact .execAdoptWaitExpiry ..
  | updStartCommit => exact .execUpdStartCommit ..
  | imageOffer => exact .execImageOffer ..
  | offerReply => exact .execOfferReply ..
  | imageBlock => exact .execImageBlock ..
  | blockAck => exact .execBlockAck ..
  | blockResend => exact .execBlockResend ..
  | relayStall => exact .execRelayStall ..
  | imageVerified => exact .execImageVerified ..
  | chainAbort => exact .execChainAbort ..
  | updAbort => exact .execUpdAbort ..
  | activation => exact .execActivation ..
  | healthConfirmed => exact .execHealthConfirmed ..
  | updConfirm => exact .execUpdConfirm ..
  | updReject => exact .execUpdReject ..
  | healthWindowEnd => exact .execHealthWindowEnd ..
  | imageFetch => exact .execImageFetch ..
  | fetchRetry => exact .execFetchRetry ..
  | keepLoaderStart => exact .execKeepLoaderStart ..
  | powerOn => exact .execPowerOn ..
  | vinUndervoltage => exact .execVinUndervoltage ..
  | railFault => exact .execRailFault ..
  | railRetryWait => exact .execRailRetryWait ..
  | clockFault => exact .execClockFault ..
  | serdesPllLoss => exact .execSerdesPllLoss ..
  | resetNLow => exact .execResetNLow ..
  | resetNRelease => exact .execResetNRelease ..
  | thermalTrip => exact .execThermalTrip ..
  | thermalTripClear => exact .execThermalTripClear ..
  | jtagReset => exact .execJtagReset ..
  | cpu0Watchdog => exact .execCpu0Watchdog ..
  | driveHeartbeatLoss => exact .execDriveHeartbeatLoss ..
  | internalResetRelease => exact .execInternalResetRelease ..
  | memTrainingDone => exact .execMemTrainingDone ..
  | imageLoadDone => exact .execImageLoadDone ..
  | firmwareStart => exact .execFirmwareStart ..
  | startupLimit => exact .execStartupLimit ..
  | logicTjRead => exact .execLogicTjRead ..
  | presentationInstant => exact .execPresentationInstant ..
  | claimLineLoss => exact .execClaimLineLoss ..
  | dmxTxPacketEnd => exact .execDmxTxPacketEnd ..
  | rdmAckTimerExpiry => exact .execRdmAckTimerExpiry ..
  | discoverBackSend => exact .execDiscoverBackSend ..
  | activationWindowExpiry => exact .execActivationWindowExpiry ..
  | serdesPllLock => exact .execSerdesPllLock ..
  | backupRequestTimeout => exact .execBackupRequestTimeout ..

/-- Nothing an effect does makes the Drum hold more than 64 words (R374). -/
theorem Reaches.words_le {s₀ s : State} (hs : Reaches s₀ s) (h : s₀.drum.words.length ≤ 64) : s.drum.words.length ≤ 64 := by
  induction hs with
  | refl => exact h
  | setReg _ ih => rwa [State.setReg_drum]
  | dropEntries _ ih => exact ih
  | enterWord _ ih => exact State.enterWord_words_le _ _ ih
  | keepWords _ hfewer ih => rw [State.setWords_drum]; exact hfewer.trans ih
  | reset => decide
  | joined _ _ _ hwords _ ih => rwa [hwords]

theorem Effects.drumForm {s : State} {dt : Nat} {o : Host.Outcome State Fault Refusal} (ho : Effects s dt o) (h : s.drum.words.length ≤ 64) :
    ∃ t, o = .next t ∧ DrumForm t := by
  obtain ⟨f, rfl, hf⟩ := ho
  exact ⟨_, run_eq s dt f, State.settle_words_le _ ((hf _).words_le h), State.settle_incoming _⟩

theorem step_of_no_pending {s : State} (h : s.pending = []) : step s = .next s.tick := by
  unfold step
  rw [h]

end Sys2Proof.Machine

end

namespace Sys2Proof.Proofs

open Machine

/-- Settles O56: a tick keeps the Drum, and a command runs an effect made of operations that each keep it within its words. -/
theorem drumStaysWithinItsWords : Obligations.DrumStaysWithinItsWords := by
  unfold Obligations.DrumStaysWithinItsWords
  intro s hs
  cases hpending : s.pending with
  | nil => exact ⟨s.tick, step_of_no_pending hpending, hs⟩
  | cons c rest =>
    rw [step_of_pending hpending]
    exact (exec_effects c _).drumForm hs.1

end Sys2Proof.Proofs

namespace Sys2Proof.Proofs

open Machine

/-! A round counts the bursts of its grant in 64 bits (R406) -/

/-- Port 2 owns the memory in normal mode, port 4 waits, and 2^32 - 1 bursts have been counted. -/
def longRunMemory : State :=
  ((State.reset.setReg .MEM_ARB_MODE 1).setReg .MEMCNT_ACCESSES (2 ^ 32 - 1)).modMem fun m => { m with owner := some 2, raised := [⟨4, 0⟩] }

/-- The grant of port 2 moved one burst, and the counter goes past 2^32 without wrapping. -/
theorem arbitrationRound_counts_past32 : regAfter (.arbitrationRound 0 128 0 0) longRunMemory .MEMCNT_ACCESSES = some (2 ^ 32) := by
  decide +kernel

/-- Refutes O36, by its third clause, which has MEMCNT_ACCESSES wrap at 2^32. The counter is a U64 (R406), and the statement bounds it nowhere:
in `longRunMemory` one more burst takes it from 2^32 - 1 to 2^32, where the clause says 0. The clause would have to count modulo 2^64. -/
theorem not_memoryRoundsAndWindows : ¬ Obligations.MemoryRoundsAndWindows := by
  unfold Obligations.MemoryRoundsAndWindows
  rintro ⟨-, -, hround, -⟩
  obtain ⟨t, hnext, -, -, -, -, haccesses, -⟩ := hround 0 128 0 0 2 ⟨4, 0⟩ longRunMemory rfl (by decide) (by decide) (by decide)
    (by decide +kernel) (by decide +kernel)
  have hbefore : longRunMemory.reg .MEMCNT_ACCESSES = 2 ^ 32 - 1 := by decide +kernel
  have hafter := arbitrationRound_counts_past32
  rw [regAfter_of_next _ hnext, haccesses, hbefore] at hafter
  exact absurd hafter (by decide)

end Sys2Proof.Proofs


namespace Sys2Proof.Machine

/-! The store of the dictionary stays in its one form (R464) -/

/-- A store in its one form: keys rising, no element listed at its default. -/
def StoreForm (l : Store) : Prop := storeRising 0 l = true ∧ ∀ p ∈ l, p.2 ≠ dictDefault ⟨p.1 / 1024, p.1 % 1024⟩

theorem storeRising_cons {b k v : Nat} {l : Store} : storeRising b ((k, v) :: l) = true ↔ b ≤ k ∧ storeRising (k + 1) l = true := by
  simp [storeRising, Nat.blt_eq]

theorem storeRising_mono {b c : Nat} {l : Store} (hbc : b ≤ c) (h : storeRising c l = true) : storeRising b l = true := by
  cases l with
  | nil => rfl
  | cons p l =>
    obtain ⟨hc, hl⟩ := storeRising_cons.1 h
    exact storeRising_cons.2 ⟨hbc.trans hc, hl⟩

theorem storeRising_filter {b : Nat} {l : Store} (q : Nat × Nat → Bool) (h : storeRising b l = true) : storeRising b (l.filter q) = true := by
  induction l generalizing b with
  | nil => rfl
  | cons p l ih =>
    obtain ⟨hb, hl⟩ := storeRising_cons.1 h
    rw [List.filter_cons]
    split
    · exact storeRising_cons.2 ⟨hb, ih hl⟩
    · exact storeRising_mono (hb.trans (Nat.le_succ _)) (ih hl)

/-- A key put in its place among others leaves them rising. -/
theorem storeRising_insert {b key v : Nat} {l : Store} (hb : b ≤ key) (hnew : ∀ p ∈ l, p.1 ≠ key) (h : storeRising b l = true) :
    storeRising b (storeInsert key v l) = true := by
  induction l generalizing b with
  | nil => exact storeRising_cons.2 ⟨hb, rfl⟩
  | cons p l ih =>
    obtain ⟨k, w⟩ := p
    obtain ⟨hk, hl⟩ := storeRising_cons.1 h
    have hne : k ≠ key := hnew (k, w) List.mem_cons_self
    rw [storeInsert]
    split
    next hlt => exact storeRising_cons.2 ⟨hb, storeRising_cons.2 ⟨hlt, hl⟩⟩
    next hge => exact storeRising_cons.2 ⟨hk, ih (by omega) (fun q hq => hnew q (List.mem_cons_of_mem _ hq)) hl⟩

theorem mem_storeInsert {p : Nat × Nat} {key v : Nat} {l : Store} (h : p ∈ storeInsert key v l) : p = (key, v) ∨ p ∈ l := by
  induction l with
  | nil => exact .inl (List.mem_singleton.1 h)
  | cons q l ih =>
    rw [storeInsert] at h
    split at h
    · exact List.mem_cons.1 h
    · rcases List.mem_cons.1 h with rfl | h
      · exact .inr List.mem_cons_self
      · exact (ih h).imp_right (List.mem_cons_of_mem _)

theorem StoreForm.filter {l : Store} (h : StoreForm l) (q : Nat × Nat → Bool) : StoreForm (l.filter q) :=
  ⟨storeRising_filter q h.1, fun p hp => h.2 p (List.mem_of_mem_filter hp)⟩

theorem StoreForm.put {l : Store} (h : StoreForm l) {r : Reg} (hsub : r.sub < 1024) (v : Nat) :
    StoreForm (storePut (dictDefault r) l r.key v) := by
  have hrest := h.filter fun p => p.1 != r.key
  unfold storePut
  split
  · exact hrest
  next hv =>
    refine ⟨storeRising_insert (Nat.zero_le _) (by simp) hrest.1, fun p hp => ?_⟩
    rcases mem_storeInsert hp with rfl | hp
    · have hindex : r.key / 1024 = r.index := by simp only [Reg.key]; omega
      have hsub' : r.key % 1024 = r.sub := by simp only [Reg.key]; omega
      simpa [hindex, hsub'] using hv
    · exact hrest.2 p hp

/-- No row of the tables goes to a subindex of more than ten bits. -/
theorem dictRows_sub : ((List.range 16).all fun k => (dictRowsOf (k * 4096)).all fun row => Nat.blt row.subHi 1024) = true := by decide +kernel

/-- An element of fixed length has a subindex of ten bits. -/
theorem sub_lt_of_dictBits {r : Reg} (h : dictBits r ≠ 0) : r.sub < 1024 := by
  unfold dictBits at h
  split at h
  next row hrow =>
    have hmem : row ∈ dictRowsOf (r.index / 4096 * 4096) := by rw [dictRowsOf_block]; exact List.mem_of_find?_eq_some hrow
    have hblock : r.index / 4096 < 16 := by
      by_contra hlarge
      obtain ⟨n, hn⟩ := Nat.exists_eq_add_of_le (Nat.le_of_not_lt hlarge)
      simp [dictRowsOf, hn, Nat.add_comm 16] at hmem
    have hlt := List.all_eq_true.1 (List.all_eq_true.1 dictRows_sub _ (List.mem_range.2 hblock)) row hmem
    have hcovers : row.covers r.index r.sub = true := List.find?_some (p := fun row : DictRow => row.covers r.index r.sub) hrow
    simp only [DictRow.covers, Bool.and_eq_true, Nat.ble_eq] at hcovers
    have : row.subHi < 1024 := by simpa using hlt
    omega
  next => exact absurd rfl h

theorem StoreForm.setReg {s : State} (h : StoreForm s.dict) (r : Reg) (v : Nat) : StoreForm (s.setReg r v).dict := by
  by_cases hbits : dictBits r = 0
  · rwa [State.setReg_absent _ _ _ hbits]
  · simp only [State.setReg, if_neg hbits]
    exact h.put (sub_lt_of_dictBits hbits) _

theorem StoreForm.setWords {s : State} (h : StoreForm s.dict) (ws : List DrumWord) : StoreForm (s.setWords ws).dict := by
  have hdepth := StoreForm.setReg (s := { s with drum := { s.drum with words := ws } }) h .DRM_DEPTH ws.length
  simp only [State.setWords]
  split
  · exact .setReg hdepth _ _
  · exact hdepth

/-- A word that enters moves elements of the Drum, one by one. -/
theorem StoreForm.enterWord {s : State} (h : StoreForm s.dict) (w : DrumWord) : StoreForm (s.enterWord w).1.dict := by
  have hlog : StoreForm (s.logWord w).dict := by
    unfold State.logWord
    split
    · exact h
    · exact h
  simp only [State.enterWord]
  split
  · exact .setReg hlog _ _
  · split
    · split
      · exact .setReg (.setReg (.setWords hlog _) _ _) _ _
      · exact .setWords hlog _
    · exact .setWords hlog _

/-- Nothing an effect does takes the dictionary out of its one form. -/
theorem Reaches.storeForm {s₀ s : State} (hs : Reaches s₀ s) (h : StoreForm s₀.dict) : StoreForm s.dict := by
  induction hs with
  | refl => exact h
  | setReg _ ih => exact ih.setReg _ _
  | dropEntries _ ih => exact ih.filter _
  | enterWord _ ih => exact ih.enterWord _
  | keepWords _ _ ih => exact ih.setWords _
  | reset => exact reset_dictForm
  | joined _ _ hdict _ ih _ => rwa [hdict]

theorem Effects.dictForm {s : State} {dt : Nat} {o : Host.Outcome State Fault Refusal} (ho : Effects s dt o) (h : DictForm s) :
    ∃ t, o = .next t ∧ DictForm t := by
  obtain ⟨f, rfl, hf⟩ := ho
  exact ⟨_, run_eq s dt f, ((hf { s.elapse dt with out := [] }).settle).storeForm h⟩

end Sys2Proof.Machine

namespace Sys2Proof.Proofs

open Machine

/-- Settles O57: a tick leaves the dictionary, and a command runs an effect made of operations that each keep its one form. -/
theorem dictionaryKeepsItsForm : Obligations.DictionaryKeepsItsForm := by
  unfold Obligations.DictionaryKeepsItsForm
  intro s hs
  cases hpending : s.pending with
  | nil => exact ⟨s.tick, step_of_no_pending hpending, hs⟩
  | cons c rest =>
    rw [step_of_pending hpending]
    exact (exec_effects c { s with pending := rest }).dictForm hs

end Sys2Proof.Proofs

namespace Sys2Proof.Machine

/-- A step always answers a next state: a tick with no command waiting, an effect with one. -/
theorem step_completes (s : State) : ∃ t, step s = .next t := by
  cases hpending : s.pending with
  | nil => exact ⟨s.tick, step_of_no_pending hpending⟩
  | cons c rest =>
    obtain ⟨t, hnext, -⟩ := exec_completes c { s with pending := rest }
    exact ⟨t, (step_of_pending hpending).trans hnext⟩

end Sys2Proof.Machine

namespace Sys2Proof.Proofs

open Machine

/-- Settles O1: the front of the queue is the command the step finds. -/
theorem stepRunsFront : Obligations.StepRunsFront := by
  unfold Obligations.StepRunsFront
  intro c rest s
  exact step_of_pending rfl

/-- Settles O5, by induction on the number of steps: a step always answers a next state. -/
theorem noRunStops : Obligations.NoRunStops := by
  unfold Obligations.NoRunStops
  intro k
  induction k with
  | zero => exact fun s => ⟨s, rfl⟩
  | succ k ih =>
    intro s
    obtain ⟨u, hnext⟩ := step_completes s
    obtain ⟨t, hrun⟩ := ih u
    exact ⟨t, (core_run_succ_of_next hnext).trans hrun⟩

end Sys2Proof.Proofs


namespace Sys2Proof.Machine

/-! Writes and removing reads below operator level (R468) -/

/-- Below level 1 a piece of work answers a status other than 0 and does nothing else. -/
def RefusesBelow (who : Nat) (f : State → State) : Prop := ∀ s : State, s.levelOf who = 0 → ∃ k, k ≠ 0 ∧ f s = s.reply k

/-- No element is written below level 1 (R468). -/
theorem writeLevel_pos {r : Reg} {l : Nat} (h : writeLevel r = some l) : 1 ≤ l := by
  have haccess : ∀ a : Access, a.writeLevel = some l → 1 ≤ l := by rintro (_ | _) h <;> simp [Access.writeLevel] at h <;> omega
  unfold writeLevel at h
  split at h
  · cases h; decide
  · split at h
    · cases h
    · split at h
      · exact haccess _ h
      · cases h

theorem le_maxOf_of_mem {l : List Nat} {n : Nat} (h : n ∈ l) : n ≤ maxOf l := by
  have hmax : ∀ (l : List Nat) (a : Nat), a ≤ l.foldl (fun a b => if a < b then b else a) a ∧
      ∀ n ∈ l, n ≤ l.foldl (fun a b => if a < b then b else a) a := by
    intro l
    induction l with
    | nil => exact fun a => ⟨Nat.le_refl a, fun _ hn => by cases hn⟩
    | cons b l ih =>
      intro a
      obtain ⟨hstart, hrest⟩ := ih (if a < b then b else a)
      have hboth : a ≤ (if a < b then b else a) ∧ b ≤ (if a < b then b else a) := by split <;> omega
      refine ⟨hboth.1.trans hstart, fun n hn => ?_⟩
      rcases List.mem_cons.1 hn with rfl | hn
      · exact hboth.2.trans hstart
      · exact hrest n hn
  exact (hmax l 0).2 n h

/-- A write of subindex 0 asks at least level 1, as each of its elements does (R465, R468). -/
theorem wholeLevel_pos {index l : Nat} (h : wholeLevel index = some l) : 1 ≤ l := by
  unfold wholeLevel at h
  split at h
  · cases h
  next hne =>
    obtain rfl := Option.some.inj h
    obtain ⟨n, hn⟩ := List.exists_mem_of_ne_nil _ hne
    obtain ⟨r, -, hr⟩ := List.mem_filterMap.1 hn
    exact (writeLevel_pos hr).trans (le_maxOf_of_mem hn)

/-- The gate of a write lets nobody below level 1 through (R465, R466, R468). -/
theorem State.writeGate_below {s : State} {who : Nat} (hwho : s.levelOf who = 0) (index sub : Nat) (type : Option Nat) :
    ∃ k, k ≠ 0 ∧ s.writeGate who index sub type = some k := by
  unfold State.writeGate
  simp only [hwho]
  split
  · exact ⟨2, by decide, rfl⟩
  split
  · exact ⟨7, by decide, rfl⟩
  split
  · cases hl : wholeLevel index with
    | none => exact ⟨7, by decide, rfl⟩
    | some l => exact ⟨6, by decide, if_pos (wholeLevel_pos hl)⟩
  split
  · exact ⟨3, by decide, rfl⟩
  split
  · split
    · exact ⟨7, by decide, rfl⟩
    · exact ⟨4, by decide, rfl⟩
  cases hl : writeLevel ⟨index, sub⟩ with
  | none => exact ⟨7, by decide, rfl⟩
  | some l => exact ⟨6, by decide, if_pos (writeLevel_pos hl)⟩

@[simp] theorem State.answered_reply (s : State) (k : Nat) : (s.answered fun t => t.reply k).1 = k := rfl

namespace RefusesBelow

variable {who : Nat}

theorem asWriter {r : Reg} {f : State → State} : RefusesBelow who fun s => s.asWriter who r f := by
  intro s hwho
  unfold State.asWriter
  split
  · exact ⟨7, by decide, rfl⟩
  next l hl => exact ⟨6, by decide, if_pos (by rw [hwho]; exact writeLevel_pos hl)⟩

theorem asReader {f : State → State} : RefusesBelow who fun s => s.asReader who f :=
  fun _ hwho => ⟨6, by decide, if_pos (by rw [hwho]; decide)⟩

theorem crcWrite {n : Nat} {f : State → State} : RefusesBelow who fun s => s.crcWrite who n f := by
  intro s hwho
  unfold State.crcWrite
  split
  · exact ⟨2, by decide, rfl⟩
  split
  · exact ⟨7, by decide, rfl⟩
  · exact ⟨6, by decide, if_pos (by rw [hwho]; decide)⟩

theorem crcClaim {n value : Nat} : RefusesBelow who fun s => s.crcClaim who n value := by
  intro s hwho
  unfold State.crcClaim
  split
  · exact ⟨2, by decide, rfl⟩
  split
  · exact ⟨7, by decide, rfl⟩
  · exact ⟨6, by decide, if_pos (by rw [hwho]; decide)⟩

theorem installKey {key : List Octet} : RefusesBelow who fun s => s.installKey who key :=
  fun s hwho => ⟨6, by decide, if_pos (by simp only [State.mayInstall, hwho]; rfl)⟩

theorem writeAlone {index sub : Nat} {type : Option Nat} {value : List Octet} :
    RefusesBelow who fun s => s.writeAlone who index sub type value := by
  intro s hwho
  obtain ⟨k, hk, hgate⟩ := s.writeGate_below hwho index sub type
  have hlocal : ∀ t : State, t.writeGate who index sub type = some k → t.writeLocal who index sub type value = t.reply k :=
    fun t ht => by rw [State.writeLocal, ht]
  have hstatus : (s.answered fun t => t.writeLocal who index sub type value).1 ≠ 0 := by
    have hsame : (s.answered fun t => t.writeLocal who index sub type value).1 = (s.answered fun t => t.reply k).1 := by
      simp only [State.answered, hlocal { s with out := [] } hgate]
    rw [hsame]; exact hk
  refine ⟨k, hk, ?_⟩
  simp only [State.writeAlone, hlocal s hgate]
  exact if_neg fun h => hstatus h.2.2

theorem writeItem {index sub : Nat} {type : Option Nat} {value : List Octet} :
    RefusesBelow who fun s => s.writeItem who index sub type value := by
  intro s hwho
  simp only [State.writeItem]
  split
  · exact writeAlone s hwho
  · obtain ⟨k, hk, hgate⟩ := s.writeGate_below hwho index sub type
    exact ⟨k, hk, by rw [hgate]⟩

end RefusesBelow

/-- Every command that is a write, or a read that removes data, runs an effect that its writer's level gates. -/
theorem exec_refusesBelow {c : Instr} {who : Nat} (h : c.writer = some who) : ∃ f, (∀ s, exec c s = run s c.dt f) ∧ RefusesBelow who f := by
  cases c with
  | gclChangeRequest | gclChangeCancel | portRestart | streamTableChange | reacquireSchedule | reacquireCancel | ptpClientRestart | cmpCommit |
    layerEnable | belTraceRewind | belTraceMark | belStatsWindow | orderChangeRequest | orderChangeCancel | finialDisable | finialKeyWrite |
    previewTake | calSpareCommit | moduleZoneWrite | recalPass2Complete | recalAbort | trimMeasure | mapChangeRequest | mapChangeCancel |
    modeChangeRequest | modeChangeCancel | cueGo | cueStop | channelEnable | groupClear | ocuEnableWrite | drmFlush | faultSummaryClear |
    signalMapChangeRequest | signalMapChangeCancel | dmxModeWrite | rdmRequest | dmxRdmDiscover | rdmAbort | brgWrite | brgLockSet | brgUnlock |
    brgAbort | brgPweClear | twnRejoin | dicProfileSave | dicProfileCreate | dicRestart | dicServiceKeyIntegrator | chnAddrAccept | updStartCommit |
    updAbort | updConfirm | updReject => cases h; dsimp only [exec, Instr.dt]; exact ⟨_, fun _ => rfl, .asWriter⟩
  | capPop | belTraceRead | cupPreviewRead | drmPop | drmPopBlock => cases h; dsimp only [exec, Instr.dt]; exact ⟨_, fun _ => rfl, .asReader⟩
  | crcPreset | crcParameterWrite | crcRunningWrite | crcFeed | crcAliveIn => cases h; dsimp only [exec, Instr.dt]; exact ⟨_, fun _ => rfl, .crcWrite⟩
  | crcClaim => cases h; dsimp only [exec, Instr.dt]; exact ⟨_, fun _ => rfl, .crcClaim⟩
  | registerWrite => cases h; dsimp only [exec, Instr.dt]; exact ⟨_, fun _ => rfl, .writeItem⟩
  | dicInstallKey => cases h; dsimp only [exec, Instr.dt]; exact ⟨_, fun _ => rfl, .installKey⟩
  | _ => cases h

end Sys2Proof.Machine

namespace Sys2Proof.Proofs

open Machine

/-- Settles O60: the gates in front of every write and of every removing read refuse level 0, and a refusal is the whole effect. -/
theorem nobodyBelowOperatorChangesTheUnit : Obligations.NobodyBelowOperatorChangesTheUnit := by
  unfold Obligations.NobodyBelowOperatorChangesTheUnit
  intro c who s hwriter hlevel hquiet
  obtain ⟨f, hexec, hrefuses⟩ := exec_refusesBelow hwriter
  obtain ⟨k, hk, heffect⟩ := hrefuses (begun s c.dt) hlevel
  obtain ⟨hout, hkept⟩ := ended_reply (dt := c.dt) hquiet k
  exact completes_of_effect rfl (hexec s) heffect ⟨⟨k, hk, hout⟩, hkept⟩

end Sys2Proof.Proofs


namespace Sys2Proof.Proofs

open Machine

/-! DIC_RESTART brings the count of trim writes over (R488, R527) -/

/-- DIC_RESTART at the service console restarts the unit, and the count of trim writes stands afterwards. -/
theorem dicRestart_keeps_trimWrites : regAfter (.dicRestart 0 0xFFFF 1) trimsWritten .CAL_TRIM_WRITES = some 5 := by decide +kernel

/-- Refutes O48, by its sixth clause. As at every other restart (`not_memoryErrorsActAndRestart`), CAL_TRIM_WRITES is brought over with the
trims, so in `trimsWritten` it reads 5 after DIC_RESTART and 0 after reset: the dictionary is not that of reset. -/
theorem not_profilesAndKeysAreStored : ¬ Obligations.ProfilesAndKeysAreStored := by
  unfold Obligations.ProfilesAndKeysAreStored
  rintro ⟨-, -, -, -, -, hrestart, -⟩
  obtain ⟨t, hnext, ⟨hdict, -⟩, -⟩ := hrestart 0 0xFFFF trimsWritten (by decide) rfl
  have hreset : t.reg .CAL_TRIM_WRITES = State.reset.reg .CAL_TRIM_WRITES := by rw [State.reg, hdict]; rfl
  have hzero : State.reset.reg .CAL_TRIM_WRITES = 0 := by decide +kernel
  have hafter := dicRestart_keeps_trimWrites
  rw [regAfter_of_next _ hnext, hreset, hzero] at hafter
  exact absurd hafter (by decide)

end Sys2Proof.Proofs


namespace Sys2Proof.Machine

/-! What OnlyChanges allows: the chain and the boot record (R492 to R503) -/

section OnlyChanges

variable {parts : List Part} {regs : Reg → Bool} {s t : State}

theorem OnlyChanges.modChain (h : OnlyChanges parts regs s t) (f : Chain → Chain) (hchain : .chain ∈ parts) :
    OnlyChanges parts regs s (t.modChain f) :=
  h.change rfl fun p hp => by
    cases p with
    | chain => exact absurd hchain hp
    | _ => rfl

theorem OnlyChanges.modUpdate (h : OnlyChanges parts regs s t) (f : Update → Update) (hupdate : .update ∈ parts) :
    OnlyChanges parts regs s (t.modUpdate f) :=
  h.change rfl fun p hp => by
    cases p with
    | update => exact absurd hupdate hp
    | _ => rfl

end OnlyChanges

@[simp] theorem begun_chain (s : State) (dt : Nat) : (begun s dt).chain = s.chain := rfl
@[simp] theorem begun_update (s : State) (dt : Nat) : (begun s dt).update = s.update := rfl
@[simp] theorem begun_address (s : State) (dt : Nat) : (begun s dt).address = s.address := rfl
@[simp] theorem ended_chain (s u : State) (dt : Nat) : (ended s dt u).chain = u.chain := u.settle_chain
@[simp] theorem ended_update (s u : State) (dt : Nat) : (ended s dt u).update = u.update := u.settle_update

/-! The boot record written (R503) -/

/-- The elements that show the boot record. -/
def bootRegs : List Reg := [.UPD_STATE, .UPD_PENDING_ID, .UPD_ACTIVATE_AT, .CHN_ADDRESS, .NET_IPV4_ACTIVE]

theorem State.showBoot_changes (s : State) : OnlyChanges [] (among bootRegs) s s.showBoot := by
  unfold State.showBoot
  split
  · exact onlyChanges_refl s
  · exact (((((onlyChanges_refl s).setReg _ _ (by decide) (by decide)).setReg _ _ (by decide) (by decide)).setReg _ _ (by decide)
      (by decide)).setReg _ _ (by decide) (by decide)).setReg .NET_IPV4_ACTIVE _ (by decide) (by decide)

theorem State.showBoot_address {s : State} {b : BootRecord} (h : s.update.boot = some b) : s.showBoot.reg .CHN_ADDRESS = b.address % 2 ^ 16 := by
  rw [State.showBoot, h]
  exact (State.reg_setReg_key _ .NET_IPV4_ACTIVE _ _ (by decide)).trans (State.reg_setReg_same _ _ _ (by decide))

@[simp] theorem State.showBoot_out (s : State) : s.showBoot.out = s.out := by
  unfold State.showBoot
  split
  · rfl
  · simp [State.showIp]

theorem State.writeBoot_changes (s : State) (f : BootRecord → BootRecord) : OnlyChanges [.update] (among bootRegs) s (s.writeBoot f) :=
  ((onlyChanges_refl s).modUpdate _ (by decide)).trans ((State.showBoot_changes _).mono (by decide) fun _ => id)

theorem State.writeBoot_boot {s : State} {b : BootRecord} (f : BootRecord → BootRecord) (h : s.update.boot = some b) :
    (s.writeBoot f).update.boot = some { f b with generation := (b.generation + 1) % 2 ^ 32 } := by
  have hkept : (s.writeBoot f).update = _ := (State.showBoot_changes (s.modUpdate _)).1 .update (by decide)
  rw [hkept]
  simp [h]

theorem State.writeBoot_address {s : State} {b : BootRecord} (f : BootRecord → BootRecord) (h : s.update.boot = some b) :
    (s.writeBoot f).reg .CHN_ADDRESS = (f b).address % 2 ^ 16 :=
  State.showBoot_address (b := { f b with generation := (b.generation + 1) % 2 ^ 32 }) (by simp [h])

/-! DISCOVER (R495, R496) -/

theorem State.discover_changes (s : State) : OnlyChanges [.chain] noRegs s s.discover :=
  ((((onlyChanges_refl s).modChain _ (by decide)).emit _).emit _).modChain _ (by decide)

theorem State.discover_sends (s : State) : ∃ o : List Octet, s.discover.out = s.out ++ [.chain 0 0xFFFFFFFFFFFF o, .chain 1 0xFFFFFFFFFFFF o] :=
  ⟨_, List.append_assoc ..⟩

/-- A unit that does not adopt asks no neighbour for its backup (R501). -/
theorem State.adoptAsk_of_not_adopting {s : State} (h : s.chain.adopting = false) : s.adoptAsk = s := by simp [State.adoptAsk, h]

/-! Addresses taken by a unit that holds none (R497, R498) -/

/-- An address written, confirmed and counted, its event not posted yet. -/
def State.addressWritten (s : State) (new : Nat) : State :=
  ((((s.writeBoot fun b => { b with address := new }).modChain fun c => { c with confirmed := true, conflictAt := none }).setReg .CHN_STATE
    2).setReg .CHN_ADDR_PROPOSED 0).count .CHNCNT_ADDRESS_CHANGES

theorem State.addressWritten_chain (s : State) (new : Nat) :
    (s.addressWritten new).chain = { s.chain with confirmed := true, conflictAt := none } := by
  have hwritten := s.writeBoot_changes fun b => { b with address := new }
  rw [State.addressWritten, State.count_chain, State.setReg_chain, State.setReg_chain, State.modChain_chain, hwritten.1 .chain (by decide)]

theorem State.addressWritten_out (s : State) (new : Nat) : (s.addressWritten new).out = s.out := by
  rw [State.addressWritten, State.count_out, State.setReg_out, State.setReg_out, State.modChain_out]
  exact State.showBoot_out _

theorem State.addressWritten_posted (s : State) (new : Nat) : (s.addressWritten new).posted ≤ s.posted + 1 := by
  refine (State.posted_count ..).trans_eq (congrArg (· + 1) (State.posted_of_drum ?_))
  rw [State.setReg_drum, State.setReg_drum, State.modChain_drum, (s.writeBoot_changes _).1 .drum (by decide)]

theorem State.addressWritten_boot {s : State} {b : BootRecord} (new : Nat) (hboot : s.update.boot = some b) :
    (s.addressWritten new).update.boot = some { b with address := new, generation := (b.generation + 1) % 2 ^ 32 } := by
  rw [State.addressWritten, State.count_update, State.setReg_update, State.setReg_update, State.modChain_update, State.writeBoot_boot _ hboot]

theorem State.addressWritten_changes (s : State) (new : Nat) : OnlyChanges [.chain, .update, .drum] (blocks [2, 14]) s (s.addressWritten new) := by
  have hwritten : OnlyChanges [.chain, .update, .drum] (blocks [2, 14]) s (s.writeBoot fun b => { b with address := new }) :=
    (s.writeBoot_changes _).mono (by decide) fun r hr => by
      simp only [bootRegs, among_iff, List.mem_cons, List.not_mem_nil, or_false] at hr
      obtain rfl | rfl | rfl | rfl | rfl := hr <;> decide
  exact (((hwritten.modChain _ (by decide)).setReg _ _ (by decide) (by decide)).setReg _ _ (by decide) (by decide)).count _ _ (by decide)
    (by decide) (by decide)

/-- A unit that holds no address and does not adopt takes an address, posts it and sends DISCOVER. -/
theorem State.takeAddress_of_none {s : State} (new kind : Nat) (hadopting : s.chain.adopting = false) (hnone : s.reg .CHN_ADDRESS = 0) :
    s.takeAddress new kind = ((s.addressWritten new).post 0xE001 2 (new + kind * 65536)).discover := by
  let posted := (s.addressWritten new).post 0xE001 2 (new + kind * 65536)
  have hkept : posted.discover.chain.adopting = false := by
    have hchain : posted.chain = { s.chain with confirmed := true, conflictAt := none } := (State.post_chain ..).trans (s.addressWritten_chain new)
    exact (congrArg Chain.adopting hchain).trans hadopting
  have hnone' : s.address = 0 := hnone
  simp only [State.takeAddress, hnone', if_true]
  exact State.adoptAsk_of_not_adopting hkept

/-- What taking an address leaves: the boot record holds it, it is shown and counted, and its event is the last one posted. -/
structure TakesAddress (new kind : Nat) (b : BootRecord) (s t : State) : Prop where
  changes : OnlyChanges [.chain, .update, .drum] (blocks [2, 14]) s t
  address : t.reg .CHN_ADDRESS = new
  state : t.reg .CHN_STATE = 2
  proposed : t.reg .CHN_ADDR_PROPOSED = 0
  taken : t.reg .CHNCNT_ADDRESS_CHANGES = (s.reg .CHNCNT_ADDRESS_CHANGES + 1) % 2 ^ 32
  boot : t.update.boot = some { b with address := new, generation := (b.generation + 1) % 2 ^ 32 }
  confirmed : t.chain.confirmed = true
  posted : ∃ v : State, v.posted ≤ s.posted + 1 ∧ t.drum = (v.post 0xE001 2 (new + kind * 65536)).drum

theorem State.takeAddress_takesAddress {s : State} {b : BootRecord} {new : Nat} (kind : Nat) (hboot : s.update.boot = some b)
    (hadopting : s.chain.adopting = false) (hnone : s.reg .CHN_ADDRESS = 0) (hnew : new < 65536) :
    TakesAddress new kind b s (s.takeAddress new kind) := by
  let written := s.addressWritten new
  let posted := written.post 0xE001 2 (new + kind * 65536)
  have hreg : ∀ r, posted.discover.reg r = (s.addressWritten new).reg r := fun r => State.reg_post_low _ _ _ _ _ (by decide)
  rw [State.takeAddress_of_none new kind hadopting hnone]
  exact {
    changes := ((s.addressWritten_changes new).post _ _ _ (by decide) (by decide)).trans
      (posted.discover_changes.mono (by decide) fun r hr => by cases hr)
    address := by
      rw [hreg, State.addressWritten, State.reg_count_other _ _ _ _ (by decide) (by decide), State.reg_setReg_key _ _ _ _ (by decide),
        State.reg_setReg_key _ _ _ _ (by decide), State.modChain_reg, State.writeBoot_address _ hboot]
      exact Nat.mod_eq_of_lt hnew
    state := by
      rw [hreg, State.addressWritten, State.reg_count_other _ _ _ _ (by decide) (by decide), State.reg_setReg_key _ _ _ _ (by decide),
        State.reg_setReg_same _ _ _ (by decide)]
      rfl
    proposed := by
      rw [hreg, State.addressWritten, State.reg_count_other _ _ _ _ (by decide) (by decide), State.reg_setReg_same _ _ _ (by decide)]
      exact Nat.zero_mod _
    taken := by
      rw [hreg, State.addressWritten, State.reg_count_same _ _ _ (by decide) (by decide), State.reg_setReg_key _ _ _ _ (by decide),
        State.reg_setReg_key _ _ _ _ (by decide), State.modChain_reg, (s.writeBoot_changes _).2 _ (by decide) (by decide)]
      rfl
    boot := by rw [posted.discover_changes.1 .update (by decide), State.post_update, State.addressWritten_boot _ hboot]
    confirmed := congrArg Chain.confirmed ((State.post_chain ..).trans (s.addressWritten_chain new))
    posted := ⟨written, s.addressWritten_posted new, posted.discover_changes.1 .drum (by decide)⟩ }

theorem TakesAddress.reply {new kind : Nat} {b : BootRecord} {s t : State} (h : TakesAddress new kind b s t) (n : Nat) :
    TakesAddress new kind b s (t.reply n) :=
  { h with changes := h.changes.emit _ }

/-- An address taken by a unit that holds none is told to both neighbours at once (R496). -/
theorem State.takeAddress_sends {s : State} (new kind : Nat) (hadopting : s.chain.adopting = false) (hnone : s.reg .CHN_ADDRESS = 0) :
    (s.takeAddress new kind).out.length = s.out.length + 2 := by
  obtain ⟨o, ho⟩ := ((s.addressWritten new).post 0xE001 2 (new + kind * 65536)).discover_sends
  rw [State.takeAddress_of_none new kind hadopting hnone, ho, State.post_out, State.addressWritten_out, List.length_append]; rfl

/-- Offered an address it can hold, a unit without one takes it. -/
theorem State.offerAddress_of_none {s : State} {new : Nat} (kind : Nat) (hnone : s.reg .CHN_ADDRESS = 0) (hnew : 0 < new) :
    s.offerAddress new kind = s.takeAddress new kind := by
  have hnone' : s.address = 0 := hnone
  rw [State.offerAddress, hnone', if_neg (by omega), if_neg (by simp)]

/-- What a command leaves that takes an address after it has changed the chain only. -/
theorem TakesAddress.ended {new kind dt : Nat} {b : BootRecord} {s mid u : State} (h : TakesAddress new kind b mid u)
    (hmid : OnlyChanges [.chain] noRegs (s.elapse dt) mid) (htakes : Takes s 2) :
    (Machine.ended s dt u).reg .CHN_ADDRESS = new ∧ (Machine.ended s dt u).reg .CHN_STATE = 2 ∧
      (Machine.ended s dt u).reg .CHNCNT_ADDRESS_CHANGES = (s.reg .CHNCNT_ADDRESS_CHANGES + 1) % 2 ^ 32 ∧
      (Machine.ended s dt u).update.boot = some { b with address := new, generation := (b.generation + 1) % 2 ^ 32 } ∧
      (Machine.ended s dt u).chain.confirmed = true ∧ Posted (Machine.ended s dt u) 0xE001 2 (new + kind * 65536) ∧
      OnlyChanges [.chain, .update, .drum, .log] (andDrum (blocks [2, 14])) (s.elapse dt) (Machine.ended s dt u) := by
  obtain ⟨hquiet, hmin⟩ := htakes
  obtain ⟨v, hfew, hdrum⟩ := h.posted
  have hnothing : mid.posted = 0 := (State.posted_of_drum (hmid.1 .drum (by decide))).trans (State.posted_of_quiet dt hquiet)
  have hchanges : OnlyChanges [.chain, .update, .drum, .log] (blocks [2, 14]) (s.elapse dt) u :=
    (hmid.mono (by decide) fun r hr => by cases hr).trans (h.changes.mono (by decide) fun _ => id)
  refine ⟨?_, ?_, ?_, ?_, ?_, posted_ended_last hdrum (by omega) (.inl ?_), hchanges.ended (by decide) (by decide)⟩
  · rw [ended_reg _ _ _ _ (by decide) (by decide), h.address]
  · rw [ended_reg _ _ _ _ (by decide) (by decide), h.state]
  · rw [ended_reg _ _ _ _ (by decide) (by decide), h.taken, hmid.2 _ (by decide) rfl]; rfl
  · rw [ended_update, h.boot]
  · rw [ended_chain, h.confirmed]
  · rwa [hchanges.2 .DRM_MIN_PRIORITY (by decide) (by decide)]

/-! What the chain keeps of a word of CHAIN_IN and of a DISCOVER (R493, R496) -/

/-- A valid word of CHAIN_IN as it is kept, of an upstream unit that is not in Keep. -/
def State.keepWord (s : State) (word : Nat) : State := s.modChain fun c => { c with
  word := some ⟨bitOf word 59, false, bitOf word 57, field word 55 48, field word 47 40, field word 39 8⟩, wordAt := s.ticks, idle := false,
  keepSeen := (false, c.keepSeen.2) }

/-- What a unit holds of a DISCOVER it heard. -/
def heardOf (h : ChainHead) (flags chain profile generation at_ : Nat) : Heard :=
  ⟨h.netb, h.address, h.sender, bitOf flags 0, chain, profile, generation, h.mac, at_⟩

/-- A DISCOVER kept among those heard (R496). -/
def State.keepHeard (s : State) (x : Heard) : State :=
  s.modChain fun c => { c with heard := (x :: c.heard.filter fun y => !(y.netb == x.netb && y.sender == x.sender)).take 16 }

end Sys2Proof.Machine

namespace Sys2Proof.Proofs

open Machine

/-! CHAIN_IN, DISCOVER, DISCOVER_BACK, CHN_ADDR_ACCEPT and CONFLICT_CLEAR (R492 to R498) -/

theorem exec_chainInWord (dt word : Nat) (s : State) : exec (.chainInWord dt word) s = execChainInWord dt word s := rfl
theorem exec_chainInIdle (dt : Nat) (s : State) : exec (.chainInIdle dt) s = execChainInIdle dt s := rfl
theorem exec_discoverSend (dt : Nat) (s : State) : exec (.discoverSend dt) s = execDiscoverSend dt s := rfl
theorem exec_chainDiscover (dt chain flags profile generation : Nat) (h : ChainHead) (s : State) :
    exec (.chainDiscover dt h chain flags profile generation) s = execChainDiscover dt h chain flags profile generation s := rfl
theorem exec_discoverBack (dt euiLow address : Nat) (h : ChainHead) (s : State) :
    exec (.discoverBack dt h euiLow address) s = execDiscoverBack dt h euiLow address s := rfl
theorem exec_discoverBackSend (dt : Nat) (s : State) : exec (.discoverBackSend dt) s = execDiscoverBackSend dt s := rfl
theorem exec_chnAddrAccept (dt who value : Nat) (s : State) : exec (.chnAddrAccept dt who value) s = execChnAddrAccept dt who value s := rfl
theorem exec_conflictClear (dt : Nat) (s : State) : exec (.conflictClear dt) s = execConflictClear dt s := rfl

/-- A valid word of CHAIN_IN is kept, and the address it leads to is judged. -/
theorem completes_of_chainWord {dt word : Nat} {s u : State} {claim : State → State → Prop}
    (hvalid : field word 63 60 = 11 ∧ field word 7 0 = crcOf crc8 (beOctets 7 (word / 256))) (hkeep : bitOf word 58 = false)
    (heffect : ((begun s dt).keepWord word).follow = u) (hclaim : claim (s.elapse dt) (ended s dt u)) :
    Completes (.chainInWord dt word) s claim := by
  refine completes_of_effect (dt := dt) rfl (exec_chainInWord ..) ?_ hclaim
  have hcheck : ¬(field word 63 60 ≠ 11 ∨ field word 7 0 ≠ crcOf crc8 (beOctets 7 (word / 256))) := by
    rw [not_or, not_not, not_not]; exact hvalid
  rw [if_neg hcheck, ← heffect, hkeep]
  rfl

theorem chainInWord_keepsWord (dt word : Nat) (s : State) (hquiet : Quiet s)
    (hvalid : field word 63 60 = 11 ∧ field word 7 0 = crcOf crc8 (beOctets 7 (word / 256)))
    (hflags : bitOf word 59 = false ∧ bitOf word 58 = false) :
    Completes (.chainInWord dt word) s fun s0 t => t.chain =
        { s.chain with word := some ⟨false, false, bitOf word 57, field word 55 48, field word 47 40, field word 39 8⟩, wordAt := s.ticks + dt, idle := false, keepSeen := (false, s.chain.keepSeen.2) } ∧
      t.out = [] ∧ OnlyChanges [.chain] noRegs s0 t := by
  obtain ⟨hunaddressed, hkeep⟩ := hflags
  refine completes_of_chainWord (u := (begun s dt).keepWord word) hvalid hkeep ?_ ⟨?_, ?_, ?_⟩
  · simp [State.follow, State.keepWord, hunaddressed]
  · simp [State.keepWord, hunaddressed]
  · simp [State.keepWord]
  · exact ((onlyChanges_begun s dt).modChain _ (by decide)).ended_quiet hquiet

theorem chainInWord_takesAddress (dt word : Nat) (b : BootRecord) (s : State) (htakes : Takes s 2)
    (hvalid : field word 63 60 = 11 ∧ field word 7 0 = crcOf crc8 (beOctets 7 (word / 256)))
    (hflags : bitOf word 59 = true ∧ bitOf word 58 = false) (hboot : s.update.boot = some b) (hadopting : s.chain.adopting = false)
    (_hsessions : s.idp.sessions = []) (hnone : s.reg .CHN_ADDRESS = 0) (hposition : field word 47 40 < 255)
    (hheard : (s.chain.heard.any fun h => !h.netb && h.address == field word 55 48 * 256 + field word 47 40 &&
      h.sender % 2 ^ 32 == field word 39 8 && Nat.ble (s.ticks + dt) (h.heardAt + msTicks 2000)) = true) :
    Completes (.chainInWord dt word) s fun s0 t => t.reg .CHN_ADDRESS = field word 55 48 * 256 + field word 47 40 + 1 ∧ t.reg .CHN_STATE = 2 ∧
      t.reg .CHNCNT_ADDRESS_CHANGES = (s.reg .CHNCNT_ADDRESS_CHANGES + 1) % 2 ^ 32 ∧ t.update.boot = some
        { b with address := field word 55 48 * 256 + field word 47 40 + 1, generation := (b.generation + 1) % 2 ^ 32 } ∧
      t.chain.confirmed = true ∧ Posted t 0xE001 2 (field word 55 48 * 256 + field word 47 40 + 1 + 1 * 65536) ∧ t.out.length = 2 ∧
      OnlyChanges [.chain, .update, .drum, .log] (andDrum (blocks [2, 14])) s0 t := by
  obtain ⟨haddressed, hkeep⟩ := hflags
  let new := field word 55 48 * 256 + field word 47 40 + 1
  let kept := (begun s dt).keepWord word
  let mid := kept.modChain fun c => { c with endSeen := false }
  have hchain : field word 55 48 < 256 := Nat.mod_lt _ (by decide)
  have hmid : OnlyChanges [.chain] noRegs (s.elapse dt) mid := ((onlyChanges_begun s dt).modChain _ (by decide)).modChain _ (by decide)
  have htaken : TakesAddress new 1 b mid (mid.takeAddress new 1) := State.takeAddress_takesAddress 1 hboot hadopting hnone (by omega)
  obtain ⟨haddress, hstate, hcount, hrecord, hconfirmed, hposted, hchanges⟩ := htaken.ended hmid htakes
  have hheard' : (kept.chain.heard.any fun h => !h.netb && h.address == field word 55 48 * 256 + field word 47 40 &&
      h.sender % 2 ^ 32 == field word 39 8 && Nat.ble kept.ticks (h.heardAt + msTicks 2000)) = true := hheard
  have hfollow : kept.follow = mid.takeAddress new 1 := by
    have hword : kept.chain.word = some ⟨true, false, bitOf word 57, field word 55 48, field word 47 40, field word 39 8⟩ := by
      simp [kept, State.keepWord, haddressed]
    have hidle : kept.chain.idle = false := rfl
    rw [← State.offerAddress_of_none (s := mid) 1 hnone (Nat.succ_pos _), State.follow, hword]
    simp only [hheard', hidle]
    rw [if_neg (by simp), if_neg (by omega)]
  refine completes_of_chainWord hvalid hkeep hfollow ⟨haddress, hstate, hcount, hrecord, hconfirmed, hposted, ?_, hchanges⟩
  rw [ended_out]
  exact State.takeAddress_sends new 1 hadopting hnone

theorem chainInWord_ignoresInvalid (dt word : Nat) (s : State) (hquiet : Quiet s)
    (hinvalid : field word 63 60 ≠ 11 ∨ field word 7 0 ≠ crcOf crc8 (beOctets 7 (word / 256))) :
    Completes (.chainInWord dt word) s fun s0 t => t.out = [] ∧ OnlyChanges [] noRegs s0 t :=
  completes_of_effect (dt := dt) rfl (exec_chainInWord ..) (if_pos hinvalid) ⟨ended_out .., (onlyChanges_begun s dt).ended_quiet hquiet⟩

theorem chainInIdle_marksIdle (dt : Nat) (s : State) (hquiet : Quiet s) (hbusy : s.chain.idle = false)
    (hdue : s.chain.wordAt + 262144 ≤ s.ticks + dt) :
    Completes (.chainInIdle dt) s fun s0 t => t.chain = { s.chain with idle := true, wordAt := s.ticks + dt } ∧ t.out = [] ∧
      OnlyChanges [.chain] noRegs s0 t :=
  completes_of_effect (dt := dt) rfl (exec_chainInIdle ..) (if_pos ⟨hbusy, hdue⟩)
    ⟨ended_chain .., ended_out .., ((onlyChanges_begun s dt).modChain _ (by decide)).ended_quiet hquiet⟩

theorem discoverSend_casts (dt : Nat) (s : State) (hquiet : Quiet s) (haddress : s.address ≠ 0)
    (hdue : s.chain.discoverAt + msTicks (s.reg .CHN_DISCOVER_MS) ≤ s.ticks + dt) :
    Completes (.discoverSend dt) s fun s0 t => t.out = [.chain 0 0xFFFFFFFFFFFF (s0.chainOctets 0x01 0 (leOctets 1 (s.address / 256) ++
        leOctets 1 ((if s.firmwareRuns then 0 else 2) + (if s.reg .UPD_STATE = 0 then 0 else 4)) ++ s.profileWord ++
        leOctets 4 (s.reg .UPD_RUNNING_SEQ))).1, .chain 1 0xFFFFFFFFFFFF (s0.chainOctets 0x01 0 (leOctets 1 (s.address / 256) ++
        leOctets 1 ((if s.firmwareRuns then 0 else 2) + (if s.reg .UPD_STATE = 0 then 0 else 4)) ++ s.profileWord ++
        leOctets 4 (s.reg .UPD_RUNNING_SEQ))).1] ∧ t.chain.discoverAt = s.ticks + dt ∧ OnlyChanges [.chain] noRegs s0 t := by
  have hchanges : OnlyChanges [.chain] noRegs (s.elapse dt) (begun s dt).discover := (onlyChanges_begun s dt).trans (State.discover_changes _)
  refine completes_of_effect (dt := dt) rfl (exec_discoverSend ..) (if_pos ⟨haddress, hdue⟩) ⟨?_, ?_, hchanges.ended_quiet hquiet⟩
  · rw [ended_out]; rfl
  · rw [ended_chain]; rfl

/-- A DISCOVER from upstream, where no word of CHAIN_IN names its sender, moves no neighbour: a conflict is judged, then an address. -/
theorem completes_of_discover {dt chain flags profile generation : Nat} {h : ChainHead} {s judged u : State} {claim : State → State → Prop}
    (hok : h.checkOk = true ∧ h.netb = false) (hsilent : s.chain.word = none ∨ s.chain.idle = true)
    (hjudged : ((begun s dt).keepHeard (heardOf h flags chain profile generation (s.ticks + dt))).conflictHeard
      (heardOf h flags chain profile generation (s.ticks + dt)) = judged)
    (heffect : (if bitOf flags 0 ∧ judged.idleFor 1000 then judged.offerAddress (chain % 256 * 256 + 1) 0 else judged.follow) = u)
    (hclaim : claim (s.elapse dt) (ended s dt u)) : Completes (.chainDiscover dt h chain flags profile generation) s claim := by
  obtain ⟨hcheck, hup⟩ := hok
  let x := heardOf h flags chain profile generation (s.ticks + dt)
  let kept := (begun s dt).keepHeard x
  have hupstream : kept.upstreamHeard x = kept := by
    have hword : kept.chain.word = s.chain.word := rfl
    have hidle : kept.chain.idle = s.chain.idle := rfl
    unfold State.upstreamHeard
    rw [hword, hidle]
    obtain hnone | hidle := hsilent
    · rw [hnone]
    · rw [hidle]; split <;> simp
  have hdownstream : kept.downstreamHeard x (bitOf flags 1) = kept := if_neg fun ⟨hnetb, _⟩ => by
    have hnetb' : h.netb = true := hnetb
    simp [hup] at hnetb'
  refine completes_of_effect (dt := dt) rfl (exec_chainDiscover ..) ?_ hclaim
  have hs2 : ((kept.upstreamHeard x).downstreamHeard x (bitOf flags 1)).conflictHeard x = judged := by rw [hupstream, hdownstream]; exact hjudged
  rw [State.chainMessage, if_pos hcheck, ← heffect, ← hs2]
  exact if_congr (and_congr_right fun _ => and_iff_right hup) rfl rfl

/-- The unit's own address does not conflict where another is named, or none. -/
theorem State.conflictHeard_of_other {s : State} {x : Heard} (h : x.address = 0 ∨ x.address ≠ s.address) : s.conflictHeard x = s :=
  if_pos (by tauto)

theorem chainDiscover_keepsHeard (dt chain flags profile generation : Nat) (h : ChainHead) (s : State) (hquiet : Quiet s)
    (hok : h.checkOk = true ∧ h.netb = false) (hword : s.chain.word = none) (hfeed : bitOf flags 0 = false)
    (hother : h.address = 0 ∨ h.address ≠ s.address) :
    Completes (.chainDiscover dt h chain flags profile generation) s fun s0 t => t.chain =
        { s.chain with heard := ((⟨h.netb, h.address, h.sender, bitOf flags 0, chain, profile, generation, h.mac, s.ticks + dt⟩ : Heard) :: s.chain.heard.filter fun y => !(y.netb == h.netb && y.sender == h.sender)).take 16 } ∧
      t.out = [] ∧ OnlyChanges [.chain] noRegs s0 t := by
  let kept := (begun s dt).keepHeard (heardOf h flags chain profile generation (s.ticks + dt))
  have hword' : kept.chain.word = none := hword
  refine completes_of_discover (u := kept) hok (.inl hword) (State.conflictHeard_of_other hother) ?_ ⟨?_, ?_, ?_⟩
  · rw [if_neg (by simp [hfeed]), State.follow, hword']
  · rw [ended_chain]; rfl
  · rw [ended_out]; rfl
  · exact ((onlyChanges_begun s dt).modChain _ (by decide)).ended_quiet hquiet

theorem chainDiscover_findsConflict (dt chain flags profile generation : Nat) (h : ChainHead) (s : State) (htakes : Takes s 5)
    (hok : h.checkOk = true ∧ h.netb = false) (hword : s.chain.word = none) (hfeed : bitOf flags 0 = false)
    (hown : h.address ≠ 0 ∧ h.address = s.address ∧ h.sender ≠ s.unit.eui64) (hnew : s.reg .CHN_STATE ≠ 3) :
    Completes (.chainDiscover dt h chain flags profile generation) s fun s0 t => t.reg .CHN_STATE = 3 ∧
      t.chain.conflictAt = some (s.ticks + dt) ∧ t.reg .CHNCNT_CONFLICTS = (s.reg .CHNCNT_CONFLICTS + 1) % 2 ^ 32 ∧
      Posted t 0xE003 5 (h.address + h.sender % 2 ^ 26 * 65536) ∧ t.out = [] ∧
      OnlyChanges [.chain, .drum, .log] (andDrum (among [.CHN_STATE, .CHNCNT_CONFLICTS])) s0 t := by
  obtain ⟨hquiet, hmin⟩ := htakes
  obtain ⟨hset, hsame, hsender⟩ := hown
  let x := heardOf h flags chain profile generation (s.ticks + dt)
  let shown := (((begun s dt).keepHeard x).modChain fun c => { c with conflictAt := some (s.ticks + dt) }).setReg .CHN_STATE 3
  let counted := shown.count .CHNCNT_CONFLICTS
  let u := counted.post 0xE003 5 (h.address + h.sender % 2 ^ 26 * 65536)
  have hchanges : OnlyChanges [.chain, .drum, .log] (among [.CHN_STATE, .CHNCNT_CONFLICTS]) (s.elapse dt) u :=
    (((((onlyChanges_begun s dt).modChain _ (by decide)).modChain _ (by decide)).setReg .CHN_STATE _ (by decide) (by decide)).count _ _ (by decide)
      (by decide) (by decide)).post _ _ _ (by decide) (by decide)
  have hchain : u.chain = { ((begun s dt).keepHeard x).chain with conflictAt := some (s.ticks + dt) } := by
    rw [State.post_chain, State.count_chain, State.setReg_chain]; rfl
  have hjudged : ((begun s dt).keepHeard x).conflictHeard x = u := by
    have hown : ¬(x.address = 0 ∨ x.address ≠ ((begun s dt).keepHeard x).address ∨ x.sender = s.unit.eui64) :=
      fun hx => hx.elim hset fun hx => hx.elim (fun hne => hne hsame) hsender
    exact (if_neg hown).trans (if_neg hnew)
  refine completes_of_discover hok (.inl hword) hjudged (u := u) ?_ ⟨?_, ?_, ?_, ?_, ?_, hchanges.ended (by decide) (by decide)⟩
  · have hword' : u.chain.word = none := (congrArg Chain.word hchain).trans hword
    rw [if_neg (by simp [hfeed]), State.follow, hword']
  · rw [ended_reg _ _ _ _ (by decide) (by decide), State.reg_post_low _ _ _ _ _ (by decide), State.reg_count_other _ _ _ _ (by decide) (by decide),
      State.reg_setReg_same _ _ _ (by decide)]
    rfl
  · rw [ended_chain, hchain]
  · rw [ended_reg _ _ _ _ (by decide) (by decide), State.reg_post_low _ _ _ _ _ (by decide), State.reg_count_same _ _ _ (by decide) (by decide),
      State.reg_setReg_key _ _ _ _ (by decide)]
    rfl
  · refine posted_ended_last (v := counted) rfl ?_ (.inl ?_)
    · have hnone : shown.posted = 0 := (State.posted_of_drum (State.setReg_drum ..)).trans (State.posted_of_quiet dt hquiet)
      have hcount : counted.posted ≤ shown.posted + 1 := State.posted_count ..
      omega
    · rwa [hchanges.2 .DRM_MIN_PRIORITY (by decide) (by decide)]
  · rw [ended_out, State.post_out, State.count_out, State.setReg_out]; rfl

theorem chainDiscover_takesFirst (dt chain flags profile generation : Nat) (h : ChainHead) (b : BootRecord) (s : State) (htakes : Takes s 2)
    (hok : h.checkOk = true ∧ h.netb = false) (hfeed : bitOf flags 0 = true) (hchain : chain < 256) (hboot : s.update.boot = some b)
    (hadopting : s.chain.adopting = false) (_hsessions : s.idp.sessions = []) (hnone : s.reg .CHN_ADDRESS = 0)
    (hidle : s.chain.idle = true ∧ s.chain.wordAt + msTicks 1000 ≤ s.ticks + dt) :
    Completes (.chainDiscover dt h chain flags profile generation) s fun s0 t => t.reg .CHN_ADDRESS = chain * 256 + 1 ∧ t.reg .CHN_STATE = 2 ∧
      t.reg .CHNCNT_ADDRESS_CHANGES = (s.reg .CHNCNT_ADDRESS_CHANGES + 1) % 2 ^ 32 ∧
      t.update.boot = some { b with address := chain * 256 + 1, generation := (b.generation + 1) % 2 ^ 32 } ∧ t.chain.confirmed = true ∧
      Posted t 0xE001 2 (chain * 256 + 1 + 0 * 65536) ∧ t.out.length = 2 ∧
      OnlyChanges [.chain, .update, .drum, .log] (andDrum (blocks [2, 14])) s0 t := by
  obtain ⟨hquiet, hlong⟩ := hidle
  let mid := (begun s dt).keepHeard (heardOf h flags chain profile generation (s.ticks + dt))
  have hmid : OnlyChanges [.chain] noRegs (s.elapse dt) mid := (onlyChanges_begun s dt).modChain _ (by decide)
  have htaken : TakesAddress (chain * 256 + 1) 0 b mid (mid.takeAddress (chain * 256 + 1) 0) :=
    State.takeAddress_takesAddress 0 hboot hadopting hnone (by omega)
  obtain ⟨haddress, hstate, hcount, hrecord, hconfirmed, hposted, hchanges⟩ := htaken.ended hmid htakes
  have hother : h.address = 0 ∨ h.address ≠ mid.address := by
    have hnone' : mid.address = 0 := hnone
    omega
  have hidle : mid.idleFor 1000 = true := by
    have hidle' : mid.chain.idle = true := hquiet
    rw [State.idleFor, hidle', Bool.true_and]
    exact Nat.ble_eq_true_of_le hlong
  refine completes_of_discover hok (.inr hquiet) (State.conflictHeard_of_other hother) ?_
    ⟨haddress, hstate, hcount, hrecord, hconfirmed, hposted, ?_, hchanges⟩
  · rw [if_pos ⟨hfeed, hidle⟩, Nat.mod_eq_of_lt hchain, State.offerAddress_of_none (s := mid) 0 hnone (Nat.succ_pos _)]
  · rw [ended_out]
    exact State.takeAddress_sends _ 0 hadopting hnone

theorem discoverBack_takesOffered (dt euiLow address : Nat) (h : ChainHead) (b : BootRecord) (s : State) (htakes : Takes s 2)
    (hok : h.checkOk = true ∧ h.netb = true) (hself : euiLow = s.unit.eui64 % 2 ^ 32) (hboot : s.update.boot = some b)
    (hadopting : s.chain.adopting = false) (_hsessions : s.idp.sessions = [])
    (haddress : s.reg .CHN_ADDRESS = 0 ∧ 0 < address ∧ address < 65536)
    (hidle : s.chain.idle = true ∧ s.chain.wordAt + msTicks 2000 ≤ s.ticks + dt) :
    Completes (.discoverBack dt h euiLow address) s fun s0 t => t.reg .CHN_ADDRESS = address ∧ t.reg .CHN_STATE = 2 ∧
      t.reg .CHNCNT_ADDRESS_CHANGES = (s.reg .CHNCNT_ADDRESS_CHANGES + 1) % 2 ^ 32 ∧
      t.update.boot = some { b with address := address, generation := (b.generation + 1) % 2 ^ 32 } ∧ t.chain.confirmed = true ∧
      Posted t 0xE001 2 (address + 2 * 65536) ∧ t.out.length = 2 ∧
      OnlyChanges [.chain, .update, .drum, .log] (andDrum (blocks [2, 14])) s0 t := by
  obtain ⟨hcheck, hbehind⟩ := hok
  obtain ⟨hnone, hpositive, hwidth⟩ := haddress
  obtain ⟨hquiet, hlong⟩ := hidle
  have htaken : TakesAddress address 2 b (begun s dt) ((begun s dt).takeAddress address 2) :=
    State.takeAddress_takesAddress 2 hboot hadopting hnone hwidth
  obtain ⟨haddress, hstate, hcount, hrecord, hconfirmed, hposted, hchanges⟩ := htaken.ended (onlyChanges_begun s dt) htakes
  have hidle : (begun s dt).idleFor 2000 = true := by
    rw [State.idleFor, begun_chain, hquiet, Bool.true_and]
    exact Nat.ble_eq_true_of_le hlong
  refine completes_of_effect (dt := dt) rfl (exec_discoverBack ..) ?_ ⟨haddress, hstate, hcount, hrecord, hconfirmed, hposted, ?_, hchanges⟩
  · rw [State.chainMessage, if_pos hcheck, ← State.offerAddress_of_none (s := begun s dt) 2 hnone hpositive]
    exact if_pos ⟨hbehind, hself, hnone, hidle⟩
  · rw [ended_out]
    exact State.takeAddress_sends _ 2 hadopting hnone

theorem discoverBackSend_offers (dt : Nat) (w : ChainWord) (s : State) (hquiet : Quiet s) (hword : s.chain.word = some w)
    (hposition : 2 ≤ s.address % 256) (hup : s.chain.idle = false ∧ w.addressed = false) (hheard : s.chain.heard = [])
    (hdue : s.chain.backAt + msTicks 1000 ≤ s.ticks + dt) :
    Completes (.discoverBackSend dt) s fun s0 t => t.out =
        [.chain 0 0xFFFFFFFFFFFF (s0.chainOctets 0x02 0 (leOctets 4 w.euiLow ++ leOctets 2 (s.address - 1))).1] ∧
      t.chain.backAt = s.ticks + dt ∧ OnlyChanges [.chain] noRegs s0 t := by
  obtain ⟨hidle, hunaddressed⟩ := hup
  let octets := (begun s dt).chainOctets 0x02 0 (leOctets 4 w.euiLow ++ leOctets 2 (s.address - 1))
  let u := (octets.2.emit (.chain 0 0xFFFFFFFFFFFF octets.1)).modChain fun c => { c with backAt := s.ticks + dt }
  have hchanges : OnlyChanges [.chain] noRegs (s.elapse dt) u :=
    (((onlyChanges_begun s dt).modChain _ (by decide)).emit _).modChain _ (by decide)
  refine completes_of_effect (dt := dt) (u := u) rfl (exec_discoverBackSend ..) ?_ ⟨?_, ?_, hchanges.ended_quiet hquiet⟩
  · have hword' : (begun s dt).chain.word = some w := hword
    have hsilent : ((begun s dt).chain.heard.any fun h => h.address == (begun s dt).address - 1 &&
        Nat.blt (begun s dt).ticks (h.heardAt + msTicks 2000)) = false := by rw [begun_chain, hheard]; rfl
    simp only [hword', hsilent]
    exact if_pos ⟨hposition, hidle, hunaddressed, trivial, hdue⟩
  · rw [ended_out]; rfl
  · rw [ended_chain]; rfl

theorem chnAddrAccept_takesProposed (dt who : Nat) (b : BootRecord) (s : State) (htakes : Takes s 2) (hwho : 1 ≤ (s.elapse dt).levelOf who)
    (hboot : s.update.boot = some b) (hadopting : s.chain.adopting = false) (_hsessions : s.idp.sessions = [])
    (hproposed : 0 < s.reg .CHN_ADDR_PROPOSED ∧ s.reg .CHN_ADDR_PROPOSED < 65536) (hnone : s.reg .CHN_ADDRESS = 0) :
    Completes (.chnAddrAccept dt who 1) s fun s0 t => t.reg .CHN_ADDRESS = s.reg .CHN_ADDR_PROPOSED ∧ t.reg .CHN_STATE = 2 ∧
      t.reg .CHNCNT_ADDRESS_CHANGES = (s.reg .CHNCNT_ADDRESS_CHANGES + 1) % 2 ^ 32 ∧
      t.update.boot = some { b with address := s.reg .CHN_ADDR_PROPOSED, generation := (b.generation + 1) % 2 ^ 32 } ∧
      t.chain.confirmed = true ∧ Posted t 0xE001 2 (s.reg .CHN_ADDR_PROPOSED + s.chain.proposedCase * 65536) ∧
      t.reg .CHN_ADDR_PROPOSED = 0 ∧ t.out.getLast? = some (.reply 0) ∧
      OnlyChanges [.chain, .update, .drum, .log] (andDrum (blocks [2, 14])) s0 t := by
  obtain ⟨hpositive, hwidth⟩ := hproposed
  have htaken : TakesAddress (s.reg .CHN_ADDR_PROPOSED) s.chain.proposedCase b (begun s dt)
      (((begun s dt).takeAddress (s.reg .CHN_ADDR_PROPOSED) s.chain.proposedCase).reply 0) :=
    (State.takeAddress_takesAddress (s := begun s dt) _ hboot hadopting hnone hwidth).reply 0
  obtain ⟨haddress, hstate, hcount, hrecord, hconfirmed, hposted, hchanges⟩ := htaken.ended (onlyChanges_begun s dt) htakes
  refine completes_of_effect (dt := dt) rfl (exec_chnAddrAccept ..) ?_
    ⟨haddress, hstate, hcount, hrecord, hconfirmed, hposted, ?_, ?_, hchanges⟩
  · rw [State.asWriter_of_level (s := begun s dt) (l := 1) _ (by decide) hwho, State.addrAccept, if_neg (by decide), begun_reg,
      if_neg (Nat.ne_of_gt hpositive), begun_chain]
  · rw [ended_reg _ _ _ _ (by decide) (by decide), htaken.proposed]
  · rw [ended_out, State.reply_out, List.getLast?_append]; rfl

theorem chnAddrAccept_refuses (dt who : Nat) (s : State) (hquiet : Quiet s) (hwho : 1 ≤ (s.elapse dt).levelOf who)
    (hproposed : s.reg .CHN_ADDR_PROPOSED = 0) :
    Completes (.chnAddrAccept dt who 1) s fun s0 t => t.out = [.reply 15] ∧ OnlyChanges [] noRegs s0 t := by
  refine completes_of_effect (dt := dt) (u := (begun s dt).reply 15) rfl (exec_chnAddrAccept ..) ?_ (ended_reply hquiet 15)
  rw [State.asWriter_of_level (s := begun s dt) (l := 1) _ (by decide) hwho, State.addrAccept, if_neg (by decide), begun_reg, if_pos hproposed]

theorem conflictClear_ends (dt e : Nat) (s : State) (hquiet : Quiet s) (hconflict : s.chain.conflictAt = some e)
    (hdue : e + msTicks 5000 ≤ s.ticks + dt) :
    Completes (.conflictClear dt) s fun s0 t => t.chain = { s.chain with conflictAt := none } ∧
      t.reg .CHN_STATE = (if s.chain.confirmed then 2 else 1) ∧ t.out = [] ∧ OnlyChanges [.chain] (among [.CHN_STATE]) s0 t := by
  let ended_ := (begun s dt).modChain fun c => { c with conflictAt := none }
  let u := ended_.setReg .CHN_STATE (if s.chain.confirmed then 2 else 1)
  have hchanges : OnlyChanges [.chain] (among [.CHN_STATE]) (s.elapse dt) u :=
    ((onlyChanges_begun s dt).modChain _ (by decide)).setReg .CHN_STATE _ (by decide) (by decide)
  have hquiet' : Quiet u := quiet_of_drum (State.setReg_drum ..) hquiet
  refine completes_of_effect (dt := dt) (u := u) rfl (exec_conflictClear ..) ?_ ⟨?_, ?_, ?_, hchanges.ended_quiet hquiet'⟩
  · have hconflict' : (begun s dt).chain.conflictAt = some e := hconflict
    simp only [hconflict']
    exact if_pos hdue
  · rw [ended_chain, State.setReg_chain]; rfl
  · rw [ended_reg _ _ _ _ (by decide) (by decide), State.reg_setReg_same _ _ _ (by decide)]
    split <;> rfl
  · rw [ended_out, State.setReg_out]; rfl

/-- Settles O49, command by command. The four ways to an address (R497) all end in `State.takeAddress`, of which `TakesAddress` says once what it
leaves where the unit held none. -/
theorem chainAddressesAreFoundAndTaken : Obligations.ChainAddressesAreFoundAndTaken :=
  ⟨chainInWord_keepsWord, chainInWord_takesAddress, chainInWord_ignoresInvalid, chainInIdle_marksIdle, discoverSend_casts, chainDiscover_keepsHeard,
    chainDiscover_findsConflict, chainDiscover_takesFirst, discoverBack_takesOffered, discoverBackSend_offers, chnAddrAccept_takesProposed,
    chnAddrAccept_refuses, conflictClear_ends⟩

end Sys2Proof.Proofs


namespace Sys2Proof.Machine

/-! Transfers of a session started (R422, R423) -/

@[simp] theorem begun_brg (s : State) (dt who : Nat) : (begun s dt).brg who = s.brg who := rfl

@[simp] theorem State.reply_brg (s : State) (n who : Nat) : (s.reply n).brg who = s.brg who := rfl

/-- The purpose of a transfer of a session, by its operation. -/
def transferPurpose (op who : Nat) : TxPurpose := if op = 3 then .lock who else if op = 4 then .unlock who else .bridge who

/-- A transfer of a session queued for a module, with its operation, address, data and length. -/
def State.queueTransfer (s : State) (who op link module address : Nat) (data : List Octet) (len : Nat) : State :=
  (s.queueTxn link module op address data len (transferPurpose op who)).modBrgSession who fun b => { b with
    status := 1, transfer := some ⟨op, link, module, (s.link link).nextTag, false⟩, lock := if op = 3 then 1 else b.lock }

/-- A link that no other session has locked holds no transfer up (R425). -/
theorem State.brgHold_of_own {s : State} {link who : Nat} (hown : ∀ x, (s.link link).lock = some x → x.session = who) : s.brgHold link who = s := by
  unfold State.brgHold
  split
  next x hx => exact if_pos (hown x hx)
  next => rfl

/-- Where nothing stops it and no other session has locked its link, a transfer is queued and answered 0. -/
theorem State.brgStart_of_free {s : State} {who op link module address len : Nat} {data : List Octet} (hlink : link < s.spire.length)
    (hfree : s.brgStop link module = none) (hown : ∀ x, (s.link link).lock = some x → x.session = who) :
    s.brgStart who op link module address data len = (s.queueTransfer who op link module address data len).reply 0 := by
  have hqueued : ∀ purpose, (s.queueTxn link module op address data len purpose).brgHold link who =
      s.queueTxn link module op address data len purpose := fun purpose => by
    refine State.brgHold_of_own fun x hx => hown x ?_
    rwa [State.queueTxn, State.link_modLink_same hlink] at hx
  simp only [State.brgStart, hfree, hqueued]
  rfl

end Sys2Proof.Machine

namespace Sys2Proof.Proofs

open Machine

/-! BRG_READ, BRG_WRITE, BRG_LOCK, BRG_ABORT and BRG_PWE_CLEAR (R422 to R427) -/

theorem exec_brgRead (dt who : Nat) (s : State) : exec (.brgRead dt who) s = execBrgRead dt who s := rfl
theorem exec_brgWrite (dt who : Nat) (data : List Octet) (s : State) : exec (.brgWrite dt who data) s = execBrgWrite dt who data s := rfl
theorem exec_brgLockSet (dt who : Nat) (s : State) : exec (.brgLockSet dt who) s = execBrgLockSet dt who s := rfl
theorem exec_brgUnlock (dt who : Nat) (s : State) : exec (.brgUnlock dt who) s = execBrgUnlock dt who s := rfl
theorem exec_brgAbort (dt who value : Nat) (s : State) : exec (.brgAbort dt who value) s = execBrgAbort dt who value s := rfl
theorem exec_brgPweClear (dt who value : Nat) (s : State) : exec (.brgPweClear dt who value) s = execBrgPweClear dt who value s := rfl

/-- A command that starts a transfer puts one transaction with the next TAG behind those of the link, and the session waits on it. -/
theorem completes_of_brgStart {c : Instr} {dt who op link module address len : Nat} {data : List Octet} {f : State → State} {s : State}
    (hdt : c.dt = dt) (hexec : exec c s = run s dt f) (hquiet : Quiet s)
    (heffect : f (begun s dt) = (begun s dt).brgStart who op link module address data len) (hlink : s.spire.length = 64 ∧ link < 64)
    (hfree : s.brgStop link module = none) (hown : ∀ x, (s.link link).lock = some x → x.session = who) :
    Completes c s fun s0 t =>
      (t.link link).txns = (s.link link).txns ++ [(module, ⟨op, address, (s.link link).nextTag, len, data, transferPurpose op who⟩)] ∧
      t.brg who = { s.brg who with
        status := 1, transfer := some ⟨op, link, module, (s.link link).nextTag, false⟩, lock := if op = 3 then 1 else (s.brg who).lock } ∧
      t.out = [.reply 0] ∧ OnlyChanges [.bridge, .spire] noRegs s0 t := by
  obtain ⟨hlinks, hk⟩ := hlink
  have hk' : link < (begun s dt).spire.length := hk.trans_eq hlinks.symm
  let u := ((begun s dt).queueTransfer who op link module address data len).reply 0
  have hchanges : OnlyChanges [.bridge, .spire] noRegs (s.elapse dt) u :=
    (((onlyChanges_begun s dt).modLink _ _ (by decide)).modBrgSession _ _ (by decide)).emit _
  refine completes_of_effect (dt := dt) (u := u) hdt hexec ?_ ⟨?_, ?_, ended_out .., hchanges.ended_quiet hquiet⟩
  · rw [heffect, State.brgStart_of_free hk' hfree hown]
  · rw [ended_link]
    exact congrArg SpireLink.txns (State.link_modLink_same hk' _)
  · rw [ended_brg, State.reply_brg]
    exact State.brg_modBrgSession_same _ who fun _ => rfl

theorem brgRead_starts (dt who : Nat) (s : State) (hquiet : Quiet s) (hidle : (s.brg who).transfer = none)
    (hlink : s.spire.length = 64 ∧ (s.brg who).link < 64) (hunlocked : (s.link (s.brg who).link).lock = none)
    (hfree : s.brgStop (s.brg who).link (s.brg who).module = none) (hfits : (s.brg who).addr + (s.brg who).len ≤ 2 ^ 24) :
    Completes (.brgRead dt who) s fun s0 t => (t.link (s.brg who).link).txns = (s.link (s.brg who).link).txns ++
        [((s.brg who).module, ⟨2, (s.brg who).addr, (s.link (s.brg who).link).nextTag, (s.brg who).len, [], .bridge who⟩)] ∧
      (t.brg who).status = 1 ∧
      (t.brg who).transfer = some ⟨2, (s.brg who).link, (s.brg who).module, (s.link (s.brg who).link).nextTag, false⟩ ∧
      t.out = [.reply 0] ∧ OnlyChanges [.bridge, .spire] noRegs s0 t := by
  have heffect : (begun s dt).brgRead who =
      (begun s dt).brgStart who 2 (s.brg who).link (s.brg who).module (s.brg who).addr [] (s.brg who).len := by
    rw [State.brgRead, begun_brg, hidle]
    exact if_neg (Nat.not_lt.2 hfits)
  obtain ⟨t, hnext, htxns, hbrg, hout, hchanges⟩ := completes_of_brgStart (dt := dt) rfl (exec_brgRead ..) hquiet heffect hlink hfree
    fun x hx => by simp [hunlocked] at hx
  exact ⟨t, hnext, htxns, by rw [hbrg], by rw [hbrg], hout, hchanges⟩

theorem brgRead_waits (dt who : Nat) (s : State) (hquiet : Quiet s) (hbusy : (s.brg who).transfer ≠ none) :
    Completes (.brgRead dt who) s fun s0 t => t.out = [.reply 10] ∧ OnlyChanges [] noRegs s0 t :=
  completes_of_effect (dt := dt) rfl (exec_brgRead ..) (if_pos (Option.isSome_iff_ne_none.2 hbusy)) (ended_reply hquiet 10)

/-- The write of a session at level 1 that waits on no transfer is judged by its length and its place. -/
theorem brgWrite_effect {dt who : Nat} {data : List Octet} {s : State} (hwho : 1 ≤ (s.elapse dt).levelOf who)
    (hidle : (s.brg who).transfer = none) (hlength : data.length = (s.brg who).len) (hfits : (s.brg who).addr + (s.brg who).len ≤ 2 ^ 24) :
    ((begun s dt).asWriter who .BRG_WRITE fun s => s.brgWrite who data) =
      if 0x7FF000 < (s.brg who).addr + (s.brg who).len then ((begun s dt).modBrgSession who fun b => { b with status := 6 }).reply 6
      else (begun s dt).brgStart who 1 (s.brg who).link (s.brg who).module (s.brg who).addr data (s.brg who).len := by
  rw [State.asWriter_of_level (s := begun s dt) (l := 1) _ (by decide) hwho, State.brgWrite, begun_brg, hidle]
  exact (if_neg (by simp)).trans ((if_neg (not_not.2 hlength)).trans (if_neg (Nat.not_lt.2 hfits)))

theorem brgWrite_starts (dt who : Nat) (data : List Octet) (s : State) (hquiet : Quiet s) (hwho : 1 ≤ (s.elapse dt).levelOf who)
    (hidle : (s.brg who).transfer = none) (hlink : s.spire.length = 64 ∧ (s.brg who).link < 64)
    (hunlocked : (s.link (s.brg who).link).lock = none) (hfree : s.brgStop (s.brg who).link (s.brg who).module = none)
    (hlength : data.length = (s.brg who).len) (hopen : (s.brg who).addr + (s.brg who).len ≤ 0x7FF000) :
    Completes (.brgWrite dt who data) s fun s0 t => (t.link (s.brg who).link).txns = (s.link (s.brg who).link).txns ++
        [((s.brg who).module, ⟨1, (s.brg who).addr, (s.link (s.brg who).link).nextTag, (s.brg who).len, data, .bridge who⟩)] ∧
      (t.brg who).status = 1 ∧
      (t.brg who).transfer = some ⟨1, (s.brg who).link, (s.brg who).module, (s.link (s.brg who).link).nextTag, false⟩ ∧
      t.out = [.reply 0] ∧ OnlyChanges [.bridge, .spire] noRegs s0 t := by
  have heffect := (brgWrite_effect (dt := dt) hwho hidle hlength (by omega)).trans (if_neg (Nat.not_lt.2 hopen))
  obtain ⟨t, hnext, htxns, hbrg, hout, hchanges⟩ := completes_of_brgStart (dt := dt) rfl (exec_brgWrite ..) hquiet heffect hlink hfree
    fun x hx => by simp [hunlocked] at hx
  exact ⟨t, hnext, htxns, by rw [hbrg], by rw [hbrg], hout, hchanges⟩

theorem brgWrite_refusesProtected (dt who : Nat) (data : List Octet) (s : State) (hquiet : Quiet s) (hwho : 1 ≤ (s.elapse dt).levelOf who)
    (hidle : (s.brg who).transfer = none) (hlength : data.length = (s.brg who).len) (hprotected : 0x7FF000 < (s.brg who).addr + (s.brg who).len)
    (hfits : (s.brg who).addr + (s.brg who).len ≤ 2 ^ 24) :
    Completes (.brgWrite dt who data) s fun s0 t => (t.brg who).status = 6 ∧ t.out = [.reply 6] ∧ OnlyChanges [.bridge] noRegs s0 t := by
  refine completes_of_effect (dt := dt) rfl (exec_brgWrite ..) ((brgWrite_effect hwho hidle hlength hfits).trans (if_pos hprotected))
    ⟨?_, ended_out .., (((onlyChanges_begun s dt).modBrgSession _ _ (by decide)).emit _).ended_quiet hquiet⟩
  rw [ended_brg, State.reply_brg, State.brg_modBrgSession_same]
  exact fun _ => rfl

theorem brgLockSet_starts (dt who : Nat) (s : State) (hquiet : Quiet s) (hwho : 1 ≤ (s.elapse dt).levelOf who)
    (hidle : (s.brg who).transfer = none) (hlink : s.spire.length = 64 ∧ (s.brg who).link < 64)
    (hunlocked : (s.link (s.brg who).link).lock = none) (hfree : s.brgStop (s.brg who).link (s.brg who).module = none)
    (hnone : (s.brg who).lock = 0) :
    Completes (.brgLockSet dt who) s fun s0 t => (t.brg who).lock = 1 ∧ (t.link (s.brg who).link).txns = (s.link (s.brg who).link).txns ++
        [((s.brg who).module, ⟨3, 0, (s.link (s.brg who).link).nextTag, 0, [], .lock who⟩)] ∧
      (t.brg who).status = 1 ∧
      (t.brg who).transfer = some ⟨3, (s.brg who).link, (s.brg who).module, (s.link (s.brg who).link).nextTag, false⟩ ∧
      t.out = [.reply 0] ∧ OnlyChanges [.bridge, .spire] noRegs s0 t := by
  have heffect : ((begun s dt).asWriter who .BRG_LOCK fun s => s.brgLock who) =
      (begun s dt).brgStart who 3 (s.brg who).link (s.brg who).module 0 [] 0 := by
    rw [State.asWriter_of_level (s := begun s dt) (l := 1) _ (by decide) hwho, State.brgLock, begun_brg, hnone, hidle]
    rfl
  obtain ⟨t, hnext, htxns, hbrg, hout, hchanges⟩ := completes_of_brgStart (dt := dt) rfl (exec_brgLockSet ..) hquiet heffect hlink hfree
    fun x hx => by simp [hunlocked] at hx
  exact ⟨t, hnext, by rw [hbrg]; rfl, htxns, by rw [hbrg], by rw [hbrg], hout, hchanges⟩

theorem brgUnlock_starts (dt who : Nat) (s : State) (hquiet : Quiet s) (hwho : 1 ≤ (s.elapse dt).levelOf who)
    (hidle : (s.brg who).transfer = none) (hlink : s.spire.length = 64 ∧ (s.brg who).lockedLink < 64) (x : LinkLock)
    (hlock : x ∈ (s.link (s.brg who).lockedLink).lock.toList) (hown : x.session = who)
    (hfree : s.brgStop (s.brg who).lockedLink (s.brg who).lockedModule = none) (hheld : (s.brg who).lock = 2) :
    Completes (.brgUnlock dt who) s fun s0 t => (t.link (s.brg who).lockedLink).txns = (s.link (s.brg who).lockedLink).txns ++
        [((s.brg who).lockedModule, ⟨4, 0, (s.link (s.brg who).lockedLink).nextTag, 0, [], .unlock who⟩)] ∧
      (t.brg who).status = 1 ∧
      (t.brg who).transfer = some ⟨4, (s.brg who).lockedLink, (s.brg who).lockedModule, (s.link (s.brg who).lockedLink).nextTag, false⟩ ∧
      t.out = [.reply 0] ∧ OnlyChanges [.bridge, .spire] noRegs s0 t := by
  have heffect : ((begun s dt).asWriter who .BRG_LOCK fun s => s.brgUnlock who) =
      (begun s dt).brgStart who 4 (s.brg who).lockedLink (s.brg who).lockedModule 0 [] 0 := by
    rw [State.asWriter_of_level (s := begun s dt) (l := 1) _ (by decide) hwho, State.brgUnlock, begun_brg, hidle, hheld]
    rfl
  have hlock' : (s.link (s.brg who).lockedLink).lock = some x := Option.mem_toList.1 hlock
  obtain ⟨t, hnext, htxns, hbrg, hout, hchanges⟩ := completes_of_brgStart (dt := dt) rfl (exec_brgUnlock ..) hquiet heffect hlink hfree
    fun y hy => by rw [hlock'] at hy; exact Option.some.inj hy ▸ hown
  exact ⟨t, hnext, htxns, by rw [hbrg], by rw [hbrg], hout, hchanges⟩

/-- A write of 1 to BRG_ABORT at level 1 aborts. -/
theorem brgAbort_effect {dt who : Nat} {s : State} (hwho : 1 ≤ (s.elapse dt).levelOf who) :
    ((begun s dt).asWriter who .BRG_ABORT fun s => s.brgAbortWrite who 1) = (begun s dt).brgAbort who :=
  (State.asWriter_of_level (s := begun s dt) (l := 1) _ (by decide) hwho).trans (if_neg (by decide))

theorem brgAbort_takesOut (dt who : Nat) (x : BrgTransfer) (s : State) (hquiet : Quiet s) (hwho : 1 ≤ (s.elapse dt).levelOf who)
    (htransfer : (s.brg who).transfer = some x) (_hread : x.op = 2) (hlink : s.spire.length = 64 ∧ x.link < 64) :
    Completes (.brgAbort dt who 1) s fun s0 t => (t.brg who).status = 9 ∧ (t.brg who).transfer = none ∧
      (t.link x.link).txns = (s.link x.link).txns.filter (fun p => !(p.1 == x.module && p.2.tag == x.tag)) ∧ t.out = [.reply 0] ∧
      OnlyChanges [.bridge, .spire] noRegs s0 t := by
  obtain ⟨hlinks, hk⟩ := hlink
  have hk' : x.link < (begun s dt).spire.length := hk.trans_eq hlinks.symm
  have heffect : (begun s dt).brgAbort who = ((begun s dt).brgDrop who x).reply 0 := by rw [State.brgAbort, begun_brg, htransfer]
  have hbrg : ((begun s dt).brgDrop who x).brg who = _ := State.brg_modBrgSession_same _ who fun _ => rfl
  refine completes_of_effect (dt := dt) rfl (exec_brgAbort ..) ((brgAbort_effect hwho).trans heffect)
    ⟨?_, ?_, ?_, ended_out .., ((((onlyChanges_begun s dt).modLink _ _ (by decide)).modBrgSession _ _ (by decide)).emit _).ended_quiet hquiet⟩
  · rw [ended_brg]
    exact congrArg BrgSession.status hbrg
  · rw [ended_brg]
    exact congrArg BrgSession.transfer hbrg
  · rw [ended_link]
    exact congrArg SpireLink.txns (State.link_modLink_same hk' _)

theorem brgAbort_findsNone (dt who : Nat) (s : State) (hquiet : Quiet s) (hwho : 1 ≤ (s.elapse dt).levelOf who)
    (hidle : (s.brg who).transfer = none) :
    Completes (.brgAbort dt who 1) s fun s0 t => (t.brg who).status = 8 ∧ t.out = [.reply 15] ∧ OnlyChanges [.bridge] noRegs s0 t := by
  have heffect : (begun s dt).brgAbort who = ((begun s dt).modBrgSession who fun b => { b with status := 8 }).reply 15 := by
    rw [State.brgAbort, begun_brg, hidle]
  refine completes_of_effect (dt := dt) rfl (exec_brgAbort ..) ((brgAbort_effect hwho).trans heffect)
    ⟨?_, ended_out .., (((onlyChanges_begun s dt).modBrgSession _ _ (by decide)).emit _).ended_quiet hquiet⟩
  rw [ended_brg, State.reply_brg, State.brg_modBrgSession_same]
  exact fun _ => rfl

theorem brgPweClear_empties (dt who : Nat) (s : State) (hquiet : Quiet s) (hwho : 1 ≤ (s.elapse dt).levelOf who) :
    Completes (.brgPweClear dt who 1) s fun s0 t => t.bridge = { s.bridge with pwe := [] } ∧ t.out = [.reply 0] ∧
      OnlyChanges [.bridge] noRegs s0 t := by
  refine completes_of_effect (dt := dt) (u := ((begun s dt).modBrg fun b => { b with pwe := [] }).reply 0) rfl (exec_brgPweClear ..) ?_
    ⟨ended_bridge .., ended_out .., (((onlyChanges_begun s dt).modBrg _ (by decide)).emit _).ended_quiet hquiet⟩
  exact (State.asWriter_of_level (s := begun s dt) (l := 1) _ (by decide) hwho).trans (if_neg (by decide))

/-- Settles O41, command by command. The four transfers end in `State.brgStart`, of which `completes_of_brgStart` says once what it leaves; in the
sixth clause the link's lock is the session's own, so it holds nothing up. -/
theorem bridgeTransfersStartAndEnd : Obligations.BridgeTransfersStartAndEnd :=
  ⟨brgRead_starts, brgRead_waits, brgWrite_starts, brgWrite_refusesProtected, brgLockSet_starts, brgUnlock_starts, brgAbort_takesOut,
    brgAbort_findsNone, brgPweClear_empties⟩

end Sys2Proof.Proofs


namespace Sys2Proof.Machine

/-! DMX ports (R418 to R421) -/

theorem OnlyChanges.modDmx {parts : List Part} {regs : Reg → Bool} {s t : State} (h : OnlyChanges parts regs s t) (port : Nat) (f : DmxPort → DmxPort)
    (hsmap : .smap ∈ parts) : OnlyChanges parts regs s (t.modDmx port f) := h.modMap _ hsmap

theorem State.dmx_modDmx_same {s : State} {port : Nat} (hport : port < s.smap.ports.length) (f : DmxPort → DmxPort) :
    (s.modDmx port f).dmx port = f (s.dmx port) := nth_modNth_same _ _ _ _ hport

theorem State.dmx_of_smap {s t : State} (h : t.smap = s.smap) (port : Nat) : t.dmx port = s.dmx port := by rw [State.dmx, h]; rfl

@[simp] theorem begun_dmx (s : State) (dt port : Nat) : (begun s dt).dmx port = s.dmx port := rfl
@[simp] theorem ended_dmx (s u : State) (dt port : Nat) : (ended s dt u).dmx port = u.dmx port := State.dmx_of_smap u.settle_smap port

/-- Where no written mode waits, none takes effect. -/
theorem State.dmxModeDue_of_none {s : State} {port : Nat} (h : (s.dmx port).newMode = none) : s.dmxModeDue port = s := by
  rw [State.dmxModeDue, h]

/-- The elements of a port: its RDM status and its discovery have 8 bits, its counters 32, and a session at level 1 writes what it can write. -/
theorem rdmStatus_bits {port : Nat} (h : port < 8) : dictBits (.DMX_RDM_STATUS port) = 8 := by interval_cases port <;> decide
theorem rdmDiscover_bits {port : Nat} (h : port < 8) : dictBits (.DMX_RDM_DISCOVER port) = 8 := by interval_cases port <;> decide
theorem rdmRequests_bits {port : Nat} (h : port < 8) : dictBits (.DMXCNT_RDM_REQUESTS port) = 32 := by interval_cases port <;> decide
theorem rdmNoResponse_bits {port : Nat} (h : port < 8) : dictBits (.DMXCNT_RDM_NO_RESPONSE port) = 32 := by interval_cases port <;> decide
theorem rdmReq_writeLevel {port : Nat} (h : port < 8) : writeLevel (.DMX_RDM_REQ port) = some 1 := by interval_cases port <;> decide
theorem rdmStatus_writeLevel {port : Nat} (h : port < 8) : writeLevel (.DMX_RDM_STATUS port) = some 1 := by interval_cases port <;> decide
theorem rdmDiscover_writeLevel {port : Nat} (h : port < 8) : writeLevel (.DMX_RDM_DISCOVER port) = some 1 := by interval_cases port <;> decide

/-- A port changed and one element of it set. -/
structure PortSet (port : Nat) (f : DmxPort → DmxPort) (r : Reg) (v : Nat) (s t : State) : Prop where
  changes : OnlyChanges [.smap] (among [r]) s t
  dmx : t.dmx port = f (s.dmx port)
  reg : t.reg r = v
  drum : t.drum = s.drum

theorem State.setPort_portSet {s : State} {port v : Nat} {r : Reg} {f : DmxPort → DmxPort} (hport : port < s.smap.ports.length)
    (hsub : r.sub < 1024) (hbits : dictBits r = 8) (hv : v < 2 ^ 8) : PortSet port f r v s ((s.modDmx port f).setReg r v) where
  changes := ((onlyChanges_refl s).modDmx port f (by decide)).setReg r v hsub (by simp [among])
  dmx := (State.dmx_of_smap (State.setReg_smap ..) port).trans (State.dmx_modDmx_same hport f)
  reg := by rw [State.reg_setReg_same _ _ _ (by rw [hbits]; decide), hbits, Nat.mod_eq_of_lt hv]
  drum := State.setReg_drum ..

theorem PortSet.reply {port v : Nat} {r : Reg} {f : DmxPort → DmxPort} {s t : State} (h : PortSet port f r v s t) (n : Nat) :
    PortSet port f r v s (t.reply n) :=
  { h with changes := h.changes.emit _ }

/-- A command that changes a port and sets one element of it. -/
theorem completes_of_portSet {c : Instr} {dt port v : Nat} {r : Reg} {f : DmxPort → DmxPort} {g : State → State} {s u : State} (hdt : c.dt = dt)
    (hexec : exec c s = run s dt g) (heffect : g (begun s dt) = u) (hset : PortSet port f r v (begun s dt) u) (hquiet : Quiet s)
    (hsub : r.sub < 1024) (hdrum : drumRegs r = false) :
    Completes c s fun s0 t => t.dmx port = f (s.dmx port) ∧ t.reg r = v ∧ t.out = u.out ∧ OnlyChanges [.smap] (among [r]) s0 t := by
  refine completes_of_effect hdt hexec heffect ⟨?_, ?_, ended_out .., ((onlyChanges_begun s dt).trans hset.changes).ended_quiet ?_⟩
  · rw [ended_dmx, hset.dmx, begun_dmx]
  · rw [ended_reg _ _ _ _ hsub hdrum, hset.reg]
  · exact quiet_of_drum hset.drum hquiet

/-! The responder (R421, R481) -/

/-- A request for this unit that is no broadcast is counted and answered. -/
theorem State.rdmRespond_of_addressed {s : State} {p : RdmPacket} (port kind : Nat) (data : List Octet) (hdest : rdmBroadcast p.dest = false) :
    s.rdmRespond port p kind data = (s.count (.DMXCNT_RDM_REQUESTS port)).emit
      (.rdm port (rdmFrame p.source s.unit.rdmUid p.transaction kind (min 255 (s.dmx port).queue.length) (p.cls + 1) p.pid data)) := by
  rw [State.rdmRespond, hdest]
  rfl

/-- What a command leaves that answers a request for this unit. -/
theorem rdmRespond_ended {s mid : State} {parts : List Part} {dt port kind : Nat} {p : RdmPacket} {data : List Octet} (hport : port < 8)
    (hdest : rdmBroadcast p.dest = false) (hmid : OnlyChanges parts noRegs (s.elapse dt) mid) (hout : mid.out = []) (hdrum : .drum ∈ parts)
    (hlog : .log ∈ parts) :
    (ended s dt (mid.rdmRespond port p kind data)).out =
        [.rdm port (rdmFrame p.source mid.unit.rdmUid p.transaction kind (min 255 (mid.dmx port).queue.length) (p.cls + 1) p.pid data)] ∧
      (ended s dt (mid.rdmRespond port p kind data)).reg (.DMXCNT_RDM_REQUESTS port) = (s.reg (.DMXCNT_RDM_REQUESTS port) + 1) % 2 ^ 32 ∧
      OnlyChanges parts (andDrum (among [.DMXCNT_RDM_REQUESTS port])) (s.elapse dt) (ended s dt (mid.rdmRespond port p kind data)) := by
  have hsub : (Reg.DMXCNT_RDM_REQUESTS port).sub < 1024 := by exact (by decide : 5 < 1024)
  have hbits : dictBits (.DMXCNT_RDM_REQUESTS port) = 32 := rdmRequests_bits hport
  have hkey : (Reg.DMXCNT_RDM_REQUESTS port).key ≠ Reg.DRM_FAULT_SUMMARY.key := by interval_cases port <;> decide
  have hnotDrum : drumRegs (.DMXCNT_RDM_REQUESTS port) = false := by interval_cases port <;> decide
  rw [State.rdmRespond_of_addressed port kind data hdest]
  refine ⟨?_, ?_, ?_⟩
  · rw [ended_out, State.emit_out, State.count_out, hout]; rfl
  · rw [ended_reg _ _ _ _ hsub hnotDrum, State.emit_reg, State.reg_count_same _ _ _ (by rw [hbits]; decide) hkey, hbits, hmid.2 _ hsub rfl]
    rfl
  · exact (((hmid.mono (List.Subset.refl _) fun r hr => by cases hr).count _ _ hsub (by simp [among]) hdrum).emit _).ended hdrum hlog

end Sys2Proof.Machine

namespace Sys2Proof.Proofs

open Machine

/-! RDM_REQUEST, RDM_RESPONSE_RECEIVE, RDM_RESPONSE_TIMEOUT, RDM_ACK_TIMER_EXPIRY, DMX_RDM_DISCOVER, RDM_ABORT and the responder (R421, R481) -/

theorem exec_rdmRequest (dt who port dest cls pid : Nat) (data : List Octet) (s : State) :
    exec (.rdmRequest dt who port dest cls pid data) s = execRdmRequest dt who port dest cls pid data s := rfl
theorem exec_rdmResponseReceive (dt port : Nat) (p : RdmPacket) (s : State) :
    exec (.rdmResponseReceive dt port p) s = execRdmResponseReceive dt port p s := rfl
theorem exec_rdmResponseTimeout (dt port : Nat) (s : State) : exec (.rdmResponseTimeout dt port) s = execRdmResponseTimeout dt port s := rfl
theorem exec_rdmAckTimerExpiry (dt port : Nat) (s : State) : exec (.rdmAckTimerExpiry dt port) s = execRdmAckTimerExpiry dt port s := rfl
theorem exec_dmxRdmDiscover (dt who port value : Nat) (s : State) :
    exec (.dmxRdmDiscover dt who port value) s = execDmxRdmDiscover dt who port value s := rfl
theorem exec_rdmAbort (dt who port value : Nat) (s : State) : exec (.rdmAbort dt who port value) s = execRdmAbort dt who port value s := rfl
theorem exec_rdmResponderRequest (dt port : Nat) (p : RdmPacket) (ready : Bool) (s : State) :
    exec (.rdmResponderRequest dt port p ready) s = execRdmResponderRequest dt port p ready s := rfl
theorem exec_rdmGetEui (dt port dest source transaction : Nat) (s : State) :
    exec (.rdmGetEui dt port dest source transaction) s = execRdmGetEui dt port dest source transaction s := rfl
theorem exec_rdmGetIdentity (dt port dest source transaction : Nat) (s : State) :
    exec (.rdmGetIdentity dt port dest source transaction) s = execRdmGetIdentity dt port dest source transaction s := rfl

theorem rdmStatus_drum {port : Nat} (h : port < 8) : drumRegs (.DMX_RDM_STATUS port) = false := by interval_cases port <;> decide

theorem rdmRequest_queues (dt who port dest cls pid : Nat) (data : List Octet) (s : State) (hquiet : Quiet s) (hport : port < 8)
    (hports : s.smap.ports.length = 8) (hwho : 1 ≤ (s.elapse dt).levelOf who) (hlength : data.length ≤ 231)
    (hidle : (s.dmx port).exchange = none) (hdone : s.reg (.DMX_RDM_DISCOVER port) ≠ 1) (henabled : s.flag (.DMX_RDM_ENABLE port) = true)
    (hmode : (s.dmx port).mode = 2) :
    Completes (.rdmRequest dt who port dest cls pid data) s fun s0 t =>
      (t.dmx port).exchange = some (RdmExchange.make .request dest cls pid data) ∧ t.reg (.DMX_RDM_STATUS port) = 1 ∧ t.out = [.reply 0] ∧
      OnlyChanges [.smap] (among [.DMX_RDM_STATUS port]) s0 t := by
  have hset := (State.setPort_portSet (s := begun s dt) (port := port) (v := 1) (r := .DMX_RDM_STATUS port)
    (f := fun p => { p with exchange := some (RdmExchange.make .request dest cls pid data) }) (hport.trans_eq hports.symm)
    (by exact (by decide : 13 < 1024)) (rdmStatus_bits hport) (by decide)).reply 0
  have heffect : ((begun s dt).asWriter who (.DMX_RDM_REQ port) fun s => s.rdmRequest port dest cls pid data) =
      (((begun s dt).rdmQueue port (RdmExchange.make .request dest cls pid data)).setReg (.DMX_RDM_STATUS port) 1).reply 0 := by
    rw [State.asWriter_of_level (s := begun s dt) _ (rdmReq_writeLevel hport) hwho, State.rdmRequest, if_neg (by omega), if_neg (by omega),
      if_neg (by simp [hidle, hdone])]
    exact if_neg fun h => h.elim (fun hoff => by simp [State.flag] at hoff henabled; omega) fun hother => hother hmode
  obtain ⟨t, hnext, hdmx, hstatus, hout, hchanges⟩ := completes_of_portSet (dt := dt) rfl (exec_rdmRequest ..) heffect hset hquiet
    (by exact (by decide : 13 < 1024)) (rdmStatus_drum hport)
  exact ⟨t, hnext, by rw [hdmx], hstatus, hout.trans (by simp [State.rdmQueue, State.modDmx]), hchanges⟩

theorem rdmResponseReceive_completes (dt port e : Nat) (p : RdmPacket) (x : RdmExchange) (s : State) (hquiet : Quiet s) (hport : port < 8)
    (hports : s.smap.ports.length = 8) (hexchange : (s.dmx port).exchange = some x) (hmode : (s.dmx port).newMode = none)
    (hpurpose : x.purpose = .request) (hsent : x.sentAt = some e)
    (hresponse : p.checksumOk = true ∧ p.transaction = x.transaction ∧ p.kind = 0) :
    Completes (.rdmResponseReceive dt port p) s fun s0 t => (t.dmx port).exchange = none ∧
      (t.dmx port).response = rdmStored p ((x.joined ++ p.data).take 4096) ∧ t.reg (.DMX_RDM_STATUS port) = 2 ∧ t.out = [] ∧
      OnlyChanges [.smap] (among [.DMX_RDM_STATUS port]) s0 t := by
  obtain ⟨hcheck, htransaction, hack⟩ := hresponse
  let completed := ((begun s dt).modDmx port fun d => { d with
    exchange := none, response := rdmStored p ((x.joined ++ p.data).take 4096) }).setReg (.DMX_RDM_STATUS port) 2
  have hset : PortSet port _ _ _ (begun s dt) completed := State.setPort_portSet (hport.trans_eq hports.symm)
    (by exact (by decide : 13 < 1024)) (rdmStatus_bits hport) (by decide)
  have hdue : completed.dmxModeDue port = completed := State.dmxModeDue_of_none (by rw [hset.dmx]; exact hmode)
  have heffect : (begun s dt).rdmResponse port x p = completed := by
    simp only [State.rdmResponse, hpurpose]
    rw [if_pos ⟨hcheck, htransaction⟩, State.rdmAnswer, hack]
    exact hdue
  obtain ⟨t, hnext, hdmx, hstatus, hout, hchanges⟩ := completes_of_portSet (dt := dt) (u := completed) rfl (exec_rdmResponseReceive dt port p s)
    (by simp only [begun_dmx, hexchange, hsent, Option.isSome_some, if_true, heffect, hdue]) hset hquiet (by exact (by decide : 13 < 1024))
    (rdmStatus_drum hport)
  exact ⟨t, hnext, by rw [hdmx], by rw [hdmx], hstatus, hout.trans (State.setReg_out ..), hchanges⟩

/-- Once 2.8 ms have passed without a response, a request is sent again or ends. -/
theorem rdmResponseTimeout_effect {dt port e : Nat} {x : RdmExchange} {s : State} (hexchange : (s.dmx port).exchange = some x)
    (hpurpose : x.purpose = .request) (hsent : x.sentAt = some e) (hdue : e + usTicks 2800 ≤ s.ticks + dt) :
    exec (.rdmResponseTimeout dt port) s = run s dt fun s => s.rdmAgain port x := by
  refine (exec_rdmResponseTimeout ..).trans (run_congr ?_)
  simp only [begun_dmx, hexchange, hsent, hpurpose]
  exact if_neg (Nat.not_lt.2 hdue)

theorem rdmResponseTimeout_sendsAgain (dt port e : Nat) (x : RdmExchange) (s : State) (hquiet : Quiet s) (hport : port < 8)
    (hports : s.smap.ports.length = 8) (hexchange : (s.dmx port).exchange = some x) (hmode : (s.dmx port).newMode = none)
    (hpurpose : x.purpose = .request) (hsent : x.sentAt = some e) (hdue : e + usTicks 2800 ≤ s.ticks + dt)
    (hmore : x.resends < s.reg (.DMX_RDM_RETRIES port)) :
    Completes (.rdmResponseTimeout dt port) s fun s0 t =>
      (t.dmx port).exchange = some { x with resends := x.resends + 1, sentAt := none } ∧ t.out = [] ∧ OnlyChanges [.smap] noRegs s0 t := by
  let waiting := (begun s dt).rdmQueue port { x with resends := x.resends + 1, sentAt := none }
  have hdmx : waiting.dmx port = _ := State.dmx_modDmx_same (s := begun s dt) (hport.trans_eq hports.symm) _
  refine completes_of_effect (dt := dt) (u := waiting) rfl (rdmResponseTimeout_effect hexchange hpurpose hsent hdue) ?_
    ⟨?_, ended_out .., ((onlyChanges_begun s dt).modDmx _ _ (by decide)).ended_quiet hquiet⟩
  · exact (if_pos hmore).trans (State.dmxModeDue_of_none (by rw [hdmx]; exact hmode))
  · rw [ended_dmx, hdmx]

theorem rdmResponseTimeout_ends (dt port e : Nat) (x : RdmExchange) (s : State) (hport : port < 8) (hports : s.smap.ports.length = 8)
    (hexchange : (s.dmx port).exchange = some x) (hmode : (s.dmx port).newMode = none) (hpurpose : x.purpose = .request)
    (hsent : x.sentAt = some e) (hdue : e + usTicks 2800 ≤ s.ticks + dt) (hlast : s.reg (.DMX_RDM_RETRIES port) ≤ x.resends) :
    Completes (.rdmResponseTimeout dt port) s fun s0 t => (t.dmx port).exchange = none ∧ t.reg (.DMX_RDM_STATUS port) = 3 ∧
      t.reg (.DMXCNT_RDM_NO_RESPONSE port) = (s.reg (.DMXCNT_RDM_NO_RESPONSE port) + 1) % 2 ^ 32 ∧ t.out = [] ∧
      OnlyChanges [.smap, .drum, .log] (andDrum (among [.DMX_RDM_STATUS port, .DMXCNT_RDM_NO_RESPONSE port])) s0 t := by
  let silent := ((begun s dt).modDmx port fun p => { p with exchange := none }).setReg (.DMX_RDM_STATUS port) 3
  let u := silent.count (.DMXCNT_RDM_NO_RESPONSE port)
  have hset : PortSet port _ _ _ (begun s dt) silent := State.setPort_portSet (hport.trans_eq hports.symm)
    (by exact (by decide : 13 < 1024)) (rdmStatus_bits hport) (by decide)
  have hdmx : u.dmx port = { s.dmx port with exchange := none } := (State.dmx_of_smap (State.count_smap ..) port).trans hset.dmx
  have hbits := rdmNoResponse_bits hport
  have hnotDrum : drumRegs (.DMXCNT_RDM_NO_RESPONSE port) = false := by interval_cases port <;> decide
  have hkey : (Reg.DMXCNT_RDM_NO_RESPONSE port).key ≠ Reg.DRM_FAULT_SUMMARY.key := by interval_cases port <;> decide
  have hkey' : (Reg.DMX_RDM_STATUS port).key ≠ (Reg.DMXCNT_RDM_NO_RESPONSE port).key := by interval_cases port <;> decide
  have hsub : (Reg.DMXCNT_RDM_NO_RESPONSE port).sub < 1024 := by interval_cases port <;> decide
  refine completes_of_effect (dt := dt) (u := u) rfl (rdmResponseTimeout_effect hexchange hpurpose hsent hdue) ?_ ⟨?_, ?_, ?_, ?_, ?_⟩
  · rw [State.rdmAgain, begun_reg, if_neg (Nat.not_lt.2 hlast), hpurpose]
    exact State.dmxModeDue_of_none (by rw [State.rdmNoResponse]; exact (congrArg DmxPort.newMode hdmx).trans hmode)
  · rw [ended_dmx, hdmx]
  · rw [ended_reg _ _ _ _ (by exact (by decide : 13 < 1024)) (rdmStatus_drum hport),
      State.reg_count_other _ _ _ _ hkey' (by interval_cases port <;> decide), hset.reg]
  · rw [ended_reg _ _ _ _ hsub hnotDrum, State.reg_count_same _ _ _ (by rw [hbits]; decide) hkey, hbits,
      State.reg_setReg_key _ _ _ _ hkey'.symm]
    rfl
  · rw [ended_out, State.count_out, State.setReg_out]; rfl
  · have hshown : OnlyChanges [.smap, .drum, .log] (among [.DMX_RDM_STATUS port, .DMXCNT_RDM_NO_RESPONSE port]) (s.elapse dt) silent :=
      ((onlyChanges_begun s dt).modDmx _ _ (by decide)).setReg _ _ (by exact (by decide : 13 < 1024)) (by simp [among])
    exact (hshown.count _ _ hsub (by simp [among]) (by decide)).ended (by decide) (by decide)

theorem rdmAckTimerExpiry_asksQueued (dt port e : Nat) (x : RdmExchange) (s : State) (hquiet : Quiet s) (hport : port < 8)
    (hports : s.smap.ports.length = 8) (hexchange : (s.dmx port).exchange = some x) (htimer : x.timer = some e) (hdue : e ≤ s.ticks + dt) :
    Completes (.rdmAckTimerExpiry dt port) s fun s0 t => (t.dmx port).exchange = some
        { x with purpose := .queued, cls := 0x20, pid := 0x0020, data := [0x04], resends := 0, timer := none } ∧
      t.out = [] ∧ OnlyChanges [.smap] noRegs s0 t := by
  let asked : RdmExchange := { x with purpose := .queued, cls := 0x20, pid := 0x0020, data := [0x04], resends := 0, timer := none }
  refine completes_of_effect (dt := dt) (u := (begun s dt).rdmQueue port asked) rfl (exec_rdmAckTimerExpiry ..) ?_
    ⟨?_, ended_out .., ((onlyChanges_begun s dt).modDmx _ _ (by decide)).ended_quiet hquiet⟩
  · simp only [begun_dmx, hexchange, htimer]
    exact if_neg (Nat.not_lt.2 hdue)
  · rw [ended_dmx, State.rdmQueue, State.dmx_modDmx_same (s := begun s dt) (hport.trans_eq hports.symm)]

theorem dmxRdmDiscover_starts (dt who port : Nat) (s : State) (hquiet : Quiet s) (hport : port < 8) (hports : s.smap.ports.length = 8)
    (hwho : 1 ≤ (s.elapse dt).levelOf who) (hidle : (s.dmx port).exchange = none) (hdone : s.reg (.DMX_RDM_DISCOVER port) ≠ 1)
    (henabled : s.flag (.DMX_RDM_ENABLE port) = true) (hmode : (s.dmx port).mode = 2) :
    Completes (.dmxRdmDiscover dt who port 1) s fun s0 t =>
      (t.dmx port).exchange = some (RdmExchange.make .unMute broadcastUid 0x10 0x0003 []) ∧ (t.dmx port).search = [(0, broadcastUid - 1)] ∧
      (t.dmx port).uids = [] ∧ t.reg (.DMX_RDM_DISCOVER port) = 1 ∧ t.out = [.reply 0] ∧
      OnlyChanges [.smap] (among [.DMX_RDM_DISCOVER port]) s0 t := by
  let cleared := (begun s dt).modDmx port fun p => { p with uids := [], search := [(0, broadcastUid - 1)] }
  let u := ((cleared.rdmQueue port (RdmExchange.make .unMute broadcastUid 0x10 0x0003 [])).setReg (.DMX_RDM_DISCOVER port) 1).reply 0
  have hlength : port < (begun s dt).smap.ports.length := hport.trans_eq hports.symm
  have hcleared : port < cleared.smap.ports.length := by
    have hmod : cleared.smap.ports.length = (begun s dt).smap.ports.length := by simp [cleared, State.modDmx, modNth]
    omega
  have hset := (State.setPort_portSet (s := cleared) (port := port) (v := 1) (r := .DMX_RDM_DISCOVER port)
    (f := fun p => { p with exchange := some (RdmExchange.make .unMute broadcastUid 0x10 0x0003 []) }) hcleared
    (by exact (by decide : 14 < 1024)) (rdmDiscover_bits hport) (by decide)).reply 0
  have hdmx : u.dmx port = { s.dmx port with uids := [], search := [(0, broadcastUid - 1)], exchange := some (RdmExchange.make .unMute broadcastUid 0x10 0x0003 []) } := by
    refine hset.dmx.trans ?_
    rw [State.dmx_modDmx_same hlength, begun_dmx]
  refine completes_of_effect (dt := dt) (u := u) rfl (exec_dmxRdmDiscover ..) ?_ ⟨?_, ?_, ?_, ?_, ?_, ?_⟩
  · rw [State.asWriter_of_level (s := begun s dt) _ (rdmDiscover_writeLevel hport) hwho, State.rdmDiscover, if_neg (by omega), if_neg (by decide),
      if_neg (by simp [hidle, hdone])]
    exact if_neg fun h => h.elim (fun hoff => by simp [State.flag] at hoff henabled; omega) fun hother => hother hmode
  · rw [ended_dmx, hdmx]
  · rw [ended_dmx, hdmx]
  · rw [ended_dmx, hdmx]
  · exact (ended_reg _ _ _ _ (by exact (by decide : 14 < 1024)) (by interval_cases port <;> decide)).trans hset.reg
  · rw [ended_out, State.reply_out, State.setReg_out]; rfl
  · exact (((onlyChanges_begun s dt).modDmx _ _ (by decide)).trans hset.changes).ended_quiet (quiet_of_drum hset.drum hquiet)

theorem rdmAbort_aborts (dt who port : Nat) (s : State) (hquiet : Quiet s) (hport : port < 8) (hports : s.smap.ports.length = 8)
    (hwho : 1 ≤ (s.elapse dt).levelOf who) (hpending : s.reg (.DMX_RDM_STATUS port) = 1) (hmode : (s.dmx port).newMode = none) :
    Completes (.rdmAbort dt who port 4) s fun s0 t => (t.dmx port).exchange = none ∧ t.reg (.DMX_RDM_STATUS port) = 4 ∧ t.out = [.reply 0] ∧
      OnlyChanges [.smap] (among [.DMX_RDM_STATUS port]) s0 t := by
  let aborted := ((begun s dt).modDmx port fun p => { p with exchange := none }).setReg (.DMX_RDM_STATUS port) 4
  have hset : PortSet port _ _ _ (begun s dt) aborted := State.setPort_portSet (hport.trans_eq hports.symm)
    (by exact (by decide : 13 < 1024)) (rdmStatus_bits hport) (by decide)
  have heffect : ((begun s dt).asWriter who (.DMX_RDM_STATUS port) fun s => s.rdmAbort port 4) = aborted.reply 0 := by
    rw [State.asWriter_of_level (s := begun s dt) _ (rdmStatus_writeLevel hport) hwho, State.rdmAbort, if_neg (by omega), if_neg (by decide),
      begun_reg, if_pos hpending]
    exact congrArg (State.reply · 0) (State.dmxModeDue_of_none (by rw [hset.dmx]; exact hmode))
  obtain ⟨t, hnext, hdmx, hstatus, hout, hchanges⟩ := completes_of_portSet (dt := dt) rfl (exec_rdmAbort ..) heffect (hset.reply 0) hquiet
    (by exact (by decide : 13 < 1024)) (rdmStatus_drum hport)
  exact ⟨t, hnext, by rw [hdmx], hstatus, hout.trans (by rw [State.reply_out, State.setReg_out]; rfl), hchanges⟩

/-- A request for this unit whose checksum agrees is served. -/
theorem State.rdmRequestIn_of_ours {s : State} {port : Nat} {p : RdmPacket} (ready : Bool) (hours : s.rdmForUs port p = true)
    (hcheck : p.checksumOk = true) : s.rdmRequestIn port p ready = s.rdmServe port p ready := by
  rw [State.rdmRequestIn, if_neg (by simp [hours]), if_neg (by simp [hcheck])]

theorem rdmResponderRequest_mutes (dt port : Nat) (p : RdmPacket) (ready : Bool) (s : State) (hport : port < 8)
    (hports : s.smap.ports.length = 8) (hours : s.rdmForUs port p = true) (hcheck : p.checksumOk = true) (hmute : p.cls = 0x10 ∧ p.pid = 0x0002)
    (hdest : rdmBroadcast p.dest = false) :
    Completes (.rdmResponderRequest dt port p ready) s fun s0 t => (t.dmx port).muted = true ∧
      t.out = [.rdm port (rdmFrame p.source s.unit.rdmUid p.transaction 0 (min 255 (s.dmx port).queue.length) 0x11 0x0002 [0, 0])] ∧
      t.reg (.DMXCNT_RDM_REQUESTS port) = (s.reg (.DMXCNT_RDM_REQUESTS port) + 1) % 2 ^ 32 ∧
      OnlyChanges [.smap, .drum, .log] (andDrum (among [.DMXCNT_RDM_REQUESTS port])) s0 t := by
  obtain ⟨hcls, hpid⟩ := hmute
  let muted := (begun s dt).modDmx port fun d => { d with muted := true }
  have hdmx : muted.dmx port = { s.dmx port with muted := true } := State.dmx_modDmx_same (s := begun s dt) (hport.trans_eq hports.symm) _
  have hmuted : OnlyChanges [.smap, .drum, .log] noRegs (s.elapse dt) muted := (onlyChanges_begun s dt).modDmx _ _ (by decide)
  obtain ⟨hout, hcount, hchanges⟩ := rdmRespond_ended (kind := 0) (data := [0, 0]) hport hdest hmuted rfl (by decide) (by decide)
  refine completes_of_effect (dt := dt) (u := muted.rdmRespond port p 0 [0, 0]) rfl (exec_rdmResponderRequest ..) ?_ ⟨?_, ?_, hcount, hchanges⟩
  · rw [State.rdmRequestIn_of_ours (s := begun s dt) ready hours hcheck, State.rdmServe, if_neg (by omega), if_pos (.inr (.inl hcls)),
      State.rdmStandard, if_pos hcls, if_neg (by omega), if_pos hpid]
  · have hkept : (muted.rdmRespond port p 0 [0, 0]).smap = muted.smap := by
      rw [State.rdmRespond_of_addressed _ _ _ hdest, State.emit_smap, State.count_smap]
    rw [ended_dmx, State.dmx_of_smap hkept, hdmx]
  · rw [hout, hdmx, hcls, hpid]; rfl

theorem rdmGetEui_answers (dt port dest source transaction : Nat) (s : State) (hport : port < 8) (_hports : s.smap.ports.length = 8)
    (hours : s.rdmForUs port ⟨true, dest, source, transaction, 1, 0x20, 0x8A01, []⟩ = true) (hdest : rdmBroadcast dest = false)
    (hidp : s.flag .DIC_RDM_IDP = true) :
    Completes (.rdmGetEui dt port dest source transaction) s fun s0 t =>
      t.out = [.rdm port (rdmFrame source s.unit.rdmUid transaction 0 (min 255 (s.dmx port).queue.length) 0x21 0x8A01 (leOctets 8 s.unit.eui64))] ∧
      t.reg (.DMXCNT_RDM_REQUESTS port) = (s.reg (.DMXCNT_RDM_REQUESTS port) + 1) % 2 ^ 32 ∧
      OnlyChanges [.drum, .log] (andDrum (among [.DMXCNT_RDM_REQUESTS port])) s0 t := by
  let p : RdmPacket := ⟨true, dest, source, transaction, 1, 0x20, 0x8A01, []⟩
  obtain ⟨hout, hcount, hchanges⟩ := rdmRespond_ended (p := p) (kind := 0) (data := leOctets 8 s.unit.eui64) hport hdest (onlyChanges_begun s dt) rfl
    (by decide : Part.drum ∈ [Part.drum, Part.log]) (by decide)
  have hon : (begun s dt).rdmIdpOn = true := hidp
  refine completes_of_effect (dt := dt) rfl (exec_rdmGetEui ..) ?_ ⟨hout, hcount, hchanges⟩
  rw [State.rdmRequestIn_of_ours (s := begun s dt) true hours rfl, State.rdmServe, hon]
  rfl

theorem rdmGetIdentity_answers (dt port dest source transaction : Nat) (s : State) (hport : port < 8) (_hports : s.smap.ports.length = 8)
    (hours : s.rdmForUs port ⟨true, dest, source, transaction, 1, 0x20, 0x8A02, []⟩ = true) (hdest : rdmBroadcast dest = false)
    (hidp : s.flag .DIC_RDM_IDP = true) :
    Completes (.rdmGetIdentity dt port dest source transaction) s fun s0 t =>
      t.out = [.rdm port (rdmFrame source s.unit.rdmUid transaction 0 (min 255 (s.dmx port).queue.length) 0x21 0x8A02
        (leOctets 2 (s.reg .DIC_BEHAVIOUR_LEVEL) ++ leOctets 1 (s.reg .DIC_ROLE) ++ leOctets 1 (s.reg .DIC_PROFILE_ACTIVE)))] ∧
      OnlyChanges [.drum, .log] (andDrum (among [.DMXCNT_RDM_REQUESTS port])) s0 t := by
  let p : RdmPacket := ⟨true, dest, source, transaction, 1, 0x20, 0x8A02, []⟩
  obtain ⟨hout, -, hchanges⟩ := rdmRespond_ended (p := p) (kind := 0) (data := leOctets 2 (s.reg .DIC_BEHAVIOUR_LEVEL) ++
    leOctets 1 (s.reg .DIC_ROLE) ++ leOctets 1 (s.reg .DIC_PROFILE_ACTIVE)) hport hdest (onlyChanges_begun s dt) rfl
    (by decide : Part.drum ∈ [Part.drum, Part.log]) (by decide)
  have hon : (begun s dt).rdmIdpOn = true := hidp
  refine completes_of_effect (dt := dt) rfl (exec_rdmGetIdentity ..) ?_ ⟨hout, hchanges⟩
  rw [State.rdmRequestIn_of_ours (s := begun s dt) true hours rfl, State.rdmServe, hon]
  rfl

/-- Settles O40, command by command. What a controller does is `PortSet`, a port changed with one element that shows it; what the responder
answers is `rdmRespond_ended`. -/
theorem rdmRequestsAndDiscovery : Obligations.RdmRequestsAndDiscovery :=
  ⟨rdmRequest_queues, rdmResponseReceive_completes, rdmResponseTimeout_sendsAgain, rdmResponseTimeout_ends, rdmAckTimerExpiry_asksQueued,
    dmxRdmDiscover_starts, rdmAbort_aborts, rdmResponderRequest_mutes, rdmGetEui_answers, rdmGetIdentity_answers⟩

end Sys2Proof.Proofs


namespace Sys2Proof.Machine

/-! Sessions and their answers (R473, R474) -/

theorem State.session_number {s : State} {n : Nat} {x : Session} (h : s.session n = some x) : x.number = n := by
  simpa using List.find?_some h

theorem State.session_of_idp {s t : State} (h : t.idp.sessions = s.idp.sessions) (n : Nat) : t.session n = s.session n := by
  rw [State.session, h]; rfl

/-- A session changed without its number reads as changed. -/
theorem State.session_modSession {s : State} {n : Nat} {x : Session} {f : Session → Session} (h : s.session n = some x)
    (hf : ∀ y, y.number = n → (f y).number = n) : (s.modSession n f).session n = some (f x) := by
  have hfind : ∀ l : List Session, l.find? (fun y => y.number == n) = some x →
      (l.map fun y => if y.number = n then f y else y).find? (fun y => y.number == n) = some (f x) := by
    intro l
    induction l with
    | nil => intro h; cases h
    | cons y l ih =>
      intro h
      by_cases hy : y.number = n
      · rw [List.find?_cons_of_pos (by simpa using hy)] at h
        cases h
        rw [List.map_cons, if_pos hy, List.find?_cons_of_pos (by simpa using hf _ hy)]
      · rw [List.find?_cons_of_neg (by simpa using hy)] at h
        rw [List.map_cons, if_neg hy, List.find?_cons_of_neg (by simpa using hy), ih h]
  exact hfind _ h

/-- A change of a session leaves the sessions of other numbers. -/
theorem State.mem_modSession {s : State} {n : Nat} {f : Session → Session} (hf : ∀ y, y.number = n → (f y).number = n) {y : Session}
    (hy : y ∈ (s.modSession n f).idp.sessions) (hother : y.number ≠ n) : y ∈ s.idp.sessions := by
  obtain ⟨z, hz, rfl⟩ := List.mem_map.1 hy
  split at hother
  next hn => exact absurd (hf z hn) hother
  next hn => rwa [if_neg hn]

/-- The level of a session follows its own record. -/
theorem State.levelOf_of_session {s t : State} {n : Nat} {x y : Session} (hs : s.session n = some x) (ht : t.session n = some y)
    (hlevel : y.levelAt t.ticks = x.levelAt s.ticks) : t.levelOf n = s.levelOf n := by
  have hs' : (s.idp.sessions.find? fun x => x.number == n) = some x := hs
  have ht' : (t.idp.sessions.find? fun x => x.number == n) = some y := ht
  simp only [State.levelOf, hs', ht', hlevel]

@[simp] theorem ended_session (s u : State) (dt n : Nat) : (ended s dt u).session n = u.session n :=
  State.session_of_idp (congrArg Idp.sessions u.settle_idp) n

/-- The response of a session's request kept, as its final one. -/
def Session.store (r : IdpResponse) (x : Session) : Session := { x with stored := some r, running := none, waits := [] }

/-- The final response of a session on the network is kept and sent. -/
theorem State.respond_of_network {s : State} {n op status : Nat} {payload : List Octet} {x : Session} (h : s.session n = some x)
    (hnetwork : x.source.transport = 0) : s.respond n op status payload = (s.modSession n (Session.store ⟨op, x.lastSeq, status, payload⟩)).emit
      (.idp x.source (idpOctets (op + 128) x.number x.lastSeq status payload x.key)) := by
  rw [State.respond, h]
  exact if_pos hnetwork

/-- A response within the payload limit is sent as it is (R477). -/
theorem State.answer_of_short {s : State} {n op status : Nat} {payload : List Octet} {x : Session} (h : s.session n = some x)
    (hnetwork : x.source.transport = 0) (hshort : payload.length ≤ 1400) : s.answer n op status payload = s.respond n op status payload := by
  have hlimit : ((s.session n).map fun x => payloadLimit x.source.transport).getD 0 = 1400 := by rw [h]; simp [payloadLimit, hnetwork]
  simp only [State.answer, hlimit]
  exact if_neg (Nat.not_lt.2 hshort)

/-- Every response of a session on the network is kept and sent, one too long with status 5 in its place (R477). -/
theorem State.answer_responds {s : State} (n op status : Nat) (payload : List Octet) : ∃ st data, s.answer n op status payload = s.respond n op st data := by
  simp only [State.answer]
  split
  exacts [⟨_, _, rfl⟩, ⟨_, _, rfl⟩]

/-- What an answer leaves, its session on the network. -/
theorem State.answer_ended {s u : State} {dt n op status : Nat} {payload : List Octet} {x : Session} (h : u.session n = some x)
    (hnetwork : x.source.transport = 0) (hshort : payload.length ≤ 1400) (hout : u.out = []) :
    (ended s dt (u.answer n op status payload)).session n = some (x.store ⟨op, x.lastSeq, status, payload⟩) ∧
      (ended s dt (u.answer n op status payload)).out = [.idp x.source (idpOctets (op + 128) n x.lastSeq status payload x.key)] := by
  rw [State.answer_of_short h hnetwork hshort, State.respond_of_network h hnetwork, State.session_number h]
  refine ⟨(ended_session ..).trans (State.session_modSession h fun y hy => hy), ?_⟩
  rw [ended_out, State.emit_out]
  exact congrArg (· ++ _) hout

/-- An answer of a session: nothing but the dictionary service changes, and in it no other session. -/
structure Answered (n : Nat) (s t : State) : Prop where
  changes : OnlyChanges [.idp] noRegs s t
  others : ∀ y ∈ t.idp.sessions, y.number ≠ n → y ∈ s.idp.sessions

theorem State.answer_answered {s : State} {n : Nat} {x : Session} (h : s.session n = some x) (hnetwork : x.source.transport = 0) (op status : Nat)
    (payload : List Octet) : Answered n s (s.answer n op status payload) := by
  obtain ⟨st, data, hanswer⟩ := s.answer_responds n op status payload
  rw [hanswer, State.respond_of_network h hnetwork]
  exact ⟨((onlyChanges_refl s).modIdp _ (by decide)).emit _, fun y hy hother => State.mem_modSession (f := Session.store ⟨op, x.lastSeq, st, data⟩)
    (fun _ hz => hz) hy hother⟩

/-- A new request of a session taken: when its message came, and its SEQ. -/
def State.takeRequest (s : State) (x : Session) (seq : Nat) : State :=
  (s.modSession x.number fun _ => { x with lastMessage := s.ticks }).modSession x.number fun y => { y with lastSeq := seq }

/-- The session of a request that is taken. -/
def Session.taken (x : Session) (ticks seq : Nat) : Session := { x with lastMessage := ticks, lastSeq := seq }

theorem State.takeRequest_session {s : State} {n seq : Nat} {x : Session} (h : s.session n = some x) :
    (s.takeRequest x seq).session n = some (x.taken s.ticks seq) := by
  have hn := State.session_number h
  subst hn
  have hheard := State.session_modSession (f := fun _ => { x with lastMessage := s.ticks }) h fun _ _ => rfl
  exact State.session_modSession (f := fun y => { y with lastSeq := seq }) hheard fun _ hy => hy

/-- The next request of a session, untagged as its session asks, is performed (R470 to R473). -/
theorem State.idpTake_of_next {s : State} {h : IdpHead} {op : Nat} {p : List Octet} {x : Session} (hserves : s.reg .SYS_STATE = 3)
    (hcheck : h.checkOk = true) (hsession : s.session h.session = some x) (hsource : x.source = h.source) (huntagged : x.key = none ∧ h.tag = none)
    (hseq : h.seq = (x.lastSeq + 1) % 2 ^ 32) (hidle : x.running = none) (hop : op ≠ 1) :
    s.idpTake h op p = (s.takeRequest x h.seq).perform (x.taken s.ticks h.seq) op p := by
  obtain ⟨hkey, htag⟩ := huntagged
  have hon : s.idpServes h.source.transport = true := by simp [State.idpServes, hserves]
  have htagged : tagOk x h op p = true := by simp [tagOk, hkey, htag]
  rw [State.idpTake, if_neg (by simp [hon]), if_neg (by simp [hcheck]), if_neg hop, hsession]
  exact (if_neg (not_not.2 hsource)).trans ((if_neg (by simp [htagged])).trans (if_pos ⟨hseq, by rw [hidle]; rfl⟩))

/-- While the firmware runs, an authentication is performed as asked (R471). -/
theorem State.perform_auth {s : State} {x : Session} {p : List Octet} (hserves : s.reg .SYS_STATE = 3) :
    s.perform x 0x04 p = s.authOperator x p ∧ s.perform x 0x05 p = s.challenge x p ∧ s.perform x 0x06 p = s.authService x p := by
  simp [State.perform, hserves]

/-! Failed authentications (R480) -/

/-- A failed authentication counted against its source: the sessions stay, and a lockout counts and posts one event. -/
structure AuthFailed (s t : State) : Prop where
  changes : OnlyChanges [.idp, .drum] (among [.DICCNT_LOCKOUTS]) s t
  sessions : t.idp.sessions = s.idp.sessions
  out : t.out = s.out
  incoming : s.drum.incoming <+: t.drum.incoming
  posted : t.posted ≤ s.posted + 2

theorem State.authFailed_authFailed (s : State) (x : IdpSource) : AuthFailed s (s.authFailed x) := by
  unfold State.authFailed
  split
  · exact ⟨onlyChanges_refl s, rfl, rfl, List.prefix_refl _, Nat.le_add_right _ _⟩
  next k _ =>
    extract_lets old recent others
    split
    · let locked := s.modIdp fun i => { i with auth := ⟨k, [], some (s.ticks + usTicks 300000000)⟩ :: others }
      refine ⟨(((onlyChanges_refl s).modIdp _ (by decide)).count _ _ (by decide) (by decide) (by decide)).post _ _ _ (by decide) (by decide),
        ?_, ?_, ?_, ?_⟩
      · rw [State.post_idp, State.count_idp]; rfl
      · rw [State.post_out, State.count_out]; rfl
      · rw [State.post_incoming]
        exact (locked.count_incoming ..).trans (List.prefix_append _ _)
      · rw [State.posted_post]
        exact Nat.succ_le_succ (locked.posted_count ..)
    · exact ⟨(onlyChanges_refl s).modIdp _ (by decide), rfl, rfl, List.prefix_refl _, Nat.le_add_right _ _⟩

theorem State.lockedOut_of_auth {s t : State} (hauth : t.idp.auth = s.idp.auth) (hticks : t.ticks = s.ticks) (x : IdpSource) :
    t.lockedOut x = s.lockedOut x := by
  rw [State.lockedOut, hauth, hticks]
  rfl

/-- A failed authentication: its counter, its event, and its source. -/
def State.failAuth (s : State) (fail : Reg) (arg : Nat) (source : IdpSource) : State := ((s.count fail).post 0x1006 4 arg).authFailed source

/-- What a command leaves that answers a failed authentication with status 13, after it has changed the dictionary service only. -/
theorem State.failAuth_ended {s mid : State} {dt op arg : Nat} {n : Nat} {fail : Reg} {source : IdpSource} {x : Session} (htakes : Takes s 4)
    (hmid : OnlyChanges [.idp] noRegs (s.elapse dt) mid) (hout : mid.out = []) (hsession : mid.session n = some x)
    (hnetwork : x.source.transport = 0) (hfail : fail ∈ [Reg.DICCNT_AUTH_OPERATOR_FAIL, .DICCNT_AUTH_SERVICE_FAIL]) :
    let t := ended s dt ((mid.failAuth fail arg source).answer n op 13 [])
    t.session n = some (x.store ⟨op, x.lastSeq, 13, []⟩) ∧ t.reg fail = (s.reg fail + 1) % 2 ^ 32 ∧ Posted t 0x1006 4 arg ∧
      t.out = [.idp x.source (idpOctets (op + 128) n x.lastSeq 13 [] x.key)] ∧
      OnlyChanges [.idp, .drum, .log] (andDrum (blocks [1])) (s.elapse dt) t := by
  obtain ⟨hquiet, hmin⟩ := htakes
  let posted := (mid.count fail).post 0x1006 4 arg
  let failed := mid.failAuth fail arg source
  let u := failed.answer n op 13 []
  have hreg : fail.sub < 1024 ∧ dictBits fail = 32 ∧ fail.key ≠ Reg.DRM_FAULT_SUMMARY.key ∧ drumRegs fail = false ∧
      among [.DICCNT_LOCKOUTS] fail = false ∧ blocks [1] fail = true := by
    simp only [List.mem_cons, List.not_mem_nil, or_false] at hfail
    obtain rfl | rfl := hfail <;> decide
  obtain ⟨hsub, hbits, hsummary, hdrum, hlockouts, hblock⟩ := hreg
  have hauth : AuthFailed posted failed := posted.authFailed_authFailed source
  have hkept : failed.session n = some x := by
    rw [State.session_of_idp hauth.sessions, State.session_of_idp (congrArg Idp.sessions ((State.post_idp ..).trans (State.count_idp ..))), hsession]
  have hanswered : Answered n failed u := State.answer_answered hkept hnetwork ..
  have hsilent : failed.out = [] := by rw [hauth.out, State.post_out, State.count_out, hout]
  have hnothing : mid.posted = 0 := (State.posted_of_drum (hmid.1 .drum (by decide))).trans (State.posted_of_quiet dt hquiet)
  have hcount : (mid.count fail).posted ≤ mid.posted + 1 := State.posted_count ..
  have hfew : u.posted ≤ 4 := by
    have hauth2 := hauth.posted
    rw [State.posted_post] at hauth2
    rw [State.posted_of_drum (hanswered.changes.1 .drum (by decide))]
    omega
  have hchanges : OnlyChanges [.idp, .drum, .log] (blocks [1]) (s.elapse dt) u :=
    (((hmid.mono (by decide) fun r hr => by cases hr).count _ _ hsub hblock (by decide)).post _ _ _ (by decide) (by decide)).trans
      ((hauth.changes.mono (by decide) fun r hr => by
        rw [among_iff, List.mem_singleton] at hr; subst hr; decide).trans (hanswered.changes.mono (by decide) fun r hr => by cases hr))
  obtain ⟨hleft, hsent⟩ := State.answer_ended (s := s) (dt := dt) (op := op) (status := 13) (payload := []) hkept hnetwork (by simp) hsilent
  refine ⟨hleft, ?_, posted_ended_of_mem ?_ hfew (.inl ?_), hsent, hchanges.ended (by decide) (by decide)⟩
  · rw [ended_reg _ _ _ _ hsub hdrum, hanswered.changes.2 _ hsub rfl, hauth.changes.2 _ hsub hlockouts, State.reg_post_low _ _ _ _ _ (by decide),
      State.reg_count_same _ _ _ (by rw [hbits]; decide) hsummary, hbits, hmid.2 _ hsub rfl]
    rfl
  · have hlast : [⟨.single, 4, 0x1006, arg % 2 ^ 42⟩] ∈ posted.drum.incoming := by rw [State.post_incoming]; simp
    have hstill := hauth.incoming.subset hlast
    rw [congrArg Drum.incoming (hanswered.changes.1 .drum (by decide) : u.drum = failed.drum)]
    exact List.mem_flatten.2 ⟨_, hstill, List.mem_singleton_self _⟩
  · rwa [hchanges.2 .DRM_MIN_PRIORITY (by decide) (by decide)]

/-! Octets of numbers -/

@[simp] theorem leOctets_length (n v : Nat) : (leOctets n v).length = n := by simp [leOctets]

theorem leOctets_succ (n v : Nat) : leOctets (n + 1) v = BitVec.ofNat 8 v :: leOctets n (v / 256) := by
  simp [leOctets, List.range_succ_eq_map, Nat.pow_succ', Nat.div_div_eq_div_mul]

theorem ofLe_leOctets (n v : Nat) : ofLe (leOctets n v) = v % 256 ^ n := by
  induction n generalizing v with
  | zero => simp [leOctets, ofLe, Nat.mod_one]
  | succ n ih =>
    have hsplit : v % 256 ^ (n + 1) = v % 256 + 256 * (v / 256 % 256 ^ n) := by rw [Nat.pow_succ', Nat.mod_mul]
    rw [leOctets_succ, ofLe, ih, BitVec.toNat_ofNat, hsplit]

/-! The next request of a session (R470 to R473) -/

/-- The next request of a session on the network in the firmware: what it is performed on, and the session it is performed for. -/
structure NextRequest (h : IdpHead) (x : Session) (s : State) : Prop where
  serves : s.reg .SYS_STATE = 3
  check : h.checkOk = true
  session : s.session h.session = some x
  source : x.source = h.source ∧ x.source.transport = 0
  untagged : x.key = none ∧ h.tag = none
  seq : h.seq = (x.lastSeq + 1) % 2 ^ 32
  idle : x.running = none

/-- The state in which the next request of a session is performed. -/
def State.asked (s : State) (dt : Nat) (h : IdpHead) (x : Session) : State := (begun s dt).takeRequest x h.seq

namespace NextRequest

variable {h : IdpHead} {x : Session} {s : State} {dt : Nat}

theorem number (hx : NextRequest h x s) : x.number = h.session := State.session_number hx.session

theorem taken_number (hx : NextRequest h x s) : (x.taken (s.ticks + dt) h.seq).number = h.session := hx.number

theorem taken (hx : NextRequest h x s) : (s.asked dt h x).session h.session = some (x.taken (s.ticks + dt) h.seq) :=
  State.takeRequest_session (s := begun s dt) hx.session

theorem changes : OnlyChanges [.idp] noRegs (s.elapse dt) (s.asked dt h x) :=
  ((onlyChanges_begun s dt).modIdp _ (by decide)).modIdp _ (by decide)

/-- Taking a request leaves the sessions of other numbers. -/
theorem others (hx : NextRequest h x s) {y : Session} (hy : y ∈ (s.asked dt h x).idp.sessions) (hother : y.number ≠ h.session) :
    y ∈ s.idp.sessions := by
  rw [← hx.number] at hother
  have hheard := State.mem_modSession (f := fun y => { y with lastSeq := h.seq }) (fun _ hz => hz) hy hother
  exact State.mem_modSession (s := begun s dt) (f := fun _ => { x with lastMessage := s.ticks + dt }) (fun _ _ => rfl) hheard hother

theorem performs (hx : NextRequest h x s) {op : Nat} (p : List Octet) (hop : op ≠ 1) :
    (begun s dt).idpTake h op p = (s.asked dt h x).perform (x.taken (s.ticks + dt) h.seq) op p :=
  State.idpTake_of_next (s := begun s dt) hx.serves hx.check hx.session hx.source.1 hx.untagged hx.seq hx.idle hop

theorem levelOf (hx : NextRequest h x s) : (s.asked dt h x).levelOf h.session = (s.elapse dt).levelOf h.session :=
  State.levelOf_of_session (s := s.elapse dt) hx.session hx.taken rfl

theorem free (hx : NextRequest h x s) {b : Bool} (hlocked : (s.elapse dt).lockedOut h.source = b) :
    (s.asked dt h x).lockedOut (x.taken (s.ticks + dt) h.seq).source = b :=
  (State.lockedOut_of_auth (s := s.elapse dt) rfl rfl _).trans ((congrArg _ hx.source.1).trans hlocked)

end NextRequest

/-- A challenge is used up by the answer to it, whatever that is. -/
def State.spent (s : State) (dt : Nat) (h : IdpHead) (x : Session) : State :=
  (s.asked dt h x).modSession h.session fun y => { y with challenge := none }

end Sys2Proof.Machine

namespace Sys2Proof.Proofs

open Machine

/-! AUTH_OPERATOR, CHALLENGE and AUTH_SERVICE (R478 to R480) -/

theorem exec_authOperator (dt : Nat) (h : IdpHead) (proof : List Octet) (s : State) :
    exec (.authOperator dt h proof) s = execAuthOperator dt h proof s := rfl
theorem exec_challenge (dt slot : Nat) (h : IdpHead) (key : List Octet) (s : State) :
    exec (.challenge dt h slot key) s = execChallenge dt h slot key s := rfl
theorem exec_authService (dt : Nat) (h : IdpHead) (signature : List Octet) (s : State) :
    exec (.authService dt h signature) s = execAuthService dt h signature s := rfl

theorem authOperator_raises (dt : Nat) (h : IdpHead) (proof : List Octet) (x : Session) (s : State) (htakes : Takes s 3)
    (hserves : s.reg .SYS_STATE = 3) (hcheck : h.checkOk = true) (hsession : s.session h.session = some x)
    (hsource : x.source = h.source ∧ x.source.transport = 0) (huntagged : x.key = none ∧ h.tag = none) (hseq : h.seq = (x.lastSeq + 1) % 2 ^ 32)
    (hidle : x.running = none) (_hserves : s.reg .SYS_STATE = 3) (hkey : s.idp.installKey ≠ []) (hlength : proof.length = 32)
    (hproof : proof = operatorProof s.idp.installKey s.unit.eui64 x) (hfree : (s.elapse dt).lockedOut h.source = false) :
    Completes (.authOperator dt h proof) s fun s0 t =>
      (t.session h.session).map (fun y => (y.level, y.provedKey, y.key)) = some (max 1 x.level, true, some (operatorKey s.idp.installKey x)) ∧
      (t.session h.session).map (fun y => (y.lastSeq, y.windowEnd)) = some (h.seq, x.windowEnd) ∧
      (∀ y ∈ t.idp.sessions, y.number ≠ h.session → y ∈ s.idp.sessions) ∧ Posted t 0x1003 3 h.session ∧
      t.out = [.idp h.source (idpOctets (0x04 + 128) h.session h.seq 0 (leOctets 1 (max 1 (s0.levelOf h.session)))
        (some (operatorKey s.idp.installKey x)))] ∧
      OnlyChanges [.idp, .drum, .log] drumRegs s0 t := by
  obtain ⟨hquiet, hmin⟩ := htakes
  have hx : NextRequest h x s := ⟨hserves, hcheck, hsession, hsource, huntagged, hseq, hidle⟩
  let key := operatorKey s.idp.installKey x
  let raise : Session → Session := fun y => { y with level := max 1 y.level, provedKey := true || y.provedKey, key := (some key).or y.key }
  let asked := s.asked dt h x
  let raised := (asked.modSession h.session raise).post 0x1003 3 h.session
  let u := raised.answer h.session 0x04 0 (leOctets 1 (max 1 (asked.levelOf h.session)))
  have hraised : raised.session h.session = some (raise (x.taken (s.ticks + dt) h.seq)) :=
    (State.session_of_idp (congrArg Idp.sessions (State.post_idp ..)) _).trans (State.session_modSession hx.taken fun _ hy => hy)
  have hnetwork : (raise (x.taken (s.ticks + dt) h.seq)).source.transport = 0 := hsource.2
  have heffect : (begun s dt).idpTake h 0x04 proof = u := by
    rw [hx.performs proof (by decide), (State.perform_auth (s := asked) hserves).1, State.authOperator, if_neg (by omega),
      if_neg (by rw [hx.free hfree]; decide), if_neg (by rintro ⟨hnone, -⟩; exact hkey hnone), if_pos ⟨hkey, hproof⟩, State.raiseOperator,
      hx.taken_number]
    rfl
  have hanswered : Answered h.session raised u := State.answer_answered hraised hnetwork ..
  have hchanges : OnlyChanges [.idp, .drum, .log] noRegs (s.elapse dt) u :=
    (((NextRequest.changes.mono (by decide) fun _ => id).modIdp _ (by decide)).post _ _ _ (by decide) (by decide)).trans
      (hanswered.changes.mono (by decide) fun _ => id)
  obtain ⟨hleft, hout⟩ := State.answer_ended (s := s) (dt := dt) (op := 0x04) (status := 0)
    (payload := leOctets 1 (max 1 (asked.levelOf h.session))) hraised hnetwork (by simp) (State.post_out ..)
  refine completes_of_effect (dt := dt) (u := u) rfl (exec_authOperator ..) heffect ⟨?_, ?_, ?_, ?_, ?_, ?_⟩
  · rw [hleft]; rfl
  · rw [hleft]; rfl
  · intro y hy hother
    rw [ended_idp] at hy
    have hraised := hanswered.others y hy hother
    rw [State.post_idp] at hraised
    exact hx.others (State.mem_modSession (f := raise) (fun _ hz => hz) hraised hother) hother
  · refine posted_ended_last (v := asked.modSession h.session raise) (hanswered.changes.1 .drum (by decide)) ?_ (.inl ?_)
    · rw [State.posted_of_drum (t := asked.modSession h.session raise) (s := begun s dt) rfl, State.posted_of_quiet dt hquiet]; decide
    · rwa [hchanges.2 .DRM_MIN_PRIORITY (by decide) rfl]
  · rw [hout, hx.levelOf, ← hsource.1]; rfl
  · exact (hchanges.ended (by decide) (by decide)).mono (List.Subset.refl _) fun r hr => by simpa [andDrum, noRegs] using hr

theorem authOperator_refuses (dt : Nat) (h : IdpHead) (proof : List Octet) (x : Session) (s : State) (htakes : Takes s 4)
    (hserves : s.reg .SYS_STATE = 3) (hcheck : h.checkOk = true) (hsession : s.session h.session = some x)
    (hsource : x.source = h.source ∧ x.source.transport = 0) (huntagged : x.key = none ∧ h.tag = none) (hseq : h.seq = (x.lastSeq + 1) % 2 ^ 32)
    (hidle : x.running = none) (hkey : s.idp.installKey ≠ []) (hlength : proof.length = 32)
    (hproof : proof ≠ operatorProof s.idp.installKey s.unit.eui64 x) (hfree : (s.elapse dt).lockedOut h.source = false) :
    Completes (.authOperator dt h proof) s fun s0 t =>
      (t.session h.session).map (fun y => (y.level, y.provedKey, y.key)) = some (x.level, x.provedKey, none) ∧
      t.reg .DICCNT_AUTH_OPERATOR_FAIL = (s.reg .DICCNT_AUTH_OPERATOR_FAIL + 1) % 2 ^ 32 ∧ Posted t 0x1006 4 h.session ∧
      t.out = [.idp h.source (idpOctets (0x04 + 128) h.session h.seq 13 [] none)] ∧
      OnlyChanges [.idp, .drum, .log] (andDrum (blocks [1])) s0 t := by
  have hx : NextRequest h x s := ⟨hserves, hcheck, hsession, hsource, huntagged, hseq, hidle⟩
  let asked := s.asked dt h x
  let y := x.taken (s.ticks + dt) h.seq
  have hnetwork : y.source.transport = 0 := hsource.2
  have heffect : (begun s dt).idpTake h 0x04 proof =
      (asked.failAuth .DICCNT_AUTH_OPERATOR_FAIL h.session y.source).answer h.session 0x04 13 [] := by
    rw [hx.performs proof (by decide), (State.perform_auth (s := asked) hserves).1, State.authOperator, if_neg (by omega),
      if_neg (by rw [hx.free hfree]; decide), if_neg (by rintro ⟨hnone, -⟩; exact hkey hnone), if_neg (by rintro ⟨-, hsame⟩; exact hproof hsame),
      hx.taken_number]
    rfl
  obtain ⟨hleft, hcount, hposted, hout, hchanges⟩ := State.failAuth_ended (dt := dt) (op := 0x04) (arg := h.session) (source := y.source)
    (fail := .DICCNT_AUTH_OPERATOR_FAIL) htakes (mid := asked) NextRequest.changes rfl hx.taken hnetwork (by simp)
  refine completes_of_effect (dt := dt) rfl (exec_authOperator ..) heffect ⟨?_, hcount, hposted, ?_, hchanges⟩
  · rw [hleft, ← huntagged.1]; rfl
  · rw [hout, ← hsource.1, ← huntagged.1]; rfl

theorem authOperator_refusesLockedOut (dt : Nat) (h : IdpHead) (proof : List Octet) (x : Session) (s : State) (hquiet : Quiet s)
    (hserves : s.reg .SYS_STATE = 3) (hcheck : h.checkOk = true) (hsession : s.session h.session = some x)
    (hsource : x.source = h.source ∧ x.source.transport = 0) (huntagged : x.key = none ∧ h.tag = none) (hseq : h.seq = (x.lastSeq + 1) % 2 ^ 32)
    (hidle : x.running = none) (hlength : proof.length = 32) (hlocked : (s.elapse dt).lockedOut h.source = true) :
    Completes (.authOperator dt h proof) s fun s0 t => t.session h.session = some
        { x with lastMessage := s.ticks + dt, lastSeq := h.seq, stored := some ⟨0x04, h.seq, 14, []⟩, running := none, waits := [] } ∧
      t.out = [.idp h.source (idpOctets (0x04 + 128) h.session h.seq 14 [] none)] ∧ OnlyChanges [.idp] noRegs s0 t := by
  have hx : NextRequest h x s := ⟨hserves, hcheck, hsession, hsource, huntagged, hseq, hidle⟩
  let asked := s.asked dt h x
  have hnetwork : (x.taken (s.ticks + dt) h.seq).source.transport = 0 := hsource.2
  have heffect : (begun s dt).idpTake h 0x04 proof = asked.answer h.session 0x04 14 [] := by
    rw [hx.performs proof (by decide), (State.perform_auth (s := asked) hserves).1, State.authOperator, if_neg (by omega),
      if_pos (hx.free hlocked), hx.taken_number]
  have hanswered : Answered h.session asked (asked.answer h.session 0x04 14 []) := State.answer_answered hx.taken hnetwork ..
  obtain ⟨hleft, hout⟩ := State.answer_ended (s := s) (dt := dt) (op := 0x04) (status := 14) (payload := []) hx.taken hnetwork (by simp) rfl
  have hchanges : OnlyChanges [.idp] noRegs (s.elapse dt) (asked.answer h.session 0x04 14 []) := NextRequest.changes.trans hanswered.changes
  refine completes_of_effect (dt := dt) rfl (exec_authOperator ..) heffect
    ⟨hleft, ?_, hchanges.ended_quiet (quiet_of_drum (hanswered.changes.1 .drum (by decide)) hquiet)⟩
  rw [hout, ← hsource.1, ← huntagged.1]; rfl

/-- The text of a challenge (R479). -/
def challengeText (s : State) (n slot expiry : Nat) : List Octet :=
  asciiOctets ['I', 'Z', 'S', 'V'] ++ leOctets 8 s.unit.eui64 ++ leOctets 2 n ++ leOctets 1 slot ++ [0] ++ leOctets 32 (Config.freeValue s.fresh) ++
    leOctets 8 expiry ++ Config.ephemeralKey (s.fresh + 1)

theorem challenge_opens (dt slot : Nat) (h : IdpHead) (key : List Octet) (x : Session) (s : State) (hquiet : Quiet s)
    (hserves : s.reg .SYS_STATE = 3) (hcheck : h.checkOk = true) (hsession : s.session h.session = some x)
    (hsource : x.source = h.source ∧ x.source.transport = 0) (huntagged : x.key = none ∧ h.tag = none) (hseq : h.seq = (x.lastSeq + 1) % 2 ^ 32)
    (hidle : x.running = none) (hslot : slot < 256) (hslotKey : s.slotKey slot ≠ []) (hkey : key.length = 65 ∧ key.head? = some 0x04)
    (hlevel : (s.elapse dt).levelOf h.session ≠ 2) :
    Completes (.challenge dt h slot key) s fun s0 t => ((Config.ephemeralKey (s.fresh + 1)).length = 65 → t.session h.session = some
        { x with lastMessage := s.ticks + dt, lastSeq := h.seq, stored := some ⟨0x05, h.seq, 0, (asciiOctets ['I', 'Z', 'S', 'V'] ++ leOctets 8 s.unit.eui64 ++ leOctets 2 h.session ++ leOctets 1 slot ++ [0] ++ leOctets 32 (Config.freeValue s.fresh) ++ leOctets 8 (s0.now + 60000000000) ++ Config.ephemeralKey (s.fresh + 1))⟩, running := none, waits := [], challenge := some ⟨slot, (asciiOctets ['I', 'Z', 'S', 'V'] ++ leOctets 8 s.unit.eui64 ++ leOctets 2 h.session ++ leOctets 1 slot ++ [0] ++ leOctets 32 (Config.freeValue s.fresh) ++ leOctets 8 (s0.now + 60000000000) ++ Config.ephemeralKey (s.fresh + 1)), key, s.fresh + 1, s0.now + 60000000000⟩ } ∧
        t.out = [.idp h.source (idpOctets (0x05 + 128) h.session h.seq 0 (asciiOctets ['I', 'Z', 'S', 'V'] ++ leOctets 8 s.unit.eui64 ++
          leOctets 2 h.session ++ leOctets 1 slot ++ [0] ++ leOctets 32 (Config.freeValue s.fresh) ++ leOctets 8 (s0.now + 60000000000) ++
          Config.ephemeralKey (s.fresh + 1)) none)]) ∧
      t.fresh = s.fresh + 2 ∧ OnlyChanges [.idp, .fresh] noRegs s0 t := by
  have hx : NextRequest h x s := ⟨hserves, hcheck, hsession, hsource, huntagged, hseq, hidle⟩
  obtain ⟨hkeyLength, hkeyHead⟩ := hkey
  let expiry := (s.elapse dt).now + 60000000000
  let text := challengeText s h.session slot expiry
  let open_ : Session → Session := fun y => { y with challenge := some ⟨slot, text, key, s.fresh + 1, expiry⟩ }
  let asked := s.asked dt h x
  let opened := { asked with fresh := s.fresh + 2 }.modSession h.session open_
  let u := opened.answer h.session 0x05 0 text
  have hopened : opened.session h.session = some (open_ (x.taken (s.ticks + dt) h.seq)) :=
    State.session_modSession (s := { asked with fresh := s.fresh + 2 }) hx.taken fun _ hy => hy
  have hnetwork : (open_ (x.taken (s.ticks + dt) h.seq)).source.transport = 0 := hsource.2
  have hanswered : Answered h.session opened u := State.answer_answered hopened hnetwork ..
  have heffect : (begun s dt).idpTake h 0x05 (leOctets 1 slot ++ key) = u := by
    have hslot' : ofLe ((leOctets 1 slot ++ key).take 1) = slot := by
      rw [List.take_left' (leOctets_length 1 slot), ofLe_leOctets]; omega
    have hdrop : (leOctets 1 slot ++ key).drop 1 = key := List.drop_left' (leOctets_length 1 slot)
    have hlevel' : ¬((s.asked dt h x).slotKey slot = [] ∨ key.head? ≠ some 0x04 ∨ (s.asked dt h x).levelOf h.session = 2) := by
      rw [not_or, not_or, not_not, hx.levelOf]; exact ⟨hslotKey, hkeyHead, hlevel⟩
    rw [hx.performs _ (by decide), (State.perform_auth (s := asked) hserves).2.1, State.challenge, hslot', hdrop, hx.taken_number,
      if_neg (by simp [hkeyLength]), if_neg hlevel']
    rfl
  have hchanges : OnlyChanges [.idp, .fresh] noRegs (s.elapse dt) u := by
    have hfresh : OnlyChanges [.idp, .fresh] noRegs (s.elapse dt) { asked with fresh := s.fresh + 2 } :=
      (NextRequest.changes.mono (by decide) fun _ => id).change rfl fun p hp => by
        cases p with
        | fresh => exact absurd (by decide) hp
        | _ => rfl
    exact (hfresh.modIdp _ (by decide)).trans (hanswered.changes.mono (by decide) fun _ => id)
  refine completes_of_effect (dt := dt) (u := u) rfl (exec_challenge ..) heffect
    ⟨fun hephemeral => ?_, u.settle_fresh.trans (hanswered.changes.1 .fresh (by decide)),
      hchanges.ended_quiet (quiet_of_drum (hanswered.changes.1 .drum (by decide)) hquiet)⟩
  have hshort : text.length ≤ 1400 := by
    simp only [text, challengeText, List.length_append, leOctets_length, hephemeral]
    decide
  obtain ⟨hleft, hout⟩ := State.answer_ended (s := s) (dt := dt) (op := 0x05) (status := 0) (payload := text) hopened hnetwork hshort rfl
  exact ⟨hleft, by rw [hout, ← hsource.1, ← huntagged.1]; rfl⟩

/-- A signature over a challenge that has not expired is judged by the slot's key (R479). -/
theorem authService_effect {dt : Nat} {h : IdpHead} {signature : List Octet} {x : Session} {c : Challenge} {s : State} (hx : NextRequest h x s)
    (hchallenge : x.challenge = some c) (hlength : signature.length = 64) (hfree : (s.elapse dt).lockedOut h.source = false)
    (hfresh : (s.elapse dt).now ≤ c.expiry) :
    (begun s dt).idpTake h 0x06 signature =
      if Config.ecdsaVerify (s.slotKey c.slot) (c.text ++ c.clientKey) signature = false then
        ((s.spent dt h x).failAuth .DICCNT_AUTH_SERVICE_FAIL (h.session + 2 ^ 16) x.source).answer h.session 0x06 13 []
      else
        (((s.spent dt h x).modSession h.session fun y => { y with
          level := 2, key := some (sha256 (Config.ecdhSharedX c.unitKey c.clientKey ++ slice c.text 16 32)),
          windowEnd := some (s.ticks + dt + usTicks (s.reg .DIC_SERVICE_WINDOW_S * 1000000)) }).post 0x1004 4
            (h.session + c.slot * 2 ^ 16)).answer h.session 0x06 0 (leOctets 1 2 ++ leOctets 2 (s.reg .DIC_SERVICE_WINDOW_S)) := by
  have hchallenge' : (x.taken (s.ticks + dt) h.seq).challenge = some c := hchallenge
  have hjudged : (Config.ecdsaVerify ((s.asked dt h x).slotKey c.slot) (c.text ++ c.clientKey) signature = false ∨
      c.expiry < (s.asked dt h x).now) ↔ Config.ecdsaVerify (s.slotKey c.slot) (c.text ++ c.clientKey) signature = false :=
    or_iff_left (Nat.not_lt.2 hfresh)
  rw [hx.performs _ (by decide), (State.perform_auth (s := s.asked dt h x) hx.serves).2.2, State.authService, if_neg (by omega),
    if_neg (by rw [hx.free hfree]; decide), hchallenge', hx.taken_number]
  exact if_congr hjudged rfl rfl

theorem authService_decides (dt : Nat) (h : IdpHead) (signature : List Octet) (x : Session) (c : Challenge) (s : State) (htakes : Takes s 4)
    (hserves : s.reg .SYS_STATE = 3) (hcheck : h.checkOk = true) (hsession : s.session h.session = some x)
    (hsource : x.source = h.source ∧ x.source.transport = 0) (huntagged : x.key = none ∧ h.tag = none) (hseq : h.seq = (x.lastSeq + 1) % 2 ^ 32)
    (hidle : x.running = none) (hchallenge : x.challenge = some c) (hlength : signature.length = 64)
    (hfree : (s.elapse dt).lockedOut h.source = false) (hfresh : (s.elapse dt).now ≤ c.expiry) :
    Completes (.authService dt h signature) s fun s0 t =>
      ((Config.ecdsaVerify (s.slotKey c.slot) (c.text ++ c.clientKey) signature = true → t.session h.session = some
          { x with lastMessage := s.ticks + dt, lastSeq := h.seq, stored := some ⟨0x06, h.seq, 0, leOctets 1 2 ++ leOctets 2 (s.reg .DIC_SERVICE_WINDOW_S)⟩, running := none, waits := [], challenge := none, level := 2, key := some (sha256 (Config.ecdhSharedX c.unitKey c.clientKey ++ slice c.text 16 32)), windowEnd := some (s.ticks + dt + usTicks (s.reg .DIC_SERVICE_WINDOW_S * 1000000)) } ∧
          Posted t 0x1004 4 (h.session + c.slot * 2 ^ 16)) ∧
        (Config.ecdsaVerify (s.slotKey c.slot) (c.text ++ c.clientKey) signature = false → t.session h.session = some
          { x with lastMessage := s.ticks + dt, lastSeq := h.seq, stored := some ⟨0x06, h.seq, 13, []⟩, running := none, waits := [], challenge := none } ∧
          Posted t 0x1006 4 (h.session + 2 ^ 16) ∧ t.reg .DICCNT_AUTH_SERVICE_FAIL = (s.reg .DICCNT_AUTH_SERVICE_FAIL + 1) % 2 ^ 32 ∧
          t.out = [.idp h.source (idpOctets (0x06 + 128) h.session h.seq 13 [] none)])) ∧
      OnlyChanges [.idp, .drum, .log] (andDrum (blocks [1])) s0 t := by
  have hx : NextRequest h x s := ⟨hserves, hcheck, hsession, hsource, huntagged, hseq, hidle⟩
  have heffect := authService_effect hx hchallenge hlength hfree hfresh
  have hspent : (s.spent dt h x).session h.session = some { x.taken (s.ticks + dt) h.seq with challenge := none } :=
    State.session_modSession (f := fun y => { y with challenge := none }) hx.taken fun _ hy => hy
  have hchanges : OnlyChanges [.idp] noRegs (s.elapse dt) (s.spent dt h x) := NextRequest.changes.modIdp _ (by decide)
  cases hverified : Config.ecdsaVerify (s.slotKey c.slot) (c.text ++ c.clientKey) signature with
  | false =>
    rw [if_pos hverified] at heffect
    obtain ⟨hleft, hcount, hposted, hout, hmoved⟩ := State.failAuth_ended (dt := dt) (op := 0x06) (arg := h.session + 2 ^ 16) (source := x.source)
      (fail := .DICCNT_AUTH_SERVICE_FAIL) htakes hchanges rfl hspent hsource.2 (by simp)
    refine completes_of_effect (dt := dt) rfl (exec_authService ..) heffect
      ⟨⟨fun h => absurd h (by simp), fun _ => ⟨hleft, hposted, hcount, ?_⟩⟩, hmoved⟩
    rw [hout, ← hsource.1, ← huntagged.1]; rfl
  | true =>
    rw [if_neg (by simp [hverified])] at heffect
    obtain ⟨hquiet, hmin⟩ := htakes
    let raise : Session → Session := fun y => { y with
      level := 2, key := some (sha256 (Config.ecdhSharedX c.unitKey c.clientKey ++ slice c.text 16 32)),
      windowEnd := some (s.ticks + dt + usTicks (s.reg .DIC_SERVICE_WINDOW_S * 1000000)) }
    let raised := (s.spent dt h x).modSession h.session raise
    let posted := raised.post 0x1004 4 (h.session + c.slot * 2 ^ 16)
    let u := posted.answer h.session 0x06 0 (leOctets 1 2 ++ leOctets 2 (s.reg .DIC_SERVICE_WINDOW_S))
    have hraised : posted.session h.session = some (raise { x.taken (s.ticks + dt) h.seq with challenge := none }) :=
      (State.session_of_idp (congrArg Idp.sessions (State.post_idp ..)) _).trans (State.session_modSession hspent fun _ hy => hy)
    have hanswered : Answered h.session posted u := State.answer_answered hraised hsource.2 ..
    have hmoved : OnlyChanges [.idp, .drum, .log] (blocks [1]) (s.elapse dt) u :=
      (((hchanges.mono (by decide) fun r hr => by cases hr).modIdp _ (by decide)).post _ _ _ (by decide) (by decide)).trans
        (hanswered.changes.mono (by decide) fun r hr => by cases hr)
    obtain ⟨hleft, -⟩ := State.answer_ended (s := s) (dt := dt) (op := 0x06) (status := 0)
      (payload := leOctets 1 2 ++ leOctets 2 (s.reg .DIC_SERVICE_WINDOW_S)) hraised hsource.2 (by simp) (State.post_out ..)
    refine completes_of_effect (dt := dt) (u := u) rfl (exec_authService ..) heffect
      ⟨⟨fun _ => ⟨hleft, ?_⟩, fun h => absurd h (by simp)⟩, hmoved.ended (by decide) (by decide)⟩
    refine posted_ended_last (v := raised) (hanswered.changes.1 .drum (by decide)) ?_ (.inl ?_)
    · rw [State.posted_of_drum (s := begun s dt) (t := raised) rfl, State.posted_of_quiet dt hquiet]; decide
    · rwa [hmoved.2 .DRM_MIN_PRIORITY (by decide) (by decide)]

/-- Settles O46, command by command. `NextRequest` is what the clauses ask of a request; a failure of either authentication leaves what
`State.failAuth_ended` says. -/
theorem authenticationRaisesLevels : Obligations.AuthenticationRaisesLevels :=
  ⟨authOperator_raises, authOperator_refuses, authOperator_refusesLockedOut, challenge_opens, authService_decides⟩

end Sys2Proof.Proofs


namespace Sys2Proof.Machine

/-! Who drives what is tied (R342, R419, R443) -/

@[simp] theorem begun_twin (s : State) (dt : Nat) : (begun s dt).twin = s.twin := rfl
@[simp] theorem ended_twin (s u : State) (dt : Nat) : (ended s dt u).twin = u.twin := u.settle_twin

/-- What follows who drives: the tied rail groups of Lantern and the DMX ports move, with one counter, and nothing is sent. -/
structure TiedStep (s t : State) : Prop where
  changes : OnlyChanges [.lantern, .smap, .drum] (blocks [9, 12]) s t
  out : t.out = s.out
  incoming : s.drum.incoming <+: t.drum.incoming
  posted : t.posted ≤ s.posted + 1

theorem State.showDmx_keeps (s : State) {port : Nat} (hport : port < 8) :
    OnlyChanges [.smap] (blocks [12]) s (s.showDmx port) ∧ (s.showDmx port).out = s.out := by
  have hsub : (Reg.DMX_STATE port).sub < 1024 := by interval_cases port <;> decide
  have hblock : blocks [12] (.DMX_STATE port) = true := by interval_cases port <;> decide
  have hset : ∀ v, OnlyChanges [.smap] (blocks [12]) s (s.setReg (.DMX_STATE port) v) ∧ (s.setReg (.DMX_STATE port) v).out = s.out := fun v =>
    ⟨(onlyChanges_refl s).setReg _ v hsub hblock, State.setReg_out ..⟩
  unfold State.showDmx
  extract_lets p
  split
  · exact hset _
  · split
    · split
      · exact ⟨((onlyChanges_refl s).modDmx _ _ (by decide)).setReg _ _ hsub hblock, by rw [State.setReg_out]; rfl⟩
      · exact hset _
    · exact hset _

theorem State.showAllDmx_keeps (s : State) : OnlyChanges [.smap] (blocks [12]) s s.showAllDmx ∧ s.showAllDmx.out = s.out :=
  List.foldlRecOn (motive := fun u : State => OnlyChanges [.smap] (blocks [12]) s u ∧ u.out = s.out) _ _ ⟨onlyChanges_refl s, rfl⟩
    fun u ⟨hchanges, hout⟩ _ hport =>
      have hstep := u.showDmx_keeps (List.mem_range.1 hport)
      ⟨hchanges.trans hstep.1, hstep.2.trans hout⟩

theorem State.tiedUpdate_tiedStep (s : State) : TiedStep s s.tiedUpdate := by
  have hmoved : ∀ t : State, OnlyChanges [.lantern, .smap, .drum] (blocks [9, 12]) s t → t.out = s.out → s.drum.incoming <+: t.drum.incoming →
      t.posted ≤ s.posted + 1 → TiedStep s t.showAllDmx := fun t hchanges hout hincoming hposted => by
    obtain ⟨hdmx, hdmxOut⟩ := t.showAllDmx_keeps
    have hdrum : t.showAllDmx.drum = t.drum := hdmx.1 .drum (by decide)
    refine ⟨hchanges.trans (hdmx.mono (by decide) fun r hr => ?_), hdmxOut.trans hout, by rwa [hdrum], by rwa [State.posted_of_drum hdrum]⟩
    exact blocks_iff.2 (List.mem_cons_of_mem _ (blocks_iff.1 hr))
  have hsame : ∀ f : Lantern → Lantern, TiedStep s (s.modLantern f).showAllDmx := fun f =>
    hmoved _ ((onlyChanges_refl s).modLantern f (by decide)) rfl (List.prefix_refl _) (Nat.le_succ _)
  unfold State.tiedUpdate
  split
  · unfold State.tiedGain
    split
    · exact hmoved s (onlyChanges_refl s) rfl (List.prefix_refl _) (Nat.le_succ _)
    · exact hsame _
  · unfold State.tiedRelease
    split
    · exact hmoved _ (((onlyChanges_refl s).modLantern _ (by decide)).count _ _ (by decide) (by decide) (by decide)) (State.count_out ..)
        ((s.modLantern _).count_incoming ..) ((s.modLantern _).posted_count ..)
    · exact hsame _

/-! States of a Twin unit entered (R439, R443) -/

/-- The elements that follow the state of a unit, and those that follow who drives. -/
def stateRegs (r : Reg) : Bool := blocks [9, 12] r || among [.TWN_STATE, .TWN_CLAIM, .SPL_CLAIM_SENT] r

theorem stateRegs_blocks {r : Reg} (h : stateRegs r = true) : blocks [8, 9, 12, 13] r = true := by
  obtain h | h := Bool.or_eq_true_iff.1 h
  · rw [blocks_iff] at h ⊢
    simp only [List.mem_cons, List.not_mem_nil, or_false] at h ⊢
    tauto
  · simp only [among_iff, List.mem_cons, List.not_mem_nil, or_false] at h
    obtain rfl | rfl | rfl := h <;> decide

/-- A state entered, with its claim on every output, and what follows who drives. -/
structure EntersTwin (n : Nat) (s t : State) : Prop where
  changes : OnlyChanges [.twin, .lantern, .smap, .drum] stateRegs s t
  state : t.reg .TWN_STATE = n
  claim : t.reg .TWN_CLAIM =
    claimOf n (s.reg .TWN_CLAIM_ACTIVE) (s.reg .TWN_CLAIM_STANDBY) (s.reg .TWN_DEDUCTION) % 2 ^ dictBits .TWN_CLAIM
  claimSent : t.reg .SPL_CLAIM_SENT = t.reg .TWN_CLAIM
  twin : t.twin = { s.twin with yieldSince := none }
  out : t.out = s.out
  incoming : s.drum.incoming <+: t.drum.incoming
  posted : t.posted ≤ s.posted + 1

/-- The claim of a unit, by its state, its two claims and D (R439). -/
def State.claimNow (s : State) : Nat :=
  claimOf (s.reg .TWN_STATE) (s.reg .TWN_CLAIM_ACTIVE) (s.reg .TWN_CLAIM_STANDBY) (s.reg .TWN_DEDUCTION) % 2 ^ dictBits .TWN_CLAIM

theorem State.claimFollows_claim (s : State) : s.claimFollows.reg .TWN_CLAIM = s.claimNow := by
  rw [State.claimFollows, State.reg_setReg_key _ _ _ _ (by decide), State.reg_setReg_same _ _ _ (by decide)]
  rfl

theorem State.claimFollows_sent (s : State) : s.claimFollows.reg .SPL_CLAIM_SENT = s.claimNow := by
  rw [State.claimFollows, State.reg_setReg_same _ _ _ (by decide)]
  rfl

theorem State.claimFollows_reg (s : State) {r : Reg} (hclaim : r.key ≠ Reg.TWN_CLAIM.key) (hsent : r.key ≠ Reg.SPL_CLAIM_SENT.key) :
    s.claimFollows.reg r = s.reg r := by
  rw [State.claimFollows, State.reg_setReg_key _ _ _ _ hsent, State.reg_setReg_key _ _ _ _ hclaim]

theorem State.enterTwin_entersTwin (s : State) {n : Nat} (hn : n < 256) : EntersTwin n s (s.enterTwin n) := by
  let stated := (s.setReg .TWN_STATE n).modTwin fun t => { t with yieldSince := none }
  let claimed := stated.claimFollows
  have hclaimed : OnlyChanges [.twin, .lantern, .smap, .drum] stateRegs s claimed :=
    ((((onlyChanges_refl s).setReg .TWN_STATE n (by decide) (by decide)).modTwin _ (by decide)).setReg .TWN_CLAIM _ (by decide)
      (by decide)).setReg .SPL_CLAIM_SENT _ (by decide) (by decide)
  have htied : TiedStep claimed (s.enterTwin n) := claimed.tiedUpdate_tiedStep
  have hdrum : claimed.drum = s.drum := by
    simp [claimed, stated, State.claimFollows]
  have hstated : ∀ r : Reg, r.key ≠ Reg.TWN_STATE.key → stated.reg r = s.reg r := fun r hr => State.reg_setReg_key _ _ _ _ hr
  have hnow : stated.reg .TWN_STATE = n := by
    rw [State.modTwin_reg, State.reg_setReg_same _ _ _ (by decide)]
    exact Nat.mod_eq_of_lt hn
  have hclaim : stated.claimNow =
      claimOf n (s.reg .TWN_CLAIM_ACTIVE) (s.reg .TWN_CLAIM_STANDBY) (s.reg .TWN_DEDUCTION) % 2 ^ dictBits .TWN_CLAIM := by
    rw [State.claimNow, hnow, hstated _ (by decide), hstated _ (by decide), hstated _ (by decide)]
  exact {
    changes := hclaimed.trans (htied.changes.mono (by decide) fun r hr => Bool.or_eq_true_iff.2 (.inl hr))
    state := by rw [htied.changes.2 _ (by decide) (by decide), stated.claimFollows_reg (by decide) (by decide), hnow]
    claim := by rw [htied.changes.2 _ (by decide) (by decide), stated.claimFollows_claim, hclaim]
    claimSent := by
      rw [htied.changes.2 _ (by decide) (by decide), htied.changes.2 _ (by decide) (by decide), stated.claimFollows_sent, stated.claimFollows_claim]
    twin := by
      rw [htied.changes.1 .twin (by decide)]
      simp [claimed, stated, State.claimFollows]
    out := htied.out.trans (by simp [claimed, stated, State.claimFollows])
    incoming := by rw [← hdrum]; exact htied.incoming
    posted := by rw [← State.posted_of_drum hdrum]; exact htied.posted }

/-! Messages of the mirror link (R445 to R447) -/

theorem mirrorUp_of_state {s : State} (h : s.reg .TWN_MIR_STATE = 2) : s.mirrorUp = true := by simp [State.mirrorUp, h]

theorem State.sendMirror_of_acked {s : State} {kind : Nat} (payload : List Octet) (hup : s.reg .TWN_MIR_STATE = 2) (hacked : mirrorAcked kind = true) :
    s.sendMirror kind payload = (s.modTwin fun t => { t with
      txSeq := nextMseq s.twin.txSeq, sent := t.sent ++ [⟨kind, s.twin.txSeq, payload, s.ticks, 0⟩] }).emit (.mirror kind s.twin.txSeq payload) := by
  rw [State.sendMirror, if_neg (by simp [mirrorUp_of_state hup]), if_pos hacked]

/-- The acknowledgement of a message. -/
theorem State.sendMirror_ack {s : State} (payload : List Octet) (hup : s.reg .TWN_MIR_STATE = 2) :
    s.sendMirror 0x01 payload = s.emit (.mirror 0x01 0 payload) := by
  rw [State.sendMirror, if_neg (by simp [mirrorUp_of_state hup]), if_neg (by decide)]

/-- A message without acknowledgement whose check agrees is taken while the mirror link is up. -/
theorem State.mirrorLight_of_ok {s : State} {m : MirMessage} (f : State → State) (hup : s.reg .TWN_MIR_STATE = 2) (hcheck : m.checkOk = true) :
    s.mirrorLight m f = f s := by
  rw [State.mirrorLight, if_neg (by simp [mirrorUp_of_state hup]), if_neg (by simp [hcheck])]

/-! The loss of the partner, and takeover (R441, R458, R459) -/

/-- The partner forgotten once both its paths are silent, its loss posted. -/
def State.forgetPartner (s : State) : State :=
  ((((s.setReg .TWN_PARTNER_CLAIM 0).setReg .TWN_PARTNER_EUI64 0).setReg .TWN_FLAGS (s.reg .TWN_FLAGS / 4 * 4)).modTwin fun t => { t with
    lastWseq := none, wordAt := none, beatAt := none, partnerState := 0, yieldSince := none, admission := none }).post 0xD003 6
      (s.twin.partnerState % 8)

theorem State.forgetPartner_changes (s : State) :
    OnlyChanges [.twin, .drum] (among [.TWN_PARTNER_CLAIM, .TWN_PARTNER_EUI64, .TWN_FLAGS]) s s.forgetPartner :=
  (((((onlyChanges_refl s).setReg _ _ (by decide) (by decide)).setReg _ _ (by decide) (by decide)).setReg _ _ (by decide) (by decide)).modTwin _
    (by decide)).post _ _ _ (by decide) (by decide)

theorem State.forgetPartner_claim (s : State) : s.forgetPartner.reg .TWN_PARTNER_CLAIM = 0 := by
  rw [State.forgetPartner, State.reg_post_low _ _ _ _ _ (by decide), State.modTwin_reg, State.reg_setReg_key _ _ _ _ (by decide),
    State.reg_setReg_key _ _ _ _ (by decide), State.reg_setReg_same _ _ _ (by decide)]
  exact Nat.zero_mod _

@[simp] theorem State.forgetPartner_out (s : State) : s.forgetPartner.out = s.out := by simp [State.forgetPartner]

@[simp] theorem State.forgetPartner_twin (s : State) : s.forgetPartner.twin = { s.twin with
    lastWseq := none, wordAt := none, beatAt := none, partnerState := 0, yieldSince := none, admission := none } := by simp [State.forgetPartner]

@[simp] theorem State.forgetPartner_incoming (s : State) :
    s.forgetPartner.drum.incoming = s.drum.incoming ++ [[⟨.single, 6, 0xD003, s.twin.partnerState % 8 % 2 ^ 42⟩]] := by simp [State.forgetPartner]

theorem State.forgetPartner_posted (s : State) : s.forgetPartner.posted = s.posted + 1 :=
  (State.posted_post ..).trans (congrArg (· + 1) (State.posted_of_drum (by simp)))

/-- A partner whose paths are both silent is lost (R441). -/
theorem partnerLost_effect {dt : Nat} {s : State} (hheard : s.twin.wordAt.isSome ∨ s.twin.beatAt.isSome)
    (hword : (begun s dt).silent s.twin.wordAt = true) (hbeat : (begun s dt).silent s.twin.beatAt = true) :
    exec (.partnerLost dt) s = run s dt fun s => s.forgetPartner.settleTwin.tiedUpdate :=
  run_congr (if_pos ⟨hheard, hword, hbeat⟩)

/-- What a takeover leaves of a unit without epochs: the Active claim, and the numbering of writes from its own (R458). -/
structure TakesOver (s t : State) : Prop where
  changes : OnlyChanges [.twin, .lantern, .smap, .belfry, .drum] (fun r => stateRegs r || blocks [5] r || among [.TWNCNT_TAKEOVERS] r) s t
  entered : ∃ u, EntersTwin 5 s u ∧ t.reg .TWN_STATE = u.reg .TWN_STATE ∧ t.reg .TWN_CLAIM = u.reg .TWN_CLAIM ∧
    t.reg .SPL_CLAIM_SENT = u.reg .SPL_CLAIM_SENT
  count : t.reg .TWNCNT_TAKEOVERS = (s.reg .TWNCNT_TAKEOVERS + 1) % 2 ^ 32
  twin : t.twin = { s.twin with yieldSince := none, lastDseq := s.reg .TWN_DSEQ, join := none }

/-- With no operation in its slots, Belfry has none to put in another queue. -/
theorem State.reprioritise_of_empty {s : State} (h : s.belfry.slots = []) : s.reprioritise = s := by
  simp [State.reprioritise, h, sortBy]

/-- A unit that has entered Active and numbers writes from its own. -/
def State.sequences (s : State) : State := (s.enterTwin 5).modTwin fun t => { t with lastDseq := s.reg .TWN_DSEQ, join := none }

/-- A takeover with no epoch in flight supersedes none (R458). -/
theorem State.takeover_of_empty {s : State} (hepochs : s.epochs = []) (hslots : s.belfry.slots = []) (hstate : s.reg .TWN_STATE ≠ 3) :
    ∃ a, s.takeover = (s.sequences.showQueues.count .TWNCNT_TAKEOVERS).post 0xD004 5 a := by
  have hgone : s.outOfStep = [] := by simp [State.outOfStep, hepochs]
  have hentered : EntersTwin 5 s (s.enterTwin 5) := s.enterTwin_entersTwin (by decide)
  have hbelfry : (s.enterTwin 5).belfry = s.belfry := hentered.changes.1 .belfry (by decide)
  have hslots' : s.sequences.belfry.slots = [] := by rw [State.sequences, State.modTwin_belfry, hbelfry, hslots]
  unfold State.takeover
  extract_lets gone next stepped s1 s2 s3
  have hs3 : s3 = s.sequences := by simp only [s3, if_neg hstate, s2, gone, hgone, List.foldl_nil]; rfl
  rw [hs3, State.reprioritise_of_empty hslots']
  exact ⟨_, rfl⟩

theorem State.takeover_takesOver {s : State} (hepochs : s.epochs = []) (hslots : s.belfry.slots = []) (hstate : s.reg .TWN_STATE ≠ 3) :
    TakesOver s s.takeover := by
  have hentered : EntersTwin 5 s (s.enterTwin 5) := s.enterTwin_entersTwin (by decide)
  have hshown : BelfryStep s.sequences s.sequences.showQueues := (BelfryStep.refl _).showQueues
  obtain ⟨a, htaken⟩ := State.takeover_of_empty hepochs hslots hstate
  have hreg : ∀ r : Reg, r.sub < 1024 → blocks [5] r = false → r.key ≠ Reg.TWNCNT_TAKEOVERS.key → r.key ≠ Reg.DRM_FAULT_SUMMARY.key →
      s.takeover.reg r = (s.enterTwin 5).reg r := fun r hsub hblock hkey hsummary => by
    rw [htaken, State.reg_post_low _ _ _ _ _ (by decide), State.reg_count_other _ _ _ _ hkey hsummary, hshown.changes.2 _ hsub hblock,
      State.sequences, State.modTwin_reg]
  exact {
    changes := by
      rw [htaken]
      refine ((((hentered.changes.mono (by decide) fun r hr => ?_).modTwin _ (by decide)).trans (hshown.changes.mono (by decide) fun r hr => ?_)).count
        _ _ (by decide) (by decide) (by decide)).post _ _ _ (by decide) (by decide)
      · simp [hr]
      · simp [hr]
    entered := ⟨_, hentered, hreg _ (by decide) (by decide) (by decide) (by decide), hreg _ (by decide) (by decide) (by decide) (by decide),
      hreg _ (by decide) (by decide) (by decide) (by decide)⟩
    count := by
      rw [htaken, State.reg_post_low _ _ _ _ _ (by decide), State.reg_count_same _ _ _ (by decide) (by decide),
        hshown.changes.2 _ (by decide) (by decide), State.sequences, State.modTwin_reg, hentered.changes.2 _ (by decide) (by decide)]
      rfl
    twin := by
      rw [htaken, State.post_twin, State.count_twin, hshown.changes.1 .twin (by decide), State.sequences, State.modTwin_twin, hentered.twin] }

/-! Claims of the partner (R441, R442) -/

/-- The partner's claim and state noted. -/
def State.notePartner (s : State) (claim state : Nat) : State :=
  ((s.setReg .TWN_PARTNER_CLAIM claim).setReg .TWN_PARTNER_EUI64 s.twin.partnerEui).modTwin fun t => { t with partnerState := state }

theorem OnlyChanges.notePartner {parts : List Part} {regs : Reg → Bool} {s t : State} (h : OnlyChanges parts regs s t) (claim state : Nat)
    (htwin : .twin ∈ parts) (hclaim : regs .TWN_PARTNER_CLAIM = true) (heui : regs .TWN_PARTNER_EUI64 = true) :
    OnlyChanges parts regs s (t.notePartner claim state) :=
  ((h.setReg _ _ (by decide) hclaim).setReg _ _ (by decide) heui).modTwin _ htwin

@[simp] theorem State.notePartner_twin (s : State) (claim state : Nat) :
    (s.notePartner claim state).twin = { s.twin with partnerState := state } := by simp [State.notePartner]
@[simp] theorem State.notePartner_out (s : State) (claim state : Nat) : (s.notePartner claim state).out = s.out := by simp [State.notePartner]
@[simp] theorem State.notePartner_drum (s : State) (claim state : Nat) : (s.notePartner claim state).drum = s.drum := by simp [State.notePartner]

theorem State.notePartner_claim (s : State) (claim state : Nat) :
    (s.notePartner claim state).reg .TWN_PARTNER_CLAIM = claim % 2 ^ dictBits .TWN_PARTNER_CLAIM := by
  rw [State.notePartner, State.modTwin_reg, State.reg_setReg_key _ _ _ _ (by decide), State.reg_setReg_same _ _ _ (by decide)]

theorem State.notePartner_reg (s : State) (claim state : Nat) {r : Reg} (hclaim : r.key ≠ Reg.TWN_PARTNER_CLAIM.key)
    (heui : r.key ≠ Reg.TWN_PARTNER_EUI64.key) : (s.notePartner claim state).reg r = s.reg r := by
  rw [State.notePartner, State.modTwin_reg, State.reg_setReg_key _ _ _ _ heui, State.reg_setReg_key _ _ _ _ hclaim]

/-- An Alone unit stays so, whatever the partner claims (R442). -/
theorem State.settleTwin_of_alone {s : State} (h : s.reg .TWN_STATE = 2) : s.settleTwin = s := by simp [State.settleTwin, h]

theorem State.partnerClaim_of_alone {s : State} (claim state : Nat) (h : s.reg .TWN_STATE = 2) :
    s.partnerClaim claim state = (s.notePartner claim state).tiedUpdate :=
  congrArg State.tiedUpdate (State.settleTwin_of_alone ((s.notePartner_reg claim state (by decide) (by decide)).trans h))

/-- A unit past Starting waits for no admission (R444). -/
theorem State.admitLate_of_started {s : State} (h : s.reg .TWN_STATE ≠ 1) : s.admitLate = s := by
  unfold State.admitLate
  split
  · exact if_neg fun hx => h hx.1
  · rfl

/-- What a heartbeat says of the partner noted (R446). -/
def State.noteBeat (s : State) (p : List Octet) : State := (s.setBit .TWN_FLAGS 1 true).modTwin fun t => { t with
  beatAt := some s.ticks, partnerD := ofLe (slice p 1 1), partnerEpoch := ofLe (slice p 2 2), partnerDseq := ofLe (slice p 4 4) }

/-- A heartbeat to an Alone unit is a claim of its partner, and no more (R441, R451). -/
theorem State.beatMessage_of_alone {s : State} (m : MirMessage)
    (h : ((s.noteBeat m.payload).partnerClaim m.claim (ofLe (m.payload.take 1))).reg .TWN_STATE = 2) :
    s.beatMessage m = ((s.noteBeat m.payload).partnerClaim m.claim (ofLe (m.payload.take 1))).watchYield := by
  unfold State.beatMessage
  extract_lets p dseq first s1 behind
  have hstate : s1.reg .TWN_STATE = 2 := h
  rw [if_neg (by simp [hstate]), State.admitLate_of_started (by omega)]
  rfl

/-- What a command leaves that ends with what follows who drives, where nothing was sent before. -/
theorem TiedStep.ended_reg {s mid u : State} {dt : Nat} (h : TiedStep mid u) (r : Reg) (hsub : r.sub < 1024) (hdrum : drumRegs r = false)
    (hblocks : blocks [9, 12] r = false) : (Machine.ended s dt u).reg r = mid.reg r :=
  (Machine.ended_reg _ _ _ _ hsub hdrum).trans (h.changes.2 r hsub hblocks)

theorem TiedStep.ended_twin {s mid u : State} {dt : Nat} (h : TiedStep mid u) : (Machine.ended s dt u).twin = mid.twin :=
  (Machine.ended_twin ..).trans (h.changes.1 .twin (by decide))

theorem TiedStep.ended_out {s mid u : State} {dt : Nat} (h : TiedStep mid u) : (Machine.ended s dt u).out = mid.out :=
  (Machine.ended_out ..).trans h.out

/-- What the claims of an Alone unit's partner may move. -/
theorem TiedStep.ended_changes {s mid u : State} {dt : Nat} (h : TiedStep mid u)
    (hmid : OnlyChanges [.twin, .lantern, .smap, .drum, .log] (blocks [8, 9, 12, 13]) (s.elapse dt) mid) :
    OnlyChanges [.twin, .lantern, .smap, .drum, .log] (andDrum (blocks [8, 9, 12, 13])) (s.elapse dt) (Machine.ended s dt u) :=
  (hmid.trans (h.changes.mono (by decide) fun r hr => stateRegs_blocks (Bool.or_eq_true_iff.2 (.inl hr)))).ended (by decide) (by decide)

end Sys2Proof.Machine

namespace Sys2Proof.Proofs

open Machine

/-! CLAIM_WORD_RECEIVE, HEARTBEAT, PARTNER_LOST, CLAIM_LINE_LOSS, the mirror link, resends and ACK (R437 to R460) -/

theorem exec_claimWordReceive (dt word : Nat) (s : State) : exec (.claimWordReceive dt word) s = execClaimWordReceive dt word s := rfl
theorem exec_mirrorHeartbeat (dt : Nat) (m : MirMessage) (s : State) : exec (.mirrorHeartbeat dt m) s = execMirrorHeartbeat dt m s := rfl
theorem exec_partnerLost (dt : Nat) (s : State) : exec (.partnerLost dt) s = execPartnerLost dt s := rfl
theorem exec_claimLineLoss (dt : Nat) (s : State) : exec (.claimLineLoss dt) s = execClaimLineLoss dt s := rfl
theorem exec_mirrorLinkUp (dt : Nat) (s : State) : exec (.mirrorLinkUp dt) s = execMirrorLinkUp dt s := rfl
theorem exec_mirrorLinkDown (dt : Nat) (s : State) : exec (.mirrorLinkDown dt) s = execMirrorLinkDown dt s := rfl
theorem exec_mirrorResend (dt : Nat) (s : State) : exec (.mirrorResend dt) s = execMirrorResend dt s := rfl
theorem exec_mirrorAck (dt : Nat) (m : MirMessage) (s : State) : exec (.mirrorAck dt m) s = execMirrorAck dt m s := rfl

theorem claimWordReceive_takesClaim (dt word : Nat) (s : State) (halone : s.reg .TWN_STATE = 2) (hfirst : s.twin.lastWseq = none)
    (hvalid : field word 31 28 = 13 ∧ field word 7 0 = crcOf crc8 (beOctets 3 (field word 31 8))) :
    Completes (.claimWordReceive dt word) s fun s0 t => t.reg .TWN_PARTNER_CLAIM = field word 27 20 ∧ t.twin.partnerState = field word 19 17 ∧
      t.twin.lastWseq = some (field word 15 8) ∧ t.twin.wordAt = some (s.ticks + dt) ∧ bitOf (t.reg .TWN_FLAGS) 0 = true ∧
      t.reg .TWN_STATE = 2 ∧ t.out = [] ∧ OnlyChanges [.twin, .lantern, .smap, .drum, .log] (andDrum (blocks [8, 9, 12, 13])) s0 t := by
  obtain ⟨hkind, hcheck⟩ := hvalid
  let heard := ((begun s dt).setBit .TWN_FLAGS 0 true).modTwin fun t => { t with
    lastWseq := some (field word 15 8), wordAt := some (s.ticks + dt) }
  let mid := heard.notePartner (field word 27 20) (field word 19 17)
  have hstate : heard.reg .TWN_STATE = 2 := (State.reg_setReg_key _ _ _ _ (by decide)).trans halone
  have htied : TiedStep mid mid.tiedUpdate := mid.tiedUpdate_tiedStep
  have hmid : OnlyChanges [.twin, .lantern, .smap, .drum, .log] (blocks [8, 9, 12, 13]) (s.elapse dt) mid :=
    (((onlyChanges_begun s dt).setBit .TWN_FLAGS _ _ (by decide) (by decide)).modTwin _ (by decide)).notePartner _ _ (by decide) (by decide) (by decide)
  have htwin : mid.twin = { s.twin with lastWseq := some (field word 15 8), wordAt := some (s.ticks + dt), partnerState := field word 19 17 } := by
    simp [mid, heard]
  refine completes_of_effect (dt := dt) (u := mid.tiedUpdate) rfl (exec_claimWordReceive ..) ?_ ⟨?_, ?_, ?_, ?_, ?_, ?_, ?_, htied.ended_changes hmid⟩
  · rw [← State.partnerClaim_of_alone (s := heard) _ _ hstate, begun_twin, hfirst]
    exact if_pos (by simp [hkind, hcheck])
  · rw [htied.ended_reg _ (by decide) (by decide) (by decide), State.notePartner_claim]
    exact Nat.mod_eq_of_lt (Nat.mod_lt _ (by decide))
  · rw [htied.ended_twin, htwin]
  · rw [htied.ended_twin, htwin]
  · rw [htied.ended_twin, htwin]
  · rw [htied.ended_reg _ (by decide) (by decide) (by decide), State.notePartner_reg _ _ _ (by decide) (by decide), State.modTwin_reg,
      State.bitOf_setBit_same _ _ (by decide)]
  · rw [htied.ended_reg _ (by decide) (by decide) (by decide), State.notePartner_reg _ _ _ (by decide) (by decide), hstate]
  · rw [htied.ended_out]
    simp [mid, heard]

theorem claimWordReceive_countsError (dt word : Nat) (s : State)
    (hinvalid : field word 31 28 ≠ 13 ∨ field word 7 0 ≠ crcOf crc8 (beOctets 3 (field word 31 8))) :
    Completes (.claimWordReceive dt word) s fun s0 t =>
      t.reg .TWNCNT_CLAIM_WORD_ERRORS = (s.reg .TWNCNT_CLAIM_WORD_ERRORS + 1) % 2 ^ 32 ∧ t.out = [] ∧
      OnlyChanges [.drum, .log] (andDrum (among [.TWNCNT_CLAIM_WORD_ERRORS])) s0 t := by
  refine completes_of_effect (dt := dt) (u := (begun s dt).count .TWNCNT_CLAIM_WORD_ERRORS) rfl (exec_claimWordReceive ..) ?_ ⟨?_, ?_, ?_⟩
  · have hfails : ∀ next : Bool, ¬((field word 31 28 == 13 && field word 7 0 == crcOf crc8 (beOctets 3 (field word 31 8)) && next) = true) :=
      fun next h => by
        simp only [Bool.and_eq_true, beq_iff_eq] at h
        exact hinvalid.elim (fun hkind => hkind h.1.1) fun hcheck => hcheck h.1.2
    exact if_neg (hfails _)
  · rw [ended_reg _ _ _ _ (by decide) (by decide), State.reg_count_same _ _ _ (by decide) (by decide)]; rfl
  · rw [ended_out, State.count_out]; rfl
  · exact ((onlyChanges_begun s dt).count _ _ (by decide) (by decide) (by decide)).ended (by decide) (by decide)

theorem mirrorHeartbeat_takesClaim (dt : Nat) (m : MirMessage) (s : State) (halone : s.reg .TWN_STATE = 2) (hup : s.reg .TWN_MIR_STATE = 2)
    (hcheck : m.checkOk = true) :
    Completes (.mirrorHeartbeat dt m) s fun s0 t => t.reg .TWN_PARTNER_CLAIM = m.claim % 2 ^ dictBits .TWN_PARTNER_CLAIM ∧
      bitOf (t.reg .TWN_FLAGS) 1 = true ∧ t.twin.beatAt = some (s.ticks + dt) ∧ t.twin.partnerState = ofLe (m.payload.take 1) ∧
      t.twin.partnerD = ofLe (slice m.payload 1 1) ∧ t.twin.partnerEpoch = ofLe (slice m.payload 2 2) ∧
      t.twin.partnerDseq = ofLe (slice m.payload 4 4) ∧ t.out = [] ∧
      OnlyChanges [.twin, .lantern, .smap, .drum, .log] (andDrum (blocks [8, 9, 12, 13])) s0 t := by
  let heard := (begun s dt).noteBeat m.payload
  let mid := heard.notePartner m.claim (ofLe (m.payload.take 1))
  let taken := mid.tiedUpdate
  have hstate : heard.reg .TWN_STATE = 2 := (State.reg_setReg_key _ _ _ _ (by decide)).trans halone
  have htied : TiedStep mid taken := mid.tiedUpdate_tiedStep
  have hstate' : taken.reg .TWN_STATE = 2 := by
    rw [htied.changes.2 _ (by decide) (by decide), State.notePartner_reg _ _ _ (by decide) (by decide), hstate]
  have hmid : OnlyChanges [.twin, .lantern, .smap, .drum, .log] (blocks [8, 9, 12, 13]) (s.elapse dt) mid :=
    (((onlyChanges_begun s dt).setBit .TWN_FLAGS _ _ (by decide) (by decide)).modTwin _ (by decide)).notePartner _ _ (by decide) (by decide) (by decide)
  have htwin : taken.twin = { s.twin with
      beatAt := some (s.ticks + dt), partnerD := ofLe (slice m.payload 1 1), partnerEpoch := ofLe (slice m.payload 2 2),
      partnerDseq := ofLe (slice m.payload 4 4), partnerState := ofLe (m.payload.take 1) } := by
    rw [htied.changes.1 .twin (by decide)]
    simp [mid, heard, State.noteBeat]
  have heffect : (begun s dt).beatMessage m = taken.watchYield := by
    have hclaimed : heard.partnerClaim m.claim (ofLe (m.payload.take 1)) = taken := State.partnerClaim_of_alone _ _ hstate
    rw [State.beatMessage_of_alone m (by rw [hclaimed]; exact hstate'), hclaimed]
  refine completes_of_effect (dt := dt) (u := taken.watchYield) rfl (exec_mirrorHeartbeat ..) ?_ ⟨?_, ?_, ?_, ?_, ?_, ?_, ?_, ?_, ?_⟩
  · rw [State.mirrorLight_of_ok (s := begun s dt) _ hup hcheck, heffect]
  · rw [ended_reg _ _ _ _ (by decide) (by decide), State.watchYield, State.modTwin_reg, htied.changes.2 _ (by decide) (by decide),
      State.notePartner_claim]
  · rw [ended_reg _ _ _ _ (by decide) (by decide), State.watchYield, State.modTwin_reg, htied.changes.2 _ (by decide) (by decide),
      State.notePartner_reg _ _ _ (by decide) (by decide)]
    exact State.bitOf_setBit_same (begun s dt) true (by decide)
  · rw [ended_twin, State.watchYield, State.modTwin_twin, htwin]
  · rw [ended_twin, State.watchYield, State.modTwin_twin, htwin]
  · rw [ended_twin, State.watchYield, State.modTwin_twin, htwin]
  · rw [ended_twin, State.watchYield, State.modTwin_twin, htwin]
  · rw [ended_twin, State.watchYield, State.modTwin_twin, htwin]
  · rw [ended_out, State.watchYield, State.modTwin_out, htied.out]
    simp [mid, heard, State.noteBeat]
  · exact ((hmid.trans (htied.changes.mono (by decide) fun r hr => stateRegs_blocks (Bool.or_eq_true_iff.2 (.inl hr)))).modTwin _
      (by decide)).ended (by decide) (by decide)

theorem partnerLost_takesOver (dt x y : Nat) (s : State) (_htakes : Takes s 6) (hstandby : s.reg .TWN_STATE = 4) (hclaim : 0 < s.reg .TWN_CLAIM)
    (hheard : s.twin.wordAt = some x ∧ s.twin.beatAt = some y) (hsilent : x + 8192 ≤ s.ticks + dt ∧ y + 8192 ≤ s.ticks + dt)
    (hempty : s.epochs = [] ∧ s.belfry.slots = []) :
    Completes (.partnerLost dt) s fun _ t => t.reg .TWN_STATE = 5 ∧ t.reg .TWN_PARTNER_CLAIM = 0 ∧
      t.reg .TWN_CLAIM = claimOf 5 (s.reg .TWN_CLAIM_ACTIVE) (s.reg .TWN_CLAIM_STANDBY) (t.reg .TWN_DEDUCTION) % 2 ^ dictBits .TWN_CLAIM ∧
      t.reg .SPL_CLAIM_SENT = t.reg .TWN_CLAIM ∧ t.reg .TWNCNT_TAKEOVERS = (s.reg .TWNCNT_TAKEOVERS + 1) % 2 ^ 32 ∧
      t.twin.wordAt = none ∧ t.twin.beatAt = none ∧ t.twin.lastDseq = s.reg .TWN_DSEQ := by
  obtain ⟨hword, hbeat⟩ := hheard
  obtain ⟨hwordSilent, hbeatSilent⟩ := hsilent
  obtain ⟨hepochs, hslots⟩ := hempty
  let lost := (begun s dt).forgetPartner
  let u := lost.takeover.tiedUpdate
  have hlost : OnlyChanges _ _ (begun s dt) lost := (begun s dt).forgetPartner_changes
  have hstate : lost.reg .TWN_STATE = 4 := (hlost.2 _ (by decide) (by decide)).trans hstandby
  have hsettled : lost.settleTwin = lost.takeover := by
    have hgreater : lost.reg .TWN_PARTNER_CLAIM < lost.reg .TWN_CLAIM := by
      rw [State.forgetPartner_claim, hlost.2 .TWN_CLAIM (by decide) (by decide)]; exact hclaim
    exact if_pos ⟨.inr (.inl hstate), hgreater⟩
  have htaken : TakesOver lost lost.takeover := State.takeover_takesOver ((hlost.1 .epochs (by decide)).trans hepochs)
    ((congrArg Belfry.slots (hlost.1 .belfry (by decide))).trans ((begun_slots ..).trans hslots)) (by omega)
  obtain ⟨v, hentered, hv, hvClaim, hvSent⟩ := htaken.entered
  have htied : TiedStep lost.takeover u := State.tiedUpdate_tiedStep _
  have hreg : ∀ r : Reg, r.sub < 1024 → drumRegs r = false → blocks [9, 12] r = false → (ended s dt u).reg r = lost.takeover.reg r :=
    fun r hsub hdrum hblock => htied.ended_reg r hsub hdrum hblock
  have hdeduction : lost.takeover.reg .TWN_DEDUCTION = lost.reg .TWN_DEDUCTION := htaken.changes.2 _ (by decide) (by decide)
  refine completes_of_effect (dt := dt) (u := u) rfl (partnerLost_effect (.inl (by simp [hword])) ?_ ?_) (congrArg State.tiedUpdate hsettled)
    ⟨?_, ?_, ?_, ?_, ?_, ?_, ?_, ?_⟩
  · rw [hword]; exact Nat.ble_eq_true_of_le hwordSilent
  · rw [hbeat]; exact Nat.ble_eq_true_of_le hbeatSilent
  · rw [hreg _ (by decide) (by decide) (by decide), hv, hentered.state]
  · rw [hreg _ (by decide) (by decide) (by decide), htaken.changes.2 _ (by decide) (by decide), State.forgetPartner_claim]
  · rw [hreg _ (by decide) (by decide) (by decide), hreg _ (by decide) (by decide) (by decide), hvClaim, hentered.claim, hdeduction,
      hlost.2 .TWN_CLAIM_ACTIVE (by decide) (by decide), hlost.2 .TWN_CLAIM_STANDBY (by decide) (by decide)]
    rfl
  · rw [hreg _ (by decide) (by decide) (by decide), hreg _ (by decide) (by decide) (by decide), hvClaim, hvSent, hentered.claimSent]
  · rw [hreg _ (by decide) (by decide) (by decide), htaken.count, hlost.2 _ (by decide) (by decide)]; rfl
  · rw [htied.ended_twin, htaken.twin, State.forgetPartner_twin]
  · rw [htied.ended_twin, htaken.twin, State.forgetPartner_twin]
  · rw [htied.ended_twin, htaken.twin, hlost.2 .TWN_DSEQ (by decide) (by decide)]; rfl

theorem partnerLost_leavesAlone (dt x : Nat) (s : State) (htakes : Takes s 6) (halone : s.reg .TWN_STATE = 2)
    (hheard : s.twin.wordAt = some x ∧ s.twin.beatAt = none) (hsilent : x + 8192 ≤ s.ticks + dt) :
    Completes (.partnerLost dt) s fun s0 t => t.reg .TWN_STATE = 2 ∧ t.reg .TWN_PARTNER_CLAIM = 0 ∧ t.twin.wordAt = none ∧
      t.twin.lastWseq = none ∧ Posted t 0xD003 6 (s.twin.partnerState % 8) ∧ t.out = [] ∧
      OnlyChanges [.twin, .lantern, .smap, .drum, .log] (andDrum (blocks [8, 9, 12, 13])) s0 t := by
  obtain ⟨hquiet, hmin⟩ := htakes
  obtain ⟨hword, hbeat⟩ := hheard
  let lost := (begun s dt).forgetPartner
  let u := lost.tiedUpdate
  have hlost := (begun s dt).forgetPartner_changes
  have hstate : lost.reg .TWN_STATE = 2 := (hlost.2 _ (by decide) (by decide)).trans halone
  have htied : TiedStep lost u := State.tiedUpdate_tiedStep _
  have hmid : OnlyChanges [.twin, .lantern, .smap, .drum, .log] (blocks [8, 9, 12, 13]) (s.elapse dt) lost :=
    (onlyChanges_begun s dt).trans (hlost.mono (by decide) fun r hr => by
      simp only [among_iff, List.mem_cons, List.not_mem_nil, or_false] at hr
      obtain rfl | rfl | rfl := hr <;> decide)
  have hchanges := htied.ended_changes hmid
  refine completes_of_effect (dt := dt) (u := u) rfl (partnerLost_effect (.inl (by simp [hword])) ?_ ?_)
    (congrArg State.tiedUpdate (State.settleTwin_of_alone hstate)) ⟨?_, ?_, ?_, ?_, ?_, ?_, hchanges⟩
  · rw [hword]; exact Nat.ble_eq_true_of_le hsilent
  · rw [hbeat]; rfl
  · rw [htied.ended_reg _ (by decide) (by decide) (by decide), hstate]
  · rw [htied.ended_reg _ (by decide) (by decide) (by decide), State.forgetPartner_claim]
  · rw [htied.ended_twin, State.forgetPartner_twin]
  · rw [htied.ended_twin, State.forgetPartner_twin]
  · refine posted_ended_of_mem ?_ ?_ (.inl ?_)
    · have hword : [⟨.single, 6, 0xD003, s.twin.partnerState % 8 % 2 ^ 42⟩] ∈ lost.drum.incoming := by
        rw [State.forgetPartner_incoming]; simp
      exact List.mem_flatten.2 ⟨_, htied.incoming.subset hword, List.mem_singleton_self _⟩
    · have hfew : u.posted ≤ lost.posted + 1 := htied.posted
      rw [State.forgetPartner_posted, State.posted_of_quiet dt hquiet] at hfew
      exact hfew.trans (by decide)
    · rwa [htied.changes.2 _ (by decide) (by decide), hlost.2 _ (by decide) (by decide)]
  · rw [htied.ended_out, State.forgetPartner_out]; rfl

theorem claimLineLoss_posts (dt x y : Nat) (s : State) (htakes : Takes s 5) (hheard : s.twin.wordAt = some x ∧ s.twin.beatAt = some y)
    (hsilent : x + 8192 ≤ s.ticks + dt ∧ s.ticks + dt < y + 8192) :
    Completes (.claimLineLoss dt) s fun s0 t => t.twin = { s.twin with lastWseq := none, wordAt := none } ∧
      t.reg .TWN_FLAGS = setBitTo (s.reg .TWN_FLAGS) 0 false % 2 ^ dictBits .TWN_FLAGS ∧ Posted t 0xD00C 5 1 ∧ t.out = [] ∧
      OnlyChanges [.twin, .drum, .log] (andDrum (among [.TWN_FLAGS])) s0 t := by
  obtain ⟨hquiet, hmin⟩ := htakes
  obtain ⟨hword, hbeat⟩ := hheard
  obtain ⟨hwordSilent, hbeatHeard⟩ := hsilent
  let v := ((begun s dt).setBit .TWN_FLAGS 0 false).modTwin fun t => { t with lastWseq := none, wordAt := none }
  let u := v.post 0xD00C 5 1
  have hchanges : OnlyChanges [.twin, .drum, .log] (among [.TWN_FLAGS]) (s.elapse dt) u :=
    (((onlyChanges_begun s dt).setBit _ _ _ (by decide) (by decide)).modTwin _ (by decide)).post _ _ _ (by decide) (by decide)
  refine completes_of_effect (dt := dt) (u := u) rfl (exec_claimLineLoss ..) ?_ ⟨?_, ?_, ?_, ?_, hchanges.ended (by decide) (by decide)⟩
  · refine if_pos ⟨by simp [hword], ?_, ?_⟩
    · rw [begun_twin, hword]; exact Nat.ble_eq_true_of_le hwordSilent
    · rw [begun_twin, hbeat]
      exact Bool.eq_false_iff.2 fun h => absurd (Nat.le_of_ble_eq_true h) (Nat.not_le.2 hbeatHeard)
  · rw [ended_twin, State.post_twin, State.modTwin_twin, State.setBit_twin]; rfl
  · rw [ended_reg _ _ _ _ (by decide) (by decide), State.reg_post_low _ _ _ _ _ (by decide), State.modTwin_reg, State.setBit,
      State.reg_setReg_same _ _ _ (by decide)]
    rfl
  · refine posted_ended_last (v := v) rfl ?_ (.inl ?_)
    · rw [State.posted_of_drum (s := begun s dt) (by simp [v]), State.posted_of_quiet dt hquiet]; decide
    · rwa [hchanges.2 .DRM_MIN_PRIORITY (by decide) (by decide)]
  · rw [ended_out, State.post_out, State.modTwin_out, State.setBit_out]; rfl

theorem mirrorLinkUp_admits (dt : Nat) (s : State) (htakes : Takes s 3) (hstate : s.reg .TWN_STATE ≠ 0 ∧ s.reg .TWN_STATE ≠ 3)
    (hdown : s.reg .TWN_MIR_STATE ≠ 2) :
    Completes (.mirrorLinkUp dt) s fun s0 t => t.reg .TWN_MIR_STATE = 2 ∧ t.twin =
        { s.twin with txSeq := 2, rxSeq := 1, sent := [⟨0x10, 1, s.admitOctets, s.ticks + dt, 0⟩], held := [], bulk := [] } ∧
      t.out = [.mirror 0x10 1 s.admitOctets] ∧ Posted t 0xD00B 3 0 ∧ OnlyChanges [.twin, .drum, .log] (andDrum (among [.TWN_MIR_STATE])) s0 t := by
  obtain ⟨hquiet, hmin⟩ := htakes
  obtain ⟨hheld, hjoining⟩ := hstate
  let v := ((begun s dt).setReg .TWN_MIR_STATE 2).modTwin fun t => { t with txSeq := 1, rxSeq := 1, sent := [], held := [], bulk := [] }
  let posted := v.post 0xD00B 3 0
  let u := (posted.modTwin fun t => { t with
    txSeq := nextMseq 1, sent := t.sent ++ [⟨0x10, 1, s.admitOctets, s.ticks + dt, 0⟩] }).emit (.mirror 0x10 1 s.admitOctets)
  have hkept : ∀ r : Reg, r.key ≠ Reg.TWN_MIR_STATE.key → v.reg r = s.reg r := fun r hr => State.reg_setReg_key _ _ _ _ hr
  have hup : posted.reg .TWN_MIR_STATE = 2 := by
    rw [State.reg_post_low _ _ _ _ _ (by decide), State.modTwin_reg, State.reg_setReg_same _ _ _ (by decide)]; rfl
  have hoctets : v.admitOctets = s.admitOctets := by
    have hunit : v.unit = s.unit := State.setReg_unit ..
    rw [State.admitOctets, hunit, hkept _ (by decide), hkept _ (by decide), hkept _ (by decide), hkept _ (by decide), hkept _ (by decide)]
    rfl
  have hposted : posted.twin = { s.twin with txSeq := 1, rxSeq := 1, sent := [], held := [], bulk := [] } := by
    rw [State.post_twin, State.modTwin_twin, State.setReg_twin]; rfl
  have hsent : posted.sendMirror 0x10 v.admitOctets = u := by
    have hticks : posted.ticks = s.ticks + dt := by rw [State.post_ticks, State.modTwin_ticks, State.setReg_ticks]; rfl
    rw [State.sendMirror_of_acked _ hup (by decide), hposted, hticks, hoctets]
  have hchanges : OnlyChanges [.twin, .drum, .log] (among [.TWN_MIR_STATE]) (s.elapse dt) u :=
    ((((((onlyChanges_begun s dt).setReg _ _ (by decide) (by decide)).modTwin _ (by decide)).post _ _ _ (by decide) (by decide)).modTwin _
      (by decide)).emit _)
  refine completes_of_effect (dt := dt) (u := u) rfl (exec_mirrorLinkUp ..) ?_ ⟨?_, ?_, ?_, ?_, hchanges.ended (by decide) (by decide)⟩
  · have hup' : ¬((begun s dt).reg .TWN_STATE = 0 ∨ (begun s dt).mirrorUp = true) := by
      rw [not_or]; exact ⟨hheld, by simp [State.mirrorUp, hdown]⟩
    rw [if_neg hup', if_neg (by exact hjoining), ← hsent]
  · rw [ended_reg _ _ _ _ (by decide) (by decide)]; exact hup
  · rw [ended_twin, State.emit_twin, State.modTwin_twin, hposted]; rfl
  · rw [ended_out, State.emit_out, State.modTwin_out, State.post_out, State.modTwin_out, State.setReg_out]; rfl
  · refine posted_ended_last (v := v) rfl ?_ (.inl ?_)
    · rw [State.posted_of_drum (s := begun s dt) (by simp [v]), State.posted_of_quiet dt hquiet]; decide
    · rwa [hchanges.2 .DRM_MIN_PRIORITY (by decide) (by decide)]

theorem mirrorLinkDown_posts (dt : Nat) (s : State) (htakes : Takes s 5) (hup : s.reg .TWN_MIR_STATE = 2) (hjoin : s.twin.join = none) :
    Completes (.mirrorLinkDown dt) s fun s0 t => t.reg .TWN_MIR_STATE = 0 ∧
      t.twin = { s.twin with sent := [], held := [], yieldSince := none, zonePushes := [] } ∧ bitOf (t.reg .TWN_FLAGS) 1 = false ∧
      (3 ≤ s.reg .TWN_STATE → bitOf (t.reg .TWN_FLAGS) 3 = true) ∧ t.reg .TWNCNT_MIR_DOWN = (s.reg .TWNCNT_MIR_DOWN + 1) % 2 ^ 32 ∧
      Posted t 0xD00A 5 1 ∧ t.out = [] ∧
      OnlyChanges [.twin, .drum, .log] (andDrum (among [.TWN_MIR_STATE, .TWN_FLAGS, .TWNCNT_MIR_DOWN])) s0 t := by
  obtain ⟨hquiet, hmin⟩ := htakes
  let shown := ((begun s dt).setReg .TWN_MIR_STATE 0).setBit .TWN_FLAGS 1 false
  let counted := shown.count .TWNCNT_MIR_DOWN
  let flagged := if s.inPair then counted.setBit .TWN_FLAGS 3 true else counted
  have hshown : ∀ r : Reg, r.key ≠ Reg.TWN_FLAGS.key → shown.reg r = ((begun s dt).setReg .TWN_MIR_STATE 0).reg r :=
    fun r hr => State.reg_setReg_key _ _ _ _ hr
  let v := flagged.modTwin fun t => { t with sent := [], held := [], yieldSince := none, zonePushes := [], join := match t.join with
    | some j => if j.joining then some j else none
    | none => none }
  let u := v.post 0xD00A 5 1
  have hcounted : OnlyChanges [.twin, .drum, .log] (among [.TWN_MIR_STATE, .TWN_FLAGS, .TWNCNT_MIR_DOWN]) (s.elapse dt) counted :=
    (((onlyChanges_begun s dt).setReg _ _ (by decide) (by decide)).setBit _ _ _ (by decide) (by decide)).count _ _ (by decide) (by decide) (by decide)
  have hflagged : OnlyChanges [.twin, .drum, .log] (among [.TWN_MIR_STATE, .TWN_FLAGS, .TWNCNT_MIR_DOWN]) (s.elapse dt) flagged ∧
      flagged.drum = counted.drum ∧ flagged.twin = s.twin ∧ flagged.out = [] ∧
      (∀ r : Reg, r.key ≠ Reg.TWN_FLAGS.key → flagged.reg r = counted.reg r) ∧
      bitOf (flagged.reg .TWN_FLAGS) 1 = bitOf (counted.reg .TWN_FLAGS) 1 ∧ (3 ≤ s.reg .TWN_STATE → bitOf (flagged.reg .TWN_FLAGS) 3 = true) := by
    have htwin : counted.twin = s.twin := by rw [State.count_twin, State.setBit_twin, State.setReg_twin]; rfl
    have hout : counted.out = [] := by rw [State.count_out, State.setBit_out, State.setReg_out]; rfl
    simp only [flagged]
    split
    · exact ⟨hcounted.setBit _ _ _ (by decide) (by decide), State.setBit_drum .., (State.setBit_twin ..).trans htwin, (State.setBit_out ..).trans hout,
        fun r hr => State.reg_setReg_key _ _ _ _ hr, State.bitOf_setBit_ne _ _ (by decide) (by decide) (by decide),
        fun _ => State.bitOf_setBit_same _ _ (by decide)⟩
    next hnone => exact ⟨hcounted, rfl, htwin, hout, fun _ _ => rfl, rfl, fun h => absurd (Nat.ble_eq_true_of_le h) hnone⟩
  obtain ⟨hchanges, hdrum, htwin, hout, hreg, hbeat, hpair⟩ := hflagged
  have hu : ∀ r, u.reg r = flagged.reg r := fun r => State.reg_post_low _ _ _ _ _ (by decide)
  have hmoved : OnlyChanges [.twin, .drum, .log] (among [.TWN_MIR_STATE, .TWN_FLAGS, .TWNCNT_MIR_DOWN]) (s.elapse dt) u :=
    (hchanges.modTwin _ (by decide)).post _ _ _ (by decide) (by decide)
  refine completes_of_effect (dt := dt) (u := u) rfl (exec_mirrorLinkDown ..) ?_
    ⟨?_, ?_, ?_, ?_, ?_, ?_, ?_, hmoved.ended (by decide) (by decide)⟩
  · rw [if_pos (mirrorUp_of_state (s := begun s dt) hup), State.mirrorDown, begun_twin, hjoin]
    rfl
  · rw [ended_reg _ _ _ _ (by decide) (by decide), hu, hreg _ (by decide), State.reg_count_other _ _ _ _ (by decide) (by decide),
      hshown _ (by decide), State.reg_setReg_same _ _ _ (by decide)]
    rfl
  · rw [ended_twin, State.post_twin, State.modTwin_twin, htwin]
    simp [hjoin]
  · rw [ended_reg _ _ _ _ (by decide) (by decide), hu, hbeat, State.reg_count_other _ _ _ _ (by decide) (by decide),
      State.bitOf_setBit_same _ _ (by decide)]
  · rw [ended_reg _ _ _ _ (by decide) (by decide), hu]; exact hpair
  · rw [ended_reg _ _ _ _ (by decide) (by decide), hu, hreg _ (by decide), State.reg_count_same _ _ _ (by decide) (by decide),
      hshown _ (by decide), State.reg_setReg_key _ _ _ _ (by decide)]
    rfl
  · refine posted_ended_last (v := v) rfl ?_ (.inl ?_)
    · have hzero : shown.posted = 0 := (State.posted_of_drum (s := begun s dt) (by simp [shown])).trans (State.posted_of_quiet dt hquiet)
      have hfew : counted.posted ≤ shown.posted + 1 := State.posted_count ..
      have hv : v.posted = counted.posted := State.posted_of_drum (s := counted) hdrum
      omega
    · rwa [hmoved.2 .DRM_MIN_PRIORITY (by decide) (by decide)]
  · rw [ended_out, State.post_out, State.modTwin_out, hout]

theorem mirrorResend_sendsAgain (dt : Nat) (x : MirSent) (s : State) (hup : s.reg .TWN_MIR_STATE = 2) (hsent : s.twin.sent = [x])
    (hdue : x.sentAt + 15625 ≤ s.ticks + dt) (hmore : x.resends < 3) :
    Completes (.mirrorResend dt) s fun s0 t =>
      t.twin = { s.twin with sent := [{ x with sentAt := s.ticks + dt, resends := x.resends + 1 }] } ∧
      t.out = [.mirror x.kind x.mseq x.payload] ∧ t.reg .TWNCNT_MIR_RESENDS = (s.reg .TWNCNT_MIR_RESENDS + 1) % 2 ^ 32 ∧
      OnlyChanges [.twin, .drum, .log] (andDrum (among [.TWNCNT_MIR_RESENDS])) s0 t := by
  let marked := (begun s dt).modTwin fun t => { t with
    sent := t.sent.map fun y => if y.mseq = x.mseq then { y with sentAt := s.ticks + dt, resends := y.resends + 1 } else y }
  let u := (marked.count .TWNCNT_MIR_RESENDS).emit (.mirror x.kind x.mseq x.payload)
  have hfilter : ((begun s dt).twin.sent.filter fun m => Nat.ble (m.sentAt + 15625) (begun s dt).ticks) = [x] := by
    rw [begun_twin, hsent, begun_ticks, List.filter_cons_of_pos (p := fun m : MirSent => Nat.ble (m.sentAt + 15625) (s.ticks + dt)) (Nat.ble_eq_true_of_le hdue), List.filter_nil]
  have hfirst : ([x].any fun m => Nat.ble 3 m.resends) = false := by
    rw [List.any_cons, List.any_nil, Bool.or_false]
    exact Bool.eq_false_iff.2 fun h => absurd (Nat.le_of_ble_eq_true h) (Nat.not_le.2 hmore)
  have hchanges : OnlyChanges [.twin, .drum, .log] (among [.TWNCNT_MIR_RESENDS]) (s.elapse dt) u :=
    (((onlyChanges_begun s dt).modTwin _ (by decide)).count _ _ (by decide) (by decide) (by decide)).emit _
  refine completes_of_effect (dt := dt) (u := u) rfl (exec_mirrorResend ..) ?_ ⟨?_, ?_, ?_, hchanges.ended (by decide) (by decide)⟩
  · simp only [hfilter, hfirst]
    rw [if_neg (by simp [mirrorUp_of_state (s := begun s dt) hup]), if_neg (by decide)]
    rfl
  · rw [ended_twin, State.emit_twin, State.count_twin, State.modTwin_twin, begun_twin, hsent]
    simp
  · rw [ended_out, State.emit_out, State.count_out]; rfl
  · rw [ended_reg _ _ _ _ (by decide) (by decide), State.emit_reg, State.reg_count_same _ _ _ (by decide) (by decide)]; rfl

theorem mirrorAck_takesOut (dt : Nat) (m : MirMessage) (s : State) (hquiet : Quiet s) (hup : s.reg .TWN_MIR_STATE = 2) (hcheck : m.checkOk = true) :
    Completes (.mirrorAck dt m) s fun s0 t =>
      t.twin = { s.twin with sent := s.twin.sent.filter fun x => x.mseq != ofLe (m.payload.take 4) } ∧ t.out = [] ∧
      OnlyChanges [.twin] noRegs s0 t :=
  completes_of_effect (dt := dt) (u := (begun s dt).ackMessage m.payload) rfl (exec_mirrorAck ..)
    (State.mirrorLight_of_ok (s := begun s dt) _ hup hcheck)
    ⟨ended_twin .., ended_out .., ((onlyChanges_begun s dt).modTwin _ (by decide)).ended_quiet hquiet⟩

/-- Settles O42, command by command. What follows who drives is `TiedStep`, a state entered is `EntersTwin`, and a takeover without epochs is
`TakesOver`. -/
theorem partnerClaimsAndPaths : Obligations.PartnerClaimsAndPaths :=
  ⟨claimWordReceive_takesClaim, claimWordReceive_countsError, mirrorHeartbeat_takesClaim, partnerLost_takesOver, partnerLost_leavesAlone,
    claimLineLoss_posts, mirrorLinkUp_admits, mirrorLinkDown_posts, mirrorResend_sendsAgain, mirrorAck_takesOut⟩

end Sys2Proof.Proofs


namespace Sys2Proof.Machine

/-! A message of the mirror link in order of MSEQ (R447) -/

/-- The message of an MSEQ acknowledged, and the next one awaited. -/
def State.acknowledge (s : State) (n : Nat) : State :=
  (s.emit (.mirror 0x01 0 (leOctets 4 n))).modTwin fun t => { t with rxSeq := nextMseq n }

@[simp] theorem State.acknowledge_twin (s : State) (n : Nat) : (s.acknowledge n).twin = { s.twin with rxSeq := nextMseq n } := rfl
@[simp] theorem State.acknowledge_reg (s : State) (n : Nat) (r : Reg) : (s.acknowledge n).reg r = s.reg r := rfl
@[simp] theorem State.acknowledge_drum (s : State) (n : Nat) : (s.acknowledge n).drum = s.drum := rfl
@[simp] theorem State.acknowledge_out (s : State) (n : Nat) : (s.acknowledge n).out = s.out ++ [.mirror 0x01 0 (leOctets 4 n)] := rfl

theorem onlyChanges_acknowledge {parts : List Part} {regs : Reg → Bool} (s : State) (dt n : Nat) (htwin : .twin ∈ parts) :
    OnlyChanges parts regs (s.elapse dt) ((begun s dt).acknowledge n) :=
  ((onlyChanges_begun s dt).emit _).modTwin _ htwin

theorem acknowledge_posted {s : State} (dt n : Nat) (hquiet : Quiet s) : ((begun s dt).acknowledge n).posted = 0 :=
  (State.posted_of_drum (s := begun s dt) rfl).trans (State.posted_of_quiet dt hquiet)

/-- The message that is next in order lies nothing ahead. -/
theorem mseqAhead_self (n : Nat) : mseqAhead n n = 0 := by
  rw [mseqAhead, Nat.add_sub_cancel_left, Nat.mod_self]

/-- With no message held back, the delivery ends. -/
theorem State.deliverHeld_of_empty {s : State} (n : Nat) (h : s.twin.held = []) : State.deliverHeld n s = s := by
  cases n with
  | zero => rfl
  | succ n => rw [State.deliverHeld, h, List.find?_nil]

/-- A message of which it is known that the mirror link takes it at once: the link is up, the check agrees, it is next, and none is held back. -/
structure Awaited (s : State) (m : MirMessage) : Prop where
  up : s.reg .TWN_MIR_STATE = 2
  check : m.checkOk = true
  next : m.mseq = s.twin.rxSeq
  held : s.twin.held = []

/-- The message next in order is acknowledged and delivered (R447). -/
theorem State.mirrorTake_of_awaited {s u : State} {kind : Nat} {m : MirMessage} (h : Awaited s m)
    (hdeliver : (s.acknowledge m.mseq).mirrorDeliver kind m = u) (hheld : u.twin.held = []) : s.mirrorTake kind m = u := by
  obtain ⟨hup, hcheck, hnext, hempty⟩ := h
  have hahead : mseqAhead m.mseq s.twin.rxSeq = 0 := by rw [hnext, mseqAhead_self]
  rw [State.mirrorTake, if_neg (by simp [mirrorUp_of_state hup]), if_neg (by simp [hcheck])]
  simp only [State.sendMirror_ack _ hup, hahead, if_true]
  exact (congrArg (State.deliverHeld _) hdeliver).trans (State.deliverHeld_of_empty _ hheld)

/-- A command whose message is next in order completes as its delivery leaves the state. -/
theorem completes_of_awaited {c : Instr} {s u : State} {dt kind : Nat} {m : MirMessage} {claim : State → State → Prop} (hdt : c.dt = dt)
    (hexec : exec c s = run s dt fun s => s.mirrorTake kind m) (h : Awaited s m)
    (hdeliver : ((begun s dt).acknowledge m.mseq).mirrorDeliver kind m = u) (hheld : u.twin.held = [])
    (hclaim : claim (s.elapse dt) (ended s dt u)) : Completes c s claim :=
  completes_of_effect hdt hexec (State.mirrorTake_of_awaited (s := begun s dt) ⟨h.up, h.check, h.next, h.held⟩ hdeliver hheld) hclaim

/-! A sync begun (R457) -/

/-- A unit in Joining that has sent SYNC step 1. -/
structure BeginsJoin (s t : State) : Prop where
  changes : OnlyChanges [.twin, .lantern, .smap, .drum] (fun r => stateRegs r || among [.TWN_REJOIN] r) s t
  state : t.reg .TWN_STATE = 3
  rejoin : t.reg .TWN_REJOIN = 1
  twin : t.twin = { s.twin with
    yieldSince := none, join := some ⟨true, none, 0, 1⟩, stepRun := 0, bulk := [], compareFrom := none, txSeq := nextMseq s.twin.txSeq,
    sent := s.twin.sent ++ [⟨0x60, s.twin.txSeq, leOctets 1 1 ++ leOctets 2 0, s.ticks, 0⟩] }
  out : t.out = s.out ++ [.mirror 0x60 s.twin.txSeq (leOctets 1 1 ++ leOctets 2 0)]
  posted : t.posted ≤ s.posted + 1

theorem joinRegs_blocks {r : Reg} (h : (stateRegs r || among [.TWN_REJOIN] r) = true) : blocks [8, 9, 12, 13] r = true := by
  obtain h | h := Bool.or_eq_true_iff.1 h
  · exact stateRegs_blocks h
  · obtain rfl := List.mem_singleton.1 (among_iff.1 h)
    decide

theorem State.beginJoin_beginsJoin {s : State} (hup : s.reg .TWN_MIR_STATE = 2) : BeginsJoin s s.beginJoin := by
  let entered := s.enterTwin 3
  let joining := (entered.setReg .TWN_REJOIN 1).modTwin fun t => { t with join := some ⟨true, none, 0, 1⟩, stepRun := 0, bulk := [], compareFrom := none }
  have hentered : EntersTwin 3 s entered := s.enterTwin_entersTwin (by decide)
  have hjoining : OnlyChanges [.twin, .lantern, .smap, .drum] (fun r => stateRegs r || among [.TWN_REJOIN] r) s joining :=
    (((hentered.changes.mono (by decide) fun r hr => by rw [hr, Bool.true_or]).setReg .TWN_REJOIN _ (by decide) (by decide)).modTwin _ (by decide))
  have hticks : joining.ticks = s.ticks := hjoining.1 .ticks (by decide)
  have htwin : joining.twin = { s.twin with
      yieldSince := none, join := some ⟨true, none, 0, 1⟩, stepRun := 0, bulk := [], compareFrom := none } := by
    rw [State.modTwin_twin, State.setReg_twin, hentered.twin]
  have hsent : s.beginJoin = (joining.modTwin fun t => { t with
      txSeq := nextMseq s.twin.txSeq, sent := t.sent ++ [⟨0x60, s.twin.txSeq, leOctets 1 1 ++ leOctets 2 0, s.ticks, 0⟩] }).emit
        (.mirror 0x60 s.twin.txSeq (leOctets 1 1 ++ leOctets 2 0)) := by
    have hsend := State.sendMirror_of_acked (s := joining) (kind := 0x60) (leOctets 1 1 ++ leOctets 2 0)
      ((hjoining.2 _ (by decide) (by decide)).trans hup) (by decide)
    rw [htwin, hticks] at hsend
    exact hsend
  rw [hsent]
  exact {
    changes := (hjoining.modTwin _ (by decide)).emit _
    state := by rw [State.emit_reg, State.modTwin_reg, State.modTwin_reg, State.reg_setReg_key _ _ _ _ (by decide), hentered.state]
    rejoin := by rw [State.emit_reg, State.modTwin_reg, State.modTwin_reg, State.reg_setReg_same _ _ _ (by decide)]; rfl
    twin := by rw [State.emit_twin, State.modTwin_twin, htwin]
    out := by rw [State.emit_out, State.modTwin_out, State.modTwin_out, State.setReg_out, hentered.out]
    posted := by
      rw [State.posted_of_drum (s := entered) (by simp [joining])]
      exact hentered.posted }

end Sys2Proof.Machine

namespace Sys2Proof.Proofs

open Machine

/-! PAIR_WAIT_EXPIRY, ADMIT, ANCHOR, SYNC, the yield and TWN_REJOIN (R439 to R457) -/

theorem exec_pairWaitExpiry (dt : Nat) (s : State) : exec (.pairWaitExpiry dt) s = execPairWaitExpiry dt s := rfl
theorem exec_mirrorAdmit (dt : Nat) (m : MirMessage) (s : State) : exec (.mirrorAdmit dt m) s = execMirrorAdmit dt m s := rfl
theorem exec_mirrorAnchor (dt : Nat) (m : MirMessage) (s : State) : exec (.mirrorAnchor dt m) s = execMirrorAnchor dt m s := rfl
theorem exec_mirrorSync (dt : Nat) (m : MirMessage) (s : State) : exec (.mirrorSync dt m) s = execMirrorSync dt m s := rfl
theorem exec_twinYield (dt : Nat) (s : State) : exec (.twinYield dt) s = execTwinYield dt s := rfl
theorem exec_twnRejoin (dt who value : Nat) (s : State) : exec (.twnRejoin dt who value) s = execTwnRejoin dt who value s := rfl

theorem pairWaitExpiry_leavesAlone (dt x : Nat) (s : State) (hstate : s.reg .TWN_STATE = 1)
    (hwords : s.twin.wordsFrom = some x ∧ s.twin.wordAt = none) (hwaited : x + usTicks (1000 * s.reg .TWN_PAIR_WAIT_MS) ≤ s.ticks + dt)
    (hdrives : s.canDrive = true) :
    Completes (.pairWaitExpiry dt) s fun s0 t => t.reg .TWN_STATE = 2 ∧ t.reg .TWN_CLAIM =
        claimOf 2 (s.reg .TWN_CLAIM_ACTIVE) (s.reg .TWN_CLAIM_STANDBY) (t.reg .TWN_DEDUCTION) % 2 ^ dictBits .TWN_CLAIM ∧ t.out = [] ∧
      OnlyChanges [.twin, .lantern, .smap, .drum, .log] (andDrum (blocks [8, 9, 12, 13])) s0 t := by
  obtain ⟨hfrom, hnone⟩ := hwords
  let u := (begun s dt).enterTwin 2
  have hentered : EntersTwin 2 (begun s dt) u := State.enterTwin_entersTwin _ (by decide)
  have hchanges : OnlyChanges [.twin, .lantern, .smap, .drum, .log] (blocks [8, 9, 12, 13]) (s.elapse dt) u :=
    (onlyChanges_begun s dt).trans (hentered.changes.mono (by decide) fun _ => stateRegs_blocks)
  refine completes_of_effect (dt := dt) (u := u) rfl (exec_pairWaitExpiry ..) ?_ ⟨?_, ?_, ?_, hchanges.ended (by decide) (by decide)⟩
  · have hwait : (begun s dt).reg .TWN_STATE = 1 ∧ s.twin.wordAt.isNone ∧
        x + usTicks (1000 * (begun s dt).reg .TWN_PAIR_WAIT_MS) ≤ (begun s dt).ticks ∧ (begun s dt).canDrive :=
      ⟨hstate, by rw [hnone]; rfl, hwaited, hdrives⟩
    simp only [begun_twin, hfrom]
    exact if_pos hwait
  · rw [ended_reg _ _ _ _ (by decide) (by decide), hentered.state]
  · rw [ended_reg _ _ _ _ (by decide) (by decide), ended_reg _ _ _ _ (by decide) (by decide), hentered.claim,
      hentered.changes.2 .TWN_DEDUCTION (by decide) (by decide)]
    rfl
  · rw [ended_out, hentered.out]; rfl

/-- The partner of an ADMIT noted (R444). -/
def admitNoted (s : State) (p : List Octet) : State :=
  (s.setReg .TWN_PARTNER_EUI64 (ofLe (p.take 8))).modTwin fun t => { t with partnerEui := ofLe (p.take 8) }

theorem admitNoted_reg (s : State) (p : List Octet) {r : Reg} (hr : r.key ≠ Reg.TWN_PARTNER_EUI64.key) : (admitNoted s p).reg r = s.reg r :=
  State.reg_setReg_key _ _ _ _ hr

theorem mirrorAdmit_refusesRole (dt : Nat) (m : MirMessage) (s : State) (htakes : Takes s 5) (hup : s.reg .TWN_MIR_STATE = 2)
    (hcheck : m.checkOk = true) (hnext : m.mseq = s.twin.rxSeq) (hheld : s.twin.held = []) (hstate : s.reg .TWN_STATE ≠ 0)
    (hnew : bitOf (s.reg .TWN_FLAGS) 2 = false) (hrole : ofLe (slice m.payload 8 1) ≠ s.reg .DIC_ROLE) :
    Completes (.mirrorAdmit dt m) s fun s0 t => t.reg .TWN_STATE = 2 ∧ bitOf (t.reg .TWN_FLAGS) 2 = true ∧
      t.twin.partnerEui = ofLe (m.payload.take 8) ∧ t.twin.rxSeq = nextMseq m.mseq ∧ Posted t 0xD002 5 1 ∧
      t.out = [.mirror 0x01 0 (leOctets 4 m.mseq)] ∧
      OnlyChanges [.twin, .lantern, .smap, .drum, .log] (andDrum (blocks [8, 9, 12, 13])) s0 t := by
  obtain ⟨hquiet, hmin⟩ := htakes
  let acked := (begun s dt).acknowledge m.mseq
  let noted := admitNoted acked m.payload
  let refused := (noted.setBit .TWN_FLAGS 2 true).modTwin fun t => { t with join := none }
  let entered := refused.enterTwin 2
  let u := entered.post 0xD002 5 1
  have hentered : EntersTwin 2 refused entered := State.enterTwin_entersTwin _ (by decide)
  have hrefused : OnlyChanges [.twin, .lantern, .smap, .drum, .log] (blocks [8, 9, 12, 13]) (s.elapse dt) refused :=
    (((((onlyChanges_acknowledge s dt m.mseq (by decide)).setReg _ _ (by decide) (by decide)).modTwin _ (by decide)).setBit _ _ _ (by decide)
      (by decide)).modTwin _ (by decide))
  have hchanges : OnlyChanges [.twin, .lantern, .smap, .drum, .log] (blocks [8, 9, 12, 13]) (s.elapse dt) u :=
    (hrefused.trans (hentered.changes.mono (by decide) fun _ => stateRegs_blocks)).post _ _ _ (by decide) (by decide)
  have htwin : u.twin = { s.twin with
      rxSeq := nextMseq m.mseq, partnerEui := ofLe (m.payload.take 8), join := none, yieldSince := none } := by
    rw [State.post_twin, hentered.twin]
    simp [refused, noted, acked, admitNoted]
  refine completes_of_awaited (dt := dt) (u := u) rfl (exec_mirrorAdmit ..) ⟨hup, hcheck, hnext, hheld⟩ ?_ (by rw [htwin]; exact hheld)
    ⟨?_, ?_, ?_, ?_, ?_, ?_, hchanges.ended (by decide) (by decide)⟩
  · have hfree : ¬(acked.reg .TWN_STATE = 0 ∨ bitOf (acked.reg .TWN_FLAGS) 2 = true) := by
      rintro (h | h)
      · exact hstate h
      · exact Bool.false_ne_true (hnew.symm.trans h)
    have hdiffers : ofLe (slice m.payload 8 1) ≠ acked.reg .DIC_ROLE := hrole
    change acked.admitMessage m.payload = u
    unfold State.admitMessage
    extract_lets eui reason s1
    have hreason : reason = 1 := if_pos hdiffers
    rw [if_neg hfree, if_pos (by rw [hreason]; decide), hreason]
    rfl
  · rw [ended_reg _ _ _ _ (by decide) (by decide), State.reg_post_low _ _ _ _ _ (by decide), hentered.state]
  · rw [ended_reg _ _ _ _ (by decide) (by decide), State.reg_post_low _ _ _ _ _ (by decide), hentered.changes.2 _ (by decide) (by decide),
      State.modTwin_reg, State.bitOf_setBit_same _ _ (by decide)]
  · rw [ended_twin, htwin]
  · rw [ended_twin, htwin]
  · refine posted_ended_last (v := entered) rfl ?_ (.inl ?_)
    · have hfew : entered.posted ≤ refused.posted + 1 := hentered.posted
      have hzero : refused.posted = 0 := (State.posted_of_drum (s := acked) (by simp [refused, noted, admitNoted])).trans
        (acknowledge_posted dt m.mseq hquiet)
      omega
    · rwa [hchanges.2 .DRM_MIN_PRIORITY (by decide) (by decide)]
  · rw [ended_out, State.post_out, hentered.out]
    simp [refused, noted, acked, admitNoted, begun]

theorem mirrorAdmit_beginsJoin (dt : Nat) (m : MirMessage) (s : State) (htakes : Takes s 3) (hup : s.reg .TWN_MIR_STATE = 2)
    (hcheck : m.checkOk = true) (hnext : m.mseq = s.twin.rxSeq) (hheld : s.twin.held = []) (hstate : s.reg .TWN_STATE = 1)
    (hdrives : s.canDrive = true) (hnew : bitOf (s.reg .TWN_FLAGS) 2 = false)
    (hsame : ofLe (slice m.payload 8 1) = s.reg .DIC_ROLE ∧ ofLe (slice m.payload 9 2) = s.reg .DIC_BEHAVIOUR_LEVEL ∧
      ofLe (slice m.payload 11 8) = s.reg .UPD_RUNNING_ID) (hactive : ofLe (slice m.payload 20 1) = 5) :
    Completes (.mirrorAdmit dt m) s fun s0 t => t.reg .TWN_STATE = 3 ∧ t.reg .TWN_REJOIN = 1 ∧ t.twin.join = some ⟨true, none, 0, 1⟩ ∧
      Posted t 0xD001 3 (3 + ofLe (m.payload.take 8) % 2 ^ 39 * 8) ∧
      t.out = [.mirror 0x01 0 (leOctets 4 m.mseq), .mirror 0x60 s.twin.txSeq (leOctets 1 1 ++ leOctets 2 0)] ∧
      OnlyChanges [.twin, .lantern, .smap, .drum, .log] (andDrum (blocks [8, 9, 12, 13])) s0 t := by
  obtain ⟨hquiet, hmin⟩ := htakes
  obtain ⟨hrole, hlevel, himage⟩ := hsame
  let acked := (begun s dt).acknowledge m.mseq
  let noted := admitNoted acked m.payload
  let joined := noted.beginJoin
  let u := joined.post 0xD001 3 (3 + ofLe (m.payload.take 8) % 2 ^ 39 * 8)
  have hnotedTwin : noted.twin = { s.twin with rxSeq := nextMseq m.mseq, partnerEui := ofLe (m.payload.take 8) } := by
    simp [noted, acked, admitNoted]
  have hjoined : BeginsJoin noted joined := State.beginJoin_beginsJoin ((admitNoted_reg _ _ (by decide)).trans hup)
  have hnoted : OnlyChanges [.twin, .lantern, .smap, .drum, .log] (blocks [8, 9, 12, 13]) (s.elapse dt) noted :=
    ((onlyChanges_acknowledge s dt m.mseq (by decide)).setReg _ _ (by decide) (by decide)).modTwin _ (by decide)
  have hchanges : OnlyChanges [.twin, .lantern, .smap, .drum, .log] (blocks [8, 9, 12, 13]) (s.elapse dt) u :=
    (hnoted.trans (hjoined.changes.mono (by decide) fun _ => joinRegs_blocks)).post _ _ _ (by decide) (by decide)
  have heui : joined.twin.partnerEui = ofLe (m.payload.take 8) := by rw [hjoined.twin, hnotedTwin]
  refine completes_of_awaited (dt := dt) (u := u) rfl (exec_mirrorAdmit ..) ⟨hup, hcheck, hnext, hheld⟩ ?_
    (by rw [State.post_twin, hjoined.twin, hnotedTwin]; exact hheld) ⟨?_, ?_, ?_, ?_, ?_, hchanges.ended (by decide) (by decide)⟩
  · have hfree : ¬(acked.reg .TWN_STATE = 0 ∨ bitOf (acked.reg .TWN_FLAGS) 2 = true) := by
      rintro (h | h)
      · exact absurd (hstate.symm.trans h) (by decide)
      · exact Bool.false_ne_true (hnew.symm.trans h)
    have hrole' : ofLe (slice m.payload 8 1) = acked.reg .DIC_ROLE := hrole
    have hlevel' : ofLe (slice m.payload 9 2) = acked.reg .DIC_BEHAVIOUR_LEVEL := hlevel
    have himage' : ofLe (slice m.payload 11 8) = acked.reg .UPD_RUNNING_ID := himage
    have hadmits : noted.reg .TWN_STATE = 1 ∧ noted.canDrive = true :=
      ⟨(admitNoted_reg _ _ (by decide)).trans hstate, by
        rw [State.canDrive, admitNoted_reg _ _ (by decide), admitNoted_reg _ _ (by decide)]; exact hdrives⟩
    change acked.admitMessage m.payload = u
    unfold State.admitMessage
    extract_lets eui reason s1
    have hreason : reason = 0 := by simp [reason, hrole', hlevel', himage']
    rw [if_neg hfree, if_neg (by rw [hreason]; decide), hactive]
    change noted.admitted _ 5 = u
    unfold State.admitted
    extract_lets formed
    rw [if_pos hadmits, if_pos (.inl rfl)]
    simp only [formed, u, joined, hjoined.state]
    rw [heui]
  · rw [ended_reg _ _ _ _ (by decide) (by decide), State.reg_post_low _ _ _ _ _ (by decide), hjoined.state]
  · rw [ended_reg _ _ _ _ (by decide) (by decide), State.reg_post_low _ _ _ _ _ (by decide), hjoined.rejoin]
  · rw [ended_twin, State.post_twin, hjoined.twin]
  · refine posted_ended_last (v := joined) rfl ?_ (.inl ?_)
    · have hfew : joined.posted ≤ noted.posted + 1 := hjoined.posted
      have hzero : noted.posted = 0 := (State.posted_of_drum (s := acked) (by simp [noted, admitNoted])).trans (acknowledge_posted dt m.mseq hquiet)
      omega
    · rwa [hchanges.2 .DRM_MIN_PRIORITY (by decide) (by decide)]
  · rw [ended_out, State.post_out, hjoined.out, hnotedTwin]
    simp [noted, acked, admitNoted, begun]

theorem mirrorAnchor_anchors (dt : Nat) (m : MirMessage) (j : JoinState) (s : State) (htakes : Takes s 2) (hup : s.reg .TWN_MIR_STATE = 2)
    (hcheck : m.checkOk = true) (hnext : m.mseq = s.twin.rxSeq) (hheld : s.twin.held = []) (hjoin : s.twin.join = some j) (hjoining : j.joining = true) :
    Completes (.mirrorAnchor dt m) s fun s0 t => t.twin = { s.twin with
        rxSeq := nextMseq m.mseq, join := some { j with es := some (ofLe (m.payload.take 2)), tp := ofLe (slice m.payload 2 8) },
        compareFrom := some ((ofLe (m.payload.take 2) + 3) % 65536) } ∧
      Posted t 0xD008 2 (ofLe (m.payload.take 2)) ∧ t.out = [.mirror 0x01 0 (leOctets 4 m.mseq)] ∧ OnlyChanges [.twin, .drum, .log] drumRegs s0 t := by
  obtain ⟨hquiet, hmin⟩ := htakes
  let acked := (begun s dt).acknowledge m.mseq
  let anchored := acked.modTwin fun t => { t with
    join := some { j with es := some (ofLe (m.payload.take 2)), tp := ofLe (slice m.payload 2 8) },
    compareFrom := some ((ofLe (m.payload.take 2) + 3) % 65536) }
  let u := anchored.post 0xD008 2 (ofLe (m.payload.take 2))
  have hchanges : OnlyChanges [.twin, .drum, .log] noRegs (s.elapse dt) u :=
    ((onlyChanges_acknowledge s dt m.mseq (by decide)).modTwin _ (by decide)).post _ _ _ (by decide) (by decide)
  have htwin : u.twin = anchored.twin := State.post_twin ..
  refine completes_of_awaited (dt := dt) (u := u) rfl (exec_mirrorAnchor ..) ⟨hup, hcheck, hnext, hheld⟩ ?_ (by rw [htwin]; exact hheld)
    ⟨?_, ?_, ?_, ?_⟩
  · change acked.anchorMessage m.payload = u
    have hjoin' : acked.twin.join = some j := hjoin
    rw [State.anchorMessage, hjoin']
    exact if_pos hjoining
  · rw [ended_twin, htwin]; rfl
  · refine posted_ended_last (v := anchored) rfl ?_ (.inl ?_)
    · have hzero : anchored.posted = 0 := acknowledge_posted dt m.mseq hquiet
      omega
    · rwa [hchanges.2 .DRM_MIN_PRIORITY (by decide) (by decide)]
  · rw [ended_out, State.post_out, State.modTwin_out]; rfl
  · have hended := hchanges.ended (by decide) (by decide)
    rwa [show andDrum noRegs = drumRegs from funext fun r => Bool.or_false _] at hended

theorem mirrorSync_takesStepTwo (dt : Nat) (m : MirMessage) (j : JoinState) (s : State) (hquiet : Quiet s) (hup : s.reg .TWN_MIR_STATE = 2)
    (hcheck : m.checkOk = true) (hnext : m.mseq = s.twin.rxSeq) (hheld : s.twin.held = []) (hjoin : s.twin.join = some j)
    (hjoining : j.joining = true) (hstep : ofLe (m.payload.take 1) = 2) :
    Completes (.mirrorSync dt m) s fun s0 t =>
      t.twin = { s.twin with rxSeq := nextMseq m.mseq, join := some { j with es := some (ofLe (slice m.payload 1 2)), step := 2 } } ∧
      t.out = [.mirror 0x01 0 (leOctets 4 m.mseq)] ∧ OnlyChanges [.twin] noRegs s0 t := by
  let acked := (begun s dt).acknowledge m.mseq
  let u := acked.modTwin fun t => { t with join := some { j with es := some (ofLe (slice m.payload 1 2)), step := 2 } }
  refine completes_of_awaited (dt := dt) (u := u) rfl (exec_mirrorSync ..) ⟨hup, hcheck, hnext, hheld⟩ ?_ hheld
    ⟨by rw [ended_twin]; rfl, by rw [ended_out]; rfl,
      ((onlyChanges_acknowledge s dt m.mseq (by decide)).modTwin _ (by decide)).ended_quiet hquiet⟩
  change acked.syncMessage m.payload = u
  have hjoin' : acked.twin.join = some j := hjoin
  unfold State.syncMessage
  rw [hstep, if_neg (by decide), hjoin']
  exact (if_neg (by simp [hjoining])).trans (if_pos rfl)

theorem twinYield_entersStandby (dt x : Nat) (s : State) (_htakes : Takes s 4) (hup : s.reg .TWN_MIR_STATE = 2) (hactive : s.reg .TWN_STATE = 5)
    (hpartner : s.twin.partnerState = 4) (hhealthier : s.twin.partnerD + s.reg .TWN_YIELD_MARGIN ≤ s.reg .TWN_DEDUCTION)
    (hsince : s.twin.yieldSince = some x) (hlong : x + usTicks 100000 ≤ s.ticks + dt) :
    Completes (.twinYield dt) s fun s0 t => t.reg .TWN_STATE = 4 ∧ t.twin.yieldSince = none ∧
      t.reg .TWNCNT_YIELDS = (s.reg .TWNCNT_YIELDS + 1) % 2 ^ 32 ∧ t.out = [] ∧
      OnlyChanges [.twin, .lantern, .smap, .drum, .log] (andDrum (blocks [8, 9, 12, 13])) s0 t := by
  let entered := (begun s dt).enterTwin 4
  let u := (entered.count .TWNCNT_YIELDS).post 0xD005 4 (s.reg .TWN_DEDUCTION + s.twin.partnerD * 256)
  have hentered : EntersTwin 4 (begun s dt) entered := State.enterTwin_entersTwin _ (by decide)
  have hchanges : OnlyChanges [.twin, .lantern, .smap, .drum, .log] (blocks [8, 9, 12, 13]) (s.elapse dt) u :=
    ((((onlyChanges_begun s dt).trans (hentered.changes.mono (by decide) fun _ => stateRegs_blocks)).count _ _ (by decide) (by decide)
      (by decide)).post _ _ _ (by decide) (by decide))
  refine completes_of_effect (dt := dt) (u := u) rfl (exec_twinYield ..) ?_ ⟨?_, ?_, ?_, ?_, hchanges.ended (by decide) (by decide)⟩
  · have hmay : (begun s dt).mayYield = true := by
      simp only [State.mayYield, Bool.and_eq_true, beq_iff_eq]
      exact ⟨⟨⟨hactive, hpartner⟩, mirrorUp_of_state (s := begun s dt) hup⟩, Nat.ble_eq_true_of_le hhealthier⟩
    have hsince' : (begun s dt).twin.yieldSince = some x := hsince
    rw [hsince']
    exact if_pos ⟨hmay, hlong⟩
  · rw [ended_reg _ _ _ _ (by decide) (by decide), State.reg_post_low _ _ _ _ _ (by decide),
      State.reg_count_other _ _ _ _ (by decide) (by decide), hentered.state]
  · rw [ended_twin, State.post_twin, State.count_twin, hentered.twin]
  · rw [ended_reg _ _ _ _ (by decide) (by decide), State.reg_post_low _ _ _ _ _ (by decide),
      State.reg_count_same _ _ _ (by decide) (by decide), hentered.changes.2 _ (by decide) (by decide)]
    rfl
  · rw [ended_out, State.post_out, State.count_out, hentered.out]; rfl

theorem twnRejoin_beginsJoin (dt who : Nat) (s : State) (_hquiet : Quiet s) (hwho : 1 ≤ (s.elapse dt).levelOf who) (hobserver : s.reg .TWN_STATE = 6)
    (hup : s.reg .TWN_MIR_STATE = 2) :
    Completes (.twnRejoin dt who 1) s fun s0 t => t.reg .TWN_STATE = 3 ∧ t.reg .TWN_REJOIN = 1 ∧ t.twin.join = some ⟨true, none, 0, 1⟩ ∧
      t.twin.failedSyncs = 0 ∧ t.out = [.mirror 0x60 s.twin.txSeq (leOctets 1 1 ++ leOctets 2 0), .reply 0] ∧
      OnlyChanges [.twin, .lantern, .smap, .drum, .log] (andDrum (blocks [8, 9, 12, 13])) s0 t := by
  let fresh := (begun s dt).modTwin fun t => { t with failedSyncs := 0 }
  let joined := fresh.beginJoin
  have hjoined : BeginsJoin fresh joined := State.beginJoin_beginsJoin hup
  have hchanges : OnlyChanges [.twin, .lantern, .smap, .drum, .log] (blocks [8, 9, 12, 13]) (s.elapse dt) (joined.reply 0) :=
    (((onlyChanges_begun s dt).modTwin _ (by decide)).trans (hjoined.changes.mono (by decide) fun _ => joinRegs_blocks)).emit _
  refine completes_of_effect (dt := dt) (u := joined.reply 0) rfl (exec_twnRejoin ..) ?_
    ⟨?_, ?_, ?_, ?_, ?_, hchanges.ended (by decide) (by decide)⟩
  · rw [State.asWriter_of_level (s := begun s dt) (l := 1) _ (by decide) hwho, State.rejoin, if_neg (by decide)]
    exact if_pos ⟨hobserver, mirrorUp_of_state (s := begun s dt) hup⟩
  · rw [ended_reg _ _ _ _ (by decide) (by decide), State.reply_reg, hjoined.state]
  · rw [ended_reg _ _ _ _ (by decide) (by decide), State.reply_reg, hjoined.rejoin]
  · rw [ended_twin, State.reply_twin, hjoined.twin]
  · rw [ended_twin, State.reply_twin, hjoined.twin]; rfl
  · rw [ended_out, State.reply_out, hjoined.out]; rfl

theorem twnRejoin_refusesValue (dt who value : Nat) (s : State) (hquiet : Quiet s) (hwho : 1 ≤ (s.elapse dt).levelOf who) (hvalue : value ≠ 1) :
    Completes (.twnRejoin dt who value) s fun s0 t => t.out = [.reply 8] ∧ OnlyChanges [] noRegs s0 t :=
  completes_of_effect (dt := dt) (u := (begun s dt).reply 8) rfl (exec_twnRejoin ..)
    ((State.asWriter_of_level (s := begun s dt) (l := 1) _ (by decide) hwho).trans (if_pos hvalue)) (ended_reply hquiet 8)

/-- Settles O43, command by command. A message in order is taken by `completes_of_awaited`, a state entered is `EntersTwin`, and a sync begun is
`BeginsJoin`. -/
theorem pairsFormJoinAndYield : Obligations.PairsFormJoinAndYield :=
  ⟨pairWaitExpiry_leavesAlone, mirrorAdmit_refusesRole, mirrorAdmit_beginsJoin, mirrorAnchor_anchors, mirrorSync_takesStepTwo,
    twinYield_entersStandby, twnRejoin_beginsJoin, twnRejoin_refusesValue⟩

end Sys2Proof.Proofs


namespace Sys2Proof.Machine

/-! Octets cut from a message -/

/-- The number a field of a message holds, where it fits its octets. -/
theorem ofLe_of_eq {l : List Octet} {n v : Nat} (hl : l = leOctets n v) (hv : v < 256 ^ n) : ofLe l = v := by
  rw [hl, ofLe_leOctets, Nat.mod_eq_of_lt hv]

/-! A piece of work with its answer (R449) -/

/-- The state with other outputs. -/
def State.withOut (s : State) (out : List Output) : State := { s with out := out }

@[simp] theorem State.withOut_twin (s : State) (out : List Output) : (s.withOut out).twin = s.twin := rfl
@[simp] theorem State.withOut_reg (s : State) (out : List Output) (r : Reg) : (s.withOut out).reg r = s.reg r := rfl
@[simp] theorem State.withOut_out (s : State) (out : List Output) : (s.withOut out).out = out := rfl
@[simp] theorem State.withOut_drum (s : State) (out : List Output) : (s.withOut out).drum = s.drum := rfl

theorem State.answered_of_reply {s u : State} {f : State → State} {n : Nat} (hf : f (s.withOut []) = u.reply n) (hout : u.out = []) :
    s.answered f = (n, u.withOut s.out) := by
  have hreply : (u.reply n).out = [.reply n] := by rw [State.reply_out, hout]; rfl
  have hf' : f { s with out := [] } = _ := hf
  unfold State.answered
  simp only [hf', hreply]
  exact Prod.ext rfl (congrArg u.withOut (List.append_nil _))

theorem State.answered_of_mirror {s u : State} {f : State → State} {kind mseq n : Nat} {payload : List Octet}
    (hf : f (s.withOut []) = (u.emit (.mirror kind mseq payload)).reply n) (hout : u.out = []) :
    s.answered f = (n, u.withOut (s.out ++ [.mirror kind mseq payload])) := by
  have hreply : ((u.emit (.mirror kind mseq payload)).reply n).out = [.mirror kind mseq payload, .reply n] := by
    rw [State.reply_out, State.emit_out, hout]; rfl
  have hf' : f { s with out := [] } = _ := hf
  unfold State.answered
  simp only [hf', hreply]
  rfl

/-- Outputs are no part of the state. -/
theorem OnlyChanges.withOut {parts : List Part} {regs : Reg → Bool} {s t : State} (h : OnlyChanges parts regs s t) (out : List Output) :
    OnlyChanges parts regs s (t.withOut out) := by
  obtain ⟨hparts, hregs⟩ := h
  refine ⟨fun p hp => ?_, hregs⟩
  have hpart := hparts p hp
  cases p <;> exact hpart

/-- An element set where the outputs stand apart. -/
theorem State.setReg_withOut (s : State) (r : Reg) (v : Nat) (out : List Output) :
    ((s.withOut out).setReg r v).withOut s.out = s.setReg r v := by
  unfold State.setReg
  split <;> rfl

/-! An apply time hangs neither on the outputs nor on the twin's part (R449) -/

theorem State.applyTime_withOut (s : State) (out : List Output) : (s.withOut out).applyTime = s.applyTime := rfl
theorem State.applyTime_emit (s : State) (o : Output) : (s.emit o).applyTime = s.applyTime := rfl
theorem State.applyTime_modTwin (s : State) (f : Twin → Twin) : (s.modTwin f).applyTime = s.applyTime := rfl

theorem acknowledge_applyTime (s : State) (dt n : Nat) : ((begun s dt).acknowledge n).applyTime = (s.elapse dt).applyTime := by
  rw [State.acknowledge, State.applyTime_modTwin, State.applyTime_emit]
  exact (s.elapse dt).applyTime_withOut []

/-! A write of LAN_TOTAL_LIMIT (R345, R465, R466) -/

theorem composite_totalLimit : composite 0x9002 = false := by decide +kernel

theorem dictRow_totalLimit : dictRow .LAN_TOTAL_LIMIT = some ⟨0x9002, 0x9002, 0, 0, .u16, .rwo, .val 16000, [(1000, 16000)]⟩ := by decide +kernel

theorem inRange_totalLimit {v : Nat} (hlow : 1000 ≤ v) (hhigh : v ≤ 16000) : inRange .LAN_TOTAL_LIMIT v = true := by
  have hbits : v < 65536 := by omega
  simp [inRange, dictRow_totalLimit, DictRow.inRange, EntryType.signed, EntryType.bits, Nat.blt_eq, hbits, hlow, hhigh]

theorem State.valueStatus_totalLimit (s : State) {v : Nat} (hlow : 1000 ≤ v) (hhigh : v ≤ 16000) :
    s.valueStatus false .LAN_TOTAL_LIMIT v = none := by
  have hrwf : isRwf .LAN_TOTAL_LIMIT = false := by rw [isRwf, dictRow_totalLimit]; rfl
  have hfree : s.changePending .LAN_TOTAL_LIMIT = false := rfl
  simp [State.valueStatus, inRange_totalLimit hlow hhigh, hrwf, hfree]

/-- A total limit within its range is set, and nothing follows it. -/
theorem State.applyValue_totalLimit (s : State) (who : Nat) {v : Nat} (hlow : 1000 ≤ v) (hhigh : v ≤ 16000) :
    s.applyValue who 0x9002 0 (leOctets 2 v) = (s.setReg .LAN_TOTAL_LIMIT v).reply 0 := by
  have hvalue : ofLe (leOctets 2 v) = v := ofLe_of_eq rfl (by omega)
  have hplain : ∀ t : State, t.setPlain .LAN_TOTAL_LIMIT v = t.setReg .LAN_TOTAL_LIMIT v := fun t => rfl
  have hnumber : s.writeNumber who .LAN_TOTAL_LIMIT v = (s.setReg .LAN_TOTAL_LIMIT v).reply 0 := by
    rw [State.writeNumber, s.valueStatus_totalLimit hlow hhigh]
    rfl
  have hrow : dictRow ⟨0x9002, 0⟩ = some ⟨0x9002, 0x9002, 0, 0, .u16, .rwo, .val 16000, [(1000, 16000)]⟩ := dictRow_totalLimit
  have hkind : (EntryType.u16 = .domain) = False := by decide
  rw [State.applyValue, composite_totalLimit, if_neg (by decide), hrow]
  simp only [hkind, if_false, EntryType.octetLen, leOctets_length, hvalue]
  exact hnumber

/-! Records of links and epochs (R454, R455) -/

/-- The partner's signature of a link taken into the record of the link in that epoch. -/
theorem State.recordLink_partner (s : State) (e k sig : Nat) :
    let here := fun r : LinkRecord => r.epoch == e && r.link == k
    let t := s.recordLink e k fun r => { r with partner := some sig }
    (t.twin.linkRecords.find? here).bind LinkRecord.partner = some sig ∧
      (t.twin.linkRecords.find? here).bind LinkRecord.own = (s.twin.linkRecords.find? here).bind LinkRecord.own ∧
      t.twin = { s.twin with linkRecords := t.twin.linkRecords } ∧ t.out = s.out ∧
      OnlyChanges [.twin, .drum] (among [.TWNCNT_INSTEP_EPOCHS, .TWN_INSTEP_EPOCH]) s t := by
  intro here t
  let found := (s.twin.linkRecords.find? here).getD ⟨e, k, none, none⟩
  let r : LinkRecord := { found with partner := some sig }
  let s1 := s.modTwin fun t => { t with linkRecords := r :: t.linkRecords.filter fun x => !here x }
  have hfound : here found = true ∧ found.own = (s.twin.linkRecords.find? here).bind LinkRecord.own := by
    simp only [found]
    cases hfind : s.twin.linkRecords.find? here with
    | none => simp [here]
    | some x => exact ⟨List.find?_some hfind, rfl⟩
  obtain ⟨hhere, hown⟩ := hfound
  have ht : t.twin = s1.twin ∧ t.out = s.out ∧ OnlyChanges [.twin, .drum] (among [.TWNCNT_INSTEP_EPOCHS, .TWN_INSTEP_EPOCH]) s t := by
    have hs1 : OnlyChanges [.twin, .drum] (among [.TWNCNT_INSTEP_EPOCHS, .TWN_INSTEP_EPOCH]) s s1 := (onlyChanges_refl s).modTwin _ (by decide)
    change (if s.inStep e = false ∧ s1.inStep e then (s1.count .TWNCNT_INSTEP_EPOCHS).setReg .TWN_INSTEP_EPOCH e else s1).twin = _ ∧
      (if s.inStep e = false ∧ s1.inStep e then (s1.count .TWNCNT_INSTEP_EPOCHS).setReg .TWN_INSTEP_EPOCH e else s1).out = _ ∧
      OnlyChanges _ _ s (if s.inStep e = false ∧ s1.inStep e then (s1.count .TWNCNT_INSTEP_EPOCHS).setReg .TWN_INSTEP_EPOCH e else s1)
    split
    · exact ⟨by rw [State.setReg_twin, State.count_twin], by rw [State.setReg_out, State.count_out]; rfl,
        (hs1.count _ _ (by decide) (by decide) (by decide)).setReg _ _ (by decide) (by decide)⟩
    · exact ⟨rfl, rfl, hs1⟩
  obtain ⟨htwin, hout, hchanges⟩ := ht
  have hfirst : t.twin.linkRecords.find? here = some r := by
    rw [htwin]
    exact List.find?_cons_of_pos hhere
  refine ⟨by rw [hfirst]; rfl, ?_, by rw [htwin]; rfl, hout, hchanges⟩
  rw [hfirst]
  exact hown

/-- An epoch of which the unit has no frame signature of its own is not judged. -/
theorem State.judgeFrame_of_partner {s : State} {e : Nat} {r : FrameRecord} (h : (s.twin.frameRecords.find? fun x => x.epoch == e) = some r)
    (hown : r.own = none) : s.judgeFrame e = s := by
  unfold State.judgeFrame
  rw [h]
  simp only [hown]

/-! A mirrored write (R449, R473) -/

/-- The octets of a DICT_WRITE of LAN_TOTAL_LIMIT, with status 0. -/
def dictWriteOctets (dseq ta session : Nat) (value : List Octet) : List Octet :=
  leOctets 4 dseq ++ leOctets 8 ta ++ leOctets 2 0x9002 ++ leOctets 1 0 ++ leOctets 2 session ++ leOctets 1 0 ++ value

theorem State.modSession_of_none {s : State} {n : Nat} (f : Session → Session) (h : s.session n = none) : s.modSession n f = s := by
  have hnumber : ∀ x ∈ s.idp.sessions, ¬x.number = n := fun x hx => by simpa using List.find?_eq_none.1 h x hx
  have hsame : (s.idp.sessions.map fun x => if x.number = n then f x else x) = s.idp.sessions :=
    (List.map_congr_left fun x hx => if_neg (hnumber x hx)).trans (List.map_id _)
  rw [State.modSession, State.modIdp, hsame]

/-- The end of a write of a session that is gone has no effect. -/
theorem State.waitDone_of_none {s : State} {n : Nat} (index sub status : Nat) (h : s.session n = none) : s.waitDone n index sub status = s := by
  rw [State.waitDone, State.modSession_of_none _ h, State.finishWaits, h]

end Sys2Proof.Machine

namespace Sys2Proof.Proofs

open Machine

/-! LINK_SIG, FRAME_SIG, DICT_WRITE, DICT_FORWARD, DICT_STATUS, MIRROR_WRITE_APPLY, STATE_PUSH and BULK (R446 to R455) -/

theorem exec_linkSig (dt : Nat) (m : MirMessage) (s : State) : exec (.linkSig dt m) s = execLinkSig dt m s := rfl
theorem exec_frameSig (dt : Nat) (m : MirMessage) (s : State) : exec (.frameSig dt m) s = execFrameSig dt m s := rfl
theorem exec_dictWrite (dt : Nat) (m : MirMessage) (s : State) : exec (.dictWrite dt m) s = execDictWrite dt m s := rfl
theorem exec_dictForward (dt : Nat) (m : MirMessage) (s : State) : exec (.dictForward dt m) s = execDictForward dt m s := rfl
theorem exec_dictStatus (dt : Nat) (m : MirMessage) (s : State) : exec (.dictStatus dt m) s = execDictStatus dt m s := rfl
theorem exec_mirrorWriteApply (dt : Nat) (s : State) : exec (.mirrorWriteApply dt) s = execMirrorWriteApply dt s := rfl
theorem exec_statePush (dt : Nat) (m : MirMessage) (s : State) : exec (.statePush dt m) s = execStatePush dt m s := rfl
theorem exec_mirrorBulk (dt : Nat) (m : MirMessage) (s : State) : exec (.mirrorBulk dt m) s = execMirrorBulk dt m s := rfl

theorem linkSig_recordsPartner (dt e k sig : Nat) (m : MirMessage) (s : State) (hup : s.reg .TWN_MIR_STATE = 2) (hcheck : m.checkOk = true)
    (hnext : m.mseq = s.twin.rxSeq) (hheld : s.twin.held = []) (hfields : e < 65536 ∧ k < 64 ∧ sig < 2 ^ 32)
    (hpayload : m.payload = leOctets 2 e ++ leOctets 1 k ++ leOctets 4 sig) :
    Completes (.linkSig dt m) s fun s0 t =>
      (t.twin.linkRecords.find? fun r => r.epoch == e && r.link == k).bind LinkRecord.partner = some sig ∧
      (t.twin.linkRecords.find? fun r => r.epoch == e && r.link == k).bind LinkRecord.own =
        (s.twin.linkRecords.find? fun r => r.epoch == e && r.link == k).bind LinkRecord.own ∧
      t.twin.rxSeq = nextMseq m.mseq ∧ t.out = [.mirror 0x01 0 (leOctets 4 m.mseq)] ∧
      OnlyChanges [.twin, .drum, .log] (andDrum (among [.TWNCNT_INSTEP_EPOCHS, .TWN_INSTEP_EPOCH])) s0 t := by
  obtain ⟨he, hk, hsig⟩ := hfields
  let acked := (begun s dt).acknowledge m.mseq
  let u := acked.recordLink e k fun r => { r with partner := some sig }
  obtain ⟨hpartner, hown, htwin, hout, hchanges⟩ := acked.recordLink_partner e k sig
  have hdeliver : acked.linkSigMessage m.payload = u := by
    have hepoch : ofLe (m.payload.take 2) = e := ofLe_of_eq (n := 2) (by rw [hpayload]; rfl) he
    have hlink : ofLe (slice m.payload 2 1) = k := ofLe_of_eq (n := 1) (by rw [hpayload]; rfl) (by omega)
    have hsigned : ofLe (slice m.payload 3 4) = sig := ofLe_of_eq (n := 4) (by rw [hpayload]; rfl) hsig
    rw [State.linkSigMessage, hepoch, hlink, hsigned]
  refine completes_of_awaited (dt := dt) (u := u) rfl (exec_linkSig ..) ⟨hup, hcheck, hnext, hheld⟩ hdeliver (by rw [htwin]; exact hheld)
    ⟨?_, ?_, ?_, ?_, ?_⟩
  · rw [ended_twin]; exact hpartner
  · rw [ended_twin]; exact hown
  · rw [ended_twin, htwin]; rfl
  · rw [ended_out, hout]; rfl
  · exact ((onlyChanges_acknowledge s dt m.mseq (by decide)).trans (hchanges.mono (by decide) fun _ => id)).ended (by decide) (by decide)

theorem frameSig_recordsPartner (dt e sig mask : Nat) (m : MirMessage) (s : State) (hquiet : Quiet s) (hup : s.reg .TWN_MIR_STATE = 2)
    (hcheck : m.checkOk = true) (hnext : m.mseq = s.twin.rxSeq) (hheld : s.twin.held = [])
    (hfields : e < 65536 ∧ sig < 2 ^ 32 ∧ mask < 2 ^ 64) (hpayload : m.payload = leOctets 2 e ++ leOctets 4 sig ++ leOctets 8 mask)
    (hnew : (s.twin.frameRecords.any fun r => r.epoch == e) = false) :
    Completes (.frameSig dt m) s fun s0 t =>
      t.twin = { s.twin with
        rxSeq := nextMseq m.mseq, frameRecords := (⟨e, none, some (sig, mask), false⟩ :: s.twin.frameRecords).take 8 } ∧
      t.out = [.mirror 0x01 0 (leOctets 4 m.mseq)] ∧ OnlyChanges [.twin] noRegs s0 t := by
  obtain ⟨he, hsig, hmask⟩ := hfields
  let acked := (begun s dt).acknowledge m.mseq
  let u := acked.modTwin fun t => { t with frameRecords := (⟨e, none, some (sig, mask), false⟩ :: s.twin.frameRecords).take 8 }
  have hother : ∀ x ∈ s.twin.frameRecords, (x.epoch == e) = false := fun x hx => Bool.eq_false_iff.2 (List.any_eq_false.1 hnew x hx)
  have hfind : (acked.twin.frameRecords.find? fun x => x.epoch == e) = none :=
    List.find?_eq_none.2 fun x hx => by simp [hother x hx]
  have hfilter : (acked.twin.frameRecords.filter fun x => x.epoch != e) = s.twin.frameRecords :=
    List.filter_eq_self.2 fun x hx => by simp [bne, hother x hx]
  have hrecorded : acked.recordFrame e (fun r => { r with partner := some (sig, mask) }) = u := by
    rw [State.recordFrame, hfind]
    simp only [State.modTwin, hfilter]
    rfl
  have hdeliver : acked.frameSigMessage m.payload = u := by
    have hepoch : ofLe (m.payload.take 2) = e := ofLe_of_eq (n := 2) (by rw [hpayload]; rfl) he
    have hsigned : ofLe (slice m.payload 2 4) = sig := ofLe_of_eq (n := 4) (by rw [hpayload]; rfl) hsig
    have hmasked : ofLe (slice m.payload 6 8) = mask := ofLe_of_eq (n := 8) (by rw [hpayload]; rfl) hmask
    rw [State.frameSigMessage, hepoch, hsigned, hmasked, hrecorded]
    refine State.judgeFrame_of_partner (r := ⟨e, none, some (sig, mask), false⟩) ?_ rfl
    exact List.find?_cons_of_pos (beq_self_eq_true e)
  exact completes_of_awaited (dt := dt) (u := u) rfl (exec_frameSig ..) ⟨hup, hcheck, hnext, hheld⟩ hdeliver hheld
    ⟨by rw [ended_twin]; rfl, by rw [ended_out]; rfl,
      ((onlyChanges_acknowledge s dt m.mseq (by decide)).modTwin _ (by decide)).ended_quiet hquiet⟩

theorem dictWrite_waits (dt dseq ta index sub session : Nat) (value : List Octet) (m : MirMessage) (s : State) (hquiet : Quiet s)
    (hup : s.reg .TWN_MIR_STATE = 2) (hcheck : m.checkOk = true) (hnext : m.mseq = s.twin.rxSeq) (hheld : s.twin.held = [])
    (hfields : dseq < 2 ^ 32 ∧ ta < 2 ^ 64 ∧ index < 65536 ∧ sub < 256 ∧ session < 65536) (hvalue : value ≠ [])
    (hpayload : m.payload = leOctets 4 dseq ++ leOctets 8 ta ++ leOctets 2 index ++ leOctets 1 sub ++ leOctets 2 session ++ leOctets 1 0 ++ value)
    (hforwards : s.twin.forwards = []) :
    Completes (.dictWrite dt m) s fun s0 t =>
      t.twin = { s.twin with
        rxSeq := nextMseq m.mseq, lastDseq := dseq, writes := s.twin.writes ++ [⟨dseq, ta, index, sub, session, 0, value, false⟩],
        bulk := s.twin.bulk.filter fun q => q.1 != 128 + 256 } ∧
      t.out = [.mirror 0x01 0 (leOctets 4 m.mseq)] ∧ OnlyChanges [.twin] noRegs s0 t := by
  obtain ⟨hdseq, hta, hindex, hsub, hsession⟩ := hfields
  let acked := (begun s dt).acknowledge m.mseq
  let u := acked.modTwin fun t => { t with
    writes := t.writes ++ [⟨dseq, ta, index, sub, session, 0, value, false⟩], bulk := t.bulk.filter fun q => q.1 != 128 + 256, lastDseq := dseq }
  have hforwards' : acked.twin.forwards = [] := hforwards
  have hdrop : m.payload.drop 18 = value := by rw [hpayload]; rfl
  have hdeliver : acked.dictWriteMessage m.payload = u := by
    have hd : ofLe (m.payload.take 4) = dseq := ofLe_of_eq (n := 4) (by rw [hpayload]; rfl) hdseq
    have ht : ofLe (slice m.payload 4 8) = ta := ofLe_of_eq (n := 8) (by rw [hpayload]; rfl) hta
    have hi : ofLe (slice m.payload 12 2) = index := ofLe_of_eq (n := 2) (by rw [hpayload]; rfl) hindex
    have hs : ofLe (slice m.payload 14 1) = sub := ofLe_of_eq (n := 1) (by rw [hpayload]; rfl) hsub
    have hn : ofLe (slice m.payload 15 2) = session := ofLe_of_eq (n := 2) (by rw [hpayload]; rfl) hsession
    have hz : ofLe (slice m.payload 17 1) = 0 := ofLe_of_eq (n := 1) (by rw [hpayload]; rfl) (by decide)
    unfold State.dictWriteMessage
    simp only [hdrop, if_neg hvalue, hforwards', hd, ht, hi, hs, hn, hz]
    rfl
  exact completes_of_awaited (dt := dt) (u := u) rfl (exec_dictWrite ..) ⟨hup, hcheck, hnext, hheld⟩ hdeliver hheld
    ⟨by rw [ended_twin]; rfl, by rw [ended_out]; rfl,
      ((onlyChanges_acknowledge s dt m.mseq (by decide)).modTwin _ (by decide)).ended_quiet hquiet⟩

/-- The sequence a write without bulk data is put in: the next DSEQ, its apply time and DICT_WRITE (R449). -/
def sequenced (s : State) (session : Nat) (value : List Octet) : State :=
  s.modTwin fun t => { t with
    txSeq := nextMseq s.twin.txSeq, lastDseq := (s.twin.lastDseq + 1) % 2 ^ 32,
    writes := t.writes ++ [⟨(s.twin.lastDseq + 1) % 2 ^ 32, s.applyTime, 0x9002, 0, session, 0, value, false⟩],
    sent := t.sent ++ [⟨0x30, s.twin.txSeq, dictWriteOctets ((s.twin.lastDseq + 1) % 2 ^ 32) s.applyTime session value, s.ticks, 0⟩] }

theorem sequenced_twin (s : State) (session : Nat) (value : List Octet) :
    (sequenced s session value).twin.held = s.twin.held ∧ (sequenced s session value).twin.lastDseq = (s.twin.lastDseq + 1) % 2 ^ 32 ∧
      (sequenced s session value).twin.writes =
        s.twin.writes ++ [⟨(s.twin.lastDseq + 1) % 2 ^ 32, s.applyTime, 0x9002, 0, session, 0, value, false⟩] := by
  rw [sequenced, State.modTwin_twin]
  exact ⟨rfl, rfl, rfl⟩

theorem putInSequence_short {s : State} (session : Nat) {value : List Octet} (hup : s.reg .TWN_MIR_STATE = 2) (hshort : value.length ≤ 4046) :
    s.putInSequence false false 0x9002 0 session value = (sequenced s session value).emit
      (.mirror 0x30 s.twin.txSeq (dictWriteOctets ((s.twin.lastDseq + 1) % 2 ^ 32) s.applyTime session value)) := by
  have hbig : (false || Nat.blt 4046 value.length) = false := Bool.eq_false_iff.2 fun h => absurd (Nat.blt_eq.mp h) (Nat.not_lt.2 hshort)
  unfold State.putInSequence
  simp only [hbig]
  exact State.sendMirror_of_acked _ hup (by decide)

theorem dictForward_sequences (dt v session : Nat) (m : MirMessage) (s : State) (hquiet : Quiet s) (hup : s.reg .TWN_MIR_STATE = 2)
    (hcheck : m.checkOk = true) (hnext : m.mseq = s.twin.rxSeq) (hheld : s.twin.held = []) (hactive : s.reg .TWN_STATE = 5)
    (hfields : 1000 ≤ v ∧ v ≤ 16000 ∧ session < 65536)
    (hpayload : m.payload = leOctets 2 0x9002 ++ leOctets 1 0 ++ leOctets 2 session ++ (leOctets 2 v)) :
    Completes (.dictForward dt m) s fun s0 t => t.twin.lastDseq = (s.twin.lastDseq + 1) % 2 ^ 32 ∧
      t.twin.writes = s.twin.writes ++ [⟨(s.twin.lastDseq + 1) % 2 ^ 32, s0.applyTime, 0x9002, 0, session, 0, (leOctets 2 v), false⟩] ∧
      t.out = [.mirror 0x01 0 (leOctets 4 m.mseq), .mirror 0x30 s.twin.txSeq (leOctets 4 ((s.twin.lastDseq + 1) % 2 ^ 32) ++
        leOctets 8 s0.applyTime ++ leOctets 2 0x9002 ++ leOctets 1 0 ++ leOctets 2 session ++ leOctets 1 0 ++ (leOctets 2 v))] ∧
      OnlyChanges [.twin] noRegs s0 t := by
  obtain ⟨hlow, hhigh, hsession⟩ := hfields
  let acked := (begun s dt).acknowledge m.mseq
  let apart := acked.withOut []
  let written := dictWriteOctets ((s.twin.lastDseq + 1) % 2 ^ 32) apart.applyTime session (leOctets 2 v)
  let u := (sequenced apart session (leOctets 2 v)).withOut (acked.out ++ [.mirror 0x30 s.twin.txSeq written])
  obtain ⟨hkept, hdseq, hwrites⟩ := sequenced_twin apart session (leOctets 2 v)
  have htime : apart.applyTime = (s.elapse dt).applyTime := (acked.applyTime_withOut []).trans (acknowledge_applyTime s dt m.mseq)
  have hsequence : apart.sequenceWrite false false 0xFFFF 0x9002 0 session (leOctets 2 v) =
      ((sequenced apart session (leOctets 2 v)).emit (.mirror 0x30 s.twin.txSeq written)).reply 1 := by
    have haccepted : (apart.answered fun t => t.applyValue 0xFFFF 0x9002 0 (leOctets 2 v)).1 = 0 := by
      rw [State.answered_of_reply (State.applyValue_totalLimit _ _ hlow hhigh) (State.setReg_out ..)]
    rw [State.sequenceWrite, if_pos haccepted, putInSequence_short (s := apart) (value := leOctets 2 v) session hup (by rw [leOctets_length]; decide)]
    rfl
  have hanswered : (acked.answered fun t => t.sequenceWrite false false 0xFFFF 0x9002 0 session (leOctets 2 v)) = (1, u) :=
    State.answered_of_mirror (f := fun t => t.sequenceWrite false false 0xFFFF 0x9002 0 session (leOctets 2 v))
      (u := sequenced apart session (leOctets 2 v)) hsequence rfl
  have hdeliver : acked.dictForwardMessage m.payload = u := by
    have hindex : ofLe (m.payload.take 2) = 0x9002 := ofLe_of_eq (n := 2) (by rw [hpayload]; rfl) (by decide)
    have hsub : ofLe (slice m.payload 2 1) = 0 := ofLe_of_eq (n := 1) (by rw [hpayload]; rfl) (by decide)
    have hnumber : ofLe (slice m.payload 3 2) = session := ofLe_of_eq (n := 2) (by rw [hpayload]; rfl) hsession
    have hvalue : m.payload.drop 5 = leOctets 2 v := by rw [hpayload]; rfl
    have hsome : decide (leOctets 2 v = []) = false := rfl
    have hactive' : ¬acked.reg .TWN_STATE ≠ 5 := fun h => h hactive
    unfold State.dictForwardMessage
    simp only [hindex, hsub, hnumber, hvalue, hsome, Bool.false_and, Bool.false_eq_true, if_false, if_neg hactive']
    rw [hanswered]
    rfl
  refine completes_of_awaited (dt := dt) (u := u) rfl (exec_dictForward ..) ⟨hup, hcheck, hnext, hheld⟩ hdeliver (hkept.trans hheld) ⟨?_, ?_, ?_, ?_⟩
  · rw [ended_twin, State.withOut_twin, hdseq]; rfl
  · rw [ended_twin, State.withOut_twin, hwrites, htime]; rfl
  · rw [ended_out, State.withOut_out, State.acknowledge_out, ← htime]; rfl
  · have hacked : OnlyChanges [.twin] noRegs (s.elapse dt) acked := onlyChanges_acknowledge s dt m.mseq (by decide)
    have hchanges : OnlyChanges [.twin] noRegs (s.elapse dt) (sequenced apart session (leOctets 2 v)) :=
      (hacked.withOut []).modTwin _ (by decide)
    exact (hchanges.withOut _).ended_quiet (by rw [Quiet, State.withOut_drum, sequenced, State.modTwin_drum]; exact hquiet)

theorem dictStatus_endsForward (dt status : Nat) (f : MirForward) (rest : List MirForward) (m : MirMessage) (s : State) (hquiet : Quiet s)
    (hup : s.reg .TWN_MIR_STATE = 2) (hcheck : m.checkOk = true) (hnext : m.mseq = s.twin.rxSeq) (hheld : s.twin.held = [])
    (hforwards : s.twin.forwards = f :: rest) (hgone : s.session f.session = none) (_hstatus : status < 256)
    (hpayload : m.payload = leOctets 4 0 ++ leOctets 1 status) :
    Completes (.dictStatus dt m) s fun s0 t => t.twin = { s.twin with rxSeq := nextMseq m.mseq, forwards := rest } ∧
      t.out = [.mirror 0x01 0 (leOctets 4 m.mseq)] ∧ OnlyChanges [.twin] noRegs s0 t := by
  let acked := (begun s dt).acknowledge m.mseq
  let u := acked.modTwin fun t => { t with forwards := rest }
  have hdeliver : acked.dictStatusMessage m.payload = u := by
    have hdseq : ofLe (m.payload.take 4) = 0 := ofLe_of_eq (n := 4) (by rw [hpayload]; rfl) (by decide)
    have hforwards' : acked.twin.forwards = f :: rest := hforwards
    rw [State.dictStatusMessage, if_pos hdseq, hforwards']
    exact State.waitDone_of_none (s := u) _ _ _ hgone
  exact completes_of_awaited (dt := dt) (u := u) rfl (exec_dictStatus ..) ⟨hup, hcheck, hnext, hheld⟩ hdeliver hheld
    ⟨by rw [ended_twin]; rfl, by rw [ended_out]; rfl,
      ((onlyChanges_acknowledge s dt m.mseq (by decide)).modTwin _ (by decide)).ended_quiet hquiet⟩

theorem mirrorWriteApply_appliesTotalLimit (dt v : Nat) (w : MirWrite) (rest : List MirWrite) (s : State) (hactive : s.reg .TWN_STATE = 5)
    (hwrites : s.twin.writes = w :: rest) (hdue : w.ta ≤ (s.elapse dt).now) (hentry : w.index = 0x9002 ∧ w.sub = 0 ∧ w.mine = false)
    (hvalue : w.value = (leOctets 2 v)) (hrange : 1000 ≤ v ∧ v ≤ 16000) :
    Completes (.mirrorWriteApply dt) s fun s0 t => t.reg .LAN_TOTAL_LIMIT = v ∧ t.reg .TWN_DSEQ = w.dseq % 2 ^ dictBits .TWN_DSEQ ∧
      t.reg .TWNCNT_DICT_MIRRORED = (s.reg .TWNCNT_DICT_MIRRORED + 1) % 2 ^ 32 ∧ t.twin = { s.twin with writes := rest } ∧ t.out = [] ∧
      OnlyChanges [.twin, .drum, .log] (andDrum (among [.LAN_TOTAL_LIMIT, .TWN_DSEQ, .TWNCNT_DICT_MIRRORED])) s0 t := by
  obtain ⟨hindex, hsub, hmine⟩ := hentry
  obtain ⟨hlow, hhigh⟩ := hrange
  let taken := (begun s dt).modTwin fun t => { t with writes := rest }
  let limited := taken.setReg .LAN_TOTAL_LIMIT v
  let u := (limited.count .TWNCNT_DICT_MIRRORED).setReg .TWN_DSEQ w.dseq
  have hchanges : OnlyChanges [.twin, .drum, .log] (among [.LAN_TOTAL_LIMIT, .TWN_DSEQ, .TWNCNT_DICT_MIRRORED]) (s.elapse dt) u :=
    ((((onlyChanges_begun s dt).modTwin _ (by decide)).setReg _ _ (by decide) (by decide)).count _ _ (by decide) (by decide) (by decide)).setReg _ _
      (by decide) (by decide)
  have happlied : (taken.answered fun t => t.applyValue 0xFFFF w.index w.sub w.value) = (0, limited) := by
    rw [hindex, hsub, hvalue, State.answered_of_reply (State.applyValue_totalLimit _ _ hlow hhigh) (State.setReg_out ..)]
    exact Prod.ext rfl (taken.setReg_withOut _ _ _)
  have hmirrored : taken.applyMirrored w = u := by
    unfold State.applyMirrored
    rw [happlied]
    have hactive' : taken.reg .TWN_STATE = 5 := hactive
    simp only [hactive', if_true, hmine, Bool.false_eq_true, if_false]
    rfl
  refine completes_of_effect (dt := dt) (u := u) rfl (exec_mirrorWriteApply ..) ?_ ⟨?_, ?_, ?_, ?_, ?_, hchanges.ended (by decide) (by decide)⟩
  · have hwrites' : (begun s dt).twin.writes = w :: rest := hwrites
    rw [hwrites']
    exact (if_pos hdue).trans hmirrored
  · rw [ended_reg _ _ _ _ (by decide) (by decide), State.reg_setReg_key _ _ _ _ (by decide),
      State.reg_count_other _ _ _ _ (by decide) (by decide), State.reg_setReg_same _ _ _ (by decide)]
    exact Nat.mod_eq_of_lt (Nat.lt_of_le_of_lt hhigh (by decide))
  · rw [ended_reg _ _ _ _ (by decide) (by decide), State.reg_setReg_same _ _ _ (by decide)]
  · rw [ended_reg _ _ _ _ (by decide) (by decide), State.reg_setReg_key _ _ _ _ (by decide),
      State.reg_count_same _ _ _ (by decide) (by decide), State.reg_setReg_key _ _ _ _ (by decide)]
    rfl
  · rw [ended_twin, State.setReg_twin, State.count_twin, State.setReg_twin]; rfl
  · rw [ended_out, State.setReg_out, State.count_out, State.setReg_out]; rfl

theorem railCode_row {g : Nat} (hg : g < 16) : dictBits (.LAN_RAIL_CODE g) = 8 ∧ drumRegs (.LAN_RAIL_CODE g) = false := by
  have hall : ((List.range 16).all fun g => dictBits (.LAN_RAIL_CODE g) == 8 && drumRegs (.LAN_RAIL_CODE g) == false) = true := by decide +kernel
  simpa only [Bool.and_eq_true, beq_iff_eq] using List.all_eq_true.1 hall g (List.mem_range.2 hg)

theorem statePush_takesRailCode (dt g code : Nat) (m : MirMessage) (s : State) (hquiet : Quiet s) (hup : s.reg .TWN_MIR_STATE = 2)
    (hcheck : m.checkOk = true) (hnext : m.mseq = s.twin.rxSeq) (hheld : s.twin.held = []) (hfields : g < 16 ∧ code < 256)
    (hpayload : m.payload = [3, BitVec.ofNat 8 g, BitVec.ofNat 8 code]) (hfirst : s.twin.pushed.contains (3, g, m.sent) = false)
    (hoff : s.lantern.tiedOn = false) (htied : s.flag (.LAN_RAIL_TIED g) = true) :
    Completes (.statePush dt m) s fun s0 t => t.reg (.LAN_RAIL_CODE g) = code ∧ t.twin = { s.twin with rxSeq := nextMseq m.mseq } ∧
      t.out = [.mirror 0x01 0 (leOctets 4 m.mseq)] ∧ OnlyChanges [.twin] (among [.LAN_RAIL_CODE g]) s0 t := by
  obtain ⟨hg, hcode⟩ := hfields
  let acked := (begun s dt).acknowledge m.mseq
  let u := acked.setReg (.LAN_RAIL_CODE g) code
  obtain ⟨hbits, hdrum⟩ := railCode_row hg
  have hdeliver : acked.pushMessage m = u := by
    have hitem : ofLe (m.payload.take 1) = 3 := by rw [hpayload]; rfl
    have hkey : ofLe (slice m.payload 1 1) = g := by rw [hpayload]; exact ofLe_of_eq (n := 1) (by simp [slice, leOctets]) (by omega)
    have hdata : ofLe ((m.payload.drop 2).take 1) = code := by rw [hpayload]; exact ofLe_of_eq (n := 1) (by simp [leOctets]) hcode
    have hfirst' : ¬acked.twin.pushed.contains (3, g, m.sent) = true := Bool.eq_false_iff.1 hfirst
    have htaken : ¬(acked.lantern.tiedOn = true ∨ acked.flag (.LAN_RAIL_TIED g) = false ∨ 16 ≤ g) := by
      rintro (h | h | h)
      · exact Bool.false_ne_true (hoff.symm.trans h)
      · exact Bool.false_ne_true (h.symm.trans htied)
      · omega
    unfold State.pushMessage
    simp only [hitem, hkey]
    rw [if_neg hfirst', State.usePush, if_neg (by decide), if_neg htaken, if_neg (by decide), if_pos rfl, hdata]
  refine completes_of_awaited (dt := dt) (u := u) rfl (exec_statePush ..) ⟨hup, hcheck, hnext, hheld⟩ hdeliver
    (by rw [State.setReg_twin]; exact hheld) ⟨?_, ?_, ?_, ?_⟩
  · rw [ended_reg _ _ _ _ (by simp [Reg.LAN_RAIL_CODE]) hdrum, State.reg_setReg_same _ _ _ (by rw [hbits]; decide), hbits]
    exact Nat.mod_eq_of_lt hcode
  · rw [ended_twin, State.setReg_twin]; rfl
  · rw [ended_out, State.setReg_out]; rfl
  · exact ((onlyChanges_acknowledge s dt m.mseq (by decide)).setReg _ _ (by simp [Reg.LAN_RAIL_CODE]) (among_iff.2 (List.mem_singleton_self _))).ended_quiet
      (by rw [Quiet, State.setReg_drum]; exact hquiet)

theorem mirrorBulk_beginsObject (dt object : Nat) (data : List Octet) (m : MirMessage) (s : State) (hquiet : Quiet s)
    (hup : s.reg .TWN_MIR_STATE = 2) (hcheck : m.checkOk = true) (hnext : m.mseq = s.twin.rxSeq) (hheld : s.twin.held = [])
    (hobject : object < 256 ∧ data ≠ []) (hpayload : m.payload = leOctets 1 object ++ leOctets 4 0 ++ data) (hempty : s.twin.bulk = []) :
    Completes (.mirrorBulk dt m) s fun s0 t => t.twin = { s.twin with rxSeq := nextMseq m.mseq, bulk := [(object, data)] } ∧
      t.out = [.mirror 0x01 0 (leOctets 4 m.mseq)] ∧ OnlyChanges [.twin] noRegs s0 t := by
  obtain ⟨hsmall, hdata⟩ := hobject
  let acked := (begun s dt).acknowledge m.mseq
  let u := acked.modTwin fun t => { t with bulk := [(object, data)] }
  have hdeliver : acked.bulkMessage m.payload = u := by
    have hnumber : ofLe (m.payload.take 1) = object := ofLe_of_eq (n := 1) (by rw [hpayload]; rfl) hsmall
    have hstart : ofLe (slice m.payload 1 4) = 0 := ofLe_of_eq (n := 4) (by rw [hpayload]; rfl) (by decide)
    have hpiece : m.payload.drop 5 = data := by rw [hpayload]; rfl
    have hempty' : acked.twin.bulk = [] := hempty
    unfold State.bulkMessage
    simp only [hnumber, hstart, hpiece, hempty', if_neg hdata, List.find?_nil, List.filter_nil]
    rfl
  exact completes_of_awaited (dt := dt) (u := u) rfl (exec_mirrorBulk ..) ⟨hup, hcheck, hnext, hheld⟩ hdeliver hheld
    ⟨by rw [ended_twin]; rfl, by rw [ended_out]; rfl,
      ((onlyChanges_acknowledge s dt m.mseq (by decide)).modTwin _ (by decide)).ended_quiet hquiet⟩

/-- Settles O44, command by command. A message in order is taken by `completes_of_awaited`, and its fields are read by `ofLe_of_eq`. -/
theorem mirroredWritesAndRecords : Obligations.MirroredWritesAndRecords :=
  ⟨linkSig_recordsPartner, frameSig_recordsPartner, dictWrite_waits, dictForward_sequences, dictStatus_endsForward,
    mirrorWriteApply_appliesTotalLimit, statePush_takesRailCode, mirrorBulk_beginsObject⟩

end Sys2Proof.Proofs
